-- ==== Sys2Proof/Word.lean ====
section
/-! DEFINITION. Bytes and 32-bit words. -/

namespace Sys2Proof

/-- One byte of a message, of a memory or of an image. -/
abbrev Byte := BitVec 8

/-- One 32-bit word of a section or of a status block. -/
abbrev Word := BitVec 32

end Sys2Proof
end

