-- ==== Sys2Proof/Syntax.lean ====
section
/-! DEFINITION. The commands the engine takes: one constructor of Instr for each row of the operation table, with
the operands each carries. Operands hold what the environment sends, or what only the environment can decide
(a lock, a signature's verdict, a drive's data). -/

namespace Sys2Proof

/-- A control client: the UART, the endpoint's host, or one IPv4 address and UDP port (ch. 19). -/
inductive Client where
  | uart
  | endpoint
  | eth (addr port : Nat)
  deriving DecidableEq, Repr

/-- The parts of a request's header the engine uses: who sent it, and its SEQ (Table 19.2). -/
structure MsgHdr where
  client : Client
  seq : Nat
  deriving DecidableEq, Repr

/-- The target block of Table 19.5. -/
structure Target where
  target : Nat
  asap : Bool
  port : Nat
  phaseMask : Nat
  deriving DecidableEq, Repr

/-- One entry of a LUT_LOAD request: SLOT, SOURCE (0 active slot, 1 NS5 file, 2 clear) and PATH (Table 19.7). -/
structure LutEntry where
  slot : Nat
  source : Nat
  path : List Byte
  deriving DecidableEq, Repr

/-- How a control message is damaged (R461). -/
inductive BadKind where
  | uartFraming   -- CRC failure on the UART
  | crc           -- not exactly one message, or its CRC fails, on Ethernet or the endpoint
  | malformed     -- wrong VERSION, FLAGS, LENGTH, reserved field or encoding
  | unknownType
  deriving DecidableEq, Repr

/-- The pins of the auxiliary camera port at one edge of AUX_PCLK: AUX_DE, AUX_HS and AUX_D. -/
structure AuxPins where
  de : Bool
  hs : Bool
  d : Nat
  deriving DecidableEq, Repr

/-- An edge of AUX_VS: its instant, and the level of the pin after it. -/
structure VsEdge where
  at_ : Nat
  level : Bool
  deriving DecidableEq, Repr

/-- One clock of AUX_PCLK: the pins at its rising and at its falling edge. -/
structure AuxClk where
  rise : AuxPins
  fall : AuxPins
  deriving DecidableEq, Repr

/-- What is wrong with a block of the Hyern stream (rows 1, 2, 5 and 6 of Table 4.5, and R65). -/
inductive SopErr where
  | badHchk
  | badPtype
  | cutPacket
  | strayData
  | unknownBlock   -- a control block whose type is not of Table 4.2, outside a packet
  deriving DecidableEq, Repr

/-- A calibration table's file on NS5 as CAL_COMMIT takes it (R483): which table (0 DEFECT SP0, 1 DEFECT SP1, 2 mesh SP0,
3 mesh SP1, 4 crosstalk, 5 TNR_THR) and the bytes of the file. -/
structure CalFile where
  which : Nat
  bytes : List Byte
  deriving DecidableEq, Repr

/-- A LUT file on NS5 that a LUT load names for a slot (R176, R180), as firmware finds it: its bytes. -/
structure LutFile where
  slot : Nat
  bytes : List Byte
  deriving DecidableEq, Repr

/-- Prediction of a coding unit (R225, R235): intra; inter from ref_idx ref with a vector in quarter samples; skip with merge index 0;
and the DC intra form at QP 51 without residual. -/
inductive CuPred where
  | intra
  | inter (ref : Nat) (mvx mvy : Int)
  | skip
  | greyDc
  deriving DecidableEq, Repr

/-- One coding unit: its place in the picture and its size, in luma samples, and its prediction. -/
structure HevcCu where
  x : Nat
  y : Nat
  size : Nat
  pred : CuPred
  deriving DecidableEq, Repr

/-- One candidate coding of a CTU that the search of R225 weighs: its SATD plus lambda times its estimated bits at the row's QP, the
bytes it codes to, and its coding units. -/
structure HevcCand where
  cost : Nat
  bytes : Nat
  cus : List HevcCu
  deriving DecidableEq, Repr

/-- One H.265 access unit as the standard reads it: what R228 and R238 to R243 ask of it. -/
structure AccessUnit where
  num : Nat             -- its picture's number in the clip it is read from
  idr : Bool            -- IDR picture
  irap : Bool           -- random access point
  rasl : Bool           -- leading picture skipped after a random access point
  poc : Int
  negPocs : List Int    -- POCs of the reference picture set, kept
  curPocs : List Int    -- POCs of it the picture itself refers to
  longTerm : List Int
  profileOk : Bool      -- profile, tier and level of the SPS are those of R239
  width : Nat           -- size of the SPS, 0 4:2:0 or 1 4:2:2, and bit depth
  height : Nat
  c422 : Bool
  depth : Nat
  ctb : Nat             -- CTB size, in luma samples
  dpbNeed : Nat         -- picture buffers the SPS asks for
  reorder : Nat         -- sps_max_num_reorder_pics
  nalErrs : Nat         -- NAL units with forbidden_zero_bit set or of a reserved type
  sliceErrs : Nat       -- slice segments in error, and runs of CTUs that no segment covers
  hashOk : Option Bool  -- picture hash, when one is present
  recovery : Option Nat -- recovery point SEI: its POC count
  pts : Nat             -- output order key of the container, in ticks
  samples : List (List (List Nat)) -- Y, Cb and Cr as its undamaged syntax decodes
  lost : List Nat       -- CTUs to be concealed, in raster order
  poison : List Nat     -- CTUs whose reference read met poison, in raster order
  deriving DecidableEq, Repr

/-- An access unit as a network stream brings it, with its RTP time stamp (R334). -/
structure RtpUnit where
  rtp : Nat
  au : AccessUnit
  deriving DecidableEq, Repr

/-- What a drive answers when it is first configured (R246, R250), its lowest active namespace being the one meant. -/
structure DriveInfo where
  present : Bool
  gen : Nat               -- highest generation and widest link it trains to
  width : Nat
  version : Nat           -- NVMe version, as VS gives it
  queues : Nat            -- I/O queue pairs it can grant, and entries of each
  entries : Nat
  mdtsKiB : Nat           -- largest transfer in KiB, 0 without limit
  vwc : Bool
  lbaLog2 : Nat           -- LBA format: data bytes as a power of 2, metadata bytes, end-to-end protection
  lbaMeta : Nat
  lbaProt : Bool
  blocks : Nat
  serial : List Byte
  model : List Byte
  firmware : List Byte
  deriving DecidableEq, Repr

/-- A clip without a FINAL chunk (R274): its name, and its stripe files present, each up to its DataLength. -/
structure OpenClip where
  name : List Byte
  files : List (List Byte)
  deriving DecidableEq, Repr

/-- A clip folder (R254, R257): letter, reel, device and clip number of its name. -/
structure ClipFolder where
  letter : Nat
  reel : Nat
  device : Nat
  clip : Nat
  deriving DecidableEq, Repr

/-- An exFAT volume as a mount finds it (R251). -/
structure VolInfo where
  start : Nat             -- first byte and bytes of its partition
  size : Nat
  revision : Nat          -- 0x0100 is 1.00
  bootOk : Bool           -- its main boot region checksum is correct
  clusterLog2 : Nat       -- bytes of a cluster, as a power of 2
  heapStart : Nat         -- byte of the volume at which its cluster heap starts
  label : List Byte
  deriving DecidableEq, Repr

/-- What mounting a drive finds (R251, R253, R257, R274): whether it has a GPT or MBR table, the exFAT volume in the first
partition of that table, the one at LBA 0, its QUAL.BIN, its free bytes, its unclosed clips, and its clip folders. -/
structure MountInfo where
  table : Bool
  inTable : Option VolInfo
  atStart : Option VolInfo
  qual : Option (List Byte)
  free : Nat
  open_ : List OpenClip
  folders : List ClipFolder
  deriving DecidableEq, Repr

/-- A volume as it is read at a record start or a play (R251). -/
structure VolNow where
  port : Fin 4
  free : Nat
  folders : List ClipFolder
  deriving DecidableEq, Repr

/-- An operand of a request together with the volumes as firmware reads them when the request comes (R251). -/
structure WithVols (α : Type) where
  val : α
  vols : List VolNow
  deriving DecidableEq, Repr

/-- What is known of a picture offered to a head (R312 to R314). -/
structure SourcePic where
  cfn : Nat
  phase : Nat
  width : Nat
  height : Nat
  lateLines : List (Nat × Nat) -- first and last line of each run of lines that the first output frame to meet the picture reads before they are written
  flags : Nat
  crcLines : Nat               -- lines of an SDI input's picture with a CRC error
  samples : List (List (List Nat)) -- Y, Cb and Cr of an SDI input's picture
  deriving DecidableEq, Repr

/-- An Announce message (R363, R365). -/
structure Announce where
  master : Nat
  gm : Nat
  priority1 : Nat
  clockClass : Nat
  accuracy : Nat
  variance : Nat
  priority2 : Nat
  steps : Nat
  utcOffset : Int
  utcValid : Bool
  traceable : Bool
  logInterval : Int     -- logMessageInterval
  deriving DecidableEq, Repr

/-- A clock source of Table 15.1, in the order of SELECTED. -/
inductive ClkSrc where
  | tcxo
  | refin
  | ptp
  deriving DecidableEq, Repr

/-- What the boot ROM finds in a slot's firmware blob, whose layout and key are Slanan's (R440): its signature, and its build. -/
structure SlotVerdict where
  slananOk : Bool
  fwBuild : Nat
  deriving DecidableEq, Repr

/-- What reaches a network port's own address without being a message, a packet of a stream or of time (R327, R458). -/
inductive NetIn where
  | arp                                      -- an ARP request
  | echo                                     -- an ICMP echo request
  | fragment (id : Nat) (completes : Bool)   -- an IPv4 fragment of a control datagram; the datagram is whole with it
  deriving DecidableEq, Repr

/-- What reaches a receive lane and its elastic buffer, in order (R48, R54): a unit of the recovered stream, a filler unit of Table
3.5 or not, and with a code error or not; one entry taken by the local clock; or bit errors that the PRBS checker finds. -/
inductive LaneUnit where
  | recv (filler bad : Bool)
  | take
  | prbs (errs : Nat)
  deriving DecidableEq, Repr

/-- A receive lane, and what reaches it in order. -/
structure LaneUnits where
  lane : Fin 62
  units : List LaneUnit
  deriving DecidableEq, Repr

/-- How a link has come up: its width in lanes, and for PCI Express its power state (R58): 0 L0, 1 transmit L0s, 2 receive L0s,
3 both, 4 L1. -/
structure LinkForm where
  width : Nat
  pm : Fin 5
  deriving DecidableEq, Repr

/-- A CTU's reads that came back poisoned (R238): of the source picture, of a reference picture. -/
structure CtuPoison where
  source : Bool
  reference : Bool
  deriving DecidableEq, Repr

/-- PC and IEN of CREATE_IO_CQ (NVMe): the queue lies in one piece; it raises interrupts. -/
structure CqFlags where
  pc : Bool
  ien : Bool
  deriving DecidableEq, Repr

/-- SSRC and sequence number of an RTP packet. -/
structure RtpSeq where
  ssrc : Nat
  seq : Nat
  deriving DecidableEq, Repr

/-- The servo whose domain a PTP message belongs to, and the port it comes in or leaves at. -/
structure PtpAt where
  servo : Fin 2
  port : Fin 3
  deriving DecidableEq, Repr

/-- The end of a start-up step (Table 22.1), with the facts the hardware finds in it. -/
inductive StepFacts where
  | rails                                         -- step 1
  | rom (ok : Bool) (flashBytes : Nat)            -- step 2: ROM and SRAM checks, SFDP's device size
  | slots (a b : SlotVerdict)                     -- step 3
  | rootLocked                                    -- step 4
  | dram (failed : List (Fin 32)) (eyes : List Nat) -- step 5: failed ranks, least eye of each rank
  | links (failed : Option Nat)                   -- step 6
  | configured                                    -- step 7
  deriving DecidableEq, Repr


/-- The commands of the engine: one constructor for each row of the operation table. The first operand t of
each is its instant, in ticks of 2^-16 ns since power-up on the engine's own counter; AUX_VS has it with the pin's level. -/
inductive Instr where
  /-- MODE_SET (R17-R19). -/
  | modeSet (t : Nat) (h : MsgHdr) (mode : Nat) (preview : Bool)
  /-- UNIT_RESTART (R22-R26,R38,R450). -/
  | unitRestart (t : Nat) (h : MsgHdr) (unit : Nat)
  /-- FULL_RESTART (R27,R297,R512). -/
  | fullRestart (t : Nat) (h : MsgHdr)
  /-- CLEAR_COUNTERS (R8). -/
  | clearCounters (t : Nat) (h : MsgHdr) (source : Nat)
  /-- LANE_TEST (R55). -/
  | laneTest (t : Nat) (h : MsgHdr) (lane : Nat) (loopback : Nat) (pattern : Nat)
  /-- SUBSCRIBE (R463). -/
  | subscribe (t : Nat) (h : MsgHdr) (mask : Nat) (sev : Nat)
  /-- LAMP_SELECT (R485). -/
  | lampSelect (t : Nat) (h : MsgHdr) (pin : Nat) (probe : Nat)
  /-- SETTINGS (R101). -/
  | settings (t : Nat) (h : MsgHdr) (tg : Target) (groups : Nat) (gain : Nat) (rmode : Nat) (expNs : Nat) (rowOff : Nat) (colOff : Nat)
  /-- WB_ISO (R160,R161). -/
  | wbIso (t : Nat) (h : MsgHdr) (tg : Target) (cct : Nat) (tint : Int) (iso : Nat)
  /-- LUT_SELECT (R178,R179). -/
  | lutSelect (t : Nat) (h : MsgHdr) (tg : Target) (branches : Nat) (slots : List Nat)
  /-- PROFILE_SELECT (R470,R453). -/
  | profileSelect (t : Nat) (h : MsgHdr) (tg : Target) (profile : Nat)
  /-- TNR_STRENGTH (R104). -/
  | tnrStrength (t : Nat) (h : MsgHdr) (tg : Target) (str : Nat)
  /-- LUT_LOAD (R180). -/
  | lutLoad (t : Nat) (h : MsgHdr) (tg : Target) (entries : List LutEntry)
  /-- TABLE_RELOAD (R145-R147). -/
  | tableReload (t : Nat) (h : MsgHdr) (tg : Target) (tables : Nat)
  /-- L1_DRAW (R467,R315). -/
  | l1Draw (t : Nat) (h : MsgHdr) (head : Nat) (commit : Bool) (copy : Bool) (x : Nat) (y : Nat) (w : Nat) (ht : Nat) (pixels : List Nat)
  /-- L2_TEXT (R467). -/
  | l2Text (t : Nat) (h : MsgHdr) (head : Nat) (box : Nat) (visible : Bool) (opq : Bool) (commit : Bool) (glyphSet : Nat) (x : Nat) (y : Nat) (fg : Nat) (bg : Nat) (text : List Nat)
  /-- L3_MARK (R467). -/
  | l3Mark (t : Nat) (h : MsgHdr) (head : Nat) (visible : Bool) (half : Bool) (commit : Bool) (rect : Bool) (item : Nat) (x0 : Nat) (y0 : Nat) (x1 : Nat) (y1 : Nat) (width : Nat) (colour : Nat)
  /-- RECORD_START (R18,R258,R257,R39). -/
  | recordStart (t : Nat) (h : MsgHdr) (tg : WithVols Target)
  /-- RECORD_STOP (R18,R272). -/
  | recordStop (t : Nat) (h : MsgHdr) (tg : Target)
  /-- SET_REEL (R257). -/
  | setReel (t : Nat) (h : MsgHdr) (reel : Nat)
  /-- PLAY (R212,R243,R287). -/
  | play (t : Nat) (h : MsgHdr) (clip : WithVols (List Nat)) (startCfn : Nat) (proxy : Bool) (decode : Nat)
  /-- PLAY_STOP (R212). -/
  | playStop (t : Nat) (h : MsgHdr)
  /-- MEDIA_FORMAT (R252). -/
  | mediaFormat (t : Nat) (h : MsgHdr) (port : Nat)
  /-- MEDIA_QUALIFY (R253). -/
  | mediaQualify (t : Nat) (h : MsgHdr) (port : Nat)
  /-- STATUS (R468,R507). -/
  | status (t : Nat) (h : MsgHdr) (sect : Nat)
  /-- COUNTERS (R539). -/
  | counters (t : Nat) (h : MsgHdr) (source : Nat)
  /-- LOG_READ (R498). -/
  | logRead (t : Nat) (h : MsgHdr) (from_ : Nat) (count : Nat)
  /-- STATS_READ (R151). -/
  | statsRead (t : Nat) (h : MsgHdr) (slot : Nat)
  /-- DEFECT_READ (R131). -/
  | defectRead (t : Nat) (h : MsgHdr) (first : Nat) (count : Nat) (port : Nat)
  /-- OUTPUT_QUERY (R326). -/
  | outputQuery (t : Nat) (h : MsgHdr) (output : Nat)
  /-- STREAM_QUERY (R330,R353). -/
  | streamQuery (t : Nat) (h : MsgHdr) (kind : Nat) (entry : Nat)
  /-- XFER_BEGIN (R471,R436). -/
  | xferBegin (t : Nat) (h : MsgHdr) (total : Nat) (generation : Nat)
  /-- XFER_DATA (R471). -/
  | xferData (t : Nat) (h : MsgHdr) (offset : Nat) (data : List Byte)
  /-- XFER_END (R471). -/
  | xferEnd (t : Nat) (h : MsgHdr) (total : Nat) (crc : Nat)
  /-- XFER_ABORT (R471). -/
  | xferAbort (t : Nat) (h : MsgHdr)
  /-- IMAGE_COMMIT (R448,R472). -/
  | imageCommit (t : Nat) (h : MsgHdr) (slot : Nat)
  /-- KEY_LOAD (R479). -/
  | keyLoad (t : Nat) (h : MsgHdr) (kind : Nat) (keyId : Nat) (value : List Byte) (check : List Byte) (check2 : List Byte)
  /-- KEY_ERASE (R480). -/
  | keyErase (t : Nat) (h : MsgHdr) (mask : Nat)
  /-- LAMP_OPEN (R484). -/
  | lampOpen (t : Nat) (h : MsgHdr)
  /-- TIME_STEP (R369). -/
  | timeStep (t : Nat) (h : MsgHdr) (offsetNs : Int)
  /-- CAL_COMMIT (R483; found = mask of NS5 files present). -/
  | calCommit (t : Nat) (h : MsgHdr) (tables : Nat) (fold : Bool) (found : Nat)
  /-- FACTORY_RESET (R481). -/
  | factoryReset (t : Nat) (h : MsgHdr) (confirm : Nat)
  /-- GATED_CANCEL (R472). -/
  | gatedCancel (t : Nat) (h : MsgHdr)
  /-- TIME_SET (R369). -/
  | timeSet (t : Nat) (h : MsgHdr) (sec : Nat) (ns : Nat) (frac : Nat)
  /-- DOMAIN_SELECT (R371). -/
  | domainSelect (t : Nat) (h : MsgHdr) (domain : Nat)
  /-- ARRAY_RECORD_START (R381,R469). -/
  | arrayRecordStart (t : Nat) (h : MsgHdr) (pfi : Nat) (asap : Bool) (reel : Nat) (clip : WithVols Nat) (arrayId : Nat)
  /-- ARRAY_RECORD_STOP (R381,R469). -/
  | arrayRecordStop (t : Nat) (h : MsgHdr) (pfi : Nat) (asap : Bool) (arrayId : Nat)
  /-- CTRL_BAD_MESSAGE (R461). -/
  | ctrlBadMessage (t : Nat) (c : Client) (kind : BadKind) (type : Nat) (seq : Nat)
  /-- CTRL_DENIED (R458). -/
  | ctrlDenied (t : Nat) (addr : Nat) (port : Nat)
  /-- CTRL_UART_GAP_TIMEOUT (R461). -/
  | ctrlUartGapTimeout (t : Nat)
  /-- FRAGMENT_TIMEOUT (R458). -/
  | fragmentTimeout (t : Nat) (id : Nat)
  /-- SUBSCRIPTION_LAPSE (R463). -/
  | subscriptionLapse (t : Nat) (addr : Nat) (port : Nat)
  /-- XFER_TIMEOUT (R471). -/
  | xferTimeout (t : Nat)
  /-- PRESENCE_PRESS (R475,R472; ksOk = key store read-back of R478). -/
  | presencePress (t : Nat) (ksOk : Bool)
  /-- PRESENCE_DECISION (R475). -/
  | presenceDecision (t : Nat) (ksOk : Bool)
  /-- GATED_EXPIRED (R472). -/
  | gatedExpired (t : Nat)
  /-- SEAL_OPEN (R476). -/
  | sealOpen (t : Nat)
  /-- PROJECT_FRAME_BOUNDARY (R87,R18,R89,R394,R116,R374). -/
  | projectFrameBoundary (t : Nat)
  /-- AUTO_PREVIEW (R511). -/
  | autoPreview (t : Nat)
  /-- CAPTURE_SLOT_START (R87,R111,R145,R181). -/
  | captureSlotStart (t : Nat)
  /-- XTRIG (R90). -/
  | xtrig (t : Nat) (p : Fin 2)
  /-- WRITE_WINDOW_START (R101). -/
  | writeWindowStart (t : Nat) (p : Fin 2)
  /-- SENSOR_WRITE_DONE (R103,R97). -/
  | sensorWriteDone (t : Nat) (p : Fin 2) (ok : Bool) (room : Bool)
  /-- WRITE_LIST_DEADLINE (R102). -/
  | writeListDeadline (t : Nat) (p : Fin 2) (complete : Bool)
  /-- MATRIX_DEADLINE (R161). -/
  | matrixDeadline (t : Nat) (p : Fin 2) (ready : Bool)
  /-- SELECTION_DEADLINE (R453). -/
  | selectionDeadline (t : Nat) (ready : Bool)
  /-- TABLE_RELOAD_DEADLINE (R146). -/
  | tableReloadDeadline (t : Nat)
  /-- LUT_LOAD_DEADLINE (R181). -/
  | lutLoadDeadline (t : Nat)
  /-- LAYER_CHANGE_DEADLINE (R317). -/
  | layerChangeDeadline (t : Nat) (hd : Fin 4) (ready : Bool)
  /-- METADATA_DEADLINE (R454). -/
  | metadataDeadline (t : Nat) (p : Fin 2) (ready : Bool)
  /-- SERVO_UPDATE_DEADLINE (R367). -/
  | servoUpdateDeadline (t : Nat)
  /-- SENSOR_RESET_DONE (R77,R97). -/
  | sensorResetDone (t : Nat) (p : Fin 2) (initOk : Bool)
  /-- HYERN_TRAIN_TIMEOUT (R78). -/
  | hyernTrainTimeout (t : Nat) (p : Fin 2)
  /-- HYERN_ALIGN (R69,R77,R78,R80). -/
  | hyernAlign (t : Nat) (p : Fin 2) (seqs : List Nat) (sameRow : Bool) (blocks : List Nat) (skew : Nat) (tsLog2 : Nat)
  /-- HYERN_SENSOR_RESET (R79). -/
  | hyernSensorReset (t : Nat) (p : Fin 2)
  /-- HYERN_SOP_ERROR (R80). -/
  | hyernSopError (t : Nat) (p : Fin 2) (kind : SopErr)
  /-- HYERN_FS (R83,R107). -/
  | hyernFs (t : Nat) (p : Fin 2) (sop : BitVec 56) (payload : List Byte) (crc : BitVec 32)
  /-- HYERN_LS (R82). -/
  | hyernLs (t : Nat) (p : Fin 2) (sop : BitVec 56) (crc : BitVec 32)
  /-- HYERN_PIX (R74,R80). -/
  | hyernPix (t : Nat) (p : Fin 2) (sop : BitVec 56) (payload : List Byte) (crc : BitVec 32)
  /-- HYERN_EMB (R105). -/
  | hyernEmb (t : Nat) (p : Fin 2) (sop : BitVec 56) (payload : List Byte) (crc : BitVec 32)
  /-- HYERN_LE (R82). -/
  | hyernLe (t : Nat) (p : Fin 2) (sop : BitVec 56) (crc : BitVec 32)
  /-- HYERN_FE (R83). -/
  | hyernFe (t : Nat) (p : Fin 2) (sop : BitVec 56) (payload : List Byte) (crc : BitVec 32)
  /-- FRAME_END_DEADLINE (R107,R108). -/
  | frameEndDeadline (t : Nat) (p : Fin 2)
  /-- PHASE_IN_STROBE (R112,R113). -/
  | phaseInStrobe (t : Nat) (code : Nat)
  /-- PHASE_IN_MISS (R112). -/
  | phaseInMiss (t : Nat)
  /-- AUX_VS (R115). -/
  | auxVs (t : VsEdge)
  /-- AUX_FRAME_END (R115). -/
  | auxFrameEnd (t : Nat) (clocks : List AuxClk)
  /-- AUX_LOSS (R116). -/
  | auxLoss (t : Nat)
  /-- STATS_RECORD_DONE (R150). -/
  | statsRecordDone (t : Nat) (src : Fin 3)
  /-- TABLE_LOAD_DONE (R145). -/
  | tableLoadDone (t : Nat) (defects : List CalFile) (others : List CalFile)
  /-- LUT_LOAD_DONE (R181). -/
  | lutLoadDone (t : Nat) (files : List LutFile)
  /-- FSR_BAND_DECIDE (R205). -/
  | fsrBandDecide (t : Nat) (st : Fin 8) (band : Nat)
  /-- FSR_TILE_CODED (R190-R209). -/
  | fsrTileCoded (t : Nat) (st : Fin 8) (col : Nat) (band : Nat) (engine : Fin 32) (errs1 : List (Nat × Byte)) (errs2 : List (Nat × Byte))
  /-- FSR_TILE_LATE (R210). -/
  | fsrTileLate (t : Nat) (st : Fin 8) (col : Nat) (band : Nat)
  /-- FSR_PICTURE_COMPLETE (R203,R13,R259). -/
  | fsrPictureComplete (t : Nat) (st : Fin 8)
  /-- FSR_DECODE_PICTURE (R211,R212). -/
  | fsrDecodePicture (t : Nat) (st : Fin 8) (bytes : List Byte) (record : List Byte) (audio : List (List (Nat × Bool)))
  /-- HEVC_SOURCE_FRAME (R237,R219,R222). -/
  | hevcSourceFrame (t : Nat) (st : Fin 8)
  /-- HEVC_ROW_START (R234). -/
  | hevcRowStart (t : Nat) (st : Fin 8) (params : Nat) (sei : Nat) (slice : Nat)
  /-- HEVC_CTU_CODE (R225,R230,R235,R238). -/
  | hevcCtuCode (t : Nat) (st : Fin 8) (row : Nat) (cands : List HevcCand) (poison : CtuPoison)
  /-- HEVC_PICTURE_COMPLETE (R232,R227). -/
  | hevcPictureComplete (t : Nat) (st : Fin 8)
  /-- HEVC_ACCESS_UNIT_RX (R334). -/
  | hevcAccessUnitRx (t : Nat) (d : Fin 4) (au : RtpUnit)
  /-- HEVC_DECODE_PICTURE (R228,R239-R242). -/
  | hevcDecodePicture (t : Nat) (d : Fin 4) (au : AccessUnit)
  /-- HEVC_DECODE_LATE (R242). -/
  | hevcDecodeLate (t : Nat) (d : Fin 4)
  /-- MEDIA_INSERT (R250,R246). -/
  | mediaInsert (t : Nat) (m : Fin 4) (info : DriveInfo)
  /-- MEDIA_REMOVE (R250). -/
  | mediaRemove (t : Nat) (m : Fin 4)
  /-- MEDIA_MOUNT (R251,R274). -/
  | mediaMount (t : Nat) (m : Fin 4) (info : MountInfo)
  /-- MEDIA_CMD_COMPLETE (R249). -/
  | mediaCmdComplete (t : Nat) (m : Fin 4) (cid : Nat) (status : Nat)
  /-- MEDIA_CMD_TIMEOUT (R249). -/
  | mediaCmdTimeout (t : Nat) (m : Fin 4) (cid : Nat)
  /-- MEDIA_ABORT_TIMEOUT (R249). -/
  | mediaAbortTimeout (t : Nat) (m : Fin 4) (cid : Nat)
  /-- MEDIA_RESET_TIMEOUT (R249). -/
  | mediaResetTimeout (t : Nat) (m : Fin 4)
  /-- MEDIA_LINK_DOWN_TIMEOUT (R249). -/
  | mediaLinkDownTimeout (t : Nat) (m : Fin 4)
  /-- MEDIA_HEALTH_POLL (R247,R249 (critical warning byte; bit 3 read-only)). -/
  | mediaHealthPoll (t : Nat) (m : Fin 4) (warning : Nat)
  /-- MEDIA_FORMAT_DONE (R252). -/
  | mediaFormatDone (t : Nat) (m : Fin 4)
  /-- MEDIA_QUALIFIED (R253). -/
  | mediaQualified (t : Nat) (m : Fin 4) (rates : List Nat)
  /-- REC_FLUSH_TICK (R268). -/
  | recFlushTick (t : Nat)
  /-- CHUNK_DURABLE (R260). -/
  | chunkDurable (t : Nat) (m : Fin 4) (chunk : Nat)
  /-- CLIP_CLOSED (R272). -/
  | clipClosed (t : Nat)
  /-- NVME_SQ_DOORBELL (R289). -/
  | nvmeSqDoorbell (t : Nat) (q : Nat) (tail : Nat) (cids : List Nat)
  /-- NVME_CQ_DOORBELL (R282). -/
  | nvmeCqDoorbell (t : Nat) (q : Nat) (hd : Nat)
  /-- EP_CONTROLLER_ENABLE (R281). -/
  | epControllerEnable (t : Nat) (asqs : Nat) (acqs : Nat)
  /-- EP_CONTROLLER_RESET (R294). -/
  | epControllerReset (t : Nat) (perst : Bool)
  /-- EP_PERST_RELEASE (R281). -/
  | epPerstRelease (t : Nat)
  /-- EP_FLR (R294). -/
  | epFlr (t : Nat)
  /-- EP_REGISTER_WRITE (R278). -/
  | epRegisterWrite (t : Nat) (offset : Nat) (value : Nat)
  /-- EP_LOOPBACK_ENTER (R56). -/
  | epLoopbackEnter (t : Nat)
  /-- NVME_IDENTIFY (R282,R284). -/
  | nvmeIdentify (t : Nat) (cid : Nat) (cns : Nat) (nsid : Nat)
  /-- NVME_CREATE_IO_SQ (R282). -/
  | nvmeCreateIoSq (t : Nat) (cid : Nat) (qid : Nat) (size : Nat) (cqid : Nat) (pc : Bool)
  /-- NVME_CREATE_IO_CQ (R282). -/
  | nvmeCreateIoCq (t : Nat) (cid : Nat) (qid : Nat) (size : Nat) (vector : Nat) (flags : CqFlags)
  /-- NVME_DELETE_IO_SQ (R294). -/
  | nvmeDeleteIoSq (t : Nat) (cid : Nat) (qid : Nat)
  /-- NVME_DELETE_IO_CQ (R282). -/
  | nvmeDeleteIoCq (t : Nat) (cid : Nat) (qid : Nat)
  /-- NVME_GET_FEATURES (R282). -/
  | nvmeGetFeatures (t : Nat) (cid : Nat) (fid : Nat) (sel : Nat)
  /-- NVME_SET_FEATURES (R282; sel = interrupt vector of feature 0x09). -/
  | nvmeSetFeatures (t : Nat) (cid : Nat) (fid : Nat) (sel : Nat) (value : Nat)
  /-- NVME_GET_LOG_PAGE (R300,R282). -/
  | nvmeGetLogPage (t : Nat) (cid : Nat) (lid : Nat) (nsid : Nat) (rae : Bool) (len : Nat)
  /-- NVME_ABORT (R294). -/
  | nvmeAbort (t : Nat) (cid : Nat) (sqid : Nat) (target : Nat)
  /-- NVME_ASYNC_EVENT_REQUEST (R300). -/
  | nvmeAsyncEventRequest (t : Nat) (cid : Nat)
  /-- NVME_CONTROL (R299). -/
  | nvmeControl (t : Nat) (cid : Nat) (reqLen : Nat) (bufLen : Nat)
  /-- NVME_READ (R290; what the drive returns and its error status). -/
  | nvmeRead (t : Nat) (q : Nat) (cid : Nat) (nsid : Nat) (slba : Nat) (nlb : Nat) (drive : List Byte) (status : Nat)
  /-- NVME_WRITE (R290). -/
  | nvmeWrite (t : Nat) (q : Nat) (cid : Nat) (nsid : Nat) (slba : Nat) (nlb : Nat)
  /-- NVME_FLUSH (R293). -/
  | nvmeFlush (t : Nat) (q : Nat) (cid : Nat) (nsid : Nat)
  /-- NVME_WRITE_ZEROES (R293). -/
  | nvmeWriteZeroes (t : Nat) (q : Nat) (cid : Nat) (nsid : Nat) (slba : Nat) (nlb : Nat)
  /-- NVME_DATASET_MANAGEMENT (R293). -/
  | nvmeDatasetManagement (t : Nat) (q : Nat) (cid : Nat) (nsid : Nat) (ranges : List (Nat × Nat)) (ad : Bool)
  /-- NVME_INVALID_OPCODE (R282). -/
  | nvmeInvalidOpcode (t : Nat) (q : Nat) (cid : Nat) (opcode : Nat)
  /-- EP_PIECE_COMMIT (R290,R291). -/
  | epPieceCommit (t : Nat) (q : Nat) (cid : Nat) (piece : Nat) (data : List Byte)
  /-- EP_DRAIN_DONE (R291). -/
  | epDrainDone (t : Nat) (ns : Fin 4)
  /-- HEAD_FRAME_BOUNDARY (R319,R310-R317). -/
  | headFrameBoundary (t : Nat) (hd : Fin 4)
  /-- HEAD_PICTURE_START (R312,R314). -/
  | headPictureStart (t : Nat) (hd : Fin 4) (pic : SourcePic)
  /-- HEAD_SLATE (R313). -/
  | headSlate (t : Nat) (hd : Fin 4)
  /-- SDI_IN_LOCK (R324). -/
  | sdiInLock (t : Nat) (i : Fin 2) (rate : Nat) (wide : Bool) (supported : Bool)
  /-- SDI_IN_LOSS (R324,R51). -/
  | sdiInLoss (t : Nat) (i : Fin 2)
  /-- DP_HPD (R326). -/
  | dpHpd (t : Nat) (d : Fin 2) (present : Bool) (edid : List Byte) (maxLanes : Nat) (maxRate : Nat) (trained : Bool)
  /-- DP_IRQ_HPD (R326). -/
  | dpIrqHpd (t : Nat) (d : Fin 2) (lockLost : Bool) (trained : Bool)
  /-- NV_RX_PACKET (R331). -/
  | nvRxPacket (t : Nat) (e : Fin 16) (path : Fin 2) (seq : RtpSeq)
  /-- NV_RX_LOSS (R331). -/
  | nvRxLoss (t : Nat) (e : Fin 16) (seq : Nat)
  /-- NET_ARP_ICMP (R327,R458). -/
  | netArpIcmp (t : Nat) (link : Nat) (addr : Nat) (got : NetIn)
  /-- AUDIO_TICK (R346,R354,R355). -/
  | audioTick (t : Nat)
  /-- AUD_PLL_FIRST_LOCK (R340). -/
  | audPllFirstLock (t : Nat)
  /-- AUD_RELOCK (R342). -/
  | audRelock (t : Nat)
  /-- AUD_IN_LOCK (R349). -/
  | audInLock (t : Nat) (i : Fin 2)
  /-- AUD_IN_LOSS (R349). -/
  | audInLoss (t : Nat) (i : Fin 2)
  /-- AUD_IN_RATE (R347). -/
  | audInRate (t : Nat) (src : Fin 14)
  /-- AES_CS_BLOCK (R350). -/
  | aesCsBlock (t : Nat) (i : Fin 2) (bits : List Bool) (zExact : Bool) (crcc : List Bool)
  /-- AUD_RX_PACKET (R353). -/
  | audRxPacket (t : Nat) (e : Fin 8) (path : Fin 2) (seq : RtpSeq) (ts : Nat) (samples : List (List Nat))
  /-- AUD_TX_PACKET (R353). -/
  | audTxPacket (t : Nat) (e : Fin 8)
  /-- PTP_SYNC (R365; t = receive stamp). -/
  | ptpSync (t : Nat) (sv : Fin 2) (port : Fin 3) (master : Nat) (seq : Nat) (twoStep : Bool) (origin : Nat) (corr : Int)
  /-- PTP_FOLLOW_UP (R365). -/
  | ptpFollowUp (t : Nat) (sv : PtpAt) (master : Nat) (seq : Nat) (origin : Nat) (corr : Int)
  /-- PTP_DELAY_RESP (R366). -/
  | ptpDelayResp (t : Nat) (sv : PtpAt) (master : Nat) (seq : Nat) (rx : Nat) (corr : Int)
  /-- PTP_ANNOUNCE (R365). -/
  | ptpAnnounce (t : Nat) (sv : PtpAt) (ann : Announce)
  /-- PTP_DELAY_REQ_SEND (R363). -/
  | ptpDelayReqSend (t : Nat) (sv : PtpAt) (seq : Nat)
  /-- PTP_TIMEOUT (R365,R371). -/
  | ptpTimeout (t : Nat) (sv : Fin 2) (announce : Bool)
  /-- TIME_REVERT (R371). -/
  | timeRevert (t : Nat)
  /-- DTB_STEP_APPLY (R370). -/
  | dtbStepApply (t : Nat)
  /-- BEACON_SEND (R379). -/
  | beaconSend (t : Nat)
  /-- BEACON_RECEIVE (R379). -/
  | beaconReceive (t : Nat) (bytes : List Byte)
  /-- BEACON_PEER_TIMEOUT (R379). -/
  | beaconPeerTimeout (t : Nat) (dev : Nat)
  /-- CLK_MONITOR_WINDOW (R389,R390; f = measured offset from nominal in 0.001 ppm). -/
  | clkMonitorWindow (t : Nat) (src : ClkSrc) (f : Int)
  /-- CLK_SOURCE_STOP (R390,R393). -/
  | clkSourceStop (t : Nat) (src : ClkSrc)
  /-- CLK_PHASE_HIT (R390; phase step in 0.1 ns). -/
  | clkPhaseHit (t : Nat) (step : Nat)
  /-- ROOT_LOCKED (R391,R385). -/
  | rootLocked (t : Nat) (offset : Int)
  /-- CLK_REVERT (R391). -/
  | clkRevert (t : Nat) (src : ClkSrc)
  /-- CLK_MUX_FORCE (R386). -/
  | clkMuxForce (t : Nat) (mux : Fin 3)
  /-- CLK_NO_SOURCE (R395). -/
  | clkNoSource (t : Nat)
  /-- CLK_GATE_CLOSE (R396). -/
  | clkGateClose (t : Nat) (parent : Fin 5)
  /-- DRAM_READ (R405,R407,R412; word = 32-byte code word index in the region; errs wrong symbols). -/
  | dramRead (t : Nat) (port : Fin 24) (region : Fin 4) (word : Nat) (errs : Nat)
  /-- DRAM_WRITE (R405,R407,R414). -/
  | dramWrite (t : Nat) (port : Fin 24) (region : Fin 4) (word : Nat) (data : List Byte)
  /-- DRAM_SCRUB (R412). -/
  | dramScrub (t : Nat) (rank : Fin 32) (word : Nat) (errs : Nat)
  /-- DRAM_RECENTRE (R410). -/
  | dramRecentre (t : Nat) (rank : Fin 32) (edgeFound : Bool) (eye : Nat)
  /-- DRAM_REFRESH (R411). -/
  | dramRefresh (t : Nat) (rank : Fin 32) (tempTenths : Int)
  /-- DRAM_POWER_DOWN (R411). -/
  | dramPowerDown (t : Nat) (rank : Fin 32)
  /-- SIPHON_COPY_CHUNK (R414; indexes of uncorrectable words of the chunk 0..63). -/
  | siphonCopyChunk (t : Nat) (bad : List Nat)
  /-- GROTTO_READ (R417; addr 64-bit word index). -/
  | grottoRead (t : Nat) (addr : Nat) (errs : Nat)
  /-- GROTTO_SCRUB (R417). -/
  | grottoScrub (t : Nat) (addr : Nat) (errs : Nat)
  /-- POS_SAMPLE (R423-R425). -/
  | posSample (t : Nat) (ch : Fin 8) (a : Bool) (b : Bool) (z : Bool)
  /-- POS_SSI_READ (R426). -/
  | posSsiRead (t : Nat) (ch : Fin 8) (latch : Nat) (first : Nat) (second : Nat) (lowAtStart : Bool)
  /-- POS_SPEED_UPDATE (R428). -/
  | posSpeedUpdate (t : Nat)
  /-- POS_MIDPOINT_LATCH (R429). -/
  | posMidpointLatch (t : Nat) (p : Fin 2)
  /-- POS_SSI_SAMPLE_TIMEOUT (R430). -/
  | posSsiSampleTimeout (t : Nat) (p : Fin 2) (ch : Fin 8)
  /-- METADATA_EMIT (R489). -/
  | metadataEmit (t : Nat) (p : Fin 2)
  /-- LOG_RELEASE (R497). -/
  | logRelease (t : Nat)
  /-- LOG_SUPPRESSED (R497). -/
  | logSuppressed (t : Nat)
  /-- DEFLATE_BLOCK (R499-R501). -/
  | deflateBlock (t : Nat) (e : Fin 2) (stream : Fin 16) (zlib : Bool) (input : List Byte) (code : List Bool) (poison : List Nat) (flush : Bool) (last : Bool)
  /-- CORE_WATCHDOG (R452). -/
  | coreWatchdog (t : Nat) (core : Fin 4)
  /-- LOAD_SECOND (R455). -/
  | loadSecond (t : Nat) (loads : List Nat) (peaks : List Nat) (slacks : List Nat)
  /-- DIE_LINK_ERROR (R9; fails = failed tries of one transfer). -/
  | dieLinkError (t : Nat) (link : Nat) (fails : Nat)
  /-- RESTART_VERIFY_DONE (R23,R450). -/
  | restartVerifyDone (t : Nat) (kind : Nat) (index : Nat)
  /-- RESTART_UNIT_STOP (R23). -/
  | restartUnitStop (t : Nat) (unit : Nat)
  /-- RESTART_DONE (R23). -/
  | restartDone (t : Nat) (unit : Nat)
  /-- RESTART_FAILED (R24). -/
  | restartFailed (t : Nat) (unit : Nat)
  /-- STARTUP_STEP_DONE (R503-R508). -/
  | startupStepDone (t : Nat) (f : StepFacts)
  /-- BOOT_RETRY (R508). -/
  | bootRetry (t : Nat) (ok : Bool)
  /-- INPUT_QUALIFIED (R518,R519,R529). -/
  | inputQualified (t : Nat) (j : Fin 2) (plateTenths : Int)
  /-- INPUT_DROPOUT (R518). -/
  | inputDropout (t : Nat)
  /-- INPUT_LOST (R519,R520). -/
  | inputLost (t : Nat) (j : Fin 2)
  /-- POWER_FAIL_FLUSH (R273). -/
  | powerFailFlush (t : Nat)
  /-- POWER_FAIL_UNITS_STOP (R520). -/
  | powerFailUnitsStop (t : Nat)
  /-- POWER_FAIL_PWREN_OFF (R520). -/
  | powerFailPwrenOff (t : Nat)
  /-- POWER_FAIL_RAILS_OFF (R520). -/
  | powerFailRailsOff (t : Nat)
  /-- HOLDUP_INSERT (R524). -/
  | holdupInsert (t : Nat) (serial : Nat) (hours : Nat) (idValid : Bool)
  /-- HOLDUP_REMOVED (R524). -/
  | holdupRemoved (t : Nat)
  /-- HOLDUP_READY (R522). -/
  | holdupReady (t : Nat)
  /-- HOLDUP_HEALTH_MEASURE (R523). -/
  | holdupHealthMeasure (t : Nat) (tenthsJ : Nat)
  /-- THERMAL_DERATE (R528). -/
  | thermalDerate (t : Nat) (plate : Int) (junction : Int) (die : Fin 8)
  /-- THERMAL_TRIP (R528,R529). -/
  | thermalTrip (t : Nat) (plate : Int) (junction : Int) (die : Fin 8)
  /-- THERMAL_HALT_END (R528). -/
  | thermalHaltEnd (t : Nat) (plate : Int) (junction : Int)
  /-- COLD_HOLD_RELEASE (R529). -/
  | coldHoldRelease (t : Nat) (plate : Int)
  /-- VIO_CHANGE (R532; 0 absent/out of range, 1 1.8 V, 2 3.3 V). -/
  | vioChange (t : Nat) (bank : Fin 7) (range : Fin 3)
  /-- CAL_CAPTURE_DONE (R482). -/
  | calCaptureDone (t : Nat) (p : Fin 2) (room : Bool)
  /-- LANE_PLL_LOCK (R52). -/
  | lanePllLock (t : Nat) (l : Fin 62)
  /-- LANE_PLL_UNLOCK (R52). -/
  | lanePllUnlock (t : Nat) (l : Fin 62)
  /-- LANE_CDR_LOCK (R52). -/
  | laneCdrLock (t : Nat) (l : Fin 62)
  /-- LANE_PCS_LOCK (R52). -/
  | lanePcsLock (t : Nat) (l : Fin 62)
  /-- LANE_LOCK_FAIL (R52). -/
  | laneLockFail (t : Nat) (l : Fin 62)
  /-- LANE_UP (R52,R45). -/
  | laneUp (t : Nat) (l : Fin 62) (rate : Nat) (link : LinkForm)
  /-- LANE_DOWN (R53,R81). -/
  | laneDown (t : Nat) (l : Fin 62) (pll : Bool) (cdr : Bool) (pcs : Bool)
  /-- LANE_EB_SLIP (R50,R48,R54). -/
  | laneEbSlip (t : Nat) (x : LaneUnits)
  /-- EP_UNCOMMITTED_DISCARD (R298). -/
  | epUncommittedDiscard (t : Nat)
  /-- EP_DRAIN_CUTOFF (R298). -/
  | epDrainCutoff (t : Nat)
  /-- XFER_ERASE_DONE (R471). -/
  | xferEraseDone (t : Nat)
  /-- XFER_CHECK_DONE (R471). -/
  | xferCheckDone (t : Nat)
  /-- COMMIT_CHECK_DONE (R448). -/
  | commitCheckDone (t : Nat) (v : SlotVerdict)
  /-- SDI_IN_FORMAT (R324). -/
  | sdiInFormat (t : Nat) (i : Fin 2)
  /-- REFIN_FRAME_START (R374,R375). -/
  | refinFrameStart (t : Nat) (rate : Nat)
  /-- PRESENCE_LEVEL_CHANGE (R475). -/
  | presenceLevelChange (t : Nat) (high : Bool)
  /-- THERMAL_DERATE_CLEAR (R528). -/
  | thermalDerateClear (t : Nat) (plate : Int) (junction : Int)
  /-- HOLDUP_FAULT (R523). -/
  | holdupFault (t : Nat)
  /-- AUD_IN_SAMPLE (R346,R349). -/
  | audInSample (t : Nat) (src : Fin 14) (samples : List (Nat × Bool)) (parityErr : Bool)
  deriving DecidableEq, Repr

end Sys2Proof
end

