-- ==== Sys2Proof/Decode.lean ====
section
/-! DEFINITION. Words of the operation table. No row of spec/opcode_table.json gives its command bits, so no word spells
a command. -/

namespace Sys2Proof

/-- The command that a word spells by the table's bits: none, for the table gives no row any (log 1). -/
def decodeTableWord (_nbits _w : Nat) : Option Instr := none

end Sys2Proof
end

