-- ==== Sys2Proof/Config.lean ====
section
/-! DEFINITION. What the manual leaves open: free values, as constants without a body. Every one is applied to plain
data (a counter of State, or operands), and no proof can see what it is. Each is named in the assumption log. -/

namespace Sys2Proof.Config

/-- The 16 random bytes of a clip's CLIP_UID (R264), for each draw of the engine's generator (log 20). -/
opaque clipUid : Nat → BitVec 128

/-- The 64 random bytes of a clip key, for each draw (R271; log 20). -/
opaque clipKey : Nat → BitVec 512


/-- Photosites that a sensor port's buffer holds beyond the two lines that a sensor which keeps R63 can have in it (R80; log 132). -/
opaque portBuffer : Nat

/-- A value for which the manual states no result on some operands (a mean over nothing, a rounding it leaves open): from
the number of the rule and a key made of the operands (log 24). -/
opaque unstated : (rule key : Nat) → Nat

end Sys2Proof.Config
end

