-- ==== Sys2Proof/Machine/Parts/Audio.lean ====
section
/-! DEFINITION. State of the audio ports, the sample grid and the audio PLL (ch. 13). -/

namespace Sys2Proof.Machine

/-- One sample time of a source or a port: each channel's 24-bit sample, and its V (R343). -/
abbrev AudFrame := List (Nat × Bool)

/-- A datagram that has left a network port (R327, R328): its path and link, IPv4 and UDP fields, and its UDP payload. -/
structure NetPacket where
  path : Nat
  link : Nat
  /-- 0 for untagged -/
  vlan : Nat
  pcp : Nat
  src : Nat
  dst : Nat
  /-- the address it is handed to on the link -/
  hop : Nat
  dscp : Nat
  sport : Nat
  dport : Nat
  bytes : List Byte
  deriving DecidableEq, Repr

/-- A source of Table 13.5's numbering: TDM0-3, AESI0-1, stream entries 0-7. -/
structure AudSrc where
  /-- FIFO, oldest first, each with its timestamp for a receive stream; R346 13; empty -/
  fifo : List (Nat × AudFrame)
  /-- timestamp of the sample the next tick reads, of a receive stream; R353 13; 0 -/
  readTs : Int
  /-- avg of R346; 0 -/
  avg : Rat
  /-- the last sample given (R346); none -/
  last : AudFrame
  /-- locked, of an AES3 input (R349); false -/
  locked : Bool
  /-- treated as lost for its rate (R347); false -/
  lost : Bool
  /-- primed since its start or restart (R347); false -/
  primed : Bool
  /-- stopped by a restart (R23); false -/
  stopped : Bool
  /-- instant of its last slip (R356); none -/
  slipAt : Option Nat
  /-- instant of its last AUD_SLIP, and slips since (R347); none, 0 -/
  slipLogAt : Option Nat
  slips : Nat
  /-- last channel status block accepted (R350); none -/
  cs : Option (List Bool)
  deriving DecidableEq, Repr

def AudSrc.reset : AudSrc :=
  { fifo := [], readTs := 0, avg := 0, last := [], locked := false, lost := false, primed := false, stopped := false,
    slipAt := none, slipLogAt := none, slips := 0, cs := none }

/-- An output port: a TDM output, an AES3 output, or a send stream. -/
structure AudOut where
  /-- frames of the grid not yet sent: of a TDM output that follows its clocks, and of a send stream; R346 13; none -/
  buf : List AudFrame
  /-- n of the first of them, of a send stream; R353 13; 0 -/
  bufN : Nat
  /-- avg of R346, of a TDM output that follows its clocks; 0 -/
  avg : Rat
  /-- hold-off of R346, of a TDM output that follows its clocks; 0 -/
  holdoff : Nat
  /-- frame on the contacts now (R354); none -/
  frame : AudFrame
  /-- frame of the AES3 block, 0 to 191 (R351); 0 -/
  pos : Nat
  /-- channel status block being sent (R351); none -/
  block : List Bool
  /-- stopped by a restart (R23); false -/
  stopped : Bool
  /-- RTP sequence number of the next packet (R353); 0 (DESIGN CHOICE, log 4) -/
  seq : Nat
  /-- copies of the last packet sent (R5, R353); none -/
  packet : List NetPacket
  deriving DecidableEq, Repr

def AudOut.reset : AudOut :=
  { buf := [], bufN := 0, avg := 0, holdoff := 0, frame := [], pos := 0, block := [], stopped := false, seq := 0,
    packet := [] }

/-- What a receiver of RTP remembers: sequence numbers not settled, with the paths they came by and when, and whether
a run of losses goes on (R331). -/
structure RtpRx where
  seen : List (Nat × Nat × Nat)
  losing : Bool
  deriving DecidableEq, Repr

def RtpRx.reset : RtpRx := ⟨[], false⟩

/-- Recorded audio of one project frame (R341, R355). -/
structure AudBlock where
  /-- CFN of the project frame's first slot -/
  base : Nat
  /-- sample times, newest first -/
  frames : List AudFrame
  slip : Bool
  invalid : Bool
  deriving DecidableEq, Repr

/-- The audio ports (ch. 13). -/
structure Audio where
  /-- PLL_LOCK; R356 13; 0 -/
  pllLock : Bool
  /-- COAST; R356 13; 0 -/
  coast : Bool
  /-- the audio PLL has locked and n runs; R340 13; false -/
  running : Bool
  /-- sample counter n; R339 13; 0 -/
  n : Nat
  srcs : Vector AudSrc 14
  /-- hold-off of groups 0 to 3, and of sources 0 to 13 in no group; R346 13; 0 -/
  holdoff : Vector Nat 18
  /-- TDM outputs 0-3, AES3 outputs 0-1, send streams at 6 + entry -/
  outs : Vector AudOut 14
  rx : Vector RtpRx 8
  /-- audio block of the project frame that runs; R341 13; none -/
  cur : AudBlock
  /-- blocks of earlier project frames, newest first, at most 16 kept; R341 13; none -/
  done : List AudBlock
  /-- samples of the clip being played, for the next ticks; R343 13; none -/
  play : List AudFrame
  deriving DecidableEq, Repr

def Audio.reset : Audio :=
  { pllLock := false, coast := false, running := false, n := 0, srcs := Vector.replicate 14 AudSrc.reset,
    holdoff := Vector.replicate 18 0, outs := Vector.replicate 14 AudOut.reset, rx := Vector.replicate 8 RtpRx.reset,
    cur := ⟨0, [], false, false⟩, done := [], play := [] }

end Sys2Proof.Machine
end

