-- ==== Sys2Proof/Machine/Parts/Ep.lean ====
section
/-! DEFINITION. State of the offload endpoint: the PCIe function, the NVMe controller, the write buffer and NS5 (ch. 11). -/

namespace Sys2Proof.Machine

/-- A completion queue entry with what the command returns (Table 11.5): the queue pair's submission queue, the command,
status code type and status code, DNR, dword 0, and data returned to the host. -/
structure Completion where
  q : Nat
  cid : Nat
  sct : Nat
  sc : Nat
  dnr : Bool
  dw0 : Nat
  data : List Byte
  deriving DecidableEq, Repr

/-- A submission queue: queue 0 is the admin queue. -/
structure EpSq where
  qid : Nat
  size : Nat
  cq : Nat
  /-- commands fetched from it, the position of the next (R289) -/
  fetched : Nat
  /-- tail of its last doorbell -/
  tail : Nat
  deriving DecidableEq, Repr

/-- A completion queue: its free entries follow from head and tail; completions wait for a free entry. -/
structure EpCq where
  qid : Nat
  size : Nat
  vector : Nat
  /-- interrupts enabled at its creation -/
  ien : Bool
  head : Nat
  tail : Nat
  waiting : List Completion
  deriving DecidableEq, Repr

/-- One vector of the MSI-X table at 0x2000, and its pending bit at 0x3000 (R278), as PCIe lays them out (log 25). -/
structure MsixVector where
  addr : Nat
  data : Nat
  masked : Bool
  pending : Bool
  deriving DecidableEq, Repr

def MsixVector.reset : MsixVector := ⟨0, 0, true, false⟩

/-- What an I/O command does (Table 11.3). -/
inductive EpOp where
  | read (drive : List Byte) (status : Nat)
  | write
  | writeZeroes
  | deallocate
  deriving DecidableEq, Repr

/-- One piece of a write (R290): its bytes in the namespace, the data arrived and waiting for room, and whether it has
committed. -/
structure EpPiece where
  addr : Nat
  len : Nat
  data : Option (List Byte)
  committed : Bool
  deriving DecidableEq, Repr

/-- The key of a command (R289): stamp, source and position. -/
structure EpKey where
  stamp : Int
  src : Nat
  pos : Nat
  deriving DecidableEq, Repr

/-- An I/O command in flight. -/
structure EpCmd where
  q : Nat
  cid : Nat
  key : EpKey
  op : EpOp
  ns : Nat
  /-- its byte ranges in the namespace: address and length -/
  ranges : List (Nat × Nat)
  started : Bool
  pieces : List EpPiece
  /-- it has waited for room in the write buffer (R291) -/
  waited : Bool
  /-- Write Zeroes or deallocate has been passed to the drive (R293) -/
  passed : Bool
  deriving DecidableEq, Repr

/-- Access to a namespace (Table 11.4). -/
inductive EpAccess where
  | notReady | readOnly | readWrite
  deriving DecidableEq, Repr

/-- A fetched command whose processing has not begun (R289). -/
structure EpFetched where
  q : Nat
  cid : Nat
  key : EpKey
  /-- access to NS1 to NS4 at its fetch (R287) -/
  acc : List EpAccess
  deriving DecidableEq, Repr

/-- Committed data of a namespace in the write buffer, in commit order (R290). -/
structure EpDirty where
  ns : Nat
  addr : Nat
  data : List Byte
  poison : Bool
  deriving DecidableEq, Repr

/-- A CONTROL command (R299): the SEQ and TYPE of its request once it has been read. -/
structure EpCtrl where
  cid : Nat
  reqLen : Nat
  bufLen : Nat
  msg : Option (Nat × Nat)
  deriving DecidableEq, Repr

/-- LINK of Table 11.6. -/
inductive EpLink where
  | down | training | up | loopback
  deriving DecidableEq, Repr

/-- The offload endpoint. -/
structure Ep where
  /-- LINK; R302 11; 0 -/
  link : EpLink
  /-- GEN; R302 11; 0 -/
  gen : Nat
  /-- WIDTH; R302 11; 0 -/
  width : Nat
  /-- EP_PERST_N asserted; R281 11; asserted (DESIGN CHOICE, log 4) -/
  perst : Bool
  /-- CC_EN; R302 11; 0 -/
  ccEn : Bool
  /-- CSTS.RDY; R281 11; 0 -/
  ready : Bool
  /-- registers and capability fields without behaviour, by offset; R278 11; none written -/
  regs : List (Nat × Nat)
  /-- MSI-X table and pending bits; R278 11; address and data 0, masked, not pending (PRESUMED: PCIe's, log 25) -/
  msix : Vector MsixVector 65
  /-- MSI-X messages sent, address and data, newest first: the model's own record; DESIGN CHOICE (log 7); none -/
  msgs : List (Nat × Nat)
  /-- submission queues, the admin queue first; R282 11; none -/
  sqs : List EpSq
  /-- completion queues; R282 11; none -/
  cqs : List EpCq
  /-- features set: identifier, selector, value; R282 11; none -/
  feats : List (Nat × Nat × Nat)
  /-- Asynchronous Event Requests outstanding, oldest first; R282 11; none -/
  aers : List Nat
  /-- events that wait for a request: type, information and log page; R288 11; none -/
  events : List (Nat × Nat × Nat)
  /-- log pages whose event has been posted and which have not been read; R300 11; none -/
  masked : List Nat
  /-- NSIDs of the Changed Namespace List; R288 11; none -/
  changed : List Nat
  /-- Error Information entries, newest first, at most 64: count, NSID and block; R295 11; none -/
  errors : List (Nat × Nat × Nat)
  /-- errors recorded; R295 11; 0 -/
  errCount : Nat
  /-- commands fetched and not begun; R289 11; none -/
  fetched : List EpFetched
  /-- I/O commands in flight; R289 11; none -/
  cmds : List EpCmd
  /-- CONTROL commands, in key order: at most four in progress; R299 11; none -/
  ctrls : List EpCtrl
  /-- committed data not drained, in commit order; R290 11; none -/
  dirty : List EpDirty
  /-- bytes of NS5 written since its volume was made; R283 11; none -/
  ns5 : List Host.Cell
  /-- completions posted, newest first: the model's own record of the completion queues; DESIGN CHOICE (log 7); none -/
  done : List Completion
  /-- 512-byte units read and written by the host (log page 0x02); R282 11; 0 -/
  unitsRead : Nat
  unitsWritten : Nat
  /-- fetching has stopped at input loss; R298 11; false -/
  stopped : Bool
  /-- bytes drained since the input loss, of NS1 to NS4; R298 11; 0 -/
  drained : Vector Nat 4
  /-- instant up to which the reads of each recording drive have used its read load; R293 11; 0 -/
  readUntil : Vector Nat 4
  /-- access, size in blocks and NS5's presence as the host last saw them: NS1 to NS4; R288 11; not ready, 0 -/
  seen : Vector (EpAccess × Nat) 4
  deriving DecidableEq, Repr

def Ep.reset : Ep :=
  { link := .down, gen := 0, width := 0, perst := true, ccEn := false, ready := false, regs := []
    msix := Vector.replicate 65 MsixVector.reset, msgs := [], readUntil := Vector.replicate 4 0, sqs := [], cqs := [],
    feats := [], aers := [], events := [], masked := [], changed := [], errors := [], errCount := 0, fetched := [],
    cmds := [], ctrls := [], dirty := [], ns5 := [], done := [], unitsRead := 0, unitsWritten := 0, stopped := false,
    drained := Vector.replicate 4 0, seen := Vector.replicate 4 (.notReady, 0) }

end Sys2Proof.Machine
end

