-- ==== Sys2Proof/Machine/Parts/Picture.lean ====
section
/-! DEFINITION. State of the raw front end and statistics (ch. 6), of the colour pipeline, the branches and the LUT
store (ch. 7), and of the Flowstone codec (ch. 8). -/

namespace Sys2Proof.Machine

/-- A picture of one component: its lines from the top, each from the left. -/
abbrev Pic := List (List Int)

/-- The reference frame of one phase for noise reduction (R139 to R142). -/
structure TnrRef where
  codes : List (List Nat)
  mode : Nat
  rowOff : Nat
  colOff : Nat
  expNs : Nat
  gainQdb : Nat
  deriving DecidableEq, Repr

/-- What the raw front end keeps for one port. -/
structure RawPort where
  /-- black estimate of (phase, conversion, channel) at 8 p + 4 k + ch, 1/256 code; R132 6; none -/
  black : Vector (Option Int) 64
  /-- measured in this capture run, for the same index; R132 6; false -/
  blackRun : Vector Bool 64
  /-- the last frame was flagged BLACK_RANGE; R132 6; false -/
  rangeRun : Bool
  /-- reference data of the next frame met poison; R143 6; false -/
  tnrPoison : Bool
  /-- a Grotto word that the next frame uses was uncorrectable; R417 16; false -/
  grottoUe : Bool
  /-- reference frame of each phase; R142 6; none -/
  tnr : Vector (Option TnrRef) 8
  /-- a frame of the phase has been processed in this run; R142 6; false -/
  tnrSeen : Vector Bool 8
  deriving DecidableEq, Repr

def RawPort.reset : RawPort :=
  { black := Vector.replicate 64 none, blackRun := Vector.replicate 64 false, rangeRun := false, tnrPoison := false, grottoUe := false,
    tnr := Vector.replicate 8 none, tnrSeen := Vector.replicate 8 false }

/-- The calibration tables in effect: DEFECT of each port, mesh of each port, crosstalk and TNR_THR, with their
TABLE_IDs (R145). Index as TABLE_RELOAD numbers them. -/
structure CalTables where
  words : Vector (List Word) 6
  ids : Vector Nat 6
  deriving DecidableEq, Repr

def CalTables.reset : CalTables := ⟨Vector.replicate 6 [], Vector.replicate 6 0⟩

/-- One table read for a reload (R145): which, as TABLE_RELOAD numbers them, its TABLE_ID and its words, of a defect table the
entries. -/
structure TableLoad where
  which : Nat
  id : Nat
  words : List Word
  deriving DecidableEq, Repr

/-- A table reload accepted and not swapped (R145, R146). -/
structure Reload where
  mask : Nat
  /-- target CFN; none for ASAP -/
  target : Option Nat
  /-- CFN it is now due on, when a run gives one -/
  cfn : Option Nat
  /-- tables read and checked, with the instant loading was complete -/
  loads : List TableLoad
  loadedAt : Option Nat
  /-- requester -/
  client : Client
  ty : Nat
  seq : Nat
  /-- its deadline passed before loading was complete (R146) -/
  overrun : Bool
  /-- firmware's own, of a damaged table (Table 16.6): no client waits for it -/
  own : Bool
  /-- it is a calibration commit (R483), and folds dynamic entries -/
  cal : Bool
  fold : Bool
  deriving DecidableEq, Repr

/-- A tracked candidate (R130). -/
structure Track where
  port : Nat
  x : Nat
  y : Nat
  count : Nat
  deriving DecidableEq, Repr

/-- A statistics record (Table 6.8). -/
structure StatsRec where
  cfn : Nat
  pfn : Nat
  stampS : Nat
  stampNs : Nat
  phase : Nat
  source : Nat
  flags : Nat
  histMode : Nat
  histShift : Nat
  black0 : List Nat
  black1 : List Nat
  seq : Nat
  /-- channel after channel -/
  hist : List Nat
  /-- channel after channel -/
  zones : List Nat
  focus : List Nat
  clip : List Nat
  /-- frame mean of U per channel, 1/16 (STATS_READY) -/
  mean : List Nat
  deriving DecidableEq, Repr

/-- A change of TNR_STR: the CFN it lands on, its value and its requester (R104). -/
structure TnrChange where
  cfn : Nat
  str : Nat
  client : Client
  ty : Nat
  seq : Nat
  deriving DecidableEq, Repr

/-- Raw front end, defect tables, dynamic defects and statistics ring (ch. 6). -/
structure RawFe where
  ports : Vector RawPort 2
  tables : CalTables
  /-- reload waiting; R145 6; none -/
  reload : Option Reload
  /-- candidates tracked, at most 4,096; R130 6; empty -/
  tracker : List Track
  /-- dynamic list, at most 65,536: port, x, y; R131 6; empty -/
  dyn : List (Nat × Nat × Nat)
  /-- DYN_TRACK_FULL logged in this run; R130 6; false -/
  trackFull : Bool
  /-- DYN_LIST_FULL logged; R131 6; false -/
  listFull : Bool
  /-- tables of frames before a CFN at which they swapped, for frames still to be read out (R145); none -/
  oldTables : List (Nat × CalTables)
  /-- TNR_STR in effect, before the changes of tnrPend; R124 6; 128 -/
  tnrStr : Nat
  /-- TNR_STR changes of this run, landed or to land; R104 5; none -/
  tnrPend : List TnrChange
  /-- ring: written slots and their records, ascending slot; R150 6; none -/
  ring : List (Nat × StatsRec)
  /-- next slot; R150 6; 0 -/
  nextSlot : Nat
  /-- next SEQ; R151 6; 0 -/
  nextSeq : Nat
  /-- records accumulated and unwritten, of SP0, SP1 and aux, oldest first; R152 6; none -/
  waiting : Vector (List StatsRec) 3
  /-- STATS_READY notifications waiting to be sent, at most 64; R152 6; none -/
  notes : List (List Byte)
  deriving DecidableEq, Repr

def RawFe.reset : RawFe :=
  { ports := Vector.replicate 2 RawPort.reset, tables := CalTables.reset, reload := none, tracker := [], dyn := [],
    trackFull := false, listFull := false, oldTables := [], tnrStr := 128, tnrPend := [], ring := [], nextSlot := 0, nextSeq := 0,
    waiting := Vector.replicate 3 [], notes := [] }

/-- A white-balance and ISO change of this run, or one held for the next (R161, R465): the CFN it lands on, its values
and its requester. -/
structure WbChange where
  cfn : Nat
  cct : Nat
  tint : Int
  iso : Nat
  client : Client
  ty : Nat
  seq : Nat
  deriving DecidableEq, Repr

/-- The input matrix of one port (R158 to R161). -/
structure ColourPort where
  /-- CCT in effect, before the changes of pend; R161 7; 0 before the first run (DESIGN CHOICE, log 4) -/
  cct : Nat
  /-- TINT in effect, before the changes of pend; R161 7; 0 before the first run (DESIGN CHOICE, log 4) -/
  tint : Int
  /-- ISO in effect, before the changes of pend; R161 7; 0 before the first run (DESIGN CHOICE, log 4) -/
  iso : Nat
  /-- a run has taken the INIT values since the last full restart; R161 7; false -/
  inited : Bool
  /-- changes of this run, landed or to land; R161 7; none -/
  pend : List WbChange
  deriving DecidableEq, Repr

def ColourPort.reset : ColourPort := ⟨0, 0, 0, false, []⟩

/-- A LUT selection that has been accepted (R179). -/
structure LutSel where
  slot : Nat
  /-- CFN from which it holds; none for one outside a run -/
  cfn : Option Nat
  /-- earliest instant of its boundary, outside a run (R465) -/
  notBefore : Nat
  client : Client
  ty : Nat
  seq : Nat
  deriving DecidableEq, Repr

/-- A finished picture of a branch: three components, the second and third possibly subsampled. -/
structure OutPic where
  cfn : Nat
  phase : Nat
  flags : Nat
  y : List (List Nat)
  cb : List (List Nat)
  cr : List (List Nat)
  deriving DecidableEq, Repr

/-- STATE of Table 7.10. -/
inductive BranchState where
  | off | running | stopped | failed
  deriving DecidableEq, Repr

/-- One branch (R163 to R184). -/
structure Branch where
  /-- STATE; R184 7; OFF -/
  state : BranchState
  /-- clipped components of the last output frame; R184 7; 0 -/
  clips : Nat
  /-- latest selection that took effect since the full restart, before those of sels; R179 7; none -/
  chosen : Option Nat
  /-- selections of this run, landed or to land, and those that wait for a boundary; R179 7; none -/
  sels : List LutSel
  /-- last picture handed to the consumers; R166 7; none -/
  out : Option OutPic
  deriving DecidableEq, Repr

def Branch.reset : Branch := ⟨.off, 0, none, [], none⟩

/-- The content of a LUT slot (Tables 7.7 and 7.8): nodes hold three 16-bit values each, red fastest. -/
structure LutData where
  lutId : Nat
  desc : Word
  shaperId : Nat
  nodes : List Nat
  deriving DecidableEq, Repr

/-- A LUT load accepted and not swapped (R180, R181): for each slot the buffer taken (none for a clear). -/
structure LutPend where
  slots : List (Nat × Nat × Option Nat)
  target : Option Nat
  cfn : Option Nat
  recs : List (Nat × Option LutData)
  loadedAt : Option Nat
  /-- its deadline passed before loading was complete (R181) -/
  overrun : Bool
  /-- firmware's own, of a damaged slot (Table 16.6): no client waits for it -/
  own : Bool
  client : Client
  seq : Nat
  deriving DecidableEq, Repr

/-- Input matrices, branches and the LUT store (ch. 7). -/
structure Colour where
  ports : Vector ColourPort 2
  branches : Vector Branch 6
  /-- content of each slot and its buffer; R176 7; empty before a full restart loads it -/
  slots : Vector (Option (Nat × LutData)) 16
  /-- slots whose content came from NS5; R417 16; none -/
  fromNs5 : List Nat
  /-- slots that read empty until their swap; R180 7; none -/
  readsEmpty : List Nat
  /-- contents of slots for frames before a CFN at which they swapped (R181, R182); none -/
  oldLuts : List (Nat × Nat × Option LutData)
  /-- loads waiting; R181 7; none -/
  loads : List LutPend
  deriving DecidableEq, Repr

def Colour.reset : Colour :=
  { ports := Vector.replicate 2 ColourPort.reset, branches := Vector.replicate 6 Branch.reset,
    slots := Vector.replicate 16 none, fromNs5 := [], readsEmpty := [], oldLuts := [], loads := [] }

/-- One coded tile (R199 to R202). -/
structure FsrTile where
  col : Nat
  band : Nat
  /-- 0 LOSSLESS, 1 LOSSY, 2 RAW, 3 EMERGENCY -/
  mode : Nat
  qi : Nat
  flags : Nat
  bytes : List Byte
  /-- bytes it coded to at qi, before any replacement (R206) -/
  coded : Nat
  deriving DecidableEq, Repr

/-- Decisions of R205 for one band; qi 255 for an emergency band. -/
structure FsrBand where
  qi : Nat
  lim : Nat
  est : Nat
  alloc : Nat
  deriving DecidableEq, Repr

/-- A picture being coded. -/
structure FsrPic where
  cfn : Nat
  pfn : Nat
  stampS : Nat
  stampNs : Nat
  phase : Nat
  /-- tap samples, conversion after conversion -/
  convs : List Pic
  bands : List FsrBand
  tiles : List FsrTile
  /-- FLAGS of Table 8.3 -/
  flags : Nat
  /-- tiles that mismatched at the first check, and the first of them -/
  mism : Nat
  mismFirst : Nat × Nat
  /-- completion limit of R203, an instant -/
  due : Nat
  deriving DecidableEq, Repr

/-- A recorded picture read back (R211): header fields that the path needs, its conversions, its concealed tiles, the flags of
its tiles, and the metadata record recorded with it. -/
structure Played where
  cfn : Nat
  phase : Nat
  source : Nat
  tap : Nat
  pedestal : Nat
  convs : List Pic
  concealed : Nat
  /-- tile FLAGS of Table 8.4, all tiles together -/
  tileFlags : Nat
  record : List Byte
  deriving DecidableEq, Repr

/-- One stream of the FSR section (R186, R213). -/
structure FsrStream where
  /-- LAST_QI; R213 8; 0 -/
  lastQi : Nat
  /-- LAST_EMERG; R213 8; 0 -/
  lastEmerg : Bool
  /-- LAST_PAGES; R213 8; 0 -/
  lastPages : Nat
  /-- PIC_NUM of the next picture; R200 8; 0 -/
  picNum : Nat
  /-- pictures being coded, oldest first; R203 8; none -/
  pics : List FsrPic
  /-- complexity model of phase and band; R206 8; none -/
  model : List (Nat × Nat × Nat)
  /-- the last picture was flagged TILE_LATE; R210 8; false -/
  lateRun : Bool
  /-- last decoded picture of a review; R211 8; none -/
  shown : Option Played
  deriving DecidableEq, Repr

def FsrStream.reset : FsrStream := ⟨0, false, 0, 0, [], [], false, none⟩

/-- The Flowstone codec (ch. 8). -/
structure Fsr where
  streams : Vector FsrStream 8
  /-- engine in service; R213 8; none before start-up configures CDA -/
  inService : Vector Bool 32
  /-- second-check failures of each engine in this run; R209 8; 0 -/
  fails : Vector Nat 32
  deriving DecidableEq, Repr

def Fsr.reset : Fsr :=
  ⟨Vector.replicate 8 FsrStream.reset, Vector.replicate 32 false, Vector.replicate 32 0⟩

end Sys2Proof.Machine
end

