-- ==== Sys2Proof/Machine/Parts/Hevc.lean ====
section
/-! DEFINITION. State of the HEVC encoder and decoder (ch. 9). -/

namespace Sys2Proof.Machine

/-- One CTU row of the picture being coded (R234, R235). -/
structure HevcRow where
  q : Nat
  alloc : Nat
  /-- decided as an emergency row -/
  emerg : Bool
  /-- its CTUs have turned to emergency form (R235) -/
  bound : Bool
  /-- CTUs coded -/
  ctus : Nat
  /-- bytes coded -/
  bytes : Nat
  /-- coding units of each CTU coded, and whether SAO is on for it (R225, R235) -/
  codes : List (List HevcCu × Bool)
  deriving DecidableEq, Repr

/-- What the parameter sets of a stream declare (R215, R217, R219, R220): the fields of its entry and of its source's format, and
the choices of Tables 9.1 and 9.4. -/
structure HevcParams where
  /-- PROFILE, TIER and LEVEL of the entry -/
  profile : Nat
  tier : Nat
  level : Nat
  progressive : Bool
  width : Nat
  height : Nat
  /-- 1 4:2:0, 2 4:2:2 -/
  chroma : Nat
  depth : Nat
  /-- log2 of CTB, of the least CB, and of the largest and least TB; depths of the transform hierarchy -/
  ctbLog2 : Nat
  cbLog2 : Nat
  tbMaxLog2 : Nat
  tbMinLog2 : Nat
  depthIntra : Nat
  depthInter : Nat
  amp : Bool
  transformSkip : Bool
  signHiding : Bool
  scalingLists : Bool
  cuQpDelta : Bool
  diffCuQpDeltaDepth : Nat
  /-- NREF -/
  refs : Nat
  temporalMvp : Bool
  weighted : Bool
  longTerm : Bool
  deblock : Bool
  sao : Bool
  filterAcrossSlices : Bool
  strongIntra : Bool
  constrainedIntra : Bool
  entropySync : Bool
  tiles : Bool
  /-- VUI: colour_primaries, transfer_characteristics, matrix_coeffs, video_full_range_flag (Table 9.4) -/
  primaries : Nat
  transfer : Nat
  matrix : Nat
  fullRange : Bool
  /-- HRD: bit rate, CPB size in bits, cbr_flag; and the mean picture rate as a fraction -/
  bitRate : Nat
  cpbSize : Nat
  cbr : Bool
  rate : Nat × Nat
  deriving DecidableEq, Repr

/-- One access unit as it stands in a ring (R215, R231, R232, R237): its place and size, its NAL units in terms of what this manual
says of them, and the coding of its CTU rows. -/
structure HevcUnit where
  /-- ring position of its first byte, its bytes without filler, and the bytes of the filler data NAL unit -/
  start : Nat
  bytes : Nat
  filler : Nat
  /-- IDR_N_LP, otherwise TRAIL_R; and the POC -/
  idr : Bool
  poc : Nat
  /-- VPS, SPS and PPS, before every IDR and recovery-point picture -/
  params : Option HevcParams
  /-- buffering period SEI: the CPB fill at its picture -/
  buffering : Option Nat
  /-- recovery point SEI: recovery_poc_cnt, exact_match_flag, broken_link_flag -/
  recovery : Option (Nat × Bool × Bool)
  /-- decoded picture hash SEI by the CRC method, of each component -/
  hash : Option (List Nat)
  rows : List HevcRow
  deriving DecidableEq, Repr

/-- A picture that waits to be coded or is being coded. -/
structure HevcPic where
  /-- CFN of the frame it codes; none for an aux stream -/
  cfn : Option Nat
  idr : Bool
  /-- first picture of the stream in the capture run (R221) -/
  first : Bool
  /-- k of its sweep, of a trim-band picture (R229) -/
  sweep : Option Nat
  /-- a skipped picture (R222) -/
  skip : Bool
  /-- the IDR that the proxy asked for: its file starts here (R221) -/
  forProxy : Bool
  /-- it holds a source buffer (R237) -/
  buf : Bool
  /-- the source picture it codes (R222, R237) -/
  src : OutPic
  /-- instant at which its last source line arrived (R223, R224) -/
  arrived : Nat
  /-- POC (R221) -/
  poc : Nat
  /-- L2 cost sums of its rows; none in low-latency mode and for an IDR (R225, R236) -/
  costs : List Nat
  poison : Bool
  /-- parameter sets, SEI and slice header, bytes (R234) -/
  hdr : Nat
  /-- cap_bytes, target in bits, picture QP (R232, R233) -/
  cap : Nat
  target : Nat
  qp : Nat
  /-- CPB fill as its coding begins (R232) -/
  fill : Nat
  /-- pool buffer it is reconstructed into (R227) -/
  pool : Option Nat
  rows : List HevcRow
  deriving DecidableEq, Repr

/-- One encoder stream. -/
structure HevcStream where
  /-- STATE: 0 OFF, 1 IDLE, 2 CODING; R244 9; 0 -/
  state : Nat
  /-- LAST_QP; R244 9; 0 -/
  lastQp : Nat
  /-- SWEEP_K; R244 9; 0 -/
  sweepK : Nat
  /-- LAST_EMERG; R244 9; 0 -/
  lastEmerg : Bool
  /-- LAST_BYTES; R244 9; 0 -/
  lastBytes : Nat
  /-- frames its branch has delivered in the capture run; R219 9; 0 -/
  frames : Nat
  /-- a picture has been given a type in the capture run; R221 9; false -/
  begun : Bool
  /-- pictures given a type since the last IDR; R221 9; 0 -/
  sinceIdr : Nat
  /-- k of the next picture of the sweep; R229 9; 0 -/
  nextK : Nat
  /-- the proxy's IDR is due from this CFN on; R221 9; none -/
  idrFrom : Option Nat
  /-- pictures waiting, oldest first; R237 9; none -/
  pics : List HevcPic
  /-- CPB fill f in bits; R232 9; 0 -/
  fill : Nat
  /-- q_v of VBR; R233 9; 30 -/
  qv : Nat
  /-- instants and bits of the pictures of the last 2 s, newest first; R233 9; none -/
  recent : List (Nat × Nat)
  /-- row models of I (0) and P (1) pictures: kind, row, x; R236 9; none -/
  model : List (Nat × Nat × Nat)
  /-- the last picture had an emergency row; R235 9; false -/
  emergRun : Bool
  /-- POC of the next picture; R221 9; 0 -/
  nextPoc : Nat
  /-- last source picture received in the capture run; R222 9; none -/
  lastSrc : Option OutPic
  /-- L2 row costs of the last picture; R236 9; none -/
  lastCosts : List Nat
  /-- access units in the ring, oldest first; R237 9; none -/
  ring : List HevcUnit
  /-- bytes written into the ring; R237 9; 0 -/
  written : Nat
  /-- ring position of the newest IDR or recovery-point picture; R237 9; 0 -/
  joinAt : Nat
  deriving DecidableEq, Repr

def HevcStream.reset : HevcStream :=
  { state := 0, lastQp := 0, sweepK := 0, lastEmerg := false, lastBytes := 0, frames := 0,
    begun := false, sinceIdr := 0, nextK := 0, idrFrom := none, pics := [], fill := 0, qv := 30, recent := [], model := [],
    emergRun := false, nextPoc := 0, lastSrc := none, lastCosts := [], ring := [], written := 0, joinAt := 0 }

/-- Marks of Table 9.5, in the order of MARK. -/
inductive PoolMark where
  | unused | short | long | outputPending
  deriving DecidableEq, Repr

/-- One buffer of the reference pool (R226). -/
structure PoolBuf where
  /-- MARK; R244 9; UNUSED -/
  mark : PoolMark
  /-- OUT; R244 9; 0 -/
  out : Bool
  /-- OWNER: 0 to 7 stream, 8 to 11 decode, 15 none; R244 9; 0 after power-up, set at full restart -/
  owner : Nat
  /-- POC of its picture -/
  poc : Int
  /-- its picture; R216 9; none -/
  pic : Option OutPic
  /-- bits of its samples -/
  depth : Nat
  /-- pictures its owner had decoded before it (R242) -/
  seq : Nat
  /-- its half-size and quarter-size luma pyramids, 8 bits; R216 9; none -/
  half : List (List Nat)
  quarter : List (List Nat)
  /-- output order key, and the flags its picture goes out with -/
  pts : Nat
  flags : Nat
  /-- not delivered, being before a play's first picture (R243) -/
  hidden : Bool
  deriving DecidableEq, Repr

def PoolBuf.reset : PoolBuf :=
  { mark := .unused, out := false, owner := 0, poc := 0, pic := none, depth := 0, seq := 0, half := [], quarter := [], pts := 0, flags := 0, hidden := false }

/-- A picture that a decode gives out: its output order key, its flags (R245), the bits of its samples, and the samples. -/
structure DecOut where
  pts : Nat
  flags : Nat
  depth : Nat
  pic : OutPic
  deriving DecidableEq, Repr

/-- One decode. -/
structure HevcDec where
  /-- STATE: 0 OFF, 1 IDLE, 2 DECODING, 3 STOPPED; R244 9; 0 -/
  state : Nat
  /-- CONCEALING; R244 9; 0 -/
  concealing : Bool
  /-- POC at which a recovery point ends the run; R241 9; none -/
  recovery : Option Int
  /-- HEVC_DEC_MISSREF has been logged in this run; R240 9; false -/
  missLogged : Bool
  /-- it plays from media; R243 9; false -/
  media : Bool
  /-- no picture has been decoded since the decode started; R240 9; true -/
  fresh : Bool
  /-- RASL pictures are discarded; R240 9; false -/
  skipRasl : Bool
  /-- POC that completes the recovery point a play from media started at: no picture before it is delivered; R243 9; none -/
  holdTo : Option Int
  /-- mid-grey pictures that stand for references the last picture missed, by POC; R240 9; none -/
  grey : List (Int × OutPic)
  /-- access units received and not decoded; R334 12; none -/
  queue : List AccessUnit
  /-- picture last output; R239 9; none -/
  last : Option DecOut
  /-- outputs made; R239 9; 0 -/
  outputs : Nat
  /-- pictures decoded; R242 9; 0 -/
  decoded : Nat
  deriving DecidableEq, Repr

def HevcDec.reset : HevcDec :=
  { state := 0, concealing := false, recovery := none, missLogged := false, media := false, fresh := true, skipRasl := false, holdTo := none, grey := [], queue := [],
    last := none, outputs := 0, decoded := 0 }

/-- The HEVC encoder and decoder (ch. 9). -/
structure Hevc where
  streams : Vector HevcStream 8
  pool : Vector PoolBuf 32
  decs : Vector HevcDec 4
  /-- ring positions of the network consumers, by NETVIDEO entry; R237 9; 0 -/
  netPos : Vector Nat 16
  deriving DecidableEq, Repr

def Hevc.reset : Hevc :=
  { streams := Vector.replicate 8 HevcStream.reset, pool := Vector.replicate 32 PoolBuf.reset,
    decs := Vector.replicate 4 HevcDec.reset, netPos := Vector.replicate 16 0 }

end Sys2Proof.Machine
end

