-- ==== Sys2Proof/Machine/Parts/Links.lean ====
section
/-! DEFINITION. State of the high-speed lanes (ch. 3), of the Hyern ports and of capture (ch. 4, 5). -/

namespace Sys2Proof.Machine

/-- One lane: its bring-up and the fields of Table 3.9. -/
structure Lane where
  /-- bring-up step of Table 3.6: 0 OFF, 1 to 5; R52 3; 0 -/
  step : Nat
  /-- RATE_NOW; R59 3; 0 -/
  rateNow : Nat
  /-- transmit state the lane's unit asks for: 0 ACTIVE, 1 IDLE, 2 SLEEP, 3 OFF; R58 3; 0 -/
  txPs : Nat
  /-- the transmitter stays in electrical idle until its head's restart boundary; R46 3; false -/
  txHeld : Bool
  /-- RX_PS; R59 3; 0 -/
  rxPs : Nat
  /-- LOOPBACK; R59 3; 0 -/
  loopback : Nat
  /-- pattern of the lane's PRBS generator: 0 off, 1 to 4 (R55); 0 -/
  pattern : Nat
  /-- under test by LANE_TEST (R55); false -/
  test : Bool
  /-- PRBS_LOCK; R59 3; 0 -/
  prbsLock : Bool
  /-- PLL_LOCK; R59 3; 0 -/
  pllLock : Bool
  /-- CDR_LOCK; R59 3; 0 -/
  cdrLock : Bool
  /-- PCS_LOCK; R59 3; 0 -/
  pcsLock : Bool
  /-- LINK_UP; R59 3; 0 -/
  linkUp : Bool
  /-- EQ_DONE; R59 3; 0 -/
  eqDone : Bool
  /-- CLASS_V_IDLE; R59 3; 0 -/
  classVIdle : Bool
  /-- CTLE_NOW; R59 3; 0 -/
  ctleNow : Nat
  /-- fill of the elastic buffer, 0 to 64; R48 3; 32 -/
  ebFill : Nat
  /-- what the buffer does with the next filler unit: 0 nothing, 1 deletes it, 2 inserts another; R48 3; 0 -/
  ebCorr : Nat
  /-- code errors since the lane's last LANE_CODE_ERR; R54 3; 0 -/
  codeErrs : Nat
  /-- instant of that event; R54 3; none -/
  codeErrAt : Option Nat
  deriving DecidableEq, Repr

def Lane.reset : Lane :=
  { step := 0, rateNow := 0, txPs := 0, txHeld := false, rxPs := 0, loopback := 0, pattern := 0, test := false, prbsLock := false,
    pllLock := false, cdrLock := false, pcsLock := false, linkUp := false, eqDone := false, classVIdle := false,
    ctleNow := 0, ebFill := 32, ebCorr := 0, codeErrs := 0, codeErrAt := none }

/-- LINK_STATE of Table 4.6. -/
inductive LinkState where
  | off | training | up | resetting | failed
  deriving DecidableEq, Repr

/-- CAP_STATE of Table 5.10. -/
inductive CapState where
  | idle | waitLink | running | paused
  deriving DecidableEq, Repr

/-- Requested settings values, and the index groups use: 0 EXP, 1 GAIN, 2 MODE, 3 REGION (R101). -/
structure SetVals where
  expNs : Nat
  gain : Nat
  mode : Nat
  rowOff : Nat
  colOff : Nat
  deriving DecidableEq, Repr

/-- A scheduled settings change (R101). -/
structure Change where
  /-- CFN from which it holds; negative once it has landed in an earlier run -/
  from_ : Int
  mask : Nat
  groups : Nat
  vals : SetVals
  /-- requester, for the LANDED of a slip (R102): its TYPE is SETTINGS or PROFILE_SELECT -/
  owner : Client
  ty : Nat
  seq : Nat
  deriving DecidableEq, Repr

/-- A write on a sensor control channel (R95): the register and its data, the I2C target address or the SPI mode, and the bytes of
register address and data in the order sent. -/
structure CtlWrite where
  addr : Nat
  data : Nat
  /-- I2C_ADDR; none on SPI -/
  target : Option Nat
  /-- SPI_MODE; 0 on I2C -/
  mode : Nat
  bytes : List Byte
  deriving DecidableEq, Repr

/-- Photosites of one line of the open frame: for each conversion, what was accepted. -/
structure LineBuf where
  line : Nat
  /-- columns delivered and their codes, for conversions 0 and 1, in ascending column -/
  conv0 : List (Nat × Nat)
  conv1 : List (Nat × Nat)
  deriving DecidableEq, Repr

/-- The frame open on a port (R82, R83, R107). -/
structure OpenFrame where
  /-- CFN it is bound to (R107); none for a stray -/
  cfn : Option Nat
  /-- SFC of FS, none when unknown -/
  sfc : Option Nat
  /-- frame flags of Table 21.2 gathered so far -/
  flags : Nat
  /-- the line open, if any -/
  cur : Option LineBuf
  /-- highest line opened or filled, plus 1 -/
  nextLine : Nat
  /-- lines closed inside the frame, newest first -/
  lines : List LineBuf
  /-- lines with filled photosites -/
  fillLines : Nat
  /-- lines of number LINES or more were discarded (R108) -/
  long : Bool
  /-- EMB index expected next, and the echoed register values -/
  embNext : Nat
  echoes : List (Nat × Nat)
  deriving DecidableEq, Repr

/-- One sensor port: link, capture and settings (ch. 4, 5). -/
structure Port where
  /-- LINK_STATE; R85 4; OFF -/
  link : LinkState
  /-- LANES_NOW; R85 4; 0 -/
  lanesNow : Nat
  /-- RATE_NOW; R85 4; 0 -/
  rateNow : Nat
  /-- SKEW_MAX; R85 4; 0 -/
  skewMax : Nat
  /-- ALIGN_SEQ; R85 4; 0 -/
  alignSeq : Nat
  /-- TRAIN_TRY; R85 4; 0 -/
  trainTry : Nat
  /-- instant of step 2 of R77; 0 -/
  trainAt : Nat
  /-- instant the reset sequence began, SPn_RST_N low (R97); 0 -/
  rstAt : Nat
  /-- ALIGN_SEQ of the last ALIGN received (R69); 0 -/
  prevAlign : Nat
  /-- consecutive ALIGN errors (R80); 0 -/
  alignErrs : Nat
  /-- stream discarded until the next good ALIGN (R80); false -/
  waitAlign : Bool
  /-- stream before the first FS after a training is discarded (R77 step 8); true -/
  awaitFs : Bool
  /-- the first FS after a training has not come (R80); true -/
  firstFs : Bool
  /-- SFC of the previous frame, when known (R80); none -/
  lastSfc : Option Nat
  /-- the frame open on the port (R83); none -/
  frame : Option OpenFrame
  /-- error counts since the previous frame close: header, CRC, format, sequence, fill (R84); 0 -/
  errs : Vector Nat 5
  /-- any counter of Table 4.5, R82 or R83 moved since the previous frame close (R84); false -/
  errMoved : Bool
  /-- photosites in the port buffer, in 1/16384, at the instant bufAt (R63, R80); 0 -/
  bufFill : Nat
  bufAt : Nat
  /-- CAP_STATE; R117 5; IDLE -/
  cap : CapState
  /-- the port has started or joined the run (R89); false -/
  joined : Bool
  /-- current CFN; R117 5; 0 -/
  cfn : Nat
  /-- PHASE_NOW; R117 5; 0 -/
  phaseNow : Nat
  /-- MODE_NOW; R117 5; 0 -/
  modeNow : Nat
  /-- CAP_FAULT; R117 5; 0 -/
  capFault : Bool
  /-- CFN of the next XTRIG, once the port has joined the run (R89, R90); 0 -/
  nextTrig : Nat
  /-- first CFN of the port in this run (R89); 0 -/
  firstCfn : Nat
  /-- CFNs whose frames were produced before their trigger (R107); none -/
  early : List Nat
  /-- CFNs triggered whose frames have not been produced, oldest first (R108); none -/
  owed : List Nat
  /-- scheduled settings changes (R101); none -/
  changes : List Change
  /-- code last written for each group since the reset sequence (R101); none -/
  lastCodes : Vector (Option Nat) 5
  /-- settings values of R515 after the reset sequence; DESIGN CHOICE zeros before it (log 4) -/
  base : SetVals
  /-- writes made on the sensor control channel, newest first (R95, R100); none -/
  writes : List CtlWrite
  /-- writes of the open window still to be done: group, CFN they are for, address, data, retried (R100, R103); none -/
  window : List (Nat × Nat × Nat × Nat × Bool)
  /-- the write list of the next window was marked complete by its deadline (R102); true -/
  listOk : Bool
  /-- CFNs flagged SETTINGS_FAULT (R103) and INCOMPLETE (R102) not yet closed; none -/
  faultCfns : List Nat
  lateCfns : List Nat
  /-- run of bad frames: how many, and how many SHORT, LONG, EMPTY among the last (R109); 0 -/
  badRun : Nat
  badShort : Nat
  badLong : Nat
  badEmpty : Nat
  deriving DecidableEq, Repr

def Port.reset : Port :=
  { link := .off, lanesNow := 0, rateNow := 0, skewMax := 0, alignSeq := 0, trainTry := 0, trainAt := 0, rstAt := 0,
    prevAlign := 0, alignErrs := 0, waitAlign := false, awaitFs := true, firstFs := true, lastSfc := none, frame := none,
    errs := Vector.replicate 5 0, errMoved := false, bufFill := 0, bufAt := 0, cap := .idle, joined := false, cfn := 0, phaseNow := 0,
    modeNow := 0, capFault := false, nextTrig := 0, firstCfn := 0, early := [], owed := [], changes := [],
    lastCodes := Vector.replicate 5 none, base := ⟨0, 0, 0, 0, 0⟩, writes := [], window := [],
    listOk := true, faultCfns := [], lateCfns := [], badRun := 0, badShort := 0, badLong := 0, badEmpty := 0 }

/-- The project timing generator and the capture run (R87 to R89, R112, R373, R374). -/
structure Proj where
  /-- a project frame has begun (R87); false -/
  started : Bool
  /-- instant of the start of the current project frame (R87); 0 -/
  start : Nat
  /-- project frame index of the current project frame (R373); 0 -/
  pfi : Nat
  /-- start and index of the project frame before, whose frames may still be read out (R87, R373); 0 -/
  prevStart : Nat
  prevPfi : Nat
  /-- index of the next slot to start in the project frame (R87); 0 -/
  slot : Nat
  /-- the capture run is in progress (R89); false -/
  run : Bool
  /-- CFN of the first slot of the current project frame of the run (R88); 0 -/
  baseCfn : Nat
  /-- CFN of the next slot to be captured (R89); 0 -/
  nextCfn : Nat
  /-- slot starts of the frames owed at a boundary before now, by CFN (R87, R107); none -/
  kept : List (Nat × Int)
  /-- the current project frame is lengthened for realignment (R112, R374); false -/
  lengthened : Bool
  /-- what a realignment adds to the current project frame's own length, in ticks (R370, R374); 0 -/
  stretch : Int
  deriving DecidableEq, Repr

def Proj.reset : Proj := ⟨false, 0, 0, 0, 0, 0, false, 0, 0, [], false, 0⟩

/-- Following of PHASE_IN (R112, R113). -/
structure PhaseIn where
  /-- PHASE_IN_LOCK (Table 5.10); 0 -/
  lock : Bool
  /-- instant of the next predicted strobe (R112); none -/
  predicted : Option Nat
  /-- spacing of strobes as tracked, in ticks (R112); none -/
  period : Option Nat
  /-- instant of the last strobe used; none -/
  lastStrobe : Option Nat
  /-- code of the last strobe (R113); none -/
  lastCode : Option Nat
  /-- consecutive misses (R112); 0 -/
  misses : Nat
  /-- consecutive displaced strobes, newest first (R112); none -/
  displaced : List Nat
  /-- a realignment waits for a strobe with the p of slot 0 (R112); false -/
  realign : Bool
  /-- the last code differed from p (R113); false -/
  mismatchRun : Bool
  /-- frames are PHASE_FREE (R112); false -/
  free : Bool
  /-- flags PHASE_FREE (1) and PHASE_MISMATCH (2) of the last 8 slots, by CFN (R112, R113); none -/
  marks : List (Nat × Nat)
  deriving DecidableEq, Repr

def PhaseIn.reset : PhaseIn := ⟨false, none, none, none, none, 0, [], false, false, false, []⟩

/-- An aux frame: AFN, stamp, AUX_SIZE, its pixels (R115). -/
structure AuxFrame where
  afn : Nat
  stamp : Int
  sizeFlag : Bool
  lines : List (List Nat)
  deriving DecidableEq, Repr

/-- The auxiliary camera port (R114 to R116). -/
structure Aux where
  /-- AFN of the next aux frame (R115); 0 -/
  nextAfn : Nat
  /-- instant of the last VS (R115); none -/
  lastVs : Option Nat
  /-- the frame being received: AFN and stamp (R115); none -/
  cur : Option (Nat × Int)
  /-- newest complete frame, not yet taken (R116); none -/
  newest : Option AuxFrame
  /-- frame the consumers hold (R116); none -/
  taken : Option AuxFrame
  /-- what the last project frames took: CFN of the first slot, frame, AUX_STALE (R116); none -/
  byFrame : List (Nat × AuxFrame × Bool)
  /-- instant the last aux frame completed (R116); 0 -/
  lastDone : Nat
  /-- repeated frames are AUX_STALE (R116); false -/
  stale : Bool
  deriving DecidableEq, Repr

def Aux.reset : Aux := ⟨0, none, none, none, none, [], 0, false⟩

end Sys2Proof.Machine
end

