-- ==== Sys2Proof/Machine/Parts/Log.lean ====
section
/-! DEFINITION. The event codes and severities of Table 21.5 and R494, the counters of R8, and the state of the event
log (R493 to R497) and of the counters. -/

namespace Sys2Proof.Machine

/-- The events of Table 21.5, in its order. -/
inductive Ev where
  | clkQualified
  | clkLoss
  | clkSwitch
  | clkMuxForce
  | classVEnter
  | classVExit
  | clkGateRefused
  | clkNoSource
  | dieLinkFatal
  | inputLoss
  | inputRestored
  | inputSwitch
  | holdupReady
  | holdupFault
  | holdupRemoved
  | thermalDerate
  | thermalTrip
  | laneCodeErr
  | laneEbSlip
  | lanePllUnlock
  | laneLockFail
  | laneDown
  | laneUp
  | laneCdrLoss
  | hyernFrameErr
  | hyernAlignLoss
  | hyernSfcSkip
  | hyernTrained
  | hyernTrainFail
  | hyernSensorReset
  | hyernLinkDown
  | captureStart
  | captureFault
  | sensorCtrlErr
  | phaseInLoss
  | phaseRelock
  | phaseCodeErr
  | auxLoss
  | blackRange
  | defectPromoted
  | dynTrackFull
  | dynListFull
  | tableSwap
  | tableRefused
  | statsDrop
  | lutSwap
  | lutRefused
  | fsrVerifyMismatch
  | fsrVerifyFail
  | fsrEngineOff
  | fsrTileLate
  | fsrDecErr
  | hevcRcEmergency
  | hevcSrcDrop
  | hevcRingOvf
  | hevcDecMissref
  | hevcDecRecovered
  | hevcDecErr
  | hevcDecUnsupported
  | mediaTimeout
  | mediaReset
  | mediaIoErr
  | mediaFailed
  | mediaRemoved
  | mediaMount
  | mediaHealth
  | mediaQualified
  | mediaFull
  | clipClosed
  | recRestripe
  | recBufferFull
  | clipPowerClose
  | clipRecovered
  | epLinkUp
  | epLinkDown
  | epCtrlReset
  | epDataLost
  | epPowerDrain
  | headLate
  | headL0Size
  | headSlate
  | sdiInLock
  | sdiInLoss
  | sdiInFormat
  | dpLinkUp
  | dpHpd
  | dpBwShort
  | nvRxLoss
  | audRealign
  | audSlip
  | audInRate
  | audCoast
  | audRelock
  | audInLock
  | audInLoss
  | timeStep
  | timeSwitch
  | timeLock
  | timeHoldover
  | ptpTimeout
  | ptpGmChange
  | projRealign
  | alignFault
  | arrayDupId
  | arrayMismatch
  | dramUe
  | dramTrainFail
  | dramHot
  | dramQosMiss
  | dramPoisonFw
  | siphonStart
  | siphonDone
  | siphonQueued
  | dramNoSpare
  | grottoUe
  | grottoRowRepair
  | grottoRepairFull
  | posIllegal
  | posHallBad
  | posLimit
  | posRef
  | posSsiLoss
  | posSsiOk
  | fwOverrun
  | fwCoreReset
  | fwCoreFatal
  | fwLoadHigh
  | imageInvalid
  | imageRejected
  | imageCommit
  | imageCommitRefused
  | imageXferDone
  | imageXferAbort
  | ctrlDenied
  | gatedStaged
  | gatedDone
  | gatedExpired
  | gatedCancelled
  | restartRejected
  | restartDone
  | restartFailed
  | logSuppressed
  | deflateMismatch
  | logEpoch
  | keyLoaded
  | keyErased
  | keystoreFault
  | factoryReset
  | sealFirst
  | sealOpen
  | lampOpened
  | calCaptureDone
  | calCaptureFail
  | calCommitDone
  deriving DecidableEq, Repr

/-- The event code of bytes 16-17: GROUP times 256 plus INDEX (R495). -/
def Ev.code : Ev → Nat
  | .clkQualified => 0x0101
  | .clkLoss => 0x0102
  | .clkSwitch => 0x0103
  | .clkMuxForce => 0x0104
  | .classVEnter => 0x0105
  | .classVExit => 0x0106
  | .clkGateRefused => 0x0107
  | .clkNoSource => 0x0108
  | .dieLinkFatal => 0x0109
  | .inputLoss => 0x0201
  | .inputRestored => 0x0202
  | .inputSwitch => 0x0203
  | .holdupReady => 0x0204
  | .holdupFault => 0x0205
  | .holdupRemoved => 0x0206
  | .thermalDerate => 0x0207
  | .thermalTrip => 0x0208
  | .laneCodeErr => 0x0301
  | .laneEbSlip => 0x0302
  | .lanePllUnlock => 0x0303
  | .laneLockFail => 0x0304
  | .laneDown => 0x0305
  | .laneUp => 0x0306
  | .laneCdrLoss => Config.unstated 495 51 % 65536
  | .hyernFrameErr => 0x0401
  | .hyernAlignLoss => 0x0402
  | .hyernSfcSkip => 0x0403
  | .hyernTrained => 0x0404
  | .hyernTrainFail => 0x0405
  | .hyernSensorReset => 0x0406
  | .hyernLinkDown => 0x0407
  | .captureStart => 0x0408
  | .captureFault => 0x0409
  | .sensorCtrlErr => 0x040A
  | .phaseInLoss => 0x040B
  | .phaseRelock => 0x040C
  | .phaseCodeErr => 0x040D
  | .auxLoss => 0x040E
  | .blackRange => 0x0501
  | .defectPromoted => 0x0502
  | .dynTrackFull => 0x0503
  | .dynListFull => 0x0504
  | .tableSwap => 0x0505
  | .tableRefused => 0x0506
  | .statsDrop => 0x0507
  | .lutSwap => 0x0508
  | .lutRefused => 0x0509
  | .fsrVerifyMismatch => 0x0601
  | .fsrVerifyFail => 0x0602
  | .fsrEngineOff => 0x0603
  | .fsrTileLate => 0x0604
  | .fsrDecErr => 0x0605
  | .hevcRcEmergency => 0x0701
  | .hevcSrcDrop => 0x0702
  | .hevcRingOvf => 0x0703
  | .hevcDecMissref => 0x0704
  | .hevcDecRecovered => 0x0705
  | .hevcDecErr => 0x0706
  | .hevcDecUnsupported => 0x0707
  | .mediaTimeout => 0x0801
  | .mediaReset => 0x0802
  | .mediaIoErr => 0x0803
  | .mediaFailed => 0x0804
  | .mediaRemoved => 0x0805
  | .mediaMount => 0x0806
  | .mediaHealth => 0x0807
  | .mediaQualified => 0x0808
  | .mediaFull => 0x0809
  | .clipClosed => 0x080A
  | .recRestripe => 0x080B
  | .recBufferFull => 0x080C
  | .clipPowerClose => 0x080D
  | .clipRecovered => 0x080E
  | .epLinkUp => 0x0901
  | .epLinkDown => 0x0902
  | .epCtrlReset => 0x0903
  | .epDataLost => 0x0904
  | .epPowerDrain => 0x0905
  | .headLate => 0x0A01
  | .headL0Size => 0x0A02
  | .headSlate => 0x0A03
  | .sdiInLock => 0x0A04
  | .sdiInLoss => 0x0A05
  | .sdiInFormat => 0x0A06
  | .dpLinkUp => 0x0A07
  | .dpHpd => 0x0A08
  | .dpBwShort => 0x0A09
  | .nvRxLoss => 0x0A0A
  | .audRealign => 0x0B01
  | .audSlip => 0x0B02
  | .audInRate => 0x0B03
  | .audCoast => 0x0B04
  | .audRelock => 0x0B05
  | .audInLock => 0x0B06
  | .audInLoss => 0x0B07
  | .timeStep => 0x0C01
  | .timeSwitch => 0x0C02
  | .timeLock => 0x0C03
  | .timeHoldover => 0x0C04
  | .ptpTimeout => 0x0C05
  | .ptpGmChange => 0x0C06
  | .projRealign => 0x0C07
  | .alignFault => 0x0C08
  | .arrayDupId => 0x0C09
  | .arrayMismatch => 0x0C0A
  | .dramUe => 0x0D01
  | .dramTrainFail => 0x0D02
  | .dramHot => 0x0D03
  | .dramQosMiss => 0x0D04
  | .dramPoisonFw => 0x0D05
  | .siphonStart => 0x0D06
  | .siphonDone => 0x0D07
  | .siphonQueued => 0x0D08
  | .dramNoSpare => 0x0D09
  | .grottoUe => 0x0D0A
  | .grottoRowRepair => 0x0D0B
  | .grottoRepairFull => 0x0D0C
  | .posIllegal => 0x0E01
  | .posHallBad => 0x0E02
  | .posLimit => 0x0E03
  | .posRef => 0x0E04
  | .posSsiLoss => 0x0E05
  | .posSsiOk => 0x0E06
  | .fwOverrun => 0x0F01
  | .fwCoreReset => 0x0F02
  | .fwCoreFatal => 0x0F03
  | .fwLoadHigh => 0x0F04
  | .imageInvalid => 0x0F05
  | .imageRejected => 0x0F06
  | .imageCommit => 0x0F07
  | .imageCommitRefused => 0x0F08
  | .imageXferDone => 0x0F09
  | .imageXferAbort => 0x0F0A
  | .ctrlDenied => 0x0F0B
  | .gatedStaged => 0x0F0C
  | .gatedDone => 0x0F0D
  | .gatedExpired => 0x0F0E
  | .gatedCancelled => 0x0F0F
  | .restartRejected => 0x0F10
  | .restartDone => 0x0F11
  | .restartFailed => 0x0F12
  | .logSuppressed => 0x0F13
  | .deflateMismatch => 0x0F14
  | .logEpoch => 0x0F15
  | .keyLoaded => 0x1001
  | .keyErased => 0x1002
  | .keystoreFault => 0x1003
  | .factoryReset => 0x1004
  | .sealFirst => 0x1005
  | .sealOpen => 0x1006
  | .lampOpened => 0x1007
  | .calCaptureDone => 0x1008
  | .calCaptureFail => 0x1009
  | .calCommitDone => 0x100A

/-- The severity of an event: 1 INFO, 2 WARNING, 3 ERROR, 4 FATAL (R494). -/
def Ev.severity : Ev → Nat
  | .clkQualified => 1
  | .clkLoss => 2
  | .clkSwitch => 1
  | .clkMuxForce => 1
  | .classVEnter => 3
  | .classVExit => 1
  | .clkGateRefused => 2
  | .clkNoSource => 3
  | .dieLinkFatal => 4
  | .inputLoss => 2
  | .inputRestored => 1
  | .inputSwitch => 1
  | .holdupReady => 1
  | .holdupFault => 1
  | .holdupRemoved => 1
  | .thermalDerate => 1
  | .thermalTrip => 3
  | .laneCodeErr => 2
  | .laneEbSlip => 2
  | .lanePllUnlock => 1
  | .laneLockFail => 2
  | .laneDown => 2
  | .laneUp => 1
  | .laneCdrLoss => 2
  | .hyernFrameErr => 2
  | .hyernAlignLoss => 2
  | .hyernSfcSkip => 2
  | .hyernTrained => 1
  | .hyernTrainFail => 3
  | .hyernSensorReset => 1
  | .hyernLinkDown => 2
  | .captureStart => 1
  | .captureFault => 3
  | .sensorCtrlErr => 2
  | .phaseInLoss => 2
  | .phaseRelock => 1
  | .phaseCodeErr => 2
  | .auxLoss => 2
  | .blackRange => 1
  | .defectPromoted => 1
  | .dynTrackFull => 2
  | .dynListFull => 2
  | .tableSwap => 1
  | .tableRefused => 2
  | .statsDrop => 2
  | .lutSwap => 1
  | .lutRefused => 2
  | .fsrVerifyMismatch => 2
  | .fsrVerifyFail => 3
  | .fsrEngineOff => 3
  | .fsrTileLate => 2
  | .fsrDecErr => 2
  | .hevcRcEmergency => 1
  | .hevcSrcDrop => 2
  | .hevcRingOvf => 2
  | .hevcDecMissref => 1
  | .hevcDecRecovered => 1
  | .hevcDecErr => 2
  | .hevcDecUnsupported => 1
  | .mediaTimeout => 2
  | .mediaReset => 1
  | .mediaIoErr => 2
  | .mediaFailed => 3
  | .mediaRemoved => 1
  | .mediaMount => 1
  | .mediaHealth => 1
  | .mediaQualified => 1
  | .mediaFull => 2
  | .clipClosed => 1
  | .recRestripe => 1
  | .recBufferFull => 3
  | .clipPowerClose => 3
  | .clipRecovered => 1
  | .epLinkUp => 1
  | .epLinkDown => 2
  | .epCtrlReset => 1
  | .epDataLost => 3
  | .epPowerDrain => 1
  | .headLate => 2
  | .headL0Size => 1
  | .headSlate => 1
  | .sdiInLock => 1
  | .sdiInLoss => 2
  | .sdiInFormat => 1
  | .dpLinkUp => 1
  | .dpHpd => 1
  | .dpBwShort => 1
  | .nvRxLoss => 2
  | .audRealign => 1
  | .audSlip => 2
  | .audInRate => 1
  | .audCoast => 1
  | .audRelock => 1
  | .audInLock => 1
  | .audInLoss => 2
  | .timeStep => 1
  | .timeSwitch => 1
  | .timeLock => 1
  | .timeHoldover => 1
  | .ptpTimeout => 2
  | .ptpGmChange => 1
  | .projRealign => 1
  | .alignFault => 1
  | .arrayDupId => 1
  | .arrayMismatch => 2
  | .dramUe => 3
  | .dramTrainFail => 2
  | .dramHot => 1
  | .dramQosMiss => 1
  | .dramPoisonFw => 1
  | .siphonStart => 1
  | .siphonDone => 1
  | .siphonQueued => 1
  | .dramNoSpare => 3
  | .grottoUe => 3
  | .grottoRowRepair => 1
  | .grottoRepairFull => 2
  | .posIllegal => 1
  | .posHallBad => 1
  | .posLimit => 1
  | .posRef => 1
  | .posSsiLoss => 2
  | .posSsiOk => 1
  | .fwOverrun => 2
  | .fwCoreReset => 1
  | .fwCoreFatal => 4
  | .fwLoadHigh => 1
  | .imageInvalid => 1
  | .imageRejected => 3
  | .imageCommit => 1
  | .imageCommitRefused => 2
  | .imageXferDone => 1
  | .imageXferAbort => 1
  | .ctrlDenied => 1
  | .gatedStaged => 1
  | .gatedDone => 1
  | .gatedExpired => 1
  | .gatedCancelled => 1
  | .restartRejected => 1
  | .restartDone => 1
  | .restartFailed => 3
  | .logSuppressed => 1
  | .deflateMismatch => 3
  | .logEpoch => 1
  | .keyLoaded => 1
  | .keyErased => 1
  | .keystoreFault => 3
  | .factoryReset => 1
  | .sealFirst => 1
  | .sealOpen => 1
  | .lampOpened => 1
  | .calCaptureDone => 1
  | .calCaptureFail => 2
  | .calCommitDone => 1

/-- The counters named CNT_ (R8), in the order of their tables. -/
inductive Ctr where
  | dieLinkRetry
  | laneCodeErr
  | laneEbSlip
  | lanePllFail
  | laneLockFail
  | laneRetrain
  | laneDown
  | lanePrbsErr
  | hyernHdrErr
  | hyernFmtErr
  | hyernCrcErr
  | hyernSeqErr
  | hyernFill
  | hyernAlignErr
  | hyernOverrun
  | hyernSfcSkip
  | hyernTrain
  | hyernTrainFail
  | capClamped
  | capShort
  | capLong
  | capEmpty
  | capStray
  | capFault
  | sensorCtrlErr
  | settingsMismatch
  | fwOverrun
  | phaseInMiss
  | phaseInHit
  | phaseCodeErr
  | auxSize
  | auxDrop
  | auxRepeat
  | blackHold
  | blackRange
  | blackLineHold
  | dynCand
  | dynPromoted
  | dynTrackFull
  | dynListFull
  | tnrReset
  | tnrLate
  | tnrPoison
  | tableSwap
  | tableRefused
  | statsDrop
  | statsNotifyDrop
  | branchClip
  | lutSwap
  | lutRefused
  | rcEmergency
  | fsrTileLimit
  | fsrRawTile
  | fsrVerifyMismatch
  | fsrVerifyFail
  | fsrTileLate
  | fsrDecPicErr
  | fsrDecTileErr
  | hevcRcEmergency
  | hevcCtuEmerg
  | hevcSkipPic
  | hevcSrcDrop
  | hevcRingOvf
  | hevcPoison
  | hevcDecMissref
  | hevcDecConceal
  | hevcDecNalErr
  | hevcDecSliceErr
  | hevcDecHashErr
  | hevcDecBump
  | hevcDecLate
  | mediaTimeout
  | mediaReset
  | mediaIoErr
  | mediaFail
  | mediaRemoved
  | recClips
  | recStartRefused
  | recRestripe
  | recBufferFull
  | recPoison
  | recFramesLost
  | clipRecovered
  | epCtrlReset
  | epBufHit
  | epBufWait
  | epBufLost
  | epDrainLost
  | epWpReject
  | epNotReady
  | epNotifyDrop
  | headTear
  | headSkip
  | headLate
  | headL0Size
  | headL1Late
  | sdiinCrc
  | dpRetrain
  | dpHpd
  | nvRxPath
  | nvRxLost
  | audSlip
  | audCoastSlip
  | audInUnderrun
  | audInOverrun
  | audOutUnderrun
  | audParity
  | audCsErr
  | timeStep
  | timeSwitch
  | ptpOutlier
  | ptpTimeout
  | ptpGmChange
  | projRealign
  | arrayDupId
  | arrayMismatch
  | clkStop
  | clkPhaseHit
  | clkRate
  | clkServoLoss
  | clkSwitch
  | clkMuxForce
  | classV
  | clkGateRefused
  | dramCe
  | dramUe
  | dramTrainFail
  | dramHot
  | dramQosMiss
  | dramPoisonRead
  | siphon
  | siphonPoison
  | grottoCe
  | grottoUe
  | posIllegal
  | posHallBad
  | posLimit
  | posZ
  | posSsiErr
  | fwCoreReset
  | imgSlotInvalid
  | restartRejected
  | ctrlFraming
  | ctrlCrc
  | ctrlMalformed
  | ctrlDup
  | ctrlDenied
  | ctrlNotifyDrop
  | ctrlGatedExpired
  | presencePress
  | calCapture
  | inputLoss
  | inputDropout
  | inputSwitch
  | holdupFault
  | holdupRemoved
  | thermalDerate
  | thermalTrip
  | logSuppressed
  | deflateMismatch
  deriving DecidableEq, Repr

/-- One event record (Table 21.4). -/
structure EventRec where
  /-- DTB seconds of the stamp -/
  sec : Nat
  /-- nanoseconds of the stamp -/
  ns : Nat
  /-- device ID of the engine that logged it -/
  dev : Nat
  /-- local source number -/
  src : Nat
  ev : Ev
  /-- bytes 18-31, unused bytes left out -/
  data : List Byte
  deriving DecidableEq, Repr

/-- A record the merger holds, with the instant it was handed over (R497). -/
structure HeldRec where
  at_ : Nat
  /-- steps of the DTB before it (R370) -/
  gen : Nat
  record : EventRec
  deriving DecidableEq, Repr

/-- How many records a source stored and lost in one DTB second (R497). -/
structure RateCell where
  src : Nat
  sec : Nat
  stored : Nat
  lost : Nat
  deriving DecidableEq, Repr

/-- The event log (R496 to R498). -/
structure Log where
  /-- records held by the merger, in the order handed over; R497 21; empty -/
  held : List HeldRec
  /-- stored records, oldest first, at most 32,768; R497 21; empty -/
  ring : List EventRec
  /-- log sequence number of the next record, 64 bits; R497 21; 0 -/
  nextSeq : Nat
  /-- epoch number of the open epoch; R497 21; 0 -/
  epoch : Nat
  /-- an epoch has been opened since power-up; R497 21; false -/
  opened : Bool
  /-- counts of RATE per source and DTB second; R497 21; empty -/
  rates : List RateCell
  /-- steps of the DTB since power-up, by which records before a step precede those after it; R370 14; 0 -/
  steps : Nat
  deriving DecidableEq, Repr

/-- The log after power-up: empty (R497). -/
def Log.reset : Log := ⟨[], [], 0, 0, false, [], 0⟩

/-- One counter instance that is not zero: the counter, its source, its index and its value (R8). -/
structure CtrCell where
  ctr : Ctr
  src : Nat
  idx : Nat
  val : BitVec 32
  deriving DecidableEq, Repr

end Sys2Proof.Machine
end

