-- ==== Sys2Proof/Machine/Parts/Media.lean ====
section
/-! DEFINITION. State of the media ports, the recorder and playback (ch. 10). -/

namespace Sys2Proof.Machine

/-- STATE of Table 10.7, in its order. -/
inductive DriveState where
  | empty | linking | unsupported | foreign | mounted | qualifying | formatting | recording | playing | failed | recovering
  deriving DecidableEq, Repr

/-- What the recorder reads, writes or deallocates a drive for, beside the chunks of a clip (Table 10.1). -/
inductive MediaJob where
  | mount | recovery | playback | format | qualify
  deriving DecidableEq, Repr

/-- An NVMe command of the recorder (Table 10.1). Its commands for the endpoint are those of the host (ch. 11). -/
inductive CmdUse where
  | identify (cns : Nat)
  /-- Set Features, or Get Features, of an identifier -/
  | feature (id : Nat) (set : Bool)
  /-- create, or delete, a submission or completion queue -/
  | queue (create sub : Bool) (q : Nat)
  | logPage (lid : Nat)
  | asyncEvent
  /-- Abort of a command -/
  | abort (cid : Nat)
  | read (job : MediaJob)
  | write (job : MediaJob)
  | deallocate (job : MediaJob)
  /-- Write of transfer k of a chunk's body, and of its header page (R268) -/
  | body (id k : Nat)
  | header (id : Nat)
  | flush
  /-- Write that drains the write buffer of the endpoint (R290) -/
  | drain
  /-- Write Zeroes or Dataset Management of the host, passed to the drive (R293): its queue and command -/
  | host (q cid : Nat)
  deriving DecidableEq, Repr

/-- A command outstanding at a drive (R247, R249). -/
structure MediaCmd where
  cid : Nat
  use : CmdUse
  /-- its queue, 0 the admin queue: its completion raises the MSI-X vector of that number -/
  queue : Nat
  retried : Bool
  aborted : Bool
  /-- chunks that had been written when a Flush was issued (R260) -/
  covers : List Nat
  deriving DecidableEq, Repr

/-- A mounted volume: where its partition begins and its bytes (0 with no partition table), its cluster size and its label (R251,
R252). -/
structure Volume where
  start : Nat
  size : Nat
  clusterLog2 : Nat
  label : List Byte
  deriving DecidableEq, Repr

/-- A file that the recorder writes (R254): its path, DataLength, ValidDataLength, and the bytes allocated to it. -/
structure MediaFile where
  path : List Byte
  data : Nat
  valid : Nat
  alloc : Nat
  deriving DecidableEq, Repr

/-- One media port and its drive. -/
structure MediaPort where
  /-- STATE; R275 10; EMPTY -/
  state : DriveState
  /-- what the drive reported (R246); none -/
  drive : Option DriveInfo
  /-- GEN and WIDTH: generation and lanes trained to; R246 10; 0 -/
  gen : Nat
  width : Nat
  /-- I/O queue pairs and entries of each that the drive granted; R246 10; 0 -/
  queues : Nat
  entries : Nat
  /-- the engine's own commands that wait for the drain of its namespace; R287 11; none -/
  owed : List CmdUse
  /-- its volume, while it is mounted; R251 10; none -/
  volume : Option Volume
  /-- what the mount found, while its unclosed clips are recovered; R251 10; none -/
  mounting : Option MountInfo
  /-- the drive's QUAL.BIN; R253 10; none -/
  qualBin : Option (List Byte)
  /-- bytes of QUAL.TMP, while the test runs; R253 10; none -/
  qualTmp : Option Nat
  /-- files of its clips; R254 10; none -/
  files : List MediaFile
  /-- HEALTH_WARN; R275 10; 0 -/
  healthWarn : Bool
  /-- QUALIFIED with its write rate in MB/s; R253 10; none -/
  qual : Option Nat
  /-- free bytes of the volume; R275 10; 0 -/
  free : Nat
  /-- clip folders of the drive; R254 10; none -/
  folders : List ClipFolder
  /-- commands outstanding; R247 10; none -/
  cmds : List MediaCmd
  /-- next command identifier (DESIGN CHOICE, log 4); 0 -/
  nextCid : Nat
  /-- the controller is being reset; R249 10; false -/
  resetting : Bool
  /-- instant of the last controller reset; R249 10; none -/
  resetAt : Option Nat
  /-- a reset has fallen in the clip that is open; R249 10; false -/
  resetInClip : Bool
  /-- client and SEQ of the MEDIA_QUALIFY whose test runs; R253 10; none -/
  qualifier : Option (Client × Nat)
  deriving DecidableEq, Repr

def MediaPort.reset : MediaPort :=
  { state := .empty, drive := none, gen := 0, width := 0, queues := 0, entries := 0, owed := [], volume := none, mounting := none, qualBin := none,
    qualTmp := none, files := [], healthWarn := false, qual := none, free := 0, folders := [], cmds := [], nextCid := 0,
    resetting := false, resetAt := none, resetInClip := false, qualifier := none }

/-- An entry of an INDEX or FINAL chunk (R267). -/
structure IndexEntry where
  cfn : Nat
  page : Nat
  pages : Nat
  mask : Nat
  deriving DecidableEq, Repr

/-- One stripe file of a clip (R263): where the next chunk goes, and its index. -/
structure StripeFile where
  pos : Nat
  /-- its clip header page (R264) -/
  header : List Byte
  nextPage : Nat
  nextSeq : Nat
  prevPage : Nat
  /-- FRAME chunks in chunk order, with their chunk identifiers -/
  entries : List (Nat × IndexEntry)
  /-- chunks already listed by an INDEX chunk -/
  listed : List Nat
  /-- its FINAL chunk is written -/
  final : Bool
  deriving DecidableEq, Repr

/-- One sidecar file (R270): a zlib stream of DEFLATE engine 0. -/
structure SideFile where
  /-- 1, then 2 when it has moved drive -/
  part : Nat
  /-- the engine's stream number -/
  stream : Nat
  /-- content that is not compressed yet, and the places in it at which the stream is flushed -/
  todo : List Byte
  marks : List Nat
  /-- no more content comes -/
  ended : Bool
  /-- bytes of the zlib stream, its pages as they are stored (R271), and whether its Adler-32 is among them -/
  out : List Byte
  stored : List Byte
  done : Bool
  deriving DecidableEq, Repr

/-- One clip of a record start (R257, R264, R269 to R271). -/
structure ClipRec where
  stream : Nat
  name : List Byte
  uid : BitVec 128
  /-- clip key, with ENCRYPT -/
  key : Option (BitVec 512)
  files : List StripeFile
  /-- its sidecar, one file for each drive it has been on (R270) -/
  sides : List SideFile
  deriving DecidableEq, Repr

/-- A box of a proxy file (R269), in terms of what this manual says of it. -/
inductive Mp4Box where
  /-- major and compatible brands -/
  | ftyp (major : List Byte) (compatible : List (List Byte))
  /-- one video track: its sample entry, timescale and picture size; mvex is present -/
  | moov (entry : List Byte) (timescale width height : Nat)
  /-- sequence number, and of each sample its decode time, bytes and sync mark -/
  | moof (seq : Nat) (samples : List (Nat × Nat × Bool))
  | mdat (units : List HevcUnit)
  /-- decode time and box number of each fragment -/
  | mfra (entries : List (Nat × Nat))
  /-- padding of an encrypted file (R271) -/
  | free
  deriving DecidableEq, Repr

/-- The proxy file being written (R269). -/
structure ProxyRec where
  /-- 1, then 2 when the drive at position 0 has left -/
  part : Nat
  /-- pictures in the file; it begins at the IDR that the recorder asked for -/
  pics : Nat
  boxes : List Mp4Box
  /-- the fragment being gathered: decode times and access units -/
  frag : List (Nat × HevcUnit)
  /-- it has its mfra box -/
  closed : Bool
  /-- bytes taken from the stream's ring (R237) -/
  taken : Nat
  deriving DecidableEq, Repr

/-- A drive of a recording set (R258, R261). -/
structure TakeDrive where
  pos : Nat
  port : Nat
  left : Bool
  deriving DecidableEq, Repr

/-- One record start (R257): its clips and its recording set. -/
structure Take where
  id : Nat
  reel : Nat
  clip : Nat
  first : Nat
  /-- last recorded CFN, once it is known (R18) -/
  last : Option Nat
  drives : List TakeDrive
  clips : List ClipRec
  /-- the proxy file, and the files it was on before (R269) -/
  proxy : ProxyRec
  proxyOld : List ProxyRec
  closing : Bool
  /-- HOW of CLIP_CLOSED (Table 19.11) -/
  how : Nat
  /-- pictures that entered the record buffer, stream and CFN, newest first -/
  entered : List (Nat × Nat)
  deriving DecidableEq, Repr

/-- A picture in the record buffer (R260). -/
structure BufPic where
  take : Nat
  stream : Nat
  cfn : Nat
  picNum : Nat
  /-- its HDR_PAGES, all its pages, and the bytes of each tile column's payload pages -/
  hdrPages : Nat
  head : List Byte
  cols : List (List Byte)
  /-- it carries the audio block of its project frame -/
  audio : Bool
  poison : Bool
  /-- its chunks have been laid out -/
  started : Bool
  deriving DecidableEq, Repr

/-- A chunk being written (R265, R266). -/
structure Chunk where
  id : Nat
  take : Nat
  stream : Nat
  port : Nat
  pos : Nat
  /-- TYPE: 1 FRAME, 2 INDEX, 3 FINAL -/
  ty : Nat
  flags : Nat
  seq : Nat
  page : Nat
  cfn : Nat
  picNum : Nat
  mask : Nat
  count : Nat
  audioBytes : Nat
  prev : Nat
  /-- body as stored -/
  body : List Byte
  /-- transfers of its body issued and completed, and whether its header page is issued (R268) -/
  sent : Nat
  got : Nat
  headSent : Bool
  written : Bool
  durable : Bool
  deriving DecidableEq, Repr

/-- Columns of a picture that a drive left with before they were durable (R261). -/
structure Move where
  take : Nat
  stream : Nat
  cfn : Nat
  mask : Nat
  deriving DecidableEq, Repr

/-- A clip being played (R212, R243). -/
structure Play where
  name : List Byte
  startCfn : Nat
  proxy : Bool
  decode : Nat
  ports : List Nat
  /-- sensor port whose place its pictures take (R212) -/
  source : Nat
  /-- stream that decodes its pictures (R213) -/
  stream : Option Nat
  /-- decoded pictures that wait for their capture slot, in CFN order (R212) -/
  queue : List Played
  /-- CFN of the picture that entered last (R212) -/
  last : Option Nat
  deriving DecidableEq, Repr

/-- The recorder (ch. 10). -/
structure Recorder where
  ports : Vector MediaPort 4
  /-- REEL; R276 10; 0 before the first full restart -/
  reel : Nat
  /-- CLIP; R276 10; 0 -/
  clip : Nat
  /-- record starts not yet closed, oldest first; R272 10; none -/
  takes : List Take
  nextTake : Nat
  /-- pictures in the record buffer, oldest first; R260 10; none -/
  buffer : List BufPic
  /-- chunks not yet durable, oldest first; R260 10; none -/
  chunks : List Chunk
  nextChunk : Nat
  /-- columns that wait to be restriped; R261 10; none -/
  moves : List Move
  /-- last recorded CFN; R276 10; 0 -/
  lastCfn : Nat
  /-- frames recorded in the current clip; R276 10; 0 -/
  frames : Nat
  /-- the input has been lost: no more pictures are taken, no chunk is started; R273 10; false -/
  powerStop : Bool
  flushStop : Bool
  /-- the clip being played; R212 8; none -/
  play : Option Play
  deriving DecidableEq, Repr

def Recorder.reset : Recorder :=
  { ports := Vector.replicate 4 MediaPort.reset, reel := 0, clip := 0, takes := [], nextTake := 0, buffer := [], chunks := [],
    nextChunk := 0, moves := [], lastCfn := 0, frames := 0, powerStop := false, flushStop := false, play := none }

end Sys2Proof.Machine
end

