-- ==== Sys2Proof/Machine/Parts/Mem.lean ====
section
/-! DEFINITION. State of DRAM and of Grotto (ch. 16). -/

namespace Sys2Proof.Machine

/-- STATE of a rank (Table 16.7), in its order. -/
inductive RankState where
  | active | powerdown | source | spare | target | retired | degraded
  deriving DecidableEq, Repr

/-- One physical rank (R399, R418). -/
structure Rank where
  /-- STATE; R418 16; ACTIVE (0 after power-up) -/
  state : RankState
  /-- LAYER; R418 16; 0 -/
  layer : Nat
  /-- POS: position, 31 for none; R418 16; 0 after power-up -/
  pos : Nat
  /-- EYE_MIN; R418 16; 0 -/
  eye : Nat
  /-- TRAIN_FAILS; R418 16; 0 -/
  fails : Nat
  /-- refreshed at the doubled rate; R411 16; false -/
  hot : Bool
  /-- instant of the last request for it; R411 16; 0 -/
  lastReq : Nat
  /-- code words that are poisoned; R413 16; none -/
  poisoned : List Nat
  deriving DecidableEq, Repr

def Rank.reset : Rank := ⟨.active, 0, 0, 0, 0, false, 0, []⟩

/-- The migration in progress (R414). -/
structure Migration where
  source : Nat
  target : Nat
  /-- copy pointer p, in bytes of the raw rank -/
  p : Nat
  started : Nat
  poisoned : Nat
  deriving DecidableEq, Repr

/-- A request of a port that waits to be issued (R406): where its code word lies, what it writes (none for a read), the wrong symbols
that a read meets, and when it was made. -/
structure DramReq where
  port : Nat
  layer : Nat
  pos : Nat
  /-- code word of the rank's data -/
  word : Nat
  data : Option (List (BitVec 8))
  errs : Nat
  at_ : Nat
  deriving DecidableEq, Repr

/-- DRAM (R399 to R415). -/
structure Dram where
  ranks : Vector Rank 32
  /-- contents: data byte b of rank r at r x 2^32 + b, where an unlisted one reads 0; R399 16; nothing listed (DESIGN CHOICE,
  log 6) -/
  mem : List Host.Cell
  /-- ranks retired since power-up; R409 16; none -/
  retired : List Nat
  /-- the migration in progress; R414 16; none -/
  siphon : Option Migration
  /-- ranks that wait for a migration; R414 16; none -/
  queue : List Nat
  /-- last data returned to each port, and whether it was poisoned; R412 16; none -/
  returned : Vector (List (BitVec 8) × Bool) 24
  /-- accesses of the last 100 ms: port, instant, bytes (R418); none -/
  traffic : List (Nat × Nat × Nat)
  /-- requests not issued yet, in the order they were made; R406 16; none -/
  reqs : List DramReq
  /-- token buckets in thousandths of a byte, as they were at an instant; R407 16; 0 until start-up fills them -/
  tok : Vector Int 24
  tokAt : Nat
  /-- instant from which each channel can issue again; R399 16; 0 -/
  busy : Vector Nat 16
  /-- open rows: rank, bank and row; R407 16; none -/
  rows : List (Nat × Nat × Nat)
  /-- port that each channel served last, for its round robin; R407 16; 23 (DESIGN CHOICE, log 159) -/
  turn : Vector Nat 16
  /-- instant of each port's last DRAM_QOS_MISS event; R407 16; none -/
  missAt : Vector (Option Nat) 24
  deriving DecidableEq, Repr

def Dram.reset : Dram :=
  { ranks := Vector.replicate 32 Rank.reset, mem := [], retired := [], siphon := none, queue := [],
    returned := Vector.replicate 24 ([], false), traffic := [], reqs := [], tok := Vector.replicate 24 0, tokAt := 0
    busy := Vector.replicate 16 0, rows := [], turn := Vector.replicate 16 23, missAt := Vector.replicate 24 none }

/-- Grotto (R416, R417). -/
structure Grotto where
  /-- spare rows used of GRA and GRB; R418 16; 0 -/
  spareRows : Vector Nat 2
  /-- rows that have shown an uncorrectable word since they were last repaired: die and row; R417 16; none -/
  badRows : List (Nat × Nat)
  deriving DecidableEq, Repr

def Grotto.reset : Grotto := ⟨Vector.replicate 2 0, []⟩

end Sys2Proof.Machine
end

