-- ==== Sys2Proof/Machine/Bits.lean ====
section
/-! DEFINITION. Bit fields, signed fields, little-endian byte order (R6), and the CRC-32C of R72. -/

namespace Sys2Proof

/-- Bits [hi:lo] of a number, as a number. -/
def bitsOf (v hi lo : Nat) : Nat := (v >>> lo) % 2 ^ (hi + 1 - lo)

/-- Bits [hi:lo] of a word, as a number. -/
def wfield (w : Word) (hi lo : Nat) : Nat := bitsOf w.toNat hi lo

/-- Bit b of a word. -/
def wbit (w : Word) (b : Nat) : Bool := w.getLsbD b

/-- A signed field: the two's complement value of the low n bits of v. -/
def signedOf (n v : Nat) : Int :=
  let u := v % 2 ^ n
  if u < 2 ^ (n - 1) then (u : Int) else (u : Int) - 2 ^ n

/-- The n low bits of an integer in two's complement. -/
def toBits (n : Nat) (x : Int) : Nat := (x % (2 ^ n : Nat)).toNat

/-- An integer held between two limits. -/
def clampInt (lo hi x : Int) : Int := if x < lo then lo else if hi < x then hi else x

/-- A number held at or below a limit. -/
def satNat (hi x : Nat) : Nat := if hi < x then hi else x

/-- The n low bytes of a number, least significant first (R6). -/
def le : (n : Nat) → Nat → List Byte
  | 0, _ => []
  | n + 1, v => BitVec.ofNat 8 v :: le n (v / 256)

/-- The n low bytes of a signed number, least significant first (R6). -/
def leInt (n : Nat) (x : Int) : List Byte := le n (toBits (8 * n) x)

/-- The number whose little-endian bytes these are. -/
def unle : List Byte → Nat
  | [] => 0
  | b :: r => b.toNat + 256 * unle r

/-- A word from fields (hi, lo, value), each cut to its width. -/
def packWord : List (Nat × Nat × Nat) → Nat
  | [] => 0
  | (hi, lo, v) :: r => ((v % 2 ^ (hi + 1 - lo)) <<< lo) ||| packWord r

/-- A word from fields (hi, lo, value). -/
def mkWord (fs : List (Nat × Nat × Nat)) : Word := BitVec.ofNat 32 (packWord fs)

/-- A word that holds one number. -/
def word (v : Nat) : Word := BitVec.ofNat 32 v

/-- A Boolean as a bit. -/
def bit (b : Bool) : Nat := if b then 1 else 0

/-- A list padded with zero bytes, or cut, to n bytes. -/
def padTo : (n : Nat) → List Byte → List Byte
  | 0, _ => []
  | n + 1, [] => 0 :: padTo n []
  | n + 1, b :: r => b :: padTo n r

/-- The bytes of a list of words, least significant byte first. -/
def wordBytes : List Word → List Byte
  | [] => []
  | w :: r => le 4 w.toNat ++ wordBytes r

/-- Ceiling division. -/
def cdiv (a b : Nat) : Nat := (a + b - 1) / b

/-- One bit of the reflected CRC-32C (R72): polynomial 0x82F63B78. -/
def crcBit (c : Nat) : Nat := if c % 2 = 1 then (c >>> 1) ^^^ 0x82F63B78 else c >>> 1

/-- One byte of the CRC-32C. -/
def crcByte (c : Nat) (b : Byte) : Nat :=
  let c := c ^^^ b.toNat
  crcBit (crcBit (crcBit (crcBit (crcBit (crcBit (crcBit (crcBit c)))))))

/-- The running CRC-32C register over a list of bytes. -/
def crcRun : Nat → List Byte → Nat
  | c, [] => c
  | c, b :: r => crcRun (crcByte c b) r

/-- CRC-32C with the parameters of R72: reflected, start and final complement of all ones. -/
def crc32c (bs : List Byte) : Nat := crcRun 0xFFFFFFFF bs ^^^ 0xFFFFFFFF

end Sys2Proof
end

