-- ==== Sys2Proof/Machine/Parts/Meta.lean ====
section
/-! DEFINITION. State of frame metadata (ch. 21) and of the two DEFLATE engines. -/

namespace Sys2Proof.Machine

/-- A record whose hardware fields are frozen (R489): bytes 0-511 and its FLAGS, waiting to be emitted. -/
structure FrozenRec where
  cfn : Nat
  flags : Nat
  hw : List Byte
  /-- instant of its frame's close -/
  closed : Nat
  /-- its firmware fields, once they are written (R454) -/
  fw : Option (List Byte)
  deriving DecidableEq, Repr

/-- A record emitted: port, CFN and its 4,096 bytes. -/
structure SentRec where
  port : Nat
  cfn : Nat
  bytes : List Byte
  deriving DecidableEq, Repr

/-- What the codecs flagged a picture of a frame with (R491). -/
structure CodecFlag where
  hevc : Bool
  stream : Nat
  cfn : Nat
  flags : Nat
  deriving DecidableEq, Repr

/-- A profile selected: the CFN it lands on and its requester (R470). -/
structure ProfSel where
  cfn : Nat
  profile : Nat
  client : Client
  seq : Nat
  deriving DecidableEq, Repr

/-- One open stream of a DEFLATE engine (R499): its last 32 KiB of input newest first, its bytes and the bits of its byte
in progress, and its running Adler-32. -/
structure DeflateStream where
  number : Nat
  zlib : Bool
  window : List Byte
  out : List Byte
  bits : List Bool
  adler : Nat × Nat
  /-- its last block is out -/
  done : Bool
  deriving DecidableEq, Repr

/-- Frame metadata and DEFLATE (ch. 21). -/
structure Meta where
  /-- records frozen and not emitted, of SP0 and SP1, oldest first; R489 21; none -/
  frozen : Vector (List FrozenRec) 2
  /-- records emitted, newest first, at most 64 kept; R489 21; none -/
  sent : List SentRec
  /-- firmware fields of the previous record of each port, for R454; R489 21; 80 zero bytes (DESIGN CHOICE, log 4) -/
  lastFw : Vector (List Byte) 2
  /-- flags of coded pictures, newest first, at most 1,024 kept; R491 21; none -/
  codec : List CodecFlag
  /-- PROFILE: last profile landed, before those of profs; R489 21; 0xFF -/
  profile : Nat
  /-- profiles selected in this run; R470 19; none -/
  profs : List ProfSel
  /-- streams open in the DEFLATE engines, at most 16 each; R499 21; none -/
  deflate : Vector (List DeflateStream) 2
  deriving DecidableEq, Repr

def Meta.reset : Meta :=
  { frozen := Vector.replicate 2 [], sent := [], lastFw := Vector.replicate 2 (padTo 80 []), codec := [], profile := 0xFF,
    profs := [], deflate := Vector.replicate 2 [] }

end Sys2Proof.Machine
end

