-- ==== Sys2Proof/Machine/Parts/Out.lean ====
section
/-! DEFINITION. State of the scan-out heads, of SDI, DisplayPort and network video (ch. 12). -/

namespace Sys2Proof.Machine

/-- A producer picture for a head's store (R308 to R314). -/
structure StorePic where
  /-- CFN, AFN or picture number -/
  cfn : Nat
  flags : Nat
  width : Nat
  height : Nat
  /-- instants of the writes: W_lo(0) and W_lo's step per line, in ticks, with the height of the picture in the store -/
  lo : List Rat
  hi : List Rat
  /-- runs of lines that are not written when the first output frame that meets the picture reads them -/
  late : List (Nat × Nat)
  /-- CFN of the record that describes it (R323) -/
  record : Nat
  /-- samples, once a branch has finished the picture -/
  content : Option OutPic
  deriving DecidableEq, Repr

/-- One text box (R315, Table 19.7). -/
structure TextBox where
  visible : Bool
  opq : Bool
  glyphSet : Nat
  x : Nat
  y : Nat
  fg : Nat
  bg : Nat
  text : List Nat
  deriving DecidableEq, Repr

/-- One marker, a line or a rectangle (R315, Table 19.7). -/
structure Mark where
  visible : Bool
  half : Bool
  rect : Bool
  x0 : Nat
  y0 : Nat
  x1 : Nat
  y1 : Nat
  width : Nat
  colour : Nat
  deriving DecidableEq, Repr

/-- One output frame as a head composes it (R316, R317). -/
structure OutFrame where
  /-- output frame number since the head's start -/
  number : Nat
  /-- instant of its boundary -/
  at_ : Nat
  slate : Bool
  /-- picture in the store, and the one whose lines it still shows where the first is late -/
  pic : Option StorePic
  prev : Option StorePic
  /-- runs of lines of pic that show prev -/
  lateLines : List (Nat × Nat)
  l0Fetch : Bool
  l1Fetch : Bool
  l1 : List Nat
  l2 : List (Nat × TextBox)
  l3 : List (Nat × Mark)
  deriving DecidableEq, Repr

/-- One head (R304 to R321, R336). -/
structure Head where
  /-- STATE: 0 OFF, 1 RUNNING, 2 STOPPED, 3 FAILED; R336 12; 0 -/
  state : Nat
  /-- L0 shows the slate until a picture is read whole; R313 12; true -/
  slate : Bool
  /-- a picture has been read whole since the slate was set; R313 12; false -/
  fresh : Bool
  /-- the picture the store holds, and pictures being written, oldest first; R310 12; none -/
  store : Option StorePic
  incoming : List StorePic
  /-- instant of the last admission, or of the start; R313 12; 0 -/
  lastAdmit : Nat
  /-- the last picture differed in size from the store; R314 12; false -/
  sizeRun : Bool
  /-- the last output frame had a late line; R311 12; false -/
  lateRun : Bool
  /-- output frame number of the next frame; R317 12; 0 -/
  nextFrame : Nat
  /-- the output frame being sent; R310 12; none -/
  cur : Option OutFrame
  /-- last frame sent whole: lines of three components; R315 12; none -/
  raster : Option (List (List (Nat × Nat × Nat)))
  /-- L0_FETCH; R336 12; 0 -/
  l0Fetch : Bool
  /-- SLATE_ON; R336 12; 0 -/
  slateOn : Bool
  /-- TORN; R336 12; 0 -/
  torn : Bool
  /-- CFN whose record went with the last output frame; R336 12; 0 -/
  lastRec : Nat
  /-- packets of that record (R323); none -/
  anc : List (List Nat)
  /-- offset of a LOCKED head's boundaries, ns; R336 12; 0 -/
  offset : Int
  /-- L1_SURF: the surface in use; R336 12; 0 -/
  surf : Nat
  /-- the two L1 surfaces, lines after lines; R317 12; transparent -/
  surfaces : Vector (List Nat) 2
  /-- L2 and L3 lists shown and idle; R317 12; empty -/
  l2Shown : List (Nat × TextBox)
  l2Idle : List (Nat × TextBox)
  l3Shown : List (Nat × Mark)
  l3Idle : List (Nat × Mark)
  /-- receipt of the message that marked L1, L2 and L3 complete; R317 12; none -/
  due : Vector (Option Nat) 3
  /-- changes due at the next boundary missed their deadline; R317 12; false -/
  missed : Bool
  /-- active lines whose L1 pixels are transparent in this frame; R318 12; none -/
  l1Lost : List Nat
  /-- samples of the store shown in the BG colour in this frame: line, first and last column; R417 16; none -/
  damage : List (Nat × Nat × Nat)
  deriving DecidableEq, Repr

def Head.reset : Head :=
  { state := 0, slate := true, fresh := false, store := none, incoming := [], lastAdmit := 0, sizeRun := false,
    lateRun := false, nextFrame := 0, cur := none, raster := none, l0Fetch := false, slateOn := false, torn := false,
    lastRec := 0, anc := [], offset := 0, surf := 0, surfaces := Vector.replicate 2 [], l2Shown := [], l2Idle := [],
    l3Shown := [], l3Idle := [], due := Vector.replicate 3 none, missed := false, l1Lost := [], damage := [] }

/-- What a link of an SDI output carries beside its picture (R322, R323): payload ID, timecode in hours, minutes, seconds and frames, and
the metadata packets with their raster lines. -/
structure SdiExtra where
  payload : List Byte
  timecode : Option (List Nat)
  anc : List (Nat × List Nat)
  deriving DecidableEq, Repr

/-- An SDI output's STATE and FRAC (Table 12.9). -/
structure SdiOut where
  /-- STATE: 0 OFF, 1 SENDING, 2 IDLE; R337 12; 0 -/
  state : Nat
  /-- FRAC; R337 12; 0 -/
  frac : Bool
  /-- what goes with the frame being sent; R322 12; none -/
  extra : Option SdiExtra
  deriving DecidableEq, Repr

/-- An SDI input (R324). -/
structure SdiIn where
  /-- STATE: 0 NO_SIGNAL, 1 LOCKED, 2 UNSUPPORTED; R337 12; 0 -/
  state : Nat
  /-- RATE; R337 12; 0 -/
  rate : Nat
  /-- WIDE; R337 12; 0 -/
  wide : Bool
  deriving DecidableEq, Repr

/-- A DisplayPort output (R326). -/
structure DpOut where
  /-- LINK: 0 NO_SINK, 1 TRAINING, 2 UP, 3 BW_SHORT; R337 12; 0 -/
  link : Nat
  /-- LANES; R337 12; 0 -/
  lanes : Nat
  /-- RATE; R337 12; 0 -/
  rate : Nat
  /-- EDID read under R326; none -/
  edid : List Byte
  /-- the sink's maximum lanes and rate code (R326); 0 -/
  maxLanes : Nat
  maxRate : Nat
  deriving DecidableEq, Repr

/-- One NETVIDEO stream. -/
structure NetStream where
  /-- STATE: 0 OFF, 1 ACTIVE, 2 STOPPED; R337 12; 0 -/
  state : Nat
  /-- RTP sequence number of the next packet, with its extension of 16 bits; R335 12; 0 (DESIGN CHOICE, log 4) -/
  seq : Nat
  /-- RTP timestamp of the last picture sent; R330 12; 0 -/
  ts : Nat
  /-- packets of ancillary data last sent, of a metadata stream; R332 12; none -/
  anc : List (List Nat)
  /-- packets of the last picture sent, in the order sent; R5, R330 0, 12; none -/
  sent : List NetPacket
  /-- what a receive stream has heard; R331 12; nothing -/
  rx : RtpRx
  deriving DecidableEq, Repr

/-- Heads and outputs (ch. 12). -/
structure Outs where
  heads : Vector Head 4
  sdiOut : Vector SdiOut 8
  sdiIn : Vector SdiIn 2
  dp : Vector DpOut 2
  streams : Vector NetStream 16
  /-- ARP and ICMP echo answers sent: link (8 for the management port) and whether an echo, newest first, the model's own
  record; R327, R458 12, 19; DESIGN CHOICE (log 7); none -/
  answers : List (Nat × Bool)
  deriving DecidableEq, Repr

def Outs.reset : Outs :=
  { heads := Vector.replicate 4 Head.reset, sdiOut := Vector.replicate 8 ⟨0, false, none⟩, sdiIn := Vector.replicate 2 ⟨0, 0, false⟩,
    dp := Vector.replicate 2 ⟨0, 0, 0, [], 0, 0⟩, streams := Vector.replicate 16 ⟨0, 0, 0, [], [], RtpRx.reset⟩, answers := [] }

end Sys2Proof.Machine
end

