-- ==== Sys2Proof/Machine/Parts/Pos.lean ====
section
/-! DEFINITION. State of the position channels (ch. 17). -/

namespace Sys2Proof.Machine

/-- The glitch filter of one input: filtered level, last sample, and equal samples in a row (R423). -/
structure Filt where
  level : Bool
  raw : Bool
  run : Nat
  deriving DecidableEq, Repr

/-- One position channel. -/
structure PosChan where
  /-- STATE: 0 OFF, 1 RUNNING, 2 RESTARTING, 3 FAULT; R433 17; 0 -/
  state : Nat
  /-- the channel goes on counting through its restart outage; R432 17; false -/
  keeps : Bool
  /-- filters of A, B and Z; R423 17; low -/
  filt : Vector Filt 3
  /-- position; R432 17; 0 -/
  pos : Int
  /-- REF; R432 17; 0 -/
  ref : Bool
  /-- held at a soft limit; R427 17; false -/
  held : Bool
  /-- a first sample or valid read has completed (R431); false -/
  started : Bool
  /-- h_ok; R425 17; unset -/
  hOk : Option Nat
  /-- HALL code of the last sample; R425 17; none -/
  hLast : Option Nat
  /-- the run of impossible codes goes on; R425 17; false -/
  hBad : Bool
  /-- QUAD, HALL: positions at the last speed updates, newest first; R428 17; none -/
  hist : List Int
  /-- SSI: valid reads, newest first: latch instant on the engine's counter, and position; R426 17; none -/
  reads : List (Nat × Int)
  /-- current speed in counts/s; R428 17; 0 -/
  speed : Int
  /-- Z_POS; R433 17; 0 -/
  zPos : Int
  /-- consecutive SSI errors; R426 17; 0 -/
  ssiErrs : Nat
  /-- instant of the last POS_ILLEGAL; R434 17; none -/
  illAt : Option Nat
  /-- illegal transitions since the previous POS_ILLEGAL; R434 17; 0 -/
  illCount : Nat
  /-- FLAGS gathered since the last sample for each port; R431 17; 0 -/
  flags : Vector Nat 2
  deriving DecidableEq, Repr

def PosChan.reset : PosChan :=
  { state := 0, keeps := false, filt := Vector.replicate 3 ⟨false, false, 0⟩, pos := 0, ref := false, held := false, started := false,
    hOk := none, hLast := none, hBad := false, hist := [], reads := [], speed := 0, zPos := 0, ssiErrs := 0, illAt := none,
    illCount := 0, flags := Vector.replicate 2 0 }

/-- A 16-byte position sample of one channel for one frame (Table 17.4). -/
structure PosSample where
  port : Nat
  cfn : Nat
  ch : Nat
  bytes : List Byte
  deriving DecidableEq, Repr

/-- An SSI sample that waits for the read after its midpoint (R430). -/
structure PosWait where
  port : Nat
  cfn : Nat
  ch : Nat
  /-- midpoint instant on the engine's counter -/
  tm : Nat
  deriving DecidableEq, Repr

/-- The eight channels, the samples of recent frames, and SSI samples that wait. -/
structure Pos where
  chans : Vector PosChan 8
  /-- samples latched, newest first, at most 512 kept (R431); none -/
  samples : List PosSample
  /-- SSI samples not complete (R430); none -/
  waits : List PosWait
  deriving DecidableEq, Repr

def Pos.reset : Pos := ⟨Vector.replicate 8 PosChan.reset, [], []⟩

end Sys2Proof.Machine
end

