-- ==== Sys2Proof/Machine/Parts/Control.lean ====
section
/-! DEFINITION. State of the control messages, the image transfer and the staged gated command (ch. 19), and of the
configuration flash and the key store (ch. 18, 20). -/

namespace Sys2Proof.Machine

/-- STATUS codes (Table 19.3). -/
inductive Status where
  | ok | malformed | crcError | unknownType | state | refused | busy | notFound | noPresence
  deriving DecidableEq, Repr

/-- REASON codes (Table 19.4). -/
inductive Reason where
  | none | inUse | noRoom | runEnded | notConfigured | emptySlot | checkFailed | targetRange | noRun | slotIncomplete
  | generation | keyMismatch
  | commitStep (n : Nat)
  | recordBullet (n : Nat)
  deriving DecidableEq, Repr

/-- A message the engine has sent or waits to send: a response, or a notification when notify is set (Table 19.2). -/
structure OutMsg where
  client : Client
  notify : Bool
  ty : Nat
  seq : Nat
  status : Status
  reason : Reason
  payload : List Byte
  deriving DecidableEq, Repr

/-- A response kept for a repeated request (R462). -/
structure Kept where
  ty : Nat
  seq : Nat
  /-- instant the request was received -/
  at_ : Nat
  msg : OutMsg
  deriving DecidableEq, Repr

/-- What the engine holds for one client (R462, R463). -/
structure ClientState where
  client : Client
  /-- last 32 responses, newest first -/
  kept : List Kept
  /-- SUBSCRIBE mask and least severity forwarded -/
  sub : Option (Nat × Nat)
  /-- SEQ of the next notification -/
  nseq : Nat
  /-- notifications waiting, oldest first -/
  queue : List OutMsg
  lastHeard : Nat
  deriving DecidableEq, Repr

/-- The gated commands of Table 20.2 with what their requests carry. -/
inductive Gated where
  | imageCommit (slot : Nat)
  | keyLoad (kind keyId : Nat) (value check : List Byte)
  | keyErase (mask : Nat)
  | lampOpen
  | timeStep (offsetNs : Int)
  | calCommit (tables : Nat) (fold : Bool) (found : Nat)
  | factoryReset (confirm : Nat)
  deriving DecidableEq, Repr

/-- The staged gated command (R472). -/
structure Staged where
  cmd : Gated
  client : Client
  seq : Nat
  /-- instant of staging -/
  at_ : Nat
  /-- level of PRESENCE_N high at staging, and the instant it last changed -/
  highAt : Bool
  sinceAt : Nat
  /-- presence is satisfied and the command runs: the step of R448 or R471 it waits for -/
  executing : Bool
  deriving DecidableEq, Repr

/-- The image transfer in progress (R471). -/
structure Xfer where
  owner : Client
  total : Nat
  generation : Nat
  /-- the erase runs; XFER_BEGIN's response waits for it: its SEQ and receipt -/
  erasing : Bool
  /-- 256-byte blocks written, ascending -/
  written : List Nat
  lastReq : Nat
  /-- SEQ of the request whose response waits -/
  waiting : Nat
  /-- the read-back check of XFER_END runs on TOTAL and CRC -/
  checking : Option (Nat × Nat)
  deriving DecidableEq, Repr

/-- Transports, clients, transfers and gated commands (ch. 19). -/
structure Control where
  /-- clients heard or subscribed; R462, R463 19; none (the endpoint is subscribed at start) -/
  clients : List ClientState
  /-- datagrams being reassembled, at most 8, with the instant of their first fragment; R458 19; none -/
  frags : List (Nat × Nat)
  /-- instant of the last CTRL_DENIED; R458 19; none -/
  lastDenied : Option Nat
  /-- the staged gated command; R472 19; none -/
  staged : Option Staged
  /-- the image transfer in progress; R471 19; none -/
  xfer : Option Xfer
  /-- slots that hold a complete transfer, false A; R471 19; none -/
  complete : List Bool
  /-- messages sent, newest first: the model's own record of the transports; DESIGN CHOICE (log 7); empty -/
  sent : List OutMsg
  deriving DecidableEq, Repr

/-- Control state before anything is heard. -/
def Control.reset : Control := ⟨[], [], none, none, none, [], []⟩

/-- The two slots of the configuration flash (R435): each a list of the bytes that are not erased. -/
structure Flash where
  /-- bytes of one slot; R435 18; 33,554,432, the least device's (DESIGN CHOICE, log 3) -/
  slotBytes : Nat
  /-- slot A, cells that are not 0xFF; R435 18; blank (DESIGN CHOICE, log 3) -/
  slotA : List Host.Cell
  /-- slot B, cells that are not 0xFF; R435 18; blank (DESIGN CHOICE, log 3) -/
  slotB : List Host.Cell
  deriving DecidableEq, Repr

def Flash.reset : Flash := ⟨33554432, [], []⟩

/-- One key entry: VALUE and KEY_ID (R478). -/
structure KeyEntry where
  value : List Byte
  keyId : Nat
  deriving DecidableEq, Repr

/-- The key store, kept without power (R478, R476, R484). -/
structure KeyStore where
  /-- image-signing key hash; R478 20; absent (DESIGN CHOICE, log 3) -/
  hash : Option KeyEntry
  /-- project key; R478 20; absent (DESIGN CHOICE, log 3) -/
  pkey : Option KeyEntry
  /-- writes and erases of the hash entry, limit 10,000; R478 20; 0 -/
  hashWrites : Nat
  /-- writes and erases of the project key entry; R478 20; 0 -/
  pkeyWrites : Nat
  /-- SEAL_FIRST_S of the permanent record; R476 20; absent -/
  sealFirst : Option Nat
  /-- LAMP_OPENS of the permanent record; R484 20; 0 -/
  lampOpens : Nat
  /-- DTB seconds of each LAMP opening, newest first; R484 20; none -/
  lampSecs : List Nat
  /-- KS_FAULT; R478 20; false -/
  fault : Bool
  deriving DecidableEq, Repr

def KeyStore.reset : KeyStore := ⟨none, none, 0, 0, none, 0, [], false⟩

end Sys2Proof.Machine
end

