-- ==== Sys2Proof/Machine/Parts/Sys.lean ====
section
/-! DEFINITION. State of modes and restarts (ch. 1), of start-up (ch. 22), of the module's power, heat, contacts and
hold-up cartridge (ch. 23), of presence, LAMP and calibration (ch. 20), and of the management cluster (ch. 18). -/

namespace Sys2Proof.Machine

/-- The six operating modes, in the order of Table 1.3. -/
inductive Mode where
  | standby | preview | record | review | offload | service
  deriving DecidableEq, Repr

/-- What a pending change of mode is: a mode request, a record start or a record stop (R18). -/
inductive PendKind where
  | request
  | recStart
  | recStop
  deriving DecidableEq, Repr

/-- A mode change accepted and not yet in effect (R18, R19). -/
structure PendMode where
  kind : PendKind
  mode : Mode
  preview : Bool
  /-- earliest instant of its boundary -/
  notBefore : Nat
  /-- first CFN of its boundary, for a record control of a run -/
  cfn : Option Nat
  /-- held for CFN 0 of the next run (R465) -/
  held : Bool
  /-- who asked, and its request's TYPE and SEQ -/
  client : Option Client
  ty : Nat
  seq : Nat
  late : Bool
  /-- set of drives, reel and clip chosen at acceptance, for a record start -/
  set : List Nat
  reel : Nat
  clip : Option Nat
  /-- its LANDED has been sent (R465) -/
  told : Bool
  deriving DecidableEq, Repr

/-- How far a section restart has gone (R23). -/
inductive UnitStep where
  | verifying   -- steps 1 and 2
  | verified    -- waits for its boundary
  | stopped     -- steps 4 and 5
  deriving DecidableEq, Repr

/-- A section restart in progress (R22 to R26). -/
structure UnitRun where
  /-- UNIT code of Table 19.13 -/
  unit : Nat
  step : UnitStep
  client : Option Client
  seq : Nat
  accepted : Nat
  stoppedAt : Nat
  /-- the second head of a locked pair goes with it (R321) -/
  pair : Bool
  deriving DecidableEq, Repr

/-- Where start-up stands (Table 22.1, R509, R528, R529). -/
inductive Phase where
  | off                    -- no power, or rails off
  | coldHold               -- step 1 held by R529
  | starting (step : Nat)  -- steps 1 to 7
  | halt (step : Nat)      -- start-up halt
  | running                -- step 8 and after
  | thermalHalt
  | stopped                -- units stopped after input loss or a trip (R520)
  deriving DecidableEq, Repr

/-- Modes, restarts and start-up. -/
structure Sys where
  /-- where start-up stands; R503 22; off (no power) -/
  phase : Phase
  /-- instant of entry to step 8; R511 22; 0 (DESIGN CHOICE, log 4) -/
  step8At : Nat
  /-- instant of entry to step 4; R395 15; 0 (DESIGN CHOICE, log 4) -/
  step4At : Nat
  /-- the ROM or SRAM check of step 2 failed, and is retried; R508 22; false -/
  bootFailed : Bool
  /-- operating mode; R15 1; STANDBY, entered at step 8 (DESIGN CHOICE before it, log 4) -/
  mode : Mode
  /-- preview flag; R15 1; 0 -/
  preview : Bool
  /-- pending mode changes, in the order of R19; empty -/
  pend : List PendMode
  /-- section restarts in progress; R26 1; none -/
  units : List UnitRun
  /-- ordinals of units shown FAILED (R24, Table 19.13); none -/
  failed : List Nat
  /-- AUTO_PREVIEW waits for its moment (R511); false -/
  autoDue : Bool
  /-- active slot: false A, true B; R435 18; none before step 3 -/
  active : Option Bool
  /-- slots marked invalid for the rest of this start (R447); none -/
  rejected : List Bool
  /-- generation of the active slot (Table 18.1); 0 -/
  generation : Nat
  /-- firmware build running (R440); 0 -/
  fwBuild : Nat
  /-- DIGEST of every section in effect, and FW_DIGEST at ID 0 (R449); none -/
  digests : List (Nat × Nat)
  /-- the last image's commit waits for COMMIT_CHECK_DONE (R448); false -/
  committing : Bool
  /-- a full restart waits for the endpoint's drain (R512); false -/
  restartDue : Bool
  /-- instant of a fatal fault whose full restart waits for the clips to close (R9, R452); none -/
  fatalAt : Option Nat
  /-- LAMP is open until power is removed (R21, R484); false -/
  lampOpen : Bool
  /-- probe on each LAMP pin (R485); none -/
  lampPins : Vector (Option Nat) 16
  deriving DecidableEq, Repr

def Sys.reset : Sys :=
  { phase := .off, step8At := 0, step4At := 0, bootFailed := false, mode := .standby, preview := false, pend := [], units := [],
    failed := [], autoDue := false, active := none, rejected := [], generation := 0, fwBuild := 0, digests := [],
    committing := false, restartDue := false, fatalAt := none, lampOpen := false, lampPins := Vector.replicate 16 none }

/-- What the maker writes into one engine (STS_SYS words 4 to 13, Table 0.1). -/
structure ModuleId where
  /-- ordering number, 16 ASCII bytes; R1 0; SQX8-MU-A1 (DESIGN CHOICE, log 5) -/
  order : List Byte
  /-- serial number, 16 ASCII bytes; R468 19; zeros (DESIGN CHOICE, log 5) -/
  serial : List Byte
  /-- base MAC address; R468 19; 0 (DESIGN CHOICE, log 5) -/
  mac : Nat
  /-- extended grade SQX8-MU-I1; R1 0; false (DESIGN CHOICE, log 5) -/
  extended : Bool
  deriving DecidableEq, Repr

def ModuleId.reset : ModuleId :=
  ⟨padTo 16 [0x53, 0x51, 0x58, 0x38, 0x2D, 0x4D, 0x55, 0x2D, 0x41, 0x31], padTo 16 [], 0, false⟩

/-- The hold-up cartridge (R522 to R525). -/
structure Holdup where
  /-- present with its latch closed; R522 23; false -/
  present : Bool
  /-- identity memory read and valid; R522 23; false -/
  idValid : Bool
  /-- charged to full voltage; R522 23; false -/
  charged : Bool
  /-- last health measurement in 0.1 J; R523 23; none -/
  health : Option Nat
  /-- the cartridge reports a fault; R522 23; false -/
  fault : Bool
  /-- all conditions of R522 hold (STS_SYS.HOLDUP_READY); false -/
  ready : Bool
  /-- serial number in its identity memory; R523 23; 0 -/
  serial : Nat
  /-- hours in service; R523 23; 0 -/
  hours : Nat
  /-- instant of the last measurement; R523 23; none -/
  measuredAt : Option Nat
  deriving DecidableEq, Repr

def Holdup.reset : Holdup := ⟨false, false, false, none, false, false, 0, 0, none⟩

/-- Power inputs, input loss and heat (ch. 23). -/
structure Power where
  /-- J1 and J2 qualified (R518); false -/
  qualified : Vector Bool 2
  /-- input the engine draws from: 0 J1, 1 J2 (R519); none -/
  inUse : Option Nat
  /-- input has been lost since it last qualified (INPUT_RESTORED, Table 23.11); false -/
  lost : Vector Bool 2
  /-- instant t0 of input loss (R520); none -/
  t0 : Option Nat
  /-- instant t0 of a thermal trip (R528); none -/
  trip : Option Nat
  holdup : Holdup
  /-- cold-plate temperature last read, 0.1 degree C (R528); 250 (DESIGN CHOICE, log 4) -/
  plate : Int
  /-- hottest junction last read, 0.1 degree C (R528); 250 (DESIGN CHOICE, log 4) -/
  junction : Int
  /-- the hot derating condition holds (R528); false -/
  hot : Bool
  /-- the cold condition of R529 holds; false -/
  cold : Bool
  /-- instant at which the hot condition was last logged; R528 23; 0 (DESIGN CHOICE, log 4) -/
  hotAt : Nat
  /-- instant at which the cold condition was last logged; R529 23; 0 (DESIGN CHOICE, log 4) -/
  coldAt : Nat
  /-- the halt was reached by a cold trip (R529); false -/
  coldTrip : Bool
  /-- range found on VIO_A to VIO_G: 0 absent, 1 1.8 V, 2 3.3 V (R532); 0 -/
  vio : Vector (Fin 3) 7
  deriving DecidableEq, Repr

def Power.reset : Power :=
  { qualified := Vector.replicate 2 false, inUse := none, lost := Vector.replicate 2 false, t0 := none, trip := none,
    holdup := Holdup.reset, plate := 250, junction := 250, hot := false, cold := false, hotAt := 0, coldAt := 0, coldTrip := false,
    vio := Vector.replicate 7 0 }

/-- Output contacts whose level a command drives. -/
structure Pins where
  /-- pulses of SPn_XTRIG given (R90); 0 -/
  xtrig : Vector Nat 2
  /-- instant of the last of them: its level follows from XTRIG_US and XTRIG_POL (R90, R96); none -/
  xtrigAt : Vector (Option Nat) 2
  /-- SPn_RST_N level (R97); low without power (DESIGN CHOICE, log 4) -/
  rstN : Vector Bool 2
  /-- PHASE_OUT[2:0] (R111); 0 -/
  phaseOut : Nat
  /-- strobes of PHASE_OUT_STB given (R111); 0 -/
  phaseStb : Nat
  /-- instant of the last of them: high for STB_US (R111); none -/
  stbAt : Option Nat
  /-- pulses of AUX_TRIG given (Table 5.9); 0 -/
  auxTrig : Nat
  /-- instant of the last of them: high for 4 us (Table 5.9); none -/
  auxTrigAt : Option Nat
  /-- PWRFAIL_N level (R536); low -/
  pwrfailN : Bool
  /-- MEDIAn_PWREN (R536); false -/
  pwren : Vector Bool 4
  /-- MEDIAn_PERST_N level (R536); low -/
  perstN : Vector Bool 4
  /-- MEDIAn_REFCLK is driven with 100 MHz from the TCXO (R43); false -/
  refclk : Vector Bool 4
  /-- PRESENCE_N level as sampled (ch. 20): true high; high, by its pull-up -/
  presenceHigh : Bool
  /-- instant of its last change (ch. 20); 0 -/
  presenceSince : Nat
  /-- the loop of SEAL mode is watched (R476); false -/
  sealWatch : Bool
  deriving DecidableEq, Repr

def Pins.reset : Pins :=
  { xtrig := Vector.replicate 2 0, xtrigAt := Vector.replicate 2 none, rstN := Vector.replicate 2 false, phaseOut := 0,
    phaseStb := 0, stbAt := none, auxTrig := 0, auxTrigAt := none, pwrfailN := false, pwren := Vector.replicate 4 false, perstN := Vector.replicate 4 false, refclk := Vector.replicate 4 false, presenceHigh := true,
    presenceSince := 0, sealWatch := false }

/-- The calibration capture of one port (R482). -/
structure CalCap where
  /-- sums of T1 codes, conversion after conversion, 24 bits each -/
  sums : List Nat
  frames : Nat
  firstCfn : Nat
  lastCfn : Nat
  stampS : Nat
  expNs : Nat
  gain : Nat
  deriving DecidableEq, Repr

/-- A file the engine has written on NS5 (R482, R483): its path and its bytes. -/
structure NsFile where
  path : String
  bytes : List Byte
  deriving DecidableEq, Repr

/-- One Esloth core (R452, R455). -/
structure Core where
  /-- instants of its resets within 60 s, newest first (R452); none -/
  resetsAt : List Nat
  /-- RESETS (Table 18.11); 0 -/
  resets : Nat
  /-- LOAD_1S (Table 18.11); 0 -/
  load1s : Nat
  /-- LOAD_MAX (Table 18.11); 0 -/
  loadMax : Nat
  /-- the last second was above LOAD_WARN (R455); false -/
  high : Bool
  /-- last missed deadline code (R452); 0 -/
  lastCode : Nat
  deriving DecidableEq, Repr

def Core.reset : Core := ⟨[], 0, 0, 0, false, 0⟩

/-- The management cluster and the calibration capture. -/
structure Cluster where
  /-- cores 0 to 3 -/
  cores : Vector Core 4
  /-- slack words' fields for deadline codes 1 to 8 (Table 18.11); 0 -/
  slack : Vector Nat 8
  /-- calibration capture of each port while it runs (R482); none -/
  cal : Vector (Option CalCap) 2
  /-- table files a calibration commit has folded, waiting for its swap (R483); none -/
  fold : Option Nat
  /-- files written on NS5 (R482, R483); none -/
  files : List NsFile
  deriving DecidableEq, Repr

def Cluster.reset : Cluster :=
  { cores := Vector.replicate 4 Core.reset, slack := Vector.replicate 8 0, cal := Vector.replicate 2 none,
    fold := none, files := [] }

end Sys2Proof.Machine
end

