-- ==== Sys2Proof/Machine/Parts/Time.lean ====
section
/-! DEFINITION. State of the time base, of network time and of arrays (ch. 14), and of the clock plant (ch. 15). -/

namespace Sys2Proof.Machine

/-- State of a PTP servo (Table 14.7). -/
inductive ServoState where
  | off | listening | tracking | locked | holdover
  deriving DecidableEq, Repr

/-- A Sync waiting for its Follow_Up, or the newest whole Sync (R363, R365). -/
structure SyncInfo where
  master : Nat
  seq : Nat
  /-- receive stamp on the DTB, ticks -/
  rx : Int
  /-- origin time of the master with corrections, ticks -/
  origin : Int
  /-- delayAsymmetry of the port it came by (R364), already part of origin, ticks -/
  asym : Int
  complete : Bool
  deriving DecidableEq, Repr

/-- One PTP servo (R365, R366). -/
structure Servo where
  /-- state; R382 14; OFF -/
  state : ServoState
  /-- last offset, in ticks; R382 14; 0 -/
  offset : Int
  /-- mean path delay, in ticks; R382 14; 0 -/
  path : Int
  /-- frequency term f, in units of 2^-40; R366 14; 0 -/
  f : Int
  /-- accepted offsets with their instants, newest first, those of the last 16 s and at least the last 16; R365 14; none -/
  hist : List (Nat × Int)
  /-- consecutive accepted exchanges with the master; R365 14; 0 -/
  run : Nat
  /-- grandmaster identity; R382 14; 0 -/
  gm : Nat
  /-- master heard; R365 14; none -/
  master : Option Nat
  /-- Announce messages of each foreign master: instants and data sets; R363 14; none -/
  foreign : List (Nat × Announce)
  /-- newest Sync; R365 14; none -/
  sync : Option SyncInfo
  /-- Delay_Req sent and not answered: sequence and transmit stamp; R365 14; none -/
  req : Option (Nat × Int)
  /-- bytes of the last Delay_Req, in network order; R5, R363 0, 14; none -/
  reqBytes : List Byte
  /-- instant of the last accepted exchange; R365 14; none -/
  lastExch : Option Nat
  /-- instant the last Announce came; R365 14; none -/
  lastAnn : Option Nat
  /-- instant of the last Delay_Req (R363); none -/
  lastReq : Option Nat
  /-- instant since which it has been TRACKING or LOCKED; R371 14; none -/
  goodSince : Option Nat
  /-- accepted exchanges since its start; R451 18; 0 -/
  count : Nat
  /-- shown in HOLDOVER until its next update; R367 14; false -/
  stalled : Bool
  deriving DecidableEq, Repr

def Servo.reset : Servo :=
  { state := .off, offset := 0, path := 0, f := 0, hist := [], run := 0, gm := 0, master := none, foreign := [],
    sync := none, req := none, reqBytes := [], lastExch := none, lastAnn := none, lastReq := none, goodSince := none, count := 0, stalled := false }

/-- A peer of the array (R379). -/
structure Peer where
  dev : Nat
  lastHeard : Nat
  dup : Bool
  mismatch : Bool
  deriving DecidableEq, Repr

/-- The DTB, its servos, alignment and the array (ch. 14). -/
structure TimeBase where
  /-- instant on the engine's counter at which the DTB reads 0 s; R359 14; 0 -/
  origin : Int
  /-- adj, in units of 2^-40; R366 14; 0 -/
  adj : Int
  /-- VALID; R382 14; 0 -/
  valid : Bool
  /-- STEPPED; R382 14; 0 -/
  stepped : Bool
  /-- WINDOW; R382 14; 0 after power-up -/
  window : Bool
  /-- step waiting for the next 1 ms tick, ticks; R370 14; none -/
  stepDue : Option Int
  /-- that step uses up the step of R368; R368, R369 14; false -/
  stepUses : Bool
  /-- SLEWING; R382 14; 0 -/
  slewing : Bool
  /-- FOLLOW: 0 none, 1 A, 2 B; R382 14; 0 -/
  follow : Nat
  /-- the followed servo was selected by request; R371 14; false -/
  chosen : Bool
  servos : Vector Servo 2
  /-- UTC offset in seconds; R382 14; 0 -/
  utc : Int
  /-- ALIGN_NOW; R382 14; 0 -/
  alignNow : Bool
  /-- ALIGN_FAULT; R382 14; 0 -/
  alignFault : Bool
  /-- realignment to REFIN waits for a project frame boundary; R374 14; false -/
  realignDue : Bool
  /-- instant of the last REFIN frame start and the REFIN rate code; R374 14; none -/
  refin : Option (Nat × Nat)
  /-- array peers heard; R379 14; none -/
  peers : List Peer
  /-- beacons sent, each with its group and UDP port, newest first (the model's own record); none -/
  beacons : List (Nat × Nat × List Byte)
  /-- Delay_Req messages sent (R363); 0 -/
  delayReqs : Nat
  deriving DecidableEq, Repr

def TimeBase.reset : TimeBase :=
  { origin := 0, adj := 0, valid := false, stepped := false, window := false, stepDue := none, stepUses := false, slewing := false,
    follow := 0, chosen := false, servos := Vector.replicate 2 Servo.reset, utc := 0, alignNow := false,
    alignFault := false, realignDue := false, refin := none, peers := [], beacons := [], delayReqs := 0 }

/-- ROOT_STATE of Table 15.4. -/
inductive RootState where
  | off | acquiring | locked | holdover | held
  deriving DecidableEq, Repr

/-- A loss of a source (R390, R397). -/
inductive LossKind where
  | stop | phaseHit | rate | servo
  deriving DecidableEq, Repr

/-- What a source's monitor holds (R389). Frequencies are offsets from nominal in 0.001 ppm. -/
structure SrcMon where
  good : Nat
  fLast : Option Int
  fRef : Int
  eligible : Bool
  /-- instant it became eligible -/
  since : Nat
  /-- it has stopped since its last good window -/
  stopped : Bool
  deriving DecidableEq, Repr

def SrcMon.reset : SrcMon := ⟨0, none, 0, false, 0, false⟩

/-- The clock plant (ch. 15). -/
structure Clk where
  /-- ROOT_STATE; R397 15; OFF -/
  root : RootState
  /-- SELECTED; R397 15; 3 (none) -/
  selected : Option ClkSrc
  tcxo : SrcMon
  refin : SrcMon
  ptp : SrcMon
  /-- CLASS_V; R397 15; 0 -/
  classV : Bool
  /-- CLASS_A; R397 15; 0 -/
  classA : Bool
  /-- instant Class V began; R393 15; 0 -/
  classVSince : Nat
  /-- the source the root leaves in a revert not yet complete; R391 15; none -/
  revert : Option ClkSrc
  /-- instant LOCKED was entered from ACQUIRING, for release; R394 15; none -/
  lockedAt : Option Nat
  /-- the root has been LOCKED since power-up; R385 15; false -/
  everLocked : Bool
  /-- the cores run on CLK_MGT; R385 15; false -/
  mgt : Bool
  /-- the DTB is advanced by CLK_FAB; R385 15; false -/
  dtbFab : Bool
  /-- root offset from the TCXO in 0.001 ppm; R397 15; 0 -/
  offset : Int
  /-- last loss and its source; R397 15; none -/
  lastLoss : Option (LossKind × ClkSrc)
  /-- parent gates open (order of Table 15.1); R396 15; closed -/
  parents : Vector Bool 5
  /-- leaves in use under each parent, ascending (numbered by log 56); R396 15; none -/
  leaves : Vector (List Nat) 5
  deriving DecidableEq, Repr

def Clk.reset : Clk :=
  { root := .off, selected := none, tcxo := SrcMon.reset, refin := SrcMon.reset, ptp := SrcMon.reset, classV := false,
    classA := false, classVSince := 0, revert := none, lockedAt := none, everLocked := false, mgt := false,
    dtbFab := false, offset := 0, lastLoss := none, parents := Vector.replicate 5 false,
    leaves := Vector.replicate 5 [] }

end Sys2Proof.Machine
end

