-- ==== Sys2Proof/Machine/State.lean ====
section
/-! DEFINITION. The state of the engine: everything the manual gives it, as plain data, and the state after reset. -/

namespace Sys2Proof.Machine

/-- Why the engine stops with a fault. Both stops are safe: nothing is done at an address the memory does not have. -/
inductive Fault where
  /-- raised by DRAM_READ, DRAM_WRITE and DRAM_SCRUB: the word lies beyond the rank (R399, R400). Safe. -/
  | dramAddress
  /-- raised by GROTTO_READ and GROTTO_SCRUB: the word lies beyond Grotto's 256 MiB (Table 1.6). Safe. -/
  | grottoAddress
  deriving DecidableEq, Repr

/-- Why the model refuses a command. -/
inductive Refusal where
  /-- raised by an arm of exec without a meaning; safe -/
  | notModelled (mnemonic : String)
  deriving DecidableEq, Repr

/-- One section of the configuration in effect (R441): its ID, PARAM and words. -/
structure Sect where
  id : Nat
  param : Nat
  words : List Word
  deriving DecidableEq, Repr

/-- A configuration: the sections of an image, by ascending ID. -/
abbrev Cfg := List Sect

/-- Everything that needs power, all units of the engine together. -/
structure Engine where
  /-- instant of the command being taken, ticks of 2^-16 ns since power-up; R359 14; 0 -/
  now : Nat
  /-- draws of free values made so far (the model's own field, DESIGN CHOICE, log 20); 0 -/
  free : Nat
  /-- sections of the configuration in effect, by ascending ID; R441 18; none -/
  cfg : Cfg
  /-- counter instances that are not zero; R8 0; none -/
  counters : List CtrCell
  log : Log
  ctl : Control
  sys : Sys
  modId : ModuleId
  power : Power
  pins : Pins
  cluster : Cluster
  lanes : Vector Lane 62
  ports : Vector Port 2
  proj : Proj
  phaseIn : PhaseIn
  aux : Aux
  time : TimeBase
  clk : Clk
  raw : RawFe
  colour : Colour
  fsr : Fsr
  pos : Pos
  aud : Audio
  hevc : Hevc
  md : Meta
  rec_ : Recorder
  ep : Ep
  outs : Outs
  dram : Dram
  grotto : Grotto
  deriving DecidableEq, Repr

/-- The engine without power. -/
def Engine.reset : Engine :=
  { now := 0, free := 0, cfg := [], counters := [], log := Log.reset, ctl := Control.reset, sys := Sys.reset,
    modId := ModuleId.reset, power := Power.reset, pins := Pins.reset, cluster := Cluster.reset,
    lanes := Vector.replicate 62 Lane.reset, ports := Vector.replicate 2 Port.reset, proj := Proj.reset,
    phaseIn := PhaseIn.reset, aux := Aux.reset, time := TimeBase.reset, clk := Clk.reset, raw := RawFe.reset,
    colour := Colour.reset, fsr := Fsr.reset, pos := Pos.reset, aud := Audio.reset, hevc := Hevc.reset, md := Meta.reset, rec_ := Recorder.reset,
    ep := Ep.reset, outs := Outs.reset, dram := Dram.reset, grotto := Grotto.reset }

/-- The state of the block: its units, the configuration flash, the key store, and the commands that wait. -/
structure State where
  eng : Engine
  /-- configuration flash; R435 18 -/
  flash : Flash
  /-- key store; R478 20 -/
  ks : KeyStore
  /-- commands waiting, first in first out -/
  pending : List Instr
  deriving DecidableEq, Repr

/-- The block as it is before power comes: blank flash, empty key store, an empty queue. -/
def State.reset : State := ⟨Engine.reset, Flash.reset, KeyStore.reset, []⟩

/-- Three outcomes of a step, for this block. -/
abbrev Out := Host.Outcome State Fault Refusal

end Sys2Proof.Machine
end

