-- ==== Sys2Proof/Machine/Ops.lean ====
section
/-! DEFINITION. The named operations every command is built from: time and stamps, memory, the configuration in
effect, counters, the event log, and the messages of the control transports. -/

namespace Sys2Proof

/-- The source of a transport's control counters (R473). -/
def Client.source : Client → Nat
  | .uart => 0x0360 | .eth _ _ => 0x0361 | .endpoint => 0x0242

/-- The transport of a client, as GATED events name it: 0 UART, 1 Ethernet, 2 endpoint (log 9). -/
def Client.transport : Client → Nat
  | .uart => 0 | .eth _ _ => 1 | .endpoint => 2

/-- The client is on management Ethernet. -/
def Client.isEth : Client → Bool
  | .eth _ _ => true
  | _ => false

end Sys2Proof

namespace Sys2Proof.Machine

/-- A field of a numbered unit changed by f. -/
def vmod {α : Type} {n : Nat} (v : Vector α n) (i : Nat) (f : α → α) : Vector α n :=
  if h : i < n then v.set i (f v[i]) else v

/-- A numbered unit, or a default beyond the last. -/
def vget {α : Type} {n : Nat} (v : Vector α n) (i : Nat) (d : α) : α := if h : i < n then v[i] else d

/-- Ticks in n nanoseconds, microseconds, milliseconds and seconds (Table 14.1). -/
def ns (n : Nat) : Nat := n * 65536
def us (n : Nat) : Nat := n * 65536000
def ms (n : Nat) : Nat := n * 65536000000
def secs (n : Nat) : Nat := n * 65536000000000

/-- Seconds, nanoseconds and fraction of a DTB value in ticks (Table 14.1). -/
def dtbSec (d : Int) : Nat := (d / 65536000000000).toNat
def dtbNs (d : Int) : Nat := (d / 65536 % 1000000000).toNat
def dtbFrac (d : Int) : Nat := (d % 65536).toNat

/-- Memory: what an address reads as, when an unlisted one reads as d. -/
def memRead (d : Byte) : List Host.Cell → Nat → Byte
  | [], _ => d
  | (k, v) :: r, a => if k = a then v else memRead d r a

/-- Memory: n bytes from an address. -/
def memBytes (d : Byte) (m : List Host.Cell) : (n : Nat) → Nat → List Byte
  | 0, _ => []
  | n + 1, a => memRead d m a :: memBytes d m n (a + 1)

/-- The cells of a run of bytes, without those that read as an unlisted address does. -/
def cellsOf (d : Byte) : Nat → List Byte → List Host.Cell
  | _, [] => []
  | a, b :: r => if b = d then cellsOf d (a + 1) r else (a, b) :: cellsOf d (a + 1) r

/-- Memory: a run of bytes written at an address. -/
def memWrite (d : Byte) (m : List Host.Cell) (a : Nat) (bs : List Byte) : List Host.Cell :=
  m.filter (fun c => c.1 < a) ++ cellsOf d a bs ++ m.filter (fun c => a + bs.length ≤ c.1)

/-- The canonical form of a memory: addresses strictly rising, none equal to what an unlisted address reads as. -/
def memWf (d : Byte) : List Host.Cell → Bool
  | [] => true
  | [c] => c.2 != d
  | c :: c' :: r => c.2 != d && decide (c.1 < c'.1) && memWf d (c' :: r)

/-- The time passes to the instant of a command; waiting notifications leave on their way (log 8). -/
def ClientState.drain (c : ClientState) : ClientState :=
  if c.client = .endpoint then c else { c with queue := [] }

/-- Notifications that leave the UART's and the Ethernet's queues as time passes, newest first. -/
def Control.leaving (c : Control) : List OutMsg :=
  (c.clients.flatMap fun x => if x.client = .endpoint then [] else x.queue).reverse

def Control.drain (c : Control) : Control :=
  { c with clients := c.clients.map ClientState.drain, sent := c.leaving ++ c.sent }

/-- The DTB now, in ticks (R359). -/
def Engine.dtb (e : Engine) : Int := (e.now : Int) - e.time.origin

/-- The DTB at another instant of the engine's counter. -/
def Engine.dtbAt (e : Engine) (t : Nat) : Int := (t : Int) - e.time.origin

/-- A section of a configuration. -/
def Cfg.sect? (c : Cfg) (id : Nat) : Option Sect := c.find? (·.id = id)

def Cfg.has (c : Cfg) (id : Nat) : Bool := (c.sect? id).isSome

/-- Word i of a section; 0 when the section is absent. -/
def Cfg.w (c : Cfg) (id i : Nat) : Word :=
  match c.sect? id with
  | some s => s.words.getD i 0
  | none => 0

/-- Bits [hi:lo] of word i of a section. -/
def Cfg.f (c : Cfg) (id i hi lo : Nat) : Nat := wfield (c.w id i) hi lo

/-- Bit b of word i of a section. -/
def Cfg.b (c : Cfg) (id i b : Nat) : Bool := wbit (c.w id i) b

/-- Words of a section. -/
def Cfg.ws (c : Cfg) (id : Nat) : List Word :=
  match c.sect? id with
  | some s => s.words
  | none => []

/-- The same of the configuration in effect. -/
def Engine.has (e : Engine) (id : Nat) : Bool := e.cfg.has id
def Engine.cw (e : Engine) (id i : Nat) : Word := e.cfg.w id i
def Engine.cf (e : Engine) (id i hi lo : Nat) : Nat := e.cfg.f id i hi lo
def Engine.cb (e : Engine) (id i b : Nat) : Bool := e.cfg.b id i b

/-- The engine's device ID (R377). -/
def Engine.deviceId (e : Engine) : Nat := e.cf 0x0081 0 30 19

/-- A counter instance moved up by n, saturating (R8). -/
def ctrAdd (l : List CtrCell) (c : Ctr) (src idx n : Nat) : List CtrCell :=
  match l with
  | [] => [⟨c, src, idx, BitVec.ofNat 32 (satNat 0xFFFFFFFF n)⟩]
  | x :: r =>
    if x.ctr = c ∧ x.src = src ∧ x.idx = idx then
      { x with val := BitVec.ofNat 32 (satNat 0xFFFFFFFF (x.val.toNat + n)) } :: r
    else x :: ctrAdd r c src idx n

/-- The value of a counter instance. -/
def ctrVal (l : List CtrCell) (c : Ctr) (src idx : Nat) : Nat :=
  match l with
  | [] => 0
  | x :: r => if x.ctr = c ∧ x.src = src ∧ x.idx = idx then x.val.toNat else ctrVal r c src idx

/-- n more on counter c of a source, instance idx. -/
def Engine.bumpN (c : Ctr) (src idx n : Nat) (e : Engine) : Engine :=
  if n = 0 then e else { e with counters := ctrAdd e.counters c src idx n }

/-- One more on counter c of a source. -/
def Engine.bump (c : Ctr) (src : Nat) (e : Engine) : Engine := e.bumpN c src 0 1

def Engine.ctr (e : Engine) (c : Ctr) (src idx : Nat) : Nat := ctrVal e.counters c src idx

/-- Power is on, so that events are logged and counters count (steps 2 and after, and a cold hold without). -/
def Phase.powered : Phase → Bool
  | .off => false
  | _ => true

/-- Firmware runs on the cores: from the end of step 3, except in a halt at step 3 (R503, R510). -/
def Phase.firmware : Phase → Bool
  | .starting n => decide (4 ≤ n)
  | .halt n => decide (4 ≤ n)
  | .running | .thermalHalt | .stopped => true
  | .off | .coldHold => false

/-- An event handed to the merger with the DTB's stamp (R493, R497). -/
def Engine.emit (src : Nat) (ev : Ev) (data : List Byte) (e : Engine) : Engine :=
  let r : EventRec := ⟨dtbSec e.dtb, dtbNs e.dtb, e.deviceId, src, ev, data.take 14⟩
  { e with log := { e.log with held := e.log.held ++ [⟨e.now, e.log.steps, r⟩] } }

/-- Data of an event from values (bytes, value): little-endian, in order; one that would pass byte 31 is left out (R495). -/
def evData : List (Nat × Nat) → List Byte :=
  List.foldl (fun d v => if 14 < d.length + v.1 then d else d ++ le v.1 v.2) []

/-- The 32 bytes of an event record (Table 21.4). -/
def EventRec.bytes (r : EventRec) : List Byte :=
  le 8 r.sec ++ le 4 r.ns ++ le 2 r.dev ++ le 2 (r.src % 4096 + 4096 * r.ev.severity) ++ le 2 r.ev.code ++
    padTo 14 r.data

/-- Codes of STATUS (Table 19.3). -/
def Status.code : Status → Nat
  | .ok => 0 | .malformed => 1 | .crcError => 2 | .unknownType => 3 | .state => 4 | .refused => 5 | .busy => 6
  | .notFound => 7 | .noPresence => 8

/-- Codes of REASON (Table 19.4). -/
def Reason.code : Reason → Nat
  | .none => 0 | .inUse => 1 | .noRoom => 2 | .runEnded => 3 | .notConfigured => 4 | .emptySlot => 5
  | .checkFailed => 6 | .targetRange => 7 | .noRun => 8 | .slotIncomplete => 9 | .generation => 10
  | .keyMismatch => 11
  | .commitStep n => 0x0100 + n % 256
  | .recordBullet n => 0x0200 + n % 256

/-- A client as first heard: the endpoint is subscribed to every type from start (R463). -/
def ClientState.fresh (c : Client) (t : Nat) : ClientState :=
  { client := c, kept := [], sub := if c = .endpoint then some (0xFFFFFFFF, 0) else none, nseq := 0, queue := [],
    lastHeard := t }

def Engine.client? (e : Engine) (c : Client) : Option ClientState := e.ctl.clients.find? (·.client = c)

def Engine.clientD (e : Engine) (c : Client) : ClientState := (e.client? c).getD (ClientState.fresh c e.now)

/-- The list of clients with one of them replaced, or added. -/
def putClient (l : List ClientState) (x : ClientState) : List ClientState :=
  match l with
  | [] => [x]
  | y :: r => if y.client = x.client then x :: r else y :: putClient r x

def Engine.putClient (x : ClientState) (e : Engine) : Engine :=
  { e with ctl := { e.ctl with clients := Machine.putClient e.ctl.clients x } }

/-- The Ethernet client heard least recently. -/
def oldestEth (l : List ClientState) : Option ClientState :=
  (l.filter (·.client.isEth)).foldl
    (fun a x => match a with
      | none => some x
      | some y => if x.lastHeard < y.lastHeard then some x else some y) none

/-- Room for one more Ethernet client: at most 16 keep their responses (R462). -/
def Engine.makeRoom (c : Client) (e : Engine) : Engine :=
  if c.isEth && (e.client? c).isNone && decide (16 ≤ (e.ctl.clients.filter (·.client.isEth)).length) then
    match oldestEth e.ctl.clients with
    | some o =>
      if o.sub.isSome then e.putClient { o with kept := [] }
      else { e with ctl := { e.ctl with clients := e.ctl.clients.filter (·.client ≠ o.client) } }
    | none => e
  else e

/-- A client is heard now (R462, R463). -/
def Engine.heard (c : Client) (e : Engine) : Engine :=
  let e := e.makeRoom c
  e.putClient { e.clientD c with lastHeard := e.now }

/-- The bytes of a message (R460): header, payload and CRC. -/
def OutMsg.bytes (m : OutMsg) : List Byte :=
  let b := le 2 0x5851 ++ le 1 1 ++ le 1 (if m.notify then 2 else 1) ++ le 2 m.ty ++ le 2 m.payload.length ++ le 4 m.seq ++
    le 2 m.status.code ++ le 2 m.reason.code ++ m.payload
  b ++ le 4 (crc32c b)

/-- A completion queue takes an entry while it has a free one; otherwise the completion waits (R282). -/
def EpCq.post (c : EpCq) (x : Completion) : EpCq × List Completion :=
  if (c.tail + 1) % max 1 c.size = c.head % max 1 c.size then ({ c with waiting := c.waiting ++ [x] }, [])
  else ({ c with tail := (c.tail + 1) % max 1 c.size }, [x])

/-- A vector's message is sent, or pends while the vector is masked, as PCIe has it (R278; log 25). -/
def Ep.send (v : Nat) (p : Ep) : Ep :=
  let x := vget p.msix v MsixVector.reset
  if x.masked then { p with msix := vmod p.msix v fun y => { y with pending := true } }
  else { p with msix := vmod p.msix v fun y => { y with pending := false }, msgs := (x.addr, x.data) :: p.msgs }

/-- Entries posted to a completion queue raise its vector (R278). -/
def Ep.posted (c : EpCq) (xs : List Completion) (p : Ep) : Ep :=
  let p := { p with done := xs ++ p.done }
  if c.ien && !xs.isEmpty then p.send c.vector else p

/-- A command completes into the completion queue of its submission queue; without that queue nothing receives it
(R294). -/
def Ep.complete (x : Completion) (p : Ep) : Ep :=
  match p.sqs.find? (·.qid = x.q) with
  | none => p
  | some sq =>
    match p.cqs.find? (·.qid = sq.cq) with
    | none => p
    | some c =>
      let r := c.post x
      ({ p with cqs := p.cqs.map (fun y => if y.qid = c.qid then r.1 else y) } : Ep).posted c r.2

def Engine.modEp (f : Ep → Ep) (e : Engine) : Engine := { e with ep := f e.ep }

/-- A command completes with a status (Table 11.5). -/
def Engine.epStatus (q cid sct sc : Nat) (dnr : Bool) (dw0 : Nat) (data : List Byte) (e : Engine) : Engine :=
  e.modEp (·.complete ⟨q, cid, sct, sc, dnr, dw0, data⟩)

/-- A command completes with success. -/
def Engine.epOk (q cid dw0 : Nat) (data : List Byte) (e : Engine) : Engine := e.epStatus q cid 0 0 false dw0 data

/-- A feature's value: as set, or as the controller has it when nothing set it. -/
def Ep.feature (p : Ep) (fid sel : Nat) : Nat :=
  let k := if fid = 0x09 then sel else 0
  match p.feats.find? fun f => f.1 = fid && f.2.1 = k with
  | some f => f.2.2
  | none => if fid = 0x07 then 0x003F003F else if fid = 0x0B then 0x100 else if fid = 0x09 then k else 0

/-- An asynchronous event of the controller: its log page's next event follows only once the page has been read (R288,
R295, R300). The host turns the notices off with bit 8 of Asynchronous Event Configuration (Table 11.2). -/
def Engine.epEvent (ty info page : Nat) (e : Engine) : Engine :=
  if !e.ep.ccEn || e.ep.masked.contains page || (ty = 2 && !(e.ep.feature 0x0B 0).testBit 8) then e
  else
    let e := e.modEp fun p => { p with masked := page :: p.masked }
    match e.ep.aers with
    | cid :: r => (e.modEp fun p => { p with aers := r }).epOk 0 cid (ty + 256 * info + 65536 * page) []
    | [] => e.modEp fun p => { p with events := p.events ++ [(ty, info, page)] }

/-- ENDPOINT.CTRL_EN: the CONTROL command and the notification log are enabled (R279). -/
def Engine.ctrlEn (e : Engine) : Bool := e.has 0x0052 && e.cb 0x0052 3 30

/-- The first entry that a test picks, changed by f. -/
def modFirst {α : Type} (q : α → Bool) (f : α → α) : List α → List α
  | [] => []
  | x :: r => if q x then f x :: r else x :: modFirst q f r

/-- The request is the one that the oldest CONTROL in progress without one carries (R299). -/
def Engine.takeControl (h : MsgHdr) (ty : Nat) (e : Engine) : Engine :=
  if h.client = .endpoint then
    e.modEp fun p => { p with ctrls := modFirst (·.msg.isNone) (fun c => { c with msg := some (h.seq, ty) }) p.ctrls }
  else e

/-- The response of a CONTROL goes into its buffer, cut off at BUF_LEN, and the command completes (R299). -/
def Engine.answerControl (m : OutMsg) (e : Engine) : Engine :=
  match e.ep.ctrls.find? fun c => c.msg = some (m.seq, m.ty) with
  | none => e
  | some c =>
    let bs := m.bytes
    let cut := decide (c.bufLen < bs.length)
    (e.modEp fun p => { p with ctrls := p.ctrls.erase c }).epOk 0 c.cid (bs.length + (if cut then 2147483648 else 0))
      (bs.take c.bufLen)

/-- A message leaves on its transport. -/
def Engine.transmit (m : OutMsg) (e : Engine) : Engine :=
  let e : Engine := { e with ctl := { e.ctl with sent := m :: e.ctl.sent } }
  if m.client = .endpoint && !m.notify then e.answerControl m else e

/-- The response to a request: sent, and kept for a repetition (R462). A MALFORMED one is counted and not kept (R461). -/
def Engine.reply (h : MsgHdr) (ty : Nat) (st : Status) (rs : Reason) (payload : List Byte) (e : Engine) : Engine :=
  let m : OutMsg := ⟨h.client, false, ty, h.seq, st, rs, payload⟩
  if st = .malformed then (e.transmit m).bump .ctrlMalformed h.client.source
  else
    let c := e.clientD h.client
    (e.transmit m).putClient { c with kept := (⟨ty, h.seq, e.now, m⟩ :: c.kept).take 32 }

def Engine.ok (h : MsgHdr) (ty : Nat) (e : Engine) : Engine := e.reply h ty .ok .none []

def Engine.refuse (h : MsgHdr) (ty : Nat) (st : Status) (rs : Reason) (e : Engine) : Engine :=
  e.reply h ty st rs []

/-- Notifications the queue of a client holds: 64, or NOTIFY_DEPTH + 1 for the endpoint (R463, R300). -/
def Engine.queueMax (e : Engine) (c : Client) : Nat :=
  if c = .endpoint then e.cf 0x0052 0 11 8 + 1 else 64

/-- A notification queued for one client, with its next SEQ; a full queue drops its oldest into the counter. -/
def Engine.queueTo (c : Client) (ty : Nat) (payload : List Byte) (e : Engine) : Engine :=
  let x := e.clientD c
  let q := x.queue ++ [⟨c, true, ty, x.nseq % 4294967296, .ok, .none, payload⟩]
  let extra := q.length - e.queueMax c
  let e := e.putClient { x with queue := q.drop extra, nseq := x.nseq + 1 }
  let e := if c = .endpoint && x.queue.isEmpty then e.epEvent 7 0 0xC0 else e
  e.bumpN (if c = .endpoint then .epNotifyDrop else .ctrlNotifyDrop) c.source 0 extra

/-- Does a client's subscription hold a notification type; the endpoint's holds every type from start (R463). -/
def ClientState.wants (x : ClientState) (ty sev : Nat) : Bool :=
  match x.sub with
  | none => false
  | some (mask, least) => mask.testBit (ty - 0x0501) && (ty != 0x0508 || decide (least ≤ sev))

/-- Clients that receive a notification: subscribers, and the requester it belongs to (R463). -/
def Engine.receivers (ty sev : Nat) (owner : Option Client) (e : Engine) : List Client :=
  let subs := ((e.ctl.clients.filter (·.wants ty sev)).map (·.client)).filter (· ≠ .endpoint)
  let subs := if e.ctrlEn && (e.clientD .endpoint).wants ty sev then subs ++ [.endpoint] else subs
  match owner with
  | some c => if subs.contains c then subs else subs ++ [c]
  | none => subs

/-- A notification to its subscribers, and to the client it belongs to (R463). -/
def Engine.notifySev (ty sev : Nat) (owner : Option Client) (payload : List Byte) (e : Engine) : Engine :=
  (e.receivers ty sev owner).foldl (fun e c => e.queueTo c ty payload) e

def Engine.notify (ty : Nat) (owner : Option Client) (payload : List Byte) (e : Engine) : Engine :=
  e.notifySev ty 0 owner payload

/-- STATS_READY notifications that wait leave on their way to the subscribers (R152). -/
def Engine.sendNotes (e : Engine) : Engine :=
  e.raw.notes.foldl (fun e n => e.notify 0x0502 none n) { e with raw := { e.raw with notes := [] } }

/-- The engine at the instant of a command: time passes, and what waits to be sent leaves (log 8). -/
def Engine.at (t : Nat) (e : Engine) : Engine :=
  if e.now < t then { e with now := t, ctl := e.ctl.drain }.sendNotes else e

/-- LANDED (Table 19.11): the request's TYPE and SEQ, the CFN, the port, LATE and OVERRUN. -/
def Engine.landed (owner : Client) (ty seq cfn port : Nat) (late overrun : Bool) (e : Engine) : Engine :=
  e.notify 0x0501 (some owner)
    (le 2 ty ++ le 2 0 ++ le 4 seq ++ le 4 cfn ++ le 1 port ++ le 1 (bit late + 2 * bit overrun) ++ le 2 0)

/-- What becomes of a request before its own rules are looked at. -/
inductive Admit where
  | ignore              -- the transport does not answer
  | dup (k : Kept)      -- a repetition (R462)
  | state               -- answered with STATE (R507, R509, R528)
  | go
  deriving DecidableEq, Repr

/-- An address lies in the network from which requests are accepted (R458). -/
def Engine.allowed (e : Engine) (addr : Nat) : Bool :=
  let n := e.cf 0x00C0 6 31 26
  decide (addr / 2 ^ (32 - n) = (e.cw 0x00C0 5).toNat / 2 ^ (32 - n))

/-- The transport of a client answers at this point of start-up (R507, R509, R510, R528, R457). -/
def Engine.answers (e : Engine) (c : Client) : Bool :=
  match c with
  | .uart =>
    match e.sys.phase with
    | .off | .coldHold => false
    | .starting n => decide (4 ≤ n) && e.cb 0x00C0 0 31
    | .halt 3 => true
    | _ => e.cb 0x00C0 0 31
  | .eth addr _ =>
    match e.sys.phase with
    | .running | .thermalHalt => e.cb 0x00C0 0 30 && e.allowed addr
    | _ => false
  | .endpoint =>
    match e.sys.phase with
    | .running => e.ctrlEn && (e.ep.ctrls.take 4).any (·.msg.isNone)
    | _ => false

/-- Status queries that are answered before step 8 and in halts: STATUS, COUNTERS and LOG_READ (R507). -/
def earlyType (ty : Nat) : Bool := ty = 0x0401 || ty = 0x0402 || ty = 0x0403

/-- The phase of start-up lets a request of this type through to its own rules (R507, R509, R510, R528). -/
def Phase.allows (p : Phase) (ty : Nat) : Bool :=
  match p with
  | .running => true
  | .halt 3 => earlyType ty || ty / 256 = 6 || ty / 256 = 7
  | _ => earlyType ty

/-- A response kept for this client, TYPE and SEQ within the last 5 s (R462). -/
def Engine.kept? (e : Engine) (h : MsgHdr) (ty : Nat) : Option Kept :=
  match e.client? h.client with
  | none => none
  | some x => x.kept.find? fun k => k.ty = ty ∧ k.seq = h.seq ∧ e.now ≤ k.at_ + secs 5

/-- What becomes of a request when it is received. -/
def Engine.intake (e : Engine) (h : MsgHdr) (ty : Nat) : Admit :=
  if e.answers h.client then
    match e.kept? h ty with
    | some k => .dup k
    | none => if e.sys.phase.allows ty then .go else .state
  else .ignore

/-- A request is received: its client is heard, and from the endpoint its CONTROL is in progress with it. -/
def Engine.received (h : MsgHdr) (ty : Nat) (e : Engine) : Engine := (e.heard h.client).takeControl h ty

/-- A request that does not reach its own rules: nothing, the kept response again, or STATE. -/
def Engine.turnAway (h : MsgHdr) (ty : Nat) (a : Admit) (e : Engine) : Engine :=
  match a with
  | .ignore => e
  | .dup k => ((e.received h ty).transmit k.msg).bump .ctrlDup h.client.source
  | .state => (e.received h ty).refuse h ty .state .none
  | .go => e

/-- A request of the control transports: taken by its own rules when it is admitted. -/
def Engine.request (h : MsgHdr) (ty : Nat) (body : Engine → Engine) (e : Engine) : Engine :=
  match e.intake h ty with
  | .go => body (e.received h ty)
  | a => e.turnAway h ty a

/-- A request whose rules reach the flash or the key store. -/
def State.request (h : MsgHdr) (ty : Nat) (body : State → State) (s : State) : State :=
  match s.eng.intake h ty with
  | .go => body { s with eng := s.eng.received h ty }
  | a => { s with eng := s.eng.turnAway h ty a }

/-- A command whose effect stays in the powered units. -/
def State.run (t : Nat) (f : Engine → Engine) (s : State) : Out :=
  .next { s with eng := f (s.eng.at t) }

/-- A command whose effect on the units reads the flash and the key store too. -/
def State.runWith (t : Nat) (f : Flash → KeyStore → Engine → Engine) (s : State) : Out :=
  .next { s with eng := f s.flash s.ks (s.eng.at t) }

/-- A command whose effect may write the key store. -/
def State.runKs (t : Nat) (f : Flash → KeyStore × Engine → KeyStore × Engine) (s : State) : Out :=
  let r := f s.flash (s.ks, s.eng.at t)
  .next { s with ks := r.1, eng := r.2 }

/-- A command whose effect may write the flash and the key store. -/
def State.runAll (t : Nat) (f : State → State) (s : State) : Out :=
  let r := f { s with eng := s.eng.at t }
  .next { r with pending := s.pending }

/-- The engine is at step 8 or after: its units work. -/
def Engine.live (e : Engine) : Bool := e.sys.phase = .running

/-- An effect of a unit while the engine runs; before step 8, in a halt and without power nothing happens (log 10). -/
def Engine.whenLive (f : Engine → Engine) (e : Engine) : Engine := if e.live then f e else e

/-- An effect that needs power. -/
def Engine.whenPowered (f : Engine → Engine) (e : Engine) : Engine := if e.sys.phase.powered then f e else e

/-- A unit of Table 1.5 stands still: between its stop and its resume, or FAILED (R23, R24). -/
def Engine.unitHeld (e : Engine) (unit ordinal : Nat) : Bool :=
  e.sys.units.any (fun u => u.unit = unit && u.step = .stopped) || e.sys.failed.contains ordinal

/-- Bytes whose contents the manual leaves open (log 24). -/
def freeBytes (rule key n : Nat) : List Byte :=
  (List.range n).map fun i => BitVec.ofNat 8 (Config.unstated rule (key * 65536 + i))

/-- A draw of a free value. -/
def Engine.draw (e : Engine) : Nat × Engine := (e.free, { e with free := e.free + 1 })

end Sys2Proof.Machine
end

