-- ==== Sys2Proof/Machine/Flags.lean ====
section
/-! DEFINITION. Frame flags (Table 21.2), the flags of statistics records, pictures and tiles, and the operations on
them. A set of flags is the number its bits make. -/

namespace Sys2Proof.Machine

/-- Bits of the frame flags (Table 21.2). -/
inductive FrameFlag where
  | short | long | empty | linkFill | blackHold | blackRange | clamped | incomplete | linkCrc | embInvalid
  | fsMissing | feMissing | settingsFault | settingsMismatch | phaseFree | phaseMismatch | tnrOff | tnrPartial
  | audioCoast | audioSlip | audioInvalid | auxSize | auxStale | grottoUe
  deriving DecidableEq, Repr

/-- The bit number of a frame flag. -/
def FrameFlag.bit : FrameFlag → Nat
  | .short => 0 | .long => 1 | .empty => 2 | .linkFill => 3 | .blackHold => 4 | .blackRange => 5 | .clamped => 6
  | .incomplete => 7 | .linkCrc => 8 | .embInvalid => 9 | .fsMissing => 10 | .feMissing => 11 | .settingsFault => 12
  | .settingsMismatch => 13 | .phaseFree => 14 | .phaseMismatch => 15 | .tnrOff => 16 | .tnrPartial => 17
  | .audioCoast => 18 | .audioSlip => 19 | .audioInvalid => 20 | .auxSize => 21 | .auxStale => 22 | .grottoUe => 23

/-- A set of flags with one more. -/
def addFlag (fs : Nat) (f : FrameFlag) : Nat := fs ||| 2 ^ f.bit

/-- A set of flags with one more when a condition holds. -/
def addFlagIf (c : Bool) (f : FrameFlag) (fs : Nat) : Nat := if c then addFlag fs f else fs

/-- A flag stands in a set. -/
def hasFlag (fs : Nat) (f : FrameFlag) : Bool := fs.testBit f.bit

/-- A frame is bad when it is SHORT, LONG or EMPTY (R109). -/
def badFrame (fs : Nat) : Bool := hasFlag fs .short || hasFlag fs .long || hasFlag fs .empty

/-- FLAGS of a statistics record: bits 0 to 7 of the frame's (Table 6.8, R490). -/
def statsFlags (fs : Nat) : Nat := fs % 256

/-- Picture FLAGS of Table 8.3. -/
def picRcEmergency : Nat := 1
def picVerifyReenc : Nat := 2
def picVerifyFail : Nat := 4
def picTileLate : Nat := 8
def picTileLimit : Nat := 16

/-- Tile FLAGS of Table 8.4. -/
def tileReenc : Nat := 1
def tileLate : Nat := 2
def tileLimit : Nat := 4
def tileVerifyFail : Nat := 8

end Sys2Proof.Machine
end

