-- ==== Sys2Proof/Machine/Operands.lean ====
section
/-! DEFINITION. The fields of the configuration that the commands take as operands, under the manual's names, and the
rates of Table 12.3. -/

namespace Sys2Proof.Machine

/-- A frame rate code of Table 12.3 as numerator and denominator; reserved codes give none. -/
def rateOf : Nat → Option (Nat × Nat)
  | 1 => some (24000, 1001) | 2 => some (24, 1) | 3 => some (25, 1) | 4 => some (30000, 1001) | 5 => some (30, 1)
  | 6 => some (48000, 1001) | 7 => some (48, 1) | 8 => some (50, 1) | 9 => some (60000, 1001) | 10 => some (60, 1)
  | 11 => some (100, 1) | 12 => some (120000, 1001) | 13 => some (120, 1)
  | _ => none

/-- A rate, 24 frames/s where the code is reserved (an image with one is rejected, R362). -/
def rateD (c : Nat) : Nat × Nat := (rateOf c).getD (24, 1)

namespace Cfg

/-- PHASE.N (R441, R442): 1 without a PHASE section. -/
def phases (c : Cfg) : Nat :=
  match c.sect? 0x0013 with
  | some s => s.param
  | none => 1

/-- TIME.PROJ_RATE as a rate (Table 14.2). -/
def projRate (c : Cfg) : Nat × Nat := rateD (c.f 0x0080 1 31 28)
/-- TIME.OFFSET_US. -/
def projOffset (c : Cfg) : Nat := c.f 0x0080 1 26 7

/-- SENSORn's section ID. -/
def sensor (p : Nat) : Nat := 0x0010 + p
/-- Port p is configured. -/
def hasPort (c : Cfg) (p : Nat) : Bool := c.has (sensor p)
/-- SENSOR0.SPLIT. -/
def split (c : Cfg) : Bool := c.b 0x0010 0 24
/-- Packing code and the bits of a photosite (Table 4.1). -/
def packCode (c : Cfg) (p : Nat) : Nat := c.f (sensor p) 0 27 26
def packBits (c : Cfg) (p : Nat) : Nat := 12 + 2 * c.packCode p
def dualConv (c : Cfg) (p : Nat) : Bool := c.b (sensor p) 0 25
def nconv (c : Cfg) (p : Nat) : Nat := if c.dualConv p then 2 else 1
def laneLog2 (c : Cfg) (p : Nat) : Nat := c.f (sensor p) 0 23 21
def trainMs (c : Cfg) (p : Nat) : Nat := c.f (sensor p) 0 20 13
def trainTries (c : Cfg) (p : Nat) : Nat := c.f (sensor p) 0 12 9
/-- Frame word (Table 5.1). -/
def width (c : Cfg) (p : Nat) : Nat := c.f (sensor p) 1 29 15
def lines (c : Cfg) (p : Nat) : Nat := c.f (sensor p) 1 14 0
/-- Control word (Table 5.2). -/
def verify (c : Cfg) (p : Nat) : Bool := c.b (sensor p) 2 10
def busI2c (c : Cfg) (p : Nat) : Bool := c.b (sensor p) 2 31
def spiMode (c : Cfg) (p : Nat) : Nat := c.f (sensor p) 2 30 29
def i2cAddr (c : Cfg) (p : Nat) : Nat := c.f (sensor p) 2 21 15
def addrBytes (c : Cfg) (p : Nat) : Nat := c.f (sensor p) 2 14 13 + 1
def dataBytes (c : Cfg) (p : Nat) : Nat := c.f (sensor p) 2 12 11 + 1
/-- One register write as the channel sends it (R95): address and data, each most significant byte first. -/
def ctlWrite (c : Cfg) (p addr data : Nat) : CtlWrite :=
  ⟨addr, data, if c.busI2c p then some (c.i2cAddr p) else none, if c.busI2c p then 0 else c.spiMode p,
    (le (c.addrBytes p) addr).reverse ++ (le (c.dataBytes p) data).reverse⟩
/-- Capture word (Table 5.3). -/
def badLimit (c : Cfg) (p : Nat) : Nat := c.f (sensor p) 3 31 24
def faultRetrain (c : Cfg) (p : Nat) : Bool := c.b (sensor p) 3 23
def xtrigLow (c : Cfg) (p : Nat) : Bool := c.b (sensor p) 3 22
def xtrigUs (c : Cfg) (p : Nat) : Nat := c.f (sensor p) 3 21 16
def feGrace (c : Cfg) (p : Nat) : Nat := c.f (sensor p) 3 15 8
def fsWin (c : Cfg) (p : Nat) : Nat := c.f (sensor p) 3 7 0
/-- Reset word (Table 5.4). -/
def ninit (c : Cfg) (p : Nat) : Nat := c.f (sensor p) 4 8 0
def rstLow (c : Cfg) (p : Nat) : Nat := c.f (sensor p) 4 31 24
def rstWait (c : Cfg) (p : Nat) : Nat := c.f (sensor p) 4 23 12
/-- Settings word (Table 5.5): latency of a group, and the write window in units of 10 us. -/
def lat (c : Cfg) (p g : Nat) : Nat := c.f (sensor p) 5 (31 - 2 * g) (30 - 2 * g)
def winStart (c : Cfg) (p : Nat) : Int := signedOf 12 (c.f (sensor p) 5 23 12)
def winLen (c : Cfg) (p : Nat) : Nat := c.f (sensor p) 5 11 0
/-- Mode entries (Table 5.6, R99). -/
def modeValid (c : Cfg) (p m : Nat) : Bool := decide (m < 8) && c.b (sensor p) (6 + 3 * m) 31
def modeGlobal (c : Cfg) (p m : Nat) : Bool := c.b (sensor p) (6 + 3 * m) 30
def tLine (c : Cfg) (p m : Nat) : Nat := c.f (sensor p) (6 + 3 * m) 29 14
def tXr (c : Cfg) (p m : Nat) : Nat := c.f (sensor p) (6 + 3 * m) 13 0
def expQuant (c : Cfg) (p m : Nat) : Nat := c.f (sensor p) (7 + 3 * m) 31 16
def vblank (c : Cfg) (p m : Nat) : Nat := c.f (sensor p) (7 + 3 * m) 15 8
def expMin (c : Cfg) (p m : Nat) : Nat := c.f (sensor p) (7 + 3 * m) 7 0
def expMax (c : Cfg) (p m : Nat) : Nat := c.f (sensor p) (8 + 3 * m) 23 0
/-- Valid modes of a port. -/
def modes (c : Cfg) (p : Nat) : List Nat := (List.range 8).filter (c.modeValid p)
/-- Write entries (Table 5.7). -/
def weAddr (c : Cfg) (p i : Nat) : Nat := (c.w (sensor p) (30 + 2 * i)).toNat
def weValid (c : Cfg) (p i : Nat) : Bool := c.b (sensor p) (31 + 2 * i) 31
def weGroup (c : Cfg) (p i : Nat) : Nat := c.f (sensor p) (31 + 2 * i) 30 29
def weShift (c : Cfg) (p i : Nat) : Nat := c.f (sensor p) (31 + 2 * i) 28 24
def weWidth (c : Cfg) (p i : Nat) : Nat := c.f (sensor p) (31 + 2 * i) 23 18
def weSrc (c : Cfg) (p i : Nat) : Nat := c.f (sensor p) (31 + 2 * i) 17 17
/-- Valid write entries of a group, in index order. -/
def entries (c : Cfg) (p g : Nat) : List Nat :=
  (List.range 16).filter fun i => c.weValid p i && decide (c.weGroup p i = g)
/-- The port has a valid write entry. -/
def anyEntry (c : Cfg) (p : Nat) : Bool := (List.range 16).any (c.weValid p)
/-- Gain table (R100). -/
def ngain (c : Cfg) (p : Nat) : Nat := c.f (sensor p) 62 6 0
def gainQdb (c : Cfg) (p g : Nat) : Nat := c.f (sensor p) (63 + g) 31 24
def gainCode (c : Cfg) (p g : Nat) : Nat := c.f (sensor p) (63 + g) 23 0

/-- Time from the first line's end of exposure to the last's, K of R90, in ns. -/
def kNs (c : Cfg) (p m : Nat) : Nat := if c.modeGlobal p m then 0 else (c.lines p - 1) * c.tLine p m

/-- PHASE words (Table 5.8, R110). -/
def gLead (c : Cfg) : Nat := c.f 0x0013 1 31 16
def gTrail (c : Cfg) : Nat := c.f 0x0013 1 15 0
def schedEn (c : Cfg) : Bool := c.b 0x0013 0 3
def schedLen (c : Cfg) : Nat := c.f 0x0013 0 7 4
def sched (c : Cfg) (i : Nat) : Nat := c.f 0x0013 (2 + i / 8) (4 * (i % 8) + 2) (4 * (i % 8))
def phaseSrc (c : Cfg) : Bool := c.b 0x0013 0 2
def phaseOutEn (c : Cfg) : Bool := c.b 0x0013 0 0
def stbUs (c : Cfg) : Nat := c.f 0x0013 0 15 8
def inTol (c : Cfg) : Nat := c.f 0x0013 0 31 24
def inLoss (c : Cfg) : Nat := c.f 0x0013 0 23 20
def inRelock (c : Cfg) : Nat := c.f 0x0013 0 19 16

/-- The phase index p of a CFN (R88). -/
def phaseOf (c : Cfg) (cfn : Nat) : Nat :=
  if c.schedEn then c.sched (cfn % (c.schedLen + 1)) else cfn % c.phases

/-- Length of one slot in ticks, P of R87, rounded down. -/
def slotTicks (c : Cfg) : Nat := c.projRate.2 * 65536000000000 / (c.projRate.1 * c.phases)
/-- Length of a project frame in ticks, rounded down. -/
def projTicks (c : Cfg) : Nat := c.projRate.2 * 65536000000000 / c.projRate.1

/-- DTB of the project frame boundary of index k, rounded to the nearest tick (R373; log 30). -/
def boundary (c : Cfg) (k : Int) : Int :=
  (2 * k * c.projRate.2 * 65536000000000 + c.projRate.1) / (2 * c.projRate.1) + us c.projOffset

/-- E_ph of a mode before rounding, in ns (R91). -/
def ephNs (c : Cfg) (p m : Nat) : Int :=
  (c.slotTicks / 65536 : Nat) - (1000 * (c.gLead + c.gTrail) + c.kNs p m : Nat)

/-- RAWFE global words (Tables 6.2, 6.3). -/
def cfa (c : Cfg) : Nat := c.f 0x0020 0 31 29
def blkMode (c : Cfg) : Nat := c.f 0x0020 0 28 27
def blkTc (c : Cfg) : Nat := c.f 0x0020 0 26 23
def pedestal (c : Cfg) : Nat := c.f 0x0020 0 22 13
def dynMode (c : Cfg) : Nat := c.f 0x0020 0 12 11
def ffEn (c : Cfg) : Bool := c.b 0x0020 0 10
def xtEn (c : Cfg) : Bool := c.b 0x0020 0 9
def tnrEn (c : Cfg) : Bool := c.b 0x0020 0 8
def tnrResetQdb (c : Cfg) : Nat := c.f 0x0020 0 7 0
def dynPersist (c : Cfg) : Nat := c.f 0x0020 1 31 28
def dynHot (c : Cfg) : Nat := c.f 0x0020 1 27 18
def dynCold (c : Cfg) : Nat := c.f 0x0020 1 17 8
def dynFlat (c : Cfg) : Nat := c.f 0x0020 1 7 0
/-- RAWFE port block of port p (Table 6.4), word w of A to E. -/
def rb (c : Cfg) (p w hi lo : Nat) : Nat := c.f 0x0020 (3 + 5 * p + w) hi lo
def obRows (c : Cfg) (p : Nat) : Nat := c.rb p 0 31 24
def obCols (c : Cfg) (p : Nat) : Nat := 8 * c.rb p 0 23 19
def blkFixed (c : Cfg) (p : Nat) : Nat := c.rb p 0 15 0
def blkMin (c : Cfg) (p : Nat) : Nat := c.rb p 1 31 16
def blkMax (c : Cfg) (p : Nat) : Nat := c.rb p 1 15 0
def sat0 (c : Cfg) (p : Nat) : Nat := c.rb p 2 31 16
def sat1 (c : Cfg) (p : Nat) : Nat := c.rb p 2 15 0
def gainRatio (c : Cfg) (p : Nat) : Nat := c.rb p 3 31 19
def obReject (c : Cfg) (p : Nat) : Nat := c.rb p 3 15 8
def kneeLo (c : Cfg) (p : Nat) : Nat := c.rb p 4 31 16
def kneeHi (c : Cfg) (p : Nat) : Nat := c.rb p 4 15 0
/-- Words of RAWFE before its tables: three global words and one or two port blocks. -/
def rawHead (c : Cfg) : Nat := if c.split then 13 else 8
/-- The cropped picture (R120). -/
def cropW (c : Cfg) (p : Nat) : Nat := c.width p - c.obCols p
def cropH (c : Cfg) (p : Nat) : Nat := c.lines p - c.obRows p

/-- STATS word (Table 6.7). -/
def ringSlots (c : Cfg) : Nat := c.f 0x0022 0 31 24 + 1
def statsMask (c : Cfg) : Nat := c.f 0x0022 0 23 16
def histLog (c : Cfg) : Bool := c.b 0x0022 0 15
def histShift (c : Cfg) : Nat := c.f 0x0022 0 14 11
def statsAux (c : Cfg) : Bool := c.b 0x0022 0 10
def statsNotify (c : Cfg) : Bool := c.b 0x0022 0 9

/-- BRANCHn's section ID, and fields of word 0 (Table 7.4). -/
def branchId (b : Nat) : Nat := 0x0031 + b
def hasBranch (c : Cfg) (b : Nat) : Bool := c.has (branchId b)
def brSrc (c : Cfg) (b : Nat) : Nat := c.f (branchId b) 0 29 29
def brMask (c : Cfg) (b : Nat) : Nat := c.f (branchId b) 0 28 21
def brEncode (c : Cfg) (b : Nat) : Nat := c.f (branchId b) 0 20 18
def brYcc (c : Cfg) (b : Nat) : Nat := c.f (branchId b) 0 15 14
def brChroma (c : Cfg) (b : Nat) : Nat := c.f (branchId b) 0 13 12
def brDepth (c : Cfg) (b : Nat) : Nat := 8 + 2 * c.f (branchId b) 0 11 10
def brFull (c : Cfg) (b : Nat) : Bool := c.b (branchId b) 0 9
def brBicubic (c : Cfg) (b : Nat) : Bool := c.b (branchId b) 0 7
def brLutInit (c : Cfg) (b : Nat) : Nat := c.f (branchId b) 0 6 2
def brShaperId (c : Cfg) (b : Nat) : Nat := (c.w (branchId b) 11).toNat
def brOutW (c : Cfg) (b : Nat) : Nat := c.f (branchId b) 3 31 16
def brOutH (c : Cfg) (b : Nat) : Nat := c.f (branchId b) 3 15 0

/-- FSR stream entry (Table 8.1). -/
def fsValid (c : Cfg) (s : Nat) : Bool := c.b 0x0040 (2 * s) 31
def fsSrc (c : Cfg) (s : Nat) : Nat := c.f 0x0040 (2 * s) 30 30
def fsTap (c : Cfg) (s : Nat) : Nat := c.f 0x0040 (2 * s) 29 28
def fsMask (c : Cfg) (s : Nat) : Nat := c.f 0x0040 (2 * s) 27 20
def fsMode (c : Cfg) (s : Nat) : Nat := c.f 0x0040 (2 * s) 19 18
def fsQlevel (c : Cfg) (s : Nat) : Nat := c.f 0x0040 (2 * s) 17 15
def fsRatio (c : Cfg) (s : Nat) : Nat := c.f 0x0040 (2 * s) 14 8
def fsQiMin (c : Cfg) (s : Nat) : Nat := c.f 0x0040 (2 * s) 7 2
def fsInitBpp (c : Cfg) (s : Nat) : Nat := c.f 0x0040 (2 * s + 1) 31 16
/-- Sample width Bt of a stream (R186). -/
def fsBits (c : Cfg) (s : Nat) : Nat := if c.fsTap s = 3 then 20 else c.packBits (c.fsSrc s)
/-- Conversions a stream's picture carries. -/
def fsConv (c : Cfg) (s : Nat) : Nat := if c.fsTap s = 3 then 1 else c.nconv (c.fsSrc s)
/-- Photosites per picture (R186). -/
def fsSites (c : Cfg) (s : Nat) : Nat := c.cropW (c.fsSrc s) * c.cropH (c.fsSrc s) * c.fsConv s

/-- LANE words (Tables 3.1 to 3.3): RATE, REFSEL and LOGICAL of a lane, and its port's kind by lane index. -/
def lnRate (c : Cfg) (l : Nat) : Nat := c.f 0x0003 l 27 24
def lnRef (c : Cfg) (l : Nat) : Nat := c.f 0x0003 l 23 22
def lnLogical (c : Cfg) (l : Nat) : Nat := c.f 0x0003 l 3 0
/-- Network port n runs four 25GBASE-R links (NETn_MODE). -/
def net25 (c : Cfg) (n : Nat) : Bool := c.f 0x0003 62 (10 + n) (10 + n) = 1

/-- NETVIDEO (R327, R328): link entry of link k of port n, and words of stream entry s. -/
def nlEn (c : Cfg) (k : Nat) : Bool := c.f 0x006A (3 * k) 31 31 = 1
def nlAddr (c : Cfg) (k : Nat) : Nat := (c.w 0x006A (3 * k + 1)).toNat
def nv (c : Cfg) (s i hi lo : Nat) : Nat := c.f 0x006A (24 + 6 * s + i) hi lo
def nvValid (c : Cfg) (s : Nat) : Bool := c.nv s 0 31 31 = 1
def nvKind (c : Cfg) (s : Nat) : Nat := c.nv s 0 30 28
def nvSrc (c : Cfg) (s : Nat) : Nat := c.nv s 0 27 24
def nvPaths (c : Cfg) (s : Nat) : Nat := c.nv s 0 23 22
def nvLink (c : Cfg) (s path : Nat) : Nat := if path = 0 then c.nv s 0 21 20 else c.nv s 0 19 18
def nvJitter (c : Cfg) (s : Nat) : Nat := c.nv s 5 31 24

/-- SDIOUT and DPOUT words (Tables 12.4 and 12.6). -/
def soEn (c : Cfg) (n : Nat) : Bool := c.f 0x0068 n 31 31 = 1
def soHead (c : Cfg) (n : Nat) : Nat := c.f 0x0068 n 30 29
def soMd (c : Cfg) (n : Nat) : Bool := c.f 0x0068 n 22 22 = 1
def dpEn (c : Cfg) (d : Nat) : Bool := c.f 0x0069 d 31 31 = 1
def dpHead (c : Cfg) (d : Nat) : Nat := c.f 0x0069 d 30 29
def dpFormat (c : Cfg) (d : Nat) : Nat := c.f 0x0069 d 28 27

end Cfg

/-- Phases 0 to N - 1 in a mask. -/
def phasesIn (n mask : Nat) : List Nat := (List.range n).filter fun p => mask.testBit p

end Sys2Proof.Machine
end

