-- ==== Sys2Proof/Machine/Grid.lean ====
section
/-! DEFINITION. The project timing grid: project frames, slots and capture frame numbers (R87 to R92, R104, R373). -/

namespace Sys2Proof.Machine

/-- The sum of some numbers. -/
def sumNat (l : List Nat) : Nat := l.foldl (· + ·) 0

/-- The signed difference of two CFNs, modulo 2^32 (R88). -/
def cfnDiff (a b : Nat) : Int := signedOf 32 (a + 4294967296 - b % 4294967296)

/-- A CFN moved by an offset, modulo 2^32. -/
def cfnAdd (a : Nat) (d : Int) : Nat := toBits 32 ((a : Int) + d)

/-- Of some entries that land on a CFN, the one in effect at frame c: the latest CFN at or before c, and the one accepted
last among equals. -/
def latestAt {α : Type} (cf : α → Nat) (l : List α) (c : Nat) : Option α :=
  l.foldl (fun a x =>
    if 0 < cfnDiff (cf x) c then a
    else match a with
      | none => some x
      | some y => if cfnDiff (cf x) (cf y) < 0 then some y else some x) none

/-- The same for a frame of the run, or for a picture that belongs to none: then no entry is in effect. -/
def latestFor {α : Type} (cf : α → Nat) (l : List α) : Option Nat → Option α
  | some c => latestAt cf l c
  | none => none

/-- Frames still to be read out lie within this many slots of the slot that starts. -/
def inFlight : Nat := 8

/-- The frame whose slot runs now; none outside a run. -/
def Engine.frameNow (e : Engine) : Option Nat := if e.proj.run then some (cfnAdd e.proj.nextCfn (-1)) else none

/-- Start of the project frame j after the current one, on the engine's counter (R373); the one before it as it was. -/
def Engine.projStart (e : Engine) (j : Int) : Int :=
  if j = -1 then e.proj.prevStart
  else e.proj.start + (if 0 < j then e.proj.stretch else 0) + (e.cfg.boundary (e.proj.pfi + j) - e.cfg.boundary e.proj.pfi)

/-- Start of the slot of a CFN by its place against the current project frame. -/
def Engine.slotBy (e : Engine) (c : Nat) : Int :=
  let d := cfnDiff c e.proj.baseCfn
  let n : Int := e.cfg.phases
  e.projStart (d.fdiv n) + d.fmod n * e.cfg.slotTicks

/-- S_c: start of the slot of a CFN of the run in progress (R87). A frame owed at a boundary keeps the slot it had: under Class V
the CFNs of the project frames after it move (R89). -/
def Engine.slotOf (e : Engine) (c : Nat) : Int :=
  match e.proj.kept.find? (·.1 = c) with
  | some x => x.2
  | none => e.slotBy c

/-- t_ro(c) of R90, for a readout mode, on the engine's counter. -/
def Engine.tro (e : Engine) (p m c : Nat) : Int :=
  e.slotOf c + e.cfg.slotTicks - us e.cfg.gTrail - ns (e.cfg.kNs p m)

/-- X_c of R90. -/
def Engine.xtrigAt (e : Engine) (p m c : Nat) : Int := e.tro p m c - us (e.cfg.tXr p m)

/-- First CFN of the run whose slot starts at least 2 ms from now (R104). -/
def Engine.reachCfn (e : Engine) : Nat :=
  let b := e.proj.baseCfn
  match (List.range 64).find? fun k => (e.now : Int) + ms 2 ≤ e.slotOf (cfnAdd b k) with
  | some k => cfnAdd b k
  | none => cfnAdd b 64

/-- First CFN at or after c that begins a project frame (R104). -/
def Engine.roundProj (e : Engine) (c : Nat) : Nat :=
  let n := e.cfg.phases
  c + (n - c % n) % n

/-- The CFN a frame-targeted control inside the engine lands on, and whether its target was missed (R101, R104). -/
def Engine.landing (e : Engine) (tg : Target) : Nat × Bool :=
  let first := e.reachCfn
  if tg.asap then (first, false)
  else if cfnDiff tg.target first < 0 then (first, true) else (tg.target, false)

/-- A target block whose PORT or PHASE_MASK the type leaves unused is well formed (R464): FLAGS and the unused fields. -/
def targetOk (tg : Target) (portUsed maskUsed : Bool) : Bool :=
  (!tg.asap || tg.target = 0) && (if portUsed then decide (tg.port ≤ 1) else tg.port = 0) &&
    (maskUsed || tg.phaseMask = 0)

/-- Project frame index whose boundary lies nearest a DTB value (R373). -/
def Cfg.nearestIndex (c : Cfg) (d : Int) : Int :=
  let per := c.projRate.2 * 65536000000000
  (2 * (d - us c.projOffset) * c.projRate.1 + per).fdiv (2 * per)

/-- The sensors are live in a mode (Table 1.3). -/
def Sys.sensorsLive (s : Sys) : Bool :=
  match s.mode with
  | .standby => false
  | .preview | .record => true
  | _ => s.preview

/-- Local source of a sensor port (R86). -/
def portSrc (p : Nat) : Nat := 0x0100 + p

/-- A port of the engine, by number. -/
def Engine.port (e : Engine) (p : Nat) : Port := vget e.ports p Port.reset

def Engine.setPort (p : Nat) (x : Port) (e : Engine) : Engine := { e with ports := vmod e.ports p fun _ => x }

def Engine.modPort (p : Nat) (f : Port → Port) (e : Engine) : Engine := { e with ports := vmod e.ports p f }

/-- FW_OVERRUN and its counter for a missed firmware deadline (R11, R451). -/
def Engine.fwOverrun (src code core num unit : Nat) (e : Engine) : Engine :=
  let e := e.bumpN .fwOverrun 0x0350 (code - 1) 1
  let e := { e with cluster := { e.cluster with cores := vmod e.cluster.cores core fun c => { c with lastCode := code } } }
  e.emit src .fwOverrun (le 1 code ++ le 1 core ++ le 4 num ++ le 1 unit)

end Sys2Proof.Machine
end

