-- ==== Sys2Proof/Machine/Packets.lean ====
section
/-! DEFINITION. Packets as they leave the network ports (R5, R327, R328, R330 to R333, R353, R363): RTP headers, the payloads of
ST 2110-20, ST 2110-40 and L24, and PTP's Delay_Req, each in network byte order. -/

namespace Sys2Proof.Machine

/-- The n low bytes of a number in network order (R5). -/
def netBytes (n v : Nat) : List Byte := (le n v).reverse

/-- The 12 bytes of an RTP header without CSRC (RFC 3550). -/
def rtpHeader (marker : Bool) (pt seq ts ssrc : Nat) : List Byte :=
  netBytes 1 128 ++ netBytes 1 (128 * bit marker + pt % 128) ++ netBytes 2 seq ++ netBytes 4 ts ++ netBytes 4 ssrc

/-- Pieces of n entries of a list, the last shorter. -/
def pieces {α : Type} (n : Nat) (l : List α) : List (List α) :=
  (List.range (cdiv l.length (max 1 n))).map fun k => (l.drop (n * k)).take n

/-- The pgroups of a line, 4:2:2 with 10 bits (ST 2110-20): Cb, Y0, Cr, Y1 of each pixel pair in 5 bytes. -/
def pgroups : List (Nat × Nat × Nat) → List (List Byte)
  | a :: b :: r => netBytes 5 (((a.2.1 % 1024 * 1024 + a.1 % 1024) * 1024 + a.2.2 % 1024) * 1024 + b.1 % 1024) :: pgroups r
  | _ => []

/-- Payloads of one line of a frame (R330): one sample row data header and at most 240 whole pgroups each. -/
def payload20 (row : Nat) (line : List (Nat × Nat × Nat)) : List (List Byte) :=
  (pieces 240 (pgroups line)).mapIdx fun k g =>
    netBytes 2 (5 * g.length) ++ netBytes 2 row ++ netBytes 2 (480 * k) ++ g.flatten

/-- Payloads of a whole frame. -/
def frame20 (lines : List (List (Nat × Nat × Nat))) : List (List Byte) := (lines.mapIdx payload20).flatten

/-- 10-bit words packed most significant bit first into whole 4-byte groups, zeros behind (RFC 8331). -/
def pack10 (ws : List Nat) : List Byte :=
  let n := cdiv (10 * ws.length) 32
  netBytes (4 * n) ((ws.foldl (fun a w => a * 1024 + w % 1024) 0) * 2 ^ (32 * n - 10 * ws.length))

/-- One ancillary packet under RFC 8331 (R332): C, Line_Number 0x7FF, Horizontal_Offset 0xFFF, S and StreamNum 0, then DID, SDID,
DC, the user data words and the checksum. -/
def ancData (words : List Nat) : List Byte := netBytes 4 (0x7FF * 2 ^ 20 + 0xFFF * 2 ^ 8) ++ pack10 words

/-- Payloads of the ancillary packets of a picture over four RTP packets (R332): Length, ANC_Count and F 0, then the packets. -/
def payload40 (anc : List (List Nat)) : List (List Byte) :=
  (List.range 4).map fun k =>
    let mine := (pieces 5 anc).getD k []
    let data := mine.flatMap ancData
    netBytes 2 data.length ++ netBytes 1 mine.length ++ netBytes 3 0 ++ data

/-- L24 samples, sample time after sample time (R353). -/
def payload24 (frames : List AudFrame) : List Byte := frames.flatMap fun f => f.flatMap fun s => netBytes 3 s.1

/-- Link entry k of NETVIDEO (R327): VLAN, PCP, PREFIX and gateway. -/
def Cfg.nlVlan (c : Cfg) (k : Nat) : Nat := c.f 0x006A (3 * k) 30 19
def Cfg.nlPcp (c : Cfg) (k : Nat) : Nat := c.f 0x006A (3 * k) 18 16
def Cfg.nlPrefix (c : Cfg) (k : Nat) : Nat := c.f 0x006A (3 * k) 15 8
def Cfg.nlGateway (c : Cfg) (k : Nat) : Nat := (c.w 0x006A (3 * k + 2)).toNat

/-- Where a link hands a datagram on (R327): a group, an address of its own network, or else its gateway. -/
def Cfg.nextHop (c : Cfg) (k dst : Nat) : Nat :=
  let host := 2 ^ (32 - min 32 (c.nlPrefix k))
  if (0xE0000000 ≤ dst ∧ dst < 0xF0000000) ∨ dst / host = c.nlAddr k / host then dst else c.nlGateway k

/-- A datagram on a link: IPv4 with DF set, UDP (R327, R328). -/
def Cfg.datagram (c : Cfg) (path link dst dscp sport dport : Nat) (bytes : List Byte) : NetPacket :=
  let k := 4 * path + link
  { path := path, link := link, vlan := c.nlVlan k, pcp := c.nlPcp k, src := c.nlAddr k, dst := dst, hop := c.nextHop k dst
    dscp := dscp, sport := sport, dport := dport, bytes := bytes }

/-- Lanes of link k of network port n: all of the port's in 100GBASE-KR4 mode, else the one of that logical position. -/
def Cfg.linkLanes (c : Cfg) (n k : Nat) : List Nat :=
  let ls := (List.range 4).map (36 + 4 * n + ·)
  if c.net25 n then ls.filter fun l => decide (0 < c.lnRate l) && c.lnLogical l = k
  else if k = 0 then ls.filter fun l => decide (0 < c.lnRate l) else []

/-- A link of a network port is up: its lanes are. -/
def Engine.linkUp (e : Engine) (n k : Nat) : Bool :=
  let ls := e.cfg.linkLanes n k
  !ls.isEmpty && ls.all fun l => (vget e.lanes l Lane.reset).linkUp

/-- A network port carries no traffic: its unit stands still (Table 1.5). -/
def Engine.netHeld (e : Engine) (n : Nat) : Bool := decide (n < 2) && e.unitHeld (0x0600 + n) (17 + n)

/-- The copies of one packet: on each path of PATHS whose port carries traffic and whose link is up (R331). -/
def Engine.netCopies (e : Engine) (paths : Nat) (link dst : Nat → Nat) (dscp sport dport : Nat) (bytes : List Byte) :
    List NetPacket :=
  ((List.range 2).filter fun p => paths.testBit p && !e.netHeld p && e.linkUp p (link p)).map fun p =>
    e.cfg.datagram p (link p) (dst p) dscp sport dport bytes

/-- One RTP packet of NETVIDEO stream entry n: ST 2110-20 and ST 2110-40 payloads begin with the extended sequence number. -/
def Cfg.nvRtp (c : Cfg) (n seq ts : Nat) (last : Bool) (payload : List Byte) : List Byte :=
  rtpHeader last (c.nv n 0 17 11) seq ts (c.nv n 4 31 0) ++
    (if c.nvKind n ≤ 3 then netBytes 2 (seq / 65536) else []) ++ payload

/-- Packets of stream entry n from sequence number seq on, the marker on the last (R330 to R333). -/
def Engine.nvPackets (e : Engine) (n seq ts : Nat) (payloads : List (List Byte)) : List NetPacket :=
  (payloads.mapIdx fun i b =>
    e.netCopies (e.cfg.nvPaths n) (e.cfg.nvLink n) (fun p => e.cfg.nv n (1 + p) 31 0) (e.cfg.nv n 0 10 5) (e.cfg.nv n 3 15 0)
      (e.cfg.nv n 3 31 16) (e.cfg.nvRtp n (seq + i) ts (decide (i + 1 = payloads.length)) b)).flatten

/-- PTP's Delay_Req of domain d (IEEE 1588-2019, Table 14.4): a header of 34 bytes and the origin timestamp. What R363 and the
standard leave to the clock, its identity, its control field and the origin, is open (log 24). -/
def delayReqBytes (servo domain seq : Nat) (unicast : Bool) : List Byte :=
  netBytes 1 1 ++ netBytes 1 0x12 ++ netBytes 2 44 ++ netBytes 1 domain ++ netBytes 1 0 ++ netBytes 2 (if unicast then 0x0400 else 0) ++
    netBytes 8 0 ++ netBytes 4 0 ++ freeBytes 363 (2 * servo) 10 ++ netBytes 2 seq ++ freeBytes 363 (2 * servo + 1) 1 ++
    netBytes 1 0x7F ++ freeBytes 363 (4 + (servo * 65536 + seq)) 10

end Sys2Proof.Machine
end

