-- ==== Sys2Proof/Machine/Audio.lean ====
section
/-! DEFINITION. Audio (ch. 13): the sample grid, slips, AES3, ST 2110-30, outputs and recorded blocks, and the commands
AUDIO_TICK, AUD_PLL_FIRST_LOCK, AUD_RELOCK, AUD_IN_LOCK, AUD_IN_LOSS, AUD_IN_RATE, AUD_IN_SAMPLE, AES_CS_BLOCK,
AUD_RX_PACKET and AUD_TX_PACKET. -/

namespace Sys2Proof.Machine

namespace Cfg

/-- fs in samples/s (Table 13.2). -/
def audFs (c : Cfg) : Nat := if c.b 0x0070 0 31 then 96000 else 48000
def recCh (c : Cfg) : Nat := c.f 0x0070 0 30 25
/-- TDM word of port n (Table 13.3). -/
def tdmEn (c : Cfg) (n : Nat) : Bool := c.b 0x0070 (1 + n) 31
def tdmMaster (c : Cfg) (n : Nat) : Bool := c.b 0x0070 (1 + n) 28
def tdmIn (c : Cfg) (n : Nat) : Bool := c.tdmEn n && c.b 0x0070 (1 + n) 23
def tdmOut (c : Cfg) (n : Nat) : Bool := c.tdmEn n && c.b 0x0070 (1 + n) 22
def tdmSlots (c : Cfg) (n : Nat) : Nat := match c.f 0x0070 (1 + n) 30 29 with
  | 0 => 2 | 1 => 8 | _ => 16
/-- AES word (Table 13.4). -/
def aesIn (c : Cfg) (i : Nat) : Bool := c.b 0x0070 5 (30 + i)
def aesOut (c : Cfg) (o : Nat) : Bool := c.b 0x0070 5 (28 + o)
def csMode (c : Cfg) (o : Nat) : Nat := if o = 0 then c.f 0x0070 5 27 26 else c.f 0x0070 5 25 24
/-- Group words (Table 13.5). -/
def grpEn (c : Cfg) (g : Nat) : Bool := c.b 0x0070 (6 + g) 31
def grpMaster (c : Cfg) (g : Nat) : Nat := c.f 0x0070 (6 + g) 19 16
def grpMembers (c : Cfg) (g : Nat) : Nat := c.f 0x0070 (6 + g) 13 0
/-- Word k of stream entry n (Table 13.6). -/
def audSt (c : Cfg) (n k hi lo : Nat) : Nat := c.f 0x0070 (10 + 6 * n + k) hi lo
def stValid (c : Cfg) (n : Nat) : Bool := c.audSt n 0 31 31 = 1
def stRx (c : Cfg) (n : Nat) : Bool := c.stValid n && c.audSt n 0 30 30 = 1
def stTx (c : Cfg) (n : Nat) : Bool := c.stValid n && c.audSt n 0 30 30 = 0
def stPaths (c : Cfg) (n : Nat) : Nat := c.audSt n 0 29 28
def stCh (c : Cfg) (n : Nat) : Nat := c.audSt n 0 22 17 + 1
/-- Samples of one packet time. -/
def stTicks (c : Cfg) (n : Nat) : Nat := c.audFs / if c.audSt n 0 23 23 = 1 then 8000 else 1000
def stPlayout (c : Cfg) (n : Nat) : Nat := c.audSt n 5 31 24
/-- Route and record bytes: four to a word from word 58 (R344). -/
def audByte (c : Cfg) (i : Nat) : Nat := c.f 0x0070 (58 + i / 4) (8 * (i % 4) + 7) (8 * (i % 4))

/-- A source takes input (R343). -/
def srcUsed (c : Cfg) (m : Nat) : Bool := if m < 4 then c.tdmIn m else if m < 6 then c.aesIn (m - 4) else c.stRx (m - 6)
/-- It is fed through a FIFO (R346): all but a TDM port that is MASTER. -/
def srcFifo (c : Cfg) (m : Nat) : Bool := !(decide (m < 4) && c.tdmMaster m)
/-- F0 and depth of its FIFO (R346). -/
def srcF0 (c : Cfg) (m : Nat) : Nat := if m < 6 then 16 else c.stPlayout (m - 6) * c.audFs / 8000
def srcDepth (c : Cfg) (m : Nat) : Nat := if m < 6 then 32 else 2 * c.srcF0 m + 32
def srcCh (c : Cfg) (m : Nat) : Nat := if m < 4 then c.tdmSlots m else if m < 6 then 2 else c.stCh (m - 6)

/-- The groups of R348, and a group of its own for each source in none: number, master and members. -/
def audGroups (c : Cfg) : List (Nat × Nat × List Nat) :=
  let used (m : Nat) : Bool := c.srcUsed m && c.srcFifo m
  let named := ([0, 1, 2, 3].filter c.grpEn).map fun g =>
    (g, c.grpMaster g, (List.range 14).filter fun m => (c.grpMembers g).testBit m && used m)
  let alone := ((List.range 14).filter fun m => used m && !named.any fun g => g.2.2.contains m).map fun m => (4 + m, m, [m])
  named ++ alone

/-- First receive channel of a stream entry (Table 13.1). -/
def rxBase (c : Cfg) (n : Nat) : Nat := (((List.range n).filter c.stRx).map c.stCh).foldl (· + ·) 0
/-- First send channel of a stream entry (R344). -/
def txBase (c : Cfg) (n : Nat) : Nat := (((List.range n).filter c.stTx).map c.stCh).foldl (· + ·) 0

/-- Source index and channel of a source ID below 0xC0 (Table 13.1). -/
def srcOfId (c : Cfg) (id : Nat) : Option (Nat × Nat) :=
  if id < 0x40 then some (id / 16, id % 16)
  else if id < 0x44 then some (4 + (id - 0x40) / 2, id % 2)
  else if 0x80 ≤ id ∧ id < 0xC0 then
    let k := id - 0x80
    ((List.range 8).find? fun n => c.stRx n && decide (c.rxBase n ≤ k ∧ k < c.rxBase n + c.stCh n)).map fun n =>
      (6 + n, k - c.rxBase n)
  else none

/-- Source IDs an output port takes: TDM outputs 0-3, AES3 outputs 4 and 5, send streams at 6 + entry (R344). -/
def outIds (c : Cfg) (o : Nat) : List Nat :=
  if o < 4 then (List.range (c.tdmSlots o)).map fun s => c.audByte (16 * o + s)
  else if o < 6 then [c.audByte (64 + 2 * (o - 4)), c.audByte (65 + 2 * (o - 4))]
  else (List.range (c.stCh (o - 6))).map fun k => c.audByte (68 + c.txBase (o - 6) + k)

def outUsed (c : Cfg) (o : Nat) : Bool := if o < 4 then c.tdmOut o else if o < 6 then c.aesOut (o - 4) else c.stTx (o - 6)

/-- Source IDs of the recorded channels. -/
def recIds (c : Cfg) : List Nat := (List.range c.recCh).map fun k => c.audByte (132 + k)

end Cfg

/-- Local sources of R357: of source m, and of output port o. -/
def audSrcNo (m : Nat) : Nat := if m < 4 then 0x02C1 + m else if m < 6 then 0x02C5 + (m - 4) else 0x02D0 + (m - 6)
def audOutNo (o : Nat) : Nat := if o < 4 then 0x02C1 + o else if o < 6 then 0x02C7 + (o - 4) else 0x02D0 + (o - 6)

def Engine.asrc (e : Engine) (m : Nat) : AudSrc := vget e.aud.srcs m AudSrc.reset
def Engine.modSrc (m : Nat) (f : AudSrc → AudSrc) (e : Engine) : Engine :=
  { e with aud := { e.aud with srcs := vmod e.aud.srcs m f } }
def Engine.aout (e : Engine) (o : Nat) : AudOut := vget e.aud.outs o AudOut.reset
def Engine.modOut (o : Nat) (f : AudOut → AudOut) (e : Engine) : Engine :=
  { e with aud := { e.aud with outs := vmod e.aud.outs o f } }

/-- A frame of zeros marked not valid. -/
def zeroFrame (ch : Nat) : AudFrame := List.replicate ch (0, true)

/-- A FIFO primed to F0 with zero samples (R347); a receive stream's stand before the tick of sample n (R353). -/
def Engine.audPrime (m : Nat) (e : Engine) : Engine :=
  let f0 := e.cfg.srcF0 m
  let first : Int := (e.aud.n : Int) - f0
  e.modSrc m fun q => { q with
    fifo := (List.range f0).map fun k => ((first + k).toNat, zeroFrame (e.cfg.srcCh m))
    readTs := first, avg := f0, primed := true }

/-- slip(m) of R347. -/
def Engine.audSlip (m : Nat) (e : Engine) : Engine :=
  let s := audSrcNo m
  let e := e.bump .audSlip s
  let e := if e.aud.coast then e.bump .audCoastSlip 0x02C0 else e
  let used := e.cfg.recIds.any fun id => match e.cfg.srcOfId id with
    | some (k, _) => k = m
    | none => false
  let e := if used then { e with aud := { e.aud with cur := { e.aud.cur with slip := true } } } else e
  let q := e.asrc m
  let due := match q.slipLogAt with
    | none => true
    | some t => decide (t + secs 1 ≤ e.now)
  let e := if due then e.emit s .audSlip (le 4 (q.slips + 1)) else e
  e.modSrc m fun q => { q with
    slipAt := some e.now, slipLogAt := if due then some e.now else q.slipLogAt, slips := if due then 0 else q.slips + 1 }

/-- Actions of R346. -/
inductive SlipAct where
  | none | drop | repeat_
  deriving DecidableEq, Repr

/-- The action of R346 for an average, a target and a hold-off. -/
def slipAct (avg : Rat) (f0 holdoff : Nat) : SlipAct :=
  if holdoff ≠ 0 then .none
  else if avg ≥ f0 + 4 then .drop
  else if avg ≤ (f0 : Rat) - 4 then .repeat_
  else .none

/-- The hold-off after a tick (R346). -/
def nextHoldoff (a : SlipAct) (h : Nat) : Nat := if a ≠ .none then 256 else h - 1

/-- The oldest sample of source m leaves its FIFO. -/
def AudSrc.dropOldest (stream : Bool) (q : AudSrc) : AudSrc :=
  if stream then { q with fifo := q.fifo.filter fun x => decide (q.readTs < (x.1 : Int)), readTs := q.readTs + 1 }
  else { q with fifo := q.fifo.drop 1 }

/-- The sample of this tick: of a stream the one whose time it is (R353), else the oldest. -/
def AudSrc.oldest (stream : Bool) (q : AudSrc) : Option AudFrame :=
  if stream then (q.fifo.find? fun x => (x.1 : Int) = q.readTs).map (·.2) else q.fifo.head?.map (·.2)

/-- One member's part of a tick of R346: what it gives, and whether it has a sample. -/
def Engine.audMember (a : SlipAct) (m : Nat) (e : Engine) : (AudFrame × Bool) × Engine :=
  let stream := decide (6 ≤ m)
  let e := if a = .drop then e.modSrc m (·.dropOldest stream) else e
  let (r, e) :=
    if a = .repeat_ then (((e.asrc m).last, true), e)
    else
      match (e.asrc m).oldest stream with
      | some f => ((f, true), e.modSrc m fun q => { q.dropOldest stream with last := f })
      | none =>
        let z := zeroFrame (e.cfg.srcCh m)
        ((z, false), (e.bump .audInUnderrun (audSrcNo m)).modSrc m fun q => { q.dropOldest stream with last := z })
  (r, if a = .none then e else e.audSlip m)

/-- One group's tick (R346): outputs of its members by source index. -/
def Engine.audGroup (g : Nat × Nat × List Nat) (e : Engine) : List (Nat × AudFrame × Bool) × Engine :=
  let ms := g.2.2.filter fun m => !(e.asrc m).stopped
  let e := ms.foldl (fun e m => e.modSrc m fun q => { q with avg := q.avg + ((q.fifo.length : Rat) - q.avg) / 64 }) e
  let full (m : Nat) : Bool := !(e.asrc m).fifo.isEmpty
  let k := if ms.contains g.2.1 && full g.2.1 then some g.2.1 else ms.find? full
  let h := vget e.aud.holdoff g.1 0
  let a := match k with
    | some k => slipAct (e.asrc k).avg (e.cfg.srcF0 k) h
    | none => .none
  let e := { e with aud := { e.aud with holdoff := vmod e.aud.holdoff g.1 (nextHoldoff a) } }
  ms.foldl (fun (q : List (Nat × AudFrame × Bool) × Engine) m =>
    let (r, e) := q.2.audMember a m
    (q.1 ++ [(m, r.1, r.2)], e)) ([], e)

/-- Every source's part of a tick; a TDM port that is MASTER gives the frame of this tick. -/
def Engine.audSources (e : Engine) : List (Nat × AudFrame × Bool) × Engine :=
  let (outs, e) := e.cfg.audGroups.foldl (fun (q : List (Nat × AudFrame × Bool) × Engine) g =>
    let (r, e) := q.2.audGroup g
    (q.1 ++ r, e)) ([], e)
  let direct := [0, 1, 2, 3].filter fun m => e.cfg.srcUsed m && !e.cfg.srcFifo m && !(e.asrc m).stopped
  direct.foldl (fun (q : List (Nat × AudFrame × Bool) × Engine) m =>
    match (q.2.asrc m).fifo.head? with
    | some f => (q.1 ++ [(m, f.2, true)], q.2.modSrc m fun x => { x with fifo := x.fifo.drop 1, last := f.2 })
    | none => q) (outs, e)

/-- The sample of a source ID at this tick, and whether the channel has one (R343, R354). -/
def Engine.audValue (e : Engine) (got : List (Nat × AudFrame × Bool)) (id : Nat) : (Nat × Bool) × Bool :=
  if id = 0xFF then ((0, false), true)
  else if 0xC0 ≤ id then
    match e.aud.play with
    | f :: _ => if e.sys.mode = .review then (f.getD (id - 0xC0) (0, true), true) else ((0, true), true)
    | [] => ((0, true), true)
  else
    match e.cfg.srcOfId id with
    | none => ((0, true), false)
    | some (m, ch) =>
      match got.find? (·.1 = m) with
      | some (_, f, true) => (f.getD ch (0, true), true)
      | _ => ((0, true), false)

/-- CRCC of an AES3 professional channel status block over its first 184 bits (R351: as AES3 defines it; log 40). -/
def aesCrcc (bits : List Bool) : List Bool :=
  let r := (bits.take 184).foldl (fun (r : Nat) b =>
    let fb := r.testBit 7 != b
    let r := r * 2 % 256
    if fb then r ^^^ 0x1D else r) 0xFF
  (List.range 8).map fun i => r.testBit (7 - i)

/-- Bits of bytes, least significant first. -/
def bitsLsb (bs : List Nat) : List Bool := bs.flatMap fun b => (List.range 8).map (b.testBit ·)

/-- The generated channel status block (R351; log 40). -/
def Cfg.aesGenerated (c : Cfg) : List Bool :=
  let fs96 := decide (c.audFs = 96000)
  let b := bitsLsb ([if fs96 then 0x01 else 0x81, 0, 0x2C, 0, if fs96 then 0x10 else 0] ++ List.replicate 18 0)
  b ++ aesCrcc b

/-- The block AES3 output o sends from now (R351). -/
def Engine.aesBlock (e : Engine) (o : Nat) : List Bool :=
  match e.cfg.csMode o with
  | 0 => e.cfg.aesGenerated
  | k =>
    let q := e.asrc (3 + k)
    match q.locked && !q.lost, q.cs with
    | true, some b => b.take 184 ++ aesCrcc b
    | _, _ => e.cfg.aesGenerated

/-- An output takes the frame of this tick (R346, R351, R353, R354). -/
def Engine.audOutput (n o : Nat) (f : AudFrame) (e : Engine) : Engine :=
  if o < 4 then
    if e.cfg.tdmMaster o then e.modOut o fun q => { q with frame := f }
    else
      let q := e.aout o
      let avg := q.avg + ((q.buf.length : Rat) - q.avg) / 64
      let a := slipAct avg 16 q.holdoff
      let buf := if a = .drop then q.buf.drop 1 ++ [f] else if a = .repeat_ then q.buf ++ [f, f] else q.buf ++ [f]
      let extra := buf.length - 32
      let e := e.modOut o fun q => { q with avg := avg, holdoff := nextHoldoff a q.holdoff, buf := buf.take 32 }
      let e := e.bumpN .audInOverrun (audOutNo o) 0 extra
      if a = .none then e else e.bump .audSlip (audOutNo o)
  else if o < 6 then
    let q := e.aout o
    let block := if q.pos = 0 then e.aesBlock (o - 4) else q.block
    e.modOut o fun q => { q with frame := f, block := block, pos := (q.pos + 1) % 192 }
  else
    e.modOut o fun q =>
      let q := if q.buf.isEmpty then { q with bufN := n } else q
      { q with frame := f, buf := q.buf ++ [f] }

/-- Every output port gives its samples (R354). -/
def Engine.audOutputs (n : Nat) (got : List (Nat × AudFrame × Bool)) (e : Engine) : Engine :=
  ((List.range 14).filter fun o => e.cfg.outUsed o && !(e.aout o).stopped).foldl (fun e o =>
    let vs := (e.cfg.outIds o).map (e.audValue got)
    let e := if vs.any fun v => !v.2 then e.bump .audOutUnderrun (audOutNo o) else e
    e.audOutput n o (vs.map (·.1))) e

/-- The recorded channels of this tick (R355). -/
def Engine.audRecord (got : List (Nat × AudFrame × Bool)) (e : Engine) : Engine :=
  if e.cfg.recCh = 0 then e
  else
    let f := e.cfg.recIds.map fun id => (e.audValue got id).1
    { e with aud := { e.aud with cur := { e.aud.cur with
      frames := f :: e.aud.cur.frames, invalid := e.aud.cur.invalid || f.any (·.2) } } }

/-- AUDIO_TICK (R339, R346, R351, R354, R355): the tick of sample n. -/
def Engine.audioTick (e : Engine) : Engine :=
  if !(e.has 0x0070 && e.aud.running) then e
  else
    let n := e.aud.n
    let (got, e) := e.audSources
    let e := (e.audOutputs n got).audRecord got
    { e with aud := { e.aud with n := n + 1, play := e.aud.play.drop 1 } }

def execAudioTick (t : Nat) (s : State) : Out := s.run t fun e => e.whenLive (·.audioTick)

/-- n set from the DTB: the first sample whose tick has not passed (R340). -/
def Engine.audSetN (e : Engine) : Engine :=
  let k := e.dtb * e.cfg.audFs
  { e with aud := { e.aud with n := (-(-k / 65536000000000)).toNat } }

/-- Receive streams are primed at the counter that has just been set (R340, R347). -/
def Engine.audPrimeAll (e : Engine) : Engine :=
  ((List.range 14).filter fun m => e.cfg.srcUsed m && e.cfg.srcFifo m && !(decide (m = 4) || decide (m = 5))).foldl
    (fun e m => e.audPrime m) e

/-- AUD_PLL_FIRST_LOCK (R340). -/
def Engine.audFirstLock (e : Engine) : Engine :=
  if !e.has 0x0070 || e.aud.running then e
  else
    let e : Engine := { e with aud := { e.aud with pllLock := true, running := true } }
    let e := e.audSetN
    e.audPrimeAll

def execAudPllFirstLock (t : Nat) (s : State) : Out := s.run t fun e => e.whenLive (·.audFirstLock)

/-- The DTB was stepped at its first lock: the counter is set again (R340). -/
def Engine.audRealign (e : Engine) : Engine :=
  if !e.aud.running then e
  else
    let e := e.audSetN
    let e := ((List.range 8).filter e.cfg.stRx).foldl (fun e k => e.audPrime (6 + k)) e
    let e := { e with aud := { e.aud with outs := e.aud.outs.map fun (q : AudOut) => { q with buf := [] } } }
    e.emit 0x02C0 .audRealign []

/-- The root has lost lock: Class A (R342). -/
def Engine.audCoast (e : Engine) : Engine :=
  if !(e.has 0x0070 && e.aud.running) || e.aud.coast then e
  else
    let e : Engine := { e with aud := { e.aud with pllLock := false, coast := true } }
    e.emit 0x02C0 .audCoast []

/-- AUD_RELOCK (R342): n / fs meets the DTB again. -/
def Engine.audRelock (e : Engine) : Engine :=
  if !e.aud.coast || e.clk.root ≠ .locked then e
  else
    let e : Engine := { e with aud := { e.aud with pllLock := true, coast := false } }
    e.emit 0x02C0 .audRelock []

def execAudRelock (t : Nat) (s : State) : Out := s.run t fun e => e.whenLive (·.audRelock)

/-- AUD_IN_LOCK (R349): 384 frames with correct preambles. -/
def Engine.audInLock (i : Nat) (e : Engine) : Engine :=
  if !e.cfg.aesIn i || (e.asrc (4 + i)).stopped || ((e.asrc (4 + i)).locked && !(e.asrc (4 + i)).lost) then e
  else
    let e := if (e.asrc (4 + i)).primed then e else e.audPrime (4 + i)
    (e.modSrc (4 + i) fun q => { q with locked := true, lost := false }).emit (audSrcNo (4 + i)) .audInLock []

def execAudInLock (t : Nat) (i : Fin 2) (s : State) : Out := s.run t fun e => e.whenLive (·.audInLock i)

/-- AUD_IN_LOSS (R349): the FIFO then underruns. -/
def Engine.audInLoss (i : Nat) (e : Engine) : Engine :=
  if !(e.asrc (4 + i)).locked then e
  else (e.modSrc (4 + i) fun q => { q with locked := false }).emit (audSrcNo (4 + i)) .audInLoss []

def execAudInLoss (t : Nat) (i : Fin 2) (s : State) : Out := s.run t fun e => e.whenLive (·.audInLoss i)

/-- AUD_IN_RATE (R347): measured beyond 2,000 ppm of fs for 100 ms, the source is treated as lost. -/
def Engine.audInRate (m : Nat) (e : Engine) : Engine :=
  if !e.cfg.srcUsed m || !e.cfg.srcFifo m || (e.asrc m).lost then e
  else (e.modSrc m fun q => { q with lost := true }).emit (audSrcNo m) .audInRate []

def execAudInRate (t : Nat) (src : Fin 14) (s : State) : Out := s.run t fun e => e.whenLive (·.audInRate src)

/-- A frame arrives at a FIFO (R347). -/
def Engine.audArrive (m : Nat) (f : AudFrame) (e : Engine) : Engine :=
  if e.cfg.srcDepth m ≤ (e.asrc m).fifo.length then e.bump .audInOverrun (audSrcNo m)
  else e.modSrc m fun q => { q with fifo := q.fifo ++ [(0, f)] }

/-- A TDM port that follows its clocks sends its next frame: zero when none waits (R354). -/
def Engine.audTdmSend (o : Nat) (e : Engine) : Engine :=
  match (e.aout o).buf with
  | f :: r => e.modOut o fun q => { q with frame := f, buf := r }
  | [] => (e.bump .audOutUnderrun (audOutNo o)).modOut o fun q => { q with frame := zeroFrame (e.cfg.tdmSlots o) }

/-- AUD_IN_SAMPLE (R343, R346, R349): one frame at a TDM port or at an AES3 input. -/
def Engine.audInSample (m : Nat) (samples : List (Nat × Bool)) (parityErr : Bool) (e : Engine) : Engine :=
  let q := e.asrc m
  if q.stopped ∨ 6 ≤ m then e
  else if m < 4 then
    let e := if e.cfg.tdmOut m && !e.cfg.tdmMaster m && !(e.aout m).stopped && e.aud.running then e.audTdmSend m else e
    let f := (samples.take (e.cfg.tdmSlots m)).map fun x => (x.1 % 16777216, false)
    if !e.cfg.tdmIn m || q.lost then e
    else if e.cfg.tdmMaster m then e.modSrc m fun q => { q with fifo := [(0, f)] }
    else e.audArrive m f
  else if !e.cfg.aesIn (m - 4) || !q.locked || q.lost then e
  else
    let e := if parityErr then e.bump .audParity (audSrcNo m) else e
    e.audArrive m (samples.map fun x => (x.1 % 16777216, x.2 || parityErr))

def execAudInSample (t : Nat) (src : Fin 14) (samples : List (Nat × Bool)) (parityErr : Bool) (s : State) : Out :=
  s.run t fun e => e.whenLive (·.audInSample src samples parityErr)

/-- AES_CS_BLOCK (R350): a channel status block from one Z preamble to the next; its first bit tells professional use. -/
def Engine.aesCsBlock (i : Nat) (bits : List Bool) (zExact : Bool) (e : Engine) : Engine :=
  let q := e.asrc (4 + i)
  if !e.cfg.aesIn i || !q.locked || q.stopped then e
  else if zExact && decide (bits.length = 192) && (!(bits.getD 0 false) || decide (bits.drop 184 = aesCrcc bits)) then
    e.modSrc (4 + i) fun q => { q with cs := some bits }
  else e.bump .audCsErr (audSrcNo (4 + i))

/-- The block is its first 23 bytes and its last, the CRCC. -/
def execAesCsBlock (t : Nat) (i : Fin 2) (bits : List Bool) (zExact : Bool) (crcc : List Bool) (s : State) : Out :=
  s.run t fun e => e.whenLive (·.aesCsBlock i (bits ++ crcc) zExact)

/-- A sample's n bits from bit 0 on. -/
def sampleBits (n v : Nat) : List Bool := (List.range n).map (v.testBit ·)

/-- One AES3 subframe (R351): its preamble, 0 Z, 1 X, 2 Y, and time slots 4 to 31: the sample least significant bit first, V, user bit 0,
channel status, and even parity (AES3; log 40). -/
def aesSubframe (preamble : Nat) (x : Nat × Bool) (c : Bool) : Nat × List Bool :=
  let b := sampleBits 24 x.1 ++ [x.2, false, c]
  (preamble, b ++ [b.foldl (· != ·) false])

/-- The frame that AES3 output o sends now (R351): Z every 192 frames, both subframes with the block's bit. -/
def Engine.aesFrame (e : Engine) (o : Nat) : List (Nat × List Bool) :=
  let q := e.aout (4 + o)
  let k := (q.pos + 191) % 192
  let c := q.block.getD k false
  [aesSubframe (if k = 0 then 0 else 1) (q.frame.getD 0 (0, true)) c, aesSubframe 2 (q.frame.getD 1 (0, true)) c]

/-- The frame that TDM output n drives now (Table 13.3): level of TDMn_FS and data bit at each BCLK, and whether data changes on the rising
edge. Slots are 32 BCLK: the sample, most significant bit first, then 8 zero bits. -/
def Engine.tdmWire (e : Engine) (n : Nat) : Bool × List (Bool × Bool) :=
  let c := e.cfg
  let len := 32 * c.tdmSlots n
  let data := (List.range (c.tdmSlots n)).flatMap fun s =>
    (sampleBits 24 ((e.aout n).frame.getD s (0, true)).1).reverse ++ List.replicate 8 false
  let wide := if c.b 0x0070 (1 + n) 26 then len / 2 else 1
  let delay := if c.b 0x0070 (1 + n) 25 then 1 else 0
  (c.b 0x0070 (1 + n) 24, (List.range len).map fun i =>
    (decide (i < wide) != c.b 0x0070 (1 + n) 27, data.getD ((i + len - delay) % len) false))

/-- A receiver with what has waited longer than its allowance settled: how many came by one path of two (R331). -/
def RtpRx.settle (r : RtpRx) (paths now wait : Nat) : RtpRx × Nat :=
  let old := r.seen.filter fun x => decide (x.2.2 + wait ≤ now)
  ({ r with seen := r.seen.filter fun x => !decide (x.2.2 + wait ≤ now) },
    if paths = 3 then (old.filter fun x => x.2.1 ≠ 3).length else 0)

/-- A packet at a receiver: a first copy is kept, the other is discarded (R331). -/
def RtpRx.take (r : RtpRx) (path seq now : Nat) : RtpRx × Bool :=
  match r.seen.find? (·.1 = seq) with
  | some _ =>
    ({ r with seen := r.seen.map fun x => if x.1 = seq then (x.1, x.2.1 ||| 2 ^ path, x.2.2) else x }, false)
  | none => ({ seen := r.seen ++ [(seq, 2 ^ path, now)], losing := false }, true)

/-- The samples of a packet put into a receive stream's FIFO (R346, R353). -/
def Engine.audPlace (m : Nat) (ts0 : Int) (e : Engine) (x : AudFrame × Nat) : Engine :=
  let ts := ts0 + x.2
  let q := e.asrc m
  if ts < q.readTs ∨ q.fifo.any fun y => (y.1 : Int) = ts then e
  else if e.cfg.srcDepth m ≤ q.fifo.length then e.bump .audInOverrun (audSrcNo m)
  else e.modSrc m fun q => { q with fifo := q.fifo ++ [(ts.toNat, x.1)] }

/-- AUD_RX_PACKET (R331, R353). -/
def Engine.audRxPacket (n path ssrc seq ts : Nat) (samples : List (List Nat)) (e : Engine) : Engine :=
  let m := 6 + n
  let other := e.cfg.audSt n 4 31 0 ≠ 0 ∧ e.cfg.audSt n 4 31 0 ≠ ssrc
  if !e.cfg.stRx n || other || !(e.cfg.stPaths n).testBit path || e.netHeld path || (e.asrc m).stopped || !e.aud.running then e
  else
    let (rx, one) := (vget e.aud.rx n RtpRx.reset).settle (e.cfg.stPaths n) e.now (us 125 * e.cfg.stPlayout n)
    let (rx, new) := rx.take path seq e.now
    let e := e.bumpN .nvRxPath (audSrcNo m) 0 one
    let e := { e with aud := { e.aud with rx := vmod e.aud.rx n fun _ => rx } }
    if !new || (e.asrc m).lost then e
    else
      let ts0 := (e.aud.n : Int) + signedOf 32 (toBits 32 ((ts : Int) - e.aud.n))
      let fs := samples.map fun f => f.map fun v => (v % 16777216, false)
      fs.zipIdx.foldl (fun e x => e.audPlace m ts0 x) e

def execAudRxPacket (t : Nat) (n : Fin 8) (path : Fin 2) (seq : RtpSeq) (ts : Nat) (samples : List (List Nat)) (s : State) : Out :=
  s.run t fun e => e.whenLive (·.audRxPacket n path seq.ssrc seq.seq ts samples)

/-- The copies of a packet of a send stream: L24 with the marker 0 (R353; ST 2110-30). -/
def Engine.audCopies (e : Engine) (n seq ts : Nat) (frames : List AudFrame) : List NetPacket :=
  let f := e.cfg.audSt n
  e.netCopies (e.cfg.stPaths n) (fun p => if p = 0 then f 0 27 26 else f 0 25 24) (fun p => f (1 + p) 31 0) (f 0 9 4) (f 3 15 0)
    (f 3 31 16) (rtpHeader false (f 0 16 10) seq ts (f 4 31 0) ++ payload24 frames)

/-- AUD_TX_PACKET (R353): the samples of one packet time leave, stamped with the n of the first. -/
def Engine.audTxPacket (n : Nat) (e : Engine) : Engine :=
  let k := e.cfg.stTicks n
  let q := e.aout (6 + n)
  if !e.cfg.stTx n || q.stopped || q.buf.length < k then e
  else
    e.modOut (6 + n) fun q => { q with
      packet := e.audCopies n q.seq q.bufN (q.buf.take k)
      seq := q.seq + 1, buf := q.buf.drop k, bufN := q.bufN + k }

def execAudTxPacket (t : Nat) (n : Fin 8) (s : State) : Out := s.run t fun e => e.whenLive (·.audTxPacket n)

/-- A project frame begins: the block of the one before is whole (R341). base is the CFN of its first slot. -/
def Engine.audFrameEnd (base : Nat) (e : Engine) : Engine :=
  { e with aud := { e.aud with
    done := (e.aud.cur :: e.aud.done).take 16, cur := ⟨base, [], false, false⟩ } }

/-- The audio block of the project frame that holds a frame of the run, as far as it goes. -/
def Engine.audBlockOf (e : Engine) (c : Nat) : Option AudBlock :=
  (e.aud.cur :: e.aud.done).find? fun b =>
    decide (0 ≤ cfnDiff c b.base ∧ cfnDiff c b.base < e.cfg.phases)

/-- The samples of a block in the form of R266. -/
def AudBlock.bytes (b : AudBlock) : List Byte :=
  b.frames.reverse.flatMap fun f => f.flatMap fun x => le 4 (256 * x.1 + bit x.2)

/-- Audio flags of a frame's record: coast, slip and invalid (R342, R355). -/
def Engine.audFlags (e : Engine) (c : Nat) (fs : Nat) : Nat :=
  let fs := addFlagIf e.aud.coast .audioCoast fs
  if e.sys.mode ≠ .record then fs
  else
    match e.audBlockOf c with
    | some b => addFlagIf b.invalid .audioInvalid (addFlagIf b.slip .audioSlip fs)
    | none => fs

/-- A unit of the audio ports stops (R23): sources and outputs are given by their indexes. -/
def Engine.audStop (srcs outs : List Nat) (e : Engine) : Engine :=
  let e := srcs.foldl (fun e m => e.modSrc m fun q => { AudSrc.reset with stopped := true, slipAt := q.slipAt }) e
  outs.foldl (fun e o => e.modOut o fun q => { AudOut.reset with stopped := true, seq := q.seq }) e

/-- It starts again: its FIFOs are primed (R347), an AES3 input's at its first lock. -/
def Engine.audStart (srcs outs : List Nat) (e : Engine) : Engine :=
  let e := srcs.foldl (fun e m =>
    let e := e.modSrc m fun q => { q with stopped := false }
    if (m = 4 ∨ m = 5) ∨ !e.aud.running then e else e.audPrime m) e
  outs.foldl (fun e o => e.modOut o fun q => { q with stopped := false }) e

/-- STS_AUDIO (R356, Table 13.7). -/
def Engine.stsAudio (e : Engine) : List Word :=
  let src (m : Nat) : Word :=
    let q := e.asrc m
    let slipping := match q.slipAt with
      | some t => decide (e.now < t + secs 1)
      | none => false
    let st := if !e.cfg.srcUsed m || q.stopped then 0
      else if q.lost || (decide (m = 4 ∨ m = 5) && !q.locked) then 3
      else if slipping then 2 else 1
    mkWord [(31, 30, st), (29, 24, satNat 63 q.fifo.length)]
  mkWord [(31, 31, bit e.aud.pllLock), (30, 30, bit e.aud.coast), (29, 29, e.cf 0x0070 0 31 31)] :: (List.range 14).map src

end Sys2Proof.Machine
end

