-- ==== Sys2Proof/Machine/Binary.lean ====
section
/-! DEFINITION. The binary16 and binary32 arithmetic of the colour pipeline (R156, R157), and the functions of fixed
point that the encodings of R170 and the scaler of R172 are computed with. -/

namespace Sys2Proof.Machine

/-- Division rounded to nearest, ties to even. -/
def rne (n d : Nat) : Nat :=
  let q := n / d
  let r := n % d
  if 2 * r > d ∨ (2 * r = d ∧ q % 2 = 1) then q + 1 else q

/-- The magnitude an infinity stands for: 2^128 in units of 2^-149. -/
def infMag : Nat := 2 ^ 277

/-- A binary32 number: its sign, its magnitude in units of 2^-149 (infMag an infinity), and whether it is a NaN. -/
structure F32 where
  neg : Bool
  mag : Nat
  nan : Bool
  deriving DecidableEq, Repr

namespace F32

/-- The magnitude n / d, in units of 2^-149, rounded to 24 significant bits. -/
def round (n d : Nat) : Nat :=
  let q := n / d
  let s := Nat.log2 q - 23
  min infMag (rne n (d * 2 ^ s) * 2 ^ s)

/-- An infinity. -/
def isInf (a : F32) : Bool := a.mag = infMag

/-- A rational number n / d as binary32. -/
def ofRat (n : Int) (d : Nat) : F32 := ⟨decide (n < 0), round (n.natAbs * 2 ^ 149) d, false⟩

def ofInt (n : Int) : F32 := ofRat n 1

def mul (a b : F32) : F32 :=
  ⟨a.neg != b.neg, if a.isInf || b.isInf then infMag else round (a.mag * b.mag) (2 ^ 149),
    a.nan || b.nan || (a.isInf && b.mag = 0) || (b.isInf && a.mag = 0)⟩

def div (a b : F32) : F32 :=
  ⟨a.neg != b.neg,
    if b.isInf then 0 else if a.isInf || b.mag = 0 then infMag else round (a.mag * 2 ^ 149) b.mag,
    a.nan || b.nan || (a.isInf && b.isInf) || (a.mag = 0 && b.mag = 0)⟩

def add (a b : F32) : F32 :=
  let nan := a.nan || b.nan || (a.isInf && b.isInf && a.neg != b.neg)
  if a.isInf then ⟨a.neg, infMag, nan⟩
  else if b.isInf then ⟨b.neg, infMag, nan⟩
  else if a.neg = b.neg then ⟨a.neg, round (a.mag + b.mag) 1, nan⟩
  else if b.mag < a.mag then ⟨a.neg, round (a.mag - b.mag) 1, nan⟩
  else if a.mag < b.mag then ⟨b.neg, round (b.mag - a.mag) 1, nan⟩
  else ⟨false, 0, nan⟩

def negate (a : F32) : F32 := { a with neg := !a.neg }

def sub (a b : F32) : F32 := a.add b.negate

/-- a < b. -/
def lt (a b : F32) : Bool := (a.sub b).neg

def one : F32 := ofInt 1

/-- Held between 0 and 1. -/
def clamp01 (a : F32) : F32 :=
  if a.nan then a else if a.neg then ⟨false, 0, false⟩ else if one.mag < a.mag then one else a

/-- The value of a binary16 pattern, infinities and NaN among them (log 151). -/
def of16 (p : Nat) : F32 :=
  let e := p / 1024 % 32
  let m := p % 1024
  if e = 31 then ⟨p.testBit 15, infMag, m ≠ 0⟩
  else ⟨p.testBit 15, if e = 0 then m * 2 ^ 125 else (1024 + m) * 2 ^ (124 + e), false⟩

/-- The pattern of a number rounded to binary16: ties to even, saturating at 65,504 (R157). What a NaN gives is open (log 151). -/
def to16 (a : F32) : Nat :=
  if a.nan then Config.unstated 157 a.mag % 65536 else
  let s := max 125 (Nat.log2 a.mag - 10)
  let m := rne a.mag (2 ^ s)
  let v := min (m * 2 ^ s) (65504 * 2 ^ 149)
  let e := max 125 (Nat.log2 v - 10)
  let k := v / 2 ^ e
  let bits := if k < 1024 then k else (e - 124) * 1024 + (k - 1024)
  if a.neg then 0x8000 + bits else bits

/-- To the nearest integer, halves up, at least 0. -/
def toNat (a : F32) : Nat := if a.neg then 0 else (2 * a.mag + 2 ^ 149) / 2 ^ 150

/-- The sum of products in the order given, each step in binary32. -/
def dot : List (F32 × F32) → F32
  | [] => ⟨false, 0, false⟩
  | (a, b) :: r => r.foldl (fun s q => s.add (q.1.mul q.2)) (a.mul b)

end F32

/-- Unit of the fixed-point functions: 2^48. -/
def fxOne : Nat := 2 ^ 48

/-- Bits of a logarithm's fraction, from a mantissa in [1, 2) with 64 fraction bits. -/
def logBits : (fuel : Nat) → (m acc : Nat) → Nat
  | 0, _, acc => acc
  | n + 1, m, acc =>
    let m := m * m / 2 ^ 64
    if 2 ^ 65 ≤ m then logBits n (m / 2) (2 * acc + 1) else logBits n m (2 * acc)

/-- log2 of n / d for positive n and d, in units of 2^-48. -/
def fxLog2 (n d : Nat) : Int :=
  let k : Int := (Nat.log2 (n * 2 ^ 256 / d) : Int) - 256
  let m := if 0 ≤ k then n * 2 ^ 64 / (d * 2 ^ k.toNat) else n * 2 ^ (64 + k.natAbs) / d
  k * fxOne + logBits 48 m 0

/-- Integer square root by binary digits, of a number below 4 ^ fuel. -/
def sqrtBits : (fuel : Nat) → (n r : Nat) → Nat
  | 0, _, r => r
  | k + 1, n, r => let c := r + 2 ^ k; if c * c ≤ n then sqrtBits k n c else sqrtBits k n r

/-- 2 to a fraction given by bits, from the root c = 2 ^ (2 ^ -b) of the bit before. -/
def expBits : (fuel : Nat) → (f c acc : Nat) → Nat
  | 0, _, _, acc => acc
  | n + 1, f, c, acc =>
    let c := sqrtBits 66 (c * 2 ^ 64) 0
    expBits n f c (if f.testBit n then acc * c / 2 ^ 64 else acc)

/-- 2 ^ x in units of 2^-48. -/
def fxExp2 (x : Int) : Nat :=
  let i := x / fxOne
  let f := (x % fxOne).toNat
  let m := expBits 48 f (2 * 2 ^ 64) (2 ^ 64)
  if 0 ≤ i then m * 2 ^ i.toNat / 2 ^ 16 else m / 2 ^ (16 + i.natAbs)

/-- (n / d) ^ (a / b) in units of 2^-48; 0 for n = 0. -/
def fxPow (n d a b : Nat) : Nat := if n = 0 then 0 else fxExp2 (fxLog2 n d * a / b)

/-- ln 2 in units of 2^-48. -/
def fxLn2 : Nat := 195103586505167

/-- pi times 2^64. -/
def piFx : Int := 57952155664616982739

/-- Terms of the sine's series: x2 the square, t the term, k its index, all in units of 2^-64. -/
def sinTerms : (fuel k : Nat) → (x2 t acc : Int) → Int
  | 0, _, _, _, acc => acc
  | n + 1, k, x2, t, acc =>
    let t' := -(t * x2 / 2 ^ 64) / ((2 * k + 2) * (2 * k + 3) : Nat)
    sinTerms n (k + 1) x2 t' (acc + t')

/-- sin(pi * n / d) in units of 2^-64. -/
def sinPi (n : Int) (d : Nat) : Int :=
  let x := piFx * n / d
  sinTerms 24 0 (x * x / 2 ^ 64) x x

/-- sinc(n / d) = sin(pi t) / (pi t), in units of 2^-64. -/
def sinc (n : Int) (d : Nat) : Int := if n = 0 then 2 ^ 64 else sinPi n d * 2 ^ 64 / (piFx * n / d)

end Sys2Proof.Machine
end

