-- ==== Sys2Proof/Machine/RawFront.lean ====
section
/-! DEFINITION. The raw front end (ch. 6): fill and crop, defects, black level, merge, flat field, crosstalk, noise
reduction, the raw taps and the statistics record of one frame. -/

namespace Sys2Proof.Machine

/-- Photosites of one conversion as delivered, line after line; none where nothing was received. -/
abbrev Sites := List (List (Option Nat))

/-- One frame as the receiver closes it. -/
structure FrameIn where
  p : Nat
  cfn : Nat
  pfn : Nat
  ph : Nat
  flags : Nat
  /-- midpoint stamp on the DTB, ticks (R92) -/
  mid : Int
  /-- conversions 0 and 1 -/
  convs : List Sites
  /-- settings in effect (R105) -/
  vals : SetVals
  deriving DecidableEq, Repr

/-- The photosite at delivered column x of line y, when it was received. -/
def Sites.at (g : Sites) (x y : Int) : Option Nat :=
  if x < 0 ∨ y < 0 then none else ((g.getD y.toNat []).getD x.toNat none)

/-- A picture's value; 0 outside it. -/
def Pic.at (g : Pic) (x y : Nat) : Int := (g.getD y []).getD x 0

/-- A picture of w columns and h lines from a function of column and line. -/
def Pic.tab (w h : Nat) (f : Nat → Nat → Int) : Pic := (List.range h).map fun y => (List.range w).map fun x => f x y

/-- Channel of a photosite by its cropped coordinates (R121): 0 R, 1 Gr, 2 Gb, 3 B. -/
def chanOf (cfa : Nat) (x y : Int) : Nat :=
  let q : Int := if cfa < 4 then 1 else 2
  let i := ((y.fdiv q) % 2 * 2 + (x.fdiv q) % 2).toNat
  i ^^^ (cfa % 4)

/-- A defect entry: type, column and line, delivered coordinates (Table 6.5). -/
structure Defect where
  ty : Nat
  x : Nat
  y : Nat
  deriving DecidableEq, Repr

def defectOf (w : Word) : Defect := ⟨wfield w 30 28, wfield w 13 0, wfield w 27 14⟩

/-- An entry of a point kind covers (x, y) in conversion k (R128, Table 6.6). -/
def Defect.point (d : Defect) (k : Nat) (x y : Int) : Bool :=
  decide ((d.x : Int) = x ∧ (d.y : Int) = y) &&
    (d.ty = 0 || d.ty = 3 || d.ty = 6 || (d.ty = 1 && k = 0) || (d.ty = 2 && k = 1))
def Defect.column (d : Defect) (x y : Int) : Bool := d.ty = 4 && decide ((d.x : Int) = x ∧ (d.y : Int) ≤ y)
def Defect.row (d : Defect) (x y : Int) : Bool := d.ty = 5 && decide ((d.y : Int) = y ∧ (d.x : Int) ≤ x)

/-- Any entry covers the photosite in conversion k. -/
def covers (ds : List Defect) (k : Nat) (x y : Int) : Bool :=
  ds.any fun d => d.point k x y || d.column x y || d.row x y

/-- The calibration tables of frame c: those in effect, or those that later frames have swapped away (R145). -/
def Engine.tablesAt (e : Engine) (c : Nat) : CalTables :=
  match e.raw.oldTables.find? fun x => 0 < cfnDiff x.1 c with
  | some x => x.2
  | none => e.raw.tables

/-- What the stages of one port need of the configuration and of the tables in effect. -/
structure RawCtx where
  p : Nat
  cfa : Nat
  bits : Nat
  nconv : Nat
  /-- delivered width and height -/
  w : Nat
  h : Nat
  obc : Nat
  obr : Nat
  /-- static entries, and static and dynamic together -/
  statics : List Defect
  defects : List Defect
  /-- calibration tables of the frame -/
  tabs : CalTables
  /-- noise reduction strength of the frame -/
  str : Nat
  deriving DecidableEq, Repr

def Engine.rawCtx (e : Engine) (p : Nat) (tabs : CalTables) (str : Nat) : RawCtx :=
  let st := (vget tabs.words p []).map defectOf
  { tabs := tabs, str := str, p := p, cfa := e.cfg.cfa, bits := e.cfg.packBits p, nconv := e.cfg.nconv p, w := e.cfg.width p, h := e.cfg.lines p,
    obc := e.cfg.obCols p, obr := e.cfg.obRows p, statics := st
    defects := st ++ (e.raw.dyn.filter (·.1 = p)).map fun d => ⟨6, d.2.1, d.2.2⟩ }

/-- Channel of delivered coordinates. -/
def RawCtx.ch (r : RawCtx) (x y : Int) : Nat := chanOf r.cfa (x - r.obc) (y - r.obr)

/-- The value of a usable photosite of channel ch (R128). -/
def RawCtx.usable (r : RawCtx) (g : Sites) (k ch : Nat) (x y : Int) : Option Nat :=
  match g.at x y with
  | none => none
  | some v => if r.ch x y = ch && !covers r.defects k x y then some v else none

/-- Insertion into an ascending list. -/
def insertAsc {α : Type} (lt : α → α → Bool) (a : α) : List α → List α
  | [] => [a]
  | b :: r => if lt b a then b :: insertAsc lt a r else a :: b :: r

/-- A list in ascending order. -/
def sortAsc {α : Type} (lt : α → α → Bool) : List α → List α
  | [] => []
  | a :: r => insertAsc lt a (sortAsc lt r)

/-- The median; the mean of the middle two, rounded down, of an even number of values (R128). -/
def median (l : List Nat) : Option Nat :=
  let s := sortAsc (fun a b => decide (a < b)) l
  let n := s.length
  if n = 0 then none
  else if n % 2 = 1 then some (s.getD (n / 2) 0) else some ((s.getD (n / 2 - 1) 0 + s.getD (n / 2) 0) / 2)

/-- Coordinates of the 5 x 5 window of a photosite. -/
def window5 (x y : Int) : List (Int × Int) :=
  [-2, -1, 0, 1, 2].flatMap fun dy => [-2, -1, 0, 1, 2].map fun dx => (x + dx, y + dy)

/-- Usable values of the window, with their line. The photosite itself is what is judged or replaced, so it is none of them
(log 150). -/
def RawCtx.windowVals (r : RawCtx) (g : Sites) (k : Nat) (x y : Int) : List (Nat × Int) :=
  ((window5 x y).filter (· ≠ (x, y))).filterMap fun q => (r.usable g k (r.ch x y) q.1 q.2).map fun v => (v, q.2)

/-- The window median (R128). -/
def RawCtx.winMedian (r : RawCtx) (g : Sites) (k : Nat) (x y : Int) : Option Nat :=
  median ((r.windowVals g k x y).map (·.1))

/-- The pair mean along a direction: nearest usable photosite of each side, up to 8 away (R128). -/
def RawCtx.pairMean (r : RawCtx) (g : Sites) (k : Nat) (dx dy x y : Int) : Option Nat :=
  let side (s : Int) : Option Nat :=
    (List.range 8).findSome? fun n => r.usable g k (r.ch x y) (x + s * (n + 1) * dx) (y + s * (n + 1) * dy)
  match side (-1), side 1 with
  | some a, some b => some ((a + b) / 2)
  | some a, none => some a
  | none, some b => some b
  | none, none => none

/-- What replaces a photosite covered in conversion k, or none when it is not covered (R128). -/
def RawCtx.replacement (r : RawCtx) (g : Sites) (blackCode k : Nat) (x y : Int) : Option Nat :=
  let pt := r.defects.any (·.point k x y)
  let cl := r.defects.any (·.column x y)
  let rw_ := r.defects.any (·.row x y)
  if pt || (cl && rw_) then some ((r.winMedian g k x y).getD blackCode)
  else if cl then some ((r.pairMean g k 1 0 x y).getD blackCode)
  else if rw_ then some ((r.pairMean g k 0 1 x y).getD blackCode)
  else none

/-- A FOCUS entry covers the photosite. -/
def RawCtx.focus (r : RawCtx) (x y : Nat) : Bool := r.statics.any fun d => d.ty = 3 && d.x = x && d.y = y

/-- Black estimate of (phase, conversion, channel); BLK_FIXED * 256 when there is none (R132). -/
def Engine.blackEst (e : Engine) (p ph k ch : Nat) : Int :=
  if e.cfg.blkMode = 0 then e.cfg.blkFixed p * 256
  else (vget (vget e.raw.ports p RawPort.reset).black (8 * ph + 4 * k + ch) none).getD (e.cfg.blkFixed p * 256)

/-- The black-level code of an estimate (R133). -/
def blackCode (est : Int) : Nat := ((est + 128) / 256).toNat

/-- OB_REJECT lets a photosite enter a black measurement (R132). -/
def Cfg.obValid (c : Cfg) (p v : Nat) (est : Int) : Bool :=
  c.obReject p = 0 || decide (((v : Int) * 256 - est).natAbs ≤ c.obReject p * 4 * 256)

/-- Valid optical-black photosites of a channel in a rectangle: their sum and how many (R132). -/
def Engine.obSum (e : Engine) (r : RawCtx) (g : Sites) (k ch x1 y0 y1 : Nat) (est : Int) : Nat × Nat :=
  ((List.range (y1 - y0)).flatMap fun dy => (List.range x1).filterMap fun x =>
    match r.usable g k ch x (y0 + dy : Nat) with
    | some v => if e.cfg.obValid r.p v est then some v else none
    | none => none).foldl (fun a v => (a.1 + v, a.2 + 1)) (0, 0)

/-- The mean of a sum in 1/256 code, rounded down (log 31). -/
def mean256 (s : Nat × Nat) : Int := (s.1 * 256 / s.2 : Nat)

/-- One step of the black estimate: the new value, whether it was held, whether clamping changed it, and whether it was
measured (R132). -/
def Engine.blackStep (e : Engine) (r : RawCtx) (g : Sites) (ph k ch : Nat) : Int × Bool × Bool × Bool :=
  let est := e.blackEst r.p ph k ch
  let s := e.obSum r g k ch r.w 0 r.obr est
  let seen := vget (vget e.raw.ports r.p RawPort.reset).blackRun (8 * ph + 4 * k + ch) false
  let next := if s.2 < 64 then est
    else if seen then est + (mean256 s - est) / (2 ^ e.cfg.blkTc : Nat) else mean256 s
  let c := clampInt (e.cfg.blkMin r.p * 256) (e.cfg.blkMax r.p * 256) next
  (c, decide (s.2 < 64), decide (c ≠ next), decide (64 ≤ s.2))

/-- Black estimates of a frame: the state with the new ones, and the flags of R132. -/
def Engine.updateBlack (r : RawCtx) (fr : FrameIn) (e : Engine) : Nat × Engine :=
  if e.cfg.blkMode = 0 then (fr.flags, e)
  else
    let steps := (List.range r.nconv).flatMap fun k => [0, 1, 2, 3].map fun ch =>
      (8 * fr.ph + 4 * k + ch, e.blackStep r (fr.convs.getD k []) fr.ph k ch)
    let held := steps.any (·.2.2.1)
    let range := steps.any (·.2.2.2.1)
    let was := (vget e.raw.ports r.p RawPort.reset).rangeRun
    let upd (q : RawPort) (s : Nat × Int × Bool × Bool × Bool) : RawPort :=
      { q with black := vmod q.black s.1 fun _ => some s.2.1
               blackRun := vmod q.blackRun s.1 fun b => b || s.2.2.2.2 }
    let e := { e with raw := { e.raw with ports := vmod e.raw.ports r.p fun q =>
      { steps.foldl upd q with rangeRun := range } } }
    let e := if held then e.bump .blackHold (0x0140 + r.p) else e
    let e := if range then e.bump .blackRange (0x0140 + r.p) else e
    let e := if range && !was then e.emit (0x0140 + r.p) .blackRange [] else e
    (addFlagIf range .blackRange (addFlagIf held .blackHold fr.flags), e)

/-- Blacks of the four channels on every active line for conversion k, with whether any channel present there uses its
estimate alone (R133). est: the four estimates now, old: those before this frame's optical-black rows. -/
def Engine.lineBlacks (e : Engine) (r : RawCtx) (g : Sites) (k : Nat) (old est : List Int) :
    List (List Int × Bool) :=
  let alone := (est, false)
  if e.cfg.blkMode = 2 then
    let oc := [0, 1, 2, 3].map fun ch => e.obSum r g k ch r.obc 0 r.obr (old.getD ch 0)
    (List.range (r.h - r.obr)).map fun dy =>
      let y := r.obr + dy
      let here := (List.range 8).map fun x => r.ch x y
      let vals := [0, 1, 2, 3].map fun ch =>
        let lc := e.obSum r g k ch r.obc y (y + 1) (est.getD ch 0)
        let o := oc.getD ch (0, 0)
        if lc.2 < 4 ∨ o.2 = 0 then (est.getD ch 0, here.contains ch)
        else (est.getD ch 0 + (mean256 lc - mean256 o), false)
      (vals.map (·.1), vals.any (·.2))
  else List.replicate (r.h - r.obr) alone

/-- norm of R135 for b-bit codes. -/
def rawNorm (b code : Nat) (blk : Int) : Int := (((code : Int) * 256 - blk) * 2 ^ (16 - b) + 128) / 256

def linClamp (x : Int) : Int := clampInt (-1048576) 1048575 x

/-- Stage 4 (R135). -/
def Cfg.merge (c : Cfg) (p c0 c1 : Nat) (b0 b1 : Int) : Int :=
  let b := c.packBits p
  let h := rawNorm b c0 b0
  if c.dualConv p then
    let l := rawNorm b c1 b1
    let lg := (l * c.gainRatio p + 128) / 256
    let w := clampInt 0 256 (Int.tdiv ((h - c.kneeLo p) * 256) ((c.kneeHi p : Int) - c.kneeLo p))
    linClamp (((256 - w) * h + w * lg + 128) / 256)
  else linClamp h

/-- T2 of a code (R134). -/
def Cfg.tap2 (c : Cfg) (p code : Nat) (blk : Int) : Int :=
  clampInt 0 (2 ^ c.packBits p - 1) ((code : Int) - (blk + 128) / 256 + c.pedestal)

/-- A photosite is clipped (R136). -/
def Cfg.clipped (c : Cfg) (p c0 c1 : Nat) : Bool :=
  if c.dualConv p then decide (c.sat1 p ≤ c1) else decide (c.sat0 p ≤ c0)

/-- Half-word i of a list of words, low half first. -/
def half (ws : List Word) (i : Nat) : Nat := wfield (ws.getD (i / 2) 0) (16 * (i % 2) + 15) (16 * (i % 2))

/-- Flat field at (x, y) of a cropped picture w x h (R137). -/
def flatField (mesh : List Word) (ch x y w h : Nat) (lin : Int) : Int :=
  let ux := x * 256 * 65536 / (w - 1)
  let uy := y * 136 * 65536 / (h - 1)
  let (i, fx) := if ux / 65536 = 256 then (255, 65536) else (ux / 65536, ux % 65536)
  let (j, fy) := if uy / 65536 = 136 then (135, 65536) else (uy / 65536, uy % 65536)
  let g (i j : Nat) : Nat := half mesh ((j * 257 + i) * 4 + ch)
  let top := g i j * (65536 - fx) + g (i + 1) j * fx
  let bot := g i (j + 1) * (65536 - fx) + g (i + 1) (j + 1) * fx
  let gain := (top / 65536 * (65536 - fy) + bot / 65536 * fy + 32768) / 65536
  linClamp ((lin * gain + 8192) / 16384)

/-- A coordinate reflected about the edge without repeating it (R138). -/
def reflect (n : Nat) (x : Int) : Nat :=
  if x < 0 then (-x).toNat else if (n : Int) ≤ x then (2 * (n : Int) - 2 - x).toNat else x.toNat

/-- Crosstalk correction at (x, y) (R138). -/
def crosstalk (tab : List Word) (cfa : Nat) (g : Pic) (w h x y : Nat) : Int :=
  let pos := if cfa < 4 then y % 2 * 2 + x % 2 else y % 4 * 4 + x % 4
  let offs : List (Int × Int) := [(-1, -1), (0, -1), (1, -1), (-1, 0), (1, 0), (-1, 1), (0, 1), (1, 1)]
  let s := (offs.mapIdx fun n o =>
    signedOf 16 (half tab (pos * 8 + n)) * g.at (reflect w (x + o.1)) (reflect h (y + o.2))).foldl (· + ·) 0
  linClamp (g.at x y - (s + 16384) / 32768)

/-- Offset linear form (R119). -/
def offsetU (lin : Int) : Nat := (clampInt 0 1048575 (lin + 4096)).toNat

/-- The companded code of R140, and its decoding. -/
def compand (u : Nat) : Nat :=
  if u < 4096 then u
  else
    let e := Nat.log2 u - 11
    e * 4096 + (u / 2 ^ (e - 1) - 4096)
def expand (c : Nat) : Nat :=
  let e := c / 4096
  let m := c % 4096
  if e = 0 then m else (4096 + m) * 2 ^ (e - 1)

/-- Noise reduction of one photosite against its reference (R141). -/
def tnrSite (thr : List Word) (str u ref : Nat) : Int :=
  let r := expand ref
  let d := ((u : Int) - r).natAbs
  let t := half thr (compand u / 1024)
  let a := if d ≤ t then str else if 2 * t ≤ d then 0 else str * (2 * t - d) / t
  (u : Int) + ((a : Int) * ((r : Int) - u) + 128) / 256

/-- The setting change that resets noise reduction: the magnitude of 20 log10 of the exposure ratio plus the gain
difference, above TNR_RESET_QDB quarters of a dB (R142), compared exactly. -/
def tnrFar (limit exp ref : Nat) (dq : Int) : Bool :=
  let gt (a b : Nat) (x : Int) : Bool :=      -- (a / b) ^ 80 > 10 ^ x
    if x < 0 then decide (b ^ 80 < a ^ 80 * 10 ^ x.natAbs) else decide (b ^ 80 * 10 ^ x.toNat < a ^ 80)
  gt exp ref (limit - dq) || gt ref exp (limit + dq)

/-- The reference frame is valid for a frame (R142). -/
def Engine.tnrValid (e : Engine) (fr : FrameIn) (rf : TnrRef) : Bool :=
  rf.mode = fr.vals.mode && rf.rowOff = fr.vals.rowOff && rf.colOff = fr.vals.colOff &&
    !tnrFar e.cfg.tnrResetQdb fr.vals.expNs rf.expNs ((e.cfg.gainQdb fr.p fr.vals.gain : Int) - rf.gainQdb)

/-- Stage 7 (R141, R142): the output codes U, the flags, and the state with the new reference. -/
def Engine.tnr (r : RawCtx) (fr : FrameIn) (flags : Nat) (u : List (List Nat)) (e : Engine) : List (List Int) × Nat × Engine :=
  let pass := u.map fun l => l.map fun v => (v : Int)
  let bad := (vget e.raw.ports fr.p RawPort.reset).tnrPoison
  let e := { e with raw := { e.raw with ports := vmod e.raw.ports fr.p fun (q : RawPort) => { q with tnrPoison := false } } }
  let flags := addFlagIf bad .tnrPartial flags
  -- which lines the poisoned block holds is open (log 24)
  let poison (y : Nat) : Bool := bad && Config.unstated 143 (fr.cfn * 65536 + y) % 2 = 1
  if !e.cfg.tnrEn then (pass, flags, e)
  else if hasFlag flags .empty then (pass, addFlag flags .tnrOff, e)
  else
    let q := vget e.raw.ports fr.p RawPort.reset
    let ref := (vget q.tnr fr.ph none).filter (e.tnrValid fr)
    let thr := vget r.tabs.words 5 []
    let (out, flags, e) := match ref with
      | some rf => (u.mapIdx fun y (l : List Nat) => l.mapIdx fun x (v : Nat) => if poison y then (v : Int) else
          tnrSite thr r.str v ((rf.codes.getD y []).getD x 0), flags, e)
      | none => (pass, addFlag flags .tnrOff, if vget q.tnrSeen fr.ph false then e.bump .tnrReset (0x0140 + fr.p) else e)
    let next : TnrRef :=
      { codes := out.map fun (l : List Int) => l.map fun v => compand v.toNat, mode := fr.vals.mode, rowOff := fr.vals.rowOff,
        colOff := fr.vals.colOff, expNs := fr.vals.expNs, gainQdb := e.cfg.gainQdb fr.p fr.vals.gain }
    (out, flags, { e with raw := { e.raw with ports := vmod e.raw.ports fr.p fun q =>
      { q with tnr := vmod q.tnr fr.ph fun _ => some next, tnrSeen := vmod q.tnrSeen fr.ph fun _ => true } } })

/-- Result of the dynamic test (R129). -/
inductive DynTest where
  | notTested | pass | hot | cold
  deriving DecidableEq, Repr

/-- The dynamic test of the photosite of conversion 0 at delivered (x, y) (R129). blk gives a line's black by channel. -/
def Engine.dynTest (e : Engine) (r : RawCtx) (g : Sites) (blk : Int → Nat → Int) (x y : Nat) : DynTest :=
  match g.at x y with
  | none => .notTested
  | some v =>
    if covers r.statics 0 x y then .notTested
    else
      let ch := r.ch x y
      let n := (r.windowVals g 0 x y).map fun q => rawNorm r.bits q.1 (blk q.2 ch)
      match n with
      | [] => .notTested
      | a :: rest =>
        let hi := rest.foldl max a
        let lo := rest.foldl min a
        let v := rawNorm r.bits v (blk y ch)
        if n.length < 4 ∨ hi - lo > e.cfg.dynFlat * 64 then .notTested
        else if v > hi + e.cfg.dynHot * 16 then .hot
        else if v < lo - e.cfg.dynCold * 16 then .cold
        else .pass

/-- A HOT or COLD result meets the tracker and the dynamic list (R130, R131), in DETECT too (DEDUCED, log 144). -/
def Engine.trackHit (p x y : Nat) (hot : Bool) (e : Engine) : Engine :=
  let e := e.bump .dynCand 0x0142
  let promote (n : Nat) (e : Engine) : Engine :=
    if n ≠ e.cfg.dynPersist ∨ e.raw.dyn.contains (p, x, y) then e
    else if 65536 ≤ e.raw.dyn.length then
      let e := e.bump .dynListFull 0x0142
      if e.raw.listFull then e
      else { e with raw := { e.raw with listFull := true } }.emit 0x0142 .dynListFull []
    else
      let e := { e with raw := { e.raw with dyn := e.raw.dyn ++ [(p, x, y)] } }.bump .dynPromoted 0x0142
      e.emit 0x0142 .defectPromoted (evData [(1, p), (4, x), (4, y), (4, bit (!hot))])
  match e.raw.tracker.find? fun k => k.port = p ∧ k.x = x ∧ k.y = y with
  | some k =>
    let n := k.count + 1
    promote n { e with raw := { e.raw with tracker := e.raw.tracker.map fun q => if q = k then { q with count := n } else q } }
  | none =>
    if 4096 ≤ e.raw.tracker.length then
      let e := e.bump .dynTrackFull 0x0142
      if e.raw.trackFull then e
      else { e with raw := { e.raw with trackFull := true } }.emit 0x0142 .dynTrackFull []
    else promote 1 { e with raw := { e.raw with tracker := e.raw.tracker ++ [⟨p, x, y, 1⟩] } }

/-- Dynamic detection over the cropped picture of a frame: the hits, with HOT, and the state (R129 to R131). -/
def Engine.dynDetect (r : RawCtx) (g : Sites) (blk : Int → Nat → Int) (e : Engine) :
    List (Nat × Nat × Bool) × Engine :=
  if e.cfg.dynMode = 0 then ([], e)
  else
    let sites := (List.range (r.h - r.obr)).flatMap fun y => (List.range (r.w - r.obc)).map fun x => (x + r.obc, y + r.obr)
    let hits := sites.filterMap fun q => match e.dynTest r g blk q.1 q.2 with
      | .hot => some (q.1, q.2, true)
      | .cold => some (q.1, q.2, false)
      | _ => none
    let kept := e.raw.tracker.filter fun k => k.port ≠ r.p || e.dynTest r g blk k.x k.y ≠ .pass
    let e := { e with raw := { e.raw with tracker := kept } }
    (hits, hits.foldl (fun e q => e.trackHit r.p q.1 q.2.1 q.2.2) e)

/-- Bin of the histogram (R149). -/
def Cfg.histBin (c : Cfg) (u : Nat) : Nat :=
  if c.histLog then
    let k := compand u
    k / 4096 * 113 + k % 4096 * 113 / 4096
  else min 1023 (u / 2 ^ c.histShift)

/-- A mean in units of 1/16, rounded down (log 31); over no value at all it is open (log 24). -/
def mean16 (key sum n : Nat) : Nat := if n = 0 then Config.unstated 149 key else 16 * sum / n

/-- Sum, number and clipped number of some sites of a channel. -/
def sumSites (l : List (Nat × Nat × Bool)) (ch : Nat) : Nat × Nat × Nat :=
  l.foldl (fun a s => if s.1 = ch then (a.1 + s.2.1, a.2.1 + 1, a.2.2 + bit s.2.2) else a) (0, 0, 0)

/-- Rectangle [x0, x1) x [y0, y1) of zone (i, j) of an m x n grid over w x h (R149). -/
def zoneOf (w h m n i j : Nat) : Nat × Nat × Nat × Nat := (i * w / m, (i + 1) * w / m, j * h / n, (j + 1) * h / n)

/-- Statistics of a frame (R149): u the T3 picture, clip and focus by cropped coordinates. -/
def Engine.statsOf (e : Engine) (r : RawCtx) (u : List (List Nat)) (clip focus : Nat → Nat → Bool) :
    List Nat × List Nat × List Nat × List Nat × List Nat :=
  let w := r.w - r.obc
  let h := r.h - r.obr
  let at_ (x y : Nat) : Nat := (u.getD y []).getD x 0
  let ch (x y : Nat) : Nat := chanOf r.cfa x y
  let sites (z : Nat × Nat × Nat × Nat) : List (Nat × Nat × Bool) :=
    (List.range (z.2.2.2 - z.2.2.1)).flatMap fun dy => (List.range (z.2.1 - z.1)).filterMap fun dx =>
      let x := z.1 + dx
      let y := z.2.2.1 + dy
      if focus x y then none else some (ch x y, at_ x y, clip x y)
  let all := sites (0, w, 0, h)
  let hist := (all.foldl (fun a s => a.modify (s.1 * 1024 + e.cfg.histBin s.2.1) (· + 1)) (Array.replicate 4096 0)).toList
  let zoneSites := (List.range 36).flatMap fun j => (List.range 64).map fun i => sites (zoneOf w h 64 36 i j)
  let zones := [0, 1, 2, 3].flatMap fun c => zoneSites.mapIdx fun k l =>
    let s := sumSites l c
    mean16 (c * 2304 + k) s.1 s.2.1 % 2 ^ 24 +
      2 ^ 24 * (if s.2.1 = 0 then Config.unstated 149 (16384 + c * 2304 + k) % 256 else 255 * s.2.2 / s.2.1)
  let focusZ := (List.range 9).flatMap fun j => (List.range 16).map fun i =>
    let z := zoneOf w h 16 9 i j
    satNat 0xFFFFFFFFFFFFFFFF (((List.range (z.2.2.2 - z.2.2.1 - 2)).flatMap fun dy =>
      (List.range (z.2.1 - z.1 - 2)).map fun dx =>
        let x := z.1 + dx
        let y := z.2.2.1 + dy
        if (ch x y = 1 ∨ ch x y = 2) ∧ !focus x y ∧ !focus (x + 2) y ∧ !focus x (y + 2) then
          ((at_ (x + 2) y : Int) - at_ x y).natAbs + ((at_ x (y + 2) : Int) - at_ x y).natAbs
        else 0).foldl (· + ·) 0)
  let tot := [0, 1, 2, 3].map (sumSites all)
  (hist, zones, focusZ, tot.map (·.2.2), tot.mapIdx fun c s => mean16 (32768 + c) s.1 s.2.1)

/-- What the raw front end hands on for one frame. -/
structure RawOut where
  flags : Nat
  t1 : List Pic
  t2 : List Pic
  t3 : Pic
  /-- stage 7's output: signed linear, to demosaic -/
  lin : Pic
  black : List (List Nat)
  /-- the statistics record, before it has a slot; none for a phase outside PHASE_MASK -/
  stats : Option StatsRec
  deriving DecidableEq, Repr

/-- The statistics record of a frame without its SEQ (Table 6.8). -/
def Engine.statsRec (e : Engine) (r : RawCtx) (fr : FrameIn) (flags : Nat) (black : List (List Nat))
    (u : List (List Nat)) (clip focus : Nat → Nat → Bool) : StatsRec :=
  let (hist, zones, fz, cl, mean) := e.statsOf r u clip focus
  { cfn := fr.cfn, pfn := fr.pfn, stampS := dtbSec fr.mid, stampNs := dtbNs fr.mid, phase := fr.ph, source := fr.p,
    flags := statsFlags flags, histMode := bit e.cfg.histLog, histShift := e.cfg.histShift,
    black0 := black.getD 0 [], black1 := black.getD 1 [0, 0, 0, 0], seq := 0, hist := hist, zones := zones, focus := fz,
    clip := cl, mean := mean }

/-- Stages 1 to 5 of a frame. -/
structure Stages where
  t1 : List Pic
  /-- codes after defect correction -/
  rep : List Pic
  t2 : List Pic
  /-- after the flat field -/
  lin5 : Pic
  deriving DecidableEq, Repr

/-- Stage 4 and 5 on corrected codes: est and blk give the black of a conversion, line (delivered) and channel. -/
def Cfg.stage45 (c : Cfg) (r : RawCtx) (blk : Nat → Int → Nat → Int) (rep : List Pic) : Pic :=
  let w := r.w - r.obc
  let h := r.h - r.obr
  let code (k x y : Nat) : Nat := ((rep.getD k []).at x y).toNat
  let line (k x y : Nat) : Int := blk k (y + r.obr : Nat) (chanOf r.cfa x y)
  let lin4 := Pic.tab w h fun x y => c.merge r.p (code 0 x y) (code 1 x y) (line 0 x y) (line 1 x y)
  if c.ffEn then
    Pic.tab w h fun x y => flatField (vget r.tabs.words (2 + r.p) []) (chanOf r.cfa x y) x y w h (lin4.at x y)
  else lin4

/-- Stages 1 to 5 (R120, R128, R134, R135, R137): fill gives the black-level code of a conversion and channel, hits the
photosites the dynamic test replaces in their own frame. -/
def Cfg.stages (c : Cfg) (r : RawCtx) (convs : List Sites) (fill : Nat → Nat → Nat) (blk : Nat → Int → Nat → Int)
    (hits : List (Nat × Nat × Bool)) : Stages :=
  let w := r.w - r.obc
  let h := r.h - r.obr
  let t1 (k x y : Nat) : Nat := ((convs.getD k []).at (x + r.obc) (y + r.obr)).getD (fill k (chanOf r.cfa x y))
  let inFrame (x y : Nat) : Bool := hits.any fun q => q.1 = x + r.obc ∧ q.2.1 = y + r.obr
  let rep (k x y : Nat) : Nat :=
    let g := convs.getD k []
    let b := fill k (chanOf r.cfa x y)
    match r.replacement g b k (x + r.obc) (y + r.obr) with
    | some v => v
    | none => if inFrame x y then (r.winMedian g k (x + r.obc) (y + r.obr)).getD b else t1 k x y
  let repPic := (List.range r.nconv).map fun k => Pic.tab w h fun x y => rep k x y
  { t1 := (List.range r.nconv).map fun k => Pic.tab w h fun x y => t1 k x y
    rep := repPic
    t2 := repPic.mapIdx fun k g => Pic.tab w h fun x y =>
      c.tap2 r.p (g.at x y).toNat (blk k (y + r.obr : Nat) (chanOf r.cfa x y))
    lin5 := c.stage45 r blk repPic }

/-- Stage 6 (R138). -/
def Cfg.stage6 (c : Cfg) (r : RawCtx) (lin5 : Pic) : Pic :=
  if c.xtEn then
    Pic.tab (r.w - r.obc) (r.h - r.obr) fun x y =>
      crosstalk (vget r.tabs.words 4 []) r.cfa lin5 (r.w - r.obc) (r.h - r.obr) x y
  else lin5

/-- The raw front end on one frame (R119), with TNR_STR of the frame: its outputs, and the engine after it. Clipping is judged on the
corrected code (DEDUCED, log 145). -/
def Engine.rawFront (str : Nat) (fr : FrameIn) (e : Engine) : RawOut × Engine :=
  let p := fr.p
  let r := e.rawCtx p (e.tablesAt fr.cfn) str
  let ests (e : Engine) : List (List Int) :=
    (List.range r.nconv).map fun k => [0, 1, 2, 3].map fun ch => e.blackEst p fr.ph k ch
  let old := ests e
  let (flags, e) := e.updateBlack r fr
  let est := ests e
  let lb := (List.range r.nconv).map fun k =>
    e.lineBlacks r (fr.convs.getD k []) k (old.getD k []) (est.getD k [])
  let holds := ((List.range (r.h - r.obr)).filter fun y => lb.any fun l => (l.getD y ([], false)).2).length
  let e := e.bumpN .blackLineHold (0x0140 + p) 0 holds
  let blk (k : Nat) (y : Int) (ch : Nat) : Int :=
    if y < r.obr then (est.getD k []).getD ch 0
    else (((lb.getD k []).getD (y - r.obr).toNat ([], false)).1).getD ch 0
  let (hits, e) := e.dynDetect r (fr.convs.getD 0 []) (blk 0)
  let st := e.cfg.stages r fr.convs (fun k ch => blackCode ((est.getD k []).getD ch 0)) blk
    (if e.cfg.dynMode = 2 then hits else [])
  let u := st.lin5.map fun l => l.map offsetU
  let (out, flags, e) := e.tnr r fr flags ((e.cfg.stage6 r st.lin5).map fun l => l.map offsetU)
  let black := est.map fun l => l.map fun v => toBits 32 v
  let code (k x y : Nat) : Nat := ((st.rep.getD k []).at x y).toNat
  let stats := if e.has 0x0022 && e.cfg.statsMask.testBit fr.ph then
      some (e.statsRec r fr flags black u (fun x y => e.cfg.clipped p (code 0 x y) (code 1 x y))
        fun x y => r.focus (x + r.obc) (y + r.obr))
    else none
  ({ flags := flags, t1 := st.t1, t2 := st.t2, t3 := u.map fun l => l.map fun v => (v : Int)
     lin := out.map fun l => l.map (· - 4096), black := black, stats := stats }, e)

/-- A decoded picture of tap 1, 2 or 3 taken through the stages it has not passed, to demosaic (R212): black gives the
estimates recorded with it, conversion after conversion, and ped its PEDESTAL. -/
def Engine.playedLin (e : Engine) (p tap ped : Nat) (black : List Int) (convs : List Pic) : Pic :=
  let r := e.rawCtx p e.raw.tables 0
  let g := convs.getD 0 []
  let lin5 := match tap with
    | 1 =>
      let blank := List.replicate r.obr (List.replicate r.w none)
      let sites := convs.map fun g => blank ++ g.map fun l => List.replicate r.obc none ++ l.map fun v => some v.toNat
      let blk (k : Nat) (_ : Int) (ch : Nat) : Int := black.getD (4 * k + ch) 0
      (e.cfg.stages r sites (fun k ch => blackCode (black.getD (4 * k + ch) 0)) blk []).lin5
    | 2 => e.cfg.stage45 r (fun _ _ _ => (ped : Int) * 256) convs
    | _ => g.map fun l => l.map (· - 4096)
  (e.cfg.stage6 r lin5).map fun l => l.map fun v => (offsetU v : Int) - 4096

end Sys2Proof.Machine
end

