-- ==== Sys2Proof/Machine/Colour.lean ====
section
/-! DEFINITION. The colour pipeline of one frame (ch. 7): demosaic, input matrix, and the stages of a branch. -/

namespace Sys2Proof.Machine

/-- First word of a port's block in COLOUR (R158). -/
def Cfg.colBase (c : Cfg) (p : Nat) : Nat := if p = 0 then 0 else 13 + 2 * c.f 0x0030 2 5 0
/-- Bits of word i of a port's block in COLOUR (Table 7.2). -/
def Cfg.col (c : Cfg) (p i hi lo : Nat) : Nat := c.f 0x0030 (c.colBase p + i) hi lo
def Cfg.nwb (c : Cfg) (p : Nat) : Nat := c.col p 2 5 0
def Cfg.wbCct (c : Cfg) (p k : Nat) : Nat := c.col p (13 + 2 * k) 31 16
def Cfg.wbR (c : Cfg) (p k : Nat) : Nat := c.col p (14 + 2 * k) 31 16
def Cfg.wbB (c : Cfg) (p k : Nat) : Nat := c.col p (14 + 2 * k) 15 0
/-- Element i of M_A (block word 3) or M_B (block word 8). -/
def Cfg.camMat (c : Cfg) (p w i : Nat) : Nat := c.col p (w + i / 2) (16 * (i % 2) + 15) (16 * (i % 2))
/-- QB_MODE (R154): 0 BIN, 1 FULL. -/
def Cfg.qbMode (c : Cfg) (p : Nat) : Nat := c.col p 2 7 6

/-- The coefficients of the input matrix before rounding, row-major, for CCT, tint and ISO; none outside the
white-balance table or outside the ISO range of R160. -/
def Cfg.inputMatrix32 (c : Cfg) (p cct : Nat) (tint : Int) (iso : Nat) : Option (List F32) :=
  let base := c.col p 1 31 16
  match (List.range (c.nwb p - 1)).find? fun k => c.wbCct p k ≤ cct ∧ cct ≤ c.wbCct p (k + 1) with
  | none => none
  | some k =>
    if base = 0 ∨ 16 * iso < base ∨ 16 * base < iso then none
    else
      let inv (x : Nat) : F32 := (F32.ofInt 1000000).div (F32.ofInt x)
      let mired := inv cct
      let a := (mired.sub (inv (c.wbCct p (k + 1)))).div ((inv (c.wbCct p k)).sub (inv (c.wbCct p (k + 1))))
      let mix (t x y : F32) : F32 := (t.mul x).add ((F32.one.sub t).mul y)
      let gr := mix a (F32.of16 (c.wbR p k)) (F32.of16 (c.wbR p (k + 1)))
      let gb := mix a (F32.of16 (c.wbB p k)) (F32.of16 (c.wbB p (k + 1)))
      let gg := F32.one.sub ((F32.ofInt tint).div (F32.ofInt 1024))
      let ca := inv (c.col p 0 31 16)
      let cb := inv (c.col p 0 15 0)
      let w := ((mired.sub cb).div (ca.sub cb)).clamp01
      let s := (F32.ofInt iso).div (F32.ofInt base)
      some ((List.range 9).map fun i =>
        (s.mul (mix w (F32.of16 (c.camMat p 3 i)) (F32.of16 (c.camMat p 8 i)))).mul ([gr, gg, gb].getD (i % 3) F32.one))

/-- The input matrix as binary16 patterns; none when R160 refuses it. A coefficient that is no number is not within ±65,504
(log 151). -/
def Cfg.inputMatrix (c : Cfg) (p cct : Nat) (tint : Int) (iso : Nat) : Option (List Nat) :=
  match c.inputMatrix32 p cct tint iso with
  | none => none
  | some m => if m.any fun x => x.nan || decide (65504 * 2 ^ 149 < x.mag) then none else some (m.map F32.to16)

/-- Colour of a channel: 0 R, 1 G, 2 B. -/
def colourOf (ch : Nat) : Nat := if ch = 0 then 0 else if ch = 3 then 2 else 1

/-- The Bayer picture that is demosaiced: the cropped picture, or the quad-Bayer picture binned or remosaiced (R154). -/
def bayerOf (cfa qb : Nat) (g : Pic) (w h : Nat) : Pic × Nat × Nat :=
  if cfa < 4 then (g, w, h)
  else if qb = 0 then
    (Pic.tab (w / 2) (h / 2) fun x y =>
      (g.at (2 * x) (2 * y) + g.at (2 * x + 1) (2 * y) + g.at (2 * x) (2 * y + 1) + g.at (2 * x + 1) (2 * y + 1) + 2) / 4,
      w / 2, h / 2)
  else
    (Pic.tab w h fun x y =>
      let want := colourOf (chanOf (cfa - 4) x y)
      if colourOf (chanOf cfa x y) = want then g.at x y
      else
        let near := ([-1, 0, 1] : List Int).flatMap fun dy => ([-1, 0, 1] : List Int).filterMap fun dx =>
          let xx := (x : Int) + dx
          let yy := (y : Int) + dy
          if 0 ≤ xx ∧ 0 ≤ yy ∧ xx < w ∧ yy < h ∧ colourOf (chanOf cfa xx yy) = want then
            some (g.at xx.toNat yy.toNat) else none
        near.foldl (· + ·) 0 / near.length, w, h)

/-- A picture's value with reflection about its edges (R138). -/
def Pic.refl (g : Pic) (w h : Nat) (x y : Int) : Int := g.at (reflect w x) (reflect h y)

/-- Green of pass 1 (R155). -/
def greenPass (bay : Nat) (k : Pic) (w h x y : Nat) : Int :=
  let c := colourOf (chanOf bay x y)
  let v (dx dy : Int) : Int := k.refl w h (x + dx) (y + dy)
  if c = 1 then v 0 0
  else
    let dh := (v (-1) 0 - v 1 0).natAbs + (2 * v 0 0 - v (-2) 0 - v 2 0).natAbs
    let dv := (v 0 (-1) - v 0 1).natAbs + (2 * v 0 0 - v 0 (-2) - v 0 2).natAbs
    let gh := (2 * (v (-1) 0 + v 1 0) + 2 * v 0 0 - v (-2) 0 - v 2 0) / 4
    let gv := (2 * (v 0 (-1) + v 0 1) + 2 * v 0 0 - v 0 (-2) - v 0 2) / 4
    linClamp (if dh < dv then gh else if dv < dh then gv else (gh + gv) / 2)

/-- The three components at a position (R155): pass 2 on the greens of pass 1. -/
def demosaicAt (bay : Nat) (k g : Pic) (w h x y : Nat) : Int × Int × Int :=
  let own := colourOf (chanOf bay x y)
  let gr := g.at x y
  let d (dx dy : Int) : Int := k.refl w h (x + dx) (y + dy) - g.refl w h (x + dx) (y + dy)
  let line := colourOf (chanOf bay (x + 1 : Nat) y)
  let other (c : Nat) : Int :=
    linClamp (gr + if own = 1 then
      (if line = c then (d (-1) 0 + d 1 0) / 2 else (d 0 (-1) + d 0 1) / 2)
    else (d (-1) (-1) + d 1 (-1) + d (-1) 1 + d 1 1) / 4)
  (if own = 0 then k.at x y else other 0, gr, if own = 2 then k.at x y else other 2)

/-- A pixel of the working picture: three binary16 patterns. -/
abbrev Px := Nat × Nat × Nat

/-- M times a vector plus offsets, in binary32 with one rounding to binary16 (R156, R167). -/
def matPx (m off : List Nat) (v : Px) : Px :=
  let f (i : Nat) : F32 := F32.of16 (m.getD i 0)
  let row (r : Nat) : Nat :=
    let s := F32.dot [(f (3 * r), F32.of16 v.1), (f (3 * r + 1), F32.of16 v.2.1), (f (3 * r + 2), F32.of16 v.2.2)]
    (if off.isEmpty then s else s.add (F32.of16 (off.getD r 0))).to16
  (row 0, row 1, row 2)

/-- A linear component divided by 65,536, as binary16 (R156). -/
def px16 (d : Int) : Nat := (F32.ofRat d 65536).to16

/-- The working picture of a port (R154 to R156). -/
def Cfg.working (c : Cfg) (p : Nat) (m : List Nat) (lin : Pic) : List (List Px) :=
  let cfa := c.cfa
  let (k, w, h) := bayerOf cfa (c.qbMode p) lin (c.cropW p) (c.cropH p)
  let bay := cfa % 4
  let g := Pic.tab w h (greenPass bay k w h)
  (List.range h).map fun y => (List.range w).map fun x =>
    let q := demosaicAt bay k g w h x y
    matPx m [] (px16 q.1, px16 q.2.1, px16 q.2.2)

/-- The shaper's interpolation of R168 with entries given by a function. -/
def shape (e : Nat → Nat) (x : Nat) : Nat :=
  let i := x / 64
  let f := x % 64
  ((e i : Int) + (((e (i + 1) : Int) - e i) * f + 32) / 64).toNat

/-- Shaper curve ch of branch b (R164). -/
def Cfg.shaper (c : Cfg) (b ch : Nat) (k : Nat) : Nat := half (c.ws (Cfg.branchId b)) (24 + 1024 * ch + k)

/-- Node component ch of a LUT (R176). -/
def LutData.node (l : LutData) (n : Nat × Nat × Nat) (ch : Nat) : Nat := l.nodes.getD (((n.2.2 * 65 + n.2.1) * 65 + n.1) * 3 + ch) 0

/-- FORMAT and ENCODING of a LUT (R177). -/
def LutData.fmt (l : LutData) : Nat := wfield l.desc 31 30
def LutData.encoding (l : LutData) : Nat := wfield l.desc 29 27

/-- The 3D lookup (R169): UNORM16 values, or binary16 patterns. -/
def LutData.lookup (l : LutData) (s : Px) : Px :=
  let ax (v : Nat) : Nat × Nat :=
    let t := v * 4194304 / 65535
    if t / 65536 = 64 then (63, 65536) else (t / 65536, t % 65536)
  let (nr, fr) := ax s.1
  let (ng, fg) := ax s.2.1
  let (nb, fb) := ax s.2.2
  let unit (a : Nat) (n : Nat × Nat × Nat) : Nat × Nat × Nat :=
    if a = 0 then (n.1 + 1, n.2.1, n.2.2) else if a = 1 then (n.1, n.2.1 + 1, n.2.2) else (n.1, n.2.1, n.2.2 + 1)
  let axes : List (Nat × Nat) :=
    if fg ≤ fr then
      if fb ≤ fg then [(0, fr), (1, fg), (2, fb)]
      else if fb ≤ fr then [(0, fr), (2, fb), (1, fg)] else [(2, fb), (0, fr), (1, fg)]
    else if fb ≤ fr then [(1, fg), (0, fr), (2, fb)]
    else if fb ≤ fg then [(1, fg), (2, fb), (0, fr)] else [(2, fb), (1, fg), (0, fr)]
  let a (i : Nat) : Nat := (axes.getD i (0, 0)).1
  let f (i : Nat) : Nat := (axes.getD i (0, 0)).2
  let v0 := (nr, ng, nb)
  let v1 := unit (a 0) v0
  let v2 := unit (a 1) v1
  let v3 := unit (a 2) v2
  let ws := [(65536 - f 0, v0), (f 0 - f 1, v1), (f 1 - f 2, v2), (f 2, v3)]
  let out (ch : Nat) : Nat :=
    if l.fmt = 0 then ((ws.map fun w => w.1 * l.node w.2 ch).foldl (· + ·) 0 + 32768) / 65536
    else (F32.dot (ws.map fun w => (F32.ofRat w.1 65536, F32.of16 (l.node w.2 ch)))).to16
  (out 0, out 1, out 2)

/-- The exact encoding of g = n / d (d positive) by code, in units of 2^-48 (Table 7.6). For PQ g is in cd/m2. -/
def encodeFx (code : Nat) (n : Int) (d : Nat) : Int :=
  let pos := n.toNat
  match code with
  | 0 =>   -- Slanan Log 1
    if 0 ≤ n then fxLog2 (pos * 128 + d) (d * 128) / 16 + 55 * fxOne / 100
    else 1125 * fxOne / 10000 + 115416 * n * fxOne / (10000 * d)
  | 1 =>   -- BT.2100 PQ: m1 = 2610/16384, m2 = 2523/32, c1 = 3424/4096, c2 = 2413/128, c3 = 2392/128
    let (a, b) := if 10000 * d < pos then (1, 1) else (pos, 10000 * d)
    let l := fxPow a b 2610 16384
    fxPow (3424 * fxOne / 4096 + 2413 * l / 128) (fxOne + 2392 * l / 128) 2523 32
  | 2 =>   -- BT.2100 HLG: a = 0.17883277, b = 1 - 4a, c = 0.5 - a ln(4a)
    if 12 * pos ≤ d then sqrtBits 66 (3 * pos * 2 ^ 96 / d) 0
    else
      let lnOf (n d : Nat) : Int := fxLog2 n d * fxLn2 / fxOne
      17883277 * (lnOf (12 * pos * 100000000 - 28466892 * d) (d * 100000000) - lnOf (4 * 17883277) 100000000) / 100000000
        + fxOne / 2
  | _ =>   -- BT.709
    if pos * 1000 < 18 * d then 45 * pos * fxOne / (10 * d)
    else 1099 * (fxPow pos d 45 100 : Int) / 1000 - 99 * fxOne / 1000

/-- A binary16 pattern times ENC_GAIN's, in units of 2^-48: 0x7C00 and 0xFC00 stand for ±65,536 (R168). -/
def gained (gain x : Nat) : Int :=
  let m := if x % 32768 = 0x7C00 then 65536 * 2 ^ 24 else (F32.of16 x).mag / 2 ^ 125
  let n : Int := (m * ((F32.of16 gain).mag / 2 ^ 125) : Nat)
  if x.testBit 15 then -n else n

/-- The largest input of an encoding that clamps its input, in units of 2^-48 (Table 7.6): PQ 10,000 cd/m2, HLG and BT.709 1. -/
def encodeTop (code : Nat) : Option Int :=
  match code with
  | 0 => none
  | 1 => some (10000 * 2 ^ 48)
  | _ => some (2 ^ 48)

/-- The exact encoding of a binary16 pattern under ENC_GAIN's pattern, in units of 2^-48 (Table 7.6). -/
def encodePat (code gain x : Nat) : Int :=
  let n := gained gain x
  encodeFx code (match encodeTop code with
    | some t => clampInt 0 t n
    | none => n) (2 ^ 48)

/-- Stage 5 (R170): the table of the shaper's form, whose entry k is the exact encoding of pattern k << 6 (log 22), interpolated as
R168 does, held to [0, 1] and carried to the nearest 1/65,535; and whether stage 5 clamped the component or its input. -/
def encodeStage (code gain x : Nat) : Nat × Bool :=
  let i := x / 64
  let a := encodePat code gain (64 * i)
  let y := a + (encodePat code gain (64 * (i + 1)) - a) * (x % 64 : Nat) / 64
  let v := clampInt 0 fxOne y
  let n := gained gain x
  (((2 * 65535 * v + fxOne) / (2 * fxOne)).toNat, decide (y < 0 ∨ (fxOne : Int) < y) || match encodeTop code with
    | some t => decide (n < 0 ∨ t < n)
    | none => false)

/-- Stage 6 (R171): Y', Cb and Cr as carried, for YCC 1 (BT.709) or 2 (BT.2020). -/
def yccOf (ycc : Nat) (v : Px) : Px :=
  let (kr, kg, kb) : Nat × Nat × Nat := if ycc = 1 then (2126, 7152, 722) else (2627, 6780, 593)
  let k (n : Nat) : F32 := F32.ofRat n 10000
  let e (n : Nat) : F32 := F32.ofRat n 65535
  let y := F32.dot [(k kr, e v.1), (k kg, e v.2.1), (k kb, e v.2.2)]
  let two := F32.ofInt 2
  let cb := ((e v.2.2).sub y).div (two.mul (F32.one.sub (k kb)))
  let cr := ((e v.1).sub y).div (two.mul (F32.one.sub (k kr)))
  let carry (x : F32) : Nat := min 65535 (x.mul (F32.ofInt 65535)).toNat
  let halfV := F32.ofRat 1 2
  (carry y, carry (cb.add halfV), carry (cr.add halfV))

/-- The factor D of R172. -/
def blockFactor (inN out : Nat) : Nat := if 4 * out ≤ inN then 4 else if 2 * out ≤ inN then 2 else 1

/-- Division by d > 0 rounded to nearest, halves up (log 31). -/
def nearest (n : Int) (d : Nat) : Int := (2 * n + d) / (2 * d)

/-- The kernel of R172 at n / 64, in units of 1/4,096, rounded to nearest: Lanczos-3, or cubic convolution. -/
def kernel (bicubic : Bool) (n : Int) : Int :=
  if bicubic then
    let t := n.natAbs
      let v : Int := if t ≤ 64 then 3 * (t ^ 3 : Nat) - 5 * (t ^ 2 * 64 : Nat) + 2 * (64 ^ 3 : Nat)
      else if t < 128 then -(t ^ 3 : Nat) + 5 * (t ^ 2 * 64 : Nat) - 8 * (t * 64 ^ 2 : Nat) + 4 * (64 ^ 3 : Nat)
      else 0
    nearest (v * 4096) (2 * 64 ^ 3)
  else if 192 ≤ n.natAbs then 0 else nearest (sinc n 64 * sinc n 192 * 4096) (2 ^ 128)

/-- Weights of a phase, taps in ascending k, their sum made 4,096 (R172). -/
def weights (bicubic : Bool) (ph : Nat) : List Int :=
  let ks : List Int := if bicubic then [-1, 0, 1, 2] else [-2, -1, 0, 1, 2, 3]
  let ws := ks.map fun k => kernel bicubic (64 * k - ph)
  let short := 4096 - ws.foldl (· + ·) 0
  let at_ : Int := if ph < 32 then 0 else 1
  (ks.zip ws).map fun q => if q.1 = at_ then q.2 + short else q.2

/-- One line of values scaled to out values (R172). A tap is reflected once, and reads 0 if it is outside still (log 149). -/
def scaleLine (bicubic : Bool) (inp : List Int) (out : Nat) : List Int :=
  let n := inp.length
  let step := n * 65536 / out
  (List.range out).map fun j =>
    let s : Int := ((2 * j + 1) * step / 2 : Nat) - 32768
    let i := s / 65536
    let ph := (s % 65536).toNat / 1024
    let k0 : Int := if bicubic then -1 else -2
    let v := ((weights bicubic ph).mapIdx fun q w => w * inp.getD (reflect n (i + k0 + q)) 0).foldl (· + ·) 0
    clampInt 0 65535 ((v + 2048) / 4096)

/-- Columns of a picture as lines. -/
def transpose (g : Pic) : Pic :=
  match g with
  | [] => []
  | l :: _ => (List.range l.length).map fun x => g.map fun r => r.getD x 0

/-- Blocks of D along each line replaced by their sum, the rest dropped. -/
def sumBlocks (d : Nat) (l : List Int) : List Int :=
  (List.range (l.length / d)).map fun i => ((List.range d).map fun k => l.getD (i * d + k) 0).foldl (· + ·) 0

/-- Blocks of dx columns and dy lines replaced by their mean, rounded once to nearest (R172). -/
def shrink (dx dy : Nat) (g : Pic) : Pic :=
  (transpose ((transpose (g.map (sumBlocks dx))).map (sumBlocks dy))).map fun l => l.map fun s => nearest s (dx * dy)

/-- The scaler (R172), horizontal first, each axis with its own D. -/
def scalePlane (bicubic : Bool) (g : Pic) (w h : Nat) : Pic :=
  let g := shrink (blockFactor (g.headD []).length w) (blockFactor g.length h) g
  transpose ((transpose (g.map fun l => scaleLine bicubic l w)).map fun l => scaleLine bicubic l h)

/-- Chroma subsampling of one plane (R173): chroma 1 is 4:2:2, 2 is 4:2:0. -/
def subsample (chroma : Nat) (g : Pic) : Pic :=
  let across := g.map fun l => (List.range (l.length / 2)).map fun k =>
    let at_ (x : Int) : Int := l.getD (reflect l.length x) 0
    (at_ (2 * k - 1) + 2 * at_ (2 * k) + at_ (2 * k + 1) + 2) / 4
  if chroma = 2 then
    (List.range (across.length / 2)).map fun k =>
      List.zipWith (fun a b => (a + b + 1) / 2) (across.getD (2 * k) []) (across.getD (2 * k + 1) [])
  else across

/-- Stage 9 for a luma or colour component (isC false) or for Cb and Cr: the code, and whether the limit changed it
(R174). -/
def quantise (bits : Nat) (full isC : Bool) (v : Int) : Nat × Bool :=
  let top := 2 ^ (bits - 8)
  let code : Int :=
    if full then
      if isC then nearest ((2 ^ bits - 1 : Nat) * (2 * v - 65535) + 2 ^ bits * 65535) (2 * 65535)
      else nearest ((2 ^ bits - 1 : Nat) * v) 65535
    else if isC then nearest ((224 * (2 * v - 65535) + 128 * 2 * 65535) * top) (2 * 65535)
    else nearest ((219 * v + 16 * 65535) * top) 65535
  let lim := clampInt top (255 * top - 1) code
  (lim.toNat, decide (lim ≠ code))

/-- Stages 1 to 9 of branch b on a working picture (R162): the picture and the clipped components,
those of stage 5 and of the code limit added (DEDUCED, log 148). -/
def Cfg.branchPicture (c : Cfg) (b : Nat) (lut : Option LutData) (cfn ph flags : Nat) (work : List (List Px)) :
    OutPic × Nat :=
  let id := Cfg.branchId b
  let cx := c.f id 1 31 16
  let cy := c.f id 1 15 0
  let cw := c.f id 2 31 16
  let chh := c.f id 2 15 0
  let gain := c.f id 4 31 16
  let mat := (List.range 12).map fun i => c.f id (5 + i / 2) (16 * (i % 2) + 15) (16 * (i % 2))
  let enc := c.brEncode b
  let ycc := c.brYcc b
  let site (q : Px) : Px × Nat :=
    let v := matPx (mat.take 9) (mat.drop 9) q
    let v := match lut with
      | some l => l.lookup (shape (c.shaper b 0) v.1, shape (c.shaper b 1) v.2.1, shape (c.shaper b 2) v.2.2)
      | none => v
    let unorm := match lut with
      | some l => decide (l.fmt = 0)
      | none => false
    if unorm then (v, 0)
    else
      let r := encodeStage enc gain v.1
      let g := encodeStage enc gain v.2.1
      let bl := encodeStage enc gain v.2.2
      ((r.1, g.1, bl.1), bit r.2 + bit g.2 + bit bl.2)
  let px := (List.range chh).map fun y => (List.range cw).map fun x =>
    site ((work.getD (cy + y) []).getD (cx + x) (0, 0, 0))
  let clip5 := (px.map fun l => (l.map (·.2)).foldl (· + ·) 0).foldl (· + ·) 0
  let full := px.map fun l => l.map fun q => if ycc = 0 then q.1 else yccOf ycc q.1
  let plane (f : Px → Nat) : Pic :=
    scalePlane (c.brBicubic b) (full.map fun l => l.map fun q => (f q : Int)) (c.brOutW b) (c.brOutH b)
  let sub (g : Pic) : Pic := if c.brChroma b = 0 then g else subsample (c.brChroma b) g
  let quant (isC : Bool) (g : Pic) : List (List (Nat × Bool)) :=
    g.map fun l => l.map (quantise (c.brDepth b) (c.brFull b) isC)
  let q0 := quant false (plane (·.1))
  let q1 := quant (ycc != 0) (sub (plane (·.2.1)))
  let q2 := quant (ycc != 0) (sub (plane (·.2.2)))
  let codes (q : List (List (Nat × Bool))) : List (List Nat) := q.map fun l => l.map (·.1)
  let clips (q : List (List (Nat × Bool))) : Nat := (q.map fun l => (l.filter (·.2)).length).foldl (· + ·) 0
  (⟨cfn, ph, flags, codes q0, codes q1, codes q2⟩, clip5 + clips q0 + clips q1 + clips q2)

/-- Content of a LUT slot for frame c (R181, R182). -/
def Engine.lutAt (e : Engine) (slot : Nat) (c : Option Nat) : Option LutData :=
  if slot < 16 then
    match c.bind fun c => e.colour.oldLuts.find? fun x => x.2.1 = slot ∧ 0 < cfnDiff x.1 c with
    | some x => x.2.2
    | none => (vget e.colour.slots slot none).map (·.2)
  else none

/-- Slot a branch uses for frame c: 0 to 15, or 31 (R179). -/
def Engine.slotAt (e : Engine) (b : Nat) (c : Option Nat) : Nat :=
  let br := vget e.colour.branches b Branch.reset
  match latestFor (fun s => s.cfn.getD 0) (br.sels.filter (·.cfn.isSome)) c with
  | some s => s.slot
  | none => br.chosen.getD (e.cfg.brLutInit b)

/-- The frame passes branch b when it takes the port and the phase (R166). -/
def Engine.branchTakes (e : Engine) (b p ph : Nat) : Bool :=
  (vget e.colour.branches b Branch.reset).state = .running && e.cfg.brSrc b = p && (e.cfg.brMask b).testBit ph

/-- LUT_ID a branch uses for frame c, 0 with no LUT (R184). -/
def Engine.lutIdAt (e : Engine) (b : Nat) (c : Option Nat) : Nat :=
  match e.lutAt (e.slotAt b c) c with
  | some l => l.lutId
  | none => 0

/-- A branch that takes a frame processes it (R162, R174, R184). -/
def Engine.runBranch (p cfn ph flags : Nat) (key : Option Nat) (work : List (List Px)) (e : Engine) (b : Nat) : Engine :=
  if !e.branchTakes b p ph then e
  else
    let (pic, clips) := e.cfg.branchPicture b (e.lutAt (e.slotAt b key) key) cfn ph flags work
    let e := { e with colour := { e.colour with branches := vmod e.colour.branches b fun q =>
      { q with out := some pic, clips := satNat 0xFFFFFFFF clips } } }
    if clips = 0 then e else e.bump .branchClip (0x0150 + b)

/-- CCT, TINT and ISO of a port at frame c (R161). -/
def Engine.wbAt (e : Engine) (p : Nat) (c : Option Nat) : Nat × Int × Nat :=
  let q := vget e.colour.ports p ColourPort.reset
  match latestFor (·.cfn) q.pend c with
  | some x => (x.cct, x.tint, x.iso)
  | none => (q.cct, q.tint, q.iso)

/-- The colour pipeline on one frame of a port: stage 7's output through every branch, with what is in effect for the
frame named by key. -/
def Engine.colourFrame (p cfn ph flags : Nat) (key : Option Nat) (lin : Pic) (e : Engine) : Engine :=
  if (List.range 6).any fun b => e.branchTakes b p ph then
    let (cct, tint, iso) := e.wbAt p key
    let work := e.cfg.working p ((e.cfg.inputMatrix p cct tint iso).getD []) lin
    (List.range 6).foldl (Engine.runBranch p cfn ph flags key work) e
  else e

end Sys2Proof.Machine
end

