-- ==== Sys2Proof/Machine/Settings.lean ====
section
/-! DEFINITION. Scheduling of sensor settings, write windows and settings in effect (R90, R91, R100 to R105, R515), and
the commands SETTINGS, WRITE_WINDOW_START, SENSOR_WRITE_DONE and WRITE_LIST_DEADLINE. -/

namespace Sys2Proof.Machine

/-- The exposure applied for a request in a mode, and whether a bound changed it (R91). -/
def Cfg.applied (c : Cfg) (p m req : Nat) : Nat × Bool :=
  let q := max 1 (c.expQuant p m)
  let r := req / q * q
  let lo := c.expMin p m * q
  let hi := min (c.expMax p m * q) ((c.ephNs p m).toNat / q * q)
  let v := if hi < r then hi else if r < lo then lo else r
  (v, decide (v ≠ r))

/-- Does a change hold for frame c of phase ph and group g (R101). -/
def Change.holds (x : Change) (c : Nat) (ph g : Nat) : Bool :=
  (decide (x.from_ < 0) || decide (cfnDiff x.from_.toNat c ≤ 0)) && x.mask.testBit ph && x.groups.testBit g

/-- The later of two changes: the larger from, and the one added last on a tie. -/
def laterChange (a : Option Change) (x : Change) : Option Change :=
  match a with
  | none => some x
  | some y =>
    if x.from_ < 0 then (if y.from_ < 0 then some x else some y)
    else if y.from_ < 0 then some x
    else if cfnDiff x.from_.toNat y.from_.toNat < 0 then some y else some x

/-- The change that gives group g its value at frame c (R101). -/
def Engine.changeFor (e : Engine) (p g c : Nat) : Option Change :=
  ((e.port p).changes.filter fun x => x.holds c (e.cfg.phaseOf c) g && (e.proj.run || decide (x.from_ < 0))).foldl
    laterChange none

/-- value(g, c) of R101 for every group, from R515 where no change reaches it. -/
def Engine.values (e : Engine) (p c : Nat) : SetVals :=
  let b := (e.port p).base
  let v (g : Nat) : SetVals := match e.changeFor p g c with
    | some x => x.vals
    | none => b
  ⟨(v 0).expNs, (v 1).gain, (v 2).mode, (v 3).rowOff, (v 3).colOff⟩

/-- Codes of the five registers' values: EXP, GAIN, MODE, row offset, column offset (R100). -/
def Cfg.codes (c : Cfg) (p : Nat) (v : SetVals) : List Nat :=
  [(c.applied p v.mode v.expNs).1 / max 1 (c.expQuant p v.mode), c.gainCode p v.gain, v.mode, v.rowOff, v.colOff]

def Engine.codesAt (e : Engine) (p c : Nat) : List Nat := e.cfg.codes p (e.values p c)

/-- Register value a write entry writes for the codes (R100). -/
def Cfg.weValue (c : Cfg) (p i : Nat) (codes : List Nat) : Nat :=
  let k := if c.weGroup p i = 3 then 3 + c.weSrc p i else c.weGroup p i
  (codes.getD k 0 >>> c.weShift p i) % 2 ^ c.weWidth p i

/-- Applied exposure of frame c, in ns (R91), and whether it was clamped. -/
def Engine.expAt (e : Engine) (p c : Nat) : Nat × Bool :=
  let v := e.values p c
  e.cfg.applied p v.mode v.expNs

/-- The exposure midpoint of frame c on the engine's counter (R92). -/
def Engine.midpoint (e : Engine) (p c : Nat) : Int :=
  let m := (e.values p c).mode
  e.tro p m c + ((e.cfg.kNs p m : Int) - (e.expAt p c).1) * 32768

/-- ws(w) of R101: start of write window w. -/
def Engine.wsAt (e : Engine) (p w : Nat) : Int :=
  e.xtrigAt p (e.values p w).mode w + e.cfg.winStart p * us 10

/-- Frames of a port whose write windows can lie near now, ascending: from 16 before the current project frame's first, but none
before the port's first frame of the run. -/
def Engine.windowCfns (e : Engine) (p : Nat) : List Nat :=
  ((List.range 80).map fun k => cfnAdd e.proj.baseCfn ((k : Int) - 16)).filter fun w =>
    decide (0 ≤ cfnDiff w (e.port p).firstCfn)

/-- reach(g, t) of R101, with the windows of the run in progress. -/
def Engine.reach (e : Engine) (p g : Nat) : Nat :=
  let w := ((e.windowCfns p).find? fun w => decide ((e.now : Int) ≤ e.wsAt p w - us 750)).getD (cfnAdd e.proj.baseCfn 64)
  cfnAdd w (e.cfg.lat p g)

/-- First CFN at or after c whose phase is in a mask. -/
def Cfg.inMask (cf : Cfg) (mask : Nat) (c : Nat) : Nat :=
  match (List.range 32).find? fun k => mask.testBit (cf.phaseOf (cfnAdd c k)) with
  | some k => cfnAdd c k
  | none => c

/-- Groups named in a mask of four. -/
def groupsOf (mask : Nat) : List Nat := (List.range 4).filter (mask.testBit ·)

/-- The latest of some CFNs under the signed comparison. -/
def latestCfn : List Nat → Nat
  | [] => 0
  | [c] => c
  | c :: r => let d := latestCfn r; if cfnDiff c d < 0 then d else c

/-- Changes of a port that have not reached their from frame (R101). -/
def Engine.waitingChanges (e : Engine) (p : Nat) : Nat :=
  ((e.port p).changes.filter fun x => decide (0 ≤ x.from_) &&
    (!e.proj.run || decide (0 < cfnDiff x.from_.toNat (e.port p).cfn))).length

/-- Why a settings change is refused, if it is (R101, R444). -/
def Engine.settingsRefusal (e : Engine) (p mask groups gain mode : Nat) : Option (Status × Reason) :=
  if !e.cfg.hasPort p then some (.refused, .notConfigured)
  else if mask % 2 ^ e.cfg.phases = 0 then some (.refused, .checkFailed)
  else if groups = 0 then some (.refused, .checkFailed)
  else if (groupsOf groups).any fun g => (e.cfg.entries p g).isEmpty then some (.refused, .notConfigured)
  else if groups.testBit 1 && decide (e.cfg.ngain p ≤ gain) then some (.refused, .checkFailed)
  else if groups.testBit 2 && !e.cfg.modeValid p mode then some (.refused, .checkFailed)
  else if 64 ≤ e.waitingChanges p then some (.busy, .none)
  else none

/-- A settings change scheduled: where it lands, and whether its target was missed (R101, R465). -/
def Engine.settingsLand (e : Engine) (p mask groups : Nat) (target : Option Nat) : Nat × Bool :=
  if e.proj.run then
    let first := latestCfn ((groupsOf groups).map (e.reach p))
    let c := match target with
      | some t => if cfnDiff t first < 0 then first else t
      | none => first
    let c := e.cfg.inMask mask c
    (c, match target with
      | some t => decide (c ≠ t)
      | none => false)
  else (e.cfg.inMask mask 0, false)

def Engine.addChange (p : Nat) (x : Change) (e : Engine) : Engine :=
  e.modPort p fun q => { q with changes := q.changes ++ [x] }

/-- SETTINGS (R101, R465). -/
def Engine.settings (h : MsgHdr) (tg : Target) (groups gain rmode expNs rowOff colOff : Nat) (e : Engine) : Engine :=
  if !targetOk tg true true || decide (15 < groups) then e.refuse h 0x0201 .malformed .none
  else
    match e.settingsRefusal tg.port tg.phaseMask groups gain rmode with
    | some (st, rs) => e.refuse h 0x0201 st rs
    | none =>
      if !e.proj.run && !tg.asap then e.refuse h 0x0201 .state .noRun
      else
        let (c, late) := e.settingsLand tg.port tg.phaseMask groups (if tg.asap then none else some tg.target)
        ((e.ok h 0x0201).addChange tg.port
          ⟨c, tg.phaseMask, groups, ⟨expNs, gain, rmode, rowOff, colOff⟩, h.client, 0x0201, h.seq⟩).landed
          h.client 0x0201 h.seq c tg.port late false

def execSettings (t : Nat) (h : MsgHdr) (tg : Target) (groups gain rmode expNs rowOff colOff : Nat) (s : State) : Out :=
  s.run t fun e => e.request h 0x0201 (·.settings h tg groups gain rmode expNs rowOff colOff)

/-- The window whose start lies nearest an instant offset by d from now. -/
def Engine.windowNear (e : Engine) (p : Nat) (d : Int) : Nat :=
  let dist (w : Nat) : Nat := (e.wsAt p w - e.now - d).natAbs
  (e.windowCfns p).foldl (fun a w => if dist w < dist a then w else a) e.proj.baseCfn

/-- Address and data pairs of the init list (R97, Table 18.6). -/
def Cfg.initList (c : Cfg) (p : Nat) : List (Nat × Nat) :=
  (List.range (c.ninit p)).map fun i =>
    ((c.w (Cfg.sensor p) (127 + 2 * i)).toNat, (c.w (Cfg.sensor p) (128 + 2 * i)).toNat)

/-- The code of a group that the init list leaves at the address of its first valid write entry (R515). -/
def Cfg.initCode (c : Cfg) (p g src : Nat) : Option Nat :=
  match (c.entries p g).find? (fun i => g ≠ 3 || decide (c.weSrc p i = src)) with
  | none => none
  | some i =>
    ((c.initList p).reverse.find? (·.1 = c.weAddr p i)).map fun r =>
      2 ^ c.weShift p i * (r.2 % 2 ^ c.weWidth p i)

/-- Codes of R515 before any write: what the init list last writes, else those of its second bullet. -/
def Cfg.initCodes (c : Cfg) (p : Nat) : List Nat :=
  let m := ((c.initCode p 2 0).filter (c.modeValid p)).getD 0
  [(c.initCode p 0 0).getD (c.expMin p m), (c.initCode p 1 0).getD (c.gainCode p 0), (c.initCode p 2 0).getD 0,
    (c.initCode p 3 0).getD 0, (c.initCode p 3 1).getD 0]

/-- Writes of group g in window w (R101): none while the code of the frame is the code before it. -/
def Engine.groupWrites (e : Engine) (p w g : Nat) : List (Nat × Nat × Nat × Nat × Bool) :=
  let c := cfnAdd w (e.cfg.lat p g)
  let new := e.codesAt p c
  let old := if c = 0 then
      (e.cfg.initCodes p).mapIdx fun i b => (vget (e.port p).lastCodes i none).getD b
    else e.codesAt p (cfnAdd c (-1))
  let ks := if g = 3 then [3, 4] else [g]
  if ks.all fun k => new.getD k 0 = old.getD k 0 then []
  else (e.cfg.entries p g).map fun i => (g, c, e.cfg.weAddr p i, e.cfg.weValue p i new, false)

/-- WRITE_WINDOW_START (R98, R101, R102): the writes of the window begin, unless its list was missed. -/
def Engine.writeWindowStart (p : Nat) (e : Engine) : Engine :=
  if !(e.proj.run && (e.port p).joined) || e.cfg.winLen p = 0 then e
  else if (e.port p).listOk then
    let w := e.windowNear p 0
    let ws := [0, 1, 2, 3].flatMap (e.groupWrites p w)
    e.modPort p fun q => { q with window := ws }
  else e.modPort p fun q => { q with listOk := true, window := [] }

def execWriteWindowStart (t : Nat) (p : Fin 2) (s : State) : Out :=
  s.run t fun e => e.whenLive (·.writeWindowStart p)

/-- SENSOR_WRITE_DONE in a window (R103): the first write of the list is acknowledged, retried or given up. -/
def Engine.windowWriteDone (p : Nat) (ok room : Bool) (e : Engine) : Engine :=
  match (e.port p).window with
  | [] => e
  | (g, c, addr, data, retried) :: rest =>
    if ok then
      let codes := e.codesAt p c
      e.modPort p fun q =>
        let lc := if g = 3 then vmod (vmod q.lastCodes 3 fun _ => some (codes.getD 3 0)) 4 fun _ => some (codes.getD 4 0)
          else vmod q.lastCodes g fun _ => some (codes.getD g 0)
        { q with window := rest, writes := e.cfg.ctlWrite p addr data :: q.writes, lastCodes := lc }
    else if !retried && room then
      e.modPort p fun q => { q with window := (g, c, addr, data, true) :: rest }
    else
      let e := e.modPort p fun q =>
        { q with window := rest.filter (fun x => x.1 ≠ g), faultCfns := c :: q.faultCfns }
      (e.bump .sensorCtrlErr (portSrc p)).emit (portSrc p) .sensorCtrlErr (le 4 addr ++ le 4 c)

/-- Groups of port p that have a valid write entry. -/
def Cfg.liveGroups (c : Cfg) (p : Nat) : List Nat := [0, 1, 2, 3].filter fun g => !(c.entries p g).isEmpty

/-- A change that window w would have written lands again, with a second LANDED (R102). -/
def Engine.slipChange (p w : Nat) (x : Change) (e : Engine) : Change × List (Client × Nat × Nat × Nat) :=
  if (groupsOf x.groups).any fun g => decide (x.from_ = (cfnAdd w (e.cfg.lat p g) : Int)) then
    let c := (e.settingsLand p x.mask x.groups none).1
    ({ x with from_ := c }, [(x.owner, x.ty, x.seq, c)])
  else (x, [])

/-- WRITE_LIST_DEADLINE (R102): a list not complete is not written. -/
def Engine.writeListDeadline (p : Nat) (complete : Bool) (e : Engine) : Engine :=
  if !(e.proj.run && (e.port p).joined) || e.cfg.winLen p = 0 || complete then e
  else
    let w := e.windowNear p (us 250)
    let e := e.fwOverrun (portSrc p) 1 1 w p
    let moved := (e.port p).changes.map fun x => e.slipChange p w x
    let e := e.modPort p fun q => { q with
      listOk := false
      lateCfns := q.lateCfns ++ (e.cfg.liveGroups p).map fun g => cfnAdd w (e.cfg.lat p g)
      changes := moved.map (·.1) }
    (moved.flatMap (·.2)).foldl (fun e n => e.landed n.1 n.2.1 n.2.2.1 n.2.2.2 p false true) e

def execWriteListDeadline (t : Nat) (p : Fin 2) (complete : Bool) (s : State) : Out :=
  s.run t fun e => e.whenLive (·.writeListDeadline p complete)

/-- A group's code rebuilt from echoed registers, the bits no echo covers from the code written (R105). -/
def Cfg.rebuild (c : Cfg) (p g src : Nat) (echoes : List (Nat × Nat)) (written : Nat) : Option Nat :=
  let es := (c.entries p g).filter fun i => g ≠ 3 || decide (c.weSrc p i = src)
  let hit := es.filterMap fun i => (echoes.find? (·.1 = c.weAddr p i)).map fun r => (i, r.2)
  if hit.isEmpty then none
  else some (hit.foldl (fun v x =>
    let sh := c.weShift p x.1
    let w := 2 ^ c.weWidth p x.1
    let low := v % 2 ^ sh
    let high := v / (2 ^ sh * w)
    low + 2 ^ sh * (x.2 % w) + 2 ^ sh * w * high) written)

/-- The gain index of a code: the first entry whose CODE equals it (R105). -/
def Cfg.gainIndex (c : Cfg) (p code : Nat) : Option Nat := (List.range (c.ngain p)).find? fun i => c.gainCode p i = code

/-- Settings of a frame as the metadata record holds them (R105): values, groups echoed, and a mismatch. -/
structure InEffect where
  vals : SetVals
  srcMask : Nat
  mismatch : Bool
  deriving DecidableEq, Repr

/-- Settings in effect of frame c with the echoes of its EMB packets (R105). EXP is the applied exposure, of an echo its code
in the quantum of the mode in effect; an echo differs from the schedule when its code does (log 127). -/
def Engine.inEffect (e : Engine) (p c : Nat) (echoes : List (Nat × Nat)) : InEffect :=
  let v := e.values p c
  let codes := e.codesAt p c
  let app := (e.cfg.applied p v.mode v.expNs).1
  let rE := e.cfg.rebuild p 0 0 echoes (codes.getD 0 0)
  let rG := e.cfg.rebuild p 1 0 echoes (codes.getD 1 0)
  let rM := e.cfg.rebuild p 2 0 echoes (codes.getD 2 0)
  let rR := e.cfg.rebuild p 3 0 echoes (codes.getD 3 0)
  let rC := e.cfg.rebuild p 3 1 echoes (codes.getD 4 0)
  let gi := rG.bind (e.cfg.gainIndex p)
  let mi := rM.filter (e.cfg.modeValid p)
  let m := mi.getD v.mode
  let exp := match rE with
    | some k => k * max 1 (e.cfg.expQuant p m)
    | none => app
  { vals := ⟨exp, gi.getD v.gain, m, rR.getD v.rowOff, rC.getD v.colOff⟩
    srcMask := bit rE.isSome + 2 * bit gi.isSome + 4 * bit mi.isSome + 8 * bit (rR.isSome || rC.isSome)
    mismatch := ([rE, rG, rM, rR, rC].zip codes).any fun x => x.1.any (· ≠ x.2) }

/-- Values of the schedule before any change (R515). -/
def Cfg.baseVals (c : Cfg) (p : Nat) : SetVals :=
  let m := ((c.initCode p 2 0).filter (c.modeValid p)).getD 0
  let q := max 1 (c.expQuant p m)
  { expNs := ((c.initCode p 0 0).getD (c.expMin p m)) * q
    gain := ((c.initCode p 1 0).bind (c.gainIndex p)).getD 0
    mode := m
    rowOff := (c.initCode p 3 0).getD 0
    colOff := (c.initCode p 3 1).getD 0 }

end Sys2Proof.Machine
end

