-- ==== Sys2Proof/Machine/Crypto.lean ====
section
/-! DEFINITION. The cryptography the manual names: SHA-512 (FIPS 180-4; R438, R446, R478, R479), Ed25519 (RFC 8032; R446), AES-256
(FIPS 197), AES key wrap (RFC 3394) and AES-256-XTS (IEEE 1619; R271). -/

namespace Sys2Proof.Machine

/-- The round constants of SHA-512 (FIPS 180-4): fractions of the cube roots of the first 80 primes. -/
def sha512Ka : List Nat := [
    0x428a2f98d728ae22, 0x7137449123ef65cd, 0xb5c0fbcfec4d3b2f, 0xe9b5dba58189dbbc,
    0x3956c25bf348b538, 0x59f111f1b605d019, 0x923f82a4af194f9b, 0xab1c5ed5da6d8118,
    0xd807aa98a3030242, 0x12835b0145706fbe, 0x243185be4ee4b28c, 0x550c7dc3d5ffb4e2,
    0x72be5d74f27b896f, 0x80deb1fe3b1696b1, 0x9bdc06a725c71235, 0xc19bf174cf692694]
def sha512Kb : List Nat := [
    0xe49b69c19ef14ad2, 0xefbe4786384f25e3, 0x0fc19dc68b8cd5b5, 0x240ca1cc77ac9c65,
    0x2de92c6f592b0275, 0x4a7484aa6ea6e483, 0x5cb0a9dcbd41fbd4, 0x76f988da831153b5,
    0x983e5152ee66dfab, 0xa831c66d2db43210, 0xb00327c898fb213f, 0xbf597fc7beef0ee4,
    0xc6e00bf33da88fc2, 0xd5a79147930aa725, 0x06ca6351e003826f, 0x142929670a0e6e70]
def sha512Kc : List Nat := [
    0x27b70a8546d22ffc, 0x2e1b21385c26c926, 0x4d2c6dfc5ac42aed, 0x53380d139d95b3df,
    0x650a73548baf63de, 0x766a0abb3c77b2a8, 0x81c2c92e47edaee6, 0x92722c851482353b,
    0xa2bfe8a14cf10364, 0xa81a664bbc423001, 0xc24b8b70d0f89791, 0xc76c51a30654be30,
    0xd192e819d6ef5218, 0xd69906245565a910, 0xf40e35855771202a, 0x106aa07032bbd1b8]
def sha512Kd : List Nat := [
    0x19a4c116b8d2d0c8, 0x1e376c085141ab53, 0x2748774cdf8eeb99, 0x34b0bcb5e19b48a8,
    0x391c0cb3c5c95a63, 0x4ed8aa4ae3418acb, 0x5b9cca4f7763e373, 0x682e6ff3d6b2b8a3,
    0x748f82ee5defb2fc, 0x78a5636f43172f60, 0x84c87814a1f0ab72, 0x8cc702081a6439ec,
    0x90befffa23631e28, 0xa4506cebde82bde9, 0xbef9a3f7b2c67915, 0xc67178f2e372532b]
def sha512Ke : List Nat := [
    0xca273eceea26619c, 0xd186b8c721c0c207, 0xeada7dd6cde0eb1e, 0xf57d4f7fee6ed178,
    0x06f067aa72176fba, 0x0a637dc5a2c898a6, 0x113f9804bef90dae, 0x1b710b35131c471b,
    0x28db77f523047d84, 0x32caab7b40c72493, 0x3c9ebe0a15c9bebc, 0x431d67c49c100d4c,
    0x4cc5d4becb3e42b6, 0x597f299cfc657e2a, 0x5fcb6fab3ad6faec, 0x6c44198c4a475817]

def sha512K : List Nat := sha512Ka ++ sha512Kb ++ sha512Kc ++ sha512Kd ++ sha512Ke

/-- A number of 64 bits or more cut to 64; and the exclusive or of a word turned right by three amounts. -/
def mod64 (x : Nat) : Nat := Nat.mod x 18446744073709551616
def ror3 (a b c x : Nat) : Nat :=
  (fun y => mod64 (Nat.xor (Nat.xor (Nat.shiftRight y a) (Nat.shiftRight y b)) (Nat.shiftRight y c))) (Nat.mul x 18446744073709551617)
def ror2 (a b c x : Nat) : Nat :=
  (fun y => Nat.xor (mod64 (Nat.xor (Nat.shiftRight y a) (Nat.shiftRight y b))) (Nat.shiftRight x c)) (Nat.mul x 18446744073709551617)

/-- The eight working words. -/
structure Sha where
  (a b c d e f g h : Nat)

def Sha.start : Sha :=
  ⟨0x6a09e667f3bcc908, 0xbb67ae8584caa73b, 0x3c6ef372fe94f82b, 0xa54ff53a5f1d36f1,
    0x510e527fade682d1, 0x9b05688c2b3e6c1f, 0x1f83d9abfb41bd6b, 0x5be0cd19137e2179⟩

def shaT1 (e f g h kw : Nat) : Nat :=
  Nat.add (Nat.add h (ror3 14 18 41 e)) (Nat.add (Nat.xor g (Nat.land e (Nat.xor f g))) kw)
def shaT2 (a b c : Nat) : Nat :=
  Nat.add (ror3 28 34 39 a) (Nat.xor (Nat.land a b) (Nat.land c (Nat.xor a b)))

/-- One round, with the sum of its constant and its word. -/
def Sha.round : Sha → Nat → Sha
  | ⟨a, b, c, d, e, f, g, h⟩, kw =>
    ⟨mod64 (Nat.add (shaT1 e f g h kw) (shaT2 a b c)), a, b, c, mod64 (Nat.add d (shaT1 e f g h kw)), e, f, g⟩

def shaNext (w w1 w9 w14 : Nat) : Nat :=
  mod64 (Nat.add (Nat.add w (ror2 1 8 7 w1))
    (Nat.add w9 (ror2 19 61 6 w14)))

/-- Sixteen words of the schedule, oldest first. -/
structure ShaWin where
  (w0 w1 w2 w3 w4 w5 w6 w7 w8 w9 wa wb wc wd we wf : Nat)

def ShaWin.next : ShaWin → ShaWin
  | ⟨w0, w1, w2, w3, w4, w5, w6, w7, w8, w9, wa, wb, wc, wd, we, wf⟩ =>
    ⟨w1, w2, w3, w4, w5, w6, w7, w8, w9, wa, wb, wc, wd, we, wf, shaNext w0 w1 w9 we⟩

def shaRounds : List Nat → ShaWin → Sha → Sha
  | [], _, s => s
  | k :: ks, w, s => shaRounds ks w.next (s.round (Nat.add k w.w0))

/-- A big-endian number. -/
def unbe (bs : List Byte) : Nat := bs.foldl (fun v b => 256 * v + b.toNat) 0
def be : (n : Nat) → Nat → List Byte
  | 0, _ => []
  | n + 1, v => BitVec.ofNat 8 (v / 256 ^ n) :: be n v

def shaWin (bs : List Byte) : ShaWin :=
  let f (i : Nat) : Nat := unbe ((bs.drop (8 * i)).take 8)
  ⟨f 0, f 1, f 2, f 3, f 4, f 5, f 6, f 7, f 8, f 9, f 10, f 11, f 12, f 13, f 14, f 15⟩

def shaBlocks : (n : Nat) → List Byte → Sha → Sha
  | 0, _, s => s
  | n + 1, bs, s =>
    let r := shaRounds sha512K (shaWin bs) s
    let add (x y : Nat) : Nat := (x + y) % 2 ^ 64
    shaBlocks n (bs.drop 128)
      ⟨add s.a r.a, add s.b r.b, add s.c r.c, add s.d r.d, add s.e r.e, add s.f r.f, add s.g r.g, add s.h r.h⟩

/-- SHA-512. -/
def sha512 (bs : List Byte) : List Byte :=
  let n := bs.length
  let m := bs ++ [0x80#8] ++ List.replicate ((111 + 128 - n % 128) % 128) 0 ++ be 16 (8 * n)
  let s := shaBlocks (m.length / 128) m Sha.start
  [s.a, s.b, s.c, s.d, s.e, s.f, s.g, s.h].flatMap (be 8)

/-- The field and the group order of Ed25519 (RFC 8032). -/
def edP : Nat := 57896044618658097711785492504343953926634992332820282019728792003956564819949
def edL : Nat := 7237005577332262213973186563042994240857116359379907606001950938285454250989
/-- d of the curve, and the square root of -1. -/
def edD : Nat := 37095705934669439343138083508754565189542113879843219016388785533085940283555
def edI : Nat := 19681161376707505956807079304988542015446066515923890162744021073123829784752

def fmul (x y : Nat) : Nat := x * y % edP
def fsub (x y : Nat) : Nat := (x + edP - y) % edP
def fadd (x y : Nat) : Nat := (x + y) % edP

/-- x to the power of the bits of an exponent, most significant first. -/
def fpow (x : Nat) : List Bool → Nat → Nat
  | [], v => v
  | b :: r, v => fpow x r (if b then fmul (fmul v v) x else fmul v v)

/-- The n low bits of a number, most significant first. -/
def bitsDown : (n : Nat) → Nat → List Bool
  | 0, _ => []
  | n + 1, v => v.testBit n :: bitsDown n v

/-- A point in extended coordinates. -/
structure EdPt where
  (x y z t : Nat)

def EdPt.zero : EdPt := ⟨0, 1, 1, 0⟩

def EdPt.add (p q : EdPt) : EdPt :=
  let a := fmul (fsub p.y p.x) (fsub q.y q.x)
  let b := fmul (fadd p.y p.x) (fadd q.y q.x)
  let c := fmul (fmul (2 * p.t) q.t) edD
  let d := fmul (2 * p.z) q.z
  let e := fsub b a
  let f := fsub d c
  let g := fadd d c
  let h := fadd b a
  ⟨fmul e f, fmul g h, fmul f g, fmul e h⟩

/-- A multiple of a point by the bits of a number, most significant first. -/
def EdPt.mul (p : EdPt) : List Bool → EdPt → EdPt
  | [], v => v
  | b :: r, v => EdPt.mul p r (if b then (v.add v).add p else v.add v)

def EdPt.times (n : Nat) (p : EdPt) : EdPt := p.mul (bitsDown 256 n) .zero

/-- Two points are the same. -/
def EdPt.same (p q : EdPt) : Bool := fmul p.x q.z = fmul q.x p.z && fmul p.y q.z = fmul q.y p.z

/-- The point of an encoding (RFC 8032, 5.1.3). -/
def edDecode (bs : List Byte) : Option EdPt :=
  let v := unle bs
  let y := v % 2 ^ 255
  let u := fsub (fmul y y) 1
  let w := fadd (fmul edD (fmul y y)) 1
  let w3 := fmul (fmul w w) w
  let k := fmul (fmul u w3) (fpow (fmul u (fmul (fmul w3 w3) w)) (bitsDown 252 ((edP - 5) / 8)) 1)
  let s := fmul w (fmul k k)
  let x := if s = u then some k else if s = fsub 0 u then some (fmul k edI) else none
  if edP ≤ y then none
  else x.bind fun x =>
    if x = 0 ∧ 2 ^ 255 ≤ v then none
    else
      let x := if x % 2 = v / 2 ^ 255 then x else edP - x
      some ⟨x, y, 1, fmul x y⟩

/-- The base point. -/
def edB : EdPt :=
  ⟨15112221349535400772501151409588531511454012693041857206046113283949847762202,
   46316835694926478169428394003475163141307993866256225615783033603165251855960, 1,
   46827403850823179245072216630277197565144205554125654976674165829533817101731⟩

/-- Ed25519 verification (RFC 8032, 5.1.7). -/
def ed25519Ok (key msg sig : List Byte) : Bool :=
  let r := sig.take 32
  let s := unle (sig.drop 32)
  match edDecode key, edDecode r with
  | some a, some q =>
    let k := unle (sha512 (r ++ key ++ msg)) % edL
    s < edL && (EdPt.times 8 (EdPt.times s edB)).same (EdPt.times 8 (q.add (EdPt.times k a)))
  | _, _ => false
def aesSboxa : List Nat := [
    0x63, 0x7c, 0x77, 0x7b, 0xf2, 0x6b, 0x6f, 0xc5, 0x30, 0x01, 0x67, 0x2b, 0xfe, 0xd7, 0xab, 0x76,
    0xca, 0x82, 0xc9, 0x7d, 0xfa, 0x59, 0x47, 0xf0, 0xad, 0xd4, 0xa2, 0xaf, 0x9c, 0xa4, 0x72, 0xc0,
    0xb7, 0xfd, 0x93, 0x26, 0x36, 0x3f, 0xf7, 0xcc, 0x34, 0xa5, 0xe5, 0xf1, 0x71, 0xd8, 0x31, 0x15,
    0x04, 0xc7, 0x23, 0xc3, 0x18, 0x96, 0x05, 0x9a, 0x07, 0x12, 0x80, 0xe2, 0xeb, 0x27, 0xb2, 0x75]
def aesSboxb : List Nat := [
    0x09, 0x83, 0x2c, 0x1a, 0x1b, 0x6e, 0x5a, 0xa0, 0x52, 0x3b, 0xd6, 0xb3, 0x29, 0xe3, 0x2f, 0x84,
    0x53, 0xd1, 0x00, 0xed, 0x20, 0xfc, 0xb1, 0x5b, 0x6a, 0xcb, 0xbe, 0x39, 0x4a, 0x4c, 0x58, 0xcf,
    0xd0, 0xef, 0xaa, 0xfb, 0x43, 0x4d, 0x33, 0x85, 0x45, 0xf9, 0x02, 0x7f, 0x50, 0x3c, 0x9f, 0xa8,
    0x51, 0xa3, 0x40, 0x8f, 0x92, 0x9d, 0x38, 0xf5, 0xbc, 0xb6, 0xda, 0x21, 0x10, 0xff, 0xf3, 0xd2]
def aesSboxc : List Nat := [
    0xcd, 0x0c, 0x13, 0xec, 0x5f, 0x97, 0x44, 0x17, 0xc4, 0xa7, 0x7e, 0x3d, 0x64, 0x5d, 0x19, 0x73,
    0x60, 0x81, 0x4f, 0xdc, 0x22, 0x2a, 0x90, 0x88, 0x46, 0xee, 0xb8, 0x14, 0xde, 0x5e, 0x0b, 0xdb,
    0xe0, 0x32, 0x3a, 0x0a, 0x49, 0x06, 0x24, 0x5c, 0xc2, 0xd3, 0xac, 0x62, 0x91, 0x95, 0xe4, 0x79,
    0xe7, 0xc8, 0x37, 0x6d, 0x8d, 0xd5, 0x4e, 0xa9, 0x6c, 0x56, 0xf4, 0xea, 0x65, 0x7a, 0xae, 0x08]
def aesSboxd : List Nat := [
    0xba, 0x78, 0x25, 0x2e, 0x1c, 0xa6, 0xb4, 0xc6, 0xe8, 0xdd, 0x74, 0x1f, 0x4b, 0xbd, 0x8b, 0x8a,
    0x70, 0x3e, 0xb5, 0x66, 0x48, 0x03, 0xf6, 0x0e, 0x61, 0x35, 0x57, 0xb9, 0x86, 0xc1, 0x1d, 0x9e,
    0xe1, 0xf8, 0x98, 0x11, 0x69, 0xd9, 0x8e, 0x94, 0x9b, 0x1e, 0x87, 0xe9, 0xce, 0x55, 0x28, 0xdf,
    0x8c, 0xa1, 0x89, 0x0d, 0xbf, 0xe6, 0x42, 0x68, 0x41, 0x99, 0x2d, 0x0f, 0xb0, 0x54, 0xbb, 0x16]
def aesSbox : List Nat := aesSboxa ++ aesSboxb ++ aesSboxc ++ aesSboxd

/-- A product in the field of AES. -/
def aesX2 (a : Nat) : Nat := if a < 128 then 2 * a else 2 * a - 256 ^^^ 0x1b
def aesMul (k a : Nat) : Nat :=
  let b := aesX2 a
  let c := aesX2 b
  let d := aesX2 c
  (if k.testBit 0 then a else 0) ^^^ (if k.testBit 1 then b else 0) ^^^ (if k.testBit 2 then c else 0) ^^^ if k.testBit 3 then d else 0

def xorL (a b : List Nat) : List Nat := List.zipWith (· ^^^ ·) a b

/-- The round keys of AES-256, newest word first: the word after those of a list. -/
def aesNextWord (ws : List (List Nat)) : List Nat :=
  let i := ws.length
  let t := ws.headD []
  let sub (l : List Nat) : List Nat := l.map fun x => aesSbox.getD x 0
  let t := if i % 8 = 0 then xorL (sub (t.drop 1 ++ t.take 1)) [2 ^ (i / 8 - 1), 0, 0, 0]
    else if i % 8 = 4 then sub t else t
  xorL (ws.getD 7 []) t

def aesExpand : (n : Nat) → List (List Nat) → List (List Nat)
  | 0, ws => ws
  | n + 1, ws => aesExpand n (aesNextWord ws :: ws)

/-- The fifteen round keys of a key of 32 bytes. -/
def aesKeys (key : List Byte) : List (List Nat) :=
  let ks := key.map BitVec.toNat
  let ws := (aesExpand 52 ((List.range 8).reverse.map fun i => (ks.drop (4 * i)).take 4)).reverse
  (List.range 15).map fun r => ((ws.drop (4 * r)).take 4).flatten

def aesShift (k : Nat) (s : List Nat) : List Nat := (List.range 16).map fun i => s.getD ((i + k * (i % 4)) % 16) 0

/-- Columns mixed by four factors. -/
def aesMix (f : List Nat) (s : List Nat) : List Nat := (List.range 16).map fun i =>
  (List.range 4).foldl (fun v k => v ^^^ aesMul (f.getD k 0) (s.getD (i / 4 * 4 + (i + k) % 4) 0)) 0

/-- AES-256 of one block of 16 bytes, and its inverse (FIPS 197). -/
def aesEnc (key : List Byte) (b : List Byte) : List Byte :=
  match aesKeys key with
  | [] => []
  | k0 :: ks =>
    let sub (s : List Nat) : List Nat := aesShift 4 (s.map fun x => aesSbox.getD x 0)
    let s := ks.dropLast.foldl (fun s k => xorL (aesMix [2, 3, 1, 1] (sub s)) k) (xorL (b.map BitVec.toNat) k0)
    (xorL (sub s) (ks.getLastD [])).map (BitVec.ofNat 8)

def aesDec (key : List Byte) (b : List Byte) : List Byte :=
  match aesKeys key with
  | [] => []
  | k0 :: ks =>
    let sub (s : List Nat) : List Nat := (aesShift 12 s).map aesSbox.idxOf
    let s := ks.dropLast.foldr (fun k s => sub (aesMix [14, 11, 13, 9] (xorL s k))) (sub (xorL (b.map BitVec.toNat) (ks.getLastD [])))
    (xorL s k0).map (BitVec.ofNat 8)

/-- Blocks of a list. -/
def blocksOf (n : Nat) : (k : Nat) → List Byte → List (List Byte)
  | 0, _ => []
  | k + 1, bs => bs.take n :: blocksOf n k (bs.drop n)

def xorB (a b : List Byte) : List Byte := List.zipWith (· ^^^ ·) a b

/-- AES key wrap (RFC 3394) and its inverse. -/
def wrapStep (key : List Byte) (x : List Byte × List (List Byte)) (i : Nat) : List Byte × List (List Byte) :=
  let n := x.2.length
  let b := aesEnc key (x.1 ++ x.2.getD (i % n) [])
  (xorB (b.take 8) (be 8 (i + 1)), x.2.set (i % n) (b.drop 8))
def unwrapStep (key : List Byte) (i : Nat) (x : List Byte × List (List Byte)) : List Byte × List (List Byte) :=
  let n := x.2.length
  let b := aesDec key (xorB x.1 (be 8 (i + 1)) ++ x.2.getD (i % n) [])
  (b.take 8, x.2.set (i % n) (b.drop 8))

def keyWrap (key : List Byte) (data : List Byte) : List Byte :=
  let n := data.length / 8
  let r := (List.range (6 * n)).foldl (wrapStep key) (List.replicate 8 0xA6, blocksOf 8 n data)
  r.1 ++ r.2.flatten

/-- none where the initial value does not come out. -/
def keyUnwrap (key : List Byte) (bs : List Byte) : Option (List Byte) :=
  let n := bs.length / 8 - 1
  let r := (List.range (6 * n)).foldr (unwrapStep key) (bs.take 8, blocksOf 8 n (bs.drop 8))
  if r.1 = List.replicate 8 0xA6 then some r.2.flatten else none

/-- AES-256-XTS (IEEE 1619): blocks of a data unit with their tweaks. -/
def xtsBlocks (f : List Byte → List Byte) : (k : Nat) → (t : Nat) → List Byte → List Byte
  | 0, _, _ => []
  | k + 1, t, bs =>
    let tw := le 16 t
    xorB (f (xorB (bs.take 16) tw)) tw ++ xtsBlocks f k ((2 * t) % 2 ^ 128 ^^^ (if t < 2 ^ 127 then 0 else 0x87)) (bs.drop 16)

def xtsTweak (key : List Byte) (unit : Nat) : Nat :=
  unle (aesEnc (key.drop 32) (le 16 unit))

def xtsEnc (key : List Byte) (unit : Nat) (bs : List Byte) : List Byte :=
  xtsBlocks (aesEnc (key.take 32)) (bs.length / 16) (xtsTweak key unit) bs
def xtsDec (key : List Byte) (unit : Nat) (bs : List Byte) : List Byte :=
  xtsBlocks (aesDec (key.take 32)) (bs.length / 16) (xtsTweak key unit) bs

end Sys2Proof.Machine
end

