-- ==== Sys2Proof/Machine/EpCore.lean ====
section
/-! DEFINITION. The namespaces and the write buffer of the offload endpoint: access and its notices (R283 to R288), the
order of overlapping commands (R289), pieces and their commit, draining, and loss (R290 to R296). -/

namespace Sys2Proof.Machine

/-- A media port, by number. -/
def Engine.mport (e : Engine) (m : Nat) : MediaPort := vget e.rec_.ports m MediaPort.reset

def Engine.modMedia (m : Nat) (f : MediaPort → MediaPort) (e : Engine) : Engine :=
  { e with rec_ := { e.rec_ with ports := vmod e.rec_.ports m f } }

/-- An admin command goes to queue 0; the others take the I/O queues in turn (DESIGN CHOICE, log 158). -/
def CmdUse.admin : CmdUse → Bool
  | .identify _ | .feature _ _ | .queue _ _ _ | .logPage _ | .asyncEvent | .abort _ => true
  | _ => false

/-- Commands are issued to a drive; a Flush covers the chunks given. -/
def Engine.putCmds (m : Nat) (us : List CmdUse) (covers : List Nat) (e : Engine) : Engine :=
  e.modMedia m fun q => { q with
    cmds := q.cmds ++ us.mapIdx fun i u =>
      (⟨q.nextCid + i, u, if u.admin then 0 else 1 + (q.nextCid + i) % max 1 q.queues, false, false, covers⟩ : MediaCmd)
    nextCid := q.nextCid + us.length }

/-- The namespace of a drive holds dirty data that is still to drain (R287). -/
def Engine.epHolds (e : Engine) (m : Nat) : Bool := e.ep.dirty.any fun d => !d.poison && decide (d.ns = m + 1)

/-- The engine's own commands wait until the namespace's dirty data has drained (R287). -/
def Engine.ownCmds (m : Nat) (us : List CmdUse) (e : Engine) : Engine :=
  if e.epHolds m then e.modMedia m fun q => { q with owed := q.owed ++ us } else e.putCmds m us []

/-- A drive's drain goes on with its next write, and once there is none with the commands that waited for it (R287, R290). -/
def Engine.drainIssue (e : Engine) (m : Nat) : Engine :=
  let q := e.mport m
  if e.epHolds m then if q.resetting || q.cmds.any (·.use = .drain) then e else e.putCmds m [.drain] []
  else if q.owed.isEmpty then e
  else (e.putCmds m q.owed []).modMedia m fun q => { q with owed := [] }

/-- Access to NS1 to NS4 by the drive's state (Table 11.4). -/
def DriveState.access : DriveState → EpAccess
  | .empty | .linking | .unsupported | .failed | .formatting | .qualifying => .notReady
  | .recovering | .recording | .playing => .readOnly
  | .foreign | .mounted => .readWrite

/-- Access to a namespace, 1 to 5 (R285). -/
def Engine.nsAccess (e : Engine) (ns : Nat) : EpAccess := if ns = 5 then .readWrite else (e.mport (ns - 1)).state.access

/-- Size of a namespace in blocks, 0 while it is not ready (R283, Table 11.4). -/
def Engine.nsBlocks (e : Engine) (ns : Nat) : Nat :=
  if ns = 5 then (if e.cb 0x0052 3 31 then 262144 else 0)
  else if e.nsAccess ns = .notReady then 0
  else match (e.mport (ns - 1)).drive with
    | some d => d.blocks
    | none => 0

/-- LBA size of a namespace, in bytes (R283). -/
def Engine.nsBlock (e : Engine) (ns : Nat) : Nat :=
  if ns = 5 then 4096
  else match (e.mport (ns - 1)).drive with
    | some d => 2 ^ d.lbaLog2
    | none => 4096

/-- A change of a namespace's size, access or readiness since the host last saw it posts a notice (R288). -/
def Engine.epSyncOne (e : Engine) (m : Nat) : Engine :=
  let now := (e.nsAccess (m + 1), e.nsBlocks (m + 1))
  if vget e.ep.seen m (.notReady, 0) = now then e
  else
    (e.modEp fun p => { p with
      seen := vmod p.seen m fun _ => now
      changed := if p.changed.contains (m + 1) then p.changed else p.changed ++ [m + 1] }).epEvent 2 0 4

def Engine.epSync (e : Engine) : Engine := [0, 1, 2, 3].foldl Engine.epSyncOne e

/-- Two byte ranges overlap. -/
def overlaps (a b : Nat × Nat) : Bool := decide (a.1 < b.1 + b.2) && decide (b.1 < a.1 + a.2)

/-- Range a holds all of range b. -/
def holdsRange (a b : Nat × Nat) : Bool := decide (a.1 ≤ b.1) && decide (b.1 + b.2 ≤ a.1 + a.2)

def EpDirty.range (d : EpDirty) : Nat × Nat := (d.addr, d.data.length)

/-- The union of a Dataset Management command's ranges counts as its range (R289). -/
def unionRange : List (Nat × Nat) → List (Nat × Nat)
  | [] => []
  | r :: rs =>
    let lo := rs.foldl (fun a x => min a x.1) r.1
    let hi := rs.foldl (fun a x => max a (x.1 + x.2)) (r.1 + r.2)
    [(lo, hi - lo)]

/-- key(a) < key(b) (R289, R376). -/
def EpKey.lt (a b : EpKey) : Bool :=
  decide (a.stamp < b.stamp) || (decide (a.stamp = b.stamp) && (decide (a.src < b.src) ||
    (decide (a.src = b.src) && decide (a.pos < b.pos))))

def EpOp.writes : EpOp → Bool
  | .read _ _ => false
  | _ => true

/-- conflict of R289. -/
def EpCmd.conflict (a b : EpCmd) : Bool :=
  decide (a.ns = b.ns) && (unionRange a.ranges).any (fun x => (unionRange b.ranges).any (overlaps x)) &&
    (a.op.writes || b.op.writes)

/-- can_start of R289. -/
def Ep.canStart (p : Ep) (c : EpCmd) : Bool := !p.cmds.any fun d => d.key.lt c.key && d.conflict c

/-- A byte range cut at every multiple of 131,072 bytes (R290); at most 9 pieces, of 1 MiB. -/
def cutPieces : (fuel : Nat) → (a n : Nat) → List (Nat × Nat)
  | 0, _, _ => []
  | f + 1, a, n =>
    if n = 0 then []
    else
      let k := min n (131072 - a % 131072)
      (a, k) :: cutPieces f (a + k) (n - k)

/-- Bytes of dirty data: of a namespace, and in all. -/
def Ep.dirtyOf (p : Ep) (ns : Nat) : Nat := ((p.dirty.filter (·.ns = ns)).map (·.data.length)).foldl (· + ·) 0
def Ep.dirtyAll (p : Ep) : Nat := (p.dirty.map (·.data.length)).foldl (· + ·) 0

/-- Dirty limit of a namespace (R291). -/
def Engine.dirtyLimit (e : Engine) (ns : Nat) : Nat :=
  match (e.mport (ns - 1)).qual with
  | some w => min 536870912 (w * 120000)
  | none => e.cf 0x0052 3 29 20 * 1048576

/-- A piece of a namespace has room in the write buffer (R291). -/
def Engine.epRoom (e : Engine) (ns len : Nat) : Bool :=
  decide (e.ep.dirtyOf ns + len ≤ e.dirtyLimit ns) && decide (e.ep.dirtyAll + len ≤ 536870912)

/-- Bytes of NS5 written at an address, over what was there; unlisted bytes hold the empty volume (R283). -/
def ns5Put (m : List Host.Cell) (a : Nat) (bs : List Byte) : List Host.Cell :=
  m.filter (fun c => c.1 < a) ++ bs.mapIdx (fun i b => (a + i, b)) ++ m.filter (fun c => a + bs.length ≤ c.1)

/-- A byte of NS5: as written, or of the empty volume, whose bytes the manual does not give (log 24). -/
def ns5Byte (m : List Host.Cell) (dev a : Nat) : Byte :=
  match m.find? (·.1 = a) with
  | some c => c.2
  | none => BitVec.ofNat 8 (Config.unstated 283 (dev * 4294967296 + a))

/-- The cells of NS5 stand in strictly rising order of address. -/
def ns5Wf : List Host.Cell → Bool
  | [] => true
  | [_] => true
  | c :: c' :: r => decide (c.1 < c'.1) && ns5Wf (c' :: r)

/-- Data laid over bytes that begin at an address. -/
def overlay (a : Nat) (bs : List Byte) (d : EpDirty) : List Byte :=
  if overlaps (a, bs.length) d.range then
    bs.take (d.addr - a) ++ (d.data.drop (a - d.addr)).take (bs.length - (d.addr - a)) ++
      bs.drop (d.addr + d.data.length - a)
  else bs

/-- What a read of a namespace returns: status and data (R290, R296). -/
def Engine.epReadData (e : Engine) (ns a n : Nat) (drive : List Byte) (status : Nat) : Nat × List Byte :=
  if ns = 5 then (0, (List.range n).map fun i => ns5Byte e.ep.ns5 e.deviceId (a + i))
  else
    let ds := e.ep.dirty.filter fun d => d.ns = ns && overlaps (a, n) d.range
    if ds.any (·.poison) then (0x281, [])
    else if status ≠ 0 then (status, [])
    else (0, ds.foldl (overlay a) (padTo n drive))

/-- Pieces of a read that it takes wholly or partly from the buffer (CNT_EP_BUF_HIT). -/
def Engine.epHits (e : Engine) (ns a n : Nat) : Nat :=
  ((cutPieces (n / 131072 + 2) a n).filter fun x =>
    e.ep.dirty.any fun d => decide (d.ns = ns) && overlaps x d.range).length

/-- Poisoned pieces of a namespace that a range covers whole are gone (R296). -/
def Ep.clearPoison (ns : Nat) (r : Nat × Nat) (p : Ep) : Ep :=
  { p with dirty := p.dirty.filter fun d => !(d.poison && decide (d.ns = ns) && holdsRange r d.range) }

/-- A command is finished and leaves. -/
def Ep.drop (c : EpCmd) (p : Ep) : Ep := { p with cmds := p.cmds.filter fun d => !(d.q = c.q && d.cid = c.cid) }

def Ep.modCmd (q cid : Nat) (f : EpCmd → EpCmd) (p : Ep) : Ep :=
  { p with cmds := p.cmds.map fun d => if d.q = q && d.cid = cid then f d else d }

/-- A started Write Zeroes or deallocate is passed to its drive once no committed piece that its range overlaps is left to
drain (R293). -/
def Engine.epZeroPass (c : EpCmd) (e : Engine) : Engine :=
  if c.started && !c.passed && (c.op = .writeZeroes || c.op = .deallocate) &&
      !e.ep.dirty.any (fun d => !d.poison && decide (d.ns = c.ns) && c.ranges.any (overlaps d.range)) then
    (e.modEp fun p => p.modCmd c.q c.cid fun d => { d with passed := true }).putCmds (c.ns - 1) [.host c.q c.cid] []
  else e

/-- A command starts (R289, R290, R293): a read returns its data and is finished; a write waits for its data; Write Zeroes
and deallocate wait for the drain, but for NS5, whose blocks are zeroed. -/
def Engine.epStart (c : EpCmd) (e : Engine) : Engine :=
  match c.op with
  | .read drive status =>
    let (a, n) := c.ranges.headD (0, 0)
    let r := e.epReadData c.ns a n drive status
    let e := e.bumpN .epBufHit 0x0241 0 (e.epHits c.ns a n)
    let e := e.modEp fun p => { p.drop c with unitsRead := p.unitsRead + n / 512 }
    if r.1 = 0 then e.epOk c.q c.cid 0 r.2
    else e.epStatus c.q c.cid (r.1 / 256 % 8) (r.1 % 256) (r.1.testBit 15) 0 []
  | .write => e.modEp (·.modCmd c.q c.cid fun d => { d with started := true })
  | _ =>
    if c.ns = 5 then
      (e.modEp fun p => { p.drop c with
        ns5 := c.ranges.foldl (fun m r => ns5Put m r.1 (List.replicate r.2 0)) p.ns5 }).epOk c.q c.cid 0 []
    else (e.modEp (·.modCmd c.q c.cid fun d => { d with started := true })).epZeroPass { c with started := true }

/-- A read takes read load of the drive of NSn while that is in the recording set (R293). -/
def Engine.readPaced (e : Engine) (c : EpCmd) : Bool :=
  !c.op.writes && decide (c.ns ≤ 4) && decide ((e.mport (c.ns - 1)).state = .recording)

/-- Reads of a recording drive beyond QUAL_READ × 100 MB/s wait (R293). -/
def Engine.readNow (e : Engine) (c : EpCmd) : Bool :=
  !e.readPaced c || decide (vget e.ep.readUntil (c.ns - 1) 0 ≤ e.now)

/-- The read load that a read takes: n bytes at QUAL_READ × 100 MB/s. -/
def Engine.readPace (c : EpCmd) (e : Engine) : Engine :=
  if e.readPaced c then
    let n := sumNat (c.ranges.map (·.2))
    let put (x : Nat) : Nat := max x e.now + n * ns 10 / max 1 (e.cf 0x0050 3 31 24)
    e.modEp fun p => { p with readUntil := vmod p.readUntil (c.ns - 1) put }
  else e

/-- The first command that can start, in key order. -/
def Engine.nextStart (e : Engine) : Option EpCmd :=
  (e.ep.cmds.filter fun c => !c.started && e.ep.canStart c && e.readNow c).foldl
    (fun a c => match a with
      | none => some c
      | some b => if c.key.lt b.key then some c else some b) none

/-- Every command that can start starts (R289). -/
def Engine.epStarts : (fuel : Nat) → Engine → Engine
  | 0, e => e
  | f + 1, e =>
    match e.nextStart with
    | none => e
    | some c => ((e.readPace c).epStart c).epStarts f

/-- A write all of whose pieces have committed completes (R290). -/
def Engine.epWriteDone (c : EpCmd) (e : Engine) : Engine :=
  if c.op = .write && c.started && c.pieces.all (·.committed) then
    (e.modEp fun p => { p.drop c with
      unitsWritten := p.unitsWritten + ((c.pieces.map (·.len)).foldl (· + ·) 0) / 512 }).epOk c.q c.cid 0 []
  else e

/-- Piece k of a command commits: it becomes the namespace's content (R290). -/
def Engine.epCommit (c : EpCmd) (k : Nat) (data : List Byte) (e : Engine) : Engine :=
  match c.pieces[k]? with
  | none => e
  | some x =>
    let bs := padTo x.len data
    let e := e.modEp (·.modCmd c.q c.cid fun d =>
      { d with pieces := d.pieces.modify k fun y => { y with committed := true, data := none } })
    if c.ns = 5 then e.modEp fun p => { p with ns5 := ns5Put p.ns5 x.addr bs }
    else e.modEp fun p =>
      let p := p.clearPoison c.ns (x.addr, x.len)
      { p with dirty := p.dirty ++ [⟨c.ns, x.addr, bs, false⟩] }

/-- Pieces whose data waits for room, in key order: the command, the piece's index and its data. -/
def Ep.waitingPieces (p : Ep) : List (EpCmd × Nat × List Byte) :=
  p.cmds.flatMap fun c => (c.pieces.mapIdx fun k x => (k, x)).filterMap fun kx =>
    match kx.2.data with
    | some bs => if kx.2.committed then none else some (c, kx.1, bs)
    | none => none

/-- A waiting piece commits when it has room now (R291). -/
def Engine.epFit (e : Engine) (w : EpCmd × Nat × List Byte) : Engine :=
  match w.1.pieces[w.2.1]? with
  | some x => if e.epRoom w.1.ns x.len then e.epCommit w.1 w.2.1 w.2.2 else e
  | none => e

/-- All that can go on after a change of the buffer or of the commands. -/
def Engine.epPump (e : Engine) : Engine :=
  let e := e.ep.waitingPieces.foldl Engine.epFit e
  let e := e.ep.cmds.foldl (fun e c => e.epZeroPass c) e
  let e := e.ep.cmds.foldl (fun e c => e.epWriteDone c) e
  let e := e.epStarts (e.ep.cmds.length + 1)
  [0, 1, 2, 3].foldl Engine.drainIssue e

/-- A drive has completed a command passed to it: with success its range reads as the drive gives it, and poison that it covers
is gone (R293, R296); otherwise its status goes to the host (Table 11.5). -/
def Engine.epHostDone (q cid status : Nat) (e : Engine) : Engine :=
  match e.ep.cmds.find? fun c => c.q = q && c.cid = cid && c.passed with
  | none => e
  | some c =>
    let e := if status = 0 then (e.modEp fun p => (c.ranges.foldl (fun p r => p.clearPoison c.ns r) p).drop c).epOk q cid 0 []
      else (e.modEp (·.drop c)).epStatus q cid (status / 256 % 8) (status % 256) (status.testBit 15) 0 []
    e.epPump

/-- An Error Information entry (R295). -/
def Engine.epError (ns block : Nat) (e : Engine) : Engine :=
  (e.modEp fun p => { p with
    errCount := p.errCount + 1, errors := ((p.errCount + 1, ns, block) :: p.errors).take 64 }).epEvent 0 3 1

/-- The lowest and the highest block of some dirty data. -/
def Engine.lostBlocks (e : Engine) (ns : Nat) (ds : List EpDirty) : Nat × Nat :=
  match ds with
  | [] => (0, 0)
  | d :: r =>
    let b := e.nsBlock ns
    (r.foldl (fun a x => min a (x.addr / b)) (d.addr / b),
      r.foldl (fun a x => max a ((x.addr + x.data.length - 1) / b)) ((d.addr + d.data.length - 1) / b))

/-- Dirty data of a namespace is lost: counted, logged and reported to the host (R295). -/
def Engine.epLose (ns : Nat) (ds : List EpDirty) (e : Engine) : Engine :=
  if ds.isEmpty then e
  else
    let (lo, hi) := e.lostBlocks ns ds
    (((e.bumpN .epBufLost 0x0241 0 ds.length).emit 0x0241 .epDataLost (evData [(4, ns), (4, lo), (4, hi)])).epError ns lo)

/-- A drive has been removed or has failed: its dirty data is discarded, and the commands in flight on its namespace
complete with Namespace Not Ready (R295). The drive's data is still known here. -/
def Engine.epDriveGone (m : Nat) (e : Engine) : Engine :=
  let ns := m + 1
  let e := e.epLose ns (e.ep.dirty.filter (·.ns = ns))
  let gone := e.ep.cmds.filter (·.ns = ns)
  let e := e.modEp fun p => { p with dirty := p.dirty.filter (·.ns ≠ ns), cmds := p.cmds.filter (·.ns ≠ ns) }
  (gone.foldl (fun e c => e.epStatus c.q c.cid 0 0x82 false 0 []) e).epPump

end Sys2Proof.Machine
end

