-- ==== Sys2Proof/Machine/FsrCodec.lean ====
section
/-! DEFINITION. The Flowstone tile codec (R189 to R198): plane split, wavelet, quantisation, coefficient coding and the
payload of a tile, with its decoder. -/

namespace Sys2Proof.Machine

/-- One dimension of the reversible 5/3 lift (R191): low samples, then high ones. -/
def lift (x : List Int) : List Int :=
  let n := x.length
  if n < 2 then x
  else
    let nl := (n + 1) / 2
    let nh := n / 2
    let at_ (k : Nat) : Int := x.getD k 0
    let xe (k : Nat) : Int := if k = n then at_ (n - 2) else at_ k
    let d := (List.range nh).map fun i => at_ (2 * i + 1) - (at_ (2 * i) + xe (2 * i + 2)) / 2
    let de (k : Int) : Int := if k < 0 then d.getD 0 0 else if (nh : Int) ≤ k then d.getD (nh - 1) 0 else d.getD k.toNat 0
    ((List.range nl).map fun i => at_ (2 * i) + (de ((i : Int) - 1) + de i + 2) / 4) ++ d

/-- The inverse of lift (R191). -/
def unlift (s : List Int) : List Int :=
  let n := s.length
  if n < 2 then s
  else
    let nl := (n + 1) / 2
    let nh := n / 2
    let de (k : Int) : Int :=
      if k < 0 then s.getD nl 0 else if (nh : Int) ≤ k then s.getD (nl + nh - 1) 0 else s.getD (nl + k.toNat) 0
    let ev := (List.range nl).map fun i => s.getD i 0 - (de ((i : Int) - 1) + de i + 2) / 4
    let xe (k : Nat) : Int := if 2 * k = n then ev.getD (k - 1) 0 else ev.getD k 0
    (List.range n).map fun k =>
      if k % 2 = 0 then ev.getD (k / 2) 0 else s.getD (nl + k / 2) 0 + (ev.getD (k / 2) 0 + xe (k / 2 + 1)) / 2

/-- Columns of a picture of w columns. -/
def columnsOf (w : Nat) (g : Pic) : Pic := (List.range w).map fun x => g.map fun l => l.getD x 0

/-- Rectangle of a picture. -/
def Pic.sub (g : Pic) (x0 y0 w h : Nat) : Pic := ((g.drop y0).take h).map fun l => (l.drop x0).take w

/-- One level of the transform: LL, HL, LH, HH (R191). -/
def dwt1 (w h : Nat) (g : Pic) : Pic × Pic × Pic × Pic :=
  let rows := g.map lift
  let t := columnsOf h ((columnsOf w rows).map lift)
  let lw := (w + 1) / 2
  let lh := (h + 1) / 2
  (t.sub 0 0 lw lh, t.sub lw 0 (w - lw) lh, t.sub 0 lh lw (h - lh), t.sub lw lh (w - lw) (h - lh))

/-- The inverse of dwt1. -/
def idwt1 (w h : Nat) (ll hl lh hh : Pic) : Pic :=
  let top := List.zipWith (· ++ ·) ll hl
  let bot := List.zipWith (· ++ ·) lh hh
  let cols := (columnsOf w (top ++ bot)).map unlift
  (columnsOf h cols).map unlift

/-- Ten subbands in coding order: LL3, HL3, LH3, HH3, HL2, LH2, HH2, HL1, LH1, HH1 (R196). -/
def dwt (w h : Nat) (g : Pic) : List Pic :=
  let (l1, a1, b1, c1) := dwt1 w h g
  let w1 := (w + 1) / 2
  let h1 := (h + 1) / 2
  let (l2, a2, b2, c2) := dwt1 w1 h1 l1
  let (l3, a3, b3, c3) := dwt1 ((w1 + 1) / 2) ((h1 + 1) / 2) l2
  [l3, a3, b3, c3, a2, b2, c2, a1, b1, c1]

def idwt (w h : Nat) (s : List Pic) : Pic :=
  let b (i : Nat) : Pic := s.getD i []
  let w1 := (w + 1) / 2
  let h1 := (h + 1) / 2
  let l2 := idwt1 ((w1 + 1) / 2) ((h1 + 1) / 2) (b 0) (b 1) (b 2) (b 3)
  let l1 := idwt1 w1 h1 l2 (b 4) (b 5) (b 6)
  idwt1 w h l1 (b 7) (b 8) (b 9)

/-- Widths and heights of the ten subbands of a plane. -/
def bandDims (w h : Nat) : List (Nat × Nat) :=
  let w1 := (w + 1) / 2
  let h1 := (h + 1) / 2
  let w2 := (w1 + 1) / 2
  let h2 := (h1 + 1) / 2
  let w3 := (w2 + 1) / 2
  let h3 := (h2 + 1) / 2
  [(w3, h3), (w2 - w3, h3), (w3, h2 - h3), (w2 - w3, h2 - h3), (w1 - w2, h2), (w2, h1 - h2), (w1 - w2, h1 - h2),
    (w - w1, h1), (w1, h - h1), (w - w1, h - h1)]

/-- P2 of R192. -/
def fsrP2 : List Nat := [4096, 4467, 4871, 5312, 5793, 6317, 6889, 7512]
/-- SBW of Table 8.2 for the ten subbands. -/
def fsrSbw : List Nat := [256, 320, 320, 384, 512, 512, 640, 768, 768, 1024]

/-- Step of subband sb in plane k (0 R, 1 Ga, 2 Gd, 3 B) at quantiser index qi (R192). -/
def fsrStep (sb k qi : Nat) : Nat :=
  let qk := min 63 (qi + if k % 4 = 1 then 0 else 4)
  max 1 (fsrSbw.getD sb 0 * fsrP2.getD (qk % 8) 0 * 2 ^ (qk / 8) / 1048576)

/-- Quantisation, truncating (R193). -/
def fsrQuant (step : Nat) (c : Int) : Int := Int.tdiv c step
/-- Reconstruction (R193). -/
def fsrDequant (step : Nat) (q : Int) : Int :=
  if q = 0 then 0 else q.sign * ((((2 * q.natAbs + 1) * step) / 2 : Nat) : Int)

/-- zz and its inverse (R196). -/
def zz (q : Int) : Nat := if 0 ≤ q then 2 * q.toNat else 2 * q.natAbs - 1
def unzz (u : Nat) : Int := if u % 2 = 0 then (u / 2 : Nat) else -((u + 1) / 2 : Nat)

/-- The adaptive state of a subband (R196), with the bits written so far, newest first. -/
structure Coder where
  a : List Nat
  n : List Nat
  out : List Bool
  deriving DecidableEq, Repr

def Coder.start (out : List Bool) : Coder := ⟨List.replicate 9 4, List.replicate 9 1, out⟩

/-- Parameter k of put_val. -/
def riceK (a n : Nat) : Nat := ((List.range 24).find? fun k => a ≤ n * 2 ^ k).getD 24

/-- The adaptive state after a value u of class c. -/
def Coder.adapt (s : Coder) (u c : Nat) : Coder :=
  let a := s.a.getD c 0 + u
  let n := s.n.getD c 0 + 1
  let (a, n) := if n = 64 then (a / 2, n / 2) else (a, n)
  { s with a := s.a.set c a, n := s.n.set c n }

/-- The low k bits of v, most significant first. -/
def bitsMsb (v k : Nat) : List Bool := (List.range k).map fun i => v.testBit (k - 1 - i)

/-- put_val (R196). -/
def Coder.put (s : Coder) (u c : Nat) : Coder :=
  let k := riceK (s.a.getD c 0) (s.n.getD c 0)
  let bits := if u / 2 ^ k < 20 then List.replicate (u / 2 ^ k) true ++ [false] ++ bitsMsb u k
    else List.replicate 20 true ++ bitsMsb u 26
  { s with out := bits.reverse ++ s.out }.adapt u c

/-- s of R196 at column x of a row, from the row so far and the row above. -/
def context (row prev : List Int) (x : Nat) : Nat :=
  let m (l : List Int) (k : Int) : Nat := if k < 0 then 0 else (l.getD k.toNat 0).natAbs
  m row ((x : Int) - 1) + m prev x + (m prev ((x : Int) - 1) + m prev (x + 1)) / 2

/-- Class of a context. -/
def classOf (s : Nat) : Nat := 1 + min 6 (Nat.log2 s)

/-- Zeros from column x. -/
def zeroRun (row : List Int) (x : Nat) : Nat := ((row.drop x).takeWhile (· = 0)).length

/-- One row of code_subband from column x. -/
def codeRow : (fuel : Nat) → (row prev : List Int) → (x : Nat) → Coder → Coder
  | 0, _, _, _, s => s
  | f + 1, row, prev, x, s =>
    if row.length ≤ x then s
    else
      let c := context row prev x
      if c = 0 then
        let r := zeroRun row x
        let s := s.put r 8
        if x + r = row.length then s
        else codeRow f row prev (x + r + 1) (s.put (zz (row.getD (x + r) 0) - 1) 0)
      else codeRow f row prev (x + 1) (s.put (zz (row.getD x 0)) (classOf c))

/-- code_subband: the bits written are added to those before, newest first (R196). -/
def codeBand (out : List Bool) (g : Pic) : List Bool :=
  ((g.foldl (fun (q : List Int × Coder) row => (row, codeRow (row.length + 1) row q.1 0 q.2)) ([], Coder.start out)).2).out

/-- Bytes of bits, most significant first, padded with zero bits (R197). -/
def packMsb : (fuel : Nat) → List Bool → List Byte
  | 0, _ => []
  | _, [] => []
  | f + 1, bits =>
    let b := (bits.take 8) ++ List.replicate (8 - (bits.take 8).length) false
    BitVec.ofNat 8 (b.foldl (fun v x => 2 * v + bit x) 0) :: packMsb f (bits.drop 8)

/-- Bits of bytes, most significant first. -/
def unpackMsb (bs : List Byte) : List Bool := bs.flatMap fun b => bitsMsb b.toNat 8

/-- One plane's coefficients coded: its bytes (R196, R197). -/
def codePlane (q : List Pic) : List Byte :=
  let bits := (q.foldl codeBand []).reverse
  packMsb (bits.length / 8 + 1) bits

/-- The value read from bits with its class's parameter k (R196). -/
def readVal (k : Nat) (bits : List Bool) : Option (Nat × List Bool) :=
  let ones := ((bits.take 20).takeWhile id).length
  let num (l : List Bool) : Nat := l.foldl (fun v x => 2 * v + bit x) 0
  if ones = 20 then
    let r := bits.drop 20
    if r.length < 26 then none else some (num (r.take 26), r.drop 26)
  else
    let r := bits.drop ones
    if r.length < k + 1 then none else some (ones * 2 ^ k + num ((r.drop 1).take k), r.drop (k + 1))

/-- get_val: s.out holds the bits still to be read. -/
def Coder.get (s : Coder) (c : Nat) : Option (Nat × Coder) :=
  match readVal (riceK (s.a.getD c 0) (s.n.getD c 0)) s.out with
  | none => none
  | some (u, r) => some (u, { s with out := r }.adapt u c)

/-- One row decoded from column x; row holds what is known so far. -/
def decodeRow : (fuel : Nat) → (w : Nat) → (row prev : List Int) → Coder → Option (List Int × Coder)
  | 0, _, _, _, _ => none
  | f + 1, w, row, prev, s =>
    let x := row.length
    if w ≤ x then some (row, s)
    else
      let c := context row prev x
      if c = 0 then
        match s.get 8 with
        | none => none
        | some (r, s) =>
          if w < x + r then none
          else
            let row := row ++ List.replicate r 0
            if row.length = w then some (row, s)
            else
              match s.get 0 with
              | none => none
              | some (u, s) => decodeRow f w (row ++ [unzz (u + 1)]) prev s
      else
        match s.get (classOf c) with
        | none => none
        | some (u, s) => decodeRow f w (row ++ [unzz u]) prev s

/-- A subband of w x h decoded from bits: its rows and the bits left. -/
def decodeBand (w h : Nat) (bits : List Bool) : Option (Pic × List Bool) :=
  let r := (List.range h).foldl (fun (q : Option (Pic × List Int × Coder)) _ =>
    match q with
    | none => none
    | some (rows, prev, s) =>
      match decodeRow (w + 1) w [] prev s with
      | none => none
      | some (row, s) => some (rows ++ [row], row, s)) (some ([], [], Coder.start bits))
  r.map fun q => (q.1, q.2.2.out)

/-- A plane decoded from exactly its bytes; none where R197 fails it. -/
def decodePlane (dims : List (Nat × Nat)) (bs : List Byte) : Option (List Pic) :=
  let r := dims.foldl (fun (q : Option (List Pic × List Bool)) d =>
    match q with
    | none => none
    | some (ps, bits) =>
      match decodeBand d.1 d.2 bits with
      | none => none
      | some (p, rest) => some (ps ++ [p], rest)) (some ([], unpackMsb bs))
  match r with
  | none => none
  | some (ps, rest) => if rest.length < 8 ∧ rest.all (!·) then some ps else none

/-- The swap of the two low bits of a coordinate (R190). -/
def quadSwap (x : Nat) : Nat := x / 4 * 4 + (x % 2) * 2 + x / 2 % 2

/-- A tile in Bayer order: quad-Bayer photosites moved (R190). -/
def reorder (cfa : Nat) (g : Pic) (w h : Nat) : Pic :=
  if cfa < 4 then g else Pic.tab w h fun x y => g.at (quadSwap x) (quadSwap y)

/-- Position in the 2 x 2 cell of a channel. -/
def chanPos (cfa ch : Nat) : Nat × Nat := let i := ch ^^^ (cfa % 4); (i % 2, i / 2)

/-- Planes R, Ga, Gd, B of one conversion of a tile (R190). -/
def planesOf (cfa bt : Nat) (g : Pic) (w h : Nat) : List Pic :=
  let g := reorder cfa g w h
  let mid : Int := 2 ^ (bt - 1)
  let v (ch i j : Nat) : Int := let o := chanPos cfa ch; g.at (2 * i + o.1) (2 * j + o.2)
  let pl (f : Nat → Nat → Int) : Pic := Pic.tab (w / 2) (h / 2) f
  [pl fun i j => v 0 i j - mid,
   pl fun i j => v 2 i j + (v 1 i j - v 2 i j) / 2 - mid,
   pl fun i j => v 1 i j - v 2 i j,
   pl fun i j => v 3 i j - mid]

/-- The inverse of planesOf. -/
def unplanes (cfa bt : Nat) (ps : List Pic) (w h : Nat) : Pic :=
  let mid : Int := 2 ^ (bt - 1)
  let p (k i j : Nat) : Int := (ps.getD k []).at i j
  let v (ch i j : Nat) : Int :=
    let gb := p 1 i j + mid - p 2 i j / 2
    if ch = 0 then p 0 i j + mid else if ch = 1 then p 2 i j + gb else if ch = 2 then gb else p 3 i j + mid
  let bayer := Pic.tab w h fun x y => v (chanOf (cfa % 4) x y) (x / 2) (y / 2)
  reorder cfa bayer w h

/-- Photosites packed in groups of 8 of b bits, the first in the low bits, little-endian (R74, R198). -/
def packGroups : (fuel : Nat) → (b : Nat) → List Int → List Byte
  | 0, _, _ => []
  | _, _, [] => []
  | f + 1, b, l => le b (((l.take 8).mapIdx fun j v => toBits b v * 2 ^ (b * j)).foldl (· + ·) 0) ++ packGroups f b (l.drop 8)

/-- Photosites of packed groups. -/
def unpackGroups : (fuel : Nat) → (b : Nat) → List Byte → List Nat
  | 0, _, _ => []
  | _, _, [] => []
  | f + 1, b, l =>
    let v := unle (l.take b)
    ((List.range 8).map fun j => v / 2 ^ (b * j) % 2 ^ b) ++ unpackGroups f b (l.drop b)

/-- The emergency value of a coefficient (R195). -/
def emergVal (bt : Nat) (c : Int) : Int := clampInt (-8) 7 ((c + 2 ^ (bt - 4)) / 2 ^ (bt - 3))

/-- Two 4-bit values per byte, the lower index in bits [3:0] (R195). -/
def packNibbles : List Int → List Byte
  | [] => []
  | [a] => [BitVec.ofNat 8 (toBits 4 a)]
  | a :: b :: r => BitVec.ofNat 8 (toBits 4 a + 16 * toBits 4 b) :: packNibbles r

/-- A tile to be coded: its place in the picture's grid, its size, and its photosites conversion after conversion. -/
structure TileIn where
  cfa : Nat
  bt : Nat
  w : Nat
  h : Nat
  convs : List Pic
  deriving DecidableEq, Repr

/-- All planes of a tile, conversion after conversion. -/
def TileIn.planes (t : TileIn) : List Pic := t.convs.flatMap fun g => planesOf t.cfa t.bt g t.w t.h

/-- A payload: the 40-byte tile header of Table 8.5 and the planes. -/
def payload (t : TileIn) (mode qi : Nat) (lens : List Nat) (body : List Byte) : List Byte :=
  le 2 t.w ++ le 2 t.h ++ le 1 mode ++ le 1 qi ++ le 1 (4 * t.convs.length) ++ le 1 0 ++
    (List.range 8).flatMap (fun k => le 4 (lens.getD k 0)) ++ body

/-- A payload of separate planes. -/
def planePayload (t : TileIn) (mode qi : Nat) (ps : List (List Byte)) : List Byte :=
  payload t mode qi (ps.map (·.length)) ps.flatten

/-- LOSSLESS payload (R192). -/
def codeLossless (t : TileIn) : List Byte :=
  planePayload t 0 0 (t.planes.map fun p => codePlane (dwt (t.w / 2) (t.h / 2) p))

/-- LOSSY payload at quantiser index qi (R192, R193). -/
def codeLossy (t : TileIn) (qi : Nat) : List Byte :=
  planePayload t 1 qi (t.planes.mapIdx fun k p =>
    codePlane ((dwt (t.w / 2) (t.h / 2) p).mapIdx fun sb g => g.map fun l => l.map (fsrQuant (fsrStep sb k qi))))

/-- RAW payload (R198). -/
def codeRaw (t : TileIn) : List Byte :=
  let sites := t.convs.flatMap List.flatten
  let body := packGroups (sites.length / 8 + 1) t.bt sites
  payload t 2 0 [body.length] body

/-- EMERGENCY payload (R195). -/
def codeEmergency (t : TileIn) : List Byte :=
  planePayload t 3 0 (t.planes.map fun p =>
    packNibbles (((dwt (t.w / 2) (t.h / 2) p).getD 0 []).flatten.map (emergVal t.bt)))

/-- Pages a payload takes (R199). -/
def pagesOf (bytes : Nat) : Nat := cdiv bytes 4096

/-- A tile whose coefficients are all zero (R211). -/
def zeroTile (cfa bt ncv w h : Nat) : List Pic :=
  let z := Pic.tab (w / 2) (h / 2) fun _ _ => 0
  List.replicate ncv (unplanes cfa bt [z, z, z, z] w h)

/-- Conversions of a tile from its planes. -/
def convsOf (cfa bt ncv w h : Nat) (ps : List Pic) : List Pic :=
  (List.range ncv).map fun k => unplanes cfa bt ((ps.drop (4 * k)).take 4) w h

/-- The slices of a body that plane lengths give; none when it is too short. -/
def slices : List Nat → List Byte → Option (List (List Byte))
  | [], _ => some []
  | n :: r, bs => if bs.length < n then none else (slices r (bs.drop n)).map fun l => bs.take n :: l

/-- One decoded plane of an emergency tile: LL3 of u x v. -/
def decodeEmergency (bt w h : Nat) (bs : List Byte) : Option Pic :=
  match bandDims w h with
  | (u, v) :: rest =>
    if bs.length < cdiv (u * v) 2 then none
    else
      let vals := bs.flatMap fun b => [signedOf 4 b.toNat, signedOf 4 (b.toNat / 16)]
      let ll := Pic.tab u v fun x y => vals.getD (y * u + x) 0 * 2 ^ (bt - 3)
      some (idwt w h (ll :: rest.map fun d => Pic.tab d.1 d.2 fun _ _ => 0))
  | [] => none

/-- A tile decoded from its payload; none where it is concealed (R211). -/
def decodeTile (cfa bt ncv w h : Nat) (bs : List Byte) : Option (List Pic) :=
  let mode := unle ((bs.drop 4).take 1)
  let qi := unle ((bs.drop 5).take 1)
  let lens := (List.range (4 * ncv)).map fun k => unle ((bs.drop (8 + 4 * k)).take 4)
  let body := bs.drop 40
  let pw := w / 2
  let ph := h / 2
  match mode with
  | 2 =>
    let v := unpackGroups (body.length + 1) bt body
    if v.length < ncv * w * h then none
    else some ((List.range ncv).map fun k => Pic.tab w h fun x y => (v.getD (k * w * h + y * w + x) 0 : Nat))
  | 3 => ((slices lens body).bind fun ps => ps.mapM (decodeEmergency bt pw ph)).map (convsOf cfa bt ncv w h)
  | _ =>
    if 1 < mode then none
    else
      ((slices lens body).bind fun ps => (ps.zipIdx).mapM fun q =>
        (decodePlane (bandDims pw ph) q.1).map fun s =>
          idwt pw ph (if mode = 0 then s else s.mapIdx fun sb g => g.map fun l => l.map (fsrDequant (fsrStep sb q.2 qi)))).map
        (convsOf cfa bt ncv w h)

end Sys2Proof.Machine
end

