-- ==== Sys2Proof/Machine/Flowstone.lean ====
section
/-! DEFINITION. Flowstone streams (ch. 8): rate control, self-check, late tiles, and the layout of a picture; and the
commands FSR_BAND_DECIDE, FSR_TILE_CODED and FSR_TILE_LATE. -/

namespace Sys2Proof.Machine

/-- Tile columns and bands of a stream's picture (R189). -/
def Cfg.tileCols (c : Cfg) (s : Nat) : Nat := cdiv (c.cropW (c.fsSrc s)) 512
def Cfg.fsBands (c : Cfg) (s : Nat) : Nat := cdiv (c.cropH (c.fsSrc s)) 256
/-- HDR_PAGES of R199, and CAP_PAGES of R204. -/
def Cfg.hdrPages (c : Cfg) (s : Nat) : Nat := 1 + cdiv (16 * (c.tileCols s * c.fsBands s) + 4) 4096
def Cfg.capPages (c : Cfg) (s : Nat) : Nat :=
  if c.fsMode s = 2 then c.fsSites s * c.fsBits s * 4 / (8 * c.fsRatio s * 4096) else 0
/-- Lines of band b. -/
def Cfg.bandLines (c : Cfg) (s b : Nat) : Nat := min 256 (c.cropH (c.fsSrc s) - 256 * b)
/-- Width of tile column col. -/
def Cfg.tileW (c : Cfg) (s col : Nat) : Nat := min 512 (c.cropW (c.fsSrc s) - 512 * col)

def Engine.stream (e : Engine) (s : Nat) : FsrStream := vget e.fsr.streams s FsrStream.reset
def Engine.modStream (s : Nat) (f : FsrStream → FsrStream) (e : Engine) : Engine :=
  { e with fsr := { e.fsr with streams := vmod e.fsr.streams s f } }

/-- Source of a stream's counters and events (R214). -/
def fsrSrc (s : Nat) : Nat := 0x0180 + s

/-- The complexity model x[b] of a phase (R206): INIT_BPP's value at the first picture of the phase in a run. -/
def Engine.fsModel (e : Engine) (s : Nat) (pic : FsrPic) (b : Nat) : Nat :=
  let init := e.cfg.fsInitBpp s * (e.cfg.cropW (e.cfg.fsSrc s) * e.cfg.bandLines s b * e.cfg.fsConv s) / 128
  match (e.stream s).model.find? fun m => m.1 = pic.phase ∧ m.2.1 = b with
  | some m => m.2.2
  | none => init

/-- inv of R205. -/
def fsrInv : List Nat := [4096, 3756, 3444, 3158, 2896, 2656, 2435, 2233]

/-- est(b, q) of R205, in pages, for model x and t tiles. -/
def fsrEst (x t q : Nat) : Nat := (x / 2 ^ (q / 8) * fsrInv.getD (q % 8) 0 / 4096 + 2048 * t + 4095) / 4096

/-- Pages the tiles of band b occupy as written. -/
def FsrPic.act (pic : FsrPic) (b : Nat) : Nat := ((pic.tiles.filter (·.band = b)).map fun t => pagesOf t.bytes.length).foldl (· + ·) 0

/-- The decision of R205 for band b of a CBR picture. -/
def Engine.fsDecide (e : Engine) (s : Nat) (pic : FsrPic) (b : Nat) : FsrBand :=
  let c := e.cfg
  let t := c.tileCols s
  let nb := c.fsBands s
  let a := c.capPages s - c.hdrPages s
  let done := ((List.range (b - 1)).map pic.act).foldl (· + ·) 0
  let prev := pic.bands.getD (b - 1) ⟨0, 0, 0, 0⟩
  let left := a - done - (if 0 < b then prev.alloc else 0) - t * (nb - 1 - b)
  if left < 2 * t then ⟨255, 1, t, t⟩
  else
    let x (j : Nat) : Nat := e.fsModel s pic j
    let sumX := ((List.range (nb - b)).map fun k => x (b + k)).foldl (· + ·) 0
    let share := (a - done - (if 0 < b then prev.est else 0)) * x b / sumX
    let lim := min (left / t) (max 2 ((4 * share + t - 1) / t))
    let goal := min share (lim * t)
    let lo := c.fsQiMin s
    let qi := (((List.range (64 - lo)).map (lo + ·)).find? fun q => fsrEst (x b) t q ≤ goal).getD 63
    ⟨qi, lim, fsrEst (x b) t qi, lim * t⟩

/-- Tiles of band b coded. -/
def FsrPic.bandDone (pic : FsrPic) (t b : Nat) : Bool := decide ((pic.tiles.filter (·.band = b)).length = t)


/-- The photosites of tile (col, b) of a picture. -/
def Engine.fsTile (e : Engine) (s : Nat) (pic : FsrPic) (col b : Nat) : TileIn :=
  let w := e.cfg.tileW s col
  let h := e.cfg.bandLines s b
  { cfa := e.cfg.cfa, bt := e.cfg.fsBits s, w := w, h := h, convs := pic.convs.map fun g => g.sub (512 * col) (256 * b) w h }

/-- What the encoder reconstructs from the coefficients of a form by the inverse transform (R207); for LOSSLESS and RAW the tile's
input photosites. -/
def reconTile (t : TileIn) (mode qi : Nat) : List Pic :=
  let pw := t.w / 2
  let ph := t.h / 2
  let back (f : Nat → Nat → Int → Int) : List Pic :=
    convsOf t.cfa t.bt t.convs.length t.w t.h (t.planes.mapIdx fun k p =>
      idwt pw ph ((dwt pw ph p).mapIdx fun sb g => g.map fun l => l.map (f k sb)))
  match mode with
  | 1 => back fun k sb c => fsrDequant (fsrStep sb k qi) (fsrQuant (fsrStep sb k qi) c)
  | 3 => back fun _ sb c => if sb = 0 then emergVal t.bt c * 2 ^ (t.bt - 3) else 0
  | _ => t.convs

/-- A payload as an engine has written it: some of its bytes changed by a fault. -/
def flipBytes (errs : List (Nat × Byte)) (bs : List Byte) : List Byte :=
  errs.foldl (fun bs x => bs.modify x.1 (· ^^^ x.2)) bs

/-- The self-check of the bytes written for a form of a tile fails (R207): they are decoded, and do not give what it compares
with. -/
def mismatch (t : TileIn) (mode qi : Nat) (bytes : List Byte) : Bool :=
  decodeTile t.cfa t.bt t.convs.length t.w t.h bytes ≠ some (reconTile t mode qi)

/-- A form of a tile: its mode, quantiser index and payload. -/
structure TileForm where
  mode : Nat
  qi : Nat
  bytes : List Byte
  deriving DecidableEq, Repr

/-- RAW in place of a longer coded form (R194), and whether it took its place. -/
def TileForm.orRaw (f : TileForm) (t : TileIn) : TileForm × Bool :=
  let r := codeRaw t
  if r.length < f.bytes.length then (⟨2, 0, r⟩, true) else (f, false)

/-- A form held to lim pages: its emergency coding where it does not fit (R205). -/
def TileForm.within (f : TileForm) (t : TileIn) (lim : Option Nat) : TileForm × Bool :=
  match lim with
  | some n => if n < pagesOf f.bytes.length then (⟨3, 0, codeEmergency t⟩, true) else (f, false)
  | none => (f, false)

/-- A tile as it is written, and whether it is RAW in place of a longer coding (R194). -/
structure TileOut where
  tile : FsrTile
  raw : Bool
  deriving DecidableEq, Repr

/-- Coding of a tile (R192, R194, R205): forms before and after the limits. band is the band's decision in CBR. -/
def Cfg.codeTile (c : Cfg) (s col b : Nat) (t : TileIn) (band : Option FsrBand) : TileOut :=
  match band with
  | some d =>
    if d.qi = 255 then ⟨⟨col, b, 3, 0, 0, codeEmergency t, 0⟩, false⟩
    else
      let f : TileForm := ⟨1, d.qi, codeLossy t d.qi⟩
      let (g, raw) := f.orRaw t
      let (k, lim) := g.within t (some d.lim)
      ⟨⟨col, b, k.mode, k.qi, if lim then tileLimit else 0, k.bytes, f.bytes.length⟩, raw && !lim⟩
  | none =>
    let f : TileForm := if c.fsMode s = 0 then ⟨0, 0, codeLossless t⟩ else
      let qi := 6 * (c.fsQlevel s + 1); ⟨1, qi, codeLossy t qi⟩
    let (g, raw) := f.orRaw t
    ⟨⟨col, b, g.mode, g.qi, 0, g.bytes, f.bytes.length⟩, raw⟩

/-- The re-encode after a first mismatch (R208). -/
def recodeTile (t : TileIn) (o : FsrTile) (band : Option FsrBand) : TileOut :=
  let f : TileForm := ⟨0, 0, codeLossless t⟩
  let (k, lim) := f.within t (band.map (·.lim))
  let (g, raw) := if lim then (k, false) else k.orRaw t
  ⟨{ o with mode := g.mode, qi := g.qi, bytes := g.bytes, flags := tileReenc ||| if lim then tileLimit else 0 }, raw⟩

/-- The form after a second mismatch (R209). -/
def failTile (t : TileIn) (o : TileOut) (band : Option FsrBand) : TileOut :=
  let (k, lim) := TileForm.within ⟨2, 0, codeRaw t⟩ t (band.map (·.lim))
  ⟨{ o.tile with
      mode := k.mode, qi := k.qi, bytes := k.bytes
      flags := tileReenc ||| tileVerifyFail ||| if lim then tileLimit else 0 }, o.raw && !lim⟩

/-- Every band whose tiles are all written in a CBR picture teaches the model (R206). A tile written late counts with what it codes
to at the band's index (log 152). -/
def Engine.fsLearn (s : Nat) (pic : FsrPic) (b : Nat) (e : Engine) : Engine :=
  match pic.bands[b]? with
  | none => e
  | some d =>
    if d.qi = 255 ∨ !pic.bandDone (e.cfg.tileCols s) b then e
    else
      let size (t : FsrTile) : Nat :=
        if t.flags &&& tileLate = 0 then t.coded else (codeLossy (e.fsTile s pic t.col b) d.qi).length
      let y := ((pic.tiles.filter (·.band = b)).map size).foldl (· + ·) 0
      let x := max (64 * e.cfg.tileCols s) (y * fsrP2.getD (d.qi % 8) 0 / 4096 * 2 ^ (d.qi / 8))
      e.modStream s fun st => { st with
        model := st.model.filter (fun m => !(m.1 = pic.phase && m.2.1 = b)) ++ [(pic.phase, b, x)] }

/-- FSR_BAND_DECIDE (R205): the oldest picture whose next band is this one, once every band two before is written. A band whose
tiles have all been written late by then teaches the model at once (R206). -/
def Engine.fsrBandDecide (s b : Nat) (e : Engine) : Engine :=
  let t := e.cfg.tileCols s
  let ready (pic : FsrPic) : Bool := pic.bands.length = b && decide (b < e.cfg.fsBands s) &&
    (List.range (b - 1)).all fun j => pic.bandDone t j
  if e.cfg.fsMode s ≠ 2 then e
  else
    match (e.stream s).pics.find? ready with
    | none => e
    | some pic =>
      let d := e.fsDecide s pic b
      let pic' := { pic with bands := pic.bands ++ [d], flags := if d.qi = 255 then pic.flags ||| picRcEmergency else pic.flags }
      (e.modStream s fun st => { st with pics := modFirst ready (fun _ => pic') st.pics }).fsLearn s pic' b

def execFsrBandDecide (t : Nat) (st : Fin 8) (band : Nat) (s : State) : Out :=
  s.run t fun e => e.whenLive (·.fsrBandDecide st band)

/-- A picture with one more tile written. -/
def FsrPic.addTile (pic : FsrPic) (t : FsrTile) : FsrPic :=
  let f (bitv flag : Nat) : Nat := if t.flags &&& bitv ≠ 0 then flag else 0
  { pic with tiles := pic.tiles ++ [t]
             flags := pic.flags ||| f tileReenc picVerifyReenc ||| f tileVerifyFail picVerifyFail |||
               f tileLate picTileLate ||| f tileLimit picTileLimit }

/-- The oldest picture in which tile (col, b) can be written: it is not, and in CBR its band is decided. -/
def Engine.fsWaiting (e : Engine) (s col b : Nat) (late : Bool) (pic : FsrPic) : Bool :=
  !(pic.tiles.any fun t => t.col = col && t.band = b) && decide (col < e.cfg.tileCols s ∧ b < e.cfg.fsBands s) &&
    (late || e.cfg.fsMode s ≠ 2 || pic.bands[b]?.isSome)

/-- A tile that an engine failed twice: its events, and the engine out of service at its second in a run (R209). -/
def Engine.fsEngineFail (s eng : Nat) (e : Engine) : Engine :=
  let e := (e.bump .fsrVerifyFail (fsrSrc s)).emit (fsrSrc s) .fsrVerifyFail (evData [(4, eng)])
  let n := vget e.fsr.fails eng 0 + 1
  let e := { e with fsr := { e.fsr with fails := vmod e.fsr.fails eng fun _ => n } }
  if n = 2 ∧ vget e.fsr.inService eng false then
    { e with fsr := { e.fsr with inService := vmod e.fsr.inService eng fun _ => false } }.emit (0x0190 + eng) .fsrEngineOff []
  else e

/-- A tile as engine and self-check leave it (R207 to R209): what is written, and how many checks it failed. errs1 and errs2 are
the bytes that a fault changed in its first coding and in its re-encode. -/
def checkedTile (t : TileIn) (o : TileOut) (band : Option FsrBand) (errs1 errs2 : List (Nat × Byte)) : TileOut × Nat :=
  let b1 := flipBytes errs1 o.tile.bytes
  if !mismatch t o.tile.mode o.tile.qi b1 then (⟨{ o.tile with bytes := b1 }, o.raw⟩, 0)
  else
    let o2 := recodeTile t o.tile band
    let b2 := flipBytes errs2 o2.tile.bytes
    if !mismatch t o2.tile.mode o2.tile.qi b2 then (⟨{ o2.tile with bytes := b2 }, o2.raw⟩, 1) else (failTile t o2 band, 2)

/-- FSR_TILE_CODED (R192 to R198, R205 to R209): a tile is coded by an engine in service, checked, and written. -/
def Engine.fsrTileCoded (s col b eng : Nat) (errs1 errs2 : List (Nat × Byte)) (e : Engine) : Engine :=
  match (e.stream s).pics.find? (e.fsWaiting s col b false) with
  | none => e
  | some pic =>
    if !vget e.fsr.inService eng false then e
    else
      let t := e.fsTile s pic col b
      let band := if e.cfg.fsMode s = 2 then pic.bands[b]? else none
      let (out, fails) := checkedTile t (e.cfg.codeTile s col b t band) band errs1 errs2
      let e := e.bumpN .fsrRawTile (fsrSrc s) 0 (bit out.raw)
      let e := e.bumpN .fsrTileLimit (fsrSrc s) 0 (bit (out.tile.flags &&& tileLimit ≠ 0))
      let e := e.bumpN .fsrVerifyMismatch (fsrSrc s) 0 (min 1 fails)
      let e := if fails = 2 then e.fsEngineFail s eng else e
      let pic' := { pic.addTile out.tile with
        mism := pic.mism + min 1 fails, mismFirst := if 0 < fails ∧ pic.mism = 0 then (col, b) else pic.mismFirst }
      let e := e.modStream s fun st => { st with pics := modFirst (e.fsWaiting s col b false) (fun _ => pic') st.pics }
      e.fsLearn s pic' b

def execFsrTileCoded (t : Nat) (st : Fin 8) (col band : Nat) (engine : Fin 32) (errs1 errs2 : List (Nat × Byte))
    (s : State) : Out :=
  s.run t fun e => e.whenLive (·.fsrTileCoded st col band engine errs1 errs2)

/-- A tile of band b of a picture is late (R210): its frame has been received whole here, so line 256 x (b + 2) has reached the
tap; for the last two bands, the completion limit of R203 has passed. -/
def Engine.tileOverdue (e : Engine) (s b : Nat) (pic : FsrPic) : Bool := decide (b + 2 < e.cfg.fsBands s ∨ pic.due ≤ e.now)

/-- The picture before one of a stream was flagged TILE_LATE: the one before it among those being coded, or the last that left. -/
def FsrStream.lateBefore (q : FsrStream) (cfn : Nat) : Bool :=
  match ((q.pics.takeWhile (·.cfn ≠ cfn)).getLast?) with
  | some x => x.flags &&& picTileLate ≠ 0
  | none => q.lateRun

/-- FSR_TILE_LATE (R210): the tile is written in its emergency coding, flagged LATE. -/
def Engine.fsrTileLate (s col b : Nat) (e : Engine) : Engine :=
  match (e.stream s).pics.find? fun pic => e.fsWaiting s col b true pic && e.tileOverdue s b pic with
  | none => e
  | some pic =>
    let bytes := codeEmergency (e.fsTile s pic col b)
    let pic' := pic.addTile ⟨col, b, 3, 0, tileLate, bytes, bytes.length⟩
    let first := pic.flags &&& picTileLate = 0 && !(e.stream s).lateBefore pic.cfn
    let e := e.bump .fsrTileLate (fsrSrc s)
    let e := if first then e.emit (fsrSrc s) .fsrTileLate [] else e
    let e := e.modStream s fun st => { st with
      pics := modFirst (fun q => e.fsWaiting s col b true q && e.tileOverdue s b q) (fun _ => pic') st.pics }
    e.fsLearn s pic' b

def execFsrTileLate (t : Nat) (st : Fin 8) (col band : Nat) (s : State) : Out :=
  s.run t fun e => e.whenLive (·.fsrTileLate st col band)

/-- A frame of a port offered to stream s, while it records: a picture of its tap begins (R186, R188). -/
def Engine.fsrPush (s : Nat) (out : RawOut) (fr : FrameIn) (e : Engine) : Engine :=
  let convs := match e.cfg.fsTap s with
    | 1 => out.t1
    | 2 => out.t2
    | _ => [out.t3]
  let pic : FsrPic :=
    { cfn := fr.cfn, pfn := fr.pfn, stampS := dtbSec fr.mid, stampNs := dtbNs fr.mid, phase := fr.ph,
      convs := convs, bands := [], tiles := [], flags := 0, mism := 0, mismFirst := (0, 0)
      due := e.now + ns (512 * e.cfg.tLine fr.p fr.vals.mode) + ms 2 }
  e.modStream s fun st => { st with pics := st.pics ++ [pic] }

/-- Tiles of a picture in payload order: column after column (R199). -/
def FsrPic.ordered (pic : FsrPic) : List FsrTile :=
  sortAsc (fun a b => decide (a.col < b.col ∨ (a.col = b.col ∧ a.band < b.band))) pic.tiles

/-- Every tile of the picture is written. -/
def FsrPic.whole (pic : FsrPic) (cols bands : Nat) : Bool := decide (pic.tiles.length = cols * bands)

/-- A payload padded with zero bytes to whole pages. -/
def padPages (bs : List Byte) : List Byte := padTo (4096 * pagesOf bs.length) bs

/-- The tile index (R201): entries, padding and INDEX_CRC. -/
def indexBytes (hdr : Nat) (ts : List FsrTile) : List Byte :=
  let es := ts.foldl (fun (q : Nat × List Byte) t => (q.1 + pagesOf t.bytes.length,
    q.2 ++ le 4 q.1 ++ le 4 t.bytes.length ++ le 4 (crc32c t.bytes) ++ le 1 t.mode ++ le 1 (if t.mode = 1 then t.qi else 0) ++
      le 1 t.flags ++ le 1 0)) (hdr, [])
  let b := padTo (4096 * (hdr - 1) - 4) es.2
  b ++ le 4 (crc32c b)

/-- Pages of a whole picture. -/
def Cfg.picPages (c : Cfg) (s : Nat) (pic : FsrPic) : Nat :=
  c.hdrPages s + (pic.tiles.map fun t => pagesOf t.bytes.length).foldl (· + ·) 0

/-- The picture header (Table 8.3). -/
def Engine.picHeader (e : Engine) (s : Nat) (pic : FsrPic) (num : Nat) : List Byte :=
  let c := e.cfg
  let p := c.fsSrc s
  let qparam := if c.fsMode s = 0 then 0 else if c.fsMode s = 1 then c.fsQlevel s else c.fsRatio s
  let bandQi (b : Nat) : Nat :=
    if c.fsMode s = 0 then 0 else if c.fsMode s = 1 then 6 * (c.fsQlevel s + 1) else (pic.bands.getD b ⟨0, 0, 0, 0⟩).qi
  let b := padTo 4092 (le 4 0x50525346 ++ le 2 1 ++ le 2 (c.hdrPages s) ++ le 4 (c.picPages s pic) ++ le 4 (c.capPages s) ++
    le 4 pic.cfn ++ le 4 pic.pfn ++ le 8 pic.stampS ++ le 4 pic.stampNs ++ le 2 e.deviceId ++ le 1 s ++ le 1 p ++
    le 1 pic.phase ++ le 1 (c.fsTap s) ++ le 1 (c.fsMode s) ++ le 1 qparam ++ le 2 (c.cropW p) ++ le 2 (c.cropH p) ++
    le 1 c.cfa ++ le 1 (c.fsBits s) ++ le 1 (c.fsConv s) ++ le 1 0 ++ le 2 (if c.fsTap s = 2 then c.pedestal else 0) ++
    le 2 (c.tileCols s) ++ le 2 (c.fsBands s) ++ le 2 pic.flags ++ le 4 num ++
    (List.range 64).flatMap fun k => le 1 (if k < c.fsBands s then bandQi k else 0))
  b ++ le 4 (crc32c b)

/-- All pages of a whole picture (R199). -/
def Engine.picBytes (e : Engine) (s : Nat) (pic : FsrPic) (num : Nat) : List Byte :=
  let ts := pic.ordered
  e.picHeader s pic num ++ indexBytes (e.cfg.hdrPages s) ts ++ ts.flatMap fun t => padPages t.bytes

/-- The oldest picture of a stream leaves complete (R200, R203, R213): the picture, its PIC_NUM, and the stream after. -/
def Engine.fsrTake (s : Nat) (e : Engine) : Option (FsrPic × Nat × Engine) :=
  match (e.stream s).pics with
  | [] => none
  | pic :: rest =>
    if !pic.whole (e.cfg.tileCols s) (e.cfg.fsBands s) then none
    else
      let q0 := if e.cfg.fsMode s = 2 then (pic.bands.getD 0 ⟨0, 0, 0, 0⟩).qi
        else if e.cfg.fsMode s = 1 then 6 * (e.cfg.fsQlevel s + 1) else 0
      let emerg := pic.flags &&& picRcEmergency ≠ 0
      let num := (e.stream s).picNum
      let e := e.modStream s fun st => { st with
        pics := rest, picNum := num + 1, lateRun := decide (pic.flags &&& picTileLate ≠ 0), lastQi := min 63 q0
        lastEmerg := emerg, lastPages := satNat 0x7FFFFF (e.cfg.picPages s pic) }
      let e := if emerg then e.bump .rcEmergency (fsrSrc s) else e
      let e := if pic.mism = 0 then e else e.emit (fsrSrc s) .fsrVerifyMismatch
        (evData [(1, s), (4, pic.cfn), (4, pic.mismFirst.1), (4, pic.mismFirst.2), (4, pic.mism)])
      some (pic, num, e)

/-- A new capture run: PIC_NUM, the models and the engines' failures start anew (R200, R206, R209). -/
def Engine.fsrRunStart (e : Engine) : Engine :=
  let fresh (st : FsrStream) : FsrStream := { st with picNum := 0, model := [], lateRun := false }
  { e with fsr := { e.fsr with streams := e.fsr.streams.map fresh, fails := Vector.replicate 32 0 } }


/-- A tile's rectangle put over a picture. -/
def Pic.paste (g : Pic) (x0 y0 : Nat) (t : Pic) : Pic :=
  g.mapIdx fun y l =>
    match if y < y0 then none else t[y - y0]? with
    | none => l
    | some r => l.take x0 ++ r ++ l.drop (x0 + r.length)

/-- A picture decoded from its pages (R211), with the record recorded beside it: none when MAGIC, VERSION, HDR_CRC or INDEX_CRC
fails. -/
def decodePicture (bs record : List Byte) : Option Played :=
  let f (at_ n : Nat) : Nat := unle ((bs.drop at_).take n)
  let hdr := f 6 2
  let w := f 44 2
  let h := f 46 2
  let ncv := f 50 1
  let cols := f 54 2
  let bands := f 56 2
  let idx := (bs.drop 4096).take (4096 * (hdr - 1) - 4)
  if f 0 4 ≠ 0x50525346 ∨ f 4 2 ≠ 1 ∨ crc32c (bs.take 4092) ≠ f 4092 4 ∨ hdr = 0 ∨
      crc32c idx ≠ f (4096 * hdr - 4) 4 then none
  else
    let blank := List.replicate ncv (Pic.tab w h fun _ _ => 0)
    let tiles := (List.range cols).flatMap fun c => (List.range bands).map fun b => (c, b)
    let r := (tiles.zipIdx).foldl (fun (q : List Pic × Nat) t =>
      let c := t.1.1
      let b := t.1.2
      let ent := (idx.drop (16 * t.2)).take 16
      let len := unle ((ent.drop 4).take 4)
      let body := (bs.drop (4096 * unle (ent.take 4))).take len
      let tw := min 512 (w - 512 * c)
      let th := min 256 (h - 256 * b)
      let good := decide (body.length = len ∧ crc32c body = unle ((ent.drop 8).take 4) ∧ 40 ≤ len ∧
        unle ((ent.drop 12).take 1) < 4)
      let dec := if good then decodeTile (f 48 1) (f 49 1) ncv tw th body else none
      let g := dec.getD (zeroTile (f 48 1) (f 49 1) ncv tw th)
      (List.zipWith (fun p t => Pic.paste p (512 * c) (256 * b) t) q.1 g, q.2 + bit dec.isNone)) (blank, 0)
    let tileFlags := tiles.zipIdx.foldl (fun v t => v ||| unle (((idx.drop (16 * t.2)).drop 14).take 1) % 16) 0
    some ⟨f 16 4, f 40 1, f 39 1, f 41 1, f 52 2, r.1, r.2, tileFlags, record⟩

end Sys2Proof.Machine
end

