-- ==== Sys2Proof/Machine/Hevc.lean ====
section
/-! DEFINITION. The HEVC encoder (ch. 9): its streams, picture pool, search, rate control, trim band and rings; and the commands
HEVC_SOURCE_FRAME, HEVC_ROW_START, HEVC_CTU_CODE and HEVC_PICTURE_COMPLETE. -/

namespace Sys2Proof.Machine

namespace Cfg

/-- Global words (Table 9.2). -/
def poolW (c : Cfg) : Nat := c.f 0x0041 0 31 16
def poolH (c : Cfg) : Nat := c.f 0x0041 0 15 0
def ringBytes (c : Cfg) : Nat := c.f 0x0041 1 30 25 * 1048576
def decBufs (c : Cfg) (d : Nat) : Nat := c.f 0x0041 1 (5 * d + 4) (5 * d)
/-- Word k of stream entry s (Table 9.3). -/
def hv (c : Cfg) (s k hi lo : Nat) : Nat := c.f 0x0041 (2 + 4 * s + k) hi lo
def hvValid (c : Cfg) (s : Nat) : Bool := c.hv s 0 31 31 = 1
def hvSrc (c : Cfg) (s : Nat) : Nat := c.hv s 0 30 28
def hvDiv (c : Cfg) (s : Nat) : Nat := c.hv s 0 16 14 + 1
def hvMode (c : Cfg) (s : Nat) : Nat := c.hv s 0 13 12
def hvNref (c : Cfg) (s : Nat) : Nat := c.hv s 0 11 10 + 1
def hvLowLat (c : Cfg) (s : Nat) : Bool := c.hv s 0 9 9 = 1
def hvTrim (c : Cfg) (s : Nat) : Bool := c.hv s 0 8 8 = 1
def hvProxy (c : Cfg) (s : Nat) : Bool := c.hv s 0 7 7 = 1
def hvQpMin (c : Cfg) (s : Nat) : Nat := c.hv s 0 5 0
def hvBitrate (c : Cfg) (s : Nat) : Nat := c.hv s 1 31 16 * 100000
def hvMaxrate (c : Cfg) (s : Nat) : Nat := c.hv s 1 15 0 * 100000
def hvCpb (c : Cfg) (s : Nat) : Nat := c.hvMaxrate s * c.hv s 2 31 20 / 1000
def hvPeriod (c : Cfg) (s : Nat) : Nat := c.hv s 2 19 10
def hvQpCq (c : Cfg) (s : Nat) : Nat := c.hv s 2 9 4
def hvBppP (c : Cfg) (s : Nat) : Nat := c.hv s 3 31 16
def hvBppI (c : Cfg) (s : Nat) : Nat := c.hv s 3 15 0
/-- Picture size: the branch's, or the aux scaler's (R219). -/
def hvW (c : Cfg) (s : Nat) : Nat := if c.hvSrc s = 6 then c.f 0x0012 1 23 12 + 1 else c.brOutW (c.hvSrc s)
def hvH (c : Cfg) (s : Nat) : Nat := if c.hvSrc s = 6 then c.f 0x0012 1 11 0 + 1 else c.brOutH (c.hvSrc s)
def hvCols (c : Cfg) (s : Nat) : Nat := cdiv (c.hvW s) 64
def hvRows (c : Cfg) (s : Nat) : Nat := cdiv (c.hvH s) 64
/-- Mean picture rate r as a fraction (R219). -/
def hvRate (c : Cfg) (s : Nat) : Nat × Nat :=
  if c.hvSrc s = 6 then c.projRate
  else (c.projRate.1 * (phasesIn c.phases (c.brMask (c.hvSrc s))).length, c.projRate.2 * c.hvDiv s)

/-- W and CC of R229: the band of picture k of a sweep as its first CTU column and the one after its last. -/
def trimBand (c : Cfg) (s k : Nat) : Nat × Nat :=
  let w := cdiv (c.hvCols s) (max 1 (c.hvPeriod s))
  (min (k * w) (c.hvCols s), min (k * w + w) (c.hvCols s))

/-- E_k of R229: right edge of the refreshed area of picture k of a sweep, in luma samples. -/
def trimEdge (c : Cfg) (s k : Nat) : Nat := min ((c.trimBand s k).2 * 64) (c.hvW s)

def hvProfile (c : Cfg) (s : Nat) : Nat := c.hv s 0 27 26
def hvHash (c : Cfg) (s : Nat) : Bool := c.hv s 0 6 6 = 1
/-- PRIM of a branch (Table 7.4). -/
def brPrim (c : Cfg) (b : Nat) : Nat := c.f (branchId b) 0 17 16

/-- The parameter sets of a stream (R215, R217, R220): Tables 9.1 and 9.4. The aux path is BT.709 of narrow range. -/
def hevcParams (c : Cfg) (s : Nat) : HevcParams :=
  let b := c.hvSrc s
  let aux := decide (b = 6)
  { profile := c.hvProfile s, tier := c.hv s 0 25 25, level := c.hv s 0 24 17, progressive := true
    width := c.hvW s, height := c.hvH s, chroma := if c.hvProfile s = 2 then 2 else 1
    depth := if c.hvProfile s = 0 then 8 else 10
    ctbLog2 := 6, cbLog2 := 3, tbMaxLog2 := 5, tbMinLog2 := 2, depthIntra := 1, depthInter := 1, amp := false
    transformSkip := true, signHiding := true, scalingLists := false, cuQpDelta := true, diffCuQpDeltaDepth := 0
    refs := c.hvNref s, temporalMvp := false, weighted := false, longTerm := false, deblock := true, sao := true
    filterAcrossSlices := true, strongIntra := true, constrainedIntra := c.hvTrim s, entropySync := true, tiles := false
    primaries := if aux then 1 else [2, 9, 1, 12].getD (c.brPrim b) 2
    transfer := if aux then 1 else [2, 16, 18, 1].getD (c.brEncode b) 2
    matrix := if aux then 1 else if c.brYcc b = 2 then 9 else 1
    fullRange := !aux && c.brFull b
    bitRate := c.hvMaxrate s, cpbSize := c.hvCpb s, cbr := decide (c.hvMode s = 0), rate := c.hvRate s }

end Cfg

/-- A picture whose samples are open (log 24): a rule and a key give them. -/
def freePic (rule key w h cw ch bits : Nat) : OutPic :=
  let plane (k w h : Nat) : List (List Nat) := (List.range h).map fun y => (List.range w).map fun x =>
    Config.unstated rule (((key * 4 + k) * 65536 + y) * 65536 + x) % 2 ^ bits
  { cfn := 0, phase := 0, flags := 0, y := plane 0 w h, cb := plane 1 cw ch, cr := plane 2 cw ch }

/-- An open picture in the format a stream codes. -/
def Cfg.streamPic (c : Cfg) (s rule key : Nat) : OutPic :=
  let p := c.hevcParams s
  freePic rule key p.width p.height (p.width / 2) (if p.chroma = 2 then p.height else p.height / 2) p.depth

/-- A luma pyramid at one sample for n x n, 8 bits (R216). Its filter is open: each sample is an open function of its block (log 154). -/
def pyramid (n : Nat) (g : List (List Nat)) : List (List Nat) :=
  (List.range (g.length / n)).map fun j => (List.range ((g.headD []).length / n)).map fun i =>
    let block := ((g.drop (n * j)).take n).flatMap fun l => (l.drop (n * i)).take n
    Config.unstated 216 (block.foldl (fun v a => v * 65536 + a) n) % 256

/-- A sample, those outside the picture being those of its edge. -/
def edgeSample (g : List (List Nat)) (x y : Int) : Nat :=
  let l := g.getD (clampInt 0 ((g.length - 1 : Nat) : Int) y).toNat []
  l.getD (clampInt 0 ((l.length - 1 : Nat) : Int) x).toNat 0

/-- SAD of the n x n block of a at (x, y) against b displaced. -/
def sad (a b : List (List Nat)) (x y n : Nat) (dx dy : Int) : Nat :=
  sumNat ((List.range n).flatMap fun j => (List.range n).map fun i =>
    ((edgeSample a (x + i : Nat) (y + j : Nat) : Int) - edgeSample b (x + i + dx) (y + j + dy)).natAbs)

/-- L2 of R225 for a block of a quarter-size picture: the least cost, and the displacement that has it, over ±512 full-size samples in
both directions. The cost is SAD plus lambda times the vector's bits, which is open (log 154). -/
def l2Search (a b : List (List Nat)) (x y n : Nat) : Nat × Int × Int :=
  let steps : List Int := (List.range 257).map fun k => (k : Int) - 128
  let cost (dx dy : Int) : Nat := sad a b x y n dx dy + Config.unstated 225 ((dx + 128).toNat * 257 + (dy + 128).toNat)
  (steps.flatMap fun dy => steps.map fun dx => (dx, dy)).foldl
    (fun m v => let c := cost v.1 v.2; if c < m.1 then (c, v) else m) (cost 0 0, 0, 0)

def Engine.hst (e : Engine) (s : Nat) : HevcStream := vget e.hevc.streams s HevcStream.reset
def Engine.modHst (s : Nat) (f : HevcStream → HevcStream) (e : Engine) : Engine :=
  { e with hevc := { e.hevc with streams := vmod e.hevc.streams s f } }

/-- Source of a stream's counters and events (R245). -/
def hevcSrc (s : Nat) : Nat := 0x01C0 + s

/-- Flags a codec gave a picture of a frame, for the record that reports it (R491). -/
def Engine.codecFlags (x : CodecFlag) (e : Engine) : Engine :=
  { e with md := { e.md with codec := (x :: e.md.codec).take 1024 } }

/-- Picture flags of HEVC_FLAGS (Table 21.1). -/
def hvEmergency : Nat := 1
def hvSkipped : Nat := 2
def hvPoison : Nat := 4

/-- A picture is given its place in the IDR and sweep sequence, and its POC (R221, R229): skip for one that codes the last source
picture again. The proxy's IDR is the first picture from a real source frame at or after the frame it was asked for; an aux frame
counts as of the project frame that took it. -/
def Engine.hevcQueue (s : Nat) (cfn : Option Nat) (skip buf : Bool) (src : OutPic) (e : Engine) : Engine :=
  let q := e.hst s
  let c := e.cfg
  let asked := !skip && match q.idrFrom with
    | some f => decide (0 ≤ cfnDiff (cfn.getD e.proj.baseCfn) f)
    | none => false
  let idr := !q.begun || asked || (!c.hvTrim s && decide (c.hvPeriod s ≤ q.sinceIdr))
  let sweep := if c.hvTrim s && !idr then some q.nextK else none
  let poc := if idr then 0 else q.nextPoc
  let pic : HevcPic :=
    { cfn := cfn, idr := idr, first := !q.begun, sweep := sweep, skip := skip, forProxy := asked, buf := buf, src := src
      arrived := e.now, poc := poc, costs := [], poison := false, hdr := 0, cap := 0, target := 0, qp := 0, fill := 0
      pool := none, rows := [] }
  e.modHst s fun q => { q with
    begun := true, sinceIdr := if idr then 1 else q.sinceIdr + 1, nextPoc := poc + 1
    nextK := if idr then 0 else if c.hvTrim s then (q.nextK + 1) % max 1 (c.hvPeriod s) else 0
    idrFrom := if asked then none else q.idrFrom
    pics := q.pics ++ [pic], state := 2 }

/-- The source picture that a stream's source gives it now: its branch's last picture, while the branch and its port run; or the aux
frame taken, scaled to 4:2:0 by a filter that the manual does not give (R220; log 24). -/
def Engine.hevcSource (e : Engine) (s : Nat) : Option OutPic :=
  let b := e.cfg.hvSrc s
  let p := e.cfg.brSrc b
  if b = 6 then
    if e.unitHeld 0x0400 12 then none else e.aux.taken.map fun a => e.cfg.streamPic s 220 a.afn
  else if (vget e.colour.branches b Branch.reset).state = .running && !e.unitHeld (0x0300 + p) (10 + p) then
    (vget e.colour.branches b Branch.reset).out
  else none

/-- HEVC_SOURCE_FRAME (R219, R222, R237): the frame the stream's source should give it now. While its branch stands still the frame
it should code is that of the present slot. -/
def Engine.hevcSourceFrame (s : Nat) (e : Engine) : Engine :=
  let q := e.hst s
  if q.state = 0 ∨ e.clk.classV then e
  else
    let aux := decide (e.cfg.hvSrc s = 6)
    let takes := aux || decide (q.frames % e.cfg.hvDiv s = 0)
    let e := e.modHst s fun q => { q with frames := q.frames + 1 }
    if !takes then e
    else
      match e.hevcSource s, q.lastSrc with
      | none, none => e
      | none, some l => e.hevcQueue s (if aux then none else e.frameNow) true false l
      | some o, l =>
        let cfn := if aux then none else some o.cfn
        if 2 ≤ (q.pics.filter (·.buf)).length then
          let e := (e.bump .hevcSrcDrop (hevcSrc s)).emit (hevcSrc s) .hevcSrcDrop []
          e.hevcQueue s cfn true false (l.getD o)
        else (e.modHst s fun q => { q with lastSrc := some o }).hevcQueue s cfn false true o

def execHevcSourceFrame (t : Nat) (st : Fin 8) (s : State) : Out := s.run t fun e => e.whenLive (·.hevcSourceFrame st)

/-- inv and p6 of R234 and R236. -/
def hevcInv : List Nat := [4096, 3649, 3251, 2896, 2580, 2299]
def hevcP6 : List Nat := [4096, 4598, 5161, 5793, 6502, 7298]

/-- est(r, q) of R234 for a model value. -/
def hevcEst (x q : Nat) : Nat := (x / 2 ^ (q / 6)) * hevcInv.getD (q % 6) 0 / 4096

/-- CTU columns of a picture that are intra (R234). -/
def Cfg.hevcIntra (c : Cfg) (s : Nat) (pic : HevcPic) (col : Nat) : Bool :=
  pic.idr || match pic.sweep with
    | some k => decide ((c.trimBand s k).1 ≤ col ∧ col < (c.trimBand s k).2)
    | none => false

/-- Intra CTUs of a row of the picture. -/
def Cfg.hevcIntraCtus (c : Cfg) (s : Nat) (pic : HevcPic) : Nat :=
  ((List.range (c.hvCols s)).filter (c.hevcIntra s pic)).length

/-- Pool buffers of a stream that are short-term references, the most recent first: ref_idx counts in this order (R215, R227). -/
def Engine.hevcRefs (e : Engine) (s : Nat) : List PoolBuf :=
  sortAsc (fun a b => decide (b.poc < a.poc)) (e.hevc.pool.toList.filter fun x => x.owner = s && x.mark = .short)

/-- L2 row costs of a picture over its whole-CTU searches in the most recent reference (R225, R236; log 154). -/
def Engine.hevcCosts (e : Engine) (s : Nat) (pic : HevcPic) : List Nat :=
  match e.hevcRefs s with
  | [] => []
  | ref :: _ =>
    let cur := pyramid 4 pic.src.y
    (List.range (e.cfg.hvRows s)).map fun r =>
      sumNat ((List.range (e.cfg.hvCols s)).map fun col => (l2Search cur ref.quarter (16 * col) (16 * r) 16).1)

/-- The vector of a coding unit, in quarter samples, when it has one. -/
def HevcCu.vec (u : HevcCu) : Option (Int × Int) :=
  match u.pred with
  | .inter _ mx my => some (mx, my)
  | _ => none

/-- A vector that the refinements of R225 reach from a centre: ±32 and ±8 samples, then a half and a quarter sample. -/
def refines (v c : Int × Int) : Bool := decide ((v.1 - c.1).natAbs ≤ 163 ∧ (v.2 - c.2).natAbs ≤ 163)

/-- Vectors around which L1 refines beside zero and those of the left and above CTUs: the L2 results of the CTU and of its quadrants
(R225), in quarter samples. -/
def Engine.l2Centres (pic : HevcPic) (ref : PoolBuf) (row col : Nat) : List (Int × Int) :=
  let cur := pyramid 4 pic.src.y
  let found (x y n : Nat) : Int × Int := let r := (l2Search cur ref.quarter x y n).2; (16 * r.1, 16 * r.2)
  found (16 * col) (16 * row) 16 :: [(0, 0), (8, 0), (0, 8), (8, 8)].map fun o => found (16 * col + o.1) (16 * row + o.2) 8

/-- A coding unit left of the band reads only what R230 allows: from picture j = k - 1 - ref of its own sweep, interpolation taps
included, four columns clear of E_j while E_j is not the picture's width. -/
def Cfg.trimReads (c : Cfg) (s : Nat) (pic : HevcPic) (u : HevcCu) (ref : Nat) (mx : Int) : Bool :=
  match pic.sweep with
  | none => true
  | some k =>
    if (c.trimBand s k).1 * 64 ≤ u.x then true
    else if k < ref + 1 then false
    else
      let edge := c.trimEdge s (k - 1 - ref)
      let luma : Int := (u.x + u.size : Nat) - 1 + mx.fdiv 4 + if mx % 4 = 0 then 0 else 4
      let chroma : Int := ((u.x + u.size) / 2 : Nat) - 1 + mx.fdiv 8 + if mx % 8 = 0 then 0 else 2
      edge = c.hvW s || decide (luma < (edge : Int) - 4 ∧ chroma < ((edge : Int) - 4) / 2)

/-- A displaced block reaches at most 64 samples beyond the picture's edge (R225). -/
def Cfg.vectorReach (c : Cfg) (s : Nat) (u : HevcCu) (mx my : Int) : Bool :=
  decide (-256 ≤ 4 * (u.x : Int) + mx ∧ 4 * ((u.x + u.size : Nat) : Int) + mx ≤ 4 * (c.hvW s + 64 : Nat) ∧
    -256 ≤ 4 * (u.y : Int) + my ∧ 4 * ((u.y + u.size : Nat) : Int) + my ≤ 4 * (c.hvH s + 64 : Nat))

/-- Vectors of the left and above CTUs (R225). -/
def HevcPic.nearVecs (pic : HevcPic) (row : Nat) (col : Nat) : List (Int × Int) :=
  let codes (r c : Nat) : List HevcCu := ((pic.rows[r]?.map (·.codes)).getD [] |>.getD c ([], false)).1
  ((if col = 0 then [] else codes row (col - 1)) ++ if row = 0 then [] else codes (row - 1) col).filterMap HevcCu.vec

/-- The search can choose a coding unit's prediction (R225, R230, R238): an inter one not in an intra CTU, nor where a reference read
met poison. -/
def Engine.cuAllowed (e : Engine) (s : Nat) (pic : HevcPic) (row col : Nat) (poison : Bool) (u : HevcCu) : Bool :=
  match u.pred with
  | .intra => true
  | .inter ref mx my =>
    !e.cfg.hevcIntra s pic col && !poison && e.cfg.vectorReach s u mx my && e.cfg.trimReads s pic u ref mx &&
      match (e.hevcRefs s)[ref]? with
      | none => false
      | some b => refines (mx, my) (0, 0) || (pic.nearVecs row col).any (refines (mx, my)) ||
          (Engine.l2Centres pic b row col).any (refines (mx, my))
  | _ => false

/-- Coding units tile the part of CTU (col, row) that lies in the picture, each a square of 8 to 64 at a multiple of its size
(Table 9.1). -/
def Cfg.cusTile (c : Cfg) (s row col : Nat) (us : List HevcCu) : Bool :=
  let w := min 64 (c.hvW s - 64 * col)
  let h := min 64 (c.hvH s - 64 * row)
  let disjoint (a b : HevcCu) : Bool :=
    a = b || decide (a.x + a.size ≤ b.x ∨ b.x + b.size ≤ a.x ∨ a.y + a.size ≤ b.y ∨ b.y + b.size ≤ a.y)
  us.all (fun u => [8, 16, 32, 64].contains u.size && u.x % u.size = 0 && u.y % u.size = 0 &&
    decide (64 * col ≤ u.x ∧ u.x + u.size ≤ 64 * col + w ∧ 64 * row ≤ u.y ∧ u.y + u.size ≤ 64 * row + h)) &&
    us.all (fun a => us.all (disjoint a)) && decide (us.Nodup) && sumNat (us.map fun u => u.size * u.size) = w * h

/-- The candidate of least cost among those the search can choose (R225). -/
def Engine.hevcChoose (e : Engine) (s : Nat) (pic : HevcPic) (row col : Nat) (poison : Bool) (cands : List HevcCand) :
    Option HevcCand :=
  (cands.filter fun k => e.cfg.cusTile s row col k.cus && k.cus.all (e.cuAllowed s pic row col poison)).foldl
    (fun m k => match m with
      | some b => if k.cost < b.cost then some k else m
      | none => some k) none

/-- Bytes the emergency form of CTUs from a column on needs at most (R235). -/
def Cfg.emergBound (c : Cfg) (s : Nat) (pic : HevcPic) (col : Nat) : Nat :=
  (((List.range (c.hvCols s)).drop col).map fun k => if c.hevcIntra s pic k then 16 else 2).foldl (· + ·) 0

/-- The floor of a row (R234). -/
def Cfg.rowFloor (c : Cfg) (s : Nat) (pic : HevcPic) : Nat :=
  let i := c.hevcIntraCtus s pic
  64 + 2 * (c.hvCols s - i) + 16 * i

/-- x[r] of a picture's kind (R236). -/
def Engine.hevcX (e : Engine) (s : Nat) (idr : Bool) (r : Nat) : Nat :=
  let kind := if idr then 0 else 1
  let bpp := if idr then e.cfg.hvBppI s else e.cfg.hvBppP s
  match (e.hst s).model.find? fun m => m.1 = kind ∧ m.2.1 = r with
  | some m => m.2.2
  | none => bpp * (e.cfg.hvW s * min 64 (e.cfg.hvH s - 64 * r)) / 128

/-- The picture's cap, target and QP, as it starts to be coded (R232, R233). -/
def Engine.hevcBegin (s : Nat) (pic : HevcPic) (hdr : Nat) (e : Engine) : HevcPic :=
  let c := e.cfg
  let f := if pic.first then c.hvCpb s * 7 / 8 else (e.hst s).fill
  let (rn, rd) := c.hvRate s
  let per : Int := ((c.hvBitrate s * rd / max 1 rn : Nat) : Int)
  let t := clampInt ((c.hvBitrate s * rd / (4 * max 1 rn) : Nat) : Int) f
    (per + Int.tdiv ((f : Int) - ((c.hvCpb s / 2 : Nat) : Int)) 8)
  { pic with
    hdr := hdr, cap := f / 8, target := t.toNat, fill := f, qp := if c.hvMode s = 1 then (e.hst s).qv else c.hvQpCq s
    costs := if pic.idr || c.hvLowLat s then [] else e.hevcCosts s pic }

/-- The decision of R234 for row r of a picture. -/
def Engine.hevcDecide (e : Engine) (s : Nat) (pic : HevcPic) (r : Nat) : HevcRow :=
  let c := e.cfg
  let rows := c.hvRows s
  let x (j : Nat) : Nat :=
    let v := e.hevcX s pic.idr j
    let p := (e.hst s).lastCosts.getD j 0
    if pic.idr ∨ c.hvLowLat s ∨ p = 0 then v else v * pic.costs.getD j 0 / p
  let fl := c.rowFloor s pic
  let finished := pic.rows.filter fun w => w.ctus = c.hvCols s
  let done := sumNat (finished.map (·.bytes))
  let fly := sumNat ((pic.rows.filter fun w => w.ctus ≠ c.hvCols s).map (·.alloc))
  let left : Int := (pic.cap : Int) - pic.hdr - done - fly - ((fl * (rows - 1 - r) : Nat) : Int)
  if left < fl + hevcEst (x r) 51 then ⟨51, fl, true, true, 0, 0, []⟩
  else
    let spare := (left - fl).toNat
    let sum := max 1 (sumNat ((List.range (rows - r)).map fun k => x (r + k)))
    let alloc := fl + min spare (2 * spare * x r / sum)
    let least (lo : Nat) (ok : Nat → Bool) : Nat := (((List.range 52).drop lo).find? ok).getD 51
    let q := if c.hvMode s = 0 then
        let goal := Int.tdiv (((pic.target : Int) / 8 - done - fly) * x r) sum
        least (c.hvQpMin s) fun q => decide ((hevcEst (x r) q : Int) ≤ goal)
      else pic.qp
    let q2 := least 0 fun q => decide (hevcEst (x r) q ≤ alloc - fl)
    ⟨max q q2, alloc, false, false, 0, 0, []⟩

/-- CTU rows in flight in the four row engines (R223). -/
def Engine.rowsInFlight (e : Engine) : Nat :=
  ((List.range 8).map fun s =>
    (((e.hst s).pics.take 1).map fun p => (p.rows.filter fun w => w.ctus ≠ e.cfg.hvCols s).length).foldl (· + ·) 0).foldl (· + ·) 0

/-- A free buffer of an owner. -/
def Engine.freeBuf (e : Engine) (owner : Nat) : Option Nat :=
  (List.range 32).find? fun b =>
    let x := vget e.hevc.pool b PoolBuf.reset
    x.owner = owner ∧ x.mark = .unused

def Engine.modBuf (b : Nat) (f : PoolBuf → PoolBuf) (e : Engine) : Engine :=
  { e with hevc := { e.hevc with pool := vmod e.hevc.pool b f } }

/-- Every SHORT buffer of an owner becomes UNUSED (R227). -/
def Engine.dropShort (owner : Nat) (keep : PoolBuf → Bool) (e : Engine) : Engine :=
  { e with hevc := { e.hevc with pool := e.hevc.pool.map fun (x : PoolBuf) =>
    if x.owner = owner ∧ x.mark = .short ∧ !keep x then { x with mark := .unused } else x } }

/-- Period of a line of a stream's source, in ticks: of its branch's output, or of the aux scaler's (R224; log 155). -/
def Engine.hevcLine (e : Engine) (s : Nat) : Nat :=
  let b := e.cfg.hvSrc s
  if b = 6 then e.cfg.projTicks / max 1 (e.cfg.hvH s)
  else
    let p := e.cfg.brSrc b
    let q := if 4 ≤ e.cfg.cfa && e.cfg.qbMode p = 0 then 2 else 1
    ns (e.cfg.tLine p (e.port p).modeNow) * q * e.cfg.f (Cfg.branchId b) 2 15 0 / max 1 (e.cfg.hvH s)

/-- When R224 requires row r of a picture to be complete: in low-latency mode four CTU row periods after its last line came, else one
picture period and 2 ms after the picture's last line. -/
def Engine.rowDeadline (e : Engine) (s : Nat) (pic : HevcPic) (r : Nat) : Int :=
  if e.cfg.hvLowLat s then
    (pic.arrived : Int) + (256 * e.hevcLine s : Nat) - ((e.cfg.hvH s - 64 * (r + 1)) * e.hevcLine s : Nat)
  else (pic.arrived : Int) + (secs 1 * (e.cfg.hvRate s).2 / max 1 (e.cfg.hvRate s).1 + ms 2 : Nat)

/-- The row of a stream that is ready (R223): the next of its oldest picture, whose lines have come and whose row above has CTU 1
coded; with its deadline. -/
def Engine.rowReady (e : Engine) (s : Nat) : Option Int :=
  match (e.hst s).pics with
  | [] => none
  | pic :: _ =>
    let r := pic.rows.length
    let above := match pic.rows.getLast? with
      | some w => decide (min 2 (e.cfg.hvCols s) ≤ w.ctus)
      | none => true
    if e.cfg.hvRows s ≤ r ∨ !above then none else some (e.rowDeadline s pic r)

/-- The stream whose ready row an engine takes next: of the earliest deadline, of several the lowest (R223). -/
def Engine.hevcTurn (e : Engine) : Option Nat :=
  ((List.range 8).filterMap fun s => (e.rowReady s).map fun d => (d, s)).foldl (fun (m : Option (Int × Nat)) x => match m with
    | some b => if x.1 < b.1 then some x else m
    | none => some x) none |>.map (·.2)

/-- HEVC_ROW_START (R223, R234): an engine takes the next row of the oldest picture of a stream, when it is that stream's turn. -/
def Engine.hevcRowStart (s hdr : Nat) (e : Engine) : Engine :=
  match (e.hst s).pics with
  | [] => e
  | pic :: rest =>
    let r := pic.rows.length
    if e.hevcTurn ≠ some s ∨ 4 ≤ e.rowsInFlight then e
    else
      let (pic, e) :=
        if r = 0 then
          let e := if pic.idr then e.dropShort s fun _ => false else e
          let p := e.hevcBegin s pic hdr
          let e := if pic.first then e.modHst s fun q => { q with fill := e.cfg.hvCpb s * 7 / 8, model := [] } else e
          ({ p with pool := e.freeBuf s }, e)
        else (pic, e)
      let w := e.hevcDecide s pic r
      e.modHst s fun q => { q with pics := { pic with rows := pic.rows ++ [w] } :: rest }

/-- The picture's header bytes are those of its parameter sets, its SEI and its slice header. -/
def execHevcRowStart (t : Nat) (st : Fin 8) (params sei slice : Nat) (s : State) : Out :=
  s.run t fun e => e.whenLive (·.hevcRowStart st (params + sei + slice))

/-- A completed row teaches its model (R236). -/
def Engine.hevcLearn (s : Nat) (idr : Bool) (r : Nat) (w : HevcRow) (e : Engine) : Engine :=
  if w.emerg then e
  else
    let kind := if idr then 0 else 1
    let x := max (64 * e.cfg.hvCols s) (w.bytes * hevcP6.getD (w.q % 6) 0 / 4096 * 2 ^ (w.q / 6))
    e.modHst s fun q => { q with
      model := q.model.filter (fun m => !(m.1 = kind && m.2.1 = r)) ++ [(kind, r, x)] }

/-- The emergency form of CTU (col, row): one 64 x 64 skip CU with merge index 0, or one DC intra CU, and SAO off (R235). -/
def emergCtu (row col : Nat) (intra : Bool) : List HevcCu × Bool :=
  ([⟨64 * col, 64 * row, 64, if intra then .greyDc else .skip⟩], false)

/-- HEVC_CTU_CODE (R225, R230, R235, R238): the next CTU of a row takes the best of its candidates, which are coded at the row's QP.
One whose source read met poison, one that has no candidate the search can choose (log 154), and one that does not fit take their
emergency form, whose size within its bound the manual does not give (log 24). -/
def Engine.hevcCtuCode (s row : Nat) (cands : List HevcCand) (srcPoison refPoison : Bool) (e : Engine) : Engine :=
  match (e.hst s).pics with
  | [] => e
  | pic :: rest =>
    match pic.rows[row]? with
    | none => e
    | some w =>
      if e.cfg.hvCols s ≤ w.ctus then e
      else
        let col := w.ctus
        let intra := e.cfg.hevcIntra s pic col || refPoison
        let best := if srcPoison then none else e.hevcChoose s pic row col refPoison cands
        let fits := match best with
          | some k => decide (w.bytes + k.bytes + e.cfg.emergBound s pic (col + 1) ≤ w.alloc)
          | none => true
        let bound := w.bound || !fits
        let (d, e) := e.draw
        let (size, code) := match bound, best with
          | false, some k => (k.bytes, k.cus, true)
          | _, _ => (Config.unstated 235 d % ((if intra then 16 else 2) + 1), emergCtu row col intra)
        let w' := { w with bound := bound, ctus := col + 1, bytes := w.bytes + size, codes := w.codes ++ [code] }
        let e := if bound && !w.emerg then e.bump .hevcCtuEmerg (hevcSrc s) else e
        let poison := srcPoison || refPoison
        let e := if poison && !pic.poison then e.bump .hevcPoison (hevcSrc s) else e
        let pic' := { pic with rows := pic.rows.set row w', poison := pic.poison || poison }
        let e := e.modHst s fun q => { q with pics := pic' :: rest }
        if w'.ctus = e.cfg.hvCols s then e.hevcLearn s pic.idr row w' else e

def execHevcCtuCode (t : Nat) (st : Fin 8) (row : Nat) (cands : List HevcCand) (poison : CtuPoison) (s : State) : Out :=
  s.run t fun e => e.whenLive (·.hevcCtuCode st row cands poison.source poison.reference)

/-- Every row of a picture is coded. -/
def Cfg.hevcWhole (c : Cfg) (s : Nat) (pic : HevcPic) : Bool :=
  decide (pic.rows.length = c.hvRows s) && pic.rows.all fun w => decide (w.ctus = c.hvCols s)

/-- q_v after a picture (R233). -/
def Engine.hevcQv (e : Engine) (s : Nat) (recent : List (Nat × Nat)) : Nat :=
  let q := (e.hst s).qv
  let mean := sumNat (recent.map (·.2)) / 2
  let b := e.cfg.hvBitrate s
  let within (n : Nat) : Nat := min 51 (max (e.cfg.hvQpMin s) n)
  if 105 * b < 100 * mean then within (q + 1)
  else if 100 * mean < 95 * b then within (q - 1) else q

/-- The network senders of a stream (R333): entries of KIND 4, with a lane of their ports up. -/
def Engine.hevcSenders (e : Engine) (s : Nat) : List Nat :=
  (List.range 16).filter fun n =>
    e.cf 0x006A (24 + 6 * n) 31 31 = 1 && e.cf 0x006A (24 + 6 * n) 30 28 = 4 && e.cf 0x006A (24 + 6 * n) 27 24 = s

/-- The access unit of a coded picture (R215, R221, R231, R232): parameter sets and a buffering period before every IDR and every
picture 0 of a sweep, a recovery point in the latter, and with HASH_EN the picture's hash, whose value is open as the picture is. -/
def Engine.hevcUnit (e : Engine) (s : Nat) (pic : HevcPic) (start bytes filler : Nat) : HevcUnit :=
  let join := pic.idr || pic.sweep = some 0
  { start := start, bytes := bytes, filler := filler, idr := pic.idr, poc := pic.poc
    params := if join then some (e.cfg.hevcParams s) else none
    buffering := if join then some pic.fill else none
    recovery := if pic.sweep = some 0 then some (e.cfg.hvPeriod s - 1, true, false) else none
    hash := if e.cfg.hvHash s then some ((List.range 3).map fun k => Config.unstated 215 ((8 * start + s) * 4 + k) % 65536) else none
    rows := pic.rows }

/-- HEVC_PICTURE_COMPLETE (R222, R227, R231, R232, R233, R237): the oldest picture goes into the ring. up says which network
entries can send now. The reconstruction's samples are open (log 24). -/
def Engine.hevcComplete (s : Nat) (up : Nat → Bool) (e : Engine) : Engine :=
  match (e.hst s).pics with
  | [] => e
  | pic :: rest =>
    if !e.cfg.hevcWhole s pic then e
    else
      let c := e.cfg
      let bytes := pic.hdr + sumNat (pic.rows.map (·.bytes))
      let (rn, rd) := c.hvRate s
      let f : Int := ((e.hst s).fill : Int) - 8 * bytes + ((c.hvMaxrate s * rd / max 1 rn : Nat) : Int)
      let excess := (f - c.hvCpb s).toNat
      let filler := if c.hvMode s = 0 then excess / 8 else 0
      let emerg := pic.rows.any (·.emerg)
      let join := pic.idr || pic.sweep = some 0
      let recent := ((e.now, 8 * bytes) :: (e.hst s).recent).filter fun x => decide (e.now < x.1 + secs 2)
      let qv := e.hevcQv s recent
      let e := if emerg then e.bump .hevcRcEmergency (hevcSrc s) else e
      let e := if emerg && !(e.hst s).emergRun then e.emit (hevcSrc s) .hevcRcEmergency [] else e
      let e := if pic.skip then e.bump .hevcSkipPic (hevcSrc s) else e
      let e := match pic.cfn with
        | some x => e.codecFlags ⟨true, s, x, (if emerg then hvEmergency else 0) + (if pic.skip then hvSkipped else 0) +
            if pic.poison then hvPoison else 0⟩
        | none => e
      -- the reconstruction becomes a reference, and the oldest beyond NREF leave
      let start := (e.hst s).written
      let rec_ := c.streamPic s 227 (8 * start + s)
      let e := match pic.pool with
        | some b => e.modBuf b fun x => { x with
            mark := .short, poc := pic.poc, pic := some rec_, half := pyramid 2 rec_.y, quarter := pyramid 4 rec_.y }
        | none => e
      let e := e.dropShort s fun x => decide ((pic.poc : Int) < x.poc + c.hvNref s)
      let now := start + bytes + filler
      let e := e.modHst s fun q => { q with
        pics := rest, state := if rest.isEmpty then 1 else 2, lastQp := (pic.rows.head?.map (·.q)).getD 0
        sweepK := pic.sweep.getD 0, lastEmerg := emerg, lastBytes := satNat 0xFFFFFFFF (bytes + filler), emergRun := emerg
        fill := (min f (c.hvCpb s)).toNat, qv := qv, recent := recent, lastCosts := pic.costs
        ring := (q.ring ++ [e.hevcUnit s pic start bytes filler]).filter fun u => decide (now ≤ u.start + c.ringBytes)
        written := now, joinAt := if join then start else q.joinAt }
      (e.hevcSenders s).foldl (fun e k =>
        let q := e.hst s
        let p := vget e.hevc.netPos k 0
        let (p, e) := if p + c.ringBytes < q.written then
            (q.joinAt, (e.bump .hevcRingOvf (hevcSrc s)).emit (hevcSrc s) .hevcRingOvf [])
          else (p, e)
        let p := if up k then q.written else p
        { e with hevc := { e.hevc with netPos := vmod e.hevc.netPos k fun _ => p } }) e

/-- A capture run begins: the streams count anew, and their first picture is an IDR (R219, R221). -/
def Engine.hevcRunStart (e : Engine) : Engine :=
  { e with hevc := { e.hevc with streams := e.hevc.streams.map fun (q : HevcStream) =>
    { q with frames := 0, lastSrc := none, lastCosts := [], begun := false, sinceIdr := 0, nextK := 0, pics := [],
             state := if q.state = 0 then 0 else 1 } } }

/-- The pool is given out at a full restart (R226). -/
def Cfg.poolOwners (c : Cfg) : List Nat :=
  let st := ((List.range 8).filter c.hvValid).flatMap fun s => List.replicate (c.hvNref s + 1) s
  let de := (List.range 4).flatMap fun d => List.replicate (c.decBufs d) (8 + d)
  (st ++ de ++ List.replicate 32 15).take 32

/-- The encoder and decoder as a full restart configures them. -/
def Engine.hevcStart (e : Engine) : Engine :=
  if !e.has 0x0041 then { e with hevc := Hevc.reset }
  else
    let own := e.cfg.poolOwners
    let pool := (List.range 32).foldl (fun (v : Vector PoolBuf 32) b =>
      vmod v b fun _ => { PoolBuf.reset with owner := own.getD b 15 }) (Vector.replicate 32 PoolBuf.reset)
    let streams := (List.range 8).foldl (fun (v : Vector HevcStream 8) s =>
      vmod v s fun _ => { HevcStream.reset with state := if e.cfg.hvValid s then 1 else 0 })
      (Vector.replicate 8 HevcStream.reset)
    { e with hevc := { Hevc.reset with pool := pool, streams := streams } }

end Sys2Proof.Machine
end

