-- ==== Sys2Proof/Machine/Record.lean ====
section
/-! DEFINITION. The recorder (ch. 10): the recording set and its rates, the record buffer, chunks and stripe files, drives
that leave the set, and closing. -/

namespace Sys2Proof.Machine

namespace Cfg

/-- RECORD (Table 10.4) and MEDIA (Table 10.2). -/
def recEncrypt (c : Cfg) : Bool := c.b 0x0050 0 31
def recNoHoldup (c : Cfg) : Bool := c.b 0x0050 0 30
def recSetMask (c : Cfg) : Nat := c.f 0x0050 0 29 26
def proxyStream (c : Cfg) : Nat := c.f 0x0050 0 25 23
def reelInit (c : Cfg) : Nat := c.f 0x0050 0 22 13
def minFree (c : Cfg) : Nat := c.f 0x0050 0 12 5
def letter (c : Cfg) (s : Nat) : Nat := c.f 0x0050 (1 + s / 4) (8 * (s % 4) + 7) (8 * (s % 4))
def qualRead (c : Cfg) : Nat := c.f 0x0050 3 31 24
def mediaEn (c : Cfg) (m : Nat) : Bool := c.b 0x0051 m 31
def mediaIoq (c : Cfg) (m : Nat) : Nat := c.f 0x0051 m 27 24
def mediaQd (c : Cfg) (m : Nat) : Nat := 2 ^ c.f 0x0051 m 23 20
/-- Largest transfer, in KiB. -/
def mediaXfer (c : Cfg) (m : Nat) : Nat := 2 ^ c.f 0x0051 m 19 16

/-- Valid FSR streams: the clips of a record start (R257). -/
def fsStreams (c : Cfg) : List Nat := (List.range 8).filter c.fsValid

/-- The HEVC stream with PROXY set (R269). -/
def proxyHevc (c : Cfg) : Option Nat := (List.range 8).find? fun s => c.hvValid s && c.hvProxy s

/-- Phase index of the slot k of a project frame whose first CFN is b. -/
def slotPhase (c : Cfg) (b k : Nat) : Nat := c.phaseOf (cfnAdd b k)

/-- Slots of a cycle that a stream takes, and the slots of the cycle: of the schedule, or of a project frame (R186). -/
def fsSlots (c : Cfg) (s : Nat) : Nat × Nat :=
  let n := if c.schedEn then c.schedLen + 1 else c.phases
  (((List.range n).filter fun k => (c.fsMask s).testBit (c.phaseOf k)).length, n)

/-- Pictures a stream codes each second. -/
def fsPicRate (c : Cfg) (s : Nat) : Rat :=
  let (k, n) := c.fsSlots s
  (c.projRate.1 * c.phases * k : Nat) / (c.projRate.2 * n : Nat)

/-- Flowstone rate of a stream in bytes/s: lossless at 1.8:1 (R34), CBR at its cap (R204); the manual states none for CQ
(log 24). -/
def fsRate (c : Cfg) (s : Nat) : Rat :=
  match c.fsMode s with
  | 0 => (c.fsSites s * c.fsBits s * 10 : Nat) / 144 * c.fsPicRate s
  | 2 => (c.capPages s * 4096 : Nat) * c.fsPicRate s
  | _ => (Config.unstated 39 s : Nat)

/-- Rates of the proxy and the sidecars, carried by the drive at position 0 (R39, R259): the proxy's MAXRATE, whatever its MODE, and
a sidecar's records before compression (DESIGN CHOICE, log 143). -/
def sideRate (c : Cfg) : Rat :=
  let proxy : Rat := match c.proxyHevc with
    | some s => (c.hvMaxrate s : Nat) / 8
    | none => 0
  (c.fsStreams.map fun s => 4096 * c.fsPicRate s).foldl (· + ·) proxy

/-- Columns of stream s that the drive at index k of d drives takes (R259, R261). -/
def colsOn (c : Cfg) (s d k : Nat) : List Nat := (List.range (c.tileCols s)).filter fun x => (x + s) % d = k

/-- Required rate of the drive at index k of d (R259). -/
def driveRate (c : Cfg) (d k : Nat) : Rat :=
  (c.fsStreams.map fun s => ((c.colsOn s d k).length : Rat) / (c.tileCols s : Nat) * c.fsRate s).foldl (· + ·)
    (if k = 0 then c.sideRate else 0)

/-- Rate that R39 holds a drive against: its share counts the most columns that any drive receives. -/
def shareRate (c : Cfg) (d k : Nat) : Rat :=
  (c.fsStreams.map fun s => ((cdiv (c.tileCols s) d : Nat) : Rat) / (c.tileCols s : Nat) * c.fsRate s).foldl (· + ·)
    (if k = 0 then c.sideRate else 0)

end Cfg

/-- The recorder's sources (R277). -/
def mediaSrc (m : Nat) : Nat := 0x0210 + m

def Engine.modRec (f : Recorder → Recorder) (e : Engine) : Engine := { e with rec_ := f e.rec_ }
def Engine.modTake (id : Nat) (f : Take → Take) (e : Engine) : Engine :=
  e.modRec fun r => { r with takes := r.takes.map fun t => if t.id = id then f t else t }

/-- The record start that is being recorded: the newest, while it is not closing. -/
def Engine.recNow (e : Engine) : Option Take := e.rec_.takes.find? fun t => !t.closing

/-- A drive takes part in a record start that is not closing, or in one accepted and pending (R23). -/
def Engine.inSet (e : Engine) (m : Nat) : Bool :=
  e.rec_.takes.any (fun t => !t.closing && t.drives.any fun d => d.port = m && !d.left) ||
    e.sys.pend.any fun p => p.kind = .recStart && p.set.contains m

/-- A drive is still held by clips that close. -/
def Engine.inClosing (e : Engine) (m : Nat) : Bool :=
  e.rec_.takes.any fun t => t.closing && t.drives.any fun d => d.port = m && !d.left

/-- Eligible for a record start (R258): mounted, or held only by clips that close (R272), qualified and in SET_MASK. -/
def Engine.eligible (e : Engine) (m : Nat) : Bool :=
  let q := e.mport m
  (q.state = .mounted || (q.state = .recording && e.inClosing m && !e.inSet m)) && q.qual.isSome &&
    e.cfg.recSetMask.testBit m

/-- The recording set of a record start: every eligible drive, in ascending port order (R258). -/
def Engine.recSet (e : Engine) : List Nat := [0, 1, 2, 3].filter e.eligible

/-- Volumes are read afresh (R251). -/
def Engine.readVolumes (vols : List VolNow) (e : Engine) : Engine :=
  vols.foldl (fun e v => if (e.mport v.port).volume.isSome then
    e.modMedia v.port fun q => { q with free := v.free, folders := v.folders } else e) e

/-- The clip number of a record start under a reel and this device (R257). -/
def Engine.nextClip (e : Engine) (set : List Nat) (reel : Nat) : Nat :=
  let mine (f : ClipFolder) : Bool := f.reel = reel && f.device = e.deviceId
  1 + ((set.flatMap fun m => ((e.mport m).folders.filter mine).map (·.clip)).foldl max 0)

/-- The first bullet of R258 that refuses a record start. -/
def Engine.recordRefusal (ks : KeyStore) (reel : Nat) (clip : Option Nat) (e : Engine) : Option Nat :=
  let set := e.recSet
  let d := set.length
  let n := clip.getD (e.nextClip set reel)
  if set.isEmpty then some 1
  else if (set.mapIdx fun k m => (k, m)).any fun km =>
      decide (((((e.mport km.2).qual.getD 0 * 1000000 : Nat) : Rat)) < 5 / 4 * e.cfg.shareRate d km.1) then some 2
  else if (set.mapIdx fun k m => (k, m)).any fun km =>
      decide (((e.mport km.2).free : Rat) <
        e.cfg.driveRate d km.1 * (10 * e.cfg.minFree : Nat) + (67108864 * e.cfg.fsStreams.length : Nat)) then some 3
  else if e.cfg.recEncrypt && ks.pkey.isNone then some 4
  else if !e.power.holdup.ready && !e.cfg.recNoHoldup then some 5
  else if 9999 < n then some 6
  else none

/-- Decimal digits of a number, as ASCII. -/
def decDigits : (n : Nat) → Nat → List Byte
  | 0, _ => []
  | n + 1, v => decDigits n (v / 10) ++ [BitVec.ofNat 8 (48 + v % 10)]

/-- Upper-case hexadecimal digits of a number, as ASCII. -/
def hexDigits : (n : Nat) → Nat → List Byte
  | 0, _ => []
  | n + 1, v => hexDigits n (v / 16) ++ [BitVec.ofNat 8 (if v % 16 < 10 then 48 + v % 16 else 55 + v % 16)]

/-- The 13 characters of a clip name (R257). -/
def Engine.clipName (e : Engine) (s reel clip : Nat) : List Byte :=
  le 1 (e.cfg.letter s) ++ decDigits 3 reel ++ le 1 67 ++ decDigits 4 clip ++ le 1 95 ++ hexDigits 3 e.deviceId

/-- Bytes of a text, given by its ASCII codes. -/
def chars (s : List Nat) : List Byte := s.map fun c => BitVec.ofNat 8 c

/-- The folder of a clip of stream s (R254). -/
def Engine.clipDir (e : Engine) (s reel clip : Nat) : List Byte :=
  chars [92, 81, 88, 56, 92] ++ le 1 (e.cfg.letter s) ++ decDigits 3 reel ++ chars [95] ++ hexDigits 3 e.deviceId ++ chars [92] ++
    e.clipName s reel clip ++ chars [92]

/-- The path of a clip's stripe file at a position; and of its proxy or sidecar, part k, by their extension (R254, R269, R270). -/
def Engine.stripePath (e : Engine) (s reel clip pos : Nat) : List Byte :=
  e.clipDir s reel clip ++ e.clipName s reel clip ++ chars [95, 83] ++ decDigits 1 pos ++ chars [46, 102, 115, 99]
def Engine.sidePath (e : Engine) (s reel clip part : Nat) (ext : List Byte) : List Byte :=
  e.clipDir s reel clip ++ e.clipName s reel clip ++ (if part = 1 then [] else chars [95] ++ decDigits 1 part) ++ ext

/-- A file of a drive changes; one that is not there yet is made, with its first run of 1 GiB (R254). -/
def Engine.setFile (m : Nat) (path : List Byte) (data : Nat) (e : Engine) : Engine :=
  let put (x : MediaFile) : MediaFile := { x with data := data, valid := data, alloc := max x.alloc (1073741824 * cdiv data 1073741824) }
  let files (l : List MediaFile) : List MediaFile :=
    if l.any fun x => x.path = path then l.map (fun x => if x.path = path then put x else x)
    else l ++ [put ⟨path, 0, 0, 1073741824⟩]
  e.modMedia m fun q => { q with files := files q.files }

/-- A clip key as its 64 bytes, K1 first (R271; log 21). -/
def keyBytes (k : BitVec 512) : List Byte := le 64 k.toNat

/-- The clip header page of a stripe file (Table 10.5). -/
def Engine.clipHeader (e : Engine) (ks : KeyStore) (t : Take) (c : ClipRec) (pos : Nat) : List Byte :=
  let g := e.cfg
  let s := c.stream
  let p := g.fsSrc s
  let start := e.dtbAt (e.slotOf t.first).toNat
  let sn (k : Nat) : List Byte :=
    match t.drives.find? (·.pos = k) with
    | some d => padTo 20 (((e.mport d.port).drive.map (·.serial)).getD [])
    | none => padTo 20 []
  let qparam := if g.fsMode s = 0 then 0 else if g.fsMode s = 1 then g.fsQlevel s else g.fsRatio s
  let enc := c.key.isSome
  let pk := ks.pkey.getD ⟨[], 0⟩
  let b := padTo 4092 (le 4 0x48435346 ++ le 2 1 ++ le 1 pos ++ le 1 t.drives.length ++ padTo 16 c.name ++ le 16 c.uid.toNat ++
    le 2 e.deviceId ++ le 1 s ++ le 1 p ++ le 1 (g.fsTap s) ++ le 1 (g.fsMode s) ++ le 1 qparam ++ le 1 (g.fsMask s) ++
    le 2 (g.cropW p) ++ le 2 (g.cropH p) ++ le 1 g.cfa ++ le 1 (g.fsBits s) ++ le 1 (g.fsConv s) ++ le 1 g.phases ++
    le 4 g.projRate.1 ++ le 4 g.projRate.2 ++ le 4 t.first ++ le 8 (dtbSec start) ++ le 4 (dtbNs start) ++ le 1 g.recCh ++
    le 1 (if g.recCh = 0 then 0 else if g.audFs = 48000 then 1 else 2) ++ le 2 0 ++ le 4 (bit enc) ++
    le 4 (if enc then pk.keyId else 0) ++ le 4 0 ++
    padTo 72 (match c.key with
      | some k => keyWrap pk.value (keyBytes k)
      | none => []) ++ sn 0 ++ sn 1 ++ sn 2 ++ sn 3)
  b ++ le 4 (crc32c b)

/-- The chunk header page (Table 10.6). -/
def Chunk.header (x : Chunk) (uid : BitVec 128) : List Byte :=
  let b := padTo 4088 (le 4 0x4B435346 ++ le 1 x.ty ++ le 1 x.pos ++ le 2 x.flags ++ le 4 x.seq ++
    le 4 (1 + x.body.length / 4096) ++ le 4 x.cfn ++ le 4 x.picNum ++ le 8 uid.toNat ++ le 4 x.mask ++ le 4 x.count ++
    le 4 x.audioBytes ++ le 4 x.prev) ++ le 4 (crc32c x.body)
  b ++ le 4 (crc32c b)

/-- A list of bytes as 4 KiB pages. -/
def pagesList : (fuel : Nat) → List Byte → List (List Byte)
  | 0, _ => []
  | f + 1, bs => if bs.isEmpty then [] else padTo 4096 (bs.take 4096) :: pagesList f (bs.drop 4096)

/-- Each page of a list, from a page number of a file on, through AES-256-XTS or its inverse with its data unit number (R271). -/
def xtsPages (f : List Byte → Nat → List Byte → List Byte) (key : List Byte) (pc page : Nat) (bs : List Byte) : List Byte :=
  ((pagesList (bs.length / 4096 + 1) bs).mapIdx fun i pg => f key (page + i + pc * 2 ^ 56) pg).flatten

/-- Pages from a page number of a file, encrypted as R271 says when the clip has a key. -/
def encPages (key : Option (BitVec 512)) (pc page : Nat) (bs : List Byte) : List Byte :=
  match key with
  | none => bs
  | some k => xtsPages xtsEnc (keyBytes k) pc page bs

/-- The 64-byte header of a sidecar (R270). -/
def sideHeader (name : List Byte) (uid : BitVec 128) (first : Nat) : List Byte :=
  padTo 64 (le 4 0x534D5346 ++ le 2 1 ++ le 2 0 ++ padTo 16 name ++ le 16 uid.toNat ++ le 4 first)

/-- Pages of a picture in the record buffer. -/
def BufPic.pages (b : BufPic) : Nat := b.hdrPages + sumNat (b.cols.map fun c => c.length / 4096)

/-- Pages of the record buffer in use, and its 68 GiB (R36). -/
def Recorder.used (r : Recorder) : Nat := sumNat (r.buffer.map (·.pages))
def bufferPages : Nat := 17825792

/-- Drives of a record start that have not left, in ascending position (R261). -/
def Take.live (t : Take) : List TakeDrive := t.drives.filter (!·.left)

/-- The drive that a column goes to now (R259, R261). -/
def Take.target (t : Take) (s col : Nat) : Option TakeDrive :=
  let l := t.live
  l[(col + s) % max 1 l.length]?

/-- Whether a CFN is the first of its project frame that a stream takes (R266). -/
def Cfg.firstOf (c : Cfg) (s cfn : Nat) : Bool :=
  let k := cfn % c.phases
  (List.range k).all fun j => !(c.fsMask s).testBit (c.slotPhase (cfn - k) j)

/-- Commands a drive takes at one time: what it granted of IOQ queue pairs with 2^QD_LOG2 entries (R246). -/
def MediaPort.depth (q : MediaPort) : Nat := max 1 (q.queues * q.entries)


def Engine.modChunk (id : Nat) (f : Chunk → Chunk) (e : Engine) : Engine :=
  e.modRec fun r => { r with chunks := r.chunks.map fun x => if x.id = id then f x else x }

/-- Largest transfer to a drive in bytes: min(MDTS, 2^XFER_LOG2 KiB) (R247). -/
def Engine.xferBytes (e : Engine) (m : Nat) : Nat :=
  let k := e.cfg.mediaXfer m
  1024 * match (e.mport m).drive with
    | some d => if d.mdtsKiB = 0 then k else min d.mdtsKiB k
    | none => k

/-- The next write of a chunk: a transfer of its body, and once all of those have completed its header page (R268). -/
def Chunk.next (xfer : Nat) (x : Chunk) : Option CmdUse :=
  let n := cdiv x.body.length (max 1 xfer)
  if x.written || x.headSent then none
  else if x.sent < n then some (.body x.id x.sent)
  else if x.got = n then some (.header x.id)
  else none

/-- The writes of a drive's chunks are issued, in chunk order, while the drive takes commands. -/
def Engine.issueWrites (m : Nat) : (fuel : Nat) → Engine → Engine
  | 0, e => e
  | n + 1, e =>
    let xfer := e.xferBytes m
    match (e.rec_.chunks.filter fun x => x.port = m).findSome? (Chunk.next xfer) with
    | some (.body id k) => ((e.putCmds m [.body id k] []).modChunk id fun x => { x with sent := k + 1 }).issueWrites m n
    | some (.header id) => ((e.putCmds m [.header id] []).modChunk id fun x => { x with headSent := true }).issueWrites m n
    | _ => e

/-- A drive's writes go on while its namespace holds no dirty data (R287) and no reset is under way (R249). -/
def Engine.recIssue (e : Engine) (m : Nat) : Engine :=
  let q := e.mport m
  if q.resetting || e.epHolds m || e.rec_.flushStop then e else e.issueWrites m (q.depth - q.cmds.length)

/-- A Flush for the chunks that have been written and are not durable (R260). -/
def Engine.recFlush (m : Nat) (e : Engine) : Engine :=
  e.putCmds m [.flush] ((e.rec_.chunks.filter fun x => x.port = m && x.written && !x.durable).map (·.id))

/-- A chunk is laid out at the end of its stripe file, and its clusters are taken (R263, R265). -/
def Engine.layChunk (t s pos port ty flags cfn picNum mask count audio : Nat) (body : List Byte) (e : Engine) : Engine :=
  match (e.rec_.takes.find? (·.id = t)).bind fun tk => (tk.clips.find? (·.stream = s)).bind fun c =>
      (c.files.find? (·.pos = pos)).map fun f => (c, f) with
  | none => e
  | some (c, f) =>
    let flags := flags + bit c.key.isSome
    let x : Chunk := {
      id := e.rec_.nextChunk, take := t, stream := s, port := port, pos := pos, ty := ty, flags := flags
      seq := f.nextSeq, page := f.nextPage, cfn := cfn, picNum := picNum, mask := mask, count := count, audioBytes := audio
      prev := f.prevPage, body := encPages c.key pos (f.nextPage + 1) body, sent := 0, got := 0, headSent := false
      written := false, durable := false }
    let pages := 1 + body.length / 4096
    let entry : List (Nat × IndexEntry) := if ty = 1 then [(x.id, ⟨cfn, f.nextPage, pages, mask⟩)] else []
    let e := e.modTake t fun tk => { tk with clips := tk.clips.map fun c => if c.stream = s then { c with
      files := c.files.map fun g => if g.pos = pos then { g with
        nextPage := g.nextPage + pages, nextSeq := g.nextSeq + 1, prevPage := g.nextPage, entries := g.entries ++ entry
        final := g.final || decide (ty = 3) } else g } else c }
    let e := e.modRec fun r => { r with chunks := r.chunks ++ [x], nextChunk := r.nextChunk + 1 }
    e.modMedia port fun q => { q with free := q.free - 4096 * pages }

/-- Body of an INDEX or FINAL chunk (R267). -/
def indexBody (es : List IndexEntry) : List Byte :=
  padPages (es.flatMap fun x => le 4 x.cfn ++ le 4 x.page ++ le 4 x.pages ++ le 4 x.mask)

/-- The metadata record of a frame, once it has been emitted (R266, R489). -/
def Engine.recordOf (e : Engine) (p c : Nat) : Option (List Byte) :=
  (e.md.sent.find? fun r => r.port = p && r.cfn = c).map (·.bytes)

/-- What a picture's FRAME chunks need beside its pages: its metadata record, and its audio block when it carries one
(R266). -/
def Engine.picParts (e : Engine) (b : BufPic) : Option (List Byte × List Byte) :=
  match e.recordOf (e.cfg.fsSrc b.stream) b.cfn with
  | none => none
  | some md =>
    if !b.audio then some (md, [])
    else match e.aud.done.find? fun x => decide (0 ≤ cfnDiff b.cfn x.base ∧ cfnDiff b.cfn x.base < e.cfg.phases) with
      | some blk => some (md, blk.bytes)
      | none => none

/-- Bit mask of some columns. -/
def maskOf (cols : List Nat) : Nat := sumNat (cols.map fun c => 2 ^ c)

/-- Body and count of a FRAME chunk for some columns (R266). -/
def frameBody (b : BufPic) (md audio : List Byte) (cols : List Nat) : List Byte × Nat :=
  let pays := cols.flatMap fun c => b.cols.getD c []
  (md ++ b.head ++ pays ++ padPages audio, b.hdrPages + pays.length / 4096)

/-- A FRAME chunk of a picture for some columns on one drive. -/
def Engine.layFrame (b : BufPic) (md audio : List Byte) (cols : List Nat) (restripe : Bool) (d : TakeDrive) (e : Engine) :
    Engine :=
  let (body, count) := frameBody b md audio cols
  let flags := 2 * bit restripe + 4 * bit b.poison + 8 * bit b.audio
  e.layChunk b.take b.stream d.pos d.port 1 flags b.cfn b.picNum (maskOf cols) count audio.length body

/-- Open files of a record start on the drive at a position (R258, R261). -/
def Take.openFiles (t : Take) (d : TakeDrive) : Nat :=
  t.clips.length + (if (t.live.head?.map (·.pos)) = some d.pos then 1 + t.clips.length else 0)

/-- A drive is full for a chunk of some pages (R261). -/
def Engine.driveFull (e : Engine) (t : Take) (d : TakeDrive) (pages : Nat) : Bool :=
  decide ((e.mport d.port).free < 4096 * pages + 67108864 * t.openFiles d)

/-- The picture of the record buffer that a chunk belongs to. -/
def Engine.picOf (e : Engine) (x : Chunk) : Option BufPic :=
  e.rec_.buffer.find? fun b => b.take = x.take && b.stream = x.stream && b.cfn = x.cfn

/-- Columns of a mask. -/
def colsIn (n mask : Nat) : List Nat := (List.range n).filter (mask.testBit ·)

/-- The bytes of the proxy file that its units take. -/
def ProxyRec.bytes (p : ProxyRec) : Nat :=
  sumNat (p.frag.map fun x => x.2.bytes + x.2.filler) + sumNat (p.boxes.map fun b => match b with
    | .mdat us => sumNat (us.map fun u => u.bytes + u.filler)
    | _ => 0)

/-- A proxy file's gathered fragment goes into it as one moof and mdat pair; only IDR pictures are sync samples (R269). -/
def ProxyRec.cut (p : ProxyRec) : ProxyRec :=
  if p.frag.isEmpty then p
  else { p with
    boxes := p.boxes ++ [.moof (p.boxes.length / 2) (p.frag.map fun x => (x.1, x.2.bytes + x.2.filler, x.2.idr)), .mdat (p.frag.map (·.2))]
    frag := [] }

/-- A proxy file closes normally: its last fragment, mfra, and padding where it is encrypted (R269, R271). -/
def ProxyRec.close (enc : Bool) (p : ProxyRec) : ProxyRec :=
  if p.closed then p
  else
    let q := p.cut
    let entry (x : Mp4Box × Nat) : Option (Nat × Nat) := match x.1 with
      | .moof _ ss => some ((ss.head?.map (·.1)).getD 0, x.2)
      | _ => none
    { q with boxes := q.boxes ++ [.mfra (q.boxes.zipIdx.filterMap entry)] ++ (if enc then [.free] else []), closed := true }

/-- The number of a DEFLATE stream that no sidecar uses: the lowest (DESIGN CHOICE, log 157). -/
def Engine.freeSide (e : Engine) : Nat :=
  let used := e.rec_.takes.flatMap fun t => t.clips.flatMap fun c => (c.sides.filter (!·.done)).map (·.stream)
  ((List.range 16).find? fun k => !used.contains k).getD 0

/-- A sidecar begins on the drive that is lowest in position (R270). -/
def Engine.sideBegin (t : Nat) (s part : Nat) (e : Engine) : Engine :=
  let k := e.freeSide
  e.modTake t fun tk => { tk with clips := tk.clips.map fun c => if c.stream = s then { c with
    sides := c.sides ++ [⟨part, k, sideHeader c.name c.uid tk.first, [], false, [], [], false⟩] } else c }

/-- The newest file of a clip's sidecar changes. -/
def ClipRec.modSide (f : SideFile → SideFile) (c : ClipRec) : ClipRec :=
  match c.sides.reverse with
  | [] => c
  | x :: r => { c with sides := (f x :: r).reverse }

/-- FINAL chunks of a record start on one drive, up to its last CFN (R267, R272). -/
def Engine.layFinals (id : Nat) (d : TakeDrive) (e : Engine) : Engine :=
  match e.rec_.takes.find? (·.id = id) with
  | none => e
  | some t =>
    t.clips.foldl (fun e c =>
      match c.files.find? (·.pos = d.pos) with
      | none => e
      | some f =>
        if f.final then e
        else
          let es := (f.entries.map (·.2)).filter fun x => match t.last with
            | some l => decide (cfnDiff x.cfn l ≤ 0)
            | none => true
          e.layChunk id c.stream d.pos d.port 3 0 ((es.getLast?.map (·.cfn)).getD 0) 0 0 es.length 0 (indexBody es)) e

/-- Whether every chunk of a picture is written, and no part of it is still to be laid out. -/
def Engine.picWritten (e : Engine) (t : Take) (s c : Nat) : Bool :=
  t.entered.contains (s, c) &&
    !e.rec_.buffer.any (fun b => b.take = t.id && b.stream = s && b.cfn = c && !b.started) &&
    !e.rec_.chunks.any fun x => x.take = t.id && x.stream = s && x.cfn = c && x.ty = 1 && !x.written

/-- Every CFN of the project frame that begins at b has all its pictures written (R273). -/
def Engine.frameWritten (e : Engine) (t : Take) (b : Nat) : Bool :=
  (List.range e.cfg.phases).all fun j => t.clips.all fun c =>
    !(e.cfg.fsMask c.stream).testBit (e.cfg.slotPhase b j) || e.picWritten t c.stream (cfnAdd b j)

/-- Last CFN of the last whole project frame of a record start that is written whole (R273); the CFN before its first where
there is none. -/
def Engine.lastWritten (e : Engine) (t : Take) : Nat :=
  let n := e.cfg.phases
  let bases := (t.entered.map fun x => x.2 - x.2 % n).filter fun b => decide (0 ≤ cfnDiff b t.first) && e.frameWritten t b
  match bases.foldl (fun (a : Option Nat) b => match a with
      | none => some b
      | some c => if cfnDiff c b < 0 then some b else a) none with
  | some b => cfnAdd b ((n : Int) - 1)
  | none => cfnAdd t.first (-1)

/-- The clip of a record start ends at a CFN earlier than the record stop's: pictures beyond it are not written (R13). -/
def Engine.recEnd (id last how : Nat) (e : Engine) : Engine :=
  let e := e.modTake id fun t => { t with
    last := match t.last with
      | some l => some (if cfnDiff last l < 0 then last else l)
      | none => some last
    closing := true, how := if t.closing then t.how else how }
  let e := e.modRec fun r => { r with
    lastCfn := last, buffer := r.buffer.filter fun b => b.take ≠ id || b.started || decide (cfnDiff b.cfn last ≤ 0) }
  e

/-- The engine returns to PREVIEW on its own at the next project frame boundary (R20): it stands in place of a pending
record stop. -/
def Engine.recReturn (e : Engine) : Engine :=
  if e.sys.mode ≠ .record then e
  else
    let p : PendMode := ⟨.recStop, .preview, false, e.now, none, false, none, 0, 0, false, [], 0, none, true⟩
    { e with sys := { e.sys with pend := p :: e.sys.pend.filter fun q => q.kind ≠ .recStop } }

/-- The proxy and the sidecars of a record start move from the drive they were on to the one that is then lowest in position; a full
drive still closes what it holds (R261, R269, R270). -/
def Engine.leadMoves (id : Nat) (full : Bool) (e : Engine) : Engine :=
  let end_ (c : ClipRec) : ClipRec :=
    if full then c.modSide (fun x => { x with ended := true }) else { c with sides := c.sides.dropLast }
  let e := e.modTake id fun t =>
    let enc := t.clips.any fun c => c.stream = e.cfg.proxyStream && c.key.isSome
    { t with
      proxyOld := t.proxyOld ++ [if full then t.proxy.close enc else t.proxy]
      proxy := ⟨t.proxy.part + 1, 0, [], [], false, t.proxy.taken⟩, clips := t.clips.map end_ }
  match e.rec_.takes.find? (·.id = id) with
  | none => e
  | some t =>
    if t.live.isEmpty then e
    else
      let e := t.clips.foldl (fun e c => e.sideBegin id c.stream t.proxy.part) e
      match e.cfg.proxyHevc with
      | some s => if t.closing then e else e.modHst s fun q => { q with idrFrom := e.frameNow }
      | none => e

/-- A drive leaves the recording sets it serves (R261); full says why. Columns it had not made durable wait to be restriped. When the
last has left, R20 applies. -/
def Engine.recLeave (m : Nat) (full : Bool) (e : Engine) : Engine :=
  let mine := e.rec_.takes.filter fun t => t.drives.any fun d => d.port = m && !d.left
  mine.foldl (fun e t0 =>
    match t0.drives.find? (·.port = m) with
    | none => e
    | some d =>
      let e := if full then e.emit (mediaSrc m) .mediaFull [] else e.emit 0x0200 .recRestripe []
      let e := e.bump .recRestripe 0x0200
      let lead := (t0.live.head?.map (·.pos)) = some d.pos
      let e := e.modTake t0.id fun t => { t with
        drives := t.drives.map fun x => if x.port = m then { x with left := true } else x }
      let t := (e.rec_.takes.find? (·.id = t0.id)).getD t0
      let lost := e.rec_.chunks.filter fun x => x.take = t.id && x.port = m && x.ty = 1 && !x.durable && x.mask ≠ 0
      let e := if t.live.isEmpty then e.modRec fun r => { r with moves := r.moves.filter (·.take ≠ t.id) }
        else e.modRec fun r => { r with moves := r.moves ++ lost.map fun x => ⟨x.take, x.stream, x.cfn, x.mask⟩ }
      let e := if full then e.layFinals t.id { d with left := true }
        else e.modRec fun r => { r with chunks := r.chunks.filter fun x => !(x.take = t.id && x.port = m) }
      let e := if lead then e.leadMoves t.id full else e
      if t.live.isEmpty then (e.recEnd t.id (e.lastWritten t) 2).recReturn else e) e

/-- Columns that wait go to the drives that the new assignment gives them, in extra FRAME chunks; a drive that such a chunk would find
full leaves first (R261). -/
def Engine.recMoves : (fuel : Nat) → Engine → Engine
  | 0, e => e
  | n + 1, e =>
    match e.rec_.moves with
    | [] => e
    | x :: rest =>
      let gone := e.modRec fun r => { r with moves := rest }
      match e.rec_.takes.find? (·.id = x.take),
          e.rec_.buffer.find? fun b => b.take = x.take && b.stream = x.stream && b.cfn = x.cfn with
      | some t, some b =>
        match e.picParts b with
        | none => gone.recMoves n
        | some (md, audio) =>
          let cols (d : TakeDrive) : List Nat := (colsIn 32 x.mask).filter fun c => (t.target b.stream c).map (·.pos) = some d.pos
          let ds := t.live.filter fun d => !(cols d).isEmpty
          match ds.find? fun d => e.driveFull t d (1 + (frameBody b md audio (cols d)).1.length / 4096) with
          | some d => (e.recLeave d.port true).recMoves n
          | none => (ds.foldl (fun e d => e.layFrame b md audio (cols d) true d) gone).recMoves n
      | _, _ => gone.recMoves n

/-- The pages of pictures whose every chunk is durable are released, and chunks that nothing waits for are done (R260). -/
def Engine.recRelease (e : Engine) : Engine :=
  let onLive (x : Chunk) : Bool := e.rec_.takes.any fun t => t.id = x.take && t.drives.any fun d => d.port = x.port && !d.left
  let moves (b : BufPic) : Bool := e.rec_.moves.any fun x => x.take = b.take && x.stream = b.stream && x.cfn = b.cfn
  let done (b : BufPic) : Bool := b.started && !moves b && e.rec_.chunks.all fun x =>
    !(x.take = b.take && x.stream = b.stream && x.cfn = b.cfn && x.ty = 1 && onLive x) || x.durable
  let e := e.modRec fun r => { r with buffer := r.buffer.filter (!done ·) }
  e.modRec fun r => { r with chunks := r.chunks.filter fun x => !x.durable || (x.ty = 1 && (e.picOf x).isSome) }

/-- Chunks that become durable (R260). -/
def Engine.chunksDurable (ids : List Nat) (e : Engine) : Engine :=
  let f (x : Chunk) : Chunk := if ids.contains x.id && x.written then { x with durable := true } else x
  e.modRec fun r => { r with chunks := r.chunks.map f }

/-- The INDEX chunks of a drive: for each file with FRAME chunks made durable since its previous one (R267, R268). A drive that one
would find full leaves instead (R261). On the drive lowest in position they are flush points of the sidecars (R270). -/
def Engine.layIndexes (m : Nat) (e : Engine) : Engine :=
  e.rec_.takes.foldl (fun e t =>
    match t.drives.find? (·.port = m) with
    | none => e
    | some d =>
      let lead := (t.live.head?.map (·.pos)) = some d.pos
      t.clips.foldl (fun e c =>
        match c.files.find? (·.pos = d.pos) with
        | none => e
        | some f =>
          let isNew (x : Nat × IndexEntry) : Bool :=
            !f.listed.contains x.1 && !e.rec_.chunks.any fun k => k.id = x.1 && !k.durable
          let fresh := f.entries.filter isNew
          let es := fresh.map (·.2)
          let left := e.rec_.takes.any fun k => k.id = t.id && k.drives.any fun x => x.port = m && x.left
          if left || f.final || fresh.isEmpty then e
          else if e.driveFull t d (1 + (indexBody es).length / 4096) then e.recLeave m true
          else
            let mark (k : ClipRec) : ClipRec :=
              if lead then k.modSide (fun x => if x.todo.isEmpty then x
                else { x with marks := (x.marks.filter (· ≠ x.todo.length)) ++ [x.todo.length] }) else k
            let e := e.modTake t.id fun tk => { tk with clips := tk.clips.map fun k => if k.stream = c.stream then mark { k with
              files := k.files.map fun g => if g.pos = d.pos then { g with listed := g.listed ++ fresh.map (·.1) } else g } else k }
            e.layChunk t.id c.stream d.pos d.port 2 0 ((es.getLast?.map (·.cfn)).getD 0) 0 0 es.length 0 (indexBody es)) e) e

/-- The drives that a picture would find full leave first (R261). -/
def Engine.fullLeave (b : BufPic) (md audio : List Byte) : (fuel : Nat) → Engine → Engine
  | 0, e => e
  | f + 1, e =>
    match e.rec_.takes.find? (·.id = b.take) with
    | none => e
    | some t =>
      let pages (d : TakeDrive) : Nat :=
        1 + (frameBody b md audio ((List.range b.cols.length).filter fun c =>
          (t.target b.stream c).map (·.pos) = some d.pos)).1.length / 4096
      match t.live.find? fun d => e.driveFull t d (pages d) with
      | none => e
      | some d => (e.recLeave d.port true).fullLeave b md audio f

/-- No picture of a record start for a frame up to l is still to come: no stream codes one, and no port owes, receives or has yet
to trigger one (log 140). -/
def Engine.noneComing (e : Engine) (t : Take) (l : Nat) : Bool :=
  let upTo (c : Nat) : Bool := decide (cfnDiff c l ≤ 0)
  t.clips.all fun c =>
    let q := e.port (e.cfg.fsSrc c.stream)
    !(e.stream c.stream).pics.any (fun x => upTo x.cfn) && !q.owed.any upTo && !(q.frame.bind (·.cfn)).any upTo &&
      !(e.proj.run && q.joined && upTo q.nextTrig)

/-- The whole project frame of a picture is in the buffer: what does not fit whole is never written (R13). -/
def Engine.frameEntered (e : Engine) (b : BufPic) : Bool :=
  match e.rec_.takes.find? (·.id = b.take) with
  | none => true
  | some t =>
    let last := cfnAdd (b.cfn - b.cfn % e.cfg.phases) ((e.cfg.phases : Int) - 1)
    e.noneComing t (match t.last with
      | some l => if cfnDiff l last < 0 then l else last
      | none => last)

/-- The pictures of the record buffer that are ready are started: a FRAME chunk of each goes to every drive (R259, R268).
The streams given wait for an earlier picture. -/
def Engine.recStarts : List BufPic → (wait : List (Nat × Nat)) → Engine → Engine
  | [], _, e => e
  | b :: r, wait, e =>
    if b.started || !e.rec_.buffer.contains b then e.recStarts r wait
    else if wait.contains (b.take, b.stream) then e.recStarts r wait
    else if !e.frameEntered b then e.recStarts r ((b.take, b.stream) :: wait)
    else
      match e.picParts b with
      | none => e.recStarts r ((b.take, b.stream) :: wait)
      | some (md, audio) =>
        let e := e.fullLeave b md audio 4
        match e.rec_.takes.find? (·.id = b.take) with
        | none => e.recStarts r wait
        | some t =>
          let e := t.live.foldl (fun e d =>
            e.layFrame b md audio ((List.range b.cols.length).filter fun c =>
              (t.target b.stream c).map (·.pos) = some d.pos) false d) e
          let e := e.modRec fun q => { q with
            buffer := q.buffer.map fun x => if x = b then { x with started := true } else x }
          let put (c : ClipRec) : ClipRec :=
            if c.stream = b.stream then c.modSide (fun x => if x.ended then x else { x with todo := x.todo ++ md }) else c
          let e := e.modTake t.id fun tk => { tk with clips := tk.clips.map put }
          e.recStarts r wait

/-- No more pictures of a record start can come: none of its streams codes one, nor its proxy, and no port owes a frame of it. -/
def Engine.recSettled (e : Engine) (t : Take) : Bool :=
  match t.last with
  | none => false
  | some l =>
    let upTo (c : Nat) : Bool := decide (cfnDiff c l ≤ 0)
    let proxy := match e.cfg.proxyHevc with
      | some s => (e.hst s).pics.any fun x => x.cfn.any upTo
      | none => false
    !proxy && t.clips.all fun c =>
      let q := e.port (e.cfg.fsSrc c.stream)
      !(e.stream c.stream).pics.any (fun x => upTo x.cfn) && !q.owed.any upTo &&
        !(q.frame.bind (·.cfn)).any upTo

/-- Chunks and pictures of a record start are all on the drives. -/
def Engine.recDrained (e : Engine) (t : Take) : Bool :=
  e.recSettled t && !e.rec_.buffer.any (·.take = t.id) && !e.rec_.chunks.any fun x => x.take = t.id && !x.durable

/-- Every file of a record start is whole and durable: its FINAL chunks, and the sidecars with their Adler-32 (R270, R272). -/
def Engine.recClosed (e : Engine) (t : Take) : Bool :=
  t.closing && e.recDrained t && (t.live.isEmpty || t.clips.all fun c => c.sides.all (·.done)) &&
    t.live.all fun d => t.clips.all fun c => c.files.all fun f => f.pos ≠ d.pos || f.final

/-- Closing goes on (R272): the FINAL chunks once everything before them is durable, the proxy's mfra, and the end of the sidecars. -/
def Engine.recCloses (e : Engine) : Engine :=
  e.rec_.takes.foldl (fun e t =>
    if t.closing && e.recDrained t && !e.recClosed t then
      let e := t.live.foldl (fun e d => e.layFinals t.id d) e
      e.modTake t.id fun t => { t with
        proxy := t.proxy.close (t.clips.any fun c => c.stream = e.cfg.proxyStream && c.key.isSome)
        clips := t.clips.map fun c => c.modSide fun x => { x with ended := true } }
    else e) e

/-- A drive with clips that close, or that has left full, has everything written and something not durable: it is flushed (R261,
R272). -/
def Engine.closeFlush (e : Engine) (m : Nat) : Engine :=
  let mine := e.rec_.chunks.filter (·.port = m)
  let left := e.rec_.takes.any fun t => t.drives.any fun d => d.port = m && d.left
  if (e.inClosing m || left) && mine.all (·.written) && mine.any (!·.durable) && !(e.mport m).cmds.any (·.use = .flush) then
    e.recFlush m
  else e

/-- Everything of the recorder that can go on now. -/
def Engine.recPump (e : Engine) : Engine :=
  if e.rec_.takes.isEmpty || e.rec_.flushStop then e
  else
    let e := e.recMoves (5 * (e.rec_.chunks.length + e.rec_.moves.length) + 8)
    let e := e.recStarts e.rec_.buffer []
    let e := e.recMoves (5 * (e.rec_.chunks.length + e.rec_.moves.length) + 8)
    let e := e.recRelease.recCloses
    let e := [0, 1, 2, 3].foldl Engine.recIssue e
    [0, 1, 2, 3].foldl Engine.closeFlush e

/-- A record start takes effect: one clip for every valid stream, with a fresh UID and, with ENCRYPT, a fresh key (R257,
R264, R271). -/
def Engine.recBegin (ks : KeyStore) (first : Nat) (p : PendMode) (e : Engine) : Engine :=
  let set := p.set.filter fun m => (e.mport m).state = .recording || (e.mport m).state = .mounted
  let clip := p.clip.getD (e.nextClip set p.reel)
  let mk (acc : List ClipRec × Engine) (s : Nat) : List ClipRec × Engine :=
    let (k, e) := acc.2.draw
    let (k', e) := e.draw
    let name := e.clipName s p.reel clip
    let uid := Config.clipUid k
    let c : ClipRec := {
      stream := s, name := name, uid := uid, key := if e.cfg.recEncrypt then some (Config.clipKey k') else none
      files := set.mapIdx (fun i _ => (⟨i, [], 1, 0, 0, [], [], false⟩ : StripeFile)), sides := [] }
    (acc.1 ++ [c], e)
  let (clips, e) := e.cfg.fsStreams.foldl mk ([], e)
  let t0 : Take := {
    id := e.rec_.nextTake, reel := p.reel, clip := clip, first := first, last := none
    drives := set.mapIdx (fun i m => (⟨i, m, false⟩ : TakeDrive)), clips := clips, proxy := ⟨1, 0, [], [], false, 0⟩
    proxyOld := [], closing := false, how := 0, entered := [] }
  let headed (c : ClipRec) : ClipRec :=
    { c with files := c.files.map fun f => { f with header := e.clipHeader ks t0 c f.pos } }
  let t : Take := { t0 with clips := clips.map headed }
  let e := e.modRec fun r => { r with takes := r.takes ++ [t], nextTake := r.nextTake + 1, clip := clip, frames := 0 }
  let e := set.foldl (fun e m => e.modMedia m fun q => { q with
    state := .recording, resetInClip := false
    folders := q.folders ++ clips.map fun c => (⟨e.cfg.letter c.stream, p.reel, e.deviceId, clip⟩ : ClipFolder)
    free := q.free - 4096 * clips.length }) e
  let e := t.drives.foldl (fun e d =>
    clips.foldl (fun e c => e.setFile d.port (e.stripePath c.stream p.reel clip d.pos) 4096) e) e
  let e := if set.isEmpty then e else clips.foldl (fun e c => e.sideBegin t.id c.stream 1) e
  match e.cfg.proxyHevc with
  | some s => e.modHst s fun q => { q with idrFrom := some first }
  | none => e

/-- A record stop takes effect (R18, R272): frame c is the first not recorded. -/
def Engine.recStopAt (c : Nat) (e : Engine) : Engine :=
  match e.recNow with
  | none => e
  | some t => (e.modTake t.id fun t => { t with last := some (cfnAdd c (-1)), closing := true }).modRec fun r => { r with
      lastCfn := cfnAdd c (-1) }

/-- The record start that takes a picture of a stream, if one does (R13, R257, R272). -/
def Engine.takeFor (e : Engine) (s c : Nat) : Option Take :=
  if e.rec_.powerStop then none
  else e.rec_.takes.find? fun t =>
    decide (0 ≤ cfnDiff c t.first) && t.clips.any (fun x => x.stream = s) && (match t.last with
      | some l => decide (cfnDiff c l ≤ 0)
      | none => true)

/-- The record buffer has no room: the clip ends at the last whole project frame that fits (R13). -/
def Engine.bufferFull (t : Take) (c : Nat) (e : Engine) : Engine :=
  let e := if t.how = 1 then e else (e.bump .recBufferFull 0x0200).emit 0x0200 .recBufferFull []
  (e.recEnd t.id (cfnAdd (c - c % e.cfg.phases) (-1)) 1).recReturn

/-- A coded picture enters the record buffer, or the clip ends for want of room (R13, R203, R259). -/
def Engine.recEnter (s num : Nat) (pic : FsrPic) (e : Engine) : Engine :=
  match e.takeFor s pic.cfn with
  | none => e
  | some t =>
    let pages := e.cfg.picPages s pic
    if bufferPages < e.rec_.used + pages then e.bufferFull t pic.cfn
    else
      let hdr := e.cfg.hdrPages s
      let ts := pic.ordered
      let b : BufPic := {
        take := t.id, stream := s, cfn := pic.cfn, picNum := num, hdrPages := hdr
        head := (e.picBytes s pic num).take (4096 * hdr)
        cols := (List.range (e.cfg.tileCols s)).map fun c => (ts.filter (·.col = c)).flatMap fun x => padPages x.bytes
        audio := decide (0 < e.cfg.recCh) && e.cfg.firstOf s pic.cfn, poison := false, started := false }
      let seen := t.entered.any (·.2 = pic.cfn)
      let e := e.modTake t.id fun t => { t with entered := (s, pic.cfn) :: t.entered }
      e.modRec fun r => { r with
        buffer := r.buffer ++ [b], lastCfn := if t.closing then r.lastCfn else pic.cfn
        frames := if seen || t.closing then r.frames else r.frames + 1 }

/-- FSR_PICTURE_COMPLETE (R13, R200, R203, R259). -/
def Engine.fsrPictureComplete (s : Nat) (e : Engine) : Engine :=
  match e.fsrTake s with
  | none => e
  | some (pic, num, e) =>
    ((e.codecFlags ⟨false, s, pic.cfn, pic.flags⟩).recEnter s num pic).recPump

def execFsrPictureComplete (t : Nat) (st : Fin 8) (s : State) : Out :=
  s.run t fun e => e.whenLive (·.fsrPictureComplete st)

/-- The record start whose proxy takes a picture: the one that its frame belongs to (R18, R269). -/
def Engine.proxyFor (e : Engine) (pic : HevcPic) : Option Take :=
  match pic.cfn with
  | none => e.recNow
  | some c => e.rec_.takes.find? fun t => decide (0 ≤ cfnDiff c t.first) && (match t.last with
      | some l => decide (cfnDiff c l ≤ 0)
      | none => true)

/-- A picture joins the proxy file (R269): its first pictures make ftyp and moov, and a fragment begins at the first access point 1 s
or more after the one before it began. -/
def ProxyRec.add (p : ProxyRec) (w h dt : Nat) (u : HevcUnit) : ProxyRec :=
  let p := if p.pics = 0 then { p with boxes :=
    [.ftyp (chars [105, 115, 111, 54]) [chars [105, 115, 111, 54], chars [109, 112, 52, 49]], .moov (chars [104, 101, 118, 49]) 90000 w h] } else p
  let began := (p.frag.head?.map (·.1)).getD dt
  let p := if u.params.isSome && decide (began + 90000 ≤ dt) then p.cut else p
  { p with pics := p.pics + 1, frag := p.frag ++ [(dt, u)] }

/-- The proxy's consumer takes what its stream has coded, or the clip ends when it falls a ring behind (R237, R269). -/
def Engine.proxyTake (s : Nat) (before : Nat) (pic : HevcPic) (e : Engine) : Engine :=
  match e.proxyFor pic, (e.hst s).ring.getLast? with
  | some t, some u =>
    if !e.cfg.hvProxy s || e.rec_.powerStop || t.proxy.closed then e
    else
      let q := e.hst s
      let port := (t.live.head?.map (·.port)).getD 0
      if t.proxy.pics = 0 && !pic.forProxy then
        e.modTake t.id fun t => { t with proxy := { t.proxy with taken := q.written } }
      else if t.proxy.taken + e.cfg.ringBytes < q.written then e.bufferFull t (pic.cfn.getD t.first)
      else
        let stall := e.epHolds port || (e.mport port).resetting
        let (n, d) := e.cfg.hvRate s
        let dt := t.proxy.pics * 90000 * d / max 1 n
        let e := e.modTake t.id fun t => { t with proxy := { t.proxy.add (e.cfg.hvW s) (e.cfg.hvH s) dt u with
          taken := if stall then t.proxy.taken else q.written } }
        e.modMedia port fun m => { m with free := m.free - (q.written - before) }
  | _, _ => e

/-- REC_FLUSH_TICK (R268): a Flush to every drive of the set. -/
def Engine.recFlushTick (e : Engine) : Engine :=
  if e.rec_.flushStop then e
  else [0, 1, 2, 3].foldl (fun e m =>
    let owes := e.rec_.chunks.any fun x => x.port = m && x.written && !x.durable
    if e.rec_.takes.any fun t => t.drives.any fun d => d.port = m && (!d.left || owes) then e.recFlush m else e) e

def execRecFlushTick (t : Nat) (s : State) : Out := s.run t fun e => e.whenLive (·.recFlushTick)

/-- CHUNK_DURABLE (R260, R267): a written chunk is durable; pages are released and the INDEX chunks are written. -/
def Engine.chunkDurable (m id : Nat) (e : Engine) : Engine :=
  if e.rec_.chunks.any fun x => x.id = id && x.port = m && x.written then
    ((e.chunksDurable [id]).layIndexes m).recPump
  else e

/-- Files of a record start on a drive get their lengths at the end of a chunk that is an index (R254, R272). -/
def Engine.fileEnd (x : Chunk) (e : Engine) : Engine :=
  match e.rec_.takes.find? (·.id = x.take) with
  | none => e
  | some t =>
    let e := e.setFile x.port (e.stripePath x.stream t.reel t.clip x.pos) (4096 * (x.page + 1 + x.body.length / 4096))
    if (t.live.head?.map (·.pos)) ≠ some x.pos then e
    else
      let side := (t.clips.find? (·.stream = x.stream)).bind fun c => c.sides.getLast?
      let e := match side with
        | some f => e.setFile x.port (e.sidePath x.stream t.reel t.clip f.part (chars [46, 102, 115, 109])) f.out.length
        | none => e
      if x.stream = e.cfg.proxyStream && e.cfg.proxyHevc.isSome && t.proxy.pics ≠ 0 then
        e.setFile x.port (e.sidePath x.stream t.reel t.clip t.proxy.part (chars [46, 109, 112, 52])) t.proxy.bytes
      else e

/-- Clusters allocated beyond the files of a record start are released (R272 step 5). -/
def Engine.trimFiles (t : Take) (e : Engine) : Engine :=
  t.live.foldl (fun e d => e.modMedia d.port fun q =>
    let c := 2 ^ ((q.volume.map (·.clusterLog2)).getD 22)
    { q with files := q.files.map fun x => { x with alloc := min x.alloc (c * cdiv x.data c) } }) e

def execChunkDurable (t : Nat) (m : Fin 4) (chunk : Nat) (s : State) : Out :=
  s.run t fun e => e.whenLive (·.chunkDurable m chunk)

/-- The drives of a record start that is over are held by no clip any more (R285). -/
def Engine.recFree (t : Take) (e : Engine) : Engine :=
  t.drives.foldl (fun e d =>
    if (e.mport d.port).state = .recording && !e.inSet d.port && !e.inClosing d.port then
      e.modMedia d.port fun q => { q with state := .mounted, resetInClip := false }
    else e) e

/-- The clip-closed notification of each clip (Table 19.11). -/
def Engine.clipNotes (t : Take) (last how : Nat) (e : Engine) : Engine :=
  t.clips.foldl (fun e c => e.notify 0x0505 none
    (padTo 16 c.name ++ le 4 t.first ++ le 4 last ++ le 1 how ++ le 3 0)) e

/-- CLIP_CLOSED (R272): the oldest record start whose files are all closed is over. -/
def Engine.clipClosed (e : Engine) : Engine :=
  match e.rec_.takes.find? e.recClosed with
  | none => e
  | some t =>
    let e := t.clips.foldl (fun e _ => (e.bump .recClips 0x0200).emit 0x0200 .clipClosed []) e
    let e := (e.trimFiles t).clipNotes t (t.last.getD 0) t.how
    let e := e.modRec fun r => { r with takes := r.takes.filter (·.id ≠ t.id) }
    (e.recFree t).epSync

def execClipClosed (t : Nat) (s : State) : Out := s.run t fun e => e.whenLive (·.clipClosed)

/-- The sequence of R273 has begun: at input loss, at a thermal trip (R528) or at a fatal fault (R9). -/
def Engine.closing (e : Engine) : Bool := e.power.t0.isSome || e.power.trip.isSome || e.sys.fatalAt.isSome

/-- So many ms have passed since an instant. -/
def Engine.since (e : Engine) (n : Nat) (x : Option Nat) : Bool := x.any fun t => decide (t + ms n ≤ e.now)

/-- POWER_FAIL_FLUSH (R273): at t0 + 100 ms every open clip ends at its last whole project frame that is written, and gets
its FINAL chunks. -/
def Engine.powerFailFlush (e : Engine) : Engine :=
  if e.rec_.flushStop || !(e.since 100 e.power.t0 || e.since 100 e.power.trip || e.since 100 e.sys.fatalAt) then e
  else
    let e := e.modRec fun r => { r with flushStop := true }
    let e := [0, 1, 2, 3].foldl (fun e m => if e.inSet m || e.inClosing m then e.recFlush m else e) e
    let e := e.rec_.takes.foldl (fun e t =>
      let l := e.lastWritten t
      let last := match t.last with
        | some x => if cfnDiff l x < 0 then l else x
        | none => l
      let lost := ((t.entered.map (·.2)).dedup.filter fun c => decide (0 < cfnDiff c last)).length
      let e := e.recEnd t.id last 3
      let e := t.live.foldl (fun e d => e.layFinals t.id d) e
      let e := (e.rec_.chunks.filter fun x => x.take = t.id && x.ty = 3).foldl (fun e x => e.fileEnd x) e
      let e := t.clips.foldl (fun e _ => e.emit 0x0200 .clipPowerClose (evData [(4, last)])) e
      (e.bumpN .recFramesLost 0x0200 0 lost).clipNotes t last 3) e
    e.modRec fun r => { r with takes := [], buffer := [], chunks := [], moves := [] }

/-- STS_RECORD (R276). -/
def Engine.stsRecord (e : Engine) : List Word :=
  let pend := e.sys.pend.find? fun p => p.kind = .recStart
  let st := if e.recNow.isSome then 2 else if pend.isSome then 1 else if e.rec_.takes.isEmpty then 0 else 3
  let set := sumNat ([0, 1, 2, 3].map fun m => if e.inSet m || e.inClosing m then 2 ^ m else 0)
  [mkWord [(31, 29, st), (28, 25, set), (24, 15, e.rec_.reel), (14, 1, e.rec_.clip)],
    word (e.rec_.used / 256), word e.rec_.lastCfn, word e.rec_.frames]

end Sys2Proof.Machine
end

