-- ==== Sys2Proof/Machine/Deflate.lean ====
section
/-! DEFINITION. The DEFLATE engines (R499 to R502): inflation of RFC 1951 and RFC 1950 streams, the match search of
R499, and the command DEFLATE_BLOCK. -/

namespace Sys2Proof.Machine

/-- Bits of a byte string, least significant bit of each byte first (RFC 1951). -/
def byteBits (b : Byte) : List Bool := (List.range 8).map fun i => b.getLsbD i

def bytesBits (bs : List Byte) : List Bool := bs.flatMap byteBits

/-- The number whose bits, least significant first, are these. -/
def bitsNum : List Bool → Nat
  | [] => 0
  | b :: r => bit b + 2 * bitsNum r

/-- A number of n bits, least significant first, at the front of some bits. -/
def takeBits (n : Nat) (l : List Bool) : Option (Nat × List Bool) :=
  if l.length < n then none else some (bitsNum (l.take n), l.drop n)

/-- Bits of a number, least significant first. -/
def numBits (n v : Nat) : List Bool := (List.range n).map v.testBit

/-- Whole bytes of some bits, and the bits left over. -/
def packBitsAux : (fuel : Nat) → List Bool → List Byte × List Bool
  | 0, l => ([], l)
  | k + 1, l =>
    if l.length < 8 then ([], l)
    else
      let r := packBitsAux k (l.drop 8)
      (BitVec.ofNat 8 (bitsNum (l.take 8)) :: r.1, r.2)

def packBits (l : List Bool) : List Byte × List Bool := packBitsAux l.length l

/-- A symbol of a block: a literal, or a match of a length at a distance (RFC 1951). -/
inductive Tok where
  | lit (b : Byte)
  | copy (len dist : Nat)
  deriving DecidableEq, Repr

/-- Number of codes of a length. -/
def lenCount (lens : List Nat) (n : Nat) : Nat := (lens.filter (· = n)).length

/-- The first canonical code of length n (RFC 1951, 3.2.2). -/
def firstCode (lens : List Nat) : Nat → Nat
  | 0 => 0
  | n + 1 => 2 * (firstCode lens n + if n = 0 then 0 else lenCount lens n)

/-- Code lengths leave no more codes than there are: the set is not over-subscribed. -/
def lensFit (lens : List Nat) : Bool :=
  decide (sumL ((lens.filter (0 < ·)).map fun l => 2 ^ (15 - l)) ≤ 32768) && lens.all (· ≤ 15)
where
  sumL (l : List Nat) : Nat := l.foldl (· + ·) 0

/-- Symbols of code length n, ascending. -/
def symsOf (lens : List Nat) (n : Nat) : List Nat := (List.range lens.length).filter fun s => lens.getD s 0 = n

/-- One symbol of a canonical code from the front of some bits: code so far, its length, and fuel of 15 bits. -/
def takeSymAux (lens : List Nat) : (fuel code n : Nat) → List Bool → Option (Nat × List Bool)
  | 0, _, _, _ => none
  | _ + 1, _, _, [] => none
  | k + 1, code, n, b :: r =>
    let code := 2 * code + bit b
    let first := firstCode lens (n + 1)
    if first ≤ code ∧ code < first + lenCount lens (n + 1) then
      some ((symsOf lens (n + 1)).getD (code - first) 0, r)
    else takeSymAux lens k code (n + 1) r

def takeSym (lens : List Nat) (l : List Bool) : Option (Nat × List Bool) := takeSymAux lens 15 0 0 l

/-- Base and extra bits of a length symbol 257 to 285 (RFC 1951). -/
def lenSym (s : Nat) : Option (Nat × Nat) :=
  if s < 257 then none
  else if s < 265 then some (s - 254, 0)
  else if s < 285 then
    let k := (s - 261) / 4
    some (3 + (4 + (s - 265) % 4) * 2 ^ k, k)
  else if s = 285 then some (258, 0)
  else none

/-- Base and extra bits of a distance symbol 0 to 29 (RFC 1951). -/
def distSym (s : Nat) : Option (Nat × Nat) :=
  if s < 4 then some (s + 1, 0)
  else if s < 30 then
    let k := s / 2 - 1
    some (1 + (2 + s % 2) * 2 ^ k, k)
  else none

/-- Symbols of a block up to its end of block, newest first, under the two codes. -/
def takeToks (lit dist : List Nat) : (fuel : Nat) → List Tok → List Bool → Option (List Tok × List Bool)
  | 0, _, _ => none
  | k + 1, acc, l =>
    match takeSym lit l with
    | none => none
    | some (s, l) =>
      if s < 256 then takeToks lit dist k (.lit (BitVec.ofNat 8 s) :: acc) l
      else if s = 256 then some (acc, l)
      else
        match lenSym s with
        | none => none
        | some (base, x) =>
          match takeBits x l with
          | none => none
          | some (v, l) =>
            match takeSym dist l with
            | none => none
            | some (ds, l) =>
              match distSym ds with
              | none => none
              | some (dbase, dx) =>
                match takeBits dx l with
                | none => none
                | some (dv, l) => takeToks lit dist k (.copy (base + v) (dbase + dv) :: acc) l

/-- Order of the code length codes (RFC 1951). -/
def clOrder : List Nat := [16, 17, 18, 0, 8, 7, 9, 6, 10, 5, 11, 4, 12, 3, 13, 2, 14, 1, 15]

/-- Some 3-bit numbers. -/
def takeThrees : Nat → List Bool → Option (List Nat × List Bool)
  | 0, l => some ([], l)
  | n + 1, l =>
    match takeBits 3 l with
    | none => none
    | some (v, l) => (takeThrees n l).map fun r => (v :: r.1, r.2)

/-- Code lengths under the code length code, until n of them are there. -/
def takeLens (cl : List Nat) (n : Nat) : (fuel : Nat) → List Nat → List Bool → Option (List Nat × List Bool)
  | 0, acc, l => if acc.length = n then some (acc, l) else none
  | k + 1, acc, l =>
    if n ≤ acc.length then (if acc.length = n then some (acc, l) else none)
    else
      match takeSym cl l with
      | none => none
      | some (s, l) =>
        if s < 16 then takeLens cl n k (acc ++ [s]) l
        else if s = 16 then
          match acc.getLast?, takeBits 2 l with
          | some p, some (v, l) => takeLens cl n k (acc ++ List.replicate (3 + v) p) l
          | _, _ => none
        else if s = 17 then
          match takeBits 3 l with
          | some (v, l) => takeLens cl n k (acc ++ List.replicate (3 + v) 0) l
          | none => none
        else
          match takeBits 7 l with
          | some (v, l) => takeLens cl n k (acc ++ List.replicate (11 + v) 0) l
          | none => none

/-- The two codes of a dynamic block, from the bits after its header. -/
def takeCodes (l : List Bool) : Option ((List Nat × List Nat) × List Bool) :=
  match takeBits 14 l with
  | none => none
  | some (h, l) =>
    let nl := h % 32 + 257
    let nd := h / 32 % 32 + 1
    let nc := h / 1024 + 4
    match takeThrees nc l with
    | none => none
    | some (cs, l) =>
      let cl := (List.range 19).map fun s => match (clOrder.take nc).idxOf? s with
        | some i => cs.getD i 0
        | none => 0
      if !lensFit cl || decide (286 < nl) then none
      else
        match takeLens cl (nl + nd) (nl + nd) [] l with
        | none => none
        | some (ls, l) =>
          let lit := ls.take nl
          let dist := ls.drop nl
          if lensFit lit && lensFit dist && decide (0 < lit.getD 256 0) then some ((lit, dist), l) else none

/-- The symbols of a dynamic block, oldest first, and the bits after it. -/
def takeDynamic (l : List Bool) : Option (List Tok × List Bool) :=
  match takeCodes l with
  | none => none
  | some (c, l) => (takeToks c.1 c.2 (l.length + 1) [] l).map fun r => (r.1.reverse, r.2)

/-- Code lengths of the fixed codes (RFC 1951). -/
def fixedLit : List Nat :=
  List.replicate 144 8 ++ List.replicate 112 9 ++ List.replicate 24 7 ++ List.replicate 8 8
def fixedDist : List Nat := List.replicate 30 5

/-- A match copied onto output held newest first; none beyond the window or its start. -/
def copyOut (dist : Nat) : (len : Nat) → List Byte → Option (List Byte)
  | 0, out => some out
  | n + 1, out =>
    match out[dist - 1]? with
    | some b => copyOut dist n (b :: out)
    | none => none

/-- Symbols applied to output held newest first. -/
def applyToks : List Tok → List Byte → Option (List Byte)
  | [], out => some out
  | .lit b :: r, out => applyToks r (b :: out)
  | .copy n d :: r, out =>
    if 32768 < d then none
    else match copyOut d n out with
      | some o => applyToks r o
      | none => none

/-- Some whole bytes at the front of some bits. -/
def takeBytes : Nat → List Bool → Option (List Byte × List Bool)
  | 0, l => some ([], l)
  | n + 1, l =>
    match takeBits 8 l with
    | none => none
    | some (v, l) => (takeBytes n l).map fun r => (BitVec.ofNat 8 v :: r.1, r.2)

/-- The bits after the byte boundary, of a stream of n bits in all. -/
def alignBits (n : Nat) (l : List Bool) : List Bool := l.drop ((8 - (n - l.length) % 8) % 8)

/-- Blocks of an RFC 1951 stream of n bits: the output newest first and the bits left. An invalid code, a distance beyond
the window, or a LEN that does not match NLEN gives none (R501). -/
def inflateBlocks (n : Nat) : (fuel : Nat) → List Byte → List Bool → Option (List Byte × List Bool)
  | 0, _, _ => none
  | k + 1, out, l =>
    match takeBits 3 l with
    | none => none
    | some (h, l) =>
      let r := match h / 2 with
        | 0 =>
          match takeBits 32 (alignBits n l) with
          | none => none
          | some (v, l) =>
            if v % 65536 + v / 65536 = 65535 then
              (takeBytes (v % 65536) l).map fun x => (x.1.reverse ++ out, x.2)
            else none
        | 1 =>
          match takeToks fixedLit fixedDist (l.length + 1) [] l with
          | none => none
          | some (ts, l) => (applyToks ts.reverse out).map fun o => (o, l)
        | 2 =>
          match takeDynamic l with
          | none => none
          | some (ts, l) => (applyToks ts out).map fun o => (o, l)
        | _ => none
      match r with
      | none => none
      | some (out, l) => if h % 2 = 1 then some (out, l) else inflateBlocks n k out l

/-- Adler-32 as its two sums over some bytes (RFC 1950). -/
def adlerRun (s : Nat × Nat) (bs : List Byte) : Nat × Nat :=
  bs.foldl (fun s b => let a := (s.1 + b.toNat) % 65521; (a, (s.2 + a) % 65521)) s

/-- The four bytes of an Adler-32, most significant first. -/
def adlerBytes (s : Nat × Nat) : List Byte := (le 4 (s.2 * 65536 + s.1)).reverse

/-- One zlib stream without a preset dictionary, whole (RFC 1950, R438): its output. -/
def inflateZlib (bs : List Byte) : Option (List Byte) :=
  match bs with
  | cmf :: flg :: r =>
    if cmf.toNat % 16 = 8 ∧ cmf.toNat / 16 ≤ 7 ∧ (cmf.toNat * 256 + flg.toNat) % 31 = 0 ∧ flg.getLsbD 5 = false then
      let l := bytesBits r
      match inflateBlocks l.length (l.length + 1) [] l with
      | none => none
      | some (out, rest) =>
        let out := out.reverse
        match takeBytes 4 (alignBits l.length rest) with
        | some (sum, []) => if sum = adlerBytes (adlerRun (1, 0) out) then some out else none
        | _ => none
    else none
  | _ => none

/-- Length of the common start of two lists, at most n. -/
def commonLen : Nat → List Byte → List Byte → Nat
  | 0, _, _ => 0
  | n + 1, a :: x, b :: y => if a = b then commonLen n x y + 1 else 0
  | _, _, _ => 0

/-- hash of R499 of the three bytes at the front, when there are three. -/
def hash3 : List Byte → Option Nat
  | a :: b :: c :: _ => some (((a.toNat <<< 10) ^^^ (b.toNat <<< 5) ^^^ c.toNat) % 32768)
  | _ => none

/-- The distances of the eight newest chain entries within 32 KiB (R499): past bytes newest first. -/
def chain (past rest : List Byte) : List Nat :=
  match hash3 rest with
  | none => []
  | some h =>
    (((List.range (min 32768 past.length)).map (· + 1)).filter fun d =>
      hash3 ((past.take d).reverse ++ rest) = some h).take 8

/-- The longest match of length 3 to 258 among the chain entries, nearest on ties (R499). -/
def bestMatch (past rest : List Byte) : Option (Nat × Nat) :=
  (chain past rest).foldl (fun a d =>
    let n := commonLen 258 ((past.take d).reverse ++ rest) rest
    match a with
    | none => if 3 ≤ n then some (n, d) else none
    | some (m, _) => if m < n then some (n, d) else a) none

/-- The symbols of a block's input under R499: past bytes newest first. -/
def lzToks : (fuel : Nat) → List Byte → List Byte → List Tok
  | 0, _, _ => []
  | _, _, [] => []
  | k + 1, past, b :: r =>
    match bestMatch past (b :: r) with
    | some (n, d) => .copy n d :: lzToks k (((b :: r).take n).reverse ++ past) ((b :: r).drop n)
    | none => .lit b :: lzToks k (b :: past) r

/-- Stored blocks of at most 65,535 bytes, after have bits of a byte, the last with BFINAL when fin is set. -/
def storedBlocks (fin : Bool) : (fuel have_ : Nat) → List Byte → List Bool
  | 0, _, _ => []
  | k + 1, have_, bs =>
    let part := bs.take 65535
    let rest := bs.drop 65535
    let head := numBits 3 (bit (fin && rest.isEmpty))
    let pad := List.replicate ((8 - (have_ + 3) % 8) % 8) false
    let n := part.length
    head ++ pad ++ numBits 16 n ++ numBits 16 (65535 - n) ++ bytesBits part ++
      if rest.isEmpty then [] else storedBlocks fin k 0 rest

def stored (fin : Bool) (have_ : Nat) (bs : List Byte) : List Bool := storedBlocks fin (bs.length + 1) have_ bs

/-- Input with its poisoned words of 32 bytes stored as zero (R501). -/
def zeroWords (poison : List Nat) (bs : List Byte) : List Byte :=
  bs.mapIdx fun i b => if poison.contains (i / 32) then 0 else b

/-- The two zlib header bytes: CM 8, window 32 KiB, no dictionary; FLEVEL is left open (log 24). -/
def zlibHeader : List Byte :=
  let lv := Config.unstated 499 0 % 4 * 64
  [0x78, BitVec.ofNat 8 (lv + (31 - (0x7800 + lv) % 31) % 31)]

/-- A stream before its first block: an empty window (R514). -/
def DeflateStream.fresh (n : Nat) (zlib : Bool) : DeflateStream :=
  ⟨n, zlib, [], if zlib then zlibHeader else [], [], (1, 0), false⟩

/-- Bits that follow a stream's. -/
def DeflateStream.add (l : List Bool) (x : DeflateStream) : DeflateStream :=
  let r := packBits (x.bits ++ l)
  { x with out := x.out ++ r.1, bits := r.2 }

/-- The bits of a block of R499 and R501: coded when the engine's code inflates to the block's own symbols and is not larger
than storing them; stored otherwise. The second part is the mismatch of R501. -/
def DeflateStream.block (x : DeflateStream) (input : List Byte) (code : List Bool) (poisoned last : Bool) :
    List Bool × Bool :=
  let store := stored last x.bits.length input
  if poisoned then (store, true)
  else if takeDynamic code = some (lzToks input.length x.window input, []) then
    (if store.length < code.length + 3 then store else numBits 3 (bit last + 4) ++ code, false)
  else (store, true)

/-- The end of a block: a flush, or the stream's end with its Adler-32 (R499). -/
def DeflateStream.endBlock (flush last : Bool) (x : DeflateStream) : DeflateStream :=
  if last then
    let y := x.add (List.replicate ((8 - x.bits.length % 8) % 8) false)
    if x.zlib then { y with out := y.out ++ adlerBytes y.adler } else y
  else if flush && !x.bits.isEmpty then x.add (stored false x.bits.length [])
  else x

/-- An engine emits a block, checks it by inflating it, and stores it on a mismatch or poison (R499 to R501). A block holds at most
16,384 symbols. -/
def Engine.deflateRun (n stream : Nat) (zlib : Bool) (input : List Byte) (code : List Bool) (poison : List Nat)
    (flush last : Bool) (e : Engine) : Engine :=
  let l := vget e.md.deflate n []
  let x := (l.find? fun x => x.number = stream && !x.done).getD (.fresh stream zlib)
  let inp := zeroWords poison input
  if 16384 < (lzToks inp.length x.window inp).length then e
  else
    let r := x.block inp code (!poison.isEmpty) last
    let y := { x.add r.1 with window := (inp.reverse ++ x.window).take 32768, adler := adlerRun x.adler inp }
    let y := { y.endBlock flush last with done := last }
    let others := l.filter (·.number ≠ stream)
    let e : Engine := { e with md := { e.md with deflate := vmod e.md.deflate n fun _ => others ++ [y] } }
    if r.2 then
      let src := 0x0356 + n
      (e.bump .deflateMismatch src).emit src .deflateMismatch (le 4 stream ++ le 1 (bit (!poison.isEmpty)))
    else e

/-- The sidecar that a stream of engine 0 compresses (R270). -/
def Engine.sideOf (e : Engine) (stream : Nat) : Option SideFile :=
  (e.rec_.takes.flatMap fun t => t.clips.flatMap fun c => c.sides.filter fun x => x.stream = stream && !x.done).head?

/-- The bytes of a sidecar that a block can take: up to the next flush point; and whether the block is flushed, or the last (R270). -/
def SideFile.part_ (x : SideFile) : Nat := (x.marks.head?).getD x.todo.length
def SideFile.flushes (x : SideFile) (n : Nat) : Bool := x.marks.head? = some n
def SideFile.ends (x : SideFile) (n : Nat) : Bool := x.ended && x.todo.length = n

/-- A sidecar after a block of n bytes: its file's pages, encrypted whole when the clip has a key, the last one padded (R271). -/
def SideFile.taken (x : SideFile) (key : Option (BitVec 512)) (n : Nat) (out : List Byte) : SideFile :=
  let whole := if x.ends n then padPages out else out.take (out.length / 4096 * 4096)
  { x with
    todo := x.todo.drop n, marks := (x.marks.filter fun k => decide (n < k)).map (· - n), out := out
    stored := encPages key 5 0 whole, done := x.ends n }

/-- A block of a sidecar's stream (R270, R499): its input is the content that comes next, and it ends at a flush point, at the end, or
when it is full of symbols. -/
def Engine.sideBlock (x : SideFile) (input : List Byte) (code : List Bool) (poison : List Nat) (e : Engine) : Engine :=
  let n := input.length
  let window := ((vget e.md.deflate 0 []).find? fun y => y.number = x.stream && !y.done).map (·.window)
  let full := (lzToks n (window.getD []) (zeroWords poison input)).length = 16384
  if decide (x.part_ < n) || input ≠ x.todo.take n || !(x.flushes n || x.ends n || full) then e
  else
    let e := e.deflateRun 0 x.stream true input code poison (x.flushes n) (x.ends n)
    let out := (((vget e.md.deflate 0 []).find? (·.number = x.stream)).map (·.out)).getD []
    let give (key : Option (BitVec 512)) (y : SideFile) : SideFile :=
      if y.stream = x.stream && !y.done then y.taken key n out else y
    { e with rec_ := { e.rec_ with takes := e.rec_.takes.map fun t => { t with clips := t.clips.map fun c =>
      { c with sides := c.sides.map (give c.key) } } } }

/-- DEFLATE_BLOCK (R270, R499 to R501): engine 0 takes sidecars, and engine 1 all other jobs. -/
def Engine.deflateBlock (n stream : Nat) (zlib : Bool) (input : List Byte) (code : List Bool) (poison : List Nat)
    (flush last : Bool) (e : Engine) : Engine :=
  if n = 1 then e.deflateRun 1 stream zlib input code poison flush last
  else match e.sideOf stream with
    | some x => e.sideBlock x input code poison
    | none => e

def execDeflateBlock (t : Nat) (n : Fin 2) (stream : Fin 16) (zlib : Bool) (input : List Byte) (code : List Bool)
    (poison : List Nat) (flush last : Bool) (s : State) : Out :=
  s.run t fun e => e.whenLive (·.deflateBlock n stream zlib input code poison flush last)

end Sys2Proof.Machine
end

