-- ==== Sys2Proof/Machine/GateOps.lean ====
section
/-! DEFINITION. What every gated command shares: its TYPE, GATED_STATE, and its end (R472). -/

namespace Sys2Proof.Machine

/-- Message TYPE of a gated command (Table 19.12). -/
def Gated.ty : Gated → Nat
  | .imageCommit _ => 0x0701 | .keyLoad .. => 0x0702 | .keyErase _ => 0x0703 | .lampOpen => 0x0704
  | .timeStep _ => 0x0705 | .calCommit .. => 0x0706 | .factoryReset _ => 0x0707

/-- GATED_STATE to the staging client and to subscribers (Table 19.11): 0 STAGED, 1 DONE, 2 FAILED, 3 EXPIRED,
4 CANCELLED. -/
def Engine.gatedState (g : Staged) (state : Nat) (st : Status) (rs : Reason) (deadline : Nat) (e : Engine) : Engine :=
  e.notify 0x0507 (some g.client)
    (le 2 g.cmd.ty ++ le 1 state ++ le 1 0 ++ le 4 g.seq ++ le 2 st.code ++ le 2 rs.code ++ le 4 deadline)

/-- An event of a gated command, with its type and its client's transport (R472; log 9). -/
def Engine.gatedEvent (ev : Ev) (g : Staged) (e : Engine) : Engine :=
  e.emit 0x0363 ev (evData [(2, g.cmd.ty), (4, g.client.transport)])

/-- No command is staged any more. -/
def Engine.unstage (e : Engine) : Engine := { e with ctl := { e.ctl with staged := none } }

/-- The staged command has executed: GATED_STATE DONE. -/
def Engine.gatedDone (g : Staged) (e : Engine) : Engine :=
  (e.unstage.gatedState g 1 .ok .none 0).gatedEvent .gatedDone g

/-- The staged command failed with the status and reason it would have had as a response. -/
def Engine.gatedFail (g : Staged) (st : Status) (rs : Reason) (e : Engine) : Engine :=
  e.unstage.gatedState g 2 st rs 0

/-- The staged command is cancelled, unless it is executing (R472). -/
def Engine.gatedCancelled (e : Engine) : Engine :=
  match e.ctl.staged with
  | none => e
  | some g => if g.executing then e else (e.unstage.gatedState g 4 .ok .none 0).gatedEvent .gatedCancelled g

end Sys2Proof.Machine
end

