-- ==== Sys2Proof/Machine/Image.lean ====
section
/-! DEFINITION. The image in a slot of the configuration flash (R435 to R442, R446), and the image transfer (R471): the
commands XFER_BEGIN, XFER_DATA, XFER_END, XFER_ABORT, XFER_TIMEOUT, XFER_ERASE_DONE and XFER_CHECK_DONE. -/

namespace Sys2Proof.Machine

/-- A slot's cells: false A, true B. -/
def Flash.slot (f : Flash) (b : Bool) : List Host.Cell := if b then f.slotB else f.slotA

def Flash.setSlot (b : Bool) (m : List Host.Cell) (f : Flash) : Flash :=
  if b then { f with slotB := m } else { f with slotA := m }

/-- The active slot's cells. -/
def Engine.activeSlot (e : Engine) (f : Flash) : List Host.Cell :=
  match e.sys.active with
  | some b => f.slot b
  | none => []

/-- A little-endian field of n bytes of a slot; an erased byte reads 0xFF. -/
def slotField (m : List Host.Cell) (off n : Nat) : Nat := unle (memBytes 0xFF m n off)

/-- The words MAGIC and COMMIT of a valid, committed header (Table 18.1). -/
def tuprMagic : Nat := 0x52505554
def commWord : Nat := 0x4D4D4F43

/-- Fields of the image header (Table 18.1). -/
def slotSections (m : List Host.Cell) : Nat := slotField m 6 2
def slotGeneration (m : List Host.Cell) : Nat := slotField m 8 4
def slotFwPage (m : List Host.Cell) : Nat := slotField m 16 4
def slotFwPages (m : List Host.Cell) : Nat := slotField m 20 4
def slotSigner (m : List Host.Cell) : List Byte := memBytes 0xFF m 32 40
def slotFwDigest (m : List Host.Cell) : Nat := slotField m 72 64
def slotCommitted (m : List Host.Cell) : Bool := slotField m 4092 4 = commWord

/-- The hash of SIGNER_KEY that the key store keeps (R446, R478). -/
def slotKeyHash (m : List Host.Cell) : List Byte := (sha512 (slotSigner m)).take 32

/-- SIGNATURE stands under SIGNER_KEY for bytes 0 to 3,959 of page 0 and page 1 (R439). -/
def slotSigned (m : List Host.Cell) : Bool :=
  ed25519Ok (slotSigner m) (memBytes 0xFF m 3960 0 ++ memBytes 0xFF m 4096 4096) (memBytes 0xFF m 64 3960)

/-- FW_DIGEST is that of the firmware blob's pages. -/
def slotFwIntact (m : List Host.Cell) : Bool :=
  unle (sha512 (memBytes 0xFF m (4096 * slotFwPages m) (4096 * slotFwPage m))) = slotFwDigest m

/-- MAGIC, VERSION and HDR_CRC are right. -/
def slotHeaderOk (m : List Host.Cell) : Bool :=
  slotField m 0 4 = tuprMagic && slotField m 4 2 = 1 && crc32c (memBytes 0xFF m 4088 0) = slotField m 4088 4

/-- One entry of the section table (Table 18.2). -/
structure SlotEntry where
  id : Nat
  flags : Nat
  offset : Nat
  stored : Nat
  loaded : Nat
  crc : Nat
  digest : Nat
  deriving DecidableEq, Repr

def slotEntry (m : List Host.Cell) (i : Nat) : SlotEntry :=
  let a := 4096 + 64 * i
  ⟨slotField m a 2, slotField m (a + 2) 1, slotField m (a + 4) 4, slotField m (a + 8) 4, slotField m (a + 12) 4,
    slotField m (a + 16) 4, slotField m (a + 32) 32⟩

/-- Entries 0 to SECTIONS - 1. -/
def slotEntries (m : List Host.Cell) : List SlotEntry := (List.range (min 64 (slotSections m))).map (slotEntry m)

/-- The stored bytes of a section. -/
def SlotEntry.bytes (m : List Host.Cell) (x : SlotEntry) : List Byte := memBytes 0xFF m x.stored x.offset

/-- Words from bytes, four bytes each. -/
def bytesWords : (n : Nat) → List Byte → List Word
  | 0, _ => []
  | n + 1, bs => word (unle (bs.take 4)) :: bytesWords n (bs.drop 4)

/-- An inflated section under its framing (R441). -/
def parseSection (id : Nat) (bs : List Byte) : Option Sect :=
  let n := unle ((bs.drop 4).take 4)
  let param := unle ((bs.drop 3).take 1)
  if bs.length = 8 + 4 * n ∧ unle (bs.take 2) = id ∧ unle ((bs.drop 2).take 1) = 1 ∧
      (if id = 0x0013 then 1 ≤ param ∧ param ≤ 8 else param = 0) then
    some ⟨id, param, bytesWords n (bs.drop 8)⟩
  else none

/-- A section of a slot, inflated when its entry says so (R438, R441). -/
def SlotEntry.load (m : List Host.Cell) (x : SlotEntry) : Option Sect :=
  let raw := x.bytes m
  let bs := if x.flags = 1 then inflateZlib raw else some raw
  match bs with
  | some b => if b.length = x.loaded then parseSection x.id b else none
  | none => none

/-- Section IDs of Table 18.4. -/
def sectionIds : List Nat :=
  [0x01, 0x02, 0x03, 0x04, 0x05, 0x10, 0x11, 0x12, 0x13, 0x20, 0x21, 0x22, 0x30, 0x31, 0x32, 0x33, 0x34, 0x35, 0x36, 0x38,
    0x40, 0x41, 0x50, 0x51, 0x52, 0x60, 0x61, 0x62, 0x63, 0x68, 0x69, 0x6A, 0x70, 0x80, 0x81, 0x90, 0xA0, 0xA1, 0xB0, 0xC0,
    0xD0]

/-- Sections marked required, and those required with a sensor or with FSR (R442). -/
def requiredOk (ids : List Nat) : Bool :=
  [0x01, 0x02, 0x03, 0x04, 0x05, 0x80, 0xA0, 0xA1, 0xB0, 0xC0].all ids.contains &&
    (!(ids.contains 0x10 || ids.contains 0x11) || (ids.contains 0x20 && ids.contains 0x30)) &&
    (!ids.contains 0x40 || ids.contains 0x50)

/-- One entry keeps R438. -/
def SlotEntry.ok (x : SlotEntry) : Bool :=
  sectionIds.contains x.id && decide (x.flags ≤ 1) && x.offset % 4096 = 0 && decide (8192 ≤ x.offset) &&
    decide (x.loaded ≤ 33554432) && (x.flags = 1 || x.loaded = x.stored)

/-- Entries run in ascending ID and OFFSET without overlapping (R442). -/
def entriesAscend : List SlotEntry → Bool
  | [] => true
  | [_] => true
  | x :: y :: r => decide (x.id < y.id ∧ x.offset + x.stored ≤ y.offset ∧ x.offset < y.offset) && entriesAscend (y :: r)

/-- The sections of a slot, when every entry keeps R438, R441 and R442. -/
def slotConfig (m : List Host.Cell) : Option Cfg :=
  let es := slotEntries m
  let n := slotSections m
  if 1 ≤ n ∧ n ≤ 64 ∧ es.all SlotEntry.ok ∧ entriesAscend es ∧ requiredOk (es.map (·.id)) ∧
      es.all (fun x => decide (x.offset + x.stored ≤ 4096 * slotFwPage m)) then
    es.mapM (SlotEntry.load m)
  else none

/-- CRC and DIGEST of an entry are those of its stored bytes (R438). -/
def SlotEntry.intact (m : List Host.Cell) (x : SlotEntry) : Bool :=
  crc32c (x.bytes m) = x.crc && unle ((sha512 (x.bytes m)).take 32) = x.digest

/-- CRC and DIGEST of every valid entry (R446). -/
def entriesIntact (m : List Host.Cell) : Bool := (slotEntries m).all fun x => x.intact m

/-- The first check of R446 that a slot fails, in the order of its text, from 1; 0 when it passes them. The COMMIT test is left out
when withCommit is false. -/
def slotFault (m : List Host.Cell) (ks : KeyStore) (v : SlotVerdict) (withCommit : Bool) : Nat :=
  if !slotHeaderOk m then 1
  else if withCommit && !slotCommitted m then 2
  else if !slotSigned m then 3
  else if (match ks.hash with
    | some k => decide (slotKeyHash m ≠ k.value)
    | none => false) then 4
  else if !entriesIntact m then 5
  else if !(slotFwIntact m && v.slananOk) then 6
  else if (slotConfig m).isNone then 7
  else 0

/-- DIGEST of every section of a slot, and FW_DIGEST at ID 0. -/
def slotDigests (m : List Host.Cell) : List (Nat × Nat) :=
  (0, slotFwDigest m) :: (slotEntries m).map fun x => (x.id, x.digest)

/-- The slot a transfer writes: the one that is not active; slot A while none is (log 60). -/
def Sys.inactive (s : Sys) : Bool :=
  match s.active with
  | some b => !b
  | none => false

/-- A transfer that is not complete is abandoned: IMAGE_XFER_ABORT with its cause, 0 XFER_ABORT, 1 time, 2 a full restart,
3 FACTORY_RESET (log 61). -/
def Engine.xferAbandon (cause : Nat) (e : Engine) : Engine :=
  match e.ctl.xfer with
  | none => e
  | some _ => ({ e with ctl := { e.ctl with xfer := none } } : Engine).emit 0x0358 .imageXferAbort (le 4 cause)

/-- The transfer in progress belongs to another client, or a commit runs: BUSY (R471, R450). -/
def Engine.xferBusy (h : MsgHdr) (e : Engine) : Bool :=
  e.sys.committing || (match e.ctl.xfer with
    | some x => decide (x.owner ≠ h.client)
    | none => false)

/-- XFER_BEGIN (R471, R436): the inactive slot is erased, and is invalid from now on. -/
def State.xferBegin (h : MsgHdr) (total generation : Nat) (s : State) : State :=
  let e := s.eng
  if total % 4096 ≠ 0 ∨ 2 ^ 32 ≤ total ∨ 2 ^ 32 ≤ generation then { s with eng := e.refuse h 0x0601 .malformed .none }
  else if e.sys.committing || e.ctl.xfer.isSome then { s with eng := e.refuse h 0x0601 .busy .none }
  else if s.flash.slotBytes < total then { s with eng := e.refuse h 0x0601 .refused .checkFailed }
  else
    let x : Xfer :=
      { owner := h.client, total := total, generation := generation, erasing := true, written := [], lastReq := e.now,
        waiting := h.seq, checking := none }
    { s with
      flash := s.flash.setSlot e.sys.inactive []
      eng := { e with ctl := { e.ctl with xfer := some x, complete := e.ctl.complete.erase e.sys.inactive } } }

def execXferBegin (t : Nat) (h : MsgHdr) (total generation : Nat) (s : State) : Out :=
  s.runAll t fun s => s.request h 0x0601 (·.xferBegin h total generation)

/-- XFER_ERASE_DONE (R471): the response to XFER_BEGIN. -/
def Engine.xferEraseDone (e : Engine) : Engine :=
  match e.ctl.xfer with
  | none => e
  | some x =>
    if x.erasing then
      ({ e with ctl := { e.ctl with xfer := some { x with erasing := false } } } : Engine).ok ⟨x.owner, x.waiting⟩ 0x0601
    else e

def execXferEraseDone (t : Nat) (s : State) : Out := s.run t (·.xferEraseDone)

/-- The owner's request renews the transfer's time. -/
def Engine.xferHeard (h : MsgHdr) (e : Engine) : Engine :=
  match e.ctl.xfer with
  | some x => if x.owner = h.client then { e with ctl := { e.ctl with xfer := some { x with lastReq := e.now } } } else e
  | none => e

/-- XFER_DATA (R471): each block of 256 bytes is written once. -/
def State.xferData (h : MsgHdr) (offset : Nat) (data : List Byte) (s : State) : State :=
  let e := s.eng.xferHeard h
  let bad (st : Status) (rs : Reason) : State := { s with eng := e.refuse h 0x0602 st rs }
  let n := data.length
  if offset % 256 ≠ 0 ∨ n % 256 ≠ 0 ∨ n < 256 ∨ 32768 < n ∨ 2 ^ 32 ≤ offset then bad .malformed .none
  else if e.xferBusy h then bad .busy .none
  else
    match e.ctl.xfer with
    | none => bad .refused .checkFailed
    | some x =>
      let blocks := (List.range (n / 256)).map (offset / 256 + ·)
      if x.erasing || x.checking.isSome then bad .busy .none
      else if x.total < offset + n || blocks.any x.written.contains then bad .refused .checkFailed
      else
        let b := e.sys.inactive
        let e : Engine := { e with ctl := { e.ctl with xfer := some { x with written := x.written ++ blocks } } }
        { s with
          flash := s.flash.setSlot b (memWrite 0xFF (s.flash.slot b) offset data)
          eng := e.ok h 0x0602 }

def execXferData (t : Nat) (h : MsgHdr) (offset : Nat) (data : List Byte) (s : State) : Out :=
  s.runAll t fun s => s.request h 0x0602 (·.xferData h offset data)

/-- XFER_END (R471): the read-back starts; its response follows it. -/
def Engine.xferEnd (h : MsgHdr) (total crc : Nat) (e : Engine) : Engine :=
  let e := e.xferHeard h
  if 2 ^ 32 ≤ total ∨ 2 ^ 32 ≤ crc then e.refuse h 0x0603 .malformed .none
  else if e.xferBusy h then e.refuse h 0x0603 .busy .none
  else
    match e.ctl.xfer with
    | none => e.refuse h 0x0603 .refused .checkFailed
    | some x =>
      if x.erasing || x.checking.isSome then e.refuse h 0x0603 .busy .none
      else { e with ctl := { e.ctl with xfer := some { x with checking := some (total, crc), waiting := h.seq } } }

def execXferEnd (t : Nat) (h : MsgHdr) (total crc : Nat) (s : State) : Out :=
  s.run t fun e => e.request h 0x0603 (·.xferEnd h total crc)

/-- The checks of step 3 of R471. -/
def Xfer.passes (x : Xfer) (m : List Host.Cell) (total crc : Nat) : Bool :=
  total = x.total && crc32c (memBytes 0xFF m total 0) = crc && (List.range (x.total / 256)).all x.written.contains &&
    slotField m 0 4 = tuprMagic && slotField m 8 4 = x.generation

/-- XFER_CHECK_DONE (R471): the response to XFER_END; only a transfer that passes is complete. -/
def Engine.xferCheckDone (f : Flash) (e : Engine) : Engine :=
  match e.ctl.xfer with
  | none => e
  | some x =>
    match x.checking with
    | none => e
    | some (total, crc) =>
      let h : MsgHdr := ⟨x.owner, x.waiting⟩
      if x.passes (f.slot e.sys.inactive) total crc then
        let e : Engine := { e with ctl := { e.ctl with xfer := none, complete := e.sys.inactive :: e.ctl.complete.erase e.sys.inactive } }
        (e.ok h 0x0603).emit 0x0358 .imageXferDone []
      else
        let e : Engine := { e with ctl := { e.ctl with xfer := some { x with checking := none } } }
        e.refuse h 0x0603 .refused .checkFailed

def execXferCheckDone (t : Nat) (s : State) : Out := s.runWith t fun f _ e => e.xferCheckDone f

/-- XFER_ABORT (R471). -/
def Engine.xferAbort (h : MsgHdr) (e : Engine) : Engine :=
  if e.xferBusy h then e.refuse h 0x0604 .busy .none
  else if e.ctl.xfer.isNone then e.refuse h 0x0604 .refused .checkFailed
  else (e.xferAbandon 0).ok h 0x0604

def execXferAbort (t : Nat) (h : MsgHdr) (s : State) : Out := s.run t fun e => e.request h 0x0604 (·.xferAbort h)

/-- XFER_TIMEOUT (R471): 60 s without a request from the owner. -/
def Engine.xferTimeout (e : Engine) : Engine :=
  match e.ctl.xfer with
  | none => e
  | some x => if x.lastReq + secs 60 ≤ e.now then e.xferAbandon 1 else e

def execXferTimeout (t : Nat) (s : State) : Out := s.run t (·.xferTimeout)

end Sys2Proof.Machine
end

