-- ==== Sys2Proof/Machine/Tables.lean ====
section
/-! DEFINITION. Calibration table reloads (R145 to R147, R483), the statistics ring (R150 to R152), and the commands
TABLE_RELOAD, TABLE_LOAD_DONE, TABLE_RELOAD_DEADLINE, STATS_RECORD_DONE, STATS_READ, DEFECT_READ and TNR_STRENGTH. -/

namespace Sys2Proof.Machine

def Engine.addTnr (x : TnrChange) (e : Engine) : Engine :=
  { e with raw := { e.raw with tnrPend := e.raw.tnrPend ++ [x] } }

/-- TNR_STRENGTH (R104, R465). -/
def Engine.tnrStrength (h : MsgHdr) (tg : Target) (str : Nat) (e : Engine) : Engine :=
  if !targetOk tg false false || decide (240 < str) then e.refuse h 0x0205 .malformed .none
  else if !e.has 0x0020 then e.refuse h 0x0205 .refused .notConfigured
  else if !e.proj.run && !tg.asap then e.refuse h 0x0205 .state .noRun
  else
    let (c, late) := if e.proj.run then e.landing tg else (0, false)
    ((e.ok h 0x0205).addTnr ⟨c, str, h.client, 0x0205, h.seq⟩).landed h.client 0x0205 h.seq c 0 late false

def execTnrStrength (t : Nat) (h : MsgHdr) (tg : Target) (str : Nat) (s : State) : Out :=
  s.run t fun e => e.request h 0x0205 (·.tnrStrength h tg str)

/-- TNR_STR of frame c (R104). -/
def Engine.tnrStrAt (e : Engine) (c : Nat) : Nat :=
  match latestAt (·.cfn) e.raw.tnrPend c with
  | some x => x.str
  | none => e.raw.tnrStr

/-- Changes of TNR_STR up to frame c have no frame left to be read out before them. -/
def Engine.tnrSettle (c : Nat) (e : Engine) : Engine :=
  { e with raw := { e.raw with
    tnrStr := e.tnrStrAt c, tnrPend := e.raw.tnrPend.filter fun x => decide (0 < cfnDiff x.cfn c) } }

/-- Tables named in a mask of six. -/
def tablesOf (mask : Nat) : List Nat := (List.range 6).filter (mask.testBit ·)

/-- The port a table belongs to, if it belongs to one. -/
def tablePort (k : Nat) : Option Nat := if k < 4 then some (k % 2) else none

/-- TABLE_RELOAD is taken (R145): it waits for its tables. The response follows their check (log 32); while another
waits it is BUSY (DESIGN CHOICE, log 146). -/
def Engine.tableReload (h : MsgHdr) (tg : Target) (tables : Nat) (e : Engine) : Engine :=
  if !targetOk tg false false || tables = 0 || decide (63 < tables) then e.refuse h 0x0207 .malformed .none
  else if !e.has 0x0020 || ((tablesOf tables).filterMap tablePort).any (fun p => !e.cfg.hasPort p) then
    e.refuse h 0x0207 .refused .notConfigured
  else if !e.proj.run && !tg.asap then e.refuse h 0x0207 .state .noRun
  else if e.raw.reload.isSome then e.refuse h 0x0207 .busy .none
  else
    let r : Reload :=
      { mask := tables, target := if tg.asap then none else some tg.target, cfn := none, loads := [], loadedAt := none,
        client := h.client, ty := 0x0207, seq := h.seq, overrun := false, own := false, cal := false, fold := false }
    { e with raw := { e.raw with reload := some r } }

def execTableReload (t : Nat) (h : MsgHdr) (tg : Target) (tables : Nat) (s : State) : Out :=
  s.run t fun e => e.request h 0x0207 (·.tableReload h tg tables)

/-- Key of a defect entry (R127). -/
def Defect.key (d : Defect) : Nat := d.y * 16384 + d.x

/-- Defect entries keep the rules of R127 for a delivered frame of w x h. -/
def defectsOk (w h : Nat) : List Defect → Bool
  | [] => true
  | [d] => decide (d.x < w ∧ d.y < h ∧ d.ty ≠ 7)
  | d :: d' :: r => decide (d.x < w ∧ d.y < h ∧ d.ty ≠ 7 ∧ d.key < d'.key) && defectsOk w h (d' :: r)

/-- DEFECT (R127): COUNT0 and COUNT1, and the entries of a port. -/
def Cfg.defectCount (c : Cfg) (p : Nat) : Nat := c.f 0x21 p 22 0
def Cfg.defectWords (c : Cfg) (p : Nat) : List Word :=
  ((c.ws 0x21).drop (2 + if p = 0 then 0 else c.defectCount 0)).take (c.defectCount p)

/-- A calibration table as an image holds it (R122, R127, R137, R138). -/
def Cfg.tableWords (c : Cfg) (k : Nat) : List Word :=
  let raw (a n : Nat) : List Word := ((c.ws 0x0020).drop (c.rawHead + a)).take n
  match k with
  | 0 => c.defectWords 0
  | 1 => c.defectWords 1
  | 2 => raw 82 70418
  | 3 => raw (82 + 70418) 70418
  | 4 => raw 18 64
  | _ => raw 0 18

/-- The words of a calibration file of NS5 (R483): whole words, of a defect table behind their count, before the CRC-32C of the
file; none where the CRC or the count is wrong. -/
def calFileWords (k : Nat) (b : List Byte) : Option (List Word) :=
  let n := b.length - 4
  let ws := bytesWords (n / 4) (b.take n)
  if b.length < 4 ∨ n % 4 ≠ 0 ∨ crc32c (b.take n) ≠ unle (b.drop n) then none
  else if 2 ≤ k then some ws
  else match ws with
    | c :: r => if c.toNat = r.length then some r else none
    | [] => none

/-- The tables of a reload as firmware reads them (R145, R441, R483): of a calibration commit from the files of NS5, otherwise
from the active slot, whose sections have the CRC-32C of their entries; none where one cannot be read. Their TABLE_IDs are free
(log 74). -/
def Engine.reloadRead (f : Flash) (files : List CalFile) (r : Reload) (e : Engine) : Option (List TableLoad) :=
  let id (k : Nat) : Nat := Config.unstated 145 (8 * e.now + k) % 4294967296
  if r.cal then
    (tablesOf r.mask).mapM fun k => do
      let x ← files.find? (·.which = k)
      let ws ← calFileWords k x.bytes
      pure ⟨k, id k, ws⟩
  else
    let m := e.activeSlot f
    let used : List Nat := (if r.mask % 4 = 0 then [] else [0x21]) ++ if r.mask / 4 = 0 then [] else [0x20]
    if (slotEntries m).any fun x => used.contains x.id && decide (crc32c (x.bytes m) ≠ x.crc) then none
    else (slotConfig m).map fun c => (tablesOf r.mask).map fun k => ⟨k, id k, c.tableWords k⟩

/-- A table keeps the rules of R127, R137 or R138. -/
def Cfg.tableOk (c : Cfg) (l : TableLoad) : Bool :=
  match l.which with
  | 0 => defectsOk (c.width 0) (c.lines 0) (l.words.map defectOf)
  | 1 => defectsOk (c.width 1) (c.lines 1) (l.words.map defectOf)
  | 2 => l.words.length = 70418
  | 3 => l.words.length = 70418
  | 4 => l.words.length = 64
  | 5 => l.words.length = 18
  | _ => false

/-- Word of a POINT entry at (x, y) (Table 6.5). -/
def pointWord (x y : Nat) : Word := mkWord [(27, 14, y), (13, 0, x)]

/-- A defect table with the dynamic entries of its port folded in at their key order (R483). -/
def foldDyn (dyn : List (Nat × Nat × Nat)) (p : Nat) (ws : List Word) : List Word :=
  (dyn.filter (·.1 = p)).foldl (fun ws d =>
    if ws.any fun w => (defectOf w).key = d.2.2 * 16384 + d.2.1 then ws
    else insertAsc (fun a b => decide ((defectOf a).key < (defectOf b).key)) (pointWord d.2.1 d.2.2) ws) ws

/-- Tables a calibration commit brings: with FOLD_DYNAMIC every configured port's defect table, folded (R483). -/
def Engine.commitLoads (e : Engine) (loads : List TableLoad) : List TableLoad :=
  let ports := (List.range 2).filter e.cfg.hasPort
  let others := loads.filter fun l => !(l.which < 2)
  ports.map (fun p =>
    let l := (loads.find? (·.which = p)).getD ⟨p, vget e.raw.tables.ids p 0, vget e.raw.tables.words p []⟩
    { l with words := foldDyn e.raw.dyn p l.words }) ++ others

/-- Entries of the active defect tables and of new ones together (R147). -/
def Engine.defectRoom (e : Engine) (loads : List TableLoad) : Bool :=
  let new := ((loads.filter fun l => decide (l.which < 2)).map (·.words.length)).foldl (· + ·) 0
  decide ((vget e.raw.tables.words 0 []).length + (vget e.raw.tables.words 1 []).length + new ≤ 4194304)

/-- The end of a reload that is refused: its response, or its gated command fails (R145, R483). -/
def Engine.reloadRefused (r : Reload) (rs : Reason) (e : Engine) : Engine :=
  let e := { e with raw := { e.raw with reload := none } }.bump .tableRefused 0x0142
  let e := e.emit 0x0142 .tableRefused (le 2 rs.code)
  if r.cal then
    match e.ctl.staged with
    | some g => e.gatedFail g .refused rs
    | none => e
  else if r.loadedAt.isNone && !r.own then e.refuse ⟨r.client, r.seq⟩ r.ty .refused rs else e

/-- TABLE_LOAD_DONE (R145, R147): the tables are checked, and the reload lands or is refused whole. -/
def Engine.tableLoadDone (f : Flash) (files : List CalFile) (e : Engine) : Engine :=
  match e.raw.reload with
  | none => e
  | some r =>
    if r.loadedAt.isSome then e
    else
      let named := e.reloadRead f files r
      let loads := if r.cal && r.fold then e.commitLoads (named.getD []) else named.getD []
      if named.isNone || !loads.all e.cfg.tableOk then e.reloadRefused r .checkFailed
      else if !e.defectRoom loads then e.reloadRefused r .noRoom
      else
        let first := if e.proj.run then e.reachCfn else 0
        let c := match r.target with
          | some t => if cfnDiff t first < 0 then first else t
          | none => first
        let late := match r.target with
          | some t => decide (c ≠ t) && !r.overrun
          | none => false
        let r := { r with loads := loads, loadedAt := some e.now, cfn := some c }
        let e := { e with raw := { e.raw with reload := some r } }
        if r.cal then
          match e.ctl.staged with
          | some g => e.gatedDone g
          | none => e
        else if r.own then e
        else (e.ok ⟨r.client, r.seq⟩ r.ty).landed r.client r.ty r.seq c 0 late r.overrun

def execTableLoadDone (t : Nat) (defects others : List CalFile) (s : State) : Out :=
  s.run t fun e => e.whenLive (·.tableLoadDone s.flash (defects ++ others))

/-- TABLE_RELOAD_DEADLINE (R146): loading was not complete 2 ms before the target's slot. -/
def Engine.tableReloadDeadline (e : Engine) : Engine :=
  match e.raw.reload with
  | some r =>
    match r.target with
    | some c =>
      if r.loadedAt.isSome || r.overrun || decide ((e.now : Int) < e.slotBy c - ms 2) then e
      else
        let e := { e with raw := { e.raw with reload := some { r with overrun := true } } }
        let e := e.fwOverrun 0x0142 4 1 c 0
        { e with ports := e.ports.map fun q => if q.joined then { q with lateCfns := q.lateCfns ++ [c] } else q }
    | none => e
  | none => e

def execTableReloadDeadline (t : Nat) (s : State) : Out := s.run t fun e => e.whenLive (·.tableReloadDeadline)

/-- Path of a folded defect table on NS5 (R483). -/
def defectPath (p : Nat) : String := if p = 0 then "\\CAL\\DEFECT0.TBL" else "\\CAL\\DEFECT1.TBL"

/-- A file written on NS5, in place of one of the same path. -/
def putFile (fs : List NsFile) (f : NsFile) : List NsFile := fs.filter (·.path ≠ f.path) ++ [f]

/-- Defect table file: the count word, the entries and their CRC-32C (R483). -/
def defectFile (ws : List Word) : List Byte :=
  let b := le 4 ws.length ++ wordBytes ws
  b ++ le 4 (crc32c b)

/-- All loaded tables swap on CFN c (R145); dynamic entries at static positions leave the list (R131, R483). -/
def Engine.tableSwap (r : Reload) (c : Nat) (e : Engine) : Engine :=
  let tabs := r.loads.foldl (fun (t : CalTables) (l : TableLoad) =>
    ⟨vmod t.words l.which fun _ => l.words, vmod t.ids l.which fun _ => l.id⟩) e.raw.tables
  let gone (d : Nat × Nat × Nat) : Bool := r.loads.any fun (l : TableLoad) =>
    l.which = d.1 && l.words.any fun w => (defectOf w).key = d.2.2 * 16384 + d.2.1
  let e := { e with raw := { e.raw with
    tables := tabs
    reload := none
    oldTables := if e.proj.run then e.raw.oldTables ++ [(c, e.raw.tables)] else e.raw.oldTables
    dyn := e.raw.dyn.filter fun d => !gone d } }
  let e := e.bump .tableSwap 0x0142
  let e := e.emit 0x0142 .tableSwap (evData ((4, c) :: r.loads.map fun l => (4, l.id)))
  if r.cal then
    let folded := if r.fold then r.loads.filter fun l => decide (l.which < 2) else []
    let e := { e with cluster := { e.cluster with files := folded.foldl (fun fs (l : TableLoad) =>
      putFile fs ⟨defectPath l.which, defectFile l.words⟩) e.cluster.files } }
    e.emit 0x0383 .calCommitDone []
  else e

/-- The reload swaps at the start of slot c when it is due (R145). -/
def Engine.reloadAtSlot (c : Nat) (e : Engine) : Engine :=
  match e.raw.reload with
  | some r =>
    match r.loadedAt with
    | some at_ =>
      let due := match r.target with
        | some t => decide (0 ≤ cfnDiff c t)
        | none => true
      if due && decide ((at_ : Int) + ms 2 ≤ e.slotOf c) then e.tableSwap r c else e
    | none => e
  | none => e

/-- The run ends: a reload with a target CFN is refused (R146). -/
def Engine.reloadRunEnd (e : Engine) : Engine :=
  match e.raw.reload with
  | some r => if r.target.isSome then e.reloadRefused r .runEnded else e
  | none => e

/-- The accumulator of a source is needed: of two records unwritten the older is dropped (R152). -/
def Engine.statsNeed (src : Nat) (e : Engine) : Engine :=
  match vget e.raw.waiting src [] with
  | _ :: x :: r =>
    let e := { e with raw := { e.raw with waiting := vmod e.raw.waiting src fun _ => x :: r } }
    (e.bump .statsDrop 0x0143).emit 0x0143 .statsDrop []
  | _ => e

/-- A record accumulated, waiting to be written (R152); when one is dropped is the model's choice (log 147). -/
def Engine.statsPush (rec_ : StatsRec) (e : Engine) : Engine :=
  let e := e.statsNeed rec_.source
  { e with raw := { e.raw with waiting := vmod e.raw.waiting rec_.source fun w => w ++ [rec_] } }

/-- STATS_READY (Table 19.11). -/
def StatsRec.ready (r : StatsRec) (slot : Nat) : List Byte :=
  le 1 r.source ++ le 1 r.phase ++ le 2 slot ++ le 4 r.seq ++ le 4 r.cfn ++
    padTo 16 (r.mean.flatMap (le 4)) ++ padTo 16 (r.clip.flatMap (le 4))

/-- A record put into its slot. -/
def putSlot (l : List (Nat × StatsRec)) (slot : Nat) (r : StatsRec) : List (Nat × StatsRec) :=
  insertAsc (fun a b => decide (a.1 < b.1)) (slot, r) (l.filter (·.1 ≠ slot))

/-- STATS_RECORD_DONE (R150 to R152): the oldest record of a source is complete in the next slot. -/
def Engine.statsRecordDone (src : Nat) (e : Engine) : Engine :=
  match vget e.raw.waiting src [] with
  | [] => e
  | r :: rest =>
    let r := { r with seq := e.raw.nextSeq % 4294967296 }
    let slot := e.raw.nextSlot
    let notes := if e.cfg.statsNotify then e.raw.notes ++ [r.ready slot] else e.raw.notes
    let e := { e with raw := { e.raw with
      waiting := vmod e.raw.waiting src fun _ => rest
      ring := putSlot e.raw.ring slot r
      nextSlot := (slot + 1) % e.cfg.ringSlots
      nextSeq := e.raw.nextSeq + 1
      notes := notes.drop (notes.length - 64) } }
    e.bumpN .statsNotifyDrop 0x0143 0 (notes.length - 64)

def execStatsRecordDone (t : Nat) (src : Fin 3) (s : State) : Out :=
  s.run t fun e => e.whenLive (·.statsRecordDone src)

/-- The 57,344 bytes of a record (Table 6.8). -/
def StatsRec.bytes (r : StatsRec) : List Byte :=
  let head := le 4 r.cfn ++ le 4 r.pfn ++ le 8 r.stampS ++ le 4 r.stampNs ++ le 1 r.phase ++ le 1 r.source ++
    le 2 r.flags ++ le 2 1 ++ le 1 r.histMode ++ le 1 r.histShift ++ padTo 16 (r.black0.flatMap (le 4)) ++
    padTo 16 (r.black1.flatMap (le 4)) ++ le 4 r.seq
  let body := if r.source = 2 then
      padTo 1024 (r.hist.flatMap (le 4)) ++ padTo 576 (r.zones.flatMap (le 4))
    else padTo 16384 (r.hist.flatMap (le 4)) ++ padTo 36864 (r.zones.flatMap (le 4)) ++
      padTo 1152 (r.focus.flatMap (le 8)) ++ padTo 16 (r.clip.flatMap (le 4))
  let b := padTo 57340 (head ++ body)
  b ++ le 4 (crc32c b)

/-- STATS_READ (R151). A slot never written reads SEQ 0xFFFF_FFFF (Table 22.4), and else as DRAM happens to hold (log 24). -/
def Engine.statsRead (h : MsgHdr) (slot : Nat) (e : Engine) : Engine :=
  if 255 < slot then e.refuse h 0x0404 .malformed .none
  else if !e.has 0x0022 || decide (e.cfg.ringSlots ≤ slot) then e.refuse h 0x0404 .notFound .none
  else
    match e.raw.ring.find? (·.1 = slot) with
    | some r => e.reply h 0x0404 .ok .none r.2.bytes
    | none =>
      let b := freeBytes 151 slot 57344
      e.reply h 0x0404 .ok .none (b.take 60 ++ le 4 0xFFFFFFFF ++ b.drop 64)

def execStatsRead (t : Nat) (h : MsgHdr) (slot : Nat) (s : State) : Out :=
  s.run t fun e => e.request h 0x0404 (·.statsRead h slot)

/-- DEFECT_READ (R131): entries of the dynamic list of a port. -/
def Engine.defectRead (h : MsgHdr) (first count port : Nat) (e : Engine) : Engine :=
  if 1 < port ∨ count = 0 ∨ 16000 < count then e.refuse h 0x0405 .malformed .none
  else if !e.cfg.hasPort port then e.refuse h 0x0405 .notFound .none
  else
    let l := e.raw.dyn.filter (·.1 = port)
    let part := (l.drop first).take count
    e.reply h 0x0405 .ok .none (le 4 l.length ++ le 2 part.length ++ le 2 0 ++
      part.flatMap fun d => le 4 (packWord [(30, 28, 6), (27, 14, d.2.2), (13, 0, d.2.1)]))

def execDefectRead (t : Nat) (h : MsgHdr) (first count port : Nat) (s : State) : Out :=
  s.run t fun e => e.request h 0x0405 (·.defectRead h first count port)

end Sys2Proof.Machine
end

