-- ==== Sys2Proof/Machine/Looks.lean ====
section
/-! DEFINITION. White balance, LUT selections, LUT loads and scene profiles (R160, R161, R178 to R182, R453, R470), and
the commands WB_ISO, LUT_SELECT, PROFILE_SELECT, LUT_LOAD, LUT_LOAD_DONE, LUT_LOAD_DEADLINE, MATRIX_DEADLINE and
SELECTION_DEADLINE. -/

namespace Sys2Proof.Machine

/-- Why a white balance is refused, if it is (R160, R14). -/
def Engine.wbRefusal (e : Engine) (p cct : Nat) (tint : Int) (iso : Nat) : Option (Status × Reason) :=
  if !e.cfg.hasPort p || !e.has 0x0030 then some (.refused, .notConfigured)
  else if (e.cfg.inputMatrix p cct tint iso).isNone then some (.refused, .checkFailed)
  else none

def Engine.addWb (p : Nat) (x : WbChange) (e : Engine) : Engine :=
  { e with colour := { e.colour with ports := vmod e.colour.ports p fun q => { q with pend := q.pend ++ [x] } } }

/-- WB_ISO (R160, R161, R465). -/
def Engine.wbIso (h : MsgHdr) (tg : Target) (cct : Nat) (tint : Int) (iso : Nat) (e : Engine) : Engine :=
  if !targetOk tg true false || decide (tint < -128 ∨ 127 < tint) then e.refuse h 0x0202 .malformed .none
  else
    match e.wbRefusal tg.port cct tint iso with
    | some (st, rs) => e.refuse h 0x0202 st rs
    | none =>
      if !e.proj.run && !tg.asap then e.refuse h 0x0202 .state .noRun
      else
        let (c, late) := if e.proj.run then e.landing tg else (0, false)
        ((e.ok h 0x0202).addWb tg.port ⟨c, cct, tint, iso, h.client, 0x0202, h.seq⟩).landed
          h.client 0x0202 h.seq c tg.port late false

def execWbIso (t : Nat) (h : MsgHdr) (tg : Target) (cct : Nat) (tint : Int) (iso : Nat) (s : State) : Out :=
  s.run t fun e => e.request h 0x0202 (·.wbIso h tg cct tint iso)

/-- Slots that a request may name for a branch. -/
def slotCode (s : Nat) : Bool := decide (s < 16) || s = 31

/-- The LUT store as it is lets branch b of a configuration select slot k (R178). -/
def Engine.storeFits (e : Engine) (c : Cfg) (b k : Nat) : Bool :=
  !e.colour.readsEmpty.contains k && match vget e.colour.slots k none with
    | some (_, l) => (l.shaperId = 0 || l.shaperId = c.brShaperId b) && (l.fmt ≠ 0 || l.encoding = c.brEncode b)
    | none => false

/-- Why branch b may not select a slot, if it may not (R178). -/
def Engine.selectRefusal (e : Engine) (b slot : Nat) : Option (Status × Reason) :=
  if !e.cfg.hasBranch b then some (.refused, .notConfigured)
  else if slot = 31 then none
  else if e.colour.readsEmpty.contains slot || (vget e.colour.slots slot none).isNone then some (.refused, .emptySlot)
  else if e.storeFits e.cfg b slot then none else some (.refused, .checkFailed)

def Engine.addSel (b : Nat) (x : LutSel) (e : Engine) : Engine :=
  { e with colour := { e.colour with branches := vmod e.colour.branches b fun q => { q with sels := q.sels ++ [x] } } }

/-- Branches named in a mask of six, with their slots. -/
def namedBranches (mask : Nat) (slots : List Nat) : List (Nat × Nat) :=
  ((List.range 6).filter (mask.testBit ·)).map fun b => (b, slots.getD b 31)

/-- LUT_SELECT (R178, R179, R465). -/
def Engine.lutSelect (h : MsgHdr) (tg : Target) (branches : Nat) (slots : List Nat) (e : Engine) : Engine :=
  let named := namedBranches branches slots
  if !targetOk tg false false || decide (63 < branches) || decide (slots.length ≠ 6) || !slots.all slotCode then
    e.refuse h 0x0203 .malformed .none
  else
    match named.findSome? fun q => e.selectRefusal q.1 q.2 with
    | some (st, rs) => e.refuse h 0x0203 st rs
    | none =>
      let add (cfn : Option Nat) (e : Engine) : Engine :=
        named.foldl (fun e q => e.addSel q.1 ⟨q.2, cfn, e.now + ms 2, h.client, 0x0203, h.seq⟩) e
      if e.proj.run then
        let (c, late) := e.landing tg
        (add (some c) (e.ok h 0x0203)).landed h.client 0x0203 h.seq c 0 late false
      else if !tg.asap then e.refuse h 0x0203 .state .noRun
      else (add none (e.ok h 0x0203)).landed h.client 0x0203 h.seq 0xFFFFFFFF 0 false false

def execLutSelect (t : Nat) (h : MsgHdr) (tg : Target) (branches : Nat) (slots : List Nat) (s : State) : Out :=
  s.run t fun e => e.request h 0x0203 (·.lutSelect h tg branches slots)

/-- Selections made outside a run take effect at a project frame boundary 2 ms or more after their receipt (R465). -/
def Engine.selsAtBoundary (e : Engine) : Engine :=
  { e with colour := { e.colour with branches := e.colour.branches.map fun q =>
    let due := q.sels.filter fun s => s.cfn.isNone && decide (s.notBefore ≤ e.now)
    match due.getLast? with
    | none => q
    | some s => { q with chosen := some s.slot, sels := q.sels.filter fun s => !due.contains s } } }

/-- Bits of word i of profile n (Table 19.14). -/
def Cfg.prof (c : Cfg) (n i hi lo : Nat) : Nat := c.f 0x00D0 (1 + 16 * n + i) hi lo
def Cfg.profParts (c : Cfg) (n : Nat) : Nat := c.prof n 4 7 0

/-- Parts of a profile for port p: EXP and GAIN groups, exposure, gain, and white balance. -/
def Cfg.profGroups (c : Cfg) (n p : Nat) : Nat := c.profParts n / 2 ^ (3 * p) % 4
def Cfg.profWb (c : Cfg) (n p : Nat) : Bool := (c.profParts n).testBit (3 * p + 2)
def Cfg.profExp (c : Cfg) (n p : Nat) : Nat := c.prof n (if p = 0 then 5 else 7) 31 0
def Cfg.profGain (c : Cfg) (n p : Nat) : Nat := if p = 0 then c.prof n 6 31 24 else c.prof n 6 23 16
def Cfg.profCct (c : Cfg) (n p : Nat) : Nat := c.prof n (if p = 0 then 8 else 10) 31 16
def Cfg.profIso (c : Cfg) (n p : Nat) : Nat := c.prof n (if p = 0 then 8 else 10) 15 0
def Cfg.profTint (c : Cfg) (n p : Nat) : Int := signedOf 8 (if p = 0 then c.prof n 9 31 24 else c.prof n 9 23 16)
/-- Branches and slots a profile's LUTS part sets. -/
def Cfg.profLuts (c : Cfg) (n : Nat) : List (Nat × Nat) :=
  if (c.profParts n).testBit 6 then
    namedBranches (c.prof n 4 13 8) ((List.range 6).map fun b => c.prof n 11 (5 * b + 4) (5 * b))
  else []

/-- Why a profile is refused, if it is: any part refused under R14 (R470). -/
def Engine.profileRefusal (e : Engine) (n mask : Nat) : Option (Status × Reason) :=
  let c := e.cfg
  let sensor (p : Nat) : Option (Status × Reason) :=
    if c.profGroups n p = 0 then none
    else e.settingsRefusal p mask (c.profGroups n p) (c.profGain n p) 0
  let wb (p : Nat) : Option (Status × Reason) :=
    if c.profWb n p then e.wbRefusal p (c.profCct n p) (c.profTint n p) (c.profIso n p) else none
  let tnr : Option (Status × Reason) :=
    if (c.profParts n).testBit 7 then
      if !e.has 0x0020 then some (.refused, .notConfigured)
      else if 240 < c.prof n 6 15 8 then some (.refused, .checkFailed) else none
    else none
  ([sensor 0, wb 0, sensor 1, wb 1, tnr] ++ (c.profLuts n).map fun q => e.selectRefusal q.1 q.2).findSome? id

/-- The CFN all parts of a profile land on (R453), and whether its target was missed. -/
def Engine.profileLand (e : Engine) (n : Nat) (tg : Target) : Nat × Bool :=
  let sens := [0, 1].filter fun p => e.cfg.profGroups n p ≠ 0
  let inMask (c : Nat) : Nat := if sens.isEmpty then c else e.cfg.inMask tg.phaseMask c
  if !e.proj.run then (inMask 0, false)
  else
    let first := latestCfn (e.reachCfn :: sens.flatMap fun p => (groupsOf (e.cfg.profGroups n p)).map (e.reach p))
    let c := if tg.asap ∨ cfnDiff tg.target first < 0 then first else tg.target
    let c := inMask c
    (c, !tg.asap && decide (c ≠ tg.target))

/-- Every part of a profile scheduled for frame c (R470). -/
def Engine.addProfile (h : MsgHdr) (n mask c : Nat) (e : Engine) : Engine :=
  let cf := e.cfg
  let ports := [0, 1]
  let e := ports.foldl (fun e p =>
    if cf.profGroups n p = 0 then e
    else e.addChange p ⟨c, mask, cf.profGroups n p, ⟨cf.profExp n p, cf.profGain n p, 0, 0, 0⟩, h.client, 0x0204, h.seq⟩) e
  let e := ports.foldl (fun e p =>
    if cf.profWb n p then e.addWb p ⟨c, cf.profCct n p, cf.profTint n p, cf.profIso n p, h.client, 0x0204, h.seq⟩ else e) e
  let e := (cf.profLuts n).foldl (fun e q => e.addSel q.1 ⟨q.2, some c, e.now, h.client, 0x0204, h.seq⟩) e
  let e := if (cf.profParts n).testBit 7 then e.addTnr ⟨c, cf.prof n 6 15 8, h.client, 0x0204, h.seq⟩ else e
  { e with md := { e.md with profs := e.md.profs ++ [⟨c, n, h.client, h.seq⟩] } }

/-- PROFILE_SELECT (R470, R453, R465). -/
def Engine.profileSelect (h : MsgHdr) (tg : Target) (n : Nat) (e : Engine) : Engine :=
  if !targetOk tg false true then e.refuse h 0x0204 .malformed .none
  else if e.cf 0x00D0 0 5 0 ≤ n then e.refuse h 0x0204 .notFound .none
  else
    match e.profileRefusal n tg.phaseMask with
    | some (st, rs) => e.refuse h 0x0204 st rs
    | none =>
      if !e.proj.run && !tg.asap then e.refuse h 0x0204 .state .noRun
      else
        let (c, late) := e.profileLand n tg
        ((e.ok h 0x0204).addProfile h n tg.phaseMask c).landed h.client 0x0204 h.seq c 0 late false

def execProfileSelect (t : Nat) (h : MsgHdr) (tg : Target) (profile : Nat) (s : State) : Out :=
  s.run t fun e => e.request h 0x0204 (·.profileSelect h tg profile)

/-- Every part of the profile a client asked for moves from frame c to the next (R453). -/
def Engine.moveProfile (cl : Client) (seq c : Nat) (e : Engine) : Engine :=
  let d := cfnAdd c 1
  let mine (ty : Nat) (x : Client) (sq : Nat) : Bool := decide (ty = 0x0204 ∧ x = cl ∧ sq = seq)
  let chg (x : Change) : Change := if mine x.ty x.owner x.seq ∧ x.from_ = (c : Int) then { x with from_ := d } else x
  let tnr (x : TnrChange) : TnrChange := if mine x.ty x.client x.seq ∧ x.cfn = c then { x with cfn := d } else x
  let wb (x : WbChange) : WbChange := if mine x.ty x.client x.seq ∧ x.cfn = c then { x with cfn := d } else x
  let sel (x : LutSel) : LutSel := if mine x.ty x.client x.seq ∧ x.cfn = some c then { x with cfn := some d } else x
  let pro (x : ProfSel) : ProfSel := if x.client = cl ∧ x.seq = seq ∧ x.cfn = c then { x with cfn := d } else x
  let onPort (q : Port) : Port := { q with changes := q.changes.map chg }
  let onCol (q : ColourPort) : ColourPort := { q with pend := q.pend.map wb }
  let onBranch (q : Branch) : Branch := { q with sels := q.sels.map sel }
  { e with
    ports := e.ports.map onPort
    raw := { e.raw with tnrPend := e.raw.tnrPend.map tnr }
    md := { e.md with profs := e.md.profs.map pro }
    colour := { e.colour with ports := e.colour.ports.map onCol, branches := e.colour.branches.map onBranch } }

/-- Frame c of a port has missed a deadline of R11: its record is INCOMPLETE. -/
def Engine.incomplete (p c : Nat) (e : Engine) : Engine :=
  e.modPort p fun q => { q with lateCfns := q.lateCfns ++ [c] }

/-- MATRIX_DEADLINE (R161): a matrix due on the next slot's frame is not ready. -/
def Engine.matrixDeadline (p : Nat) (ready : Bool) (e : Engine) : Engine :=
  let c := e.proj.nextCfn
  let due := (vget e.colour.ports p ColourPort.reset).pend.filter (·.cfn = c)
  if ready || !e.proj.run || due.isEmpty then e
  else
    let e := (e.incomplete p c).fwOverrun (0x0148 + p) 2 1 c p
    due.foldl (fun e x =>
      let e :=
        if x.ty = 0x0204 then e.moveProfile x.client x.seq c
        else
          let late (y : WbChange) : WbChange := if y = x then { y with cfn := cfnAdd c 1 } else y
          { e with colour := { e.colour with ports := vmod e.colour.ports p fun q => { q with pend := q.pend.map late } } }
      e.landed x.client x.ty x.seq (cfnAdd c 1) (if x.ty = 0x0204 then 0 else p) false true) e

def execMatrixDeadline (t : Nat) (p : Fin 2) (ready : Bool) (s : State) : Out :=
  s.run t fun e => e.whenLive (·.matrixDeadline p ready)

/-- A list without repeats, first places kept. -/
def nubList {α : Type} [DecidableEq α] (l : List α) : List α :=
  (l.foldl (fun a x => if a.contains x then a else x :: a) []).reverse

/-- Ports that a profile has a part for. -/
def Cfg.profPorts (c : Cfg) (n : Nat) : List Nat := [0, 1].filter fun p => c.profGroups n p ≠ 0 || c.profWb n p

/-- A profile without a LUT selection misses its deadline (R453, R11): the miss counts once, for the cluster (log 139). -/
def Engine.profileMissed (c : Nat) (x : ProfSel) (e : Engine) : Engine :=
  (((e.cfg.profPorts x.profile).foldl (fun e p => e.incomplete p c) e).fwOverrun 0x0350 3 1 c 0).moveProfile x.client x.seq c

/-- SELECTION_DEADLINE (R453): LUT selections, or a profile, due on the next slot's frame are not ready. -/
def Engine.selectionDeadline (ready : Bool) (e : Engine) : Engine :=
  let c := e.proj.nextCfn
  let due := (List.range 6).flatMap fun b =>
    ((vget e.colour.branches b Branch.reset).sels.filter (·.cfn = some c)).map fun x => (b, x)
  let bare := e.md.profs.filter fun x => x.cfn = c && !due.any fun q => q.2.ty = 0x0204 && q.2.client = x.client && q.2.seq = x.seq
  if ready || !e.proj.run || (due.isEmpty && bare.isEmpty) then e
  else
    let e := bare.foldl (fun e x => (e.profileMissed c x).landed x.client 0x0204 x.seq (cfnAdd c 1) 0 false true) e
    let e := due.foldl (fun e q => (e.incomplete (e.cfg.brSrc q.1) c).fwOverrun (0x0150 + q.1) 3 1 c q.1) e
    let late (x : LutSel) : LutSel :=
      if x.cfn = some c ∧ x.ty ≠ 0x0204 then { x with cfn := some (cfnAdd c 1) } else x
    let onBranch (q : Branch) : Branch := { q with sels := q.sels.map late }
    let e := { e with colour := { e.colour with branches := e.colour.branches.map onBranch } }
    (nubList (due.map fun q => (q.2.client, q.2.ty, q.2.seq))).foldl (fun e k =>
      let e := if k.2.1 = 0x0204 then e.moveProfile k.1 k.2.2 c else e
      e.landed k.1 k.2.1 k.2.2 (cfnAdd c 1) 0 false true) e

def execSelectionDeadline (t : Nat) (ready : Bool) (s : State) : Out :=
  s.run t fun e => e.whenLive (·.selectionDeadline ready)

/-- Buffers that no slot and no load holds (R180). -/
def Engine.freeBuffers (e : Engine) (extra : List Nat) : List Nat :=
  let held := (e.colour.slots.toList.filterMap fun x => x.map (·.1)) ++
    (e.colour.loads.flatMap fun l => l.slots.filterMap (·.2.2)) ++ extra
  (List.range 16).filter fun b => !held.contains b

/-- A selection has not taken effect: it waits for a boundary, or for its frame. -/
def Engine.selWaits (e : Engine) (x : LutSel) : Bool :=
  match x.cfn, e.frameNow with
  | some c, some n => decide (0 < cfnDiff c n)
  | _, _ => true

/-- A branch selects slot k now, or a selection that names it waits (R180). -/
def Engine.slotInUse (e : Engine) (k : Nat) : Bool :=
  (List.range 6).any fun b =>
    e.cfg.hasBranch b && (e.slotAt b e.frameNow = k ||
      (vget e.colour.branches b Branch.reset).sels.any fun x => x.slot = k && e.selWaits x)

/-- Where each entry of a load goes: a free buffer, its own, or none for a clear; or why it is refused (R180). -/
def Engine.placeLoads (e : Engine) : List LutEntry → List (Nat × Nat × Option Nat) → List Nat →
    Except (Status × Reason) (List (Nat × Nat × Option Nat) × List Nat)
  | [], done, own => .ok (done, own)
  | x :: r, done, own =>
    if done.any (·.1 = x.slot) || e.colour.loads.any (fun l => l.slots.any (·.1 = x.slot)) then .error (.busy, .none)
    else if x.source = 2 then
      if e.slotInUse x.slot then .error (.refused, .inUse) else e.placeLoads r (done ++ [(x.slot, 2, none)]) own
    else
      match e.freeBuffers (done.filterMap (·.2.2)) with
      | b :: _ => e.placeLoads r (done ++ [(x.slot, x.source, some b)]) own
      | [] =>
        match vget e.colour.slots x.slot none with
        | some (b, _) =>
          if e.slotInUse x.slot then .error (.refused, .inUse)
          else e.placeLoads r (done ++ [(x.slot, x.source, some b)]) (own ++ [x.slot])
        | none => .error (.refused, .inUse)

/-- CFN a load lands on once it is loaded, and whether a named target was missed (R181). -/
def Engine.lutLand (e : Engine) (target : Option Nat) : Nat × Bool :=
  if e.proj.run then
    let first := e.reachCfn
    match target with
    | some t => if cfnDiff t first < 0 then (first, true) else (t, false)
    | none => (first, false)
  else (0xFFFFFFFF, false)

/-- A load is loaded: its response, and LANDED (R181, R465; log 32). -/
def Engine.lutLoaded (l : LutPend) (recs : List (Nat × Option LutData)) (e : Engine) : Engine :=
  let (c, late) := e.lutLand l.target
  let l' := { l with recs := recs, loadedAt := some e.now, cfn := some c }
  let e := { e with colour := { e.colour with loads := e.colour.loads.map fun x => if x = l then l' else x } }
  if l.own then e
  else (e.ok ⟨l.client, l.seq⟩ 0x0206).landed l.client 0x0206 l.seq c 0 (late && !l.overrun) l.overrun

/-- LUT_LOAD (R180). -/
def Engine.lutLoad (h : MsgHdr) (tg : Target) (entries : List LutEntry) (e : Engine) : Engine :=
  if !targetOk tg false false || entries.isEmpty || decide (16 < entries.length) ||
      entries.any (fun x => decide (15 < x.slot ∨ 2 < x.source)) then e.refuse h 0x0206 .malformed .none
  else if !e.has 0x0031 && !(List.range 6).any e.cfg.hasBranch then e.refuse h 0x0206 .refused .notConfigured
  else if !e.proj.run && !tg.asap then e.refuse h 0x0206 .state .noRun
  else
    match e.placeLoads entries [] [] with
    | .error (st, rs) => e.refuse h 0x0206 st rs
    | .ok (slots, own) =>
      let l : LutPend :=
        { slots := slots, target := if tg.asap then none else some tg.target, cfn := none, recs := [], loadedAt := none,
          overrun := false, own := false, client := h.client, seq := h.seq }
      let e := { e with colour := { e.colour with
        loads := e.colour.loads ++ [l], readsEmpty := e.colour.readsEmpty ++ own } }
      if slots.all (·.2.2.isNone) then e.lutLoaded l (slots.map fun x => (x.1, none)) else e

def execLutLoad (t : Nat) (h : MsgHdr) (tg : Target) (entries : List LutEntry) (s : State) : Out :=
  s.run t fun e => e.request h 0x0206 (·.lutLoad h tg entries)

/-- The content of a LUT record's words (Table 7.7). -/
def lutDataOf (ws : List Word) : LutData :=
  { lutId := (ws.getD 0 0).toNat, desc := ws.getD 1 0, shaperId := (ws.getD 2 0).toNat
    nodes := (List.range 823875).map fun i => half ws (6 + i) }

/-- A record keeps R176 and R177: its size, its descriptor, and no infinity or NaN in a binary16 entry. -/
def lutRecOk (ws : List Word) : Bool :=
  let l := lutDataOf ws
  decide (ws.length = 411942) && wfield l.desc 26 0 = 0 &&
    (if l.fmt = 0 then decide (l.encoding ≤ 3)
     else l.fmt = 1 && l.encoding = 7 && l.nodes.all fun v => decide (v / 1024 % 32 ≠ 31))

/-- A load is refused whole: every slot keeps its content (R181). -/
def Engine.lutRefused (l : LutPend) (slot : Nat) (st : Status) (rs : Reason) (e : Engine) : Engine :=
  let e := { e with colour := { e.colour with
    loads := e.colour.loads.filter (· ≠ l)
    readsEmpty := e.colour.readsEmpty.filter fun k => !l.slots.any (·.1 = k) } }
  let e := (e.bump .lutRefused 0x0158).emit 0x0158 .lutRefused (evData [(1, slot), (2, rs.code)])
  if l.own then e else e.refuse ⟨l.client, l.seq⟩ 0x0206 st rs

/-- CRC of a LUT record: CRC-32C of bytes 0 to 1,647,761, at bytes 1,647,762 to 1,647,765 (Table 7.7). -/
def lutCrcOk (bs : List Byte) : Bool := crc32c (bs.take 1647762) = unle ((bs.drop 1647762).take 4)

/-- LUTSTORE (R176): which slots the image loads, and their records. -/
def Cfg.lutPresent (c : Cfg) (k : Nat) : Bool := decide (k < 16) && c.has 0x38 && c.b 0x38 0 k
def Cfg.lutWords (c : Cfg) (k : Nat) : List Word :=
  ((c.ws 0x38).drop (1 + 411942 * ((List.range k).filter c.lutPresent).length)).take 411942

/-- A record that firmware reads for a load (R180, R181): the bytes of a file on NS5, which holds exactly one record, or those of
the slot's record in the LUTSTORE section of the active slot. The error is why it cannot be used. -/
def Engine.lutRead (f : Flash) (files : List LutFile) (source k : Nat) (e : Engine) : Except (Status × Reason) LutData :=
  let check (bs : List Byte) : Except (Status × Reason) LutData :=
    let ws := bytesWords 411942 (bs ++ [0, 0])
    if bs.length = 1647766 && lutCrcOk bs && lutRecOk ws then .ok (lutDataOf ws) else .error (.refused, .checkFailed)
  if source = 1 then
    match files.find? (·.slot = k) with
    | some x => check x.bytes
    | none => .error (.notFound, .none)
  else
    match slotConfig (e.activeSlot f) with
    | some c => if c.lutPresent k then check ((wordBytes (c.lutWords k)).take 1647766) else .error (.notFound, .none)
    | none => .error (.refused, .checkFailed)

/-- LUT_LOAD_DONE (R181): the records of the oldest load not yet loaded have been read. A record that is not there refuses it
before one that fails its check. -/
def Engine.lutLoadDone (f : Flash) (files : List LutFile) (e : Engine) : Engine :=
  match e.colour.loads.find? (·.loadedAt.isNone) with
  | none => e
  | some l =>
    let got := (l.slots.filter (·.2.2.isSome)).map fun x => (x.1, e.lutRead f files x.2.1 x.1)
    let bad (st : Status) : Option (Nat × Reason) := got.findSome? fun x => match x.2 with
      | .error r => if r.1 = st then some (x.1, r.2) else none
      | .ok _ => none
    match bad .notFound, bad .refused with
    | some x, _ => e.lutRefused l x.1 .notFound x.2
    | none, some x => e.lutRefused l x.1 .refused x.2
    | none, none => e.lutLoaded l (l.slots.map fun x =>
        (x.1, (got.find? (·.1 = x.1)).bind fun y => y.2.toOption))

def execLutLoadDone (t : Nat) (files : List LutFile) (s : State) : Out :=
  s.run t fun e => e.whenLive (·.lutLoadDone s.flash files)

/-- The load whose target's deadline has passed: of several, that of the earliest target (R181). -/
def Engine.lutOverdue (e : Engine) : Option LutPend :=
  let late := e.colour.loads.filter fun l => l.loadedAt.isNone && !l.overrun && match l.target with
    | some c => decide (e.slotBy c - ms 2 ≤ e.now)
    | none => false
  late.find? fun l => late.all fun x => decide (0 ≤ cfnDiff (x.target.getD 0) (l.target.getD 0))

/-- LUT_LOAD_DEADLINE (R181): a load with a target is not complete 2 ms before its slot. -/
def Engine.lutLoadDeadline (e : Engine) : Engine :=
  match e.lutOverdue with
  | none => e
  | some l =>
    let c := l.target.getD 0
    let e := { e with colour := { e.colour with loads := e.colour.loads.map fun x =>
      if x = l then { x with overrun := true } else x } }
    let e := e.fwOverrun 0x0158 5 1 c 0
    { e with ports := e.ports.map fun q => if q.joined then { q with lateCfns := q.lateCfns ++ [c] } else q }

def execLutLoadDeadline (t : Nat) (s : State) : Out := s.run t fun e => e.whenLive (·.lutLoadDeadline)

/-- The slots of a load swap: in a run on CFN c (R181), otherwise c is 0xFFFF_FFFF. -/
def Engine.lutSwap (l : LutPend) (c : Nat) (e : Engine) : Engine :=
  let old := l.slots.map fun x => (c, x.1, (vget e.colour.slots x.1 none).map (·.2))
  let slots := l.slots.foldl (fun v x =>
    let d := (l.recs.find? (·.1 = x.1)).bind (·.2)
    vmod v x.1 fun _ => match x.2.2, d with
      | some b, some d => some (b, d)
      | _, _ => none) e.colour.slots
  let isNs5 (x : Nat × Nat × Option Nat) : Bool := x.2.1 = 1
  let fromNs5 := (e.colour.fromNs5.filter fun k => !l.slots.any (·.1 = k)) ++ (l.slots.filter isNs5).map (·.1)
  let e := { e with colour := { e.colour with
    slots := slots
    fromNs5 := fromNs5
    readsEmpty := e.colour.readsEmpty.filter fun k => !l.slots.any (·.1 = k)
    oldLuts := if e.proj.run then e.colour.oldLuts ++ old else e.colour.oldLuts
    loads := e.colour.loads.filter (· ≠ l) } }
  let ids := l.recs.map fun r => match r.2 with
    | some d => (4, d.lutId)
    | none => (4, 0)
  (e.bump .lutSwap 0x0158).emit 0x0158 .lutSwap (evData ((4, c) :: ids))

/-- Loads that swap at a boundary that starts at an instant: those loaded 2 ms before it, and in a run at or after their
target. -/
def Engine.lutSwaps (c : Option Nat) (at_ : Int) (e : Engine) : Engine :=
  (e.colour.loads.filter fun l =>
    match l.loadedAt with
    | none => false
    | some t => decide ((t : Int) + ms 2 ≤ at_) && match c, l.target with
      | some c, some tg => decide (0 ≤ cfnDiff c tg)
      | _, _ => true).foldl (fun e l => e.lutSwap l (c.getD 0xFFFFFFFF)) e

/-- PROFILE of frame c: the last profile landed (Table 21.1). -/
def Engine.profileAt (e : Engine) (c : Nat) : Nat :=
  match latestAt (·.cfn) e.md.profs c with
  | some x => x.profile
  | none => e.md.profile

/-- Profiles up to frame c have no frame left to be read out before them. -/
def Engine.profSettle (c : Nat) (e : Engine) : Engine :=
  { e with md := { e.md with
    profile := e.profileAt c, profs := e.md.profs.filter fun x => decide (0 < cfnDiff x.cfn c) } }

/-- What no frame still to be read out needs any more leaves the schedules of looks, tables and strength, at slot c. -/
def Engine.settleLooks (c : Nat) (e : Engine) : Engine :=
  let d := cfnAdd c (-(inFlight : Int))
  let keep (x : Nat) : Bool := decide (0 < cfnDiff x d)
  let settleSel (b : Branch) : Branch :=
    match latestAt (fun s => s.cfn.getD 0) (b.sels.filter (·.cfn.isSome)) d with
    | some s => { b with chosen := some s.slot, sels := b.sels.filter fun s => match s.cfn with
        | some x => keep x
        | none => true }
    | none => b
  let settleWb (q : ColourPort) : ColourPort :=
    match latestAt (·.cfn) q.pend d with
    | some x => { q with cct := x.cct, tint := x.tint, iso := x.iso, pend := q.pend.filter fun x => keep x.cfn }
    | none => q
  let e := (e.tnrSettle d).profSettle d
  { e with
    raw := { e.raw with oldTables := e.raw.oldTables.filter fun x => keep x.1 }
    colour := { e.colour with
      ports := e.colour.ports.map settleWb
      branches := e.colour.branches.map settleSel
      oldLuts := e.colour.oldLuts.filter fun x => keep x.1 } }

/-- The run starts: its first run after a full restart takes the INIT values (R161). -/
def Engine.looksRunStart (e : Engine) : Engine :=
  let init (p : Nat) (q : ColourPort) : ColourPort :=
    if q.inited then q
    else { q with inited := true, cct := e.cfg.col p 2 31 16, tint := signedOf 8 (e.cfg.col p 2 15 8)
                  iso := e.cfg.col p 1 15 0 }
  { e with colour := { e.colour with ports := vmod (vmod e.colour.ports 0 (init 0)) 1 (init 1) } }

/-- The run ends (R161, R179; log 38): what has landed stays in effect; LUT selections that have not wait for a
boundary, and other changes that have not are dropped. -/
def Engine.looksRunEnd (e : Engine) : Engine :=
  let c := cfnAdd e.proj.nextCfn (-1)
  let endWb (q : ColourPort) : ColourPort :=
    match latestAt (·.cfn) q.pend c with
    | some x => { q with cct := x.cct, tint := x.tint, iso := x.iso, pend := [] }
    | none => { q with pend := [] }
  let endSel (b : Branch) : Branch :=
    let landed := latestAt (fun s => s.cfn.getD 0) (b.sels.filter (·.cfn.isSome)) c
    { b with chosen := (landed.map (·.slot)).orElse fun _ => b.chosen
             sels := (b.sels.filter fun s => match s.cfn with
               | some x => decide (0 < cfnDiff x c)
               | none => true).map fun s => { s with cfn := none } }
  { e with
    md := { e.md with profile := e.profileAt c, profs := [] }
    raw := { e.raw with tnrStr := e.tnrStrAt c, tnrPend := [], oldTables := [] }
    colour := { e.colour with
      ports := e.colour.ports.map endWb
      branches := e.colour.branches.map endSel
      loads := e.colour.loads.map fun l => { l with target := none }
      oldLuts := [] } }

end Sys2Proof.Machine
end

