-- ==== Sys2Proof/Machine/HevcDec.lean ====
section
/-! DEFINITION. The HEVC decoder (R228, R239 to R243), and the commands HEVC_ACCESS_UNIT_RX, HEVC_DECODE_PICTURE and
HEVC_DECODE_LATE. -/

namespace Sys2Proof.Machine

def Engine.dec (e : Engine) (d : Nat) : HevcDec := vget e.hevc.decs d HevcDec.reset
def Engine.modDec (d : Nat) (f : HevcDec → HevcDec) (e : Engine) : Engine :=
  { e with hevc := { e.hevc with decs := vmod e.hevc.decs d f } }

/-- Source of a decode (R245). -/
def decSrc (d : Nat) : Nat := 0x01C8 + d

/-- Flags of a decoded picture (R491). -/
def dfConcealed : Nat := 1
def dfHash : Nat := 2
def dfPoison : Nat := 4

def PoolBuf.mine (d : Nat) (x : PoolBuf) : Bool := x.owner = 8 + d

/-- The decode gives out a picture, flagged CONCEALED while a run is open (R241). -/
def Engine.decOutput (d : Nat) (o : DecOut) (e : Engine) : Engine :=
  let flags := o.flags ||| bit (e.dec d).concealing
  let e := e.modDec d fun q => { q with last := some { o with flags := flags }, outputs := q.outputs + 1 }
  if flags.testBit 0 then e.bump .hevcDecConceal (decSrc d) else e

/-- The last output picture goes out again, with more flags. HASH_MISMATCH is of the one picture only (Table 9.6). -/
def Engine.decRepeat (d more : Nat) (e : Engine) : Engine :=
  match (e.dec d).last with
  | some o => e.decOutput d { o with flags := o.flags ||| more }
  | none => e

/-- A buffer's picture is delivered: OUT clears (R228). -/
def Engine.decDeliver (d b : Nat) (e : Engine) : Engine :=
  let x := vget e.hevc.pool b PoolBuf.reset
  let e := e.modBuf b fun x => { x with out := false, mark := if x.mark = .outputPending then .unused else x.mark }
  match x.hidden, x.pic with
  | false, some p => e.decOutput d ⟨x.pts, x.flags, x.depth, p⟩
  | _, _ => e

/-- Of some buffers, the one first in output order. -/
def Engine.firstOut (e : Engine) (bs : List Nat) : Option Nat :=
  bs.foldl (fun a b => match a with
    | none => some b
    | some c => if (vget e.hevc.pool b PoolBuf.reset).pts < (vget e.hevc.pool c PoolBuf.reset).pts then some b else some c) none

/-- Buffers of a decode that pass a test. -/
def Engine.decBufsOf (e : Engine) (d : Nat) (q : PoolBuf → Bool) : List Nat :=
  (List.range 32).filter fun b => let x := vget e.hevc.pool b PoolBuf.reset; x.mine d && q x

/-- OUTPUT_PENDING pictures go out in output order until a buffer is free (R228). -/
def Engine.decBump (d : Nat) : (fuel : Nat) → Engine → Engine
  | 0, e => e
  | n + 1, e =>
    if (e.freeBuf (8 + d)).isSome then e
    else
      match e.firstOut (e.decBufsOf d fun x => x.mark = .outputPending) with
      | some b => ((e.bump .hevcDecBump (decSrc d)).decDeliver d b).decBump d n
      | none => e

/-- Pictures beyond the reorder depth go out in output order. -/
def Engine.decReorder (d reorder : Nat) : (fuel : Nat) → Engine → Engine
  | 0, e => e
  | n + 1, e =>
    let outs := e.decBufsOf d (·.out)
    if outs.length ≤ reorder then e
    else
      match e.firstOut outs with
      | some b => (e.decDeliver d b).decReorder d reorder n
      | none => e

/-- The reference picture set of a picture is applied (R228). -/
def Engine.decRefs (d : Nat) (au : AccessUnit) (e : Engine) : Engine :=
  let names := if au.idr then [] else au.negPocs ++ au.curPocs
  let long := if au.idr then [] else au.longTerm
  let mark (x : PoolBuf) : PoolBuf :=
    if !(x.mine d && (x.mark = .short || x.mark = .long)) then x
    else if long.contains x.poc then { x with mark := .long }
    else if names.contains x.poc then { x with mark := .short }
    else { x with mark := if x.out then .outputPending else .unused }
  { e with hevc := { e.hevc with pool := e.hevc.pool.map mark } }

/-- A picture of a decode that is a reference. -/
def PoolBuf.isRef (x : PoolBuf) : Bool := x.mark = .short || x.mark = .long

/-- POCs that the set names and that are not in the decode's buffers (R240). -/
def Engine.decMissing (e : Engine) (d : Nat) (au : AccessUnit) : List Int :=
  if au.idr then []
  else (au.negPocs ++ au.curPocs ++ au.longTerm).filter fun p => (e.decBufsOf d fun x => x.isRef && x.poc = p).isEmpty

/-- A picture of an access unit's format with every sample at 2^(BitDepth - 1) (R240). -/
def auGrey (au : AccessUnit) : OutPic :=
  let plane (w h : Nat) : List (List Nat) := List.replicate h (List.replicate w (2 ^ (au.depth - 1)))
  let ch := if au.c422 then au.height else au.height / 2
  { cfn := au.num, phase := 0, flags := 0, y := plane au.width au.height, cb := plane (au.width / 2) ch, cr := plane (au.width / 2) ch }

/-- The most recent reference picture of a decode (R242). -/
def Engine.decRecent (e : Engine) (d : Nat) : Option OutPic :=
  ((e.decBufsOf d PoolBuf.isRef).foldl (fun (m : Option PoolBuf) b =>
    let x := vget e.hevc.pool b PoolBuf.reset
    match m with
    | some y => if y.seq < x.seq then some x else m
    | none => some x) none).bind (·.pic)

/-- The decoded picture: its lost CTUs, and those whose reference read met poison, are the co-located ones of a picture, or mid-grey
(R238, R242). -/
def auPicture (au : AccessUnit) (near : Option OutPic) : OutPic :=
  let bad := au.lost ++ au.poison
  let ctb := max 1 au.ctb
  let plane (k sx sy : Nat) (old : List (List Nat)) : List (List Nat) :=
    (au.samples.getD k []).zipIdx.map fun l => l.1.zipIdx.map fun v =>
      let ctu := l.2 * sy / ctb * cdiv au.width ctb + v.2 * sx / ctb
      if bad.contains ctu then ((old[l.2]?).bind (·[v.2]?)).getD (2 ^ (au.depth - 1)) else v.1
  let old := near.getD (auGrey au)
  let sy := if au.c422 then 1 else 2
  { auGrey au with y := plane 0 1 1 old.y, cb := plane 1 2 sy old.cb, cr := plane 2 2 sy old.cr }

/-- A new concealment or a clean point on a decode's run (R241): the run after the picture, and whether it ended. -/
def HevcDec.runAfter (q : HevcDec) (au : AccessUnit) (conceal : Bool) : HevcDec × Bool :=
  let opened := q.concealing || conceal
  let rec_ := match au.recovery with
    | some n => if opened then some (au.poc + n) else none
    | none => if conceal then none else q.recovery
  let clean := !conceal && (au.irap || match rec_ with
    | some p => decide (p ≤ au.poc)
    | none => false)
  let ended := opened && clean
  ({ q with concealing := opened && !clean, recovery := if ended then none else rec_
            missLogged := q.missLogged && !ended }, q.concealing && ended)

/-- POC that completes the recovery a play from media began with, as a picture leaves it (R243). -/
def HevcDec.holdAfter (q : HevcDec) (au : AccessUnit) : Option Int :=
  if au.irap then none
  else if q.media && q.fresh then au.recovery.map fun n => au.poc + n
  else q.holdTo.filter fun p => decide (au.poc < p)

/-- What decoding one access unit does, once its decode takes it (R228, R240 to R242). start is the picture a play begins at. -/
def Engine.decTake (d start : Nat) (au : AccessUnit) (e : Engine) : Engine :=
  let src := decSrc d
  let q := e.dec d
  let e := e.modDec d fun q => { q with
    state := 2, fresh := false, holdTo := q.holdAfter au
    skipRasl := if au.irap then q.fresh && !au.idr else q.skipRasl }
  let e := e.decRefs d au
  let crowded := (e.freeBuf (8 + d)).isNone
  let e := e.decBump d 32
  let slot := e.freeBuf (8 + d)
  let decodes := slot.isSome
  let grey := (e.decMissing d au).map fun p => (p, (auGrey au))
  let missing := decodes && !grey.isEmpty
  let poison := decodes && !au.poison.isEmpty
  let damaged := decodes && (decide (0 < au.sliceErrs) || !au.lost.isEmpty)
  let badHash := decodes && decide (au.hashOk = some false)
  let conceal := missing || damaged || poison || !decodes
  let e := e.bumpN .hevcDecNalErr src 0 au.nalErrs
  let e := e.bumpN .hevcDecSliceErr src 0 (if decodes then au.sliceErrs else 0)
  let e := if missing then e.bump .hevcDecMissref src else e
  let e := if poison then e.bump .hevcPoison src else e
  let e := if badHash then e.bump .hevcDecHashErr src else e
  let e := if missing && !q.missLogged then (e.emit src .hevcDecMissref []).modDec d fun q => { q with missLogged := true } else e
  let acted := decide (0 < au.nalErrs) || damaged || missing || badHash || crowded
  let e := if acted then e.emit src .hevcDecErr [] else e
  let near := e.decRecent d
  let (q2, ended) := (e.dec d).runAfter au conceal
  let e := e.modDec d fun _ => { q2 with grey := grey }
  let e := if ended then e.emit src .hevcDecRecovered [] else e
  match slot with
  | none => e.decRepeat d dfConcealed
  | some b =>
    let flags := (if conceal then dfConcealed else 0) + (if badHash then dfHash else 0) + if poison then dfPoison else 0
    let pic := auPicture au near
    let e := e.modBuf b fun x => { x with
      mark := .short, out := true, poc := au.poc, pic := some pic, depth := au.depth, seq := q2.decoded
      half := pyramid 2 pic.y, quarter := pyramid 4 pic.y, pts := au.pts, flags := flags
      hidden := q2.media && (decide (au.num < start) || q2.holdTo.isSome) }
    let e := e.modDec d fun q => { q with decoded := q.decoded + 1 }
    e.decReorder d au.reorder 32

/-- The SPS of an access unit lies within what a decode takes: its profile and level, the pool's picture size and chroma format, and
its buffers (R239). -/
def Cfg.decFits (c : Cfg) (d : Nat) (au : AccessUnit) : Bool :=
  au.profileOk && decide (au.width ≤ c.poolW ∧ au.height ≤ c.poolH ∧ au.dpbNeed ≤ c.decBufs d) &&
    (!au.c422 || c.f 0x0041 1 31 31 = 1)

/-- A picture at which a decode of media can begin (R243). -/
def auAccess (au : AccessUnit) : Bool := au.irap || au.recovery.isSome

/-- A decode starts anew, with its buffers free: for a play from media, or for received pictures (R239, R243). -/
def Engine.decRestart (d state : Nat) (media : Bool) (e : Engine) : Engine :=
  let free (x : PoolBuf) : PoolBuf := if x.mine d then { PoolBuf.reset with owner := x.owner } else x
  let e := { e with hevc := { e.hevc with pool := e.hevc.pool.map free } }
  e.modDec d fun _ => { HevcDec.reset with state := state, media := media }

/-- Picture at which the play that a decode serves begins; 0 for a decode that serves none. -/
def Engine.playStart (e : Engine) (d : Nat) : Nat :=
  match e.rec_.play with
  | some p => if p.proxy && p.decode = d then p.startCfn else 0
  | none => 0

/-- HEVC_DECODE_PICTURE (R228, R239 to R243). A play begins at the latest access point at or before its first picture: what comes
before an access point is left out, and an access point that comes before anything was given out begins it again (log 156). -/
def Engine.hevcDecodePicture (d : Nat) (au : AccessUnit) (e : Engine) : Engine :=
  let q := e.dec d
  let start := e.playStart d
  if q.state = 0 then e
  else
    let again := q.media && auAccess au && decide (au.num ≤ start) && q.outputs = 0
    let e := if again then e.decRestart d q.state true else e.modDec d fun q => { q with queue := q.queue.erase au }
    let q := e.dec d
    if q.media && q.fresh && !auAccess au then e
    else if !e.cfg.decFits d au then
      let e := if q.state = 3 then e
        else (e.modDec d fun q => { q with state := 3 }).emit (decSrc d) .hevcDecUnsupported []
      e.decRepeat d 0
    else if q.state = 3 ∧ !au.irap then e.decRepeat d 0
    else if au.rasl && (q.skipRasl || q.fresh) then e
    else e.decTake d start au

def execHevcDecodePicture (t : Nat) (d : Fin 4) (au : AccessUnit) (s : State) : Out :=
  s.run t fun e => e.whenLive (·.hevcDecodePicture d au)

/-- HEVC_DECODE_LATE (R242): the previous picture is delivered again; Table 9.8 gives it no event (log 156). -/
def Engine.hevcDecodeLate (d : Nat) (e : Engine) : Engine :=
  if (e.dec d).state = 0 then e else (e.bump .hevcDecLate (decSrc d)).decRepeat d 0

def execHevcDecodeLate (t : Nat) (d : Fin 4) (s : State) : Out := s.run t fun e => e.whenLive (·.hevcDecodeLate d)

/-- A NETVIDEO entry receives for a decode (R334). -/
def Cfg.decRx (c : Cfg) (d : Nat) : Bool :=
  (List.range 16).any fun n =>
    c.f 0x006A (24 + 6 * n) 31 31 = 1 && c.f 0x006A (24 + 6 * n) 30 28 = 5 && c.f 0x006A (24 + 6 * n) 27 24 = d

/-- The DTB value, nearest to now, of an RTP timestamp on the 90 kHz clock (R334, ST 2110-10). -/
def Engine.rtpDtb (e : Engine) (ts : Nat) : Int :=
  let near := e.dtb * 90000 / (secs 1 : Nat)
  let d := signedOf 32 (toBits 32 ((ts : Int) - near))
  (near + d) * (secs 1 : Nat) / 90000

/-- JITTER_MS of the entry that receives for a decode. -/
def Cfg.decJitter (c : Cfg) (d : Nat) : Nat :=
  (((List.range 16).find? fun n =>
    c.f 0x006A (24 + 6 * n) 31 31 = 1 && c.f 0x006A (24 + 6 * n) 30 28 = 5 && c.f 0x006A (24 + 6 * n) 27 24 = d).map
      fun n => c.nvJitter n).getD 0

/-- HEVC_ACCESS_UNIT_RX (R334): the marker packet of an access unit, or a packet with a later timestamp, has come. It is due at its RTP
timestamp plus JITTER_MS. -/
def Engine.hevcAccessUnitRx (d rtp : Nat) (au : AccessUnit) (e : Engine) : Engine :=
  if !e.cfg.decRx d || (e.dec d).media || e.clk.classV then e
  else
    let au := { au with pts := (e.rtpDtb rtp + (ms (e.cfg.decJitter d) : Nat)).toNat }
    e.modDec d fun q => { q with state := if q.state = 0 then 1 else q.state, queue := q.queue ++ [au] }

def execHevcAccessUnitRx (t : Nat) (d : Fin 4) (au : RtpUnit) (s : State) : Out :=
  s.run t fun e => e.whenLive (·.hevcAccessUnitRx d au.rtp au.au)

/-- A decode starts for a play from media, or goes back to the pictures it receives (R239, R243). -/
def Engine.decStart (d : Nat) (media : Bool) (e : Engine) : Engine :=
  e.decRestart d (if media ∨ e.cfg.decRx d then 1 else 0) media

/-- STS_HEVC (R244). -/
def Engine.stsHevc (e : Engine) : List Word :=
  let free := ((List.range 32).filter fun b => (vget e.hevc.pool b PoolBuf.reset).mark = .unused).length
  let code : PoolMark → Nat
    | .unused => 0 | .short => 1 | .long => 2 | .outputPending => 3
  [mkWord [(31, 26, if e.has 0x0041 then free else 0)]] ++
  (List.range 8).flatMap (fun s =>
    let q := e.hst s
    [mkWord [(31, 30, q.state), (29, 24, q.lastQp), (23, 14, q.sweepK), (13, 13, bit q.lastEmerg)], word q.lastBytes]) ++
  (List.range 4).map (fun d =>
    let q := e.dec d
    mkWord [(31, 30, q.state), (29, 29, bit q.concealing),
      (28, 24, (e.decBufsOf d fun x => x.mark ≠ .unused).length)]) ++
  (List.range 32).map fun b =>
    let x := vget e.hevc.pool b PoolBuf.reset
    mkWord [(31, 30, code x.mark), (29, 29, bit x.out), (28, 25, x.owner)]

end Sys2Proof.Machine
end

