-- ==== Sys2Proof/Machine/Heads.lean ====
section
/-! DEFINITION. Scan-out heads (R304 to R321): their configuration, raster times, store and layers, and the commands that
drive them. -/

namespace Sys2Proof.Machine

namespace Cfg

/-- HEADn words (Tables 12.1 and 12.2). -/
def hd (c : Cfg) (h i hi lo : Nat) : Nat := c.f (0x0060 + h) i hi lo
def hdEn (c : Cfg) (h : Nat) : Bool := c.hd h 0 31 31 = 1
def hdLocked (c : Cfg) (h : Nat) : Bool := c.hd h 0 30 30 = 1
def hdPair (c : Cfg) (h : Nat) : Bool := c.hd h 0 29 29 = 1 && h % 2 = 0
def hd444 (c : Cfg) (h : Nat) : Bool := c.hd h 0 28 28 = 1
def hdTear (c : Cfg) (h : Nat) : Bool := c.hd h 0 27 27 = 1
def hdSrc (c : Cfg) (h : Nat) : Nat := c.hd h 0 26 23
def hdRate (c : Cfg) (h : Nat) : Nat := c.hd h 0 22 19
def hdM (c : Cfg) (h : Nat) : Nat := c.hd h 0 18 17 + 1
def hdSlate (c : Cfg) (h : Nat) : Nat := c.hd h 0 16 15
def hdColour (c : Cfg) (h : Nat) : Nat := c.hd h 0 14 13
def hdFull (c : Cfg) (h : Nat) : Bool := c.hd h 0 12 12 = 1
def hdL1 (c : Cfg) (h : Nat) : Bool := c.hd h 0 11 11 = 1
def hdL1Opaque (c : Cfg) (h : Nat) : Bool := c.hd h 0 10 10 = 1
def hdL2 (c : Cfg) (h : Nat) : Bool := c.hd h 0 9 9 = 1
def hdL3 (c : Cfg) (h : Nat) : Bool := c.hd h 0 8 8 = 1
def actW (c : Cfg) (h : Nat) : Nat := c.hd h 1 31 16
def actH (c : Cfg) (h : Nat) : Nat := c.hd h 1 15 0
def totW (c : Cfg) (h : Nat) : Nat := c.hd h 2 31 16
def totH (c : Cfg) (h : Nat) : Nat := c.hd h 2 15 0
def vact (c : Cfg) (h : Nat) : Nat := c.hd h 3 31 20
def lagUs (c : Cfg) (h : Nat) : Nat := c.hd h 3 19 0
def bg (c : Cfg) (h : Nat) : Px := (c.hd h 4 29 20, c.hd h 4 19 10, c.hd h 4 9 0)
def l1X (c : Cfg) (h : Nat) : Nat := c.hd h 5 31 16
def l1Y (c : Cfg) (h : Nat) : Nat := c.hd h 5 15 0
def l1W (c : Cfg) (h : Nat) : Nat := c.hd h 6 31 16
def l1H (c : Cfg) (h : Nat) : Nat := c.hd h 6 15 0

/-- Line pitch and size of a head's frame store, in bytes (R38). -/
def hdPitch (c : Cfg) (h : Nat) : Nat := cdiv (if c.hd444 h then 4 * c.actW h else c.actW h * 5 / 2) 2048 * 2048
def hdStore (c : Cfg) (h : Nat) : Nat := if c.hdEn h then c.hdPitch h * c.actH h else 0
def hdStores (c : Cfg) : Nat := ((List.range 4).map c.hdStore).foldl (· + ·) 0

/-- T_OUT and T_HL of a head, in ticks (R306). -/
def tOut (c : Cfg) (h : Nat) : Rat := 65536000000000 * ((rateD (c.hdRate h)).2 : Rat) / ((rateD (c.hdRate h)).1 : Rat)
def tHl (c : Cfg) (h : Nat) : Rat := c.tOut h / (max 1 (c.totH h) : Nat)

/-- The head that drives another in a pair, or the head itself (R321). -/
def hdLead (c : Cfg) (h : Nat) : Nat := if h % 2 = 1 && c.hdPair (h - 1) then h - 1 else h
/-- A head, and the second of its pair (R321). -/
def hdSet (c : Cfg) (h : Nat) : List Nat := if c.hdPair h then [h, h + 1] else [h]

/-- Start of the read of store line y of the output frame whose boundary lies at b, and its end (R310). -/
def readFrom (c : Cfg) (h : Nat) (b : Rat) (y : Nat) : Rat := b + ((c.vact h : Rat) + y - 1) * c.tHl h
def readTo (c : Cfg) (h : Nat) (b : Rat) (y : Nat) : Rat := b + ((c.vact h : Rat) + y + 1) * c.tHl h

end Cfg

/-- Local source of a head (R338). -/
def headSrc (h : Nat) : Nat := 0x02A0 + h

def Engine.head (e : Engine) (h : Nat) : Head := vget e.outs.heads h Head.reset

def Engine.modHead (h : Nat) (f : Head → Head) (e : Engine) : Engine :=
  { e with outs := { e.outs with heads := vmod e.outs.heads h f } }

/-- A clip plays in the place of a port's live frames (R212). -/
def Engine.playsOn (e : Engine) (p : Nat) : Bool :=
  match e.rec_.play with
  | some x => !x.proxy && x.source = p
  | none => false

/-- W_lo and W_hi of store line y after t_ro, in ticks, of a branch's picture in a readout mode (R309). -/
def Cfg.branchLo (c : Cfg) (b p m y : Nat) : Rat :=
  let q := if 4 ≤ c.cfa && c.qbMode p = 0 then 2 else 1
  let cy := c.f (Cfg.branchId b) 1 15 0
  let ch := c.f (Cfg.branchId b) 2 15 0
  ((c.obRows p + q * (cy + y * ch / max 1 (c.brOutH b))) * c.tLine p m * 65536 : Nat)

def Cfg.branchHi (c : Cfg) (b p m y : Nat) : Rat :=
  let q := if 4 ≤ c.cfa && c.qbMode p = 0 then 2 else 1
  let cy := c.f (Cfg.branchId b) 1 15 0
  let ch := c.f (Cfg.branchId b) 2 15 0
  ((c.obRows p + q * (cy + cdiv ((y + 1) * ch) (max 1 (c.brOutH b)) + 44) + 24) * c.tLine p m * 65536 + us 50 : Nat)

/-- Bounds of the writes of a picture's lines (R309): lists for lines 0 to ACT_H - 1. A recorded picture's first line is
written when it starts (log 50). -/
def Engine.writeBounds (e : Engine) (h : Nat) (pic : SourcePic) : List Rat × List Rat :=
  let c := e.cfg
  let ys := List.range (c.actH h)
  let now : Rat := (e.now : Nat)
  let src := c.hdSrc h
  if src < 6 then
    let p := c.brSrc src
    let m := (e.values p pic.cfn).mode
    let t0 : Rat := if e.playsOn p then now - c.branchLo src p m 0 else (e.tro p m pic.cfn : Int)
    (ys.map fun y => t0 + c.branchLo src p m y, ys.map fun y => t0 + c.branchHi src p m y)
  else if src < 11 then
    (ys.map fun y => now + (y : Rat) * c.tHl h / 2, ys.map fun y => now + (y : Rat) * c.tHl h / 2 + (us 5 : Nat))
  else
    let i := src - 11
    let rate := rateD (vget e.outs.sdiIn i ⟨0, 0, false⟩).rate
    let tl : Rat := 65536000000000 * (rate.2 : Rat) / ((rate.1 : Rat) * 2250)
    (ys.map fun y => now + (y : Rat) * tl, ys.map fun y => now + (y : Rat) * tl + (us 2 : Nat))

/-- A picture fits an output frame: every line is written before its read begins, or every line's read ends before its
write begins (R312). -/
def Cfg.fitsFrame (c : Cfg) (h : Nat) (lo hi : List Rat) (b : Rat) : Bool :=
  (hi.zipIdx.all fun x => decide (x.1 ≤ c.readFrom h b x.2)) || lo.zipIdx.all fun x => decide (c.readTo h b x.2 ≤ x.1)

/-- Boundaries of the output frames whose reads can meet a picture's writes: the frame being sent and those after it. -/
def Engine.framesNear (e : Engine) (h : Nat) (hi : List Rat) : List Rat :=
  match (e.head h).cur with
  | none => []
  | some f =>
    let b : Rat := (f.at_ : Nat)
    let last := hi.foldl max b
    let n := ((last - b) / e.cfg.tOut h).floor.toNat + 2
    (List.range n).map fun k => b + (k : Rat) * e.cfg.tOut h

/-- The aux scaler's output (AUXCAM word 1). -/
def Cfg.auxOutW (c : Cfg) : Nat := c.f 0x0012 1 23 12 + 1
def Cfg.auxOutH (c : Cfg) : Nat := c.f 0x0012 1 11 0 + 1

/-- The scaled aux picture, 4:2:2 with 10 bits (R114, R308): the manual gives this scaler no filter, so its samples are open
(log 24). -/
def Cfg.auxScaled (c : Cfg) (cfn : Nat) (a : AuxFrame) : OutPic :=
  let plane (k w : Nat) : List (List Nat) :=
    (List.range c.auxOutH).map fun y => (List.range w).map fun x =>
      Config.unstated 114 (((a.afn * 4 + k) * 65536 + y) * 65536 + x) % 1024
  { cfn := cfn, phase := 0, flags := 0, y := plane 0 c.auxOutW, cb := plane 1 (c.auxOutW / 2), cr := plane 2 (c.auxOutW / 2) }

/-- A decoded picture as a head's store takes it (R308): 8-bit samples shifted left by 2, and 4:2:0 chroma on both lines of each
pair. -/
def DecOut.forHead (o : DecOut) (cfn : Nat) : OutPic :=
  let code (g : List (List Nat)) : List (List Nat) := if o.depth = 8 then g.map (·.map (4 * ·)) else g
  let chroma (g : List (List Nat)) : List (List Nat) :=
    if g.length < o.pic.y.length then (code g).flatMap fun l => [l, l] else code g
  { o.pic with cfn := cfn, y := code o.pic.y, cb := chroma o.pic.cb, cr := chroma o.pic.cr }

/-- What a producer has of a picture: a branch, once it has finished it; the aux path, the frame it took; a decode, the picture it
gave out last; an SDI input, what it receives (R308). -/
def Engine.storeContent (e : Engine) (h : Nat) (pic : SourcePic) : Option OutPic :=
  if e.cfg.hdSrc h < 6 then
    (vget e.colour.branches (e.cfg.hdSrc h) Branch.reset).out.filter (·.cfn = pic.cfn)
  else if e.cfg.hdSrc h = 6 then e.aux.taken.map (e.cfg.auxScaled pic.cfn)
  else if e.cfg.hdSrc h < 11 then (e.dec (e.cfg.hdSrc h - 7)).last.map (·.forHead pic.cfn)
  else some ⟨pic.cfn, pic.phase, 0, pic.samples.getD 0 [], pic.samples.getD 1 [], pic.samples.getD 2 []⟩

/-- A producer gives a head no picture: it has none, or its input is not locked to a format of R324. -/
def Engine.noPicture (e : Engine) (h : Nat) : Bool :=
  decide (13 ≤ e.cfg.hdSrc h) ||
    (decide (11 ≤ e.cfg.hdSrc h) && decide ((vget e.outs.sdiIn (e.cfg.hdSrc h - 11) ⟨0, 0, false⟩).state ≠ 1))

/-- A picture offered to one head (R312 to R314). -/
def Engine.offerPicture (h : Nat) (pic : SourcePic) (e : Engine) : Engine :=
  let c := e.cfg
  if (e.head h).state ≠ 1 || e.noPicture h then e
  else
    let (lo, hi) := e.writeBounds h pic
    if !c.hdLocked h && !c.hdTear h && !(e.framesNear h hi).all (c.fitsFrame h lo hi) then e.bump .headSkip (headSrc h)
    else
      let pic := if c.hdSrc h = 6 then { pic with width := c.auxOutW, height := c.auxOutH } else pic
      let odd := 6 ≤ c.hdSrc h && (pic.width ≠ c.actW h || pic.height ≠ c.actH h)
      let e := if odd then e.bump .headL0Size (headSrc h) else e
      let e := if odd && !(e.head h).sizeRun then e.emit (headSrc h) .headL0Size [] else e
      let x : StorePic :=
        { cfn := pic.cfn, flags := pic.flags, width := pic.width, height := pic.height, lo := lo, hi := hi
          late := if c.hdLocked h || c.hdTear h then pic.lateLines.filter (fun r => r.1 ≤ r.2 ∧ r.1 < c.actH h) else []
          record := if c.hdSrc h = 6 then (e.aux.byFrame.head?.map (·.1)).getD 0 else pic.cfn
          content := if 6 ≤ c.hdSrc h then e.storeContent h pic else none }
      e.modHead h fun q => { q with incoming := q.incoming ++ [x], lastAdmit := e.now, sizeRun := odd }

/-- Lines of an SDI input's picture with a CRC error, counted once, for the lowest head that it feeds (R324). -/
def Engine.sdiCrc (h : Nat) (pic : SourcePic) (e : Engine) : Engine :=
  let c := e.cfg
  if 11 ≤ c.hdSrc h ∧ c.hdSrc h ≤ 12 ∧ (List.range h).all (fun k => !c.hdEn k || c.hdSrc k ≠ c.hdSrc h) then
    e.bumpN .sdiinCrc (0x02AC + (c.hdSrc h - 11)) 0 pic.crcLines
  else e

/-- HEAD_PICTURE_START (R312, R314, R321, R324). -/
def Engine.headPictureStart (h : Nat) (pic : SourcePic) (e : Engine) : Engine :=
  (e.cfg.hdSet (e.cfg.hdLead h)).foldl (fun e k => e.offerPicture k pic) (e.sdiCrc h pic)

def execHeadPictureStart (t : Nat) (hd : Fin 4) (pic : SourcePic) (s : State) : Out :=
  s.run t fun e => e.whenLive (·.headPictureStart hd pic)

/-- A branch has finished a picture: the stores that hold it hold its samples. -/
def Engine.headsTake (b : Nat) (e : Engine) : Engine :=
  match (vget e.colour.branches b Branch.reset).out with
  | none => e
  | some o =>
    (List.range 4).foldl (fun e h =>
      if e.cfg.hdSrc h ≠ b then e
      else
        let give (x : StorePic) : StorePic := if x.cfn = o.cfn then { x with content := some o } else x
        let giveF (f : OutFrame) : OutFrame := { f with pic := f.pic.map give, prev := f.prev.map give }
        e.modHead h fun q => { q with store := q.store.map give, incoming := q.incoming.map give, cur := q.cur.map giveF }) e

/-- HEAD_SLATE (R313): no picture has been admitted for 1 s. -/
def Engine.headSlate (h : Nat) (e : Engine) : Engine :=
  let q := e.head h
  if q.state ≠ 1 || q.slate || decide (e.now < q.lastAdmit + secs 1) then e
  else (e.modHead h fun q => { q with slate := true, fresh := false }).emit (headSrc h) .headSlate []

def execHeadSlate (t : Nat) (hd : Fin 4) (s : State) : Out := s.run t fun e => e.whenLive (·.headSlate hd)

/-- R'G'B' at 16 bits in a head's COLOUR and RANGE, as 10-bit codes (R171, R174, R315). -/
def Cfg.headCode (c : Cfg) (h : Nat) (v : Px) : Px :=
  let ycc := c.hdColour h
  let w := if ycc = 0 then v else yccOf ycc v
  let cq := ycc != 0
  ((quantise 10 (c.hdFull h) false w.1).1, (quantise 10 (c.hdFull h) cq w.2.1).1, (quantise 10 (c.hdFull h) cq w.2.2).1)

/-- A 10-bit full-range component at 16 bits, nearest, halves up. -/
def from10 (v : Nat) : Nat := (2 * v * 65535 + 1023) / 2046

/-- The 24-bit R'G'B' colour of an overlay pixel in a head's form (R315). -/
def Cfg.overlay (c : Cfg) (h v : Nat) : Px :=
  let k (lo : Nat) : Nat := let b := v / 2 ^ lo % 256; from10 (b * 4 ||| b / 64)
  c.headCode h (k 16, k 8, k 0)

/-- One component blended (R315). -/
def blend (a l b : Nat) : Nat := (a * l + (255 - a) * b + 127) / 255

def blendPx (a : Nat) (l b : Px) : Px := (blend a l.1 b.1, blend a l.2.1 b.2.1, blend a l.2.2 b.2.2)

/-- Bars of the slate at 16 bits: 0.75 or 0 (R313). -/
def barColour (k : Nat) : Px :=
  let v (on : Bool) : Nat := if on then 49151 else 0
  (v ([0, 1, 4, 5].contains k), v ([0, 1, 2, 3].contains k), v ([0, 2, 4, 6].contains k))

/-- The slate's pixel (R313). -/
def Cfg.slatePx (c : Cfg) (h x : Nat) : Px :=
  if c.hdSlate h = 1 then c.bg h
  else if c.hdSlate h = 2 then c.headCode h (barColour (x * 8 / max 1 (c.actW h)))
  else c.headCode h (0, 0, 0)

/-- A sample of a picture in the store: a 4:2:2 chroma sample serves its pair; what the model does not hold of a picture is
open (log 24). Samples a picture does not reach are BG (R314). -/
def Cfg.storePx (c : Cfg) (h xoff : Nat) (s : StorePic) (x y : Nat) : Px :=
  if s.width ≤ x + xoff ∨ s.height ≤ y then c.bg h
  else
    match s.content with
    | some o =>
      let at_ (g : List (List Nat)) (i : Nat) : Nat := (g.getD y []).getD i 0
      let k := if c.hd444 h then x + xoff else (x + xoff) / 2
      (at_ o.y (x + xoff), at_ o.cb k, at_ o.cr k)
    | none =>
      let u (k : Nat) : Nat := Config.unstated 308 (((s.cfn * 65536 + y) * 65536 + x + xoff) * 4 + k) % 1024
      (u 0, u 1, u 2)

/-- The alpha and colour of the L1 layer at an active pixel (R315): outside its rectangle it is transparent. -/
def Cfg.l1Px (c : Cfg) (h : Nat) (surf : List Nat) (x y : Nat) : Nat × Px :=
  if !c.hdL1 h || x < c.l1X h || y < c.l1Y h || c.l1X h + c.l1W h ≤ x || c.l1Y h + c.l1H h ≤ y then (0, (0, 0, 0))
  else
    let v := surf.getD ((y - c.l1Y h) * c.l1W h + (x - c.l1X h)) 0
    (if c.hdL1Opaque h then 255 else v / 16777216 % 256, c.overlay h v)

/-- L1 over a pixel: in a 4:2:2 store chroma and its alpha are means of the pixel pair, rounded down (R315). -/
def Cfg.blendL1 (c : Cfg) (h : Nat) (surf : List Nat) (x y : Nat) (b : Px) : Px :=
  let l := c.l1Px h surf x y
  if c.hd444 h then blendPx l.1 l.2 b
  else
    let e0 := c.l1Px h surf (x / 2 * 2) y
    let e1 := c.l1Px h surf (x / 2 * 2 + 1) y
    let a := (e0.1 + e1.1) / 2
    (blend l.1 l.2.1 b.1, blend a ((e0.2.2.1 + e1.2.2.1) / 2) b.2.1, blend a ((e0.2.2.2 + e1.2.2.2) / 2) b.2.2)

/-- Width and height of one glyph of a set: the manual does not give the glyph sets (log 24). -/
def glyphW (g : Nat) : Nat := Config.unstated 315 (4 * g)
def glyphH (g : Nat) : Nat := Config.unstated 315 (4 * g + 1)
/-- Coverage of a glyph at a pixel of it, 0 to 255 (log 24). -/
def glyphAlpha (g ch x y : Nat) : Nat := Config.unstated 315 (4 * (((g * 256 + ch) * 65536 + y) * 65536 + x) + 2) % 256

/-- A pixel lies in a text box. -/
def TextBox.holds (b : TextBox) (x y : Nat) : Bool :=
  b.visible && decide (b.x ≤ x ∧ b.y ≤ y ∧ x < b.x + b.text.length * glyphW b.glyphSet ∧ y < b.y + glyphH b.glyphSet)

/-- A text box over a pixel: its background, then its glyphs' coverage (R315). -/
def Cfg.blendBox (c : Cfg) (h x y : Nat) (b : Px) (t : TextBox) : Px :=
  if !t.holds x y then b
  else
    let under := if t.opq then c.overlay h t.bg else b
    let gw := max 1 (glyphW t.glyphSet)
    let ch := t.text.getD ((x - t.x) / gw) 0
    blendPx (glyphAlpha t.glyphSet ch ((x - t.x) % gw) (y - t.y)) (c.overlay h t.fg) under

/-- A marker's pixels lie within its corners and its width; which of them are drawn the manual does not give (log 24). -/
def Mark.covers (m : Mark) (x y : Nat) : Bool :=
  m.visible && decide (min m.x0 m.x1 ≤ x + m.width ∧ x ≤ max m.x0 m.x1 + m.width ∧ min m.y0 m.y1 ≤ y + m.width ∧
      y ≤ max m.y0 m.y1 + m.width) &&
    Config.unstated 315 (4 * ((((((((bit m.rect * 65536 + m.x0) * 65536 + m.y0) * 65536 + m.x1) * 65536 + m.y1) * 16 + m.width) *
      65536 + y) * 65536) + x) + 3) % 2 = 1

/-- A line lies in one of some runs of lines. -/
def inRuns (rs : List (Nat × Nat)) (y : Nat) : Bool := rs.any fun r => decide (r.1 ≤ y ∧ y ≤ r.2)

/-- One pixel of an output frame, all layers composed (R315); lost are the lines whose L1 pixels are transparent (R318). -/
def Cfg.framePx (c : Cfg) (h : Nat) (damage : List (Nat × Nat × Nat)) (lost : List Nat) (f : OutFrame) (x y : Nat) : Px :=
  let xoff := if c.hdLead h = h then 0 else c.actW h
  let src := if inRuns f.lateLines y then f.prev else f.pic
  let l0 := if f.slate then c.slatePx h x
    else match src with
      | some s => if damage.any (fun d => decide (d.1 = y ∧ d.2.1 ≤ x ∧ x ≤ d.2.2)) then c.bg h else c.storePx h xoff s x y
      | none => c.slatePx h x
  let p := if f.l1Fetch && !lost.contains y then c.blendL1 h f.l1 x y l0 else l0
  let p := if c.hdL2 h then f.l2.foldl (fun p b => c.blendBox h x y p b.2) p else p
  if c.hdL3 h then
    f.l3.foldl (fun p m => if m.2.covers x y then blendPx (if m.2.half then 128 else 255) (c.overlay h m.2.colour) p else p) p
  else p

/-- The active picture of an output frame. -/
def Cfg.frameRaster (c : Cfg) (h : Nat) (damage : List (Nat × Nat × Nat)) (lost : List Nat) (f : OutFrame) : List (List Px) :=
  (List.range (c.actH h)).map fun y => (List.range (c.actW h)).map fun x => c.framePx h damage lost f x y

/-- A list without an entry's key, and with it (ascending). -/
def putAt {α : Type} (k : Nat) (x : α) : List (Nat × α) → List (Nat × α)
  | [] => [(k, x)]
  | y :: r => if y.1 = k then (k, x) :: r else if k < y.1 then (k, x) :: y :: r else y :: putAt k x r

/-- A pixel is covered by opaque L1 or an opaque box (R316). -/
def Cfg.boxCovers (c : Cfg) (h : Nat) (l2 : List (Nat × TextBox)) (x y : Nat) : Bool :=
  c.hdL2 h && l2.any fun b => b.2.opq && b.2.holds x y

def Cfg.l1In (c : Cfg) (h x y : Nat) : Bool :=
  c.hdL1 h && decide (c.l1X h ≤ x ∧ c.l1Y h ≤ y ∧ x < c.l1X h + c.l1W h ∧ y < c.l1Y h + c.l1H h)

/-- L0 is fetched unless opaque L1 and L2 cover the whole active area (R316). -/
def Cfg.fetchL0 (c : Cfg) (h : Nat) (l2 : List (Nat × TextBox)) : Bool :=
  !(List.range (c.actH h)).all fun y => (List.range (c.actW h)).all fun x =>
    (c.hdL1Opaque h && c.l1In h x y) || c.boxCovers h l2 x y

/-- L1 is fetched unless opaque boxes cover its rectangle (R316). -/
def Cfg.fetchL1 (c : Cfg) (h : Nat) (l2 : List (Nat × TextBox)) : Bool :=
  c.hdL1 h && !(List.range (c.l1H h)).all fun y => (List.range (c.l1W h)).all fun x =>
    c.boxCovers h l2 (c.l1X h + x) (c.l1Y h + y)

/-- A head takes the changes that are due at its boundary (R317). -/
def Head.takeLayers (q : Head) (b : Nat) : Head :=
  let is (k : Nat) : Bool := match vget q.due k none with
    | some t => !q.missed && decide (t + ms 1 ≤ b)
    | none => false
  let q1 := if is 0 then { q with surf := 1 - q.surf } else q
  let q2 := if is 1 then { q1 with l2Shown := q1.l2Idle } else q1
  let q3 := if is 2 then { q2 with l3Shown := q2.l3Idle } else q2
  { q3 with
    due := (((q3.due.set 0 (if is 0 then none else vget q.due 0 none)).set 1 (if is 1 then none else vget q.due 1 none)).set 2
      (if is 2 then none else vget q.due 2 none))
    missed := false }

/-- LAYER_CHANGE_DEADLINE (R317): changes due at the next boundary, 1 ms from now, are not ready. -/
def Engine.layerChangeDeadline (h : Nat) (ready : Bool) (e : Engine) : Engine :=
  let q := e.head h
  let isDue := (List.range 3).any fun k => match vget q.due k none with
    | some t => decide (t ≤ e.now)
    | none => false
  if q.state ≠ 1 || ready || !isDue then e
  else (e.fwOverrun (headSrc h) 6 2 q.nextFrame h).modHead h fun q => { q with missed := true }

def execLayerChangeDeadline (t : Nat) (hd : Fin 4) (ready : Bool) (s : State) : Out :=
  s.run t fun e => e.whenLive (·.layerChangeDeadline hd ready)

/-- Even parity in bit 8, and its inverse in bit 9 (R323). -/
def udw (b : Nat) : Nat :=
  let n := (List.range 8).foldl (fun a i => a + b / 2 ^ i % 2) 0
  b % 256 + (if n % 2 = 1 then 256 else 512)

/-- The 17 packets of a record (R323): user data words. -/
def recordPackets (r : List Byte) : List (List Nat) :=
  (List.range 17).map fun i =>
    udw i :: udw 17 :: (((padTo 4096 r).drop (241 * i)).take (if i = 16 then 240 else 241)).map fun b => udw b.toNat

/-- The record of a frame of a port that has been sent (R488). -/
def Engine.sentRecord (e : Engine) (p c : Nat) : Option (List Byte) :=
  (e.md.sent.find? fun r => r.port = p && r.cfn = c).map (·.bytes)

/-- The record that goes with a picture in a head's store (R323): a branch's, or for the auxiliary camera that of the capture frame at
whose boundary the aux frame was taken; while that has not been sent, the newest one sent (log 51). -/
def Engine.headRecord (e : Engine) (h : Nat) (s : StorePic) : Option (List Byte) :=
  let src := e.cfg.hdSrc h
  if src < 6 then e.sentRecord (e.cfg.brSrc src) s.record
  else if src = 6 then (e.sentRecord 0 s.record).or ((e.md.sent.find? (·.port = 0)).map (·.bytes))
  else none

/-- The picture an output frame meets first: of the pictures being written, the newest of those whose writes the frame's
reads reach (R310). -/
def Cfg.promote (c : Cfg) (h : Nat) (b : Rat) (store : Option StorePic) :
    List StorePic → Option StorePic × Option StorePic × Bool × List StorePic
  | [] => (store, none, false, [])
  | x :: r =>
    if x.lo.zipIdx.all fun y => decide (c.readTo h b y.2 ≤ y.1) then (store, none, false, x :: r)
    else
      match c.promote h b (some x) r with
      | (s, some p, n, rest) => (s, some p, n, rest)
      | (s, none, _, rest) => (s, store, true, rest)

/-- The frame a head has been sending ends: its raster, TORN, and the counts of R311 and R312. -/
def Engine.endFrame (h : Nat) (e : Engine) : Engine :=
  match (e.head h).cur with
  | none => e
  | some f =>
    let c := e.cfg
    let bad := !f.slate && !f.lateLines.isEmpty && f.pic.isSome
    let locked := c.hdLocked h
    let e := if bad then e.bump (if locked then .headLate else .headTear) (headSrc h) else e
    let e := if bad && locked && !(e.head h).lateRun then e.emit (headSrc h) .headLate [] else e
    let e := if (e.head h).l1Lost.isEmpty then e else e.bump .headL1Late (headSrc h)
    e.modHead h fun q => { q with
      raster := some (c.frameRaster h q.damage q.l1Lost f), torn := bad, lateRun := bad && locked, l1Lost := [], damage := [] }

/-- Signed distance of an instant from the nearest ST 2059-1 alignment point of a head's rate, in ns (R319, R336). -/
def Engine.alignOffset (e : Engine) (h : Nat) : Int :=
  let (n, d) := rateD (e.cfg.hdRate h)
  let per : Int := d * 65536000000000
  let x := (e.dtb * n) % per
  let y := if per < 2 * x then x - per else x
  y / (n * 65536 : Nat)

/-- A head's frame boundary (R310 to R319). -/
def Engine.startFrame (h : Nat) (e : Engine) : Engine :=
  let e := e.endFrame h
  let c := e.cfg
  let e := e.modHead h fun q => q.takeLayers e.now
  let q := e.head h
  let (store, prev, newPic, rest) := c.promote h (e.now : Nat) q.store q.incoming
  let late := if newPic then (store.map (·.late)).getD [] else []
  let whole := store.isSome && late.isEmpty && (newPic || q.fresh || !q.slate)
  let slateNow := q.slate && !(whole && (newPic || q.fresh))
  let standby := decide (e.sys.mode = .standby) || decide (13 ≤ c.hdSrc h)
  let slate := slateNow || standby || store.isNone
  let f : OutFrame :=
    { number := q.nextFrame, at_ := e.now, slate := slate, pic := store, prev := prev, lateLines := late
      l0Fetch := c.fetchL0 h q.l2Shown, l1Fetch := c.fetchL1 h q.l2Shown, l1 := vget q.surfaces q.surf [], l2 := q.l2Shown
      l3 := q.l3Shown }
  let first := if inRuns late 0 then prev else store
  let r := if slate then none else first.bind (e.headRecord h)
  e.modHead h fun q => { q with
    store := store, incoming := rest, slate := slateNow, fresh := q.fresh || newPic, nextFrame := q.nextFrame + 1, cur := some f
    l0Fetch := f.l0Fetch && !slate, slateOn := slate
    lastRec := if r.isSome then (first.map (·.cfn)).getD 0 else q.lastRec
    anc := (r.map recordPackets).getD []
    offset := if c.hdLocked h then e.alignOffset h else 0 }

/-- A head starts, at a full or its own restart (R313). -/
def Engine.headStart (h : Nat) (e : Engine) : Engine :=
  e.modHead h fun _ => { Head.reset with
    state := if e.cfg.hdEn h then 1 else 0
    lastAdmit := e.now
    surfaces := Vector.replicate 2 (List.replicate (e.cfg.l1W h * e.cfg.l1H h) 0) }

/-- A head that runs stops, with its store held (R335). -/
def Engine.headHold (h : Nat) (e : Engine) : Engine :=
  e.modHead h fun q => if q.state = 1 then { q with state := 2, cur := none } else q

/-- A head held resumes at its first boundary (R335). -/
def Engine.headResume (h : Nat) (e : Engine) : Engine :=
  e.modHead h fun q => if q.state = 2 then { q with state := 1 } else q

/-- STS_HEADn (R336). -/
def Engine.stsHead (h : Nat) (e : Engine) : List Word :=
  let q := e.head h
  [mkWord [(31, 30, q.state), (29, 29, bit q.l0Fetch), (28, 28, bit q.slateOn), (27, 27, q.surf), (26, 26, bit q.torn)],
    word q.lastRec, BitVec.ofInt 32 q.offset]

/-- Why a layer message is turned away: its head is absent or off. -/
def Engine.layerHead (e : Engine) (head : Nat) : Option (Status × Reason) :=
  if 4 ≤ head then some (.malformed, .none)
  else if !e.cfg.hdEn head then some (.refused, .notConfigured)
  else none

/-- A layer's change is complete, with COMMIT, from the receipt of the message (R467). -/
def Head.commit (q : Head) (k now : Nat) (commit : Bool) : Head :=
  if commit then { q with due := vmod q.due k fun _ => some now } else q

/-- L1_DRAW (R467): pixels written into the idle surface. -/
def Engine.l1Draw (m : MsgHdr) (head : Nat) (commit copy : Bool) (x y w ht : Nat) (pixels : List Nat) (e : Engine) : Engine :=
  match e.layerHead head with
  | some (st, rs) => e.refuse m 0x0208 st rs
  | none =>
    if pixels.length ≠ w * ht then e.refuse m 0x0208 .malformed .none
    else if e.cfg.l1W head < x + w || e.cfg.l1H head < y + ht then e.refuse m 0x0208 .refused .checkFailed
    else
      let q := e.head head
      let base := vget q.surfaces (if copy then q.surf else 1 - q.surf) []
      let sw := e.cfg.l1W head
      let next := base.mapIdx fun i v =>
        let px := i % max 1 sw
        let py := i / max 1 sw
        if x ≤ px ∧ px < x + w ∧ y ≤ py ∧ py < y + ht then pixels.getD ((py - y) * w + (px - x)) 0 % 4294967296 else v
      (e.modHead head fun q =>
        ({ q with surfaces := vmod q.surfaces (1 - q.surf) fun _ => next } : Head).commit 0 e.now commit).ok m 0x0208

def execL1Draw (t : Nat) (h : MsgHdr) (head : Nat) (commit copy : Bool) (x y w ht : Nat) (pixels : List Nat) (s : State) : Out :=
  s.run t fun e => e.request h 0x0208 (·.l1Draw h head commit copy x y w ht pixels)

/-- L2_TEXT (R467): one box of the idle list. -/
def Engine.l2Text (m : MsgHdr) (head box : Nat) (commit : Bool) (b : TextBox) (e : Engine) : Engine :=
  if 64 ≤ box || 256 ≤ b.text.length then e.refuse m 0x0209 .malformed .none
  else
    match e.layerHead head with
    | some (st, rs) => e.refuse m 0x0209 st rs
    | none => (e.modHead head fun q => ({ q with l2Idle := putAt box b q.l2Idle } : Head).commit 1 e.now commit).ok m 0x0209

def execL2Text (t : Nat) (h : MsgHdr) (head box : Nat) (visible opq commit : Bool) (glyphSet x y fg bg : Nat) (text : List Nat)
    (s : State) : Out :=
  s.run t fun e => e.request h 0x0209 (·.l2Text h head box commit ⟨visible, opq, glyphSet, x, y, fg, bg, text⟩)

/-- L3_MARK (R467): one item of the idle list. -/
def Engine.l3Mark (m : MsgHdr) (head item : Nat) (commit : Bool) (k : Mark) (e : Engine) : Engine :=
  if 256 ≤ item || k.width = 0 || 8 < k.width then e.refuse m 0x020A .malformed .none
  else
    match e.layerHead head with
    | some (st, rs) => e.refuse m 0x020A st rs
    | none => (e.modHead head fun q => ({ q with l3Idle := putAt item k q.l3Idle } : Head).commit 2 e.now commit).ok m 0x020A

def execL3Mark (t : Nat) (h : MsgHdr) (head : Nat) (visible half commit rect : Bool) (item x0 y0 x1 y1 width colour : Nat)
    (s : State) : Out :=
  s.run t fun e => e.request h 0x020A (·.l3Mark h head item commit ⟨visible, half, rect, x0, y0, x1, y1, width, colour⟩)

end Sys2Proof.Machine
end

