-- ==== Sys2Proof/Machine/Outputs.lean ====
section
/-! DEFINITION. What leaves a head and what enters the outputs die: SDI, DisplayPort, network video, HEVC over the network
(R322 to R335), and the commands of these. -/

namespace Sys2Proof.Machine

def Engine.netStream (e : Engine) (n : Nat) : NetStream := vget e.outs.streams n ⟨0, 0, 0, [], [], RtpRx.reset⟩

def Engine.modNet (n : Nat) (f : NetStream → NetStream) (e : Engine) : Engine :=
  { e with outs := { e.outs with streams := vmod e.outs.streams n f } }

def Engine.modDp (d : Nat) (f : DpOut → DpOut) (e : Engine) : Engine :=
  { e with outs := { e.outs with dp := vmod e.outs.dp d f } }

/-- A DTB value on the 90 kHz clock of RTP (R330). -/
def rtp90 (d : Int) : Nat := toBits 32 (d * 90000 / 65536000000000)


/-- Entries of a kind and source that can send now (R335). -/
def Engine.sending (e : Engine) (kind src : Nat) : List Nat :=
  (List.range 16).filter fun n =>
    e.cfg.nvValid n && e.cfg.nvKind n = kind && e.cfg.nvSrc n = src && (e.netStream n).state = 1

/-- An entry sends a picture's packets, with its timestamp; sequence numbers go on (R330, R335). -/
def Engine.netSend (n ts : Nat) (payloads : List (List Byte)) (anc : List (List Nat)) (e : Engine) : Engine :=
  e.modNet n fun q => { q with
    seq := (q.seq + payloads.length) % 4294967296, ts := ts, anc := anc, sent := e.nvPackets n q.seq ts payloads }

/-- What leaves with an output frame of a head: the packets of the frame that ends over its ST 2110-20 streams, which follow its
raster and carry its boundary, and the record of the frame that begins over ST 2110-40 (R330, R332). -/
def Engine.headSends (h : Nat) (ended : Option OutFrame) (e : Engine) : Engine :=
  let e := match ended, (e.head h).raster with
    | some f, some r => (e.sending 0 h).foldl (fun e n => e.netSend n (rtp90 (e.dtbAt f.at_)) (frame20 r) []) e
    | _, _ => e
  let anc := (e.head h).anc
  if anc.isEmpty then e else (e.sending 2 h).foldl (fun e n => e.netSend n (rtp90 e.dtb) (payload40 anc) anc) e

/-- Lanes that carry some heads (Table 1.5). -/
def Cfg.headLanes (c : Cfg) (hs : List Nat) : List Nat :=
  ((List.range 8).filter fun n => c.soEn n && hs.contains (c.soHead n)).map (44 + ·) ++
    ((List.range 2).filter fun d => c.dpEn d && hs.contains (c.dpHead d)).flatMap fun d => (List.range 4).map (54 + 4 * d + ·)

/-- At their restart boundary, the lanes of some heads take up the state the heads require (R46). -/
def Engine.headTransmits (hs : List Nat) (e : Engine) : Engine :=
  { e with lanes := (e.cfg.headLanes hs).foldl (fun v l => vmod v l fun q =>
      if q.classVIdle then q else { q with txHeld := false }) e.lanes }

/-- Time of day of a DTB value as a head's timecode (R322, R358): hours, minutes, seconds and frames of the second, after the UTC offset.
How frames are labelled at the rates over 1,001, the manual leaves to ST 12-1 (log 24). -/
def Engine.timecode (e : Engine) (h : Nat) (d : Int) : List Nat :=
  let (n, k) := rateD (e.cfg.hdRate h)
  let u := d - e.time.utc * (secs 1 : Nat)
  let s := (u / (secs 1 : Nat) % 86400).toNat
  let f := (u % (secs 1 : Nat) * n / (secs k : Nat)).toNat
  let label := [s / 3600, s / 60 % 60, s % 60, f]
  if k = 1 then label else label.mapIdx fun i _ => Config.unstated 322 (d.toNat * 4 + i) % 256

/-- The links of an output's group, and its position in it (Table 12.4). -/
def Cfg.soLinks (c : Cfg) (n : Nat) : Nat := 2 ^ c.f 0x0068 n 28 27
def Cfg.soLink (c : Cfg) (n : Nat) : Nat := c.f 0x0068 n 26 25
def Cfg.soAtc (c : Cfg) (n : Nat) : Bool := c.f 0x0068 n 23 23 = 1
def Cfg.soAncLine (c : Cfg) (n : Nat) : Nat := c.f 0x0068 n 21 10

/-- Where the packets of a record lie (R323): in index order, as many on a line as fit, from ANC_LINE on, on at most four lines. A packet
takes its user data and 7 words more; a line of a link carries its part of the picture's width. -/
def Cfg.ancLines (c : Cfg) (n : Nat) (anc : List (List Nat)) : List (Nat × List Nat) :=
  let w := c.actW (c.soHead n) / (if c.soLinks n = 4 then 2 else 1)
  let per := max 1 (w / 250)
  (anc.mapIdx fun i p => (c.soAncLine n + i / per, p)).filter fun x => decide (x.1 < c.soAncLine n + 4)

/-- The part of a head's raster that a link of an SDI output carries (R322): all of it on a single link; of a quad link a quarter, by square
division, or by two-sample interleave, pixel pair by pixel pair and line by line. How dual links divide a picture, the
manual leaves to SMPTE ST 2082 (log 25). -/
def Engine.sdiPicture (e : Engine) (n : Nat) : List (List Px) :=
  let c := e.cfg
  let r := ((e.head (c.soHead n)).raster).getD []
  let k := c.soLink n
  if c.soLinks n ≠ 4 then r
  else if c.f 0x0068 n 24 24 = 1 then
    let w := c.actW (c.soHead n) / 2
    let ht := c.actH (c.soHead n) / 2
    ((r.drop (k / 2 * ht)).take ht).map fun l => (l.drop (k % 2 * w)).take w
  else
    (r.zipIdx.filter fun x => x.2 % 2 = k / 2).map fun x => (x.1.zipIdx.filter fun y => y.2 / 2 % 2 = k % 2).map (·.1)

/-- What goes with a head's frame on its SDI outputs (R322, R323): the payload ID that ST 352 gives the format, timecode, and on link 0 the
metadata packets. -/
def Engine.sdiSends (h : Nat) (e : Engine) : Engine :=
  let c := e.cfg
  let one (n : Nat) (q : SdiOut) : SdiOut :=
    if q.state = 1 && c.soEn n && c.soHead n = h then
      let x : SdiExtra := {
        payload := freeBytes 322 ((c.w 0x0068 n).toNat * 16 + c.hdRate h) 4
        timecode := if c.soAtc n then some (e.timecode h e.dtb) else none
        anc := if c.soMd n && c.soLink n = 0 then c.ancLines n (e.head h).anc else [] }
      { q with extra := some x }
    else q
  { e with outs := { e.outs with sdiOut := Vector.ofFn fun (i : Fin 8) => one i e.outs.sdiOut[i] } }

/-- HEAD_FRAME_BOUNDARY (R310 to R323): the first head of a pair drives both. -/
def Engine.headFrameBoundary (h : Nat) (e : Engine) : Engine :=
  if e.cfg.hdLead h ≠ h || (e.head h).state ≠ 1 then e
  else
    (e.cfg.hdSet h).foldl (fun e k => ((e.startFrame k).headSends k (e.head k).cur).sdiSends k)
      (e.headTransmits (e.cfg.hdSet h))

def execHeadFrameBoundary (t : Nat) (hd : Fin 4) (s : State) : Out :=
  s.run t fun e => e.whenLive (·.headFrameBoundary hd)

/-- Pixels of a finished picture, 4:2:2: a chroma sample with each pixel of its pair. -/
def OutPic.pixels (o : OutPic) : List (List (Nat × Nat × Nat)) :=
  o.y.mapIdx fun y l => l.mapIdx fun x v => (v, (o.cb.getD y []).getD (x / 2) 0, (o.cr.getD y []).getD (x / 2) 0)

/-- Streams sent from a branch send its last picture (R330). -/
def Engine.branchSends (stamp : Int) (b : Nat) (e : Engine) : Engine :=
  match (vget e.colour.branches b Branch.reset).out with
  | none => e
  | some o => (e.sending 1 b).foldl (fun e n => e.netSend n (rtp90 stamp) (frame20 o.pixels) []) e

/-- A frame of a branch has been processed: the stores take it, and streams sent from the branch send it with the frame's
exposure midpoint (R330). -/
def Engine.branchDone (stamp : Int) (b : Nat) (e : Engine) : Engine := (e.headsTake b).branchSends stamp b

/-- A branch of a port and phase that stands still: its direct streams repeat its last frame (Table 1.5). -/
def Engine.branchRepeats (e : Engine) (b p ph : Nat) : Bool :=
  e.cfg.hasBranch b && e.cfg.brSrc b = p && (e.cfg.brMask b).testBit ph && !e.branchTakes b p ph

/-- Every branch that took a frame of a port and phase, and every one that stands still for it. -/
def Engine.branchesDone (p ph : Nat) (stamp : Int) (e : Engine) : Engine :=
  (List.range 6).foldl (fun e b =>
    if e.branchTakes b p ph then e.branchDone stamp b
    else if e.branchRepeats b p ph then e.branchSends stamp b else e) e

/-- A frame's record goes over the ST 2110-40 streams of the branches that took the frame (R323, R332). -/
def Engine.branchRecord (p ph : Nat) (stamp : Int) (record : List Byte) (e : Engine) : Engine :=
  ((List.range 6).filter fun b => e.branchTakes b p ph).foldl (fun e b =>
    (e.sending 3 b).foldl (fun e n => e.netSend n (rtp90 stamp) (payload40 (recordPackets record)) (recordPackets record)) e) e

/-- A stream can send on one of its paths now. -/
def Engine.canSend (e : Engine) (n : Nat) : Bool :=
  (e.netStream n).state = 1 && (List.range 2).any fun p =>
    (e.cfg.nvPaths n).testBit p && e.cfg.nlEn (4 * p + e.cfg.nvLink n p) && e.linkUp p (e.cfg.nvLink n p)

/-- Payloads of which neither number nor content follows from the manual (log 24). -/
def openPackets (rule d : Nat) : List (List Byte) :=
  (List.range (Config.unstated rule (2 * d))).map fun i =>
    freeBytes rule (d * 65536 + i) (Config.unstated rule (2 * (d * 65536 + i) + 1) % 1400)

/-- HEVC_PICTURE_COMPLETE (R222, R227, R231 to R237, R269, R333): the oldest picture goes into the ring, its access unit leaves
on the streams of KIND 4, and the proxy takes it. How many packets an access unit takes its NAL units decide, which the manual
leaves to the coder (log 24). -/
def Engine.hevcPictureComplete (s : Nat) (e : Engine) : Engine :=
  match (e.hst s).pics with
  | [] => e
  | pic :: _ =>
    if !e.cfg.hevcWhole s pic then e
    else
      let before := (e.hst s).written
      let up := (e.hevcSenders s).filter e.canSend
      let stamp : Int := match pic.cfn with
        | some c => e.dtbAt 0 + e.midpoint (e.cfg.brSrc (e.cfg.hvSrc s)) c
        | none => (e.aux.taken.map (·.stamp)).getD 0
      let e := e.hevcComplete s e.canSend
      let e := up.foldl (fun e n =>
        let (d, e) := e.draw
        e.netSend n (rtp90 stamp) (openPackets 333 d) []) e
      (e.proxyTake s before pic).recPump

def execHevcPictureComplete (t : Nat) (st : Fin 8) (s : State) : Out :=
  s.run t fun e => e.whenLive (·.hevcPictureComplete st)

/-- SDI inputs. -/
def sdiInSrc (i : Nat) : Nat := 0x02AC + i

def Engine.modSdiIn (i : Nat) (f : SdiIn → SdiIn) (e : Engine) : Engine :=
  { e with outs := { e.outs with sdiIn := vmod e.outs.sdiIn i f } }

/-- SDI_IN_LOCK (R324): the input locks; a format the input does not take is UNSUPPORTED: another sampling, or a rate outside
48,000/1,001 to 60. -/
def Engine.sdiInLock (i rate : Nat) (wide supported : Bool) (e : Engine) : Engine :=
  if e.cfg.lnRate (52 + i) = 0 || (vget e.lanes (52 + i) Lane.reset).test || e.unitHeld 0x0800 20 then e
  else if supported && decide (6 ≤ rate ∧ rate ≤ 10) then
    (e.modSdiIn i fun _ => ⟨1, rate % 16, wide⟩).emit (sdiInSrc i) .sdiInLock []
  else
    ((e.modSdiIn i fun _ => ⟨2, rate % 16, wide⟩).emit (sdiInSrc i) .sdiInLock []).emit (sdiInSrc i) .sdiInFormat []

def execSdiInLock (t : Nat) (i : Fin 2) (rate : Nat) (wide supported : Bool) (s : State) : Out :=
  s.run t fun e => e.whenLive (·.sdiInLock i rate wide supported)

/-- SDI_IN_FORMAT (R324): another format arrives; it is not written to any store. -/
def Engine.sdiInFormat (i : Nat) (e : Engine) : Engine :=
  if (vget e.outs.sdiIn i ⟨0, 0, false⟩).state ≠ 1 then e
  else (e.modSdiIn i fun q => { q with state := 2 }).emit (sdiInSrc i) .sdiInFormat []

def execSdiInFormat (t : Nat) (i : Fin 2) (s : State) : Out := s.run t fun e => e.whenLive (·.sdiInFormat i)

/-- DisplayPort outputs. -/
def dpSrc (d : Nat) : Nat := 0x02AE + d

/-- Bits per second of an output's stream (R325). -/
def Cfg.dpNeed (c : Cfg) (d : Nat) : Rat :=
  let h := c.dpHead d
  ((c.totW h * c.totH h * (rateD (c.hdRate h)).1 * (if c.dpFormat d = 2 then 20 else 30) : Nat) : Rat) /
    ((rateD (c.hdRate h)).2 : Rat)

/-- Rate of a DisplayPort rate code in units of 10 Mb/s (Table 3.4). -/
def dpRate : Nat → Nat
  | 8 => 162 | 9 => 270 | 10 => 540 | 11 => 810
  | _ => 0

/-- The fewest lanes and the lowest rate that carry the stream within the sink's maximum and the lanes' rate (R326). -/
def Engine.dpPick (e : Engine) (d maxLanes maxRate : Nat) : Option (Nat × Nat) :=
  let most := min maxRate (e.cfg.lnRate (54 + 4 * d))
  let mine := ((List.range 4).filter fun k => e.cfg.lnRate (54 + 4 * d + k) ≠ 0).length
  let all := [1, 2, 4].flatMap fun n => [8, 9, 10, 11].map fun r => (n, r)
  all.find? fun x => decide (x.1 ≤ maxLanes ∧ x.1 ≤ mine ∧ x.2 ≤ most) &&
    decide (e.cfg.dpNeed d ≤ ((x.1 * dpRate x.2 * 8000000 : Nat) : Rat))

/-- What an output's main link carries beside its picture (R320, R326): the MSA's timing, colorimetry and range, the stream clock in Hz,
and EOTF of the HDR static metadata SDP, whose other fields are 0. -/
structure DpStream where
  totW : Nat
  totH : Nat
  actW : Nat
  actH : Nat
  vact : Nat
  colour : Nat
  full : Bool
  clockHz : Rat
  hdrEotf : Option Nat
  deriving DecidableEq, Repr

/-- The stream of an output that is up (R326). -/
def Engine.dpStream (e : Engine) (d : Nat) : Option DpStream :=
  let c := e.cfg
  let h := c.dpHead d
  let code := c.brEncode (c.hdSrc h)
  if (vget e.outs.dp d ⟨0, 0, 0, [], 0, 0⟩).link ≠ 2 || (e.head h).state ≠ 1 then none
  else some
    { totW := c.totW h, totH := c.totH h, actW := c.actW h, actH := c.actH h, vact := c.vact h, colour := c.hdColour h
      full := c.hdFull h, clockHz := ((c.totW h * c.totH h * (rateD (c.hdRate h)).1 : Nat) : Rat) / ((rateD (c.hdRate h)).2 : Rat)
      hdrEotf := if c.f 0x0069 d 26 26 = 1 && decide (c.hdSrc h < 6) then
          (if code = 1 then some 2 else if code = 2 then some 3 else none) else none }

/-- Link training of an output: UP, with DP_LINK_UP, when it succeeds; TRAINING while it does not (log 52). -/
def Engine.dpTrain (d : Nat) (trained : Bool) (e : Engine) : Engine :=
  let q := vget e.outs.dp d ⟨0, 0, 0, [], 0, 0⟩
  if (List.range 4).any fun k => (vget e.lanes (54 + 4 * d + k) Lane.reset).test then
    e.modDp d fun q => { q with link := 1, lanes := 0, rate := 0 }
  else match e.dpPick d q.maxLanes q.maxRate with
  | none =>
    (e.modDp d fun q => { q with link := 3, lanes := 0, rate := 0 }).emit (dpSrc d) .dpBwShort []
  | some (n, r) =>
    if trained then (e.modDp d fun q => { q with link := 2, lanes := n, rate := r }).emit (dpSrc d) .dpLinkUp []
    else e.modDp d fun q => { q with link := 1, lanes := n, rate := r }

/-- VL lanes of an output with no sink are in SLEEP, and otherwise transmit (R58). -/
def Engine.vlPower (d : Nat) (sink : Bool) (e : Engine) : Engine :=
  { e with lanes := Vector.ofFn fun (i : Fin 62) =>
      let q := e.lanes[i]
      if 54 + 4 * d ≤ i.val ∧ i.val < 58 + 4 * d ∧ e.cfg.lnRate i ≠ 0 ∧ q.step ≠ 0 then
        { q with txPs := if sink then 0 else 2 }
      else q }

/-- DP_HPD (R326): a sink is connected or removed. -/
def Engine.dpHpd (d : Nat) (present : Bool) (edid : List Byte) (maxLanes maxRate : Nat) (trained : Bool) (e : Engine) : Engine :=
  if !e.cfg.dpEn d then e
  else
    let e := ((e.bump .dpHpd (dpSrc d)).emit (dpSrc d) .dpHpd []).vlPower d present
    if present then (e.modDp d fun q => { q with edid := edid, maxLanes := maxLanes, maxRate := maxRate }).dpTrain d trained
    else e.modDp d fun _ => ⟨0, 0, 0, [], 0, 0⟩

def execDpHpd (t : Nat) (d : Fin 2) (present : Bool) (edid : List Byte) (maxLanes maxRate : Nat) (trained : Bool) (s : State) :
    Out :=
  s.run t fun e => e.whenLive (·.dpHpd d present edid maxLanes maxRate trained)

/-- DP_IRQ_HPD (R326): the engine reads the link status, and retrains if lock is lost. -/
def Engine.dpIrqHpd (d : Nat) (lockLost trained : Bool) (e : Engine) : Engine :=
  if !e.cfg.dpEn d || !(((vget e.outs.dp d ⟨0, 0, 0, [], 0, 0⟩).link = 1) || (vget e.outs.dp d ⟨0, 0, 0, [], 0, 0⟩).link = 2) || !lockLost then e
  else
    let ls := ((List.range 4).map (54 + 4 * d + ·)).filter fun l => e.cfg.lnRate l ≠ 0
    (ls.foldl (fun e l => e.bump .laneRetrain (0x0080 + l)) (e.bump .dpRetrain (dpSrc d))).dpTrain d trained

def execDpIrqHpd (t : Nat) (d : Fin 2) (lockLost trained : Bool) (s : State) : Out :=
  s.run t fun e => e.whenLive (·.dpIrqHpd d lockLost trained)

/-- Local source of a stream entry. -/
def netSrc (n : Nat) : Nat := 0x02B0 + n

/-- The multicast groups that a link has joined (R327): those of the receive streams on it. -/
def Cfg.joined (c : Cfg) (port link : Nat) : List Nat :=
  ((List.range 16).filter fun n => c.nvValid n && c.nvKind n = 5 && (c.nvPaths n).testBit port && c.nvLink n port = link &&
      decide (0xE0000000 ≤ c.nv n (1 + port) 31 0 ∧ c.nv n (1 + port) 31 0 < 0xF0000000)).map fun n => c.nv n (1 + port) 31 0

/-- NV_RX_PACKET (R331, R335): the first copy of each sequence number is kept, the other discarded; under Class V both are. -/
def Engine.nvRxPacket (n path ssrc seq : Nat) (e : Engine) : Engine :=
  let other := e.cfg.nv n 4 31 0 ≠ 0 ∧ e.cfg.nv n 4 31 0 ≠ ssrc
  if !e.cfg.nvValid n || e.cfg.nvKind n ≠ 5 || other || !(e.cfg.nvPaths n).testBit path || e.netHeld path || e.clk.classV then e
  else
    let (rx, one) := (e.netStream n).rx.settle (e.cfg.nvPaths n) e.now (ms (e.cfg.nvJitter n))
    let (rx, _) := rx.take path seq e.now
    (e.bumpN .nvRxPath (netSrc n) 0 one).modNet n fun q => { q with rx := rx }

def execNvRxPacket (t : Nat) (n : Fin 16) (path : Fin 2) (seq : RtpSeq) (s : State) : Out :=
  s.run t fun e => e.whenLive (·.nvRxPacket n path seq.ssrc seq.seq)

/-- NV_RX_LOSS (R331): a packet is absent on every path for JITTER_MS. -/
def Engine.nvRxLoss (n seq : Nat) (e : Engine) : Engine :=
  if !e.cfg.nvValid n || e.cfg.nvKind n ≠ 5 || (e.netStream n).rx.seen.any (·.1 = seq) then e
  else
    let e := e.bump .nvRxLost (netSrc n)
    let e := if (e.netStream n).rx.losing then e else e.emit (netSrc n) .nvRxLoss []
    e.modNet n fun q => { q with rx := { q.rx with losing := true } }

def execNvRxLoss (t : Nat) (n : Fin 16) (seq : Nat) (s : State) : Out := s.run t fun e => e.whenLive (·.nvRxLoss n seq)

/-- A fragment of a control datagram (R458): at most 8 are being reassembled, and a whole one comes on as its request. -/
def Control.fragment (now id : Nat) (completes : Bool) (x : Control) : Control :=
  if completes then { x with frags := x.frags.filter (·.1 ≠ id) }
  else if x.frags.any (·.1 = id) || 8 ≤ x.frags.length then x
  else { x with frags := x.frags ++ [(id, now)] }

/-- NET_ARP_ICMP (R327, R458): a network link (0 to 7) or the management port (8) answers for its own address, and the
management port reassembles the fragments of control datagrams. -/
def Engine.netArpIcmp (link addr : Nat) (got : NetIn) (e : Engine) : Engine :=
  let mine := if link < 8 then !e.netHeld (link / 4) && e.cfg.nlEn link && e.cfg.nlAddr link = addr && e.linkUp (link / 4) (link % 4)
    else link = 8 && e.cb 0x00C0 0 30 && (e.cw 0x00C0 1).toNat = addr
  let answer (echo : Bool) : Engine := { e with outs := { e.outs with answers := ((link, echo) :: e.outs.answers).take 64 } }
  if !mine then e
  else
    match got with
    | .arp => answer false
    | .echo => answer true
    | .fragment id completes => if link = 8 then { e with ctl := e.ctl.fragment e.now id completes } else e

def execNetArpIcmp (t : Nat) (link addr : Nat) (got : NetIn) (s : State) : Out :=
  s.run t fun e => e.whenLive (·.netArpIcmp link addr got)

/-- OUTPUT_QUERY (R326): the EDID read. -/
def Engine.outputQuery (h : MsgHdr) (output : Nat) (e : Engine) : Engine :=
  if 2 ≤ output then e.refuse h 0x0406 .malformed .none
  else
    let d := (vget e.outs.dp output ⟨0, 0, 0, [], 0, 0⟩).edid
    e.reply h 0x0406 .ok .none (le 2 d.length ++ le 2 0 ++ d)

def execOutputQuery (t : Nat) (h : MsgHdr) (output : Nat) (s : State) : Out :=
  s.run t fun e => e.request h 0x0406 (·.outputQuery h output)

/-- STREAM_QUERY (R330, R353): the stream's SDP description, whose text the manual leaves to its standards (log 24). -/
def Engine.streamQuery (h : MsgHdr) (kind entry : Nat) (e : Engine) : Engine :=
  if 2 ≤ kind || (if kind = 0 then 16 else 8) ≤ entry then e.refuse h 0x0407 .malformed .none
  else if !(if kind = 0 then e.cfg.nvValid entry else e.cfg.stValid entry) then e.refuse h 0x0407 .notFound .none
  else
    let n := Config.unstated 330 (kind * 16 + entry) % 65536
    e.reply h 0x0407 .ok .none (le 2 n ++ le 2 0 ++ freeBytes 330 (kind * 16 + entry + 1) n)

def execStreamQuery (t : Nat) (h : MsgHdr) (kind entry : Nat) (s : State) : Out :=
  s.run t fun e => e.request h 0x0407 (·.streamQuery h kind entry)

/-- An SDI output as its head leaves it: SENDING while the head runs (Table 12.9). -/
def Engine.sdiSync (e : Engine) : Engine :=
  let st (n : Nat) : SdiOut :=
    if !e.cfg.soEn n then ⟨0, false, none⟩
    else
      let on := (e.head (e.cfg.soHead n)).state = 1 && !(vget e.lanes (44 + n) Lane.reset).test
      ⟨if on then 1 else 2, decide ((rateD (e.cfg.hdRate (e.cfg.soHead n))).2 = 1001),
        if on then (vget e.outs.sdiOut n ⟨0, false, none⟩).extra else none⟩
  { e with outs := { e.outs with sdiOut := Vector.ofFn fun (i : Fin 8) => st i } }

/-- Streams that follow heads and branches go on or stop (R335): KIND 0 to 4 stop under Class V. -/
def Engine.netRun (on : Bool) (e : Engine) : Engine :=
  (List.range 16).foldl (fun e n =>
    if e.cfg.nvValid n && decide (e.cfg.nvKind n ≤ 4) then e.modNet n fun q => { q with state := if on then 1 else 2 } else e) e

/-- Streams of a source stop or go on, at a restart of their unit (R335). -/
def Engine.netRunOf (kinds : List Nat) (src : Nat) (on : Bool) (e : Engine) : Engine :=
  (List.range 16).foldl (fun e n =>
    if e.cfg.nvValid n && kinds.contains (e.cfg.nvKind n) && e.cfg.nvSrc n = src then
      e.modNet n fun q => { q with state := if on then 1 else 2 }
    else e) e

/-- Heads and outputs as a full restart configures them. -/
def Engine.outsStart (e : Engine) : Engine :=
  let e : Engine := { e with outs := { Outs.reset with answers := e.outs.answers } }
  let e := (List.range 4).foldl (fun e h => e.headStart h) e
  let e := (List.range 16).foldl (fun e n => e.modNet n fun q => { q with state := bit (e.cfg.nvValid n) }) e
  e.sdiSync

/-- Class V begins: heads, streams and HEVC stop (R335). -/
def Engine.outsHold (e : Engine) : Engine := (((List.range 4).foldl (fun e h => e.headHold h) e).netRun false).sdiSync

/-- Class V ends: heads resume at their own next boundaries (R335, R394). -/
def Engine.outsResume (e : Engine) : Engine := (((List.range 4).foldl (fun e h => e.headResume h) e).netRun true).sdiSync

/-- STS_SDIOUT, STS_DPOUT and STS_NETVIDEO (R337). -/
def Engine.stsSdi (e : Engine) : List Word :=
  (e.outs.sdiOut.toList.map fun q => mkWord [(31, 30, q.state), (29, 29, bit q.frac)]) ++
    e.outs.sdiIn.toList.map fun q => mkWord [(31, 30, q.state), (29, 26, q.rate), (25, 25, bit q.wide)]

def Engine.stsDp (e : Engine) : List Word :=
  e.outs.dp.toList.map fun q => mkWord [(31, 30, q.link), (29, 27, q.lanes), (26, 23, q.rate)]

def Engine.stsNet (e : Engine) : List Word := e.outs.streams.toList.map fun q => mkWord [(31, 30, q.state)]

end Sys2Proof.Machine
end

