-- ==== Sys2Proof/Machine/Position.lean ====
section
/-! DEFINITION. Position channels (ch. 17): sampling, soft limits, speed, the samples at exposure midpoints, and the
commands POS_SAMPLE, POS_SSI_READ, POS_SPEED_UPDATE, POS_MIDPOINT_LATCH and POS_SSI_SAMPLE_TIMEOUT. -/

namespace Sys2Proof.Machine

namespace Cfg

/-- Bits of word i of channel n's six words (Tables 17.2, 17.3). -/
def pw (c : Cfg) (n i hi lo : Nat) : Nat := c.f 0x0090 (6 * n + i) hi lo
def posEn (c : Cfg) (n : Nat) : Bool := c.b 0x0090 (6 * n) 31
def posMode (c : Cfg) (n : Nat) : Nat := c.pw n 0 30 29
def dirInv (c : Cfg) (n : Nat) : Bool := c.b 0x0090 (6 * n) 28
/-- A QUAD or HALL channel that keeps its position over a restart (R432). -/
def posKept (old new : Cfg) (n : Nat) : Bool :=
  old.posEn n && new.posEn n && old.posMode n ≠ 2 && old.posMode n = new.posMode n && old.dirInv n = new.dirInv n
def limEn (c : Cfg) (n : Nat) : Bool := c.b 0x0090 (6 * n) 27
def posFilt (c : Cfg) (n : Nat) : Nat := c.pw n 0 26 24
def zMode (c : Cfg) (n : Nat) : Nat := c.pw n 0 23 22
def spdWin (c : Cfg) (n : Nat) : Nat := c.pw n 0 21 19
def ssiBits (c : Cfg) (n : Nat) : Nat := c.pw n 1 31 26
def ssiGray (c : Cfg) (n : Nat) : Bool := c.b 0x0090 (6 * n + 1) 25
def ssiDbl (c : Cfg) (n : Nat) : Bool := c.b 0x0090 (6 * n + 1) 24
def limLo (c : Cfg) (n : Nat) : Int := signedOf 64 (c.pw n 2 31 0 + 2 ^ 32 * c.pw n 3 31 0)
def limHi (c : Cfg) (n : Nat) : Int := signedOf 64 (c.pw n 4 31 0 + 2 ^ 32 * c.pw n 5 31 0)
/-- A position held between the soft limits. -/
def limited (c : Cfg) (n : Nat) (v : Int) : Int := if c.limEn n then clampInt (c.limLo n) (c.limHi n) v else v
/-- Duration of one SSI read in ns (R426). -/
def ssiPeriod (c : Cfg) (n : Nat) : Nat :=
  let d := bit (c.ssiDbl n)
  (c.ssiBits n * (1 + d) + d + 1) * 20 * (c.pw n 1 23 16 + 1) + 1000 * c.pw n 1 15 8

end Cfg

def Engine.chan (e : Engine) (n : Nat) : PosChan := vget e.pos.chans n PosChan.reset
def Engine.modChan (n : Nat) (f : PosChan → PosChan) (e : Engine) : Engine :=
  { e with pos := { e.pos with chans := vmod e.pos.chans n f } }

/-- A channel's inputs are followed: it runs, or it goes on counting through its outage (R432). -/
def Engine.posLive (e : Engine) (n : Nat) : Bool :=
  let q := e.chan n
  q.state = 1 || q.state = 3 || (q.state = 2 && q.keeps)

/-- Source of a channel's counters and events (R434). -/
def posSrc (n : Nat) : Nat := 0x0340 + n

/-- FLAGS of Table 17.4. -/
def pfValid : Nat := 1
def pfRef : Nat := 2
def pfLimit : Nat := 4
def pfIllegal : Nat := 8
def pfHallBad : Nat := 16
def pfSsiErr : Nat := 32
def pfStale : Nat := 64
def pfFault : Nat := 128
def pfZ : Nat := 256

/-- An event flag set for the next sample of each port. -/
def PosChan.flag (f : Nat) (c : PosChan) : PosChan := { c with flags := c.flags.map (· ||| f) }

/-- One more sample of a line through its filter (R423). -/
def Filt.sample (n : Nat) (v : Bool) (f : Filt) : Filt :=
  let run := if v = f.raw then f.run + 1 else 1
  { level := if n < run then v else f.level, raw := v, run := min run (n + 1) }

/-- A position moved to v through limit() (R424, R427): step false is a reset to a value. -/
def Engine.posMove (n : Nat) (v : Int) (moved : Bool) (e : Engine) : Engine :=
  let c := e.chan n
  let w := e.cfg.limited n v
  let held := if w ≠ v then true else if moved then false else c.held
  let e := e.modChan n fun q => { q with pos := w, held := held }
  if held && !c.held then (e.bump .posLimit (posSrc n)).emit (posSrc n) .posLimit [] else e

/-- An illegal transition: counted, flagged, and logged at most once per second (R434). -/
def Engine.posIllegal (n : Nat) (e : Engine) : Engine :=
  let c := e.chan n
  let e := (e.bump .posIllegal (posSrc n)).modChan n fun q => { q.flag pfIllegal with illCount := q.illCount + 1 }
  let due := match c.illAt with
    | none => true
    | some t => decide (t + secs 1 ≤ e.now)
  if due then
    (e.emit (posSrc n) .posIllegal (le 4 (c.illCount + 1))).modChan n fun q => { q with illAt := some e.now, illCount := 0 }
  else e

/-- The QUAD logic of R424 on the filtered levels before and after a sample. -/
def Engine.posQuad (n : Nat) (a0 b0 z0 a b z : Bool) (e : Engine) : Engine :=
  let da := a != a0
  let db := b != b0
  let step : Int := if da && db then 0 else if da || db then (if a != b0 then 1 else -1) else 0
  let step := if e.cfg.dirInv n then -step else step
  let e := if da && db then e.posIllegal n else e
  let e := e.posMove n ((e.chan n).pos + step) (decide (step ≠ 0))
  if z && !z0 then
    let e := (e.bump .posZ (posSrc n)).modChan n fun q => { q.flag pfZ with zPos := q.pos }
    let m := e.cfg.zMode n
    if m = 3 ∨ (m = 2 ∧ !(e.chan n).ref) then
      ((e.posMove n 0 true).modChan n fun q => { q with ref := true }).emit (posSrc n) .posRef []
    else if m = 1 then e.modChan n fun q => { q with ref := true } else e
  else e

/-- Legal HALL codes in forward order (R425). -/
def hallOrder : List Nat := [4, 6, 2, 3, 1, 5]

/-- The HALL logic of R425 on a code. -/
def Engine.posHall (n h : Nat) (e : Engine) : Engine :=
  let c := e.chan n
  if c.hLast = some h then e
  else
    let e := e.modChan n fun q => { q with hLast := some h }
    if h = 0 ∨ h = 7 then
      let e := (e.bump .posHallBad (posSrc n)).modChan n fun q => { q.flag pfHallBad with hBad := true }
      if c.hBad then e else e.emit (posSrc n) .posHallBad []
    else
      let e := e.modChan n fun q => { q with hBad := false }
      match c.hOk with
      | none => e.modChan n fun q => { q with hOk := some h }
      | some k =>
        let d := (hallOrder.idxOf h + 6 - hallOrder.idxOf k) % 6
        let sgn : Int := if e.cfg.dirInv n then -1 else 1
        if d = 0 then e
        else
          let e := e.modChan n fun q => { q with hOk := some h }
          if d = 1 then e.posMove n (c.pos + sgn) true
          else if d = 5 then e.posMove n (c.pos - sgn) true
          else e.posIllegal n

/-- POS_SAMPLE (R423 to R425): one 4 ns sample of a channel's three inputs. -/
def Engine.posSample (n : Nat) (a b z : Bool) (e : Engine) : Engine :=
  if !e.posLive n || e.cfg.posMode n = 2 then e
  else
    let lv (e : Engine) (k : Nat) : Bool := (vget (e.chan n).filt k ⟨false, false, 0⟩).level
    let a0 := lv e 0
    let b0 := lv e 1
    let z0 := lv e 2
    let f := e.cfg.posFilt n
    let e := e.modChan n fun q => { q with
      started := true
      filt := vmod (vmod (vmod q.filt 0 (Filt.sample f a)) 1 (Filt.sample f b)) 2 (Filt.sample f z) }
    if e.cfg.posMode n = 1 then e.posHall n (4 * bit (lv e 0) + 2 * bit (lv e 1) + bit (lv e 2))
    else e.posQuad n a0 b0 z0 (lv e 0) (lv e 1) (lv e 2)

def execPosSample (t : Nat) (ch : Fin 8) (a b z : Bool) (s : State) : Out :=
  s.run t fun e => e.whenLive (·.posSample ch a b z)

/-- Gray code to binary over n bits (R426). -/
def grayToBin : (n : Nat) → Nat → Nat
  | 0, _ => 0
  | n + 1, g =>
    -- bit n of the binary number is bit n of the code; each lower bit is the exclusive or of all above it
    (List.range (n + 1)).foldl (fun v i => v ^^^ (g / 2 ^ i)) 0 % 2 ^ (n + 1)

/-- The difference of two SSI positions modulo 2^BITS (R426). -/
def ssiDiff (bits : Nat) (p1 p0 : Int) : Int :=
  (p1 - p0 + 2 ^ (bits - 1)) % 2 ^ bits - 2 ^ (bits - 1)

/-- The difference of two instants in ns. -/
def nsBetween (t1 t0 : Nat) : Int := ((t1 : Int) / 65536) - (t0 : Int) / 65536

/-- Speed after a valid read (R428): reads newest first, the newest included. -/
def ssiSpeed (bits win : Nat) (reads : List (Nat × Int)) : Int :=
  match reads with
  | [] => 0
  | (t1, p1) :: r =>
    let tw := us 125 * 2 ^ win
    let near := r.foldl (fun (a : Option (Nat × Int)) x =>
      let d (x : Nat × Int) : Nat := (((t1 : Int) - tw) - x.1).natAbs
      match a with
      | none => some x
      | some y => if d x < d y then some x else some y) none
    match near, r.getLast? with
    | some (t0, p0), some old =>
      if t1 < old.1 + tw ∨ nsBetween t1 t0 = 0 then 0
      else Int.tdiv (ssiDiff bits p1 p0 * 1000000000) (nsBetween t1 t0)
    | _, _ => 0

/-- A 16-byte sample (Table 17.4). -/
def sampleBytes (pos speed : Int) (flags mode : Nat) : List Byte :=
  leInt 8 pos ++ leInt 4 (clampInt (-2147483648) 2147483647 speed) ++ le 2 flags ++ le 1 mode ++ le 1 0

/-- The sample of a channel that gives none (R431): VALID 0, and MODE 0xFF when it is disabled. -/
def Cfg.noSample (c : Cfg) (n : Nat) : List Byte := sampleBytes 0 0 0 (if c.posEn n then c.posMode n else 0xFF)

def Engine.keepSample (x : PosSample) (e : Engine) : Engine :=
  { e with pos := { e.pos with samples := (x :: e.pos.samples).take 512 } }

/-- The flags of a sample for a port, which are cleared by it. -/
def Engine.takeFlags (n p : Nat) (extra : Nat) (e : Engine) : Nat × Engine :=
  let c := e.chan n
  let fault := if c.state = 3 then pfFault else 0
  (vget c.flags p 0 ||| pfValid ||| (if c.ref then pfRef else 0) ||| fault ||| extra,
    e.modChan n fun q => { q with flags := vmod q.flags p fun _ => 0 })

/-- A sample of an SSI channel at position v, complete (R430, R427). -/
def Engine.ssiSample (w : PosWait) (v : Int) (extra : Nat) (e : Engine) : Engine :=
  let lim := e.cfg.limited w.ch v
  let (fl, e) := e.takeFlags w.ch w.port (extra ||| if lim ≠ v then pfLimit else 0)
  let e := { e with pos := { e.pos with waits := e.pos.waits.filter (· ≠ w) } }
  e.keepSample ⟨w.port, w.cfn, w.ch, sampleBytes lim (e.chan w.ch).speed fl 2⟩

/-- The interpolation of R430 between reads (t0, p0) and (t1, p1). -/
def ssiInterp (bits tm t0 t1 : Nat) (p0 p1 : Int) : Int :=
  let d := nsBetween t1 t0
  (p0 + (ssiDiff bits p1 p0 * nsBetween tm t0 + d / 2) / d) % 2 ^ bits

/-- SSI samples whose read after the midpoint has come are complete (R430). -/
def Engine.ssiResolve (n : Nat) (e : Engine) : Engine :=
  (e.pos.waits.filter (·.ch = n)).foldl (fun e w =>
    let reads := (e.chan n).reads
    match (reads.reverse.find? fun r => w.tm < r.1), reads.find? fun r => r.1 ≤ w.tm with
    | some (t1, p1), some (t0, p0) =>
      if nsBetween t1 t0 = 0 then e else e.ssiSample w (ssiInterp (e.cfg.ssiBits n) w.tm t0 t1 p0 p1) 0
    | _, _ => e) e

/-- POS_SSI_READ (R426 to R428): one read, latched at an instant of the engine's counter. Positions are kept as read;
the limit applies to what is reported. -/
def Engine.posSsiRead (n latch first second : Nat) (lowAtStart : Bool) (e : Engine) : Engine :=
  if !e.posLive n || e.cfg.posMode n ≠ 2 then e
  else
    let bits := e.cfg.ssiBits n
    if lowAtStart || (e.cfg.ssiDbl n && first ≠ second) then
      let k := (e.chan n).ssiErrs + 1
      let e := (e.bump .posSsiErr (posSrc n)).modChan n fun q => { q.flag pfSsiErr with ssiErrs := k }
      if k = 8 then (e.modChan n fun q => { q with state := 3 }).emit (posSrc n) .posSsiLoss [] else e
    else
      let v := first % 2 ^ bits
      let v := if e.cfg.ssiGray n then grayToBin bits v else v
      let v : Int := if e.cfg.dirInv n then ((2 ^ bits - v) % 2 ^ bits : Nat) else v
      let was := (e.chan n).state
      let tw := us 125 * 2 ^ e.cfg.spdWin n
      let reads := (latch, v) :: (e.chan n).reads
      let reads := reads.take 2 ++ (reads.drop 2).filter fun r => decide (latch ≤ r.1 + 2 * tw)
      let e := e.modChan n fun q => { q with
        reads := reads, ssiErrs := 0, ref := true, started := true, state := if was = 3 then 1 else was
        speed := ssiSpeed bits (e.cfg.spdWin n) reads }
      let e := if was = 3 then e.emit (posSrc n) .posSsiOk [] else e
      -- while the encoder is beyond the limit the reported value is clamped; inside it is the encoder's own
      (e.posMove n v true).ssiResolve n

def execPosSsiRead (t : Nat) (ch : Fin 8) (latch first second : Nat) (lowAtStart : Bool) (s : State) : Out :=
  s.run t fun e => e.whenLive (·.posSsiRead ch latch first second lowAtStart)

/-- POS_SPEED_UPDATE (R428): every 125 us, every QUAD and HALL channel. -/
def Engine.posSpeedUpdate (e : Engine) : Engine :=
  (List.range 8).foldl (fun e n =>
    if !e.posLive n || e.cfg.posMode n = 2 then e
    else
      e.modChan n fun q =>
        let h := (q.pos :: q.hist).take 130
        let k := 2 ^ e.cfg.spdWin n
        { q with hist := h
                 speed := match h[k]? with
                   | some old => Int.tdiv ((q.pos - old) * 1000000) ((125 * k : Nat) : Int)
                   | none => 0 }) e

def execPosSpeedUpdate (t : Nat) (s : State) : Out := s.run t fun e => e.whenLive (·.posSpeedUpdate)

/-- The frame of the run whose midpoint lies nearest now. -/
def Engine.midFrame (e : Engine) (p : Nat) : Nat :=
  let b := cfnAdd e.proj.nextCfn (-6)
  let dist (c : Nat) : Nat := (e.midpoint p c - e.now).natAbs
  ((List.range 10).map fun k => cfnAdd b k).foldl (fun a c => if dist c < dist a then c else a) b

/-- POS_MIDPOINT_LATCH (R429): every enabled channel is latched for the frame of a port whose midpoint this is. -/
def Engine.posMidpointLatch (p : Nat) (e : Engine) : Engine :=
  if !(e.proj.run && (e.port p).joined) then e
  else
    let c := e.midFrame p
    (List.range 8).foldl (fun e n =>
      let q := e.chan n
      if !e.cfg.posEn n || q.state = 0 || q.state = 2 || !q.started then e
      else if e.cfg.posMode n = 2 then
        ({ e with pos := { e.pos with waits := e.pos.waits ++ [(⟨p, c, n, (e.midpoint p c).toNat⟩ : PosWait)] } }).ssiResolve n
      else
        let (fl, e) := e.takeFlags n p (if q.held then pfLimit else 0)
        e.keepSample ⟨p, c, n, sampleBytes q.pos q.speed fl (e.cfg.posMode n)⟩) e

def execPosMidpointLatch (t : Nat) (p : Fin 2) (s : State) : Out :=
  s.run t fun e => e.whenLive (·.posMidpointLatch p)

/-- POS_SSI_SAMPLE_TIMEOUT (R430): a sample of a channel for a port that has waited two read periods is given with what there is. -/
def Engine.posSsiSampleTimeout (p n : Nat) (e : Engine) : Engine :=
  match e.pos.waits.find? fun w => w.port = p && w.ch = n && decide (w.tm + ns (2 * e.cfg.ssiPeriod n) ≤ e.now) with
  | none => e
  | some w =>
    let near := (e.chan n).reads.find? fun r => (nsBetween r.1 w.tm).natAbs ≤ 2 * e.cfg.ssiPeriod n
    match near, (e.chan n).reads.head? with
    | some r, _ => e.ssiSample w r.2 pfStale
    | none, some r => e.ssiSample w r.2 pfFault
    | none, none => { e with pos := { e.pos with waits := e.pos.waits.filter (· ≠ w) } }

def execPosSsiSampleTimeout (t : Nat) (p : Fin 2) (ch : Fin 8) (s : State) : Out :=
  s.run t fun e => e.whenLive (·.posSsiSampleTimeout p ch)

/-- The sample of channel n for frame c of a port, as its metadata record carries it. -/
def Engine.posOf (e : Engine) (p c n : Nat) : List Byte :=
  match e.pos.samples.find? fun x => x.port = p ∧ x.cfn = c ∧ x.ch = n with
  | some x => x.bytes
  | none => e.cfg.noSample n

/-- A channel starts as at power-up (R432): running when it is enabled. -/
def Engine.posStart (n : Nat) (e : Engine) : Engine :=
  e.modChan n fun _ => { PosChan.reset with state := if e.cfg.posEn n then 1 else 0 }

/-- A channel stops for its restart; with the new configuration in effect it keeps what it has or starts anew (R432). -/
def Engine.posStop (old : Cfg) (n : Nat) (e : Engine) : Engine :=
  let kept := Cfg.posKept old e.cfg n && (e.chan n).state ≠ 0
  e.modChan n fun q => { (if kept then q else PosChan.reset) with state := 2, keeps := kept }

/-- A restarted channel runs again (R432). -/
def Engine.posResume (n : Nat) (e : Engine) : Engine :=
  e.modChan n fun q => { q with state := if e.cfg.posEn n then 1 else 0, keeps := false }

/-- STS_POS words of a channel (R433). -/
def Engine.stsPosChan (e : Engine) (n : Nat) : List Word :=
  let q := e.chan n
  let lv (k : Nat) : Nat := bit (vget q.filt k ⟨false, false, 0⟩).level
  let two (v : Int) : List Word := [word (toBits 64 v), word (toBits 64 v / 2 ^ 32)]
  [mkWord [(31, 30, q.state), (29, 28, if q.state = 0 then 0 else e.cfg.posMode n), (27, 27, bit q.ref), (26, 26, bit q.held),
    (25, 25, lv 0), (24, 24, lv 1), (23, 23, lv 2)]] ++ two q.pos ++ [word (toBits 32 q.speed)] ++ two q.zPos

end Sys2Proof.Machine
end

