-- ==== Sys2Proof/Machine/Media.lean ====
section
/-! DEFINITION. The media ports (ch. 10): drives inserted, mounted, formatted, qualified, their commands, errors and
removal, and STS_MEDIA. -/

namespace Sys2Proof.Machine

/-- Playback loses a drive that it reads (R250). -/
def Engine.playLeave (m : Nat) (e : Engine) : Engine :=
  match e.rec_.play with
  | none => e
  | some p =>
    let ports := p.ports.filter (· ≠ m)
    e.modRec fun r => { r with play := if ports.isEmpty then none else some { p with ports := ports } }

/-- A waiting MEDIA_QUALIFY is answered (R253). -/
def Engine.qualAnswer (m : Nat) (st : Status) (rs : Reason) (e : Engine) : Engine :=
  match (e.mport m).qualifier with
  | none => e
  | some (c, seq) => (e.modMedia m fun q => { q with qualifier := none }).reply ⟨c, seq⟩ 0x0307 st rs []

/-- A drive is lost to everything that uses it: its commands fail, and it leaves the recording set, the set of a record
start that is pending, or playback (R249, R250, R295). -/
def Engine.driveLost (m : Nat) (st : DriveState) (e : Engine) : Engine :=
  let e := e.epDriveGone m
  let e := e.modMedia m fun q => { q with
    cmds := [], owed := [], resetting := false, state := st, volume := none, mounting := none, qualTmp := none }
  let drop (p : PendMode) : PendMode := { p with set := p.set.filter (· ≠ m) }
  let e : Engine := { e with sys := { e.sys with pend := e.sys.pend.map drop } }
  let e := ((e.recLeave m false).playLeave m).qualAnswer m .refused .checkFailed
  e.recPump.epSync

/-- The drive becomes FAILED (R249). -/
def Engine.driveFail (m : Nat) (e : Engine) : Engine :=
  if (e.mport m).state = .empty || (e.mport m).state = .failed then e
  else ((e.driveLost m .failed).bump .mediaFail (mediaSrc m)).emit (mediaSrc m) .mediaFailed []

/-- A drive can be used (R246): NVMe 1.3, blocks of 512 or 4,096 bytes alone, and an I/O queue pair. -/
def driveUsable (d : DriveInfo) : Bool :=
  decide (0x00010300 ≤ d.version) && (d.lbaLog2 = 9 || d.lbaLog2 = 12) && d.lbaMeta = 0 && !d.lbaProt && decide (1 ≤ d.queues)

/-- Bytes of a drive. -/
def driveBytes (d : DriveInfo) : Nat := d.blocks * 2 ^ d.lbaLog2

/-- The widest of x1, x2 and x4 within some lanes (R246). -/
def linkWidth (n : Nat) : Nat := if 4 ≤ n then 4 else if 2 ≤ n then 2 else min n 1

/-- Enabled ML lanes of a media port. -/
def Cfg.mediaLanes (c : Cfg) (m : Nat) : List Nat := ((List.range 4).map (16 + 4 * m + ·)).filter fun l => c.lnRate l ≠ 0

/-- The generation that a port's lanes allow: the lowest of their RATE codes (Table 3.4). -/
def Cfg.mediaGen (c : Cfg) (m : Nat) : Nat := ((c.mediaLanes m).map c.lnRate).foldl min 5

/-- The commands of link up (Table 10.1): Identify, the features, the queues, the log pages, the event request that stays
outstanding, and the reads of a mount. -/
def linkCmds (queues : Nat) : List CmdUse :=
  [.identify 1, .identify 2, .identify 0, .feature 7 true, .feature 7 false, .feature 6 true, .feature 6 false, .feature 12 true,
    .feature 12 false] ++
  (List.range queues).flatMap (fun q => [.queue true false (q + 1), .queue true true (q + 1)]) ++
  [.logPage 1, .logPage 2, .asyncEvent, .read .mount]

/-- Commands of a drive that pass a test are done. -/
def Engine.endCmds (m : Nat) (p : CmdUse → Bool) (e : Engine) : Engine :=
  e.modMedia m fun q => { q with cmds := q.cmds.filter fun c => !p c.use }

/-- A command belongs to a job. -/
def CmdUse.of (j : MediaJob) (u : CmdUse) : Bool := u = .read j || u = .write j || u = .deallocate j

/-- A port with a drive starts as it is configured: with the port enabled the drive is powered, and trains to what it and the port's
lanes allow (R246, R248, R250, R536). -/
def Engine.driveStart (m : Nat) (e : Engine) : Engine :=
  match (e.mport m).drive with
  | none => e.modMedia m fun _ => MediaPort.reset
  | some d =>
    let on := e.cfg.mediaEn m
    let e : Engine := { e with pins := { e.pins with
      pwren := vmod e.pins.pwren m fun _ => on, perstN := vmod e.pins.perstN m fun _ => on } }
    let ok := driveUsable d
    let queues := min (e.cfg.mediaIoq m) d.queues
    let e := e.modMedia m fun _ => { MediaPort.reset with
      state := if !on then .empty else if ok then .linking else .unsupported, drive := some d
      gen := if on then min d.gen (e.cfg.mediaGen m) else 0
      width := if on then linkWidth (min d.width (e.cfg.mediaLanes m).length) else 0
      queues := if on && ok then queues else 0, entries := if on && ok then min (e.cfg.mediaQd m) d.entries else 0 }
    (if on && ok then e.putCmds m (linkCmds queues) [] else e).epSync

/-- MEDIA_INSERT (R246, R250, R536): the drive is powered, trains and is identified; before step 8 once MEDIA is configured
(R513). -/
def Engine.mediaInsert (m : Nat) (info : DriveInfo) (e : Engine) : Engine :=
  if (e.mport m).drive.isSome || !info.present then e
  else
    let e := e.modMedia m fun q => { q with drive := some info }
    if e.live then e.driveStart m else e

def execMediaInsert (t : Nat) (m : Fin 4) (info : DriveInfo) (s : State) : Out :=
  s.run t fun e => e.whenPowered (·.mediaInsert m info)

/-- MEDIA_REMOVE (R250, R536). -/
def Engine.mediaRemove (m : Nat) (e : Engine) : Engine :=
  if (e.mport m).state = .empty then e.modMedia m fun q => { q with drive := none }
  else
    let e := e.driveLost m .empty
    let e := (e.bump .mediaRemoved (mediaSrc m)).emit (mediaSrc m) .mediaRemoved []
    let e : Engine := { e with pins := { e.pins with
      pwren := vmod e.pins.pwren m fun _ => false, perstN := vmod e.pins.perstN m fun _ => false } }
    (e.modMedia m fun _ => MediaPort.reset).epSync

def execMediaRemove (t : Nat) (m : Fin 4) (s : State) : Out := s.run t fun e => e.whenPowered (·.mediaRemove m)

/-- QUAL.BIN of a drive (Table 10.3). -/
def qualBin (d : DriveInfo) (mbps readMbps stampS : Nat) : List Byte :=
  let b := padTo 4092 (le 4 0x4C515346 ++ padTo 20 d.serial ++ padTo 40 d.model ++ padTo 8 d.firmware ++ le 4 mbps ++
    le 4 readMbps ++ le 8 stampS)
  b ++ le 4 (crc32c b)

/-- The qualified rate that a QUAL.BIN gives the drive it is found on: its CRC is right and it names the drive (R253). -/
def qualRate (d : DriveInfo) (bs : List Byte) : Option Nat :=
  if bs.length = 4096 && decide (unle (bs.drop 4092) = crc32c (bs.take 4092)) && decide (unle (bs.take 4) = 0x4C515346) &&
      decide ((bs.drop 4).take 68 = padTo 20 d.serial ++ padTo 40 d.model ++ padTo 8 d.firmware) then
    some (unle ((bs.drop 72).take 4))
  else none

/-- A page of a file, and a field of a page. -/
def filePage (f : List Byte) (k : Nat) : List Byte := (f.drop (4096 * k)).take 4096
def pageField (p : List Byte) (a n : Nat) : Nat := unle ((p.drop a).take n)

/-- A page of a stripe file's headers: its magic, and its CRC in its last four bytes (Tables 10.5 and 10.6). -/
def headPageOk (magic : Nat) (p : List Byte) : Bool :=
  p.length = 4096 && decide (pageField p 0 4 = magic) && decide (pageField p 4092 4 = crc32c (p.take 4092))

/-- A chunk that the walk of an unclosed stripe file finds (R274). -/
structure FoundChunk where
  page : Nat
  ty : Nat
  cfn : Nat
  mask : Nat
  count : Nat
  encrypted : Bool
  body : List Byte
  /-- its BODY_CRC is correct -/
  ok : Bool
  deriving DecidableEq, Repr

/-- The walk of a stripe file from a page on (R274 step 2). -/
def walkChunks (f tag : List Byte) : (fuel page seq : Nat) → List FoundChunk
  | 0, _, _ => []
  | n + 1, page, seq =>
    let h := filePage f page
    let pages := pageField h 12 4
    if !headPageOk 0x4B435346 h || (h.drop 24).take 8 ≠ tag || pageField h 8 4 ≠ seq || pages = 0 ||
        decide (f.length < 4096 * (page + pages)) then []
    else
      let body := (f.drop (4096 * (page + 1))).take (4096 * (pages - 1))
      ⟨page, pageField h 4 1, pageField h 16 4, pageField h 32 4, pageField h 36 4, (pageField h 6 2).testBit 0, body,
        decide (pageField h 4088 4 = crc32c body)⟩ :: walkChunks f tag n (page + pages) (seq + 1)

/-- The first pages of the chunks that a valid INDEX chunk lists (R267); of an encrypted one, as the clip key opens it (R271). -/
def indexPages (key : List Byte) (pos : Nat) (x : FoundChunk) : List Nat :=
  if x.ty ≠ 2 || !x.ok then []
  else
    let plain := if x.encrypted then xtsPages xtsDec key pos (x.page + 1) x.body else x.body
    (List.range x.count).map fun i => pageField plain (16 * i + 4) 4

/-- The FRAME chunks that recovery accepts of a stripe file: those that its INDEX chunks list, as they stand; the later ones while their
BODY_CRC is correct (R274 step 3; log 160). -/
def acceptedChunks (key : List Byte) (pos : Nat) (cs : List FoundChunk) : List FoundChunk :=
  let listed := cs.flatMap (indexPages key pos)
  let frames := cs.filter (·.ty = 1)
  frames.filter (fun x => listed.contains x.page) ++
    (frames.filter fun x => !listed.contains x.page).takeWhile (·.ok)

/-- What recovery takes of a stripe file whose clip header is right (R274 step 1): the header, and its accepted chunks. -/
def foundFile (ks : KeyStore) (f : List Byte) : Option (List Byte × List FoundChunk) :=
  let h := filePage f 0
  if !headPageOk 0x48435346 h then none
  else
    let key := (keyUnwrap ((ks.pkey.map (·.value)).getD []) ((h.drop 96).take 72)).getD []
    some (h, acceptedChunks key (pageField h 6 1) (walkChunks f ((h.drop 24).take 8) (f.length / 4096) 1 0))

/-- A CFN of a clip is complete: its chunks hold every tile column, of 512 photosites (R188, R268). -/
def clipComplete (cols : Nat) (cs : List FoundChunk) (c : Nat) : Bool :=
  (List.range cols).all fun k => cs.any fun x => x.cfn = c && x.mask.testBit k

/-- FIRST_CFN of a clip, and the CFN at which recovery ends it: the last of its last whole project frame whose CFNs are complete; the
CFN before its first where there is none (R274 step 4). -/
def openLast (ks : KeyStore) (o : OpenClip) : Nat × Nat :=
  let fs := o.files.filterMap (foundFile ks)
  let h := (fs.head?.map (·.1)).getD []
  let cs := fs.flatMap (·.2)
  let first := pageField h 64 4
  let n := max 1 (pageField h 55 1)
  let mask := pageField h 47 1
  let cols := cdiv (pageField h 48 2) 512
  let whole (b : Nat) : Bool := (List.range n).all fun j => !mask.testBit j || clipComplete cols cs (cfnAdd b j)
  let bases := (cs.map fun x => x.cfn - x.cfn % n).filter whole
  (first, match bases.foldl (fun (a : Option Nat) b => match a with
      | none => some b
      | some c => if cfnDiff c b < 0 then some b else a) none with
    | some b => cfnAdd b ((n : Int) - 1)
    | none => cfnAdd first (-1))

/-- The volume of a drive: in the first partition of its table, otherwise at LBA 0; and whether the recorder takes it (R251). -/
def mountVolume (info : MountInfo) : Option VolInfo := if info.table then info.inTable else info.atStart
def volumeOk (v : VolInfo) : Bool :=
  v.revision = 0x0100 && v.bootOk && decide (12 ≤ v.clusterLog2) && (v.start + v.heapStart) % 4096 = 0

/-- The rest of a mount: the recovered clips are told, and the drive is MOUNTED (R251, R274). -/
def Engine.mountEnd (ks : KeyStore) (m : Nat) (d : DriveInfo) (info : MountInfo) (e : Engine) : Engine :=
  let e := info.open_.foldl (fun e o =>
    let (first, last) := openLast ks o
    ((e.bump .clipRecovered 0x0200).emit 0x0200 .clipRecovered (evData [(4, last)])).notify 0x0505 none
      (padTo 16 o.name ++ le 4 first ++ le 4 last ++ le 1 4 ++ le 3 0)) e
  let e := e.emit (mediaSrc m) .mediaMount []
  (e.modMedia m fun q => { q with
    state := .mounted, mounting := none, qualBin := info.qual, qual := info.qual.bind (qualRate d), free := info.free
    folders := info.folders }).epSync

/-- MEDIA_MOUNT (R251, R253, R257, R274): the volume is checked and QUAL.BIN read. A drive with unclosed clips is RECOVERING until
their FINAL chunks are written. The recorder mounts no drive in OFFLOAD (Table 1.3). -/
def Engine.mediaMount (ks : KeyStore) (m : Nat) (info : MountInfo) (e : Engine) : Engine :=
  match (e.mport m).drive with
  | none => e
  | some d =>
    if (e.mport m).state ≠ .linking || e.sys.mode = .offload || e.unitHeld (0x0500 + m) (13 + m) then e
    else
      let e := e.endCmds m fun u => u ≠ .asyncEvent
      match mountVolume info with
      | none => (e.modMedia m fun q => { q with state := .foreign }).epSync
      | some v =>
        if !volumeOk v then (e.modMedia m fun q => { q with state := .foreign }).epSync
        else
          let e := e.modMedia m fun q => { q with volume := some ⟨v.start, v.size, v.clusterLog2, v.label⟩ }
          if info.open_.isEmpty then e.mountEnd ks m d info
          else
            let e := e.modMedia m fun q => { q with state := .recovering, mounting := some info }
            (e.putCmds m [.read .recovery, .write .recovery, .flush] []).epSync

def execMediaMount (t : Nat) (m : Fin 4) (info : MountInfo) (s : State) : Out :=
  s.runWith t fun _ ks e => e.whenLive (·.mediaMount ks m info)

/-- A command's error completion is counted (R249). -/
def Engine.mediaIoErr (m : Nat) (e : Engine) : Engine := (e.bump .mediaIoErr (mediaSrc m)).emit (mediaSrc m) .mediaIoErr []

/-- A Flush has completed: a recovery that it ends is over, what it covers is durable, and the INDEX chunks follow (R251, R260,
R268). -/
def Engine.flushDone (ks : KeyStore) (m : Nat) (c : MediaCmd) (e : Engine) : Engine :=
  match (e.mport m).mounting, (e.mport m).drive with
  | some info, some d => (e.endCmds m (CmdUse.of .recovery)).mountEnd ks m d info
  | _, _ => (e.chunksDurable c.covers).layIndexes m

/-- What a command's success means: with its header page a chunk is written, durable at once without a write cache, and an INDEX or
FINAL chunk gives its file its length (R254, R260, R268). What runs on is issued again: the event request, and the reads and writes
of playback and of the qualification (Table 10.1, R253). -/
def Engine.cmdDone (ks : KeyStore) (m : Nat) (c : MediaCmd) (e : Engine) : Engine :=
  match c.use with
  | .flush => e.flushDone ks m c
  | .body id _ => e.modChunk id fun x => { x with got := x.got + 1 }
  | .header id =>
    let vwc := ((e.mport m).drive.map (·.vwc)).getD true
    let e := e.modChunk id fun x => { x with written := true, durable := !vwc }
    match e.rec_.chunks.find? fun x => x.id = id && x.ty ≠ 1 with
    | some x => e.fileEnd x
    | none => e
  | .asyncEvent => e.putCmds m [.asyncEvent] []
  | .host q cid => e.epHostDone q cid 0
  | .read .playback => if (e.mport m).state = .playing then e.putCmds m [c.use] [] else e
  | .read .qualify | .write .qualify => if (e.mport m).state = .qualifying then e.putCmds m [c.use] [] else e
  | .abort _ | .identify _ | .feature _ _ | .queue _ _ _ | .logPage _ | .read _ | .write _ | .deallocate _ | .drain => e

/-- MEDIA_CMD_COMPLETE (R249, R260): success, a retry, or a drive that fails. The success of a drain write is EP_DRAIN_DONE. -/
def Engine.mediaCmdComplete (ks : KeyStore) (m cid status : Nat) (e : Engine) : Engine :=
  match (e.mport m).cmds.find? (·.cid = cid) with
  | none => e
  | some c =>
    let e := e.modMedia m fun q => { q with resetting := false }
    if status = 0 then
      if c.use = .drain then e
      else
        let e := e.modMedia m fun q => { q with cmds := q.cmds.filter (·.cid ≠ cid) }
        (e.cmdDone ks m c).recPump
    else
      let e := e.mediaIoErr m
      if c.retried then
        (match c.use with
        | .host q cid => e.epHostDone q cid status
        | _ => e).driveFail m
      else
        let again (x : MediaCmd) : MediaCmd := if x.cid = cid then { x with retried := true, aborted := false } else x
        e.modMedia m fun q => { q with cmds := q.cmds.map again }

def execMediaCmdComplete (t : Nat) (m : Fin 4) (cid status : Nat) (s : State) : Out :=
  s.runWith t fun _ ks e => e.whenPowered (·.mediaCmdComplete ks m cid status)

/-- MEDIA_CMD_TIMEOUT (R249): a command without completion after TIMEOUT is aborted; the event request waits for its event as long
as it takes (log 158). -/
def Engine.mediaCmdTimeout (m cid : Nat) (e : Engine) : Engine :=
  if (e.mport m).cmds.any fun c => c.cid = cid && !c.aborted && c.use ≠ .asyncEvent then
    let f (x : MediaCmd) : MediaCmd := if x.cid = cid then { x with aborted := true } else x
    let e := (e.modMedia m fun q => { q with cmds := q.cmds.map f }).putCmds m [.abort cid] []
    (e.bump .mediaTimeout (mediaSrc m)).emit (mediaSrc m) .mediaTimeout []
  else e

def execMediaCmdTimeout (t : Nat) (m : Fin 4) (cid : Nat) (s : State) : Out :=
  s.run t fun e => e.whenLive (·.mediaCmdTimeout m cid)

/-- A drive holds a clip that is open (R249). -/
def Engine.inClip (e : Engine) (m : Nat) : Bool :=
  e.rec_.takes.any fun t => t.drives.any fun d => d.port = m && !d.left

/-- MEDIA_ABORT_TIMEOUT (R249): the controller is reset and outstanding commands are reissued; a second reset within one
clip, or within 60 s outside a clip, makes the drive FAILED. -/
def Engine.mediaAbortTimeout (m cid : Nat) (e : Engine) : Engine :=
  let q := e.mport m
  if q.cmds.any fun c => c.cid = cid && c.aborted then
    let e := (e.bump .mediaReset (mediaSrc m)).emit (mediaSrc m) .mediaReset []
    let again := if e.inClip m then q.resetInClip else q.resetAt.any fun t => decide (e.now < t + secs 60)
    if again then e.driveFail m
    else
      let f (x : MediaCmd) : MediaCmd := { x with aborted := false }
      let old (x : MediaCmd) : Bool := match x.use with
        | .abort _ | .queue _ _ _ => false
        | _ => true
      let e := e.modMedia m fun q => { q with
        resetting := true, resetAt := some e.now, resetInClip := e.inClip m, cmds := (q.cmds.filter old).map f }
      e.putCmds m ((List.range q.queues).flatMap fun k =>
        [.queue false true (k + 1), .queue false false (k + 1), .queue true false (k + 1), .queue true true (k + 1)]) []
  else e

def execMediaAbortTimeout (t : Nat) (m : Fin 4) (cid : Nat) (s : State) : Out :=
  s.run t fun e => e.whenLive (·.mediaAbortTimeout m cid)

/-- MEDIA_RESET_TIMEOUT (R249): a reset not complete within 5 s. -/
def Engine.mediaResetTimeout (m : Nat) (e : Engine) : Engine := if (e.mport m).resetting then e.driveFail m else e

def execMediaResetTimeout (t : Nat) (m : Fin 4) (s : State) : Out := s.run t fun e => e.whenLive (·.mediaResetTimeout m)

/-- MEDIA_LINK_DOWN_TIMEOUT (R249): the link has stayed down for more than 1 s. -/
def Engine.mediaLinkDown (m : Nat) (e : Engine) : Engine := e.driveFail m

def execMediaLinkDownTimeout (t : Nat) (m : Fin 4) (s : State) : Out := s.run t fun e => e.whenLive (·.mediaLinkDown m)

/-- MEDIA_HEALTH_POLL (R247, R249): the critical warnings of the SMART log; bit 3 is the read-only warning. -/
def Engine.mediaHealthPoll (m w : Nat) (e : Engine) : Engine :=
  if (e.mport m).state = .empty then e
  else
    let e := if w ≠ 0 && !(e.mport m).healthWarn then e.emit (mediaSrc m) .mediaHealth [] else e
    let e := e.modMedia m fun q => { q with healthWarn := decide (w ≠ 0) }
    if w.testBit 3 then e.driveFail m else e

def execMediaHealthPoll (t : Nat) (m : Fin 4) (warning : Nat) (s : State) : Out :=
  s.run t fun e => e.whenLive (·.mediaHealthPoll m warning)

/-- Why a format or qualify request is refused, if it is (R252, R253). -/
def Engine.mediaRefusal (e : Engine) (m : Nat) : Option (Status × Reason) :=
  if !(e.sys.mode = .standby || e.sys.mode = .preview || e.sys.mode = .service) then some (.state, .none)
  else
    match (e.mport m).state with
    | .empty => some (.notFound, .none)
    | .recording | .playing => some (.refused, .inUse)
    | .formatting | .qualifying => some (.busy, .none)
    | .mounted | .foreign => if e.inSet m then some (.refused, .inUse) else none
    | _ => some (.refused, .checkFailed)

/-- MEDIA_FORMAT (R252): the namespace is not ready from now, and the drive loses its qualification. -/
def Engine.mediaFormat (h : MsgHdr) (m : Nat) (e : Engine) : Engine :=
  if 3 < m then e.refuse h 0x0306 .malformed .none
  else
    match e.mediaRefusal m with
    | some (st, rs) => e.refuse h 0x0306 st rs
    | none =>
      let e := e.modMedia m fun q => { q with state := .formatting, qual := none, qualBin := none, volume := none }
      ((e.ownCmds m [.deallocate .format, .write .format]).ok h 0x0306).epSync

def execMediaFormat (t : Nat) (h : MsgHdr) (port : Nat) (s : State) : Out :=
  s.run t fun e => e.request h 0x0306 (·.mediaFormat h port)

/-- The volume that a format makes (R252): a partition from 1 MiB to the last whole MiB, clusters of 4 MiB, and its label. -/
def Engine.newVolume (e : Engine) (d : DriveInfo) : Volume :=
  ⟨1048576, driveBytes d / 1048576 * 1048576 - 1048576, 22, chars [81, 88, 56, 95] ++ hexDigits 3 e.deviceId⟩

/-- Free bytes of a new volume: its clusters but for those that exFAT itself and \QX8 take, which the manual does not give
(log 24). -/
def Volume.fresh (v : Volume) : Nat := (v.size - Config.unstated 252 v.size) / 2 ^ v.clusterLog2 * 2 ^ v.clusterLog2

/-- MEDIA_FORMAT_DONE (R252): the new volume, with \QX8 alone, is mounted, and the namespace is ready again. -/
def Engine.mediaFormatDone (m : Nat) (e : Engine) : Engine :=
  match (e.mport m).state, (e.mport m).drive with
  | .formatting, some d =>
    let v := e.newVolume d
    let e := e.endCmds m (CmdUse.of .format)
    (e.modMedia m fun q => { q with
      state := .mounted, volume := some v, free := v.fresh, folders := [], files := [] }).epSync
  | _, _ => e

def execMediaFormatDone (t : Nat) (m : Fin 4) (s : State) : Out := s.run t fun e => e.whenLive (·.mediaFormatDone m)

/-- MEDIA_QUALIFY (R253): the test begins, and the response comes at its end. -/
def Engine.mediaQualify (h : MsgHdr) (m : Nat) (e : Engine) : Engine :=
  if 3 < m then e.refuse h 0x0307 .malformed .none
  else
    match e.mediaRefusal m with
    | some (st, rs) => e.refuse h 0x0307 st rs
    | none =>
      if (e.mport m).state = .foreign then e.refuse h 0x0307 .refused .checkFailed
      else if (e.mport m).free < 68719476736 then e.refuse h 0x0307 .refused .noRoom
      else
        let e := e.modMedia m fun q => { q with
          state := .qualifying, qualifier := some (h.client, h.seq), qualTmp := some (min (q.free - 1073741824) 549755813888) }
        (e.ownCmds m [.write .qualify, .read .qualify]).epSync

def execMediaQualify (t : Nat) (h : MsgHdr) (port : Nat) (s : State) : Out :=
  s.run t fun e => e.request h 0x0307 (·.mediaQualify h port)

/-- The least of some numbers; of none the manual states nothing (log 24). -/
def leastOf : List Nat → Nat
  | [] => Config.unstated 253 0
  | [a] => a
  | a :: r => min a (leastOf r)

/-- MEDIA_QUALIFIED (R253): rates are the write rates of the test's seconds; the qualified rate is the lowest from second 10
to second 29. QUAL.TMP goes, and QUAL.BIN is written. -/
def Engine.mediaQualified (m : Nat) (rates : List Nat) (e : Engine) : Engine :=
  match (e.mport m).state, (e.mport m).drive with
  | .qualifying, some d =>
    let q := leastOf ((rates.drop 10).take 20)
    let bin := qualBin d q (100 * e.cfg.qualRead) (dtbSec e.dtb)
    let e := e.endCmds m (CmdUse.of .qualify)
    let e := e.modMedia m fun p => { p with state := .mounted, qual := some q, qualBin := some bin, qualTmp := none }
    ((e.emit (mediaSrc m) .mediaQualified (evData [(4, q)])).qualAnswer m .ok .none).epSync
  | _, _ => e

def execMediaQualified (t : Nat) (m : Fin 4) (rates : List Nat) (s : State) : Out :=
  s.run t fun e => e.whenLive (·.mediaQualified m rates)

/-- SET_REEL (R257): used at the next record start. -/
def Engine.setReel (h : MsgHdr) (reel : Nat) (e : Engine) : Engine :=
  if reel = 0 || 999 < reel then e.refuse h 0x0303 .malformed .none
  else (e.modRec fun r => { r with reel := reel }).ok h 0x0303

def execSetReel (t : Nat) (h : MsgHdr) (reel : Nat) (s : State) : Out :=
  s.run t fun e => e.request h 0x0303 (·.setReel h reel)

/-- Code of STATE in STS_MEDIA (Table 10.7). -/
def DriveState.code : DriveState → Nat
  | .empty => 0 | .linking => 1 | .unsupported => 2 | .foreign => 3 | .mounted => 4 | .qualifying => 5 | .formatting => 6
  | .recording => 7 | .playing => 8 | .failed => 9 | .recovering => 10

/-- Stripe position of a drive, 7 outside a set (R275). -/
def Engine.drivePos (e : Engine) (m : Nat) : Nat :=
  match (e.rec_.takes.filter fun t => t.drives.any fun d => d.port = m && !d.left).getLast? with
  | some t => ((t.drives.find? (·.port = m)).map (·.pos)).getD 7
  | none =>
    match e.sys.pend.find? fun p => p.kind = .recStart && p.set.contains m with
    | some p => ((p.set.mapIdx fun i x => (i, x)).find? (·.2 = m)).elim 7 (·.1)
    | none => 7

/-- STS_MEDIA words of one port (R275). -/
def Engine.stsMediaPort (e : Engine) (m : Nat) : List Word :=
  let q := e.mport m
  let d := if q.state = .empty then none else q.drive
  [mkWord [(31, 28, q.state.code), (27, 25, q.gen), (24, 22, q.width), (21, 21, bit q.qual.isSome),
      (20, 20, bit q.healthWarn), (19, 19, bit (d.any (·.vwc))), (18, 16, e.drivePos m)],
    word (q.qual.getD 0), word (q.free / 1073741824), word ((d.map driveBytes).getD 0 / 1073741824)]

def Engine.stsMedia (e : Engine) : List Word := [0, 1, 2, 3].flatMap e.stsMediaPort

end Sys2Proof.Machine
end

