-- ==== Sys2Proof/Machine/Review.lean ====
section
/-! DEFINITION. Playback from media in REVIEW (R211, R212, R243): PLAY, PLAY_STOP and FSR_DECODE_PICTURE. -/

namespace Sys2Proof.Machine

/-- A decimal number of ASCII digits; none when a character is no digit. -/
def parseDec : List Nat → Option Nat
  | l => l.foldl (fun a c => a.bind fun v => if 48 ≤ c ∧ c ≤ 57 then some (10 * v + (c - 48)) else none) (some 0)

/-- A number of upper-case hexadecimal digits. -/
def parseHex : List Nat → Option Nat
  | l => l.foldl (fun a c => a.bind fun v =>
      if 48 ≤ c ∧ c ≤ 57 then some (16 * v + (c - 48)) else if 65 ≤ c ∧ c ≤ 70 then some (16 * v + (c - 55)) else none) (some 0)

/-- The folder of a clip name (R254, R257). -/
def parseClip (name : List Nat) : Option ClipFolder :=
  match parseDec ((name.drop 1).take 3), parseDec ((name.drop 5).take 4), parseHex ((name.drop 10).take 3) with
  | some r, some n, some d => if name.getD 4 0 = 67 && name.getD 9 0 = 95 then some ⟨name.getD 0 0, r, d, n⟩ else none
  | _, _, _ => none

/-- The playback in progress ends: its drives are mounted again, and its decode stops. -/
def Engine.playEnd (e : Engine) : Engine :=
  match e.rec_.play with
  | none => e
  | some p =>
    let e := p.ports.foldl (fun e m => (e.endCmds m (CmdUse.of .playback)).modMedia m fun q =>
      if q.state = .playing then { q with state := .mounted } else q) e
    let e := if p.proxy then e.decStart p.decode false else e
    let e := e.modRec fun r => { r with play := none }
    let e : Engine := { e with aud := { e.aud with play := [] } }
    e.epSync

/-- PLAY (R212, R239, R243): the clip's drives are found, and become read-only on the endpoint (R287). -/
def Engine.play (h : MsgHdr) (clip : List Nat) (start : Nat) (proxy : Bool) (decode : Nat) (vols : List VolNow) (e : Engine) :
    Engine :=
  if clip.length ≠ 16 || (clip.drop 13).any (· ≠ 0) || 3 < decode || (!proxy && decode ≠ 0) then
    e.refuse h 0x0304 .malformed .none
  else if e.sys.mode ≠ .review then e.refuse h 0x0304 .state .none
  else
    match parseClip clip with
    | none => e.refuse h 0x0304 .notFound .none
    | some folder =>
      let e := e.readVolumes vols
      let holds (m : Nat) : Bool :=
        ((e.mport m).state = .mounted || (e.mport m).state = .playing) && (e.mport m).folders.contains folder
      let ports := [0, 1, 2, 3].filter holds
      if ports.isEmpty then e.refuse h 0x0304 .notFound .none
      else if proxy && e.cfg.decBufs decode = 0 then e.refuse h 0x0304 .refused .notConfigured
      else if proxy && e.cfg.decRx decode then e.refuse h 0x0304 .refused .inUse
      else
        let e := e.playEnd
        let st := (e.cfg.fsStreams.find? fun s => e.cfg.letter s = folder.letter).getD 0
        let name := clip.map fun c => (BitVec.ofNat 8 c : Byte)
        let e := ports.foldl (fun e m => (e.modMedia m fun q => { q with state := .playing }).ownCmds m [.read .playback]) e
        let e := e.modRec fun r => { r with play := some ⟨name, start, proxy, decode, ports, e.cfg.fsSrc st, none, [], none⟩ }
        let e := if proxy then e.decStart decode true else e
        (e.ok h 0x0304).epSync

def execPlay (t : Nat) (h : MsgHdr) (clip : WithVols (List Nat)) (startCfn : Nat) (proxy : Bool) (decode : Nat)
    (s : State) : Out :=
  s.run t fun e => e.request h 0x0304 (·.play h clip.val startCfn proxy decode clip.vols)

/-- PLAY_STOP (R212). -/
def Engine.playStop (h : MsgHdr) (e : Engine) : Engine :=
  if e.sys.mode ≠ .review then e.refuse h 0x0305 .state .none else e.playEnd.ok h 0x0305

def execPlayStop (t : Nat) (h : MsgHdr) (s : State) : Out := s.run t fun e => e.request h 0x0305 (·.playStop h)

/-- A metadata record leaves for its consumers; the newest 64 are kept (R488). -/
def Engine.sendRecord (p c : Nat) (bytes : List Byte) (e : Engine) : Engine :=
  { e with md := { e.md with sent := (⟨p, c, bytes⟩ :: e.md.sent).take 64 } }

/-- Black estimates of a record, conversion after conversion (Table 21.1, bytes 96 to 127). -/
def recordBlacks (r : List Byte) : List Int := (List.range 8).map fun k => ((unle ((r.drop (96 + 4 * k)).take 4) : Nat) : Int)

/-- What a decoded picture carries on to the heads beside the FLAGS of its record: at bit 24 the flag byte with DECODE_CONCEAL
(R491), at bit 32 the flags of its tiles (R211; log 153). -/
def Played.outFlags (p : Played) : Nat :=
  unle ((p.record.drop 64).take 3) + 2 ^ 24 * (8 * bit (decide (0 < p.concealed))) + 2 ^ 32 * p.tileFlags

/-- A decoded picture enters the pixel path of its SOURCE port (R212), and its record leaves again (R323). -/
def Engine.playEnter (p : Played) (e : Engine) : Engine :=
  let lin := e.playedLin p.source p.tap p.pedestal (recordBlacks p.record) p.convs
  let e := e.colourFrame p.source p.cfn p.phase p.outFlags e.frameNow lin
  (e.branchesDone p.source p.phase e.dtb).sendRecord p.source p.cfn (padTo 4096 p.record)

/-- A capture slot starts: the first of the decoded pictures that wait enters (R212). -/
def Engine.playNext (e : Engine) : Engine :=
  match e.rec_.play with
  | none => e
  | some x =>
    match x.queue with
    | [] => e
    | p :: rest =>
      (e.modRec fun r => { r with play := some { x with source := p.source, queue := rest, last := some p.cfn } }).playEnter p

/-- A decoded picture waits at its place in CFN order; one before START_CFN, or before a picture that has entered, is left out
(R212; log 153). -/
def Play.add (p : Played) (x : Play) : Play :=
  if cfnDiff p.cfn x.startCfn < 0 || x.last.any fun l => decide (cfnDiff p.cfn l < 0) then x
  else { x with queue := (x.queue.filter fun q => decide (cfnDiff q.cfn p.cfn ≤ 0)) ++
    p :: x.queue.filter fun q => decide (0 < cfnDiff q.cfn p.cfn) }

/-- FSR_DECODE_PICTURE (R211, R212): a recorded picture is decoded, to enter the path of its port; one that fails its checks
shows the picture before it again. -/
def Engine.fsrDecodePicture (s : Nat) (bytes record : List Byte) (audio : List AudFrame) (e : Engine) : Engine :=
  match e.rec_.play with
  | none => e
  | some x =>
    if x.proxy || e.sys.mode ≠ .review then e
    else
      let put (p : Option Played) (e : Engine) : Engine :=
        let x := { x with stream := some s }
        e.modRec fun r => { r with play := some (match p with
          | some p => x.add p
          | none => x) }
      match decodePicture bytes record with
      | none => (put (e.stream s).shown (e.bump .fsrDecPicErr 0x0188)).emit 0x0188 .fsrDecErr []
      | some p =>
        let e := (put (some p) e).bumpN .fsrDecTileErr 0x0188 0 p.concealed
        let e := e.modStream s fun q => { q with shown := some p }
        { e with aud := { e.aud with play := e.aud.play ++ audio } }

def execFsrDecodePicture (t : Nat) (st : Fin 8) (bytes record : List Byte) (audio : List (List (Nat × Bool))) (s : State) :
    Out :=
  s.run t fun e => e.whenLive (·.fsrDecodePicture st bytes record audio)

end Sys2Proof.Machine
end

