-- ==== Sys2Proof/Machine/Metadata.lean ====
section
/-! DEFINITION. The frame metadata record (R489 to R492, R454), and the commands METADATA_DEADLINE and METADATA_EMIT. -/

namespace Sys2Proof.Machine

/-- Capture period P exactly, in ticks (R87). -/
def Cfg.period (c : Cfg) : Rat := 65536000000000 * (c.projRate.2 : Rat) / ((c.projRate.1 * c.phases : Nat) : Rat)

/-- Picture period of an HEVC stream: DIV pictures of its branch, in the mean (log 45). -/
def Cfg.hevcPeriod (c : Cfg) (s : Nat) : Rat :=
  let n := if c.schedEn then c.schedLen + 1 else c.phases
  let k := ((List.range n).filter fun k => (c.brMask (c.hvSrc s)).testBit (c.phaseOf k)).length
  c.period * ((c.hvDiv s * n : Nat) : Rat) / ((max 1 k : Nat) : Rat)

/-- Valid HEVC streams fed from port p. -/
def Cfg.hevcOf (c : Cfg) (p : Nat) : List Nat :=
  (List.range 8).filter fun s => c.hvValid s && decide (c.hvSrc s < 6) && decide (c.brSrc (c.hvSrc s) = p)

/-- The lag L of the codec flags (R491). -/
def Cfg.reportLag (c : Cfg) (p : Nat) : Nat :=
  let line := ((c.modes p).map (c.tLine p)).foldl max 0
  let t := ((c.hevcOf p).map c.hevcPeriod).foldl max ((ns (512 * line) : Nat) : Rat)
  max 1 ((t + (ms 4 : Nat)) / c.period).ceil.toNat

/-- Picture FLAGS of Flowstone stream s for REPORT_CFN. -/
def Engine.fsrReport (e : Engine) (p : Nat) (r : Option Nat) (s : Nat) : Nat :=
  match r.bind fun r => e.md.codec.find? fun x => !x.hevc && x.stream = s && x.cfn = r with
  | some x => if e.cfg.fsSrc s = p then x.flags else 0xFFFF
  | none => 0xFFFF

/-- Flags of HEVC stream s for REPORT_CFN. -/
def Engine.hevcReport (e : Engine) (p : Nat) (r : Option Nat) (s : Nat) : Nat :=
  match r.bind fun r => e.md.codec.find? fun x => x.hevc && x.stream = s && x.cfn = r with
  | some x => if (e.cfg.hevcOf p).contains s then x.flags else 0xFF
  | none => 0xFF

/-- Position of a frame's project frame relative to the current one (R88). -/
def Engine.projOf (e : Engine) (c : Nat) : Int := (cfnDiff c e.proj.baseCfn).fdiv e.cfg.phases

/-- Project frame index of a frame (R373). -/
def Engine.pfiOf (e : Engine) (c : Nat) : Nat :=
  if e.projOf c = -1 then e.proj.prevPfi else (e.proj.pfi + e.projOf c).toNat

/-- Samples of the audio block of a frame's project frame: those whose tick falls in it (R341; log 45). -/
def Engine.audSamples (e : Engine) (c : Nat) : Nat :=
  if !e.aud.running then 0
  else
    let n (j : Int) : Int := -((-((e.projStart j - e.time.origin) * e.cfg.audFs)) / 65536000000000)
    (n (e.projOf c + 1) - n (e.projOf c)).toNat

/-- The aux frame of a capture frame's project frame, and whether it is AUX_STALE (R116). -/
def Engine.auxOf (e : Engine) (c : Nat) : Option (AuxFrame × Bool) :=
  (e.aux.byFrame.find? fun x => decide (0 ≤ cfnDiff c x.1 ∧ cfnDiff c x.1 < e.cfg.phases)).map (·.2)

/-- A list with some bytes from an offset on replaced. -/
def splice (bs : List Byte) (at_ : Nat) (new : List Byte) : List Byte :=
  bs.take at_ ++ new ++ bs.drop (at_ + new.length)

/-- Hardware fields of a record, bytes 0 to 511 (Table 21.1): those of the statistics record follow at emission. -/
def Engine.hwRecord (fr : FrameIn) (sfc : Option Nat) (fill : Nat) (ie : InEffect) (black : List (List Nat)) (e : Engine) :
    List Byte :=
  let p := fr.p
  let c := fr.cfn
  let slot := e.slotOf c - e.time.origin
  let tabs := (e.tablesAt c).ids
  let lag := e.cfg.reportLag p
  let report := if c < lag then none else some (c - lag)
  let aux := e.auxOf c
  let b0 := le 4 0x444D5851 ++ le 2 1 ++ le 2 e.deviceId ++ le 1 p ++ le 1 fr.ph ++ le 1 e.cfg.phases ++ le 1 0 ++ le 4 c ++
    le 4 fr.pfn ++ le 8 (e.pfiOf c) ++ le 8 (dtbSec fr.mid) ++ le 4 (dtbNs fr.mid) ++ le 2 (dtbFrac fr.mid) ++ le 2 0 ++
    le 8 (dtbSec slot) ++ le 4 (dtbNs slot) ++ le 4 (sfc.getD 0xFFFFFFFF) ++ le 4 0 ++ le 8 fr.flags ++
    le 4 (satNat 0xFFFFFFFF fill) ++ le 4 0
  let b80 := le 4 ie.vals.expNs ++ le 1 ie.vals.gain ++ le 1 ie.vals.mode ++ le 1 ie.srcMask ++ le 1 0 ++ le 2 ie.vals.rowOff ++
    le 2 ie.vals.colOff ++ le 4 0 ++ padTo 16 ((black.getD 0 []).flatMap (le 4)) ++ padTo 16 ((black.getD 1 []).flatMap (le 4)) ++
    le 4 (vget tabs p 0) ++ le 4 (vget tabs (2 + p) 0) ++ le 4 (vget tabs 4 0) ++ le 4 (vget tabs 5 0) ++
    (List.range 6).flatMap (fun b => le 4 (if e.branchTakes b p fr.ph then e.lutIdAt b (some c) else 0xFFFFFFFF)) ++
    le 1 (e.tnrStrAt c) ++ le 3 0 ++ (match aux with
      | some (a, _) => le 4 a.afn ++ le 8 (dtbSec a.stamp) ++ le 4 (dtbNs a.stamp)
      | none => padTo 16 []) ++ le 4 (e.audSamples c)
  padTo 256 (b0 ++ b80) ++ (List.range 8).flatMap (fun n => padTo 16 (e.posOf p c n)) ++ padTo 64 [] ++
    padTo 64 (le 4 (report.getD 0xFFFFFFFF) ++ (List.range 8).flatMap (fun s => le 2 (e.fsrReport p report s)) ++
      (List.range 8).flatMap fun s => le 1 (e.hevcReport p report s))

/-- Numbers of STATE in STS_TIME (Table 14.7). -/
def ServoState.code : ServoState → Nat
  | .off => 0 | .listening => 1 | .tracking => 2 | .locked => 3 | .holdover => 4

/-- The state a servo is shown in: HOLDOVER while its updates are missed (R367). -/
def Servo.shown (s : Servo) : ServoState := if s.stalled && s.state ≠ .off then .holdover else s.state

/-- A servo by number. -/
def Engine.servo (e : Engine) (k : Nat) : Servo := vget e.time.servos k Servo.reset

/-- The servo followed, if one is. -/
def Engine.followed (e : Engine) : Option Nat := if e.time.follow = 0 then none else some (e.time.follow - 1)

/-- An interval in ticks as signed ns, saturating at 32 bits; a part of a ns is dropped (log 31). -/
def sat32ns (x : Int) : Int := clampInt (-2147483648) 2147483647 (x.tdiv 65536)

/-- adj in signed units of 0.001 ppm, dropping a part of a unit (log 31). -/
def Engine.adjPpb (e : Engine) : Int := (e.time.adj * 1000000000).tdiv (2 ^ 40)

/-- The clip of the stream whose letter is lowest among those recording a frame (Table 21.1). -/
def Engine.clipOf (e : Engine) (p c ph : Nat) : List Byte :=
  let ss := e.cfg.fsStreams.filter fun s =>
    e.cfg.fsSrc s = p && (e.cfg.fsMask s).testBit ph && (e.takeFor s c).isSome
  match sortAsc (fun a b => decide (e.cfg.letter a < e.cfg.letter b)) ss with
  | s :: _ =>
    match e.takeFor s c with
    | some t => padTo 16 (e.clipName s t.reel t.clip)
    | none => padTo 16 []
  | [] => padTo 16 []

/-- The firmware's fields of frame c, bytes 512 to 591 (Table 21.1). -/
def Engine.fwRecord (e : Engine) (p c : Nat) : List Byte :=
  let (cct, tint, iso) := e.wbAt p (some c)
  let sv := e.followed.map e.servo
  let st := (sv.map (·.shown.code)).getD 0
  le 2 cct ++ leInt 1 tint ++ le 1 (e.profileAt c) ++ le 2 iso ++ le 1 (e.time.follow + 4 * st) ++ le 1 0 ++
    leInt 4 (sat32ns ((sv.map (·.offset)).getD 0)) ++ leInt 4 e.adjPpb ++ le 8 ((sv.map (·.gm)).getD 0) ++
    leInt 2 e.time.utc ++ le 2 0 ++ e.clipOf p c (e.cfg.phaseOf c) ++
    wordBytes ((List.range 8).map fun i => e.cw 0x0001 (2 + i)) ++ le 4 e.sys.generation

/-- Records frozen of port p, oldest first. -/
def Engine.frozenOf (e : Engine) (p : Nat) : List FrozenRec := vget e.md.frozen p []

def Engine.setFrozen (p : Nat) (l : List FrozenRec) (e : Engine) : Engine :=
  { e with md := { e.md with frozen := vmod e.md.frozen p fun _ => l } }

/-- The oldest frozen record that still lacks its firmware fields gets them. -/
def fillFw (fw : List Byte) (flag : Bool) : List FrozenRec → List FrozenRec
  | [] => []
  | x :: r =>
    if x.fw.isNone then { x with fw := some fw, flags := addFlagIf flag .incomplete x.flags } :: r
    else x :: fillFw fw flag r

/-- A record's deadline has come: 2 ms after its frame's close (R454, R489). -/
def FrozenRec.due (x : FrozenRec) (now : Nat) : Bool := decide (x.closed + ms 2 ≤ now)

/-- METADATA_DEADLINE (R454): the firmware's fields are complete, or those of the record before stand with INCOMPLETE. -/
def Engine.metadataDeadline (p : Nat) (ready : Bool) (e : Engine) : Engine :=
  match (e.frozenOf p).find? (·.fw.isNone) with
  | none => e
  | some x =>
    if !x.due e.now then e
    else if ready then e.setFrozen p (fillFw (e.fwRecord p x.cfn) false (e.frozenOf p))
    else (e.setFrozen p (fillFw (vget e.md.lastFw p []) true (e.frozenOf p))).fwOverrun (portSrc p) 7 1 x.cfn p

def execMetadataDeadline (t : Nat) (p : Fin 2) (ready : Bool) (s : State) : Out :=
  s.run t fun e => e.whenLive (·.metadataDeadline p ready)

/-- MEAN, CLIP, FOCUS and STATS_SEQ, bytes 384 to 427: from the statistics record of the frame, once it has its SEQ. -/
def Engine.statsFields (e : Engine) (p c : Nat) : List Byte :=
  match e.raw.ring.find? fun x => x.2.source = p && x.2.cfn = c with
  | some (_, r) => padTo 16 (r.mean.flatMap (le 4)) ++ padTo 16 (r.clip.flatMap (le 4)) ++
      le 8 (satNat 18446744073709551615 (sumNat r.focus)) ++ le 4 r.seq
  | none => padTo 40 [] ++ le 4 0xFFFFFFFF

/-- METADATA_EMIT (R489): the oldest frozen record of a port becomes whole and goes to its carriers. -/
def Engine.metadataEmit (p : Nat) (e : Engine) : Engine :=
  match e.frozenOf p with
  | [] => e
  | x :: rest =>
    if !x.due e.now then e else
    let fw := x.fw.getD (e.fwRecord p x.cfn)
    let hw := splice (splice x.hw 64 (le 8 x.flags)) 384 (e.statsFields p x.cfn)
    let b := padTo 4092 (hw ++ fw)
    let rec_ := b ++ le 4 (crc32c b)
    let e := e.setFrozen p rest
    let e := { e with md := { e.md with lastFw := vmod e.md.lastFw p fun _ => fw } }
    let e := e.sendRecord p x.cfn rec_
    let mid : Int := (unle ((hw.drop 28).take 8) * 1000000000 + unle ((hw.drop 36).take 4) : Nat) * 65536 +
      (unle ((hw.drop 40).take 2) : Nat)
    (e.branchRecord p (e.cfg.phaseOf x.cfn) mid rec_).recPump

def execMetadataEmit (t : Nat) (p : Fin 2) (s : State) : Out := s.run t fun e => e.whenPowered (·.metadataEmit p)

end Sys2Proof.Machine
end

