-- ==== Sys2Proof/Machine/Frame.lean ====
section
/-! DEFINITION. Closing a frame (R82 to R84, R107 to R109): lines and frames end, each frame that a trigger owes goes through
the raw front end to its consumers (R119, R186, R162, R482), and its metadata record is frozen (R489). Also training of a
Hyern port (R76 to R81), which losses and capture faults start again. -/

namespace Sys2Proof.Machine

/-- A receiver error of kind k (0 header, 1 CRC, 2 format, 3 sequence, 4 fill): its counter and the port's sums (R84). -/
def Engine.hyErr (p k n : Nat) (ctr : Ctr) (e : Engine) : Engine :=
  if n = 0 then e
  else (e.bumpN ctr (portSrc p) 0 n).modPort p fun q => { q with errs := vmod q.errs k (· + n), errMoved := true }

def Engine.seqErr (p : Nat) (e : Engine) : Engine := e.hyErr p 3 1 .hyernSeqErr
def Engine.fmtErr (p : Nat) (e : Engine) : Engine := e.hyErr p 2 1 .hyernFmtErr
def Engine.crcErr (p : Nat) (e : Engine) : Engine := e.hyErr p 1 1 .hyernCrcErr
def Engine.fillErr (p n : Nat) (e : Engine) : Engine := e.hyErr p 4 n .hyernFill

/-- Lanes of port p that are enabled, ascending (Table 3.1). -/
def Cfg.portLanes (c : Cfg) (p : Nat) : List Nat :=
  ((List.range (if c.split then 8 else 16)).map (8 * p + ·)).filter fun l => c.lnRate l ≠ 0

def Engine.modLane (l : Nat) (f : Lane → Lane) (e : Engine) : Engine := { e with lanes := vmod e.lanes l f }

/-- Lanes of a port train: LINK_UP and EQ_DONE go (R52). -/
def Lane.train (q : Lane) : Lane := { q with linkUp := false, eqDone := false, rateNow := 0, step := min q.step 4 }

def Engine.lanesTrain (p : Nat) (again : Bool) (e : Engine) : Engine :=
  (e.cfg.portLanes p).foldl (fun e l =>
    (if again then e.bump .laneRetrain (0x0080 + l) else e).modLane l Lane.train) e

/-- Step 1 of R77: the sensor reset sequence of R97 begins. -/
def Engine.resetSequence (p : Nat) (e : Engine) : Engine :=
  let e := { e with pins := { e.pins with rstN := vmod e.pins.rstN p fun _ => false } }
  e.modPort p fun q => { q with
    link := .resetting, lanesNow := 0, rateNow := 0, rstAt := e.now
    window := (e.cfg.initList p).map fun x => (4, 0, x.1, x.2, false) }

/-- The engine trains a port from step 1 of R77. -/
def Engine.startTraining (p : Nat) (again : Bool) (e : Engine) : Engine :=
  ((e.lanesTrain p again).resetSequence p).modPort p fun q => { q with trainTry := 1 }

/-- A training attempt failed (R78): reasons 1 to 4 are the cases of R78 in order, 5 an init list write. -/
def Engine.trainFail (p reason : Nat) (e : Engine) : Engine :=
  let e := (e.bump .hyernTrainFail (portSrc p)).lanesTrain p true
  if e.cfg.trainTries p ≤ (e.port p).trainTry then
    (e.modPort p fun q => { q with link := .failed, lanesNow := 0, rateNow := 0, window := [] }).emit (portSrc p) .hyernTrainFail
      (le 4 reason)
  else (e.resetSequence p).modPort p fun q => { q with trainTry := q.trainTry + 1 }

/-- The open line of a port closes (R82): le when its LE came. -/
def Engine.closeLine (p : Nat) (byLe : Bool) (e : Engine) : Engine :=
  match (e.port p).frame with
  | none => e
  | some f =>
    match f.cur with
    | none => e
    | some l =>
      let w := e.cfg.width p
      let filled := decide (l.conv0.length < w) || (e.cfg.dualConv p && decide (l.conv1.length < w))
      let e := if byLe then e else e.seqErr p
      let e := if filled then e.fillErr p 1 else e
      e.modPort p fun q => { q with frame := some { f with
        cur := none, lines := l :: f.lines, fillLines := f.fillLines + bit filled
        flags := addFlagIf filled .linkFill f.flags } }

/-- A line opens (R82): lines skipped before it are filled whole. -/
def Engine.openLine (p line : Nat) (byLs : Bool) (e : Engine) : Engine :=
  match (e.port p).frame with
  | none => e
  | some f =>
    let skipped := line - f.nextLine
    let e := if byLs then e else e.seqErr p
    let e := e.fillErr p skipped
    e.modPort p fun q => { q with frame := some { f with
      cur := some ⟨line, [], []⟩, nextLine := line + 1, fillLines := f.fillLines + skipped
      flags := addFlagIf (decide (0 < skipped)) .linkFill f.flags } }

/-- Photosites of one line from the columns and codes accepted, ascending. -/
def siteLine : (w : Nat) → (x : Nat) → List (Nat × Nat) → List (Option Nat)
  | 0, _, _ => []
  | w + 1, x, [] => none :: siteLine w (x + 1) []
  | w + 1, x, (c, v) :: r => if c = x then some v :: siteLine w (x + 1) r else none :: siteLine w (x + 1) ((c, v) :: r)

/-- Photosites of conversion k of a frame as delivered. -/
def Cfg.sitesOf (c : Cfg) (p k : Nat) (lines : List LineBuf) : Sites :=
  (List.range (c.lines p)).map fun y =>
    siteLine (c.width p) 0 (match lines.find? (·.line = y) with
      | some l => if k = 0 then l.conv0 else l.conv1
      | none => [])

/-- Is a flag named by a number in the marks of PHASE_IN for frame c (R112, R113). -/
def Engine.phaseMark (e : Engine) (c k : Nat) : Bool :=
  match e.phaseIn.marks.find? (·.1 = c) with
  | some m => m.2.testBit k
  | none => false

/-- FRAME flags of the receiver, of capture and of the units a frame passes, before the raw front end (Table 21.2). -/
def Engine.closeFlags (e : Engine) (p c : Nat) (f : Option OpenFrame) (mismatch : Bool) : Nat :=
  let base := match f with
    | some f => addFlagIf f.long .long (addFlagIf (decide (f.nextLine < e.cfg.lines p)) .short f.flags)
    | none => addFlag (addFlag 0 .short) .empty
  let q := e.port p
  let fs := addFlagIf (e.expAt p c).2 .clamped base
  let fs := addFlagIf (q.faultCfns.contains c) .settingsFault fs
  let fs := addFlagIf (q.lateCfns.contains c) .incomplete fs
  let fs := addFlagIf mismatch .settingsMismatch fs
  let fs := addFlagIf (e.phaseMark c 0) .phaseFree (addFlagIf (e.phaseMark c 1) .phaseMismatch fs)
  let fs := match e.auxOf c with
    | some (a, stale) => addFlagIf stale .auxStale (addFlagIf a.sizeFlag .auxSize fs)
    | none => fs
  let fs := addFlagIf (vget e.raw.ports p RawPort.reset).grottoUe .grottoUe fs
  e.audFlags c fs

/-- Counters of a frame's flags (Table 5.11). -/
def Engine.countFlags (p fs : Nat) (e : Engine) : Engine :=
  let one (f : FrameFlag) (c : Ctr) (e : Engine) : Engine := if hasFlag fs f then e.bump c (portSrc p) else e
  one .settingsMismatch .settingsMismatch (one .clamped .capClamped (one .empty .capEmpty (one .long .capLong (one .short .capShort e))))

/-- The run of bad frames (R109). -/
def Engine.badRun (p c fs : Nat) (e : Engine) : Engine :=
  if !badFrame fs then
    e.modPort p fun q => { q with badRun := 0, badShort := 0, badLong := 0, badEmpty := 0, capFault := false }
  else
    let e := e.modPort p fun q => { q with
      badRun := q.badRun + 1
      badShort := q.badShort + bit (hasFlag fs .short)
      badLong := q.badLong + bit (hasFlag fs .long)
      badEmpty := q.badEmpty + bit (hasFlag fs .empty) }
    let q := e.port p
    if q.badRun ≠ e.cfg.badLimit p then e
    else
      let e := (e.bump .capFault (portSrc p)).emit (portSrc p) .captureFault
        (le 4 c ++ le 2 q.badShort ++ le 2 q.badLong ++ le 2 q.badEmpty)
      let e := e.modPort p fun q => { q with capFault := true }
      if e.cfg.faultRetrain p && decide (q.link ≠ .failed) then e.startTraining p true else e

/-- Frames a calibration capture takes (R482): CAL_FRAMES_M1 of SECURITY, plus 1. -/
def Cfg.calFrames (c : Cfg) : Nat := c.f 0x00A0 0 28 21 + 1

/-- A good frame is added to the calibration sums of its port (R482). -/
def Engine.calAdd (fr : FrameIn) (fs : Nat) (t1 : List Pic) (exp gain : Nat) (e : Engine) : Engine :=
  match vget e.cluster.cal fr.p none with
  | none => e
  | some k =>
    if fs % 16 ≠ 0 || decide (e.cfg.calFrames ≤ k.frames) then e
    else
      let codes := t1.flatMap fun g => g.flatMap fun l => l.map Int.toNat
      let k := if k.frames = 0 then
          { k with sums := codes, firstCfn := fr.cfn, stampS := dtbSec fr.mid, expNs := exp, gain := gain }
        else { k with sums := List.zipWith (fun a b => (a + b) % 16777216) k.sums codes }
      let k := { k with frames := k.frames + 1, lastCfn := fr.cfn }
      { e with cluster := { e.cluster with cal := vmod e.cluster.cal fr.p fun _ => some k } }

/-- The taps' consumers: Flowstone streams that record the frame (R186). -/
def Engine.feedStreams (out : RawOut) (fr : FrameIn) (e : Engine) : Engine :=
  (e.cfg.fsStreams.filter fun s =>
    e.cfg.fsSrc s = fr.p && (e.cfg.fsMask s).testBit fr.ph && (e.takeFor s fr.cfn).isSome).foldl
      (fun e s => e.fsrPush s out fr) e

/-- Branches that take the frame, unless playback uses the port's path (R162, R212). -/
def Engine.feedBranches (out : RawOut) (fr : FrameIn) (e : Engine) : Engine :=
  if e.playsOn fr.p then e
  else (e.colourFrame fr.p fr.cfn fr.ph out.flags (some fr.cfn) out.lin).branchesDone fr.p fr.ph fr.mid

/-- One frame is produced for CFN c (R108): the frame bound to it, or an empty one. -/
def Engine.produceFrame (p c : Nat) (f : Option OpenFrame) (e : Engine) : Engine :=
  let echoes := match f with
    | some f => if hasFlag f.flags .embInvalid then [] else f.echoes
    | none => []
  let ie := e.inEffect p c echoes
  let flags := e.closeFlags p c f ie.mismatch
  let lines := match f with
    | some f => f.lines
    | none => []
  let fr : FrameIn :=
    { p := p, cfn := c, pfn := c / e.cfg.phases, ph := e.cfg.phaseOf c, flags := flags, mid := e.midpoint p c - e.time.origin
      convs := (List.range (e.cfg.nconv p)).map fun k => e.cfg.sitesOf p k lines, vals := ie.vals }
  let fill := match f with
    | some f => f.fillLines + (e.cfg.lines p - f.nextLine)
    | none => e.cfg.lines p
  let e := e.countFlags p flags
  let e := e.modPort p fun q => { q with
    owed := q.owed.filter (· ≠ c), early := if q.owed.contains c then q.early else q.early ++ [c], faultCfns := q.faultCfns.filter (· ≠ c), lateCfns := q.lateCfns.filter (· ≠ c) }
  let e := { e with raw := { e.raw with ports := vmod e.raw.ports p fun (q : RawPort) => { q with grottoUe := false } } }
  let (out, e) := e.rawFront (e.tnrStrAt c) fr
  let fr := { fr with flags := out.flags }
  let e := match out.stats with
    | some r => if e.playsOn p then e else e.statsPush r   -- statistics of a port that plays back are suspended (R212)
    | none => e
  let e := e.calAdd fr out.flags out.t1 ie.vals.expNs ie.vals.gain
  let e := e.feedStreams out fr
  let e := e.feedBranches out fr
  let hw := e.hwRecord fr (f.bind (·.sfc)) fill ie out.black
  (e.setFrozen p (e.frozenOf p ++ [⟨c, out.flags, hw, e.now, none⟩])).badRun p c out.flags

/-- HYERN_FRAME_ERR at a frame close (R84): CFN all ones for a stray. -/
def Engine.frameErr (p : Nat) (cfn : Option Nat) (e : Engine) : Engine :=
  let q := e.port p
  if !q.errMoved then e
  else
    let e := e.emit (portSrc p) .hyernFrameErr
      (le 4 (cfn.getD 0xFFFFFFFF) ++ q.errs.toList.flatMap fun n => le 2 (satNat 65535 n))
    e.modPort p fun q => { q with errs := Vector.replicate 5 0, errMoved := false }

/-- The open frame of a port closes (R83): at its FE, or in another way. -/
def Engine.closeFrame (p : Nat) (atFe : Bool) (e : Engine) : Engine :=
  if (e.port p).frame.isNone then e
  else
    let e := e.closeLine p false
    let e := if atFe then e else e.seqErr p
    match (e.port p).frame with
    | none => e
    | some f =>
      let f := { f with flags := addFlagIf (!atFe) .feMissing f.flags }
      let e := (e.modPort p fun q => { q with frame := none }).frameErr p f.cfn
      match f.cfn with
      | some c => e.produceFrame p c (some f)
      | none => e

/-- A port's link is lost (R81). -/
def Engine.linkDown (p : Nat) (e : Engine) : Engine :=
  let e := (e.closeFrame p false).emit (portSrc p) .hyernLinkDown []
  if (e.port p).link = .up then e.startTraining p true else e

/-- Frame end deadline of an owed frame c (R107). -/
def Engine.frameDeadline (e : Engine) (p c : Nat) : Int :=
  let m := (e.values p c).mode
  let c' := cfnAdd c 1
  min (e.tro p m c + ns (e.cfg.lines p * e.cfg.tLine p m) + us (100 * e.cfg.feGrace p))
    (e.tro p (e.values p c').mode c' - us (10 * e.cfg.fsWin p))

/-- FRAME_END_DEADLINE (R107, R108): the oldest frame owed whose deadline has come closes, or is produced empty. -/
def Engine.frameEndDeadline (p : Nat) (e : Engine) : Engine :=
  match (e.port p).owed.find? fun c => decide (e.frameDeadline p c ≤ e.now) with
  | none => e
  | some c =>
    match (e.port p).frame with
    | some f => if f.cfn = some c then e.closeFrame p false else e.produceFrame p c none
    | none => e.produceFrame p c none

def execFrameEndDeadline (t : Nat) (p : Fin 2) (s : State) : Out := s.run t fun e => e.whenLive (·.frameEndDeadline p)

end Sys2Proof.Machine
end

