-- ==== Sys2Proof/Machine/Capture.lean ====
section
/-! DEFINITION. Slots, triggers and phase signalling (R87 to R90, R111 to R113), the auxiliary camera (R114 to R116) and the end
of a calibration capture (R482): CAPTURE_SLOT_START, XTRIG, PHASE_IN_STROBE, PHASE_IN_MISS, AUX_VS, AUX_FRAME_END, AUX_LOSS
and CAL_CAPTURE_DONE. -/

namespace Sys2Proof.Machine

/-- CFN of slot k of the project frame, by its position (R88); outside a run, that which its index would give (R111). -/
def Engine.slotCfn (e : Engine) (k : Nat) : Nat :=
  if e.proj.run then cfnAdd e.proj.baseCfn k else (e.proj.pfi * e.cfg.phases + k) % 4294967296

/-- Slot k is captured: the run goes on, outside Class V, and its turn has come (R89). -/
def Engine.captured (e : Engine) (k : Nat) : Bool :=
  e.proj.run && !e.clk.classV && decide (e.slotCfn k = e.proj.nextCfn)

/-- PHASE_OUT at the start of a slot (R111): under Class V the code holds and no strobe is sent. -/
def Engine.phaseOut (p : Nat) (e : Engine) : Engine :=
  if e.has 0x0013 && e.cfg.phaseOutEn && !e.clk.classV then
    { e with pins := { e.pins with phaseOut := p, phaseStb := e.pins.phaseStb + 1, stbAt := some e.now } }
  else e

/-- A pulse that began at an instant still lasts. -/
def Engine.pulse (e : Engine) (at_ : Option Nat) (len : Nat) : Bool :=
  match at_ with
  | some t => decide (e.now < t + us len)
  | none => false

/-- Levels of SPn_XTRIG (R90, R96; inactive under Class V, R89), of PHASE_OUT_STB (R111) and of AUX_TRIG (Table 5.9). -/
def Engine.xtrigLevel (e : Engine) (p : Nat) : Bool :=
  (e.pulse (vget e.pins.xtrigAt p none) (e.cfg.xtrigUs p) && !e.clk.classV) != e.cfg.xtrigLow p
def Engine.stbLevel (e : Engine) : Bool := e.pulse e.pins.stbAt e.cfg.stbUs
def Engine.auxTrigLevel (e : Engine) : Bool := e.pulse e.pins.auxTrigAt 4

/-- The mark of a frame for PHASE_IN: its strobe may have come before its slot (R112). -/
def putMark (l : List (Nat × Nat)) (c m : Nat) : List (Nat × Nat) := ((c, m) :: l.filter (·.1 ≠ c)).take 8

/-- A captured slot c starts: swaps and what takes effect with it (R145, R179, R181), and the ports' counters (R117). -/
def Engine.slotCapture (c : Nat) (e : Engine) : Engine :=
  let e := (e.reloadAtSlot c).lutSwaps (some c) (e.slotOf c)
  let e := e.settleLooks c
  let e := { e with proj := { e.proj with nextCfn := cfnAdd c 1 } }
  let e := if e.cfg.phaseSrc && !e.phaseIn.marks.any (·.1 = c) then
      { e with phaseIn := { e.phaseIn with marks := putMark e.phaseIn.marks c (bit e.phaseIn.free) } }
    else e
  let now (p : Nat) (e : Engine) : Engine :=
    if (e.port p).joined then
      let m := (e.values p c).mode
      e.modPort p fun q => { q with cfn := c, modeNow := m }
    else e
  now 1 (now 0 e)

/-- PHASE_NOW of the configured ports: the p of the slot that starts, captured or not (R111, R117). -/
def Engine.phaseNow (c : Nat) (e : Engine) : Engine :=
  let one (p : Nat) (e : Engine) : Engine :=
    if e.cfg.hasPort p then e.modPort p fun q => { q with phaseNow := e.cfg.phaseOf c } else e
  one 1 (one 0 e)

/-- A slot of phase ph whose port stands still: the direct streams of its branches repeat their last frame (Table 1.5), with the
stamp that the slot's frame would have had (log 141). -/
def Engine.heldRepeats (c ph : Nat) (e : Engine) : Engine :=
  (List.range 6).foldl (fun e b =>
    let p := e.cfg.brSrc b
    if e.cfg.hasBranch b && (e.cfg.brMask b).testBit ph && e.unitHeld (0x0300 + p) (10 + p) then
      e.branchSends (e.midpoint p c - e.time.origin) b
    else e) e

/-- CAPTURE_SLOT_START (R87, R88, R111, R25). -/
def Engine.captureSlotStart (e : Engine) : Engine :=
  let k := e.proj.slot
  if !e.proj.started || e.cfg.phases ≤ k then e
  else
    let c := e.slotCfn k
    let take := e.captured k
    let e := (e.phaseOut (e.cfg.phaseOf c)).phaseNow c
    let e := (if take then e.slotCapture c else e).playNext
    let e := e.heldRepeats c (e.cfg.phaseOf c)
    { e with proj := { e.proj with slot := k + 1 } }

def execCaptureSlotStart (t : Nat) (s : State) : Out := s.run t fun e => e.whenLive (·.captureSlotStart)

/-- The project frame is inside the lengthening of a realignment to PHASE_IN (R112). -/
def Engine.lengthening (e : Engine) : Bool := e.phaseIn.realign && decide (e.proj.start + e.cfg.projTicks ≤ e.now)

/-- XTRIG (R90, R108): the next frame of the port is triggered; nothing under Class V or outside the run (R89), nor inside a
lengthening (R112). -/
def Engine.xtrig (p : Nat) (e : Engine) : Engine :=
  if !(e.proj.run && (e.port p).joined) || e.clk.classV || e.lengthening then e
  else
    let e := e.modPort p fun q => { q with
      owed := if q.early.contains q.nextTrig then q.owed else q.owed ++ [q.nextTrig]
      early := q.early.filter (· ≠ q.nextTrig), nextTrig := cfnAdd q.nextTrig 1 }
    { e with pins := { e.pins with xtrig := vmod e.pins.xtrig p (· + 1), xtrigAt := vmod e.pins.xtrigAt p fun _ => some e.now } }

def execXtrig (t : Nat) (p : Fin 2) (s : State) : Out := s.run t fun e => e.whenLive (·.xtrig p)

/-- The slot whose start lies nearest, counted from the start of the project frame. -/
def Engine.nearestSlot (e : Engine) : Nat :=
  ((2 * ((e.now : Int) - e.proj.start) + e.cfg.slotTicks) / (2 * max 1 e.cfg.slotTicks : Nat)).toNat

/-- Instant at which the strobe that now comes is predicted: from the strobes before it, or by the generator's own timing
(R112, Table 22.4). -/
def Engine.predictedStrobe (e : Engine) : Int :=
  match e.phaseIn.predicted with
  | some t => t
  | none => (e.proj.start : Int) + e.nearestSlot * e.cfg.slotTicks

/-- A spacing of strobes that the generator tracks: within 0.1 % of the capture period (R112). -/
def Cfg.trackable (c : Cfg) (d : Nat) : Bool := decide (((d : Int) - c.slotTicks).natAbs * 1000 ≤ c.slotTicks)

/-- A strobe within IN_TOL of its prediction sets the slot start and the prediction (R112). -/
def Engine.strobeUsed (code : Nat) (e : Engine) : Engine :=
  let k := e.nearestSlot
  let q := e.phaseIn
  let d := match q.lastStrobe with
    | some t => e.now - t
    | none => 0
  let period := if e.cfg.trackable d then d else q.period.getD e.cfg.slotTicks
  let e := { e with phaseIn := { q with
    lock := true, predicted := some (e.now + period), period := some period, lastStrobe := some e.now, lastCode := some code
    misses := 0, displaced := [], free := false } }
  if k < e.cfg.phases then { e with proj := { e.proj with start := e.now - k * e.cfg.slotTicks } } else e

/-- The code of a strobe that is used is compared with its frame's p (R113). -/
def Engine.strobeCode (code : Nat) (e : Engine) : Engine :=
  let k := e.nearestSlot
  if !e.proj.run || e.clk.classV || e.cfg.phases < k then e
  else
    let c := e.slotCfn k
    let bad := decide (code ≠ e.cfg.phaseOf c)
    let was := e.phaseIn.mismatchRun
    let e := { e with phaseIn := { e.phaseIn with
      mismatchRun := bad, marks := putMark e.phaseIn.marks c (2 * bit bad) } }
    let e := if bad then e.bump .phaseCodeErr 0x0102 else e
    if bad && !was then e.emit 0x0102 .phaseCodeErr [] else e

/-- Displaced strobes, newest first, agree with one another: each follows the one before it by one trackable spacing, and
these spacings differ by at most IN_TOL (log 47). -/
def Cfg.strobesAgree (c : Cfg) (l : List Nat) : Bool :=
  let ds := List.zipWith (fun a b => a - b) l (l.drop 1)
  ds.all c.trackable && ds.all fun a => ds.all fun b => decide ((((a : Int) - b).natAbs) ≤ us c.inTol)

/-- What a realignment adds to the current project frame (R112): the strobe with the p of slot 0 comes with those between it and
this one, and the first of them that shortens no slot ends the frame. -/
def Engine.realignStretch (e : Engine) (code period : Nat) : Int :=
  let n := e.cfg.phases
  let next := if e.proj.run then cfnAdd e.proj.baseCfn (n : Nat) else ((e.proj.pfi + 1) * n) % 4294967296
  match (List.range n).find? fun (k : Nat) => decide (e.cfg.phaseOf (cfnAdd next k) = code) with
  | none => 0
  | some k =>
    let first : Int := ((e.now + (n - k) % n * period : Nat) : Int)
    let early : Int := (e.proj.start + e.cfg.projTicks : Nat) - first
    let turns : Int := if early ≤ us e.cfg.inTol then 0 else (early + n * period - 1) / (max 1 (n * period) : Nat)
    first + turns * (n * period : Nat) - (e.proj.start + e.cfg.projTicks : Nat)

/-- A strobe outside IN_TOL is not used; IN_RELOCK of them that agree realign the generator (R112). -/
def Engine.strobeDisplaced (code : Nat) (e : Engine) : Engine :=
  let e := e.bump .phaseInHit 0x0102
  let l := (e.now :: e.phaseIn.displaced).take e.cfg.inRelock
  if decide (l.length = e.cfg.inRelock) && e.cfg.strobesAgree l then
    let period := l.headD 0 - l.getD 1 0
    let e := { e with
      phaseIn := { e.phaseIn with
        displaced := [], realign := true, predicted := some (e.now + period), period := some period
        lastStrobe := some e.now, lastCode := some code }
      proj := { e.proj with lengthened := true, stretch := e.realignStretch code period } }
    e.emit 0x0102 .phaseRelock []
  else { e with phaseIn := { e.phaseIn with displaced := l } }

/-- PHASE_IN_STROBE (R112, R113). -/
def Engine.phaseInStrobe (code : Nat) (e : Engine) : Engine :=
  if !(e.has 0x0013 && e.cfg.phaseSrc && e.proj.started) then e
  else if ((e.now : Int) - e.predictedStrobe).natAbs ≤ us e.cfg.inTol then
    if e.proj.lengthened then
      let d := match e.phaseIn.lastStrobe with
        | some t => e.now - t
        | none => 0
      let period := if e.cfg.trackable d then d else e.phaseIn.period.getD e.cfg.slotTicks
      { e with phaseIn := { e.phaseIn with
        lock := true, predicted := some (e.now + period), period := some period, lastStrobe := some e.now
        lastCode := some code, misses := 0, displaced := [], free := false } }
    else (e.strobeCode code).strobeUsed code
  else e.strobeDisplaced code

def execPhaseInStrobe (t : Nat) (code : Nat) (s : State) : Out := s.run t fun e => e.whenLive (·.phaseInStrobe code)

/-- PHASE_IN_MISS (R112): no strobe fell within IN_TOL of its prediction. A lengthening that waits for strobes that are lost ends
at the next boundary (log 137). -/
def Engine.phaseInMiss (e : Engine) : Engine :=
  if !(e.has 0x0013 && e.cfg.phaseSrc && e.proj.started) then e
  else
    let q := e.phaseIn
    let next := e.predictedStrobe + (q.period.getD e.cfg.slotTicks : Nat)
    let e := { e with phaseIn := { q with misses := q.misses + 1, predicted := some next.toNat } }
    let e := e.bump .phaseInMiss 0x0102
    if e.phaseIn.misses = e.cfg.inLoss then
      let e := e.emit 0x0102 .phaseInLoss []
      { e with phaseIn := { e.phaseIn with lock := false, free := true, realign := false } }
    else e

def execPhaseInMiss (t : Nat) (s : State) : Out := s.run t fun e => e.whenLive (·.phaseInMiss)

/-- AUXCAM fields (R114). -/
def Cfg.auxFormat (c : Cfg) : Nat := c.f 0x0012 0 31 29
def Cfg.auxFalling (c : Cfg) : Bool := c.b 0x0012 0 28
def Cfg.auxHsLow (c : Cfg) : Bool := c.b 0x0012 0 27
def Cfg.auxVsLow (c : Cfg) : Bool := c.b 0x0012 0 26
def Cfg.auxDeLow (c : Cfg) : Bool := c.b 0x0012 0 25
def Cfg.auxTrigEn (c : Cfg) : Bool := c.b 0x0012 0 24
def Cfg.auxW (c : Cfg) : Nat := c.f 0x0012 0 23 12 + 1
def Cfg.auxH (c : Cfg) : Nat := c.f 0x0012 0 11 0 + 1
def Cfg.auxMaxRate (c : Cfg) : Nat := c.f 0x0012 1 31 24

/-- The auxiliary camera port works. -/
def Engine.auxOn (e : Engine) : Bool := e.has 0x0012 && !e.unitHeld 0x0400 12

/-- AUX_VS (R115): at the asserting edge of VS, by VS_POL, an aux frame starts, or is dropped for coming too soon. -/
def Engine.auxVs (level : Bool) (e : Engine) : Engine :=
  if !e.auxOn || level = e.cfg.auxVsLow then e
  else
    let soon := match e.aux.lastVs with
      | some t => decide ((e.now - t) * e.cfg.auxMaxRate < secs 1)
      | none => false
    let a := e.aux
    let e := { e with aux := { a with
      nextAfn := (a.nextAfn + 1) % 4294967296, lastVs := some e.now
      cur := if soon then none else some (a.nextAfn, e.dtb) } }
    if soon then e.bump .auxDrop 0x0103 else e

def execAuxVs (t : VsEdge) (s : State) : Out := s.run t.at_ fun e => e.whenLive (·.auxVs t.level)

/-- Bits of AUX_D that a pixel of a FORMAT uses (Table 5.9). -/
def auxBits : Nat → Nat
  | 1 => 16 | 2 => 20 | 4 => 12
  | _ => 24

/-- One clock of the port into the lines read so far (Table 5.9): the pins are sampled on the edge of PCLK_EDGE; a pixel comes
under DE, and HS ends a line (log 136). Lines and pixels newest first, HS as it was. -/
def Cfg.auxClock (c : Cfg) (x : List (List Nat) × List Nat × Bool) (k : AuxClk) : List (List Nat) × List Nat × Bool :=
  let s := if c.auxFalling then k.fall else k.rise
  let hs := s.hs != c.auxHsLow
  let (lines, cur) := if hs && !x.2.2 && !x.2.1.isEmpty then (x.2.1.reverse :: x.1, []) else (x.1, x.2.1)
  (lines, if s.de != c.auxDeLow then s.d % 2 ^ auxBits c.auxFormat :: cur else cur, hs)

/-- Lines of a frame from its clocks. -/
def Cfg.auxLines (c : Cfg) (ks : List AuxClk) : List (List Nat) :=
  let x := ks.foldl c.auxClock ([], [], false)
  (if x.2.1.isEmpty then x.1 else x.2.1.reverse :: x.1).reverse

/-- A list cut or padded with a value to n entries. -/
def fitTo {α : Type} (d : α) (n : Nat) (l : List α) : List α := (l ++ List.replicate (n - l.length) d).take n

/-- Luma of an aux pixel, 0 to 255: the manual gives no rule from the pins' formats (log 24). -/
def auxLuma (format px : Nat) : Nat := Config.unstated 116 (format * 16777216 + px) % 256

/-- Mean of the values in zone (i, j) of a 16 x 9 grid over a picture, in 1/16. -/
def zoneMean (lum : List (List Nat)) (w h i j : Nat) : Nat :=
  let (x0, x1, y0, y1) := zoneOf w h 16 9 i j
  let vs := (List.range (y1 - y0)).flatMap fun dy => (List.range (x1 - x0)).map fun dx => (lum.getD (y0 + dy) []).getD (x0 + dx) 0
  mean16 (j * 16 + i) (sumNat vs) vs.length

/-- The statistics record of an aux frame (R116, Table 6.8). -/
def Engine.auxStats (e : Engine) (a : AuxFrame) : StatsRec :=
  let lum := a.lines.map fun l => l.map (auxLuma e.cfg.auxFormat)
  let all := lum.flatten
  let zones := (List.range 9).flatMap fun j => (List.range 16).map fun i => zoneMean lum e.cfg.auxW e.cfg.auxH i j
  { cfn := a.afn, pfn := 0, stampS := dtbSec a.stamp, stampNs := dtbNs a.stamp, phase := 0, source := 2, flags := 0
    histMode := 0, histShift := 0, black0 := [], black1 := [], seq := 0
    hist := (List.range 256).map fun k => all.count k, zones := zones, focus := [], clip := [], mean := [] }

/-- AUX_FRAME_END (R115, R116): the frame is complete, padded or cut to its size. -/
def Engine.auxFrameEnd (clocks : List AuxClk) (e : Engine) : Engine :=
  let lines := e.cfg.auxLines clocks
  match e.aux.cur with
  | none => e
  | some (afn, stamp) =>
    if !e.auxOn then e
    else
      let w := e.cfg.auxW
      let h := e.cfg.auxH
      let bad := decide (lines.length ≠ h) || lines.any fun l => decide (l.length ≠ w)
      let a : AuxFrame := ⟨afn, stamp, bad, fitTo (List.replicate w 0) h (lines.map (fitTo 0 w))⟩
      let e := { e with aux := { e.aux with cur := none, newest := some a, lastDone := e.now, stale := false } }
      let e := if bad then e.bump .auxSize 0x0103 else e
      if e.has 0x0022 && e.cfg.statsAux then e.statsPush (e.auxStats a) else e

def execAuxFrameEnd (t : Nat) (clocks : List AuxClk) (s : State) : Out := s.run t fun e => e.whenLive (·.auxFrameEnd clocks)

/-- AUX_LOSS (R116): no aux frame has completed for 100 ms. -/
def Engine.auxLoss (e : Engine) : Engine :=
  if !e.auxOn || e.aux.stale || decide (e.now < e.aux.lastDone + ms 100) then e
  else { e with aux := { e.aux with stale := true } }.emit 0x0103 .auxLoss []

def execAuxLoss (t : Nat) (s : State) : Out := s.run t fun e => e.whenLive (·.auxLoss)

/-- At a project frame boundary the aux consumers take the newest whole frame, or the same one again (R116). -/
def Engine.auxTake (e : Engine) : Engine :=
  if !e.auxOn then e
  else
    let e := if e.cfg.auxTrigEn then { e with pins := { e.pins with auxTrig := e.pins.auxTrig + 1, auxTrigAt := some e.now } } else e
    let put (a : AuxFrame) (stale : Bool) (e : Engine) : Engine :=
      let x := (e.proj.baseCfn, a, stale)
      { e with aux := { e.aux with newest := none, taken := some a, byFrame := (x :: e.aux.byFrame).take 8 } }
    match e.aux.newest, e.aux.taken with
    | some a, _ => put a false e
    | none, some a => (put a e.aux.stale e).bump .auxRepeat 0x0103
    | none, none => e

/-- The calibration capture of a port is abandoned (R482). -/
def Engine.calAbandon (p : Nat) (e : Engine) : Engine :=
  if (vget e.cluster.cal p none).isNone then e
  else
    let e := { e with cluster := { e.cluster with cal := vmod e.cluster.cal p fun _ => none } }
    e.emit 0x0383 .calCaptureFail []

/-- Path of a calibration capture file (R482). -/
def calPath (p : Nat) : String := if p = 0 then "\\CAL\\SP0.CAL" else "\\CAL\\SP1.CAL"

/-- The file of a calibration capture (Table 20.3). -/
def Cfg.calFile (c : Cfg) (p : Nat) (k : CalCap) : List Byte :=
  let head := padTo 60 (le 4 0x4C435851 ++ le 2 1 ++ le 1 p ++ le 1 (c.nconv p) ++ le 2 (c.cropW p) ++ le 2 (c.cropH p) ++
    le 2 k.frames ++ le 1 (c.packBits p) ++ le 1 k.gain ++ le 4 k.firstCfn ++ le 4 k.lastCfn ++ le 8 k.stampS ++ le 4 k.expNs)
  let data := k.sums.flatMap fun s => le 2 ((s + k.frames / 2) / max 1 k.frames)
  head ++ le 4 (crc32c (head ++ data)) ++ data

/-- CAL_CAPTURE_DONE (R482): the last frame has been added. -/
def Engine.calCaptureDone (p : Nat) (room : Bool) (e : Engine) : Engine :=
  match vget e.cluster.cal p none with
  | none => e
  | some k =>
    if k.frames < e.cfg.calFrames then e
    else if !room then e.calAbandon p
    else
      let files := putFile e.cluster.files ⟨calPath p, e.cfg.calFile p k⟩
      let e := { e with cluster := { e.cluster with cal := vmod e.cluster.cal p fun _ => none, files := files } }
      (e.bump .calCapture 0x0383).emit 0x0383 .calCaptureDone []

def execCalCaptureDone (t : Nat) (p : Fin 2) (room : Bool) (s : State) : Out :=
  s.run t fun e => e.whenLive (·.calCaptureDone p room)

end Sys2Proof.Machine
end

