-- ==== Sys2Proof/Machine/Endpoint.lean ====
section
/-! DEFINITION. The offload endpoint's commands (ch. 11): the PCIe function, queues, admin commands, I/O commands and the write
buffer, and STS_ENDPOINT. Where the chapter names NVMe 2.0 for a layout or a status of its own, NVMe 2.0 is followed (log 25). -/

namespace Sys2Proof.Machine

/-- Sources of the controller, of the buffer, and of an I/O queue (R289, R303). -/
def epSrc : Nat := 0x0240
def queueSrc (q : Nat) : Nat := if q = 0 then 0x0240 else 0x0260 + q - 1

/-- Every command in flight ends: committed pieces stay, uncommitted ones are discarded; with their queues gone nothing
receives a completion (R294). The queues, features and events of the controller are as before it was enabled. -/
def Ep.disabled (p : Ep) : Ep :=
  { p with
    ccEn := false, ready := false, sqs := [], cqs := [], feats := [], aers := [], events := [], masked := [], changed := []
    fetched := [], cmds := [], ctrls := [] }

/-- The EL lanes are no loopback followers any more (R56). -/
def Engine.epLoopEnd (e : Engine) : Engine :=
  { e with lanes := [32, 33, 34, 35].foldl (fun v l => vmod v l fun q =>
      if q.loopback = 4 then { q with loopback := 0 } else q) e.lanes }

/-- The link has gone down: the host's link loss ends the commands (R294), and a loopback with them. -/
def Engine.epLinkDown (e : Engine) : Engine :=
  let was := e.ep.link = .up || e.ep.link = .loopback
  let e := e.epLoopEnd.modEp fun p => { p.disabled with link := .down, gen := 0, width := 0 }
  if was then e.emit epSrc .epLinkDown [] else e

/-- The link is up at a generation and width (R278, R303): after a training, or as the host leaves Loopback (R56). -/
def Engine.epLinkUp (gen width : Nat) (e : Engine) : Engine :=
  if e.ep.link = .up then e
  else (e.epLoopEnd.modEp fun p => { p with link := .up, gen := gen, width := width }).emit epSrc .epLinkUp []

/-- The endpoint begins to train, at STANDBY or at the release of EP_PERST_N (R281). -/
def Engine.epTrain (e : Engine) : Engine :=
  if e.has 0x0052 && e.live && !e.ep.perst && e.ep.link = .down then e.modEp fun p => { p with link := .training } else e

/-- NS5 is made anew: an empty volume (R283). -/
def Engine.ns5Make (e : Engine) : Engine := e.modEp fun p => { p with ns5 := [] }

/-- EP_PERST_RELEASE (R281). -/
def Engine.epPerstRelease (e : Engine) : Engine := (e.modEp fun p => { p with perst := false }).epTrain

def execEpPerstRelease (t : Nat) (s : State) : Out := s.run t fun e => e.epPerstRelease

/-- EP_CONTROLLER_ENABLE (R281, R282): admin queues of 2 to 4,096 entries, and CSTS.RDY. -/
def Engine.epEnable (asqs acqs : Nat) (e : Engine) : Engine :=
  if e.ep.link ≠ .up || e.ep.ccEn || asqs < 2 || 4096 < asqs || acqs < 2 || 4096 < acqs then e
  else e.modEp fun p => { p with
    ccEn := true, ready := true, sqs := [⟨0, asqs, 0, 0, 0⟩], cqs := [⟨0, acqs, 0, true, 0, 0, []⟩] }

def execEpControllerEnable (t : Nat) (asqs acqs : Nat) (s : State) : Out := s.run t fun e => e.whenLive (·.epEnable asqs acqs)

/-- The registers of the function, its capabilities and its MSI-X table are as after power-up: PCIe's resets (log 25). -/
def Ep.pciReset (p : Ep) : Ep := { p with regs := [], msix := Vector.replicate 65 MsixVector.reset }

/-- A controller reset or FLR (R294). -/
def Engine.epReset (e : Engine) : Engine := ((e.modEp (·.disabled)).bump .epCtrlReset epSrc).emit epSrc .epCtrlReset []

/-- EP_CONTROLLER_RESET (R281, R294): CC.EN cleared, or EP_PERST_N asserted. -/
def Engine.epControllerReset (perst : Bool) (e : Engine) : Engine :=
  if perst then
    let e := e.modEp fun p => { p.pciReset with perst := true }
    if e.live && e.has 0x0052 then e.epReset.epLinkDown else e
  else if e.live && e.ep.ccEn then e.epReset else e

def execEpControllerReset (t : Nat) (perst : Bool) (s : State) : Out := s.run t fun e => e.epControllerReset perst

/-- EP_FLR (R294): the namespaces and the write buffer stay as they are (R278). -/
def Engine.epFlr (e : Engine) : Engine := if e.ep.link = .up then e.epReset.modEp (·.pciReset) else e

def execEpFlr (t : Nat) (s : State) : Out := s.run t fun e => e.whenLive (·.epFlr)

/-- An association list with one value changed or added, by ascending key. -/
def putKey (k v : Nat) : List (Nat × Nat) → List (Nat × Nat)
  | [] => [(k, v)]
  | x :: r => if x.1 = k then (k, v) :: r else if k < x.1 then (k, v) :: x :: r else x :: putKey k v r

/-- A word of the MSI-X table is written: address, data, or the vector's mask, whose clearing sends what pends (R278; log 25). -/
def Ep.msixWrite (v k value : Nat) (p : Ep) : Ep :=
  let x := vget p.msix v MsixVector.reset
  let put (y : MsixVector) : Ep := { p with msix := vmod p.msix v fun _ => y }
  match k with
  | 0 => put { x with addr := x.addr / 2 ^ 32 * 2 ^ 32 + value % 2 ^ 32 }
  | 1 => put { x with addr := x.addr % 2 ^ 32 + value % 2 ^ 32 * 2 ^ 32 }
  | 2 => put { x with data := value % 2 ^ 32 }
  | _ => let p := put { x with masked := value.testBit 0 }; if x.pending && !value.testBit 0 then p.send v else p

/-- EP_REGISTER_WRITE (R278): a word of the MSI-X table, or a register or capability field without behaviour of its own. -/
def Engine.epRegWrite (offset value : Nat) (e : Engine) : Engine :=
  if e.ep.link ≠ .up then e
  else if 0x2000 ≤ offset ∧ offset < 0x2410 then e.modEp (·.msixWrite ((offset - 0x2000) / 16) (offset / 4 % 4) value)
  else e.modEp fun p => { p with regs := putKey offset value p.regs }

/-- Last value written to a register without behaviour. -/
def Ep.reg (p : Ep) (offset : Nat) : Nat := ((p.regs.find? (·.1 = offset)).map (·.2)).getD 0

/-- What the host reads at an offset of BAR0 (R278, R281, Table 11.2): CAP with the NVM command set, VS, CC, CSTS, AQA, the MSI-X table and
its pending bits; any other register as it was written. -/
def Engine.epBar0 (e : Engine) (offset : Nat) : Nat :=
  let adminSize (l : List Nat) : Nat := l.headD 1 - 1
  if offset = 0x00 then 1023 + 2 ^ 16 + 20 * 2 ^ 24
  else if offset = 0x04 then 2 ^ 5
  else if offset = 0x08 then 0x00020000
  else if offset = 0x14 then e.ep.reg 0x14 / 2 * 2 + bit e.ep.ccEn
  else if offset = 0x1C then bit e.ep.ready
  else if offset = 0x24 then
    adminSize ((e.ep.sqs.map (·.size))) + adminSize (e.ep.cqs.map (·.size)) * 65536
  else if 0x2000 ≤ offset ∧ offset < 0x2410 then
    let x := vget e.ep.msix ((offset - 0x2000) / 16) MsixVector.reset
    match offset / 4 % 4 with
    | 0 => x.addr % 2 ^ 32
    | 1 => x.addr / 2 ^ 32
    | 2 => x.data
    | _ => bit x.masked
  else if 0x3000 ≤ offset ∧ offset < 0x300C then
    sumNat ((List.range 32).map fun i =>
      if (vget e.ep.msix ((offset - 0x3000) * 8 + i) MsixVector.reset).pending then 2 ^ i else 0)
  else e.ep.reg offset

/-- What the PCIe function shows of itself (R278, R279, R283): IDs, class code, BAR0's bytes, Max Payload Size in bytes, ASPM, vectors, and
the highest generation and width of its lanes. -/
structure EpFunction where
  vendor : Nat
  device : Nat
  subVendor : Nat
  subDevice : Nat
  classCode : Nat
  bar0Bytes : Nat
  maxPayload : Nat
  maxReadRequest : Nat
  aspmL1 : Bool
  aspmL0s : Bool
  vectors : Nat
  maxGen : Nat
  maxWidth : Nat
  /-- clocking of the lanes, LANE.EL_CLOCKING (R47) -/
  clocking : Nat
  deriving DecidableEq, Repr

def Engine.epFunction (e : Engine) : EpFunction :=
  let lanes := [32, 33, 34, 35].filter fun l => e.cfg.lnRate l ≠ 0
  { vendor := e.cf 0x0052 0 31 16, device := e.cf 0x0052 0 15 0, subVendor := e.cf 0x0052 1 31 16, subDevice := e.cf 0x0052 1 15 0
    classCode := 0x010802, bar0Bytes := 16384, maxPayload := 128 * 2 ^ e.cf 0x0052 2 31 30, maxReadRequest := 4096
    aspmL1 := e.cb 0x0052 2 29, aspmL0s := e.cb 0x0052 2 28, vectors := 65
    maxGen := (lanes.map e.cfg.lnRate).foldl min 5, maxWidth := lanes.length, clocking := e.cf 0x0003 62 1 0 }

def execEpRegisterWrite (t : Nat) (offset value : Nat) (s : State) : Out :=
  s.run t fun e => e.whenLive (·.epRegWrite offset value)

/-- EP_LOOPBACK_ENTER (R56): the endpoint follows the host into loopback; STS_LANE shows 4 on its lanes (EL0 to EL3 are lanes
32 to 35). -/
def Engine.epLoopback (e : Engine) : Engine :=
  if e.ep.link = .down then e
  else
    let e := e.modEp fun p => { p with link := .loopback }
    { e with lanes := [32, 33, 34, 35].foldl (fun v l => vmod v l fun q =>
        if 0 < e.cf 0x0003 l 27 24 then { q with loopback := 4 } else q) e.lanes }

def execEpLoopbackEnter (t : Nat) (s : State) : Out := s.run t fun e => e.whenLive (·.epLoopback)

/-- A doorbell of no queue, or with a value beyond its queue: NVMe 2.0's event of type Error, Invalid Doorbell (log 25). -/
def Engine.badDoorbell (info : Nat) (e : Engine) : Engine := if e.ep.ccEn then e.epEvent 0 info 1 else e

/-- NVME_SQ_DOORBELL (R289): the controller fetches the entries up to the new tail and stamps them; cids are the commands that the host laid
there. All turns of a doorbell fall on its instant (log 161). -/
def Engine.sqDoorbell (q tail : Nat) (cids : List Nat) (e : Engine) : Engine :=
  match e.ep.sqs.find? (·.qid = q) with
  | none => e.badDoorbell 0
  | some sq =>
    if sq.size ≤ tail then e.badDoorbell 1
    else if !e.ep.ccEn || e.ep.stopped then e
    else
      let acc := [1, 2, 3, 4].map e.nsAccess
      let cids := cids.take ((tail + sq.size - sq.tail) % sq.size)
      let new := cids.mapIdx fun i c => (⟨q, c, ⟨e.dtb, queueSrc q, sq.fetched + i⟩, acc⟩ : EpFetched)
      e.modEp fun p => { p with
        fetched := p.fetched ++ new
        sqs := p.sqs.map fun x => if x.qid = q then { x with fetched := x.fetched + cids.length, tail := tail } else x }

def execNvmeSqDoorbell (t : Nat) (q tail : Nat) (cids : List Nat) (s : State) : Out :=
  s.run t fun e => e.whenLive (·.sqDoorbell q tail cids)

/-- Completions that wait are posted while entries are free. -/
def EpCq.flush : (ws : List Completion) → EpCq → EpCq × List Completion
  | [], c => (c, [])
  | x :: r, c =>
    let y := c.post x
    let z := EpCq.flush r y.1
    (z.1, z.2 ++ y.2)

/-- NVME_CQ_DOORBELL (R282): the host has taken entries up to a head. -/
def Engine.cqDoorbell (q hd : Nat) (e : Engine) : Engine :=
  match e.ep.cqs.find? (·.qid = q) with
  | none => e.badDoorbell 0
  | some c =>
    if c.size ≤ hd then e.badDoorbell 1
    else
      let r := EpCq.flush c.waiting { c with head := hd, waiting := [] }
      e.modEp fun p => ({ p with cqs := p.cqs.map (fun y => if y.qid = q then r.1 else y) } : Ep).posted c r.2

def execNvmeCqDoorbell (t : Nat) (q hd : Nat) (s : State) : Out := s.run t fun e => e.whenLive (·.cqDoorbell q hd)

/-- A fetched command is taken up. -/
def Engine.epRun (q cid : Nat) (f : EpFetched → Engine → Engine) (e : Engine) : Engine :=
  match e.ep.fetched.find? fun x => x.q = q && x.cid = cid with
  | none => e
  | some x => f x (e.modEp fun p => { p with fetched := p.fetched.erase x })

/-- An admin command is taken up. -/
def Engine.epAdmin (cid : Nat) (f : Engine → Engine) (e : Engine) : Engine := e.epRun 0 cid fun _ e => f e

/-- Unsupported opcode; unsupported field or value (Table 11.5). -/
def Engine.epBadOpcode (q cid : Nat) (e : Engine) : Engine := e.epStatus q cid 0 1 true 0 []
def Engine.epBadField (q cid : Nat) (e : Engine) : Engine := e.epStatus q cid 0 2 true 0 []

/-- Bytes laid at offsets of a block of n zero bytes. -/
def blockOf (n : Nat) (parts : List (Nat × List Byte)) : List Byte :=
  parts.foldl (fun b x => (b.take x.1 ++ x.2 ++ b.drop (x.1 + x.2.length)).take n) (List.replicate n 0)

/-- ASCII bytes padded with spaces. -/
def ascii (n : Nat) (s : List Nat) : List Byte :=
  (s.map fun c => (BitVec.ofNat 8 c : Byte)) ++ List.replicate (n - s.length) 0x20

/-- "SLANAN QX8 OFFLOAD" (Table 11.2). -/
def modelName : List Nat := [83, 76, 65, 78, 65, 78, 32, 81, 88, 56, 32, 79, 70, 70, 76, 79, 65, 68]

/-- Identify Controller data (Table 11.2). -/
def Engine.identifyCtrl (e : Engine) : List Byte :=
  blockOf 4096 [(0, le 2 (e.cf 0x0052 0 31 16)), (2, le 2 (e.cf 0x0052 1 31 16)),
    (4, e.modId.serial ++ List.replicate 4 0x20), (24, ascii 40 modelName), (64, hexDigits 8 e.sys.fwBuild),
    (77, le 1 8), (78, le 2 1), (80, le 4 0x00020000), (92, le 4 0x100), (111, le 1 1), (259, le 1 3), (261, le 1 2),
    (262, le 1 63), (512, le 1 0x66), (513, le 1 0x44), (516, le 4 5), (520, le 2 0x000C)]

/-- Identify Namespace data (R283 to R286). -/
def Engine.identifyNs (e : Engine) (ns : Nat) : List Byte :=
  let b := e.nsBlock ns
  let n := e.nsBlocks ns
  let atom := 131072 / b - 1
  blockOf 4096 [(0, le 8 n), (8, le 8 n), (16, le 8 n), (24, le 1 2), (34, le 2 atom), (36, le 2 atom), (40, le 2 atom),
    (44, le 2 atom), (99, le 1 (bit (e.nsAccess ns = .readOnly))), (128, le 4 (Nat.log2 b * 65536))]

/-- NVME_IDENTIFY (R282, R284). -/
def Engine.nvmeIdentify (cid cns ns : Nat) (e : Engine) : Engine :=
  match cns with
  | 0 => if 1 ≤ ns ∧ ns ≤ 5 then e.epOk 0 cid 0 (e.identifyNs ns) else e.epBadField 0 cid
  | 1 => e.epOk 0 cid 0 e.identifyCtrl
  | 2 => e.epOk 0 cid 0 (padTo 4096 (([1, 2, 3, 4, 5].filter (ns < ·)).flatMap (le 4 ·)))
  | 3 => if 1 ≤ ns ∧ ns ≤ 5 then e.epOk 0 cid 0 (freeBytes 282 ns 4096) else e.epBadField 0 cid
  | _ => e.epBadField 0 cid

def execNvmeIdentify (t : Nat) (cid cns nsid : Nat) (s : State) : Out :=
  s.run t fun e => e.whenLive (·.epAdmin cid (·.nvmeIdentify cid cns nsid))

/-- NVME_CREATE_IO_CQ (R282, Table 11.2). -/
def Engine.createCq (cid qid size vector : Nat) (pc ien : Bool) (e : Engine) : Engine :=
  if qid = 0 || 64 < qid || e.ep.cqs.any (·.qid = qid) then e.epStatus 0 cid 1 1 true 0 []
  else if size < 2 || 1024 < size then e.epStatus 0 cid 1 2 true 0 []
  else if !pc then e.epBadField 0 cid
  else if 64 < vector then e.epStatus 0 cid 1 8 true 0 []
  else (e.modEp fun p => { p with cqs := p.cqs ++ [⟨qid, size, vector, ien, 0, 0, []⟩] }).epOk 0 cid 0 []

def execNvmeCreateIoCq (t : Nat) (cid qid size vector : Nat) (flags : CqFlags) (s : State) : Out :=
  s.run t fun e => e.whenLive (·.epAdmin cid (·.createCq cid qid size vector flags.pc flags.ien))

/-- NVME_CREATE_IO_SQ (R282, Table 11.2). -/
def Engine.createSq (cid qid size cqid : Nat) (pc : Bool) (e : Engine) : Engine :=
  if cqid = 0 || !e.ep.cqs.any (·.qid = cqid) then e.epStatus 0 cid 1 0 true 0 []
  else if qid = 0 || 64 < qid || e.ep.sqs.any (·.qid = qid) then e.epStatus 0 cid 1 1 true 0 []
  else if size < 2 || 1024 < size then e.epStatus 0 cid 1 2 true 0 []
  else if !pc then e.epBadField 0 cid
  else (e.modEp fun p => { p with sqs := p.sqs ++ [⟨qid, size, cqid, 0, 0⟩] }).epOk 0 cid 0 []

def execNvmeCreateIoSq (t : Nat) (cid qid size cqid : Nat) (pc : Bool) (s : State) : Out :=
  s.run t fun e => e.whenLive (·.epAdmin cid (·.createSq cid qid size cqid pc))

/-- NVME_DELETE_IO_SQ (R294): its commands in flight end, aborted by the deletion. -/
def Engine.deleteSq (cid qid : Nat) (e : Engine) : Engine :=
  if qid = 0 || !e.ep.sqs.any (·.qid = qid) then e.epStatus 0 cid 1 1 true 0 []
  else
    let ids := (e.ep.cmds.filter (·.q = qid)).map (·.cid) ++ (e.ep.fetched.filter (·.q = qid)).map (·.cid)
    let e := ids.foldl (fun e c => e.epStatus qid c 0 8 false 0 []) e
    let e := e.modEp fun p => { p with
      sqs := p.sqs.filter (·.qid ≠ qid), cmds := p.cmds.filter (·.q ≠ qid), fetched := p.fetched.filter (·.q ≠ qid) }
    (e.epOk 0 cid 0 []).epPump

def execNvmeDeleteIoSq (t : Nat) (cid qid : Nat) (s : State) : Out :=
  s.run t fun e => e.whenLive (·.epAdmin cid (·.deleteSq cid qid))

/-- NVME_DELETE_IO_CQ (R282): refused while a submission queue uses it. -/
def Engine.deleteCq (cid qid : Nat) (e : Engine) : Engine :=
  if qid = 0 || !e.ep.cqs.any (·.qid = qid) then e.epStatus 0 cid 1 1 true 0 []
  else if e.ep.sqs.any (·.cq = qid) then e.epStatus 0 cid 1 0x0C true 0 []
  else (e.modEp fun p => { p with cqs := p.cqs.filter (·.qid ≠ qid) }).epOk 0 cid 0 []

def execNvmeDeleteIoCq (t : Nat) (cid qid : Nat) (s : State) : Out :=
  s.run t fun e => e.whenLive (·.epAdmin cid (·.deleteCq cid qid))

/-- Features of Table 11.3: Arbitration, Power Management, Number of Queues, Interrupt Coalescing, Interrupt Vector
Configuration, Write Atomicity Normal, Asynchronous Event Configuration, Timestamp. -/
def epFeatures : List Nat := [0x01, 0x02, 0x07, 0x08, 0x09, 0x0A, 0x0B, 0x0E]


/-- NVME_GET_FEATURES (R282); Timestamp is the DTB in milliseconds. -/
def Engine.getFeature (cid fid sel : Nat) (e : Engine) : Engine :=
  if !epFeatures.contains fid || (fid = 0x09 && 64 < sel) then e.epBadField 0 cid
  else if fid = 0x0E then e.epOk 0 cid 0 (le 6 (e.dtb / 65536000000).toNat ++ le 2 0)
  else e.epOk 0 cid (e.ep.feature fid sel) []

def execNvmeGetFeatures (t : Nat) (cid fid sel : Nat) (s : State) : Out :=
  s.run t fun e => e.whenLive (·.epAdmin cid (·.getFeature cid fid sel))

/-- NVME_SET_FEATURES (R282): Write Atomicity Normal and Timestamp are Get only; there is one power state; 64 queue pairs. -/
def Engine.setFeature (cid fid sel value : Nat) (e : Engine) : Engine :=
  if !epFeatures.contains fid || fid = 0x0A || fid = 0x0E || (fid = 0x02 && value % 32 ≠ 0) || (fid = 0x09 && 64 < sel) then
    e.epBadField 0 cid
  else if fid = 0x07 then e.epOk 0 cid 0x003F003F []
  else
    let k := if fid = 0x09 then sel else 0
    (e.modEp fun p => { p with
      feats := (p.feats.filter fun f => !(f.1 = fid && f.2.1 = k)) ++ [(fid, k, value)] }).epOk 0 cid 0 []

def execNvmeSetFeatures (t : Nat) (cid fid sel value : Nat) (s : State) : Out :=
  s.run t fun e => e.whenLive (·.epAdmin cid (·.setFeature cid fid sel value))

/-- Entries of the Error Information log. -/
def Ep.errorLog (p : Ep) : List Byte :=
  padTo 4096 (p.errors.flatMap fun x => padTo 64 (le 8 x.1 ++ le 2 0xFFFF ++ le 2 0xFFFF ++ le 4 0 ++ le 8 x.2.2 ++ le 4 x.2.1))

/-- The SMART / Health log: composite temperature from the cold plate, data units of the endpoint's traffic in thousands of
512-byte units; other fields 0 (Table 11.3). -/
def Engine.smartLog (e : Engine) : List Byte :=
  blockOf 512 [(1, le 2 ((e.power.plate + 2731) / 10).toNat), (32, le 16 (cdiv e.ep.unitsRead 1000)),
    (48, le 16 (cdiv e.ep.unitsWritten 1000))]

/-- Commands Supported and Effects: CSUPP of each supported opcode, LBCC of those that write (Table 11.3). -/
def effectsLog : List Byte :=
  let adm := [0x00, 0x01, 0x02, 0x04, 0x05, 0x06, 0x08, 0x09, 0x0A, 0x0C, 0xC3]
  let io := [0x00, 0x01, 0x02, 0x08, 0x09]
  padTo 4096 (((List.range 256).flatMap fun k => le 4 (bit (adm.contains k))) ++
    (List.range 256).flatMap fun k => le 4 (bit (io.contains k) + if k = 1 ∨ k = 8 ∨ k = 9 then 2 else 0))

/-- Whole notifications that fit a page of n bytes with its final length word of zero (R300): each after a word of its
length. -/
def fitNotes (n : Nat) : List OutMsg → List OutMsg
  | [] => []
  | m :: r => let k := 4 + m.bytes.length; if n < k + 4 then [] else m :: fitNotes (n - k) r

/-- NVME_GET_LOG_PAGE (R282, R288, R300). -/
def Engine.getLogPage (cid lid ns : Nat) (rae : Bool) (len : Nat) (e : Engine) : Engine :=
  let seen (e : Engine) : Engine :=
    if rae then e else e.modEp fun p => { p with masked := p.masked.filter (· ≠ lid) }
  let give (bs : List Byte) (e : Engine) : Engine := (seen e).epOk 0 cid 0 (padTo len bs)
  match lid with
  | 0x01 => give e.ep.errorLog e
  | 0x02 => if ns = 0xFFFFFFFF then give e.smartLog e else e.epBadField 0 cid
  | 0x04 =>
    let bs := padTo 4096 (e.ep.changed.flatMap (le 4 ·))
    give bs (if rae then e else e.modEp fun p => { p with changed := [] })
  | 0x05 => give effectsLog e
  | 0xC0 =>
    if !e.ctrlEn then e.epBadField 0 cid
    else
      let x := e.clientD .endpoint
      let notes := fitNotes len x.queue
      let bs := notes.flatMap fun m => le 4 m.bytes.length ++ m.bytes
      give bs (if rae then e else e.putClient { x with queue := x.queue.drop notes.length })
  | _ => e.epBadField 0 cid

def execNvmeGetLogPage (t : Nat) (cid lid nsid : Nat) (rae : Bool) (len : Nat) (s : State) : Out :=
  s.run t fun e => e.whenLive (·.epAdmin cid (·.getLogPage cid lid nsid rae len))

/-- NVME_ABORT (R294): only a command that has not started is aborted. -/
def Engine.nvmeAbort (cid sq target : Nat) (e : Engine) : Engine :=
  let drop (e : Engine) : Engine := (e.epStatus sq target 0 7 false 0 []).epOk 0 cid 0 []
  if e.ep.fetched.any fun x => x.q = sq && x.cid = target then
    drop (e.modEp fun p => { p with fetched := p.fetched.filter fun x => !(x.q = sq && x.cid = target) })
  else if e.ep.cmds.any fun x => x.q = sq && x.cid = target && !x.started then
    (drop (e.modEp fun p => { p with cmds := p.cmds.filter fun x => !(x.q = sq && x.cid = target) })).epPump
  else if sq = 0 && (e.ep.ctrls.drop 4).any (·.cid = target) then
    drop (e.modEp fun p => { p with ctrls := p.ctrls.filter (·.cid ≠ target) })
  else e.epOk 0 cid 1 []

def execNvmeAbort (t : Nat) (cid sqid target : Nat) (s : State) : Out :=
  s.run t fun e => e.whenLive (·.epAdmin cid (·.nvmeAbort cid sqid target))

/-- NVME_ASYNC_EVENT_REQUEST (R288, R300, Table 11.2): four are held; an event that waits completes it at once. -/
def Engine.asyncRequest (cid : Nat) (e : Engine) : Engine :=
  match e.ep.events with
  | (ty, info, page) :: r =>
    (e.modEp fun p => { p with events := r }).epOk 0 cid (ty + 256 * info + 65536 * page) []
  | [] =>
    if 4 ≤ e.ep.aers.length then e.epStatus 0 cid 1 5 true 0 []
    else e.modEp fun p => { p with aers := p.aers ++ [cid] }

def execNvmeAsyncEventRequest (t : Nat) (cid : Nat) (s : State) : Out :=
  s.run t fun e => e.whenLive (·.epAdmin cid (·.asyncRequest cid))

/-- NVME_CONTROL (R299): its message is the request that follows from the endpoint. -/
def Engine.nvmeControl (cid reqLen bufLen : Nat) (e : Engine) : Engine :=
  if !e.ctrlEn then e.epBadOpcode 0 cid
  else if reqLen = 0 || bufLen < reqLen || 65535 < bufLen then e.epBadField 0 cid
  else e.modEp fun p => { p with ctrls := p.ctrls ++ [⟨cid, reqLen, bufLen, none⟩] }

def execNvmeControl (t : Nat) (cid reqLen bufLen : Nat) (s : State) : Out :=
  s.run t fun e => e.whenLive (·.epAdmin cid (·.nvmeControl cid reqLen bufLen))

/-- NVME_INVALID_OPCODE (R282). -/
def execNvmeInvalidOpcode (t : Nat) (q cid opcode : Nat) (s : State) : Out :=
  let _ := opcode
  s.run t fun e => e.whenLive (·.epRun q cid fun _ e => e.epBadOpcode q cid)

/-- Access a command meets: as at its fetch (R287), unless the drive has gone since. -/
def Engine.cmdAccess (e : Engine) (x : EpFetched) (ns : Nat) : EpAccess :=
  if ns = 5 then .readWrite
  else match (e.mport (ns - 1)).state with
    | .empty | .linking | .unsupported | .failed => .notReady
    | _ => x.acc.getD (ns - 1) .notReady

/-- Checks of R286 and Table 11.5 on a command to a namespace; blocks are its ranges. -/
def Engine.ioCheck (x : EpFetched) (ns : Nat) (wr : Bool) (blocks : List (Nat × Nat)) (go : Engine → Engine) (e : Engine) :
    Engine :=
  let size := if ns = 5 then e.nsBlocks 5 else ((e.mport (ns - 1)).drive.map (·.blocks)).getD 0
  if ns = 0 || 5 < ns then e.epBadField x.q x.cid
  else if e.cmdAccess x ns = .notReady then (e.bump .epNotReady epSrc).epStatus x.q x.cid 0 0x82 false 0 []
  else if wr && e.cmdAccess x ns = .readOnly then (e.bump .epWpReject epSrc).epStatus x.q x.cid 0 0x20 true 0 []
  else if blocks.any fun b => size < b.1 + b.2 then e.epStatus x.q x.cid 0 0x80 true 0 []
  else go e

/-- A command joins those in flight, and starts when it can (R289). -/
def Engine.ioJoin (x : EpFetched) (op : EpOp) (ns : Nat) (blocks : List (Nat × Nat)) (e : Engine) : Engine :=
  let b := e.nsBlock ns
  let rs := blocks.map fun r => (r.1 * b, r.2 * b)
  let ps : List EpPiece := if op = .write then rs.flatMap fun r => (cutPieces (r.2 / 131072 + 2) r.1 r.2).map fun p =>
      ⟨p.1, p.2, none, false⟩ else []
  (e.modEp fun p => { p with cmds := p.cmds ++ [⟨x.q, x.cid, x.key, op, ns, rs, false, ps, false, false⟩] }).epPump

/-- A transfer above MDTS, 1 MiB, is not allowed (Table 11.2). -/
def Engine.overMdts (e : Engine) (ns n : Nat) : Bool := decide (1048576 < n * e.nsBlock ns)

/-- NVME_READ (R286, R289, R290, R296): drive is what the drive returns, and status its error status after the retry of R249,
0 for none. nlb counts from 0. -/
def Engine.nvmeRead (ns slba nlb : Nat) (drive : List Byte) (status : Nat) (x : EpFetched) (e : Engine) : Engine :=
  e.ioCheck x ns false [(slba, nlb + 1)] fun e =>
    if e.overMdts ns (nlb + 1) then e.epBadField x.q x.cid
    else
      let e := e.ioJoin x (.read drive status) ns [(slba, nlb + 1)]
      if status = 0 || ns = 5 || e.ep.cmds.any (fun c => c.q = x.q && c.cid = x.cid) then e
      else (((e.mediaIoErr (ns - 1)).mediaIoErr (ns - 1)).driveFail (ns - 1))

def execNvmeRead (t : Nat) (q cid nsid slba nlb : Nat) (drive : List Byte) (status : Nat) (s : State) : Out :=
  s.run t fun e => e.whenLive (·.epRun q cid (Engine.nvmeRead nsid slba nlb drive status))

/-- NVME_WRITE (R286, R289, R290): its pieces wait for the host's data. -/
def Engine.nvmeWrite (ns slba nlb : Nat) (x : EpFetched) (e : Engine) : Engine :=
  e.ioCheck x ns true [(slba, nlb + 1)] fun e =>
    if e.overMdts ns (nlb + 1) then e.epBadField x.q x.cid else e.ioJoin x .write ns [(slba, nlb + 1)]

def execNvmeWrite (t : Nat) (q cid nsid slba nlb : Nat) (s : State) : Out :=
  s.run t fun e => e.whenLive (·.epRun q cid (Engine.nvmeWrite nsid slba nlb))

/-- NVME_FLUSH (R293): completes at once, and drains nothing. -/
def Engine.nvmeFlush (ns : Nat) (x : EpFetched) (e : Engine) : Engine :=
  if ns = 0xFFFFFFFF then e.epOk x.q x.cid 0 [] else e.ioCheck x ns false [] (·.epOk x.q x.cid 0 [])

def execNvmeFlush (t : Nat) (q cid nsid : Nat) (s : State) : Out :=
  s.run t fun e => e.whenLive (·.epRun q cid (Engine.nvmeFlush nsid))

/-- NVME_WRITE_ZEROES (R293). -/
def Engine.nvmeWriteZeroes (ns slba nlb : Nat) (x : EpFetched) (e : Engine) : Engine :=
  e.ioCheck x ns true [(slba, nlb + 1)] (·.ioJoin x .writeZeroes ns [(slba, nlb + 1)])

def execNvmeWriteZeroes (t : Nat) (q cid nsid slba nlb : Nat) (s : State) : Out :=
  s.run t fun e => e.whenLive (·.epRun q cid (Engine.nvmeWriteZeroes nsid slba nlb))

/-- NVME_DATASET_MANAGEMENT (R293, Table 11.3): deallocate; other attributes are ignored. Each range is a first block and a
number of blocks. -/
def Engine.nvmeDsm (ns : Nat) (ranges : List (Nat × Nat)) (ad : Bool) (x : EpFetched) (e : Engine) : Engine :=
  e.ioCheck x ns true ranges fun e => if ad then e.ioJoin x .deallocate ns ranges else e.epOk x.q x.cid 0 []

def execNvmeDatasetManagement (t : Nat) (q cid nsid : Nat) (ranges : List (Nat × Nat)) (ad : Bool) (s : State) : Out :=
  s.run t fun e => e.whenLive (·.epRun q cid (Engine.nvmeDsm nsid ranges ad))

/-- EP_PIECE_COMMIT (R290, R291): all data of a piece has arrived; it commits, or waits for room. -/
def Engine.epPieceCommit (q cid k : Nat) (data : List Byte) (e : Engine) : Engine :=
  match e.ep.cmds.find? fun c => c.q = q && c.cid = cid && c.started && c.op = .write with
  | none => e
  | some c =>
    match c.pieces[k]? with
    | none => e
    | some x =>
      if x.committed || x.data.isSome then e
      else if c.ns = 5 || e.epRoom c.ns x.len then (e.epCommit c k data).epPump
      else
        let e := if c.waited then e else e.bump .epBufWait 0x0241
        e.modEp (·.modCmd q cid fun d => { d with
          waited := true, pieces := d.pieces.modify k fun y => { y with data := some (padTo y.len data) } })

def execEpPieceCommit (t : Nat) (q cid piece : Nat) (data : List Byte) (s : State) : Out :=
  s.run t fun e => e.whenLive (·.epPieceCommit q cid piece data)

/-- The oldest committed piece of a namespace that is not poisoned has reached its drive (R290, R291); after input loss a Flush
follows the last (R298). -/
def Engine.epDrainOne (ns : Nat) (e : Engine) : Engine :=
  match e.ep.dirty.find? fun d => d.ns = ns && !d.poison with
  | none => e
  | some d =>
    let e := e.modMedia (ns - 1) fun q => { q with cmds := q.cmds.filter (·.use ≠ .drain) }
    let e := e.modEp fun p => { p with
      dirty := p.dirty.erase d
      drained := if p.stopped then vmod p.drained (ns - 1) (· + d.data.length) else p.drained }
    let e := if e.ep.stopped && !e.epHolds (ns - 1) then e.putCmds (ns - 1) [.flush] [] else e
    e.epPump.recPump

/-- So much time has passed since the input loss, or the thermal trip that acts as one (R520, R528). -/
def Engine.sinceLoss (n : Nat) (e : Engine) : Bool :=
  e.power.t0.any (fun t => decide (t + n ≤ e.now)) || e.power.trip.any (fun t => decide (t + n ≤ e.now))

/-- EP_UNCOMMITTED_DISCARD (R298): at t0 + 1 ms what has not committed is discarded; its writes never complete. -/
def Engine.epDiscard (e : Engine) : Engine :=
  if !e.sinceLoss (ms 1) then e
  else e.modEp fun p => { p with cmds := p.cmds.filter fun c => !(c.op = .write && c.pieces.any (!·.committed)) }

def execEpUncommittedDiscard (t : Nat) (s : State) : Out := s.run t fun e => e.whenPowered (·.epDiscard)

/-- EP_DRAIN_CUTOFF (R298): at t0 + 130 ms what has not drained is lost, and the bytes drained are logged. -/
def Engine.epCutoff (e : Engine) : Engine :=
  if !e.ep.stopped || !e.sinceLoss (ms 130) then e
  else
    let left := e.ep.dirty.filter (!·.poison)
    let e := e.bumpN .epDrainLost 0x0241 0 (sumNat (left.map (·.data.length)))
    let e := [1, 2, 3, 4].foldl (fun e ns => e.epLose ns (left.filter (·.ns = ns))) e
    let e := [0, 1, 2, 3].foldl (fun e m =>
      let e := e.modMedia m fun q => { q with cmds := q.cmds.filter (·.use ≠ .drain) }
      if left.any (·.ns = m + 1) && decide (0 < vget e.ep.drained m 0) then e.putCmds m [.flush] [] else e) e
    (e.modEp fun p => { p with dirty := [], cmds := [] }).emit 0x0241 .epPowerDrain (evData [(4, sumNat e.ep.drained.toList)])

def execEpDrainCutoff (t : Nat) (s : State) : Out := s.run t fun e => e.whenPowered (·.epCutoff)

/-- Siphon reports a page of the write buffer poisoned: the piece that is next to drain holds it (R296; log 44). -/
def Engine.epPoison (e : Engine) : Engine :=
  match e.ep.dirty.find? (!·.poison) with
  | none => e
  | some d =>
    let f (x : EpDirty) : EpDirty := { x with poison := true }
    (e.modEp fun p => { p with dirty := modFirst (!·.poison) f p.dirty }).epLose d.ns [d]

/-- STS_ENDPOINT (R302). -/
def Engine.stsEndpoint (e : Engine) : List Word :=
  let link : EpLink → Nat
    | .down => 0 | .training => 1 | .up => 2 | .loopback => 3
  let mask (a : EpAccess) : Nat := sumNat ([1, 2, 3, 4].map fun n => if e.nsAccess n = a then 2 ^ (n - 1) else 0)
  [mkWord [(31, 30, link e.ep.link), (29, 27, e.ep.gen), (26, 24, e.ep.width), (23, 23, bit e.ep.ccEn),
      (22, 16, (e.ep.sqs.filter (·.qid ≠ 0)).length), (15, 13, min 4 e.ep.ctrls.length)],
    word (e.ep.dirtyAll / 1024), mkWord [(3, 0, mask .readOnly), (7, 4, if e.has 0x0052 then mask .notReady else 0)]]

end Sys2Proof.Machine
end

