-- ==== Sys2Proof/Machine/Hyern.lean ====
section
/-! DEFINITION. The Hyern receiver (ch. 4): packets and their errors (R70 to R75, R80 to R83), binding to a trigger (R107),
ALIGN and training (R69, R76 to R79), and the commands SENSOR_WRITE_DONE, SENSOR_RESET_DONE and HYERN_*. -/

namespace Sys2Proof.Machine

/-- One bit of the CRC-8 of R71: polynomial x^8 + x^2 + x + 1, most significant bit first. -/
def crc8Bit (c : Nat) : Nat := if 128 ≤ c then ((2 * c) ^^^ 0x107) % 256 else 2 * c

/-- One byte of the CRC-8 of R71. -/
def crc8Byte (c : Nat) (b : Byte) : Nat :=
  let c := c ^^^ b.toNat
  crc8Bit (crc8Bit (crc8Bit (crc8Bit (crc8Bit (crc8Bit (crc8Bit (crc8Bit c)))))))

/-- CRC-8 of a list of bytes, initial value 0 (R71). -/
def crc8 (bs : List Byte) : Nat := bs.foldl crc8Byte 0

/-- A packet header (Table 4.3). -/
structure PktHdr where
  ptype : Nat
  pack : Nat
  conv : Nat
  rsv : Bool
  line : Nat
  arg : Nat
  count : Nat
  hchk : Nat
  deriving DecidableEq, Repr

/-- The fields of bytes 1 to 7 of a SOP block (R70). -/
def pktHdr (sop : BitVec 56) : PktHdr :=
  let n := sop.toNat
  ⟨bitsOf n 55 52, bitsOf n 51 50, bitsOf n 49 49, bitsOf n 48 48 = 1, bitsOf n 47 34, bitsOf n 33 20, bitsOf n 19 8,
    bitsOf n 7 0⟩

/-- HCHK is right (R71): over bytes 7 to 2, in that order. -/
def hchkOk (sop : BitVec 56) : Bool := crc8 ((le 7 sop.toNat).drop 1).reverse = (pktHdr sop).hchk

/-- The trailer's CRC-32C is right (R72). -/
def trailerOk (sop : BitVec 56) (payload : List Byte) (crc : BitVec 32) : Bool :=
  crc32c (le 7 sop.toNat ++ payload) = crc.toNat

/-- Payload bytes of a packet by its header (Table 4.4): padding follows for a PIX payload that is no whole number of
blocks. -/
def Cfg.payloadLen (c : Cfg) (p : Nat) (h : PktHdr) : Nat :=
  match h.ptype with
  | 1 => 8
  | 3 => cdiv ((h.count + 1) * c.packBits p) 8 * 8
  | 4 => (h.count + 1) * 8
  | 6 => 8
  | _ => 0

/-- A header keeps Tables 4.3 and 4.4 (R80); next is the index of the EMB expected, of a later one those between were lost
(log 46). -/
def Cfg.hdrOk (c : Cfg) (p next : Nat) (h : PktHdr) : Bool :=
  !h.rsv && (match h.ptype with
    | 3 => decide (h.pack = c.packCode p) && (decide (h.conv = 0) || c.dualConv p) &&
        decide (h.arg + 8 * (h.count + 1) ≤ c.width p)
    | 4 => decide (h.pack = 0 ∧ h.conv = 0 ∧ h.line = 0 ∧ next ≤ h.arg)
    | 2 => decide (h.pack = 0 ∧ h.conv = 0 ∧ h.arg = 0 ∧ h.count = 0)
    | 5 => decide (h.pack = 0 ∧ h.conv = 0 ∧ h.arg = 0 ∧ h.count = 0)
    | _ => decide (h.pack = 0 ∧ h.conv = 0 ∧ h.line = 0 ∧ h.arg = 0 ∧ h.count = 0))

/-- The receiver takes a block of the stream of a port now. -/
def Engine.streaming (e : Engine) (p : Nat) : Bool := (e.port p).link = .up && !(e.port p).waitAlign

/-- A packet of type ty arrives (R80): its header is checked, then its CRC counted, and f acts on it. Before the first FS
after a training it is discarded uncounted (R77 step 8). -/
def Engine.packet (p ty : Nat) (sop : BitVec 56) (payload : List Byte) (crc : BitVec 32)
    (f : PktHdr → Bool → Engine → Engine) (e : Engine) : Engine :=
  let h := pktHdr sop
  let q := e.port p
  let next := match q.frame with
    | some f => f.embNext
    | none => 0
  if !e.streaming p || h.ptype ≠ ty then e
  else if q.awaitFs && !(ty = 1 && hchkOk sop && e.cfg.hdrOk p next h) then e
  else if !hchkOk sop then e.hyErr p 0 1 .hyernHdrErr
  else if !e.cfg.hdrOk p next h then e.fmtErr p
  else if payload.length ≠ e.cfg.payloadLen p h then e
  else
    let ok := trailerOk sop payload crc
    f h ok (if ok then e else e.crcErr p)

/-- CFNs of a port to which no frame is bound: those triggered, and the next one, whose interval may open before its trigger
(R107). -/
def Engine.unbound (e : Engine) (p : Nat) : List Nat :=
  let q := e.port p
  q.owed ++ (if e.proj.run && q.joined && !e.clk.classV && !q.early.contains q.nextTrig then [q.nextTrig] else [])

/-- CFN whose binding interval holds this instant (R107). -/
def Engine.bindTo (e : Engine) (p : Nat) : Option Nat :=
  (e.unbound p).find? fun c =>
    decide ((e.tro p (e.values p c).mode c - e.now).natAbs ≤ us (10 * e.cfg.fsWin p))

/-- A frame opens (R83, R107): with its SFC, or without FS. -/
def Engine.openFrame (p : Nat) (sfc : Option Nat) (missing : Bool) (e : Engine) : Engine :=
  let c := e.bindTo p
  let e := if missing then e.seqErr p else e
  let e := if c.isNone then e.bump .capStray (portSrc p) else e
  e.modPort p fun q => { q with
    frame := some { cfn := c, sfc := sfc, flags := addFlagIf missing .fsMissing 0, cur := none, nextLine := 0, lines := [],
                    fillLines := 0, long := false, embNext := 0, echoes := [] }
    lastSfc := sfc, firstFs := false, awaitFs := false }

/-- LS, PIX or EMB with no frame open opens one (R83). -/
def Engine.needFrame (p : Nat) (e : Engine) : Engine := if (e.port p).frame.isNone then e.openFrame p none true else e

def Engine.modFrame (p : Nat) (f : OpenFrame → OpenFrame) (e : Engine) : Engine :=
  e.modPort p fun q => { q with frame := q.frame.map f }

/-- HYERN_FS (R80, R83): an open frame closes, the SFC is compared, and a frame opens. A skip logs the SFC before and the one received
(DEDUCED, log 113). -/
def Engine.hyernFs (p : Nat) (payload : List Byte) (ok : Bool) (e : Engine) : Engine :=
  let e := e.closeFrame p false
  let q := e.port p
  if q.link ≠ .up then e else
  let sfc := if ok then some (unle (payload.take 4)) else none
  let e := match sfc, q.lastSfc with
    | some n, some l =>
      if !q.firstFs && decide (n ≠ (l + 1) % 4294967296) then
        ((e.bump .hyernSfcSkip (portSrc p)).emit (portSrc p) .hyernSfcSkip (le 4 l ++ le 4 n)).modPort p
          fun q => { q with errMoved := true }
      else e
    | _, _ => e
  e.openFrame p sfc false

def execHyernFs (t : Nat) (p : Fin 2) (sop : BitVec 56) (payload : List Byte) (crc : BitVec 32) (s : State) : Out :=
  s.run t fun e => e.whenLive (·.packet p 1 sop payload crc fun _ ok e => e.hyernFs p payload ok)

/-- A line above LINES (R108): the open line closes, and the frame is LONG. -/
def Engine.longLine (p : Nat) (e : Engine) : Engine := (e.closeLine p false).modFrame p fun f => { f with long := true }

/-- HYERN_LS (R82). -/
def Engine.hyernLs (p line : Nat) (e : Engine) : Engine :=
  let e := e.needFrame p
  match (e.port p).frame with
  | none => e
  | some f =>
    if e.cfg.lines p ≤ line then e.longLine p
    else if line < f.nextLine then e.seqErr p
    else (e.closeLine p false).openLine p line true

def execHyernLs (t : Nat) (p : Fin 2) (sop : BitVec 56) (crc : BitVec 32) (s : State) : Out :=
  s.run t fun e => e.whenLive (·.packet p 2 sop [] crc fun h _ e => e.hyernLs p h.line)

/-- Photosites of a PIX payload (R74): groups of 8, each one little-endian integer. -/
def unpackPix (bits : Nat) (n : Nat) (payload : List Byte) : List Nat :=
  (List.range n).flatMap fun g =>
    let v := unle ((payload.drop (g * bits)).take bits)
    (List.range 8).map fun j => (v >>> (bits * j)) % 2 ^ bits

/-- Column after the last one accepted of a line's conversion. -/
def nextCol (l : List (Nat × Nat)) : Nat :=
  match l.getLast? with
  | some x => x.1 + 1
  | none => 0

/-- Photosites join the open line. -/
def LineBuf.add (l : LineBuf) (conv x0 : Nat) (vs : List Nat) : LineBuf :=
  let new := vs.mapIdx fun i v => (x0 + i, v)
  if conv = 0 then { l with conv0 := l.conv0 ++ new } else { l with conv1 := l.conv1 ++ new }

/-- Photosites in 1/16384 that the pixel dies take from a port in some ticks: 24 Gpx/s, or 12 Gpx/s per port in split mode (R63). -/
def Cfg.portDrain (c : Cfg) (ticks : Nat) : Nat := if c.split then 3 * ticks else 6 * ticks

/-- Photosites in 1/16384 that the port buffer holds: the two lines a sensor that keeps R63 can have in it, and more as the
implementation has it (log 132). -/
def Cfg.portRoom (c : Cfg) (p : Nat) : Nat := 16384 * (2 * c.width p * c.nconv p + Config.portBuffer)

/-- Photosites reach the port buffer (R63, R80): of n as many as fit; with them the engine, which counts an overflow. -/
def Engine.portTakes (p n : Nat) (e : Engine) : Nat × Engine :=
  let q := e.port p
  let fill := q.bufFill - e.cfg.portDrain (e.now - q.bufAt)
  let k := min n ((e.cfg.portRoom p - fill) / 16384)
  let e := e.modPort p fun q => { q with bufFill := fill + 16384 * k, bufAt := e.now }
  (k, if k < n then (e.bump .hyernOverrun (portSrc p)).modPort p fun q => { q with errMoved := true } else e)

/-- HYERN_PIX (R74, R80, R82). -/
def Engine.hyernPix (p : Nat) (h : PktHdr) (payload : List Byte) (ok : Bool) (e : Engine) : Engine :=
  let e := e.needFrame p
  let vs := unpackPix (e.cfg.packBits p) (h.count + 1) payload
  let put (e : Engine) : Engine :=
    let (k, e) := e.portTakes p vs.length
    e.modFrame p fun f => { f with
      cur := f.cur.map fun l => l.add h.conv h.arg (vs.take k)
      flags := addFlagIf (!ok) .linkCrc f.flags }
  match (e.port p).frame with
  | none => e
  | some f =>
    if e.cfg.lines p ≤ h.line then e.longLine p
    else
      match f.cur with
      | some l =>
        if h.line = l.line then
          if h.arg < nextCol (if h.conv = 0 then l.conv0 else l.conv1) then e.fmtErr p else put e
        else if h.line < l.line then e.seqErr p
        else put ((e.closeLine p false).openLine p h.line false)
      | none => if h.line < f.nextLine then e.seqErr p else put (e.openLine p h.line false)

def execHyernPix (t : Nat) (p : Fin 2) (sop : BitVec 56) (payload : List Byte) (crc : BitVec 32) (s : State) : Out :=
  s.run t fun e => e.whenLive (·.packet p 3 sop payload crc fun h ok e => e.hyernPix p h payload ok)

/-- Entries of an EMB payload: address and value. -/
def embEntries : (n : Nat) → List Byte → List (Nat × Nat)
  | 0, _ => []
  | n + 1, bs => (unle (bs.take 4), unle ((bs.drop 4).take 4)) :: embEntries n (bs.drop 8)

/-- HYERN_EMB (R80, R105): a later value of an address stands. -/
def Engine.hyernEmb (p : Nat) (h : PktHdr) (payload : List Byte) (ok : Bool) (e : Engine) : Engine :=
  (e.needFrame p).modFrame p fun f => { f with
    embNext := h.arg + 1
    echoes := if ok then (embEntries (h.count + 1) payload).reverse ++ f.echoes else f.echoes
    flags := addFlagIf (!ok) .embInvalid f.flags }

def execHyernEmb (t : Nat) (p : Fin 2) (sop : BitVec 56) (payload : List Byte) (crc : BitVec 32) (s : State) : Out :=
  s.run t fun e => e.whenLive (·.packet p 4 sop payload crc fun h ok e => e.hyernEmb p h payload ok)

/-- HYERN_LE (R82, R83). -/
def Engine.hyernLe (p line : Nat) (e : Engine) : Engine :=
  match (e.port p).frame with
  | none => e.seqErr p
  | some f =>
    match f.cur with
    | some l => if l.line = line then e.closeLine p true else e.seqErr p
    | none => if f.long && decide (e.cfg.lines p ≤ line) then e else e.seqErr p

def execHyernLe (t : Nat) (p : Fin 2) (sop : BitVec 56) (crc : BitVec 32) (s : State) : Out :=
  s.run t fun e => e.whenLive (·.packet p 5 sop [] crc fun h _ e => e.hyernLe p h.line)

/-- HYERN_FE (R83): the frame closes. -/
def Engine.hyernFe (p : Nat) (e : Engine) : Engine :=
  if (e.port p).frame.isNone then e.seqErr p else e.closeFrame p true

def execHyernFe (t : Nat) (p : Fin 2) (sop : BitVec 56) (payload : List Byte) (crc : BitVec 32) (s : State) : Out :=
  s.run t fun e => e.whenLive (·.packet p 6 sop payload crc fun _ _ e => e.hyernFe p)

/-- HYERN_SOP_ERROR (R80): rows 1, 2, 5 and 6 of Table 4.5. -/
def Engine.hyernSopError (p : Nat) (kind : SopErr) (e : Engine) : Engine :=
  if !e.streaming p || (e.port p).awaitFs then e
  else match kind with
    | .badHchk => e.hyErr p 0 1 .hyernHdrErr
    | .badPtype => e.fmtErr p
    | .cutPacket => e.fmtErr p
    | .strayData => e.fmtErr p
    | .unknownBlock => e.fmtErr p

def execHyernSopError (t : Nat) (p : Fin 2) (kind : SopErr) (s : State) : Out :=
  s.run t fun e => e.whenLive (·.hyernSopError p kind)

/-- Training is complete (R77 step 7). -/
def Engine.trained (p skew : Nat) (e : Engine) : Engine :=
  let ls := e.cfg.portLanes p
  let rate := match ls with
    | l :: _ => e.cfg.lnRate l
    | [] => 0
  let e := ls.foldl (fun e l => e.modLane l fun q => { q with
    step := 5, rateNow := e.cfg.lnRate l, eqDone := true, linkUp := true }) e
  let e := (e.bump .hyernTrain (portSrc p)).emit (portSrc p) .hyernTrained []
  let e := match ls with
    | l :: _ => e.emit (0x0080 + l) .laneUp (evData [(4, rate), (4, ls.length)])
    | [] => e
  e.modPort p fun q => { q with
    link := .up, lanesNow := e.cfg.laneLog2 p, rateNow := rate, skewMax := skew, alignSeq := 0, prevAlign := 0, alignErrs := 0
    waitAlign := false, awaitFs := true, firstFs := true }

/-- Every lane of a port has passed steps 1 to 3 of Table 3.6 (R77 step 3). -/
def Engine.lanesReady (e : Engine) (p : Nat) : Bool :=
  (e.cfg.portLanes p).all fun l => let q := vget e.lanes l Lane.reset; decide (4 ≤ q.step) && q.pllLock && q.cdrLock && q.pcsLock

/-- HYERN_ALIGN: the closing ALIGN of a training (R77, R78), or one of the stream (R69, R80); blocks are the stream blocks on each
lane since the ALIGN before. -/
def Engine.hyernAlign (p : Nat) (seqs : List Nat) (sameRow : Bool) (blocks : List Nat) (skew tsLog2 : Nat) (e : Engine) : Engine :=
  let q := e.port p
  let seq := seqs.headD 0
  match q.link with
  | .training =>
    if !e.lanesReady p then e
    else if tsLog2 ≠ e.cfg.laneLog2 p then e.trainFail p 2
    else if 64 < skew then e.trainFail p 3
    else if seqs.isEmpty || seqs.any (· ≠ 0) || !sameRow then e.trainFail p 4
    else e.trained p skew
  | .up =>
    if sameRow && (blocks.all (· = 16383) && blocks.length = seqs.length) && decide (skew ≤ 64) && seqs.all (· = (q.prevAlign + 1) % 256) && !seqs.isEmpty then
      e.modPort p fun q => { q with
        alignSeq := seq, prevAlign := seq, alignErrs := 0, waitAlign := false, skewMax := max q.skewMax skew }
    else
      let e := (e.bump .hyernAlignErr (portSrc p)).modPort p fun q => { q with
        alignErrs := q.alignErrs + 1, waitAlign := true, prevAlign := seq, errMoved := true }
      if (e.port p).alignErrs < 3 then e else (e.emit (portSrc p) .hyernAlignLoss []).linkDown p
  | _ => e

def execHyernAlign (t : Nat) (p : Fin 2) (seqs : List Nat) (sameRow : Bool) (blocks : List Nat) (skew tsLog2 : Nat) (s : State) :
    Out :=
  s.run t fun e => e.whenLive (·.hyernAlign p seqs sameRow blocks skew tsLog2)

/-- HYERN_SENSOR_RESET (R79): the sensor has reset itself, and the port trains from step 2 of R77, without a reset sequence. -/
def Engine.hyernSensorReset (p : Nat) (e : Engine) : Engine :=
  if (e.port p).link ≠ .up then e
  else
    let e := (e.closeFrame p false).emit (portSrc p) .hyernSensorReset []
    let e := if (e.port p).link = .up then e.lanesTrain p true else e
    { e with pins := { e.pins with rstN := vmod e.pins.rstN p fun _ => true } }.modPort p fun q => { q with
      link := .training, lanesNow := 0, rateNow := 0, trainTry := 1, trainAt := e.now, window := [] }

def execHyernSensorReset (t : Nat) (p : Fin 2) (s : State) : Out := s.run t fun e => e.whenLive (·.hyernSensorReset p)

/-- HYERN_TRAIN_TIMEOUT (R78): step 7 was not reached in time. -/
def Engine.hyernTrainTimeout (p : Nat) (e : Engine) : Engine :=
  if (e.port p).link = .training && decide ((e.port p).trainAt + ms (e.cfg.trainMs p + 2) ≤ e.now) then e.trainFail p 1 else e

def execHyernTrainTimeout (t : Nat) (p : Fin 2) (s : State) : Out := s.run t fun e => e.whenLive (·.hyernTrainTimeout p)

/-- An init list write failed after its retry (R97, R103): the attempt fails. -/
def Engine.initWriteFail (p : Nat) (e : Engine) : Engine :=
  let addr := match (e.port p).window with
    | x :: _ => x.2.2.1
    | [] => 0
  ((e.bump .sensorCtrlErr (portSrc p)).emit (portSrc p) .sensorCtrlErr (le 4 addr ++ le 4 0xFFFFFFFF)).trainFail p 5

/-- RST_LOW and RST_WAIT of a reset sequence have passed (R97). -/
def Engine.rstWaited (e : Engine) (p : Nat) : Bool :=
  decide ((e.port p).rstAt + us (10 * e.cfg.rstLow p + 100 * e.cfg.rstWait p) ≤ e.now)

/-- SPn_RST_N is released (R97 step 2). -/
def Engine.rstRelease (p : Nat) (e : Engine) : Engine :=
  { e with pins := { e.pins with rstN := vmod e.pins.rstN p fun _ => true } }

/-- SENSOR_WRITE_DONE during a reset sequence (R97, R103): its writes come after the release and the wait, and the retry is made
at once. -/
def Engine.initWriteDone (p : Nat) (ok : Bool) (e : Engine) : Engine :=
  if !e.rstWaited p then e else
  let e := e.rstRelease p
  match (e.port p).window with
  | [] => e
  | (g, c, addr, data, retried) :: rest =>
    if ok then e.modPort p fun q => { q with window := rest, writes := e.cfg.ctlWrite p addr data :: q.writes }
    else if !retried then e.modPort p fun q => { q with window := (g, c, addr, data, true) :: rest }
    else e.initWriteFail p

/-- SENSOR_WRITE_DONE (R97, R103). -/
def Engine.sensorWriteDone (p : Nat) (ok room : Bool) (e : Engine) : Engine :=
  if (e.port p).link = .resetting then e.initWriteDone p ok else e.windowWriteDone p ok room

def execSensorWriteDone (t : Nat) (p : Fin 2) (ok room : Bool) (s : State) : Out :=
  s.run t fun e => e.whenLive (·.sensorWriteDone p ok room)

/-- SENSOR_RESET_DONE (R77, R97): the reset sequence is complete, and the port trains. -/
def Engine.sensorResetDone (p : Nat) (initOk : Bool) (e : Engine) : Engine :=
  if (e.port p).link ≠ .resetting || !e.rstWaited p then e
  else
    let e := e.rstRelease p
    if !initOk then e.initWriteFail p
    else e.modPort p fun q => { q with
      link := .training, trainAt := e.now, window := [], lastCodes := Vector.replicate 5 none, base := e.cfg.baseVals p
      writes := (q.window.map fun x => e.cfg.ctlWrite p x.2.2.1 x.2.2.2.1).reverse ++ q.writes }

def execSensorResetDone (t : Nat) (p : Fin 2) (initOk : Bool) (s : State) : Out :=
  s.run t fun e => e.whenLive (·.sensorResetDone p initOk)

end Sys2Proof.Machine
end

