-- ==== Sys2Proof/Machine/Lanes.lean ====
section
/-! DEFINITION. High-speed lanes (ch. 3): their configuration, bring-up and loss (R52, R53), elastic buffers (R48, R50, R54), tests
(R55), Class V (R46), SDI input loss (R324), and STS_LANE (R59). -/

namespace Sys2Proof.Machine

/-- Directions of a lane (Table 3.1). -/
def laneRx (l : Nat) : Bool := decide (l < 44) || l = 52 || l = 53
def laneTx (l : Nat) : Bool := decide (16 ≤ l) && l ≠ 52 && l ≠ 53

/-- SO and VL lanes, which Class V forces to electrical idle (R46). -/
def laneVideo (l : Nat) : Bool := (decide (44 ≤ l) && decide (l < 52)) || decide (54 ≤ l)

/-- Source of a lane's events and counters (R40). -/
def laneSrc (l : Nat) : Nat := 0x0080 + l

/-- Lanes of the port a lane belongs to by Table 3.1, enabled or not. -/
def Cfg.laneMates (c : Cfg) (l : Nat) : List Nat :=
  if l < 16 then (if c.split then (List.range 8).map (8 * (l / 8) + ·) else List.range 16)
  else if l < 44 then (List.range 4).map (4 * (l / 4) + ·)
  else if l < 54 then [l]
  else (List.range 4).map (54 + 4 * ((l - 54) / 4) + ·)

/-- The enabled ones. -/
def Cfg.lanePort (c : Cfg) (l : Nat) : List Nat := (c.laneMates l).filter fun k => c.lnRate k ≠ 0

/-- Enabled lanes that train as one link: in 25GBASE-R mode each lane of a network port is a link of its own (Table 3.3). -/
def Cfg.laneLink (c : Cfg) (l : Nat) : List Nat :=
  if 36 ≤ l ∧ l < 44 ∧ c.net25 ((l - 36) / 4) then [l].filter fun k => c.lnRate k ≠ 0 else c.lanePort l

/-- A rate that lane l may train to: its group's codes up to its RATE for ML, EL and VL, its RATE for the others (R45). -/
def Cfg.laneRates (c : Cfg) (l rate : Nat) : Bool :=
  if 16 ≤ l ∧ l < 36 then decide (1 ≤ rate ∧ rate ≤ c.lnRate l)
  else if 54 ≤ l then decide (8 ≤ rate ∧ rate ≤ c.lnRate l)
  else rate = c.lnRate l

/-- Restart unit of a head: a locked pair is named by its first head (Table 19.13). -/
def Cfg.headUnit (c : Cfg) (h : Nat) : Nat := 0x0100 + if h % 2 = 1 && c.hdPair (h - 1) then h - 1 else h

/-- Restart unit a lane belongs to (Table 1.5). -/
def Cfg.laneUnit (c : Cfg) (l : Nat) : Nat :=
  if l < 16 then 0x0300 + (if c.split then l / 8 else 0)
  else if l < 32 then 0x0500 + (l - 16) / 4
  else if l < 36 then 0x0700
  else if l < 44 then 0x0600 + (l - 36) / 4
  else if l < 52 then c.headUnit (c.soHead (l - 44))
  else if l < 54 then 0x0800
  else c.headUnit (c.dpHead ((l - 54) / 4))

def Engine.lane (e : Engine) (l : Nat) : Lane := vget e.lanes l Lane.reset

/-- CTLE setting of a lane at the moment: CTLE_GAIN with EQ_FIXED, and otherwise what the adaptation finds (Table 3.2; log 128). -/
def Engine.ctle (l : Nat) (e : Engine) : Engine :=
  if !laneRx l then e
  else if e.cb 0x0003 l 20 then e.modLane l fun q => { q with ctleNow := e.cf 0x0003 l 19 15 }
  else
    let (d, e) := e.draw
    e.modLane l fun q => { q with ctleNow := Config.unstated 59 d % 32 }

/-- A lane is configured: it begins at step 1, in the power state of R58; without a rate it is OFF. -/
def Engine.laneConfigure (l : Nat) (e : Engine) : Engine :=
  let idle := if l < 52 then decide (44 ≤ l) && !e.cfg.soEn (l - 44)
    else (vget e.outs.dp ((l - 54) / 4) ⟨0, 0, 0, [], 0, 0⟩).link = 0
  e.modLane l fun _ =>
    if e.cfg.lnRate l = 0 then { Lane.reset with txPs := 3, rxPs := 3 }
    else { Lane.reset with
      step := 1
      txPs := if !laneTx l then 3 else if laneVideo l && idle then 2 else 0
      rxPs := if laneRx l then 0 else 3
      ctleNow := if laneRx l && e.cb 0x0003 l 20 then e.cf 0x0003 l 19 15 else 0
      txHeld := laneVideo l && e.clk.classV
      classVIdle := laneVideo l && e.clk.classV }

/-- TX_PS of lane l: the state its unit asks for, but electrical idle under Class V, before its head's restart boundary, without
PLL lock on a lane that only transmits (R46, R53, R58), and in near-end serial loopback (Table 3.7; log 129). -/
def Lane.txNow (l : Nat) (q : Lane) : Nat :=
  if q.txPs = 3 then 3
  else if q.classVIdle then 1
  else if q.txPs = 0 && (q.txHeld || q.loopback = 1 || (!laneRx l && !q.pllLock)) then 1
  else q.txPs

/-- Class V begins or ends for SO and VL lanes (R46, R394): once released, a transmitter waits for its head's restart boundary. -/
def Engine.lanesClassV (on : Bool) (e : Engine) : Engine :=
  (List.range 62).foldl (fun e l =>
    if laneVideo l && e.cfg.lnRate l ≠ 0 && (on || (e.lane l).pllLock) then
      e.modLane l fun q => { q with classVIdle := on, txHeld := q.txHeld || on }
    else e) e

/-- LANE_PLL_LOCK (R52 step 1): a lane that only transmits has no steps 2 and 3. -/
def Engine.lanePllLock (l : Nat) (e : Engine) : Engine :=
  if (e.lane l).step ≠ 1 then e
  else e.modLane l fun q => { q with
    pllLock := true, step := if laneRx l then 2 else 4, classVIdle := q.classVIdle && e.clk.classV }

def execLanePllLock (t : Nat) (l : Fin 62) (s : State) : Out := s.run t fun e => e.whenPowered (·.lanePllLock l)

/-- LANE_CDR_LOCK (R52 step 2). -/
def Engine.laneCdrLock (l : Nat) (e : Engine) : Engine :=
  if (e.lane l).step ≠ 2 then e else e.modLane l fun q => { q with cdrLock := true, step := 3 }

def execLaneCdrLock (t : Nat) (l : Fin 62) (s : State) : Out := s.run t fun e => e.whenPowered (·.laneCdrLock l)

/-- LANE_PCS_LOCK (R52 step 3). On a sensor lane that trains, equalisation is done with it: within the 3 ms of R77 (log 133). -/
def Engine.lanePcsLock (l : Nat) (e : Engine) : Engine :=
  if (e.lane l).step ≠ 3 then e
  else
    let e := e.modLane l fun q => { q with pcsLock := true, step := 4 }
    let port := e.port (if e.cfg.split then l / 8 else 0)
    if l < 16 && port.link = .training then (e.modLane l fun q => { q with eqDone := true }).ctle l else e

def execLanePcsLock (t : Nat) (l : Fin 62) (s : State) : Out := s.run t fun e => e.whenPowered (·.lanePcsLock l)

/-- LANE_LOCK_FAIL (R52 step 3): back to step 2, which waits for CDR lock anew (log 130). -/
def Engine.laneLockFail (l : Nat) (e : Engine) : Engine :=
  if (e.lane l).step ≠ 3 then e
  else
    let e := e.modLane l fun q => { q with cdrLock := false, step := 2 }
    (e.bump .laneLockFail (laneSrc l)).emit (laneSrc l) .laneLockFail []

def execLaneLockFail (t : Nat) (l : Fin 62) (s : State) : Out := s.run t fun e => e.whenPowered (·.laneLockFail l)

/-- The port's protocol takes the loss of a lane that was up: a sensor link and the endpoint's go down (R81, R294); a media
port's ends at MEDIA_LINK_DOWN_TIMEOUT, and a network port is up while its lanes are. -/
def Engine.laneProtocol (l : Nat) (e : Engine) : Engine :=
  if l < 16 then
    let p := if e.cfg.split then l / 8 else 0
    if (e.port p).link = .up then e.linkDown p else e
  else if 32 ≤ l ∧ l < 36 then
    if e.ep.link = .up || e.ep.link = .loopback then e.epLinkDown.epTrain else e
  else e

/-- Lanes that train again when lane l is lost: those of a PCIe link together, a network lane by itself (R52, R60; log 131). A
sensor port counts its own trainings, and SDI lanes have none. -/
def Cfg.laneRetrains (c : Cfg) (l : Nat) : List Nat :=
  if 16 ≤ l ∧ l < 36 then c.lanePort l else if 36 ≤ l ∧ l < 44 then [l] else []

/-- One more protocol training of some lanes. -/
def Engine.countRetrain (ls : List Nat) (e : Engine) : Engine := ls.foldl (fun e l => e.bump .laneRetrain (laneSrc l)) e

/-- What LANE_PLL_UNLOCK does to the counter and the log: nothing on SO and VL lanes under Class V (R46). -/
def Engine.pllLost (l : Nat) (e : Engine) : Engine :=
  if laneVideo l && e.clk.classV then e
  else (e.bump .lanePllFail (laneSrc l)).emit (laneSrc l) .lanePllUnlock []

/-- A lane that is up loses a lock (R53): 1 PLL, 2 CDR, 3 PCS. -/
def Engine.laneLost (l why : Nat) (e : Engine) : Engine :=
  let e := (e.bump .laneDown (laneSrc l)).emit (laneSrc l) .laneDown (evData [(1, why)])
  let e := e.modLane l fun q => { q with
    linkUp := false, eqDone := false, rateNow := 0, pcsLock := false, cdrLock := q.cdrLock && decide (why = 3)
    pllLock := decide (why ≠ 1), prbsLock := false, step := if why = 1 then 1 else 2 }
  (e.countRetrain (e.cfg.laneRetrains l)).laneProtocol l

/-- LANE_PLL_UNLOCK (R52 step 1, R53): the lock fails, or is lost. -/
def Engine.lanePllUnlock (l : Nat) (e : Engine) : Engine :=
  if (e.lane l).step = 0 then e
  else
    let up := (e.lane l).linkUp
    let e := e.pllLost l
    if up then e.laneLost l 1
    else e.modLane l fun q => { q with
      pllLock := false, cdrLock := false, pcsLock := false, linkUp := false, eqDone := false, rateNow := 0, step := 1 }

def execLanePllUnlock (t : Nat) (l : Fin 62) (s : State) : Out := s.run t fun e => e.whenPowered (·.lanePllUnlock l)

/-- PCIe link states of ML and EL lanes (R58): IDLE in L0s, for each direction, and SLEEP in L1. -/
def Lane.pm (pm : Nat) (q : Lane) : Lane :=
  { q with
    txPs := if pm = 4 then 2 else if pm = 1 ∨ pm = 3 then 1 else 0
    rxPs := if pm = 4 then 2 else if pm = 2 ∨ pm = 3 then 1 else 0 }

/-- A lane of a link comes up at a rate (R52 step 5). -/
def Engine.laneRise (rate l : Nat) (e : Engine) : Engine :=
  (e.modLane l fun q => { q with step := 5, linkUp := true, eqDone := true, rateNow := rate }).ctle l

/-- LANE_UP (R52 step 5): protocol training of the link of lane l ends, at a rate and with the link's first width lanes by
LOGICAL. A PCIe link also enters a state of R58 so. A sensor port's lanes come up with its Hyern training (R77), and a lane under
test has left its normal function (R55). -/
def Engine.laneUp (l rate width pm : Nat) (e : Engine) : Engine :=
  let link := e.cfg.laneLink l
  let ls := link.filter fun k =>
    decide (e.cfg.lnLogical k < width ∨ link.length = 1) && decide (4 ≤ (e.lane k).step) && !(e.lane k).test
  if l < 16 || ls.isEmpty || !e.cfg.laneRates l rate then e
  else
    let power (e : Engine) : Engine := if 16 ≤ l ∧ l < 36 then ls.foldl (fun e k => e.modLane k (Lane.pm pm)) e else e
    if ls.all fun k => (e.lane k).linkUp then power e
    else
      let e := ls.foldl (fun e k => e.laneRise rate k) e
      let e := e.emit (laneSrc (link.headD 0)) .laneUp (evData [(4, rate), (4, ls.length)])
      power (if 32 ≤ l ∧ l < 36 ∧ (e.ep.link = .training ∨ e.ep.link = .loopback) then e.epLinkUp rate ls.length else e)

def execLaneUp (t : Nat) (l : Fin 62) (rate : Nat) (link : LinkForm) (s : State) : Out :=
  s.run t fun e => e.whenPowered (·.laneUp l rate link.width link.pm)

/-- One code error (R54): counted, and logged with the number since the last event when that lies a second back. -/
def Engine.laneCodeErr (l : Nat) (e : Engine) : Engine :=
  let e := (e.bump .laneCodeErr (laneSrc l)).modLane l fun q => { q with codeErrs := q.codeErrs + 1 }
  let due := match (e.lane l).codeErrAt with
    | none => true
    | some t => decide (t + secs 1 ≤ e.now)
  if due then
    (e.emit (laneSrc l) .laneCodeErr (le 4 (e.lane l).codeErrs)).modLane l fun q => { q with codeErrs := 0, codeErrAt := some e.now }
  else e

/-- Whether the elastic buffer deletes or inserts filler units at a fill (R48): from a departure of 8 until 32 is reached. -/
def ebCorrAt (was fill : Nat) : Nat :=
  if fill = 32 then 0 else if 40 ≤ fill then 1 else if fill ≤ 24 then 2 else was

/-- One unit of the recovered stream, or one taken by the local clock: the fill after it (R48); none where the buffer overflows
or underflows (R50). -/
def Lane.ebNext (q : Lane) : LaneUnit → Option Nat
  | .recv filler bad =>
    let n := q.ebFill + (if filler && !bad && q.ebCorr = 1 then 0 else if filler && !bad && q.ebCorr = 2 then 2 else 1)
    if 64 < n then none else some n
  | .take => if q.ebFill = 0 then none else some (q.ebFill - 1)
  | .prbs _ => some q.ebFill

/-- The elastic buffer takes one unit (R48, R50). -/
def Engine.laneBuffer (l : Nat) (u : LaneUnit) (e : Engine) : Engine :=
  match (e.lane l).ebNext u with
  | some n => e.modLane l fun q => { q with ebFill := n, ebCorr := ebCorrAt q.ebCorr n }
  | none =>
    let e := e.modLane l fun q => { q with ebFill := 32, ebCorr := 0 }
    (e.bump .laneEbSlip (laneSrc l)).emit (laneSrc l) .laneEbSlip []

/-- One unit at a receive lane: its code error, the PRBS checker's bit errors while it is locked (R60), and the elastic buffer, which
SI lanes do not have (R51). -/
def Engine.laneUnit (l : Nat) (u : LaneUnit) (e : Engine) : Engine :=
  let e := match u with
    | .recv _ true => e.laneCodeErr l
    | .prbs n => if (e.lane l).prbsLock then e.bumpN .lanePrbsErr (laneSrc l) 0 n else e
    | _ => e
  if l = 52 ∨ l = 53 then e else e.laneBuffer l u

/-- LANE_EB_SLIP (R48, R50, R54): a stretch of the stream of a receive lane that has locked to its signal, up to the overflow or
underflow of its buffer. -/
def Engine.laneEbSlip (l : Nat) (units : List LaneUnit) (e : Engine) : Engine :=
  if !laneRx l || (e.lane l).step < 3 then e else units.foldl (fun e u => e.laneUnit l u) e

def execLaneEbSlip (t : Nat) (x : LaneUnits) (s : State) : Out :=
  s.run t fun e => e.whenPowered (·.laneEbSlip x.lane x.units)

/-- The mode the engine will be in once every pending change has taken effect (R19). -/
def Engine.modeThen (e : Engine) : Mode :=
  match e.sys.pend.getLast? with
  | some x => x.mode
  | none => e.sys.mode

/-- Loopbacks a lane has (Table 3.7). -/
def laneLoops (l loopback : Nat) : Bool :=
  loopback = 0 || loopback = 2 || ((loopback = 1 || loopback = 3) && ((16 ≤ l && l < 32) || (36 ≤ l && l < 44)))

/-- REFIN can no longer be followed: the generator keeps its cadence from the DTB (R374). -/
def Engine.alignLost (e : Engine) : Engine :=
  if !e.cfg.b 0x0080 1 27 || e.time.alignFault then e
  else { e with time := { e.time with alignNow := false, alignFault := true, refin := none } }.emit 0x02E8 .alignFault []

/-- An SDI input has no signal (R324): SI0's clock is REFIN. -/
def Engine.sdiInOff (i : Nat) (e : Engine) : Engine :=
  if (vget e.outs.sdiIn i ⟨0, 0, false⟩).state = 0 then e
  else
    let e := (e.modSdiIn i fun _ => ⟨0, 0, false⟩).emit (sdiInSrc i) .sdiInLoss []
    if i = 0 then e.alignLost else e

/-- A lane under test leaves its normal function (R55): a sensor port, a drive, an SDI input and a DisplayPort output are without
their link. -/
def Engine.laneLeaves (l : Nat) (e : Engine) : Engine :=
  if l < 16 then
    let p := if e.cfg.split then l / 8 else 0
    (e.closeFrame p false).modPort p fun q => { q with link := .off, lanesNow := 0, rateNow := 0 }
  else if l < 32 then if (e.mport ((l - 16) / 4)).state = .empty then e else e.driveLost ((l - 16) / 4) .linking
  else if l = 52 ∨ l = 53 then e.sdiInOff (l - 52)
  else if 54 ≤ l then
    e.modDp ((l - 54) / 4) fun q => { q with link := if q.link = 0 then 0 else 1, lanes := 0, rate := 0 }
  else e

/-- LANE_TEST (R55). -/
def Engine.laneTest (h : MsgHdr) (l loopback pattern : Nat) (e : Engine) : Engine :=
  if 62 ≤ l || 3 < loopback || 4 < pattern then e.refuse h 0x0105 .malformed .none
  else if e.sys.mode ≠ .service || e.modeThen ≠ .service then e.refuse h 0x0105 .state .none
  else if 32 ≤ l ∧ l < 36 then e.refuse h 0x0105 .refused .checkFailed
  else if e.sys.units.any fun u => u.unit = e.cfg.laneUnit l then e.refuse h 0x0105 .busy .none
  else if e.cfg.lnRate l = 0 then e.refuse h 0x0105 .refused .notConfigured
  else if !laneLoops l loopback then e.refuse h 0x0105 .refused .checkFailed
  else
    let e := (e.laneLeaves l).modLane l fun q => { q with
      test := true, loopback := loopback, pattern := pattern, linkUp := false, rateNow := 0, eqDone := false
      prbsLock := decide (0 < pattern) && (loopback = 1 || loopback = 2) }
    e.ok h 0x0105

def execLaneTest (t : Nat) (h : MsgHdr) (lane loopback pattern : Nat) (s : State) : Out :=
  s.run t fun e => e.request h 0x0105 (·.laneTest h lane loopback pattern)

/-- STS_LANE (R59). -/
def Engine.stsLane (e : Engine) : List Word :=
  e.lanes.toList.mapIdx fun l q => mkWord
    [(27, 24, q.rateNow), (23, 22, q.txNow l), (21, 20, q.rxPs), (19, 17, q.loopback), (16, 16, bit q.prbsLock)
      , (15, 15, bit q.pllLock), (14, 14, bit q.cdrLock), (13, 13, bit q.pcsLock), (12, 12, bit q.linkUp)
      , (11, 11, bit q.eqDone), (10, 10, bit q.classVIdle), (9, 5, q.ctleNow)]

end Sys2Proof.Machine
end

