-- ==== Sys2Proof/Machine/Clock.lean ====
section
/-! DEFINITION. The clock plant (ch. 15): qualification and loss of the sources (R389, R390), the states of the root and its
selection (R391), Class V and Class A (R393, R394), the multiplexers (R386), the gating tree (R396), and STS_CLK (R397). -/

namespace Sys2Proof

/-- A source in the codes of SELECTED (Table 15.4), and its source number (R398). -/
def ClkSrc.code : ClkSrc → Nat
  | .tcxo => 0 | .refin => 1 | .ptp => 2
def ClkSrc.source : ClkSrc → Nat
  | .tcxo => 1 | .refin => 2 | .ptp => 3

end Sys2Proof

namespace Sys2Proof.Machine

/-- The CLK word (Table 15.2). -/
def srcOfCode : Nat → ClkSrc
  | 1 => .refin | 2 => .ptp
  | _ => .tcxo

namespace Cfg
def clkRevert (c : Cfg) : Bool := c.b 0x0002 0 27
def clkRevertS (c : Cfg) : Nat := c.f 0x0002 0 26 19
def qualMs (c : Cfg) : Nat := c.f 0x0002 0 18 11
def phHit (c : Cfg) : Nat := c.f 0x0002 0 10 7
def clkPull (c : Cfg) : Nat := c.f 0x0002 0 6 3
/-- The rank order: PRIMARY, SECONDARY, then TCXO, counted once (R388). -/
def clkRank (c : Cfg) : List ClkSrc :=
  let p := srcOfCode (c.f 0x0002 0 31 30)
  let s := c.f 0x0002 0 29 28
  let l := if s = 0 then [p] else [p, srcOfCode s]
  if l.contains .tcxo then l else l ++ [.tcxo]
end Cfg

/-- Codes of a kind of loss (R397), and its counter. -/
def LossKind.code : LossKind → Nat
  | .stop => 1 | .phaseHit => 2 | .rate => 3 | .servo => 4
def LossKind.ctr : LossKind → Ctr
  | .stop => .clkStop | .phaseHit => .clkPhaseHit | .rate => .clkRate | .servo => .clkServoLoss

def Clk.mon (k : Clk) : ClkSrc → SrcMon
  | .tcxo => k.tcxo | .refin => k.refin | .ptp => k.ptp
def Clk.setMon (k : Clk) (s : ClkSrc) (m : SrcMon) : Clk :=
  match s with
  | .tcxo => { k with tcxo := m }
  | .refin => { k with refin := m }
  | .ptp => { k with ptp := m }

def Engine.modClk (f : Clk → Clk) (e : Engine) : Engine := { e with clk := f e.clk }

/-- The followed servo, and whether it is TRACKING or LOCKED (R365, R389). -/
def Servo.good (s : Servo) : Bool := s.state = .tracking || s.state = .locked
def Engine.followGood (e : Engine) : Bool :=
  match e.followed with
  | some k => (e.servo k).good
  | none => false

/-- The highest-ranked eligible source. -/
def Engine.bestSource (e : Engine) : Option ClkSrc := e.cfg.clkRank.find? fun s => (e.clk.mon s).eligible

/-- The CFN at which capture resumes (R89): the later of the joined ports' next triggers. -/
def Engine.resumeCfn (e : Engine) : Nat :=
  let a := (e.port 0).nextTrig
  let b := (e.port 1).nextTrig
  if (e.port 0).joined && (e.port 1).joined then (if cfnDiff a b < 0 then b else a)
  else if (e.port 0).joined then a else if (e.port 1).joined then b else e.proj.nextCfn

/-- Capture pauses: CFNs whose slots have passed without their trigger are taken again at release (R89, R393). A port whose
trigger the other port is ahead of produces that frame too, empty where none binds to it: the CFNs of both stay equal and none
is skipped (log 135). -/
def Engine.capturePause (e : Engine) : Engine :=
  let next := e.resumeCfn
  let e := if e.proj.run then { e with proj := { e.proj with nextCfn := next } } else e
  let one (p : Nat) (e : Engine) : Engine :=
    if (e.port p).joined then e.modPort p fun q => { q with
      cap := .paused, owed := if q.nextTrig = next then q.owed else q.owed ++ [q.nextTrig], nextTrig := next }
    else e
  one 1 (one 0 e)

/-- The root enters HELD: Class V begins, unless it is in force, and Class A (R393). -/
def Engine.enterHeld (e : Engine) : Engine :=
  let e := e.modClk fun k => { k with root := .held, selected := none, lockedAt := none, revert := none, classA := true }
  let e := if e.clk.classV then e else
    let e := e.modClk fun k => { k with classV := true, classVSince := e.now }
    let e := (e.bump .classV 0x0006).emit 0x0006 .classVEnter []
    (e.outsHold.lanesClassV true).capturePause
  e.audCoast

/-- The root moves from a source to another through HOLDOVER (R391). -/
def Engine.clkMove (old new : ClkSrc) (e : Engine) : Engine :=
  let e := e.modClk fun k => { k with root := .holdover, selected := some new, lockedAt := none }
  (e.bump .clkSwitch 0).emit 0 .clkSwitch (evData [(1, old.code), (1, new.code)])

/-- Selection at a change of eligibility (R391). A revert whose new source is lost is abandoned. -/
def Engine.clkSelect (e : Engine) : Engine :=
  match e.clk.selected with
  | some s =>
    if (e.clk.mon s).eligible then e
    else
      match e.clk.revert with
      | some old =>
        if (e.clk.mon old).eligible then e.modClk fun k => { k with selected := some old, revert := none }
        else
          match e.bestSource with
          | some n => (e.modClk fun k => { k with revert := none }).clkMove s n
          | none => e.enterHeld
      | none =>
        match e.bestSource with
        | some n => e.clkMove s n
        | none => e.enterHeld
  | none =>
    match e.bestSource with
    | some n => e.modClk fun k => { k with root := .acquiring, selected := some n }
    | none => e

/-- A source becomes eligible (R389). -/
def Engine.clkQualify (s : ClkSrc) (e : Engine) : Engine :=
  (e.modClk fun k => k.setMon s { k.mon s with eligible := true, since := e.now }).emit s.source .clkQualified []

/-- An eligible source is lost (R390), without the selection that follows. -/
def Engine.clkLoseOne (s : ClkSrc) (why : LossKind) (e : Engine) : Engine :=
  if !(e.clk.mon s).eligible then e
  else
    let e := e.modClk fun k => { k.setMon s { k.mon s with eligible := false, good := 0 } with lastLoss := some (why, s) }
    (e.bump why.ctr s.source).emit s.source .clkLoss (evData [(4, s.code), (4, why.code)])

/-- Lanes whose REFSEL is TCXO go down with it (R390, R53). -/
def Engine.tcxoLanes (e : Engine) : Engine :=
  (List.range 62).foldl (fun e l =>
    if e.cfg.lnRate l ≠ 0 && e.cfg.lnRef l = 0 && (e.lane l).linkUp then (e.pllLost l).laneLost l 1 else e) e

/-- A loss, with what the loss of the TCXO takes with it, and the selection (R390, R391). -/
def Engine.clkLose (s : ClkSrc) (why : LossKind) (e : Engine) : Engine :=
  if !(e.clk.mon s).eligible then e
  else
    let e := e.clkLoseOne s why
    let e := if s = .tcxo then (e.clkLoseOne .ptp .servo).tcxoLanes else e
    e.clkSelect

/-- Eligibility of the PTP source follows the TCXO and the followed servo (R389, R390). -/
def Engine.clkPtp (e : Engine) : Engine :=
  let want := e.clk.tcxo.eligible && e.followGood
  if want && !e.clk.ptp.eligible then (e.clkQualify .ptp).clkSelect
  else if !want then e.clkLose .ptp .servo
  else e

/-- One window of a source's monitor (R389): frequencies are offsets from nominal in 0.001 ppm. -/
def SrcMon.window (m : SrcMon) (tol : Int) (f : Int) : SrcMon :=
  let steady := match m.fLast with
    | some g => decide ((f - g).natAbs ≤ 100000)
    | none => true
  let ok := !m.stopped && decide ((f.natAbs : Int) ≤ tol) && steady
  { m with good := if ok then m.good + 1 else 0, fLast := some f, stopped := false }

/-- CLK_MONITOR_WINDOW (R389, R390). -/
def Engine.clkWindow (s : ClkSrc) (f : Int) (e : Engine) : Engine :=
  if s = .ptp || !e.sys.phase.firmware then e
  else
    let tol : Int := if s ≠ .tcxo && e.clk.tcxo.eligible then 100000 else 30000000
    let was := e.clk.mon s
    let e := e.modClk fun k => k.setMon s ((k.mon s).window tol f)
    if was.eligible then
      if 100000 < (f - was.fRef).natAbs then e.clkLose s .rate
      else e.modClk fun k => k.setMon s { k.mon s with fRef := was.fRef + (f - was.fRef).tdiv 100 }
    else if e.cfg.qualMs ≤ (e.clk.mon s).good then
      let e := (e.modClk fun k => k.setMon s { k.mon s with fRef := f }).clkQualify s
      e.clkSelect.clkPtp
    else e

def execClkMonitorWindow (t : Nat) (src : ClkSrc) (f : Int) (s : State) : Out := s.run t fun e => e.clkWindow src f

/-- CLK_SOURCE_STOP (R390): the PTP source is the TCXO's clock and has no edges of its own. -/
def Engine.clkStop (s : ClkSrc) (e : Engine) : Engine :=
  if s = .ptp then e
  else (e.modClk fun k => k.setMon s { k.mon s with stopped := true, good := 0 }).clkLose s .stop

def execClkSourceStop (t : Nat) (src : ClkSrc) (s : State) : Out := s.run t fun e => e.whenPowered (·.clkStop src)

/-- An SI lane loses the clock it recovers (R51): LANE_CDR_LOSS, whose number the manual does not give (log 110), and SI0's is
REFIN, which has stopped. -/
def Engine.cdrLost (l : Nat) (e : Engine) : Engine :=
  if l ≠ 52 ∧ l ≠ 53 then e
  else
    let e := e.emit (laneSrc l) .laneCdrLoss []
    if l = 52 then e.clkStop .refin else e

/-- LANE_DOWN (R53, R51): of several losses at one instant, the lowest code is given. -/
def Engine.laneDown (l : Nat) (pll cdr pcs : Bool) (e : Engine) : Engine :=
  if !(e.lane l).linkUp || !(pll || cdr || pcs) then e
  else
    let e := if pll then e.pllLost l else e
    let e := e.laneLost l (if pll then 1 else if cdr then 2 else 3)
    if cdr then e.cdrLost l else e

def execLaneDown (t : Nat) (l : Fin 62) (pll cdr pcs : Bool) (s : State) : Out :=
  s.run t fun e => e.whenPowered (·.laneDown l pll cdr pcs)

/-- SDI_IN_LOSS (R324, R51): an input that loses its signal loses its recovered clock with it. -/
def Engine.sdiInLoss (i : Nat) (e : Engine) : Engine :=
  if (vget e.outs.sdiIn i ⟨0, 0, false⟩).state = 0 then e
  else
    let e := e.sdiInOff i
    let had := (e.lane (52 + i)).cdrLock
    let e := e.modLane (52 + i) fun q => { q with
      cdrLock := false, pcsLock := false, linkUp := false, eqDone := false, rateNow := 0, step := min q.step 2 }
    if had then e.cdrLost (52 + i) else if i = 0 then e.clkStop .refin else e

def execSdiInLoss (t : Nat) (i : Fin 2) (s : State) : Out := s.run t fun e => e.whenLive (·.sdiInLoss i)

/-- CLK_PHASE_HIT (R390): a change of the root's phase error, in 0.1 ns, between two loop updates. -/
def Engine.clkPhaseHit (step : Nat) (e : Engine) : Engine :=
  match e.clk.selected with
  | some s => if 5 * e.cfg.phHit < step then e.clkLose s .phaseHit else e
  | none => e

def execClkPhaseHit (t : Nat) (step : Nat) (s : State) : Out := s.run t fun e => e.whenPowered (·.clkPhaseHit step)

/-- ROOT_LOCKED (R391, R385): the root is on its source, with its offset from the TCXO in 0.001 ppm. -/
def Engine.rootLocked (offset : Int) (e : Engine) : Engine :=
  if !(e.clk.root = .acquiring || e.clk.root = .holdover) || e.clk.selected.isNone then e
  else e.modClk fun k => { k with
    root := .locked, everLocked := true, mgt := true, dtbFab := true, offset := offset, classA := false, revert := none
    lockedAt := if k.classV then some e.now else none }

def execRootLocked (t : Nat) (offset : Int) (s : State) : Out := s.run t fun e => e.whenPowered (·.rootLocked offset)

/-- A source of a list stands before another. -/
def ranksBefore (l : List ClkSrc) (a b : ClkSrc) : Bool := l.contains a && decide (l.idxOf a < l.idxOf b)

/-- CLK_REVERT (R391): a source ranked above the selected one has stayed eligible for REVERT_S. -/
def Engine.clkRevert (n : ClkSrc) (e : Engine) : Engine :=
  match e.clk.selected with
  | none => e
  | some s =>
    let m := e.clk.mon n
    if e.cfg.clkRevert && ranksBefore e.cfg.clkRank n s && m.eligible && decide (m.since + secs e.cfg.clkRevertS ≤ e.now) then
      (e.clkMove s n).modClk fun k => { k with revert := some s }
    else e

def execClkRevert (t : Nat) (src : ClkSrc) (s : State) : Out := s.run t fun e => e.whenPowered (·.clkRevert src)

/-- CLK_MUX_FORCE (R386): of the root's source (0), of CLK_MGT (1), or of the DTB increment (2). -/
def execClkMuxForce (t : Nat) (_mux : Fin 3) (s : State) : Out :=
  s.run t fun e => e.whenPowered fun e => (e.bump .clkMuxForce 0x0004).emit 0x0004 .clkMuxForce []

/-- CLK_NO_SOURCE (R395): no source is eligible 3.0 s after step 4 began; start-up continues in HELD. -/
def Engine.clkNoSource (e : Engine) : Engine :=
  if e.sys.phase ≠ .starting 4 || e.bestSource.isSome || decide (e.now < e.sys.step4At + secs 3) then e
  else
    let e := (e.emit 0 .clkNoSource []).enterHeld
    { e with sys := { e.sys with phase := .starting 5 } }

def execClkNoSource (t : Nat) (s : State) : Out := s.run t fun e => e.clkNoSource

/-- Leaves in use under each parent: of CLK_PIX, PXA and PXB; of CLK_FAB, the die links, the DTB, project timing and heads 0 to
3; of CLK_CDC, CDA and CDB; of CLK_MGT, the cluster; of WCK, the DRAM PHY (R384, R396; log 56). -/
def Cfg.leaves (c : Cfg) (parent : Nat) : List Nat :=
  match parent with
  | 0 => (List.range 2).filter c.hasPort
  | 1 => [0, 1, 2] ++ ((List.range 4).filter c.hdEn).map (3 + ·)
  | 2 => (if c.has 0x0040 then [0] else []) ++ (if c.has 0x0041 then [1] else [])
  | _ => [0]

/-- Leaves in use follow the configuration when a unit restarts: a parent with a leaf in use opens (R396). -/
def Engine.gatesFollow (e : Engine) : Engine :=
  e.modClk fun k => { k with
    leaves := Vector.ofFn fun (i : Fin 5) => e.cfg.leaves i
    parents := Vector.ofFn fun (i : Fin 5) => k.parents[i] || !(e.cfg.leaves i).isEmpty }

/-- Leaves of absent units close at start-up, and a parent without an open leaf closes with them (R396). -/
def Engine.gatesStart (e : Engine) : Engine :=
  e.modClk fun k => { k with
    leaves := Vector.ofFn fun (i : Fin 5) => e.cfg.leaves i
    parents := Vector.ofFn fun (i : Fin 5) => !(e.cfg.leaves i).isEmpty }

/-- CLK_GATE_CLOSE (R396): refused while a leaf is in use. -/
def Engine.clkGateClose (p : Nat) (e : Engine) : Engine :=
  match vget e.clk.leaves p [] with
  | l :: _ => (e.bump .clkGateRefused 0x0005).emit 0x0005 .clkGateRefused (evData [(4, p), (4, l)])
  | [] => e.modClk fun k => { k with parents := vmod k.parents p fun _ => false }

def execClkGateClose (t : Nat) (parent : Fin 5) (s : State) : Out := s.run t fun e => e.whenPowered (·.clkGateClose parent)

/-- Release (R394): the first project frame boundary at least 1 ms after the root entered LOCKED. -/
def Engine.classVRelease (e : Engine) : Engine :=
  match e.clk.lockedAt with
  | none => e
  | some t =>
    if !e.clk.classV || e.now < t + ms 1 || e.clk.root ≠ .locked then e
    else
      let spent := (e.now - e.clk.classVSince) / us 1
      let e := e.modClk fun k => { k with classV := false, lockedAt := none }
      (e.emit 0x0006 .classVExit (evData [(4, spent)])).outsResume.lanesClassV false

/-- STS_CLK (R397). -/
def RootState.code : RootState → Nat
  | .off => 0 | .acquiring => 1 | .locked => 2 | .holdover => 3 | .held => 4

/-- A higher-ranked source counts towards REVERT_S. -/
def Engine.revertPend (e : Engine) : Bool :=
  match e.clk.selected with
  | some s => e.cfg.clkRevert && e.cfg.clkRank.any fun n => ranksBefore e.cfg.clkRank n s && (e.clk.mon n).eligible
  | none => false

def Engine.stsClk (e : Engine) : List Word :=
  let k := e.clk
  let loss := match k.lastLoss with
    | some (w, s) => mkWord [(3, 0, w.code), (5, 4, s.code)]
    | none => 0
  [mkWord [(31, 29, k.root.code), (28, 27, (k.selected.map ClkSrc.code).getD 3), (26, 26, bit k.tcxo.eligible)
      , (25, 25, bit k.refin.eligible), (24, 24, bit k.ptp.eligible), (23, 23, bit k.classV), (22, 22, bit k.classA)
      , (21, 21, bit e.revertPend)],
    BitVec.ofInt 32 k.offset, loss]

end Sys2Proof.Machine
end

