-- ==== Sys2Proof/Machine/Control.lean ====
section
/-! DEFINITION. Control messages that reach no unit (ch. 19): damaged messages (R461), denied and incomplete datagrams (R458),
subscriptions (R463), counters (R8, R539), and the event log (R496 to R498). -/

namespace Sys2Proof.Machine

/-- A message of a transport that is answered outside R462: nothing is kept of it (R461). -/
def Engine.answerBad (h : MsgHdr) (ty : Nat) (st : Status) (e : Engine) : Engine :=
  (e.received h ty).transmit ⟨h.client, false, ty, h.seq, st, .none, []⟩

/-- CTRL_BAD_MESSAGE (R461): on the UART a CRC failure discards the message without a reply. -/
def Engine.badMessage (c : Client) (kind : BadKind) (ty seq : Nat) (e : Engine) : Engine :=
  if !e.answers c then e
  else
    match kind with
    | .uartFraming => if c = .uart then e.bump .ctrlFraming c.source else e
    | .crc =>
      if c = .uart then e.bump .ctrlFraming c.source
      else (e.answerBad ⟨c, seq⟩ ty .crcError).bump .ctrlCrc c.source
    | .malformed => (e.answerBad ⟨c, seq⟩ ty .malformed).bump .ctrlMalformed c.source
    | .unknownType => e.answerBad ⟨c, seq⟩ ty .unknownType

def execCtrlBadMessage (t : Nat) (c : Client) (kind : BadKind) (type seq : Nat) (s : State) : Out :=
  s.run t fun e => e.badMessage c kind type seq

/-- Management Ethernet answers at this point of start-up (R507). -/
def Engine.ethUp (e : Engine) : Bool := (e.sys.phase = .running || e.sys.phase = .thermalHalt) && e.cb 0x00C0 0 30

/-- CTRL_DENIED (R458): logged at most once per minute. -/
def Engine.ctrlDenied (addr : Nat) (e : Engine) : Engine :=
  if !e.ethUp || e.allowed addr then e
  else
    let e := e.bump .ctrlDenied 0x0361
    let due := match e.ctl.lastDenied with
      | some t => decide (t + secs 60 ≤ e.now)
      | none => true
    if due then ({ e with ctl := { e.ctl with lastDenied := some e.now } } : Engine).emit 0x0361 .ctrlDenied [] else e

def execCtrlDenied (t : Nat) (addr _port : Nat) (s : State) : Out := s.run t fun e => e.ctrlDenied addr

/-- CTRL_UART_GAP_TIMEOUT (R461): a gap inside a message discards it. -/
def execCtrlUartGapTimeout (t : Nat) (s : State) : Out :=
  s.run t fun e => if e.answers .uart then e.bump .ctrlFraming 0x0360 else e

/-- FRAGMENT_TIMEOUT (R458): a datagram incomplete 1 s after its first fragment is discarded. -/
def execFragmentTimeout (t : Nat) (id : Nat) (s : State) : Out :=
  s.run t fun e =>
    { e with ctl := { e.ctl with frags := e.ctl.frags.filter fun x => !(decide (x.1 = id) && decide (x.2 + secs 1 ≤ e.now)) } }

/-- Ethernet clients that hold a subscription. -/
def Engine.ethSubs (e : Engine) : Nat := (e.ctl.clients.filter fun x => x.client.isEth && x.sub.isSome).length

/-- SUBSCRIBE (R463): an empty MASK ends the subscription of a UART or Ethernet client. -/
def Engine.subscribe (h : MsgHdr) (mask sev : Nat) (e : Engine) : Engine :=
  if 4 < sev || 2 ^ 32 ≤ mask then e.refuse h 0x0106 .malformed .none
  else
    let x := e.clientD h.client
    if h.client.isEth && x.sub.isNone && decide (mask ≠ 0) && decide (e.cf 0x00C0 0 13 11 ≤ e.ethSubs) then
      e.refuse h 0x0106 .busy .none
    else
      let sub := if mask = 0 ∧ h.client ≠ .endpoint then none else some (mask, sev)
      (e.putClient { x with sub := sub, nseq := 0, queue := [] }).ok h 0x0106

def execSubscribe (t : Nat) (h : MsgHdr) (mask sev : Nat) (s : State) : Out :=
  s.run t fun e => e.request h 0x0106 (·.subscribe h mask sev)

/-- SUBSCRIPTION_LAPSE (R463): 60 s without a request from an Ethernet client. -/
def Engine.subscriptionLapse (c : Client) (e : Engine) : Engine :=
  match e.client? c with
  | none => e
  | some x => if x.lastHeard + secs 60 ≤ e.now then e.putClient { x with sub := none, queue := [] } else e

def execSubscriptionLapse (t : Nat) (addr port : Nat) (s : State) : Out :=
  s.run t fun e => e.subscriptionLapse (.eth addr port)

/-- CLEAR_COUNTERS (R8). -/
def Engine.clearCounters (h : MsgHdr) (source : Nat) (e : Engine) : Engine :=
  if 0xFFFF < source then e.refuse h 0x0104 .malformed .none
  else
    let kept := if source = 0xFFFF then [] else e.counters.filter (·.src ≠ source)
    ({ e with counters := kept } : Engine).ok h 0x0104

def execClearCounters (t : Nat) (h : MsgHdr) (source : Nat) (s : State) : Out :=
  s.run t fun e => e.request h 0x0104 (·.clearCounters h source)

/-- Sources a..b. -/
def within (s a b : Nat) : Bool := decide (a ≤ s ∧ s ≤ b)

/-- The counters of a source, in the order of R539. -/
def countersOf (s : Nat) : List Ctr :=
  if s = 0 then [.clkSwitch]
  else if within s 1 3 then [.clkStop, .clkPhaseHit, .clkRate, .clkServoLoss]
  else if s = 4 then [.clkMuxForce]
  else if s = 5 then [.clkGateRefused]
  else if s = 6 then [.classV]
  else if s = 0x0010 then [.dieLinkRetry]
  else if within s 0x0040 0x0041 then [.inputLoss, .inputDropout]
  else if s = 0x0042 then [.holdupFault, .holdupRemoved]
  else if s = 0x0043 then [.thermalDerate, .thermalTrip]
  else if s = 0x0044 then [.inputSwitch]
  else if within s 0x0080 0x00BD then
    [.laneCodeErr, .laneEbSlip, .lanePllFail, .laneLockFail, .laneRetrain, .laneDown, .lanePrbsErr]
  else if within s 0x0100 0x0101 then
    [.hyernHdrErr, .hyernFmtErr, .hyernCrcErr, .hyernSeqErr, .hyernFill, .hyernAlignErr, .hyernOverrun, .hyernSfcSkip
      , .hyernTrain, .hyernTrainFail, .capClamped, .capShort, .capLong, .capEmpty, .capStray, .capFault, .sensorCtrlErr
      , .settingsMismatch]
  else if s = 0x0102 then [.phaseInMiss, .phaseInHit, .phaseCodeErr]
  else if s = 0x0103 then [.auxSize, .auxDrop, .auxRepeat]
  else if within s 0x0140 0x0141 then [.blackHold, .blackRange, .blackLineHold, .tnrReset, .tnrLate, .tnrPoison]
  else if s = 0x0142 then [.dynCand, .dynPromoted, .dynTrackFull, .dynListFull, .tableSwap, .tableRefused]
  else if s = 0x0143 then [.statsDrop, .statsNotifyDrop]
  else if within s 0x0150 0x0155 then [.branchClip]
  else if s = 0x0158 then [.lutSwap, .lutRefused]
  else if within s 0x0180 0x0187 then
    [.rcEmergency, .fsrTileLimit, .fsrRawTile, .fsrVerifyMismatch, .fsrVerifyFail, .fsrTileLate]
  else if s = 0x0188 then [.fsrDecPicErr, .fsrDecTileErr]
  else if within s 0x01C0 0x01C7 then
    [.hevcRcEmergency, .hevcCtuEmerg, .hevcSkipPic, .hevcSrcDrop, .hevcRingOvf, .hevcPoison]
  else if within s 0x01C8 0x01CB then
    [.hevcDecMissref, .hevcDecConceal, .hevcDecNalErr, .hevcDecSliceErr, .hevcDecHashErr, .hevcDecBump, .hevcDecLate]
  else if s = 0x0200 then
    [.recClips, .recStartRefused, .recRestripe, .recBufferFull, .recPoison, .recFramesLost, .clipRecovered]
  else if within s 0x0210 0x0213 then [.mediaTimeout, .mediaReset, .mediaIoErr, .mediaFail, .mediaRemoved]
  else if s = 0x0240 then [.epCtrlReset, .epWpReject, .epNotReady]
  else if s = 0x0241 then [.epBufHit, .epBufWait, .epBufLost, .epDrainLost]
  else if s = 0x0242 then [.epNotifyDrop, .ctrlCrc, .ctrlMalformed, .ctrlDup]
  else if within s 0x02A0 0x02A3 then [.headTear, .headSkip, .headLate, .headL0Size, .headL1Late]
  else if within s 0x02AC 0x02AD then [.sdiinCrc]
  else if within s 0x02AE 0x02AF then [.dpRetrain, .dpHpd]
  else if within s 0x02B0 0x02BF then [.nvRxPath, .nvRxLost]
  else if s = 0x02C0 then [.audCoastSlip]
  else if within s 0x02C1 0x02C4 then [.audSlip, .audInUnderrun, .audInOverrun, .audOutUnderrun]
  else if within s 0x02C5 0x02C6 then [.audSlip, .audInUnderrun, .audInOverrun, .audParity, .audCsErr]
  else if within s 0x02C7 0x02C8 then [.audOutUnderrun]
  else if within s 0x02D0 0x02D7 then [.audSlip, .audInUnderrun, .audInOverrun, .audOutUnderrun]
  else if s = 0x02E0 then [.timeStep, .timeSwitch]
  else if within s 0x02E1 0x02E2 then [.ptpOutlier, .ptpTimeout, .ptpGmChange]
  else if s = 0x02E8 then [.projRealign]
  else if s = 0x02F0 then [.arrayDupId, .arrayMismatch]
  else if within s 0x0300 0x031F then [.dramCe, .dramUe, .dramTrainFail, .dramHot]
  else if s = 0x0321 then [.siphon, .siphonPoison]
  else if within s 0x0324 0x033B then [.dramQosMiss, .dramPoisonRead]
  else if within s 0x033E 0x033F then [.grottoCe, .grottoUe]
  else if within s 0x0340 0x0347 then [.posIllegal, .posHallBad, .posLimit, .posZ, .posSsiErr]
  else if within s 0x0351 0x0354 then [.fwCoreReset]
  else if s = 0x0355 then [.logSuppressed]
  else if within s 0x0356 0x0357 then [.deflateMismatch]
  else if s = 0x0358 then [.imgSlotInvalid]
  else if s = 0x0360 then [.ctrlFraming, .ctrlMalformed, .ctrlDup, .ctrlNotifyDrop]
  else if s = 0x0361 then [.ctrlCrc, .ctrlMalformed, .ctrlDup, .ctrlDenied, .ctrlNotifyDrop]
  else if s = 0x0363 then [.ctrlGatedExpired]
  else if s = 0x0381 then [.presencePress]
  else if s = 0x0383 then [.calCapture]
  else []

/-- Values of a source's counters (R539): 0x0350 has eight instances of CNT_FW_OVERRUN. -/
def Engine.counterValues (e : Engine) (s : Nat) : List Nat :=
  if s = 0x0350 then (List.range 8).map (e.ctr .fwOverrun s) ++ [e.ctr .restartRejected s 0]
  else (countersOf s).map fun c => e.ctr c s 0

/-- COUNTERS (R539). -/
def Engine.countersRead (h : MsgHdr) (source : Nat) (e : Engine) : Engine :=
  if 0xFFFF < source then e.refuse h 0x0402 .malformed .none
  else
    let vs := e.counterValues source
    e.reply h 0x0402 .ok .none (le 4 vs.length ++ vs.flatMap (le 4))

def execCounters (t : Nat) (h : MsgHdr) (source : Nat) (s : State) : Out :=
  s.run t fun e => e.request h 0x0402 (·.countersRead h source)

/-- Log sequence number of the oldest record held. -/
def Log.oldest (l : Log) : Nat := l.nextSeq - l.ring.length

/-- LOG_READ (R498). -/
def Engine.logRead (h : MsgHdr) (from_ count : Nat) (e : Engine) : Engine :=
  if count = 0 ∨ 2045 < count ∨ 2 ^ 64 ≤ from_ then e.refuse h 0x0403 .malformed .none
  else
    let first := min e.log.nextSeq (max from_ e.log.oldest)
    let rs := (e.log.ring.drop (first - e.log.oldest)).take count
    e.reply h 0x0403 .ok .none
      (le 8 (first + rs.length) ++ le 2 rs.length ++ padTo 6 [] ++ rs.flatMap EventRec.bytes)

def execLogRead (t : Nat) (h : MsgHdr) (from_ count : Nat) (s : State) : Out :=
  s.run t fun e => e.request h 0x0403 (·.logRead h from_ count)

/-- A record is stored: it takes the next log sequence number, and a full ring loses its oldest (R497). -/
def Log.push (r : EventRec) (l : Log) : Log :=
  let ring := l.ring ++ [r]
  { l with ring := ring.drop (ring.length - 32768), nextSeq := (l.nextSeq + 1) % 2 ^ 64 }

/-- A stored record is sent to those who asked for it (R463, R498). -/
def Engine.store (r : EventRec) (e : Engine) : Engine :=
  ({ e with log := e.log.push r } : Engine).notifySev 0x0508 r.ev.severity none r.bytes

/-- A record of 0x0355 that passes neither the merger nor RATE nor SEV_MIN (R497). -/
def Engine.storeNow (ev : Ev) (data : List Byte) (e : Engine) : Engine :=
  e.store ⟨dtbSec e.dtb, dtbNs e.dtb, e.deviceId, 0x0355, ev, data⟩

/-- LOG.SEV_MIN and LOG.RATE; their defaults before LOG is configured (Table 21.6). -/
def Cfg.sevMin (c : Cfg) : Nat := if c.has 0x00B0 then c.f 0x00B0 0 31 28 else 1
def Cfg.logRate (c : Cfg) : Nat := if c.has 0x00B0 then c.f 0x00B0 0 27 16 else 100

/-- The count of a source in a DTB second, changed by f. -/
def putRate (l : List RateCell) (src sec : Nat) (f : RateCell → RateCell) : List RateCell :=
  match l with
  | [] => [f ⟨src, sec, 0, 0⟩]
  | x :: r => if x.src = src ∧ x.sec = sec then f x :: r else x :: putRate r src sec f

/-- A record leaves the merger: stored, below SEV_MIN, or beyond RATE (R497). -/
def Engine.releaseOne (e : Engine) (r : EventRec) : Engine :=
  if r.ev.severity < e.cfg.sevMin then e
  else
    let n := match e.log.rates.find? fun x => decide (x.src = r.src ∧ x.sec = r.sec) with
      | some x => x.stored
      | none => 0
    if n < e.cfg.logRate then
      ({ e with log := { e.log with rates := putRate e.log.rates r.src r.sec fun x => { x with stored := x.stored + 1 } } } : Engine).store r
    else
      ({ e with log := { e.log with rates := putRate e.log.rates r.src r.sec fun x => { x with lost := x.lost + 1 } } } : Engine).bump
        .logSuppressed 0x0355

/-- The key order of R376 for event records of one engine: records before a step of the DTB come first (R370). -/
def HeldRec.before (a b : HeldRec) : Bool :=
  let x := a.record
  let y := b.record
  decide (a.gen < b.gen) || (a.gen = b.gen && (decide (x.sec < y.sec) || (x.sec = y.sec && (decide (x.ns < y.ns) ||
    (x.ns = y.ns && decide (x.dev * 4096 + x.src < y.dev * 4096 + y.src))))))

/-- A record put behind those that do not follow it. -/
def insertRec (x : HeldRec) : List HeldRec → List HeldRec
  | [] => [x]
  | y :: r => if x.before y then x :: y :: r else y :: insertRec x r

/-- LOG_RELEASE (R497): records held for 2 ms are released in key order. -/
def Engine.logRelease (e : Engine) : Engine :=
  let ripe := e.log.held.filter fun x => decide (x.at_ + ms 2 ≤ e.now)
  let e : Engine := { e with log := { e.log with held := e.log.held.filter fun x => decide (e.now < x.at_ + ms 2) } }
  (ripe.foldl (fun l x => insertRec x l) []).foldl (fun e x => e.releaseOne x.record) e

def execLogRelease (t : Nat) (s : State) : Out := s.run t fun e => e.whenPowered (·.logRelease)

/-- LOG_SUPPRESSED (R497): one record for each source that has lost some in a second that has ended. -/
def Engine.logSuppressedNow (e : Engine) : Engine :=
  let sec := dtbSec e.dtb
  let due := e.log.rates.filter fun x => decide (x.sec < sec) && decide (0 < x.lost)
  let rates := (e.log.rates.filter fun x => decide (sec ≤ x.sec + 2)).map fun x => if x.sec < sec then { x with lost := 0 } else x
  due.foldl (fun e x => e.storeNow .logSuppressed (evData [(2, x.src), (4, x.lost)]))
    { e with log := { e.log with rates := rates } }

def execLogSuppressed (t : Nat) (s : State) : Out := s.run t fun e => e.whenPowered (·.logSuppressedNow)

/-- Each start opens a new epoch of the log (R497). -/
def Engine.openEpoch (e : Engine) : Engine :=
  let l := e.log
  let n := if l.opened then l.epoch + 1 else 0
  let last := if l.opened then l.nextSeq - 1 else 2 ^ 64 - 1
  let e : Engine := { e with log := { l with opened := true, epoch := n } }
  e.storeNow .logEpoch (evData [(2, n), (8, last)])

/-- Records still held when an epoch ends are stored in it, before the next one opens (R497). -/
def Engine.closeEpoch (e : Engine) : Engine :=
  let held := e.log.held
  let e : Engine := { e with log := { e.log with held := [] } }
  let e := (held.foldl (fun l x => insertRec x l) []).foldl (fun e x => e.releaseOne x.record) e
  { e with log := { e.log with rates := [] } }

end Sys2Proof.Machine
end

