-- ==== Sys2Proof/Machine/Memory.lean ====
section
/-! DEFINITION. DRAM with its ECC, training, power-down and Siphon (R399 to R415), and Grotto (R416, R417). -/

namespace Sys2Proof.Machine

/-- 32-byte code words of data in a rank, and bytes of a raw rank (R399, R400, R414). -/
def rankWords : Nat := 88080384
def rawBytes : Nat := 3221225472

/-- 64-bit words of Grotto (R37). -/
def grottoWords : Nat := 33554432

/-- Where a data byte lies in its rank: bank and data row of its line, by R405, and the raw address of its row, banks one after
another (log 53). -/
def lineBank (u : Nat) : Nat := (u / 8 ^^^ u / 128) % 16
def rawRow (u : Nat) : Nat := lineBank u * 98304 + 8 * (u / 128 / 7) + u / 128 % 7

/-- The first data byte of a raw row; none for a row of check bytes (R400). -/
def rowData (row : Nat) : Option Nat :=
  let bank := row / 98304
  let r := row % 98304
  if r % 8 = 7 then none
  else
    let d := 7 * (r / 8) + r % 8
    some ((d * 128 + (bank ^^^ d % 16) * 8) * 256)

/-- Key of a data byte of a rank in the contents. -/
def dramKey (r b : Nat) : Nat := r * 4294967296 + b

def Engine.rank (e : Engine) (r : Nat) : Rank := vget e.dram.ranks r Rank.reset

def Engine.modDram (f : Dram → Dram) (e : Engine) : Engine := { e with dram := f e.dram }

def Engine.modRank (r : Nat) (f : Rank → Rank) (e : Engine) : Engine :=
  e.modDram fun d => { d with ranks := vmod d.ranks r f }

/-- Local source of a rank (R419). -/
def rankSrc (r : Nat) : Nat := 0x0300 + r

/-- DRAM.QOS_MODE, PD_EN, PD_US, SCRUB_EN and SIPHON_EN (Table 16.1). -/
def Cfg.qx2 (c : Cfg) : Bool := c.b 0x0004 0 31
def Cfg.pdEn (c : Cfg) : Bool := c.b 0x0004 0 30
def Cfg.pdUs (c : Cfg) : Nat := c.f 0x0004 0 29 22
def Cfg.scrubEn (c : Cfg) : Bool := c.b 0x0004 0 21
def Cfg.siphonEn (c : Cfg) : Bool := c.b 0x0004 0 20

namespace Cfg

/-- Region words (Table 16.2): enabled, layer, map, first unit and units. -/
def regEn (c : Cfg) (r : Nat) : Bool := c.b 4 (1 + r) 31
def regLayer (c : Cfg) (r : Nat) : Nat := c.f 4 (1 + r) 30 30
def regMap (c : Cfg) (r : Nat) : Nat := c.f 4 (1 + r) 29 28
def regBase (c : Cfg) (r : Nat) : Nat := c.f 4 (1 + r) 27 18
def regSize (c : Cfg) (r : Nat) : Nat := c.f 4 (1 + r) 17 8
def regMib (c : Cfg) (r : Nat) : Nat := c.regSize r * if c.regLayer r = 0 then 64 else 56

/-- Port words (Table 16.3): class GUARANTEED, RATE, BURST, RT and PANIC_LVL. -/
def mpGuaranteed (c : Cfg) (p : Nat) : Bool := c.b 4 (5 + p) 31
def mpRate (c : Cfg) (p : Nat) : Nat := c.f 4 (5 + p) 30 21
def mpBurst (c : Cfg) (p : Nat) : Nat := c.f 4 (5 + p) 20 9
def mpRt (c : Cfg) (p : Nat) : Bool := c.b 4 (5 + p) 8
def mpPanic (c : Cfg) (p : Nat) : Nat := c.f 4 (5 + p) 7 2

/-- The address maps of R405: layer, position and code word of the rank of a code word of a region; none outside the region. -/
def dramPlace (c : Cfg) (g w : Nat) : Option (Nat × Nat × Nat) :=
  let k := if c.regLayer g = 0 then 16 else 14
  let l := w / 8
  let lo := c.regBase g * 16384
  let per := c.regSize g * 16384
  if !c.regEn g || decide (per * k ≤ l) then none
  else
    let x := match c.regMap g with
      | 0 => (l % k, lo + l / k)
      | 1 => (l / 8 % k, lo + l / (8 * k) * 8 + l % 8)
      | _ => (l / per, lo + l % per)
    some (c.regLayer g, x.1, 8 * x.2 + w % 8)

end Cfg

/-- The lowest-numbered free spare (R414). -/
def Engine.freeSpare (e : Engine) : Option Nat := (List.range 32).find? fun r => (e.rank r).state = .spare

/-- A migration of a rank starts, or the rank is DEGRADED (R414, steps 2 and 3). -/
def Engine.siphonStart (r : Nat) (e : Engine) : Engine :=
  match e.cfg.siphonEn, e.freeSpare with
  | true, some t =>
    let e := e.modRank r fun q => { q with state := .source }
    let e := e.modRank t fun q => { q with state := .target, fails := 0 }
    (e.modDram fun d => { d with siphon := some ⟨r, t, 0, e.now, 0⟩ }).emit 0x0321 .siphonStart []
  | _, _ => (e.modRank r fun q => { q with state := .degraded }).emit 0x0321 .dramNoSpare []

/-- Siphon is triggered for a rank (R414, Table 16.5): a rank without a position has nothing to move (log 54). -/
def Engine.siphonTrigger (r : Nat) (e : Engine) : Engine :=
  match e.dram.siphon with
  | some m =>
    if r = m.source || e.dram.queue.contains r then e
    else if r = m.target then
      let e := e.modRank r fun q => { q with state := .retired, pos := 31, poisoned := [] }
      (e.modDram fun d => { d with
        siphon := none, retired := d.retired ++ [r]
        mem := d.mem.filter fun c => !(c.1 / 4294967296 = r) }).siphonStart m.source
    else if (e.rank r).pos = 31 then e
    else (e.modDram fun d => { d with queue := d.queue ++ [r] }).emit 0x0321 .siphonQueued []
  | none => if (e.rank r).pos = 31 then e else e.siphonStart r

/-- A code word of a rank is uncorrectable: it is poisoned, counted and logged with its address (R412, R413). -/
def Engine.dramBad (r word : Nat) (e : Engine) : Engine :=
  let e := e.modRank r fun q => { q with poisoned := if q.poisoned.contains word then q.poisoned else word :: q.poisoned }
  (e.bump .dramUe (rankSrc r)).emit (rankSrc r) .dramUe (evData [(4, 32 * word)])

/-- The ECC on a word read with some wrong symbols: one is corrected and written back, two and more are not (R400, R412). -/
def Engine.dramEcc (r word errs : Nat) (e : Engine) : Engine :=
  if errs = 0 then e
  else if errs = 1 then e.bump .dramCe (rankSrc r)
  else (e.dramBad r word).siphonTrigger r

/-- The head whose L1 a poisoned overlay read spoils: of two heads the first that fetches L1. Which of its lines the word belongs to, the
manual does not say (R318; logs 24, 44). -/
def Engine.overlayPoison (hs : List Nat) (e : Engine) : Engine :=
  match hs.find? fun h => (e.head h).cur.any (·.l1Fetch) with
  | some h =>
    let (d, e) := e.draw
    e.modHead h fun q => { q with l1Lost := (e.cfg.l1Y h + Config.unstated 318 d % max 1 (e.cfg.l1H h)) :: q.l1Lost }
  | none => e

/-- A page of the record buffer is poisoned: the oldest unwritten FRAME chunk of the drive holds it (R262; log 44). The picture counts
once, and copies of it carry the flag too. -/
def Engine.recordPoison (m : Nat) (e : Engine) : Engine :=
  let q (c : Chunk) : Bool := c.port = m && c.ty = 1 && !c.written && c.flags / 4 % 2 = 0
  match e.rec_.chunks.find? q with
  | none => e
  | some x =>
    let of (b : BufPic) : Bool := b.take = x.take && b.stream = x.stream && b.cfn = x.cfn
    let counted := e.rec_.buffer.any fun b => of b && b.poison
    let e := e.modRec fun r => { r with
      chunks := modFirst q (fun c => { c with flags := c.flags + 4 }) r.chunks
      buffer := r.buffer.map fun b => if of b then { b with poison := true } else b }
    if counted then e else e.bump .recPoison 0x0200

/-- Reference data of noise reduction is poisoned (R143): the next frame of the die's port is TNR_PARTIAL, and the 16 reference
photosites of the code word count. -/
def Engine.tnrPoison (die : Nat) (e : Engine) : Engine :=
  let p := if e.cfg.split then die else 0
  let e : Engine := { e with raw := { e.raw with ports := vmod e.raw.ports p fun q => { q with tnrPoison := true } } }
  e.bumpN .tnrPoison (0x0140 + p) 0 16

/-- What a reading port does with a poisoned read (Table 16.4); the decoders, the DEFLATE engines and the audio ports meet it
in their own commands. -/
def Engine.poisonRead (port : Nat) (e : Engine) : Engine :=
  let e := e.bump .dramPoisonRead (0x0324 + port)
  if port = 2 ∨ port = 3 then e.tnrPoison (port - 2)
  else if port = 9 then e.overlayPoison [0, 1]
  else if port = 10 then e.overlayPoison [2, 3]
  else if 13 ≤ port ∧ port ≤ 16 then e.recordPoison (port - 13)
  else if port = 17 then e.epPoison
  else if port = 19 then e.emit (0x0324 + port) .dramPoisonFw []
  else e

/-- A port's access, for RATE_NOW (R418), and the end of a rank's power-down (R411). -/
def Engine.dramAccess (port r bytes : Nat) (e : Engine) : Engine :=
  let e := e.modRank r fun q => { q with lastReq := e.now, state := if q.state = .powerdown then .active else q.state }
  e.modDram fun d => { d with
    traffic := (port, e.now, bytes) :: d.traffic.filter fun x => decide (e.now < x.2.1 + ms 100) }

/-- A rank that ports use: one that holds a position (R414). -/
def Engine.rankServes (e : Engine) (r : Nat) : Bool :=
  match (e.rank r).state with
  | .active | .powerdown | .source | .degraded => true
  | _ => false

/-- A read is issued (R412, R413): its code word goes back to the port. -/
def Engine.dramFetch (port r word errs : Nat) (e : Engine) : Engine :=
  let e := (e.dramAccess port r 32).dramEcc r word errs
  let poison := (e.rank r).poisoned.contains word
  let bytes := memBytes 0 e.dram.mem 32 (dramKey r (32 * word))
  let e := e.modDram fun d => { d with returned := vmod d.returned port fun _ =>
    (if poison then List.replicate 32 0 else bytes, poison) }
  if poison then e.poisonRead port else e

/-- Bytes written to a rank's contents; all 32 bytes of a code word end its poison (R413). -/
def Engine.rankWrite (r word : Nat) (data : List Byte) (e : Engine) : Engine :=
  let e := e.modDram fun d => { d with mem := memWrite 0 d.mem (dramKey r (32 * word)) data }
  if data.length = 32 then e.modRank r fun q => { q with poisoned := q.poisoned.filter (· ≠ word) } else e

/-- A write is issued (R413, R414), and mirrored to the target below the copy pointer. -/
def Engine.dramStore (port r word : Nat) (data : List Byte) (e : Engine) : Engine :=
  let e := (e.dramAccess port r data.length).rankWrite r word data
  match e.dram.siphon with
  | some m => if m.source = r && decide (2048 * rawRow (word / 8) < m.p) then e.rankWrite m.target word data else e
  | none => e

/-- The rank that holds a position (R399, R414). -/
def Engine.rankAt (e : Engine) (layer pos : Nat) : Option Nat :=
  (List.range 32).find? fun r => e.rankServes r && (e.rank r).layer = layer && (e.rank r).pos = pos

def DramReq.bytes (q : DramReq) : Nat :=
  match q.data with
  | some d => d.length
  | none => 32

/-- In QX2 mode an RT port raises PANIC while its request FIFO holds PANIC_LVL entries or more (R408). -/
def Engine.panic (e : Engine) (p : Nat) : Bool :=
  e.cfg.qx2 && e.cfg.mpRt p && decide (e.cfg.mpPanic p ≤ (e.dram.reqs.filter (·.port = p)).length)
def Engine.anyPanic (e : Engine) : Bool := (List.range 24).any e.panic

/-- A port's bucket at an instant (R407), in thousandths of a byte. -/
def Engine.tokens (e : Engine) (p t : Nat) : Int :=
  min (vget e.dram.tok p 0 + (256 * e.cfg.mpRate p * (t / ns 1 - e.dram.tokAt / ns 1) : Nat)) (1024000 * e.cfg.mpBurst p : Nat)

/-- The oldest unissued request of each port (R406), with its rank; Siphon's is not served while a port raises PANIC (R408). -/
def Engine.dramHeads (e : Engine) : List (DramReq × Nat) :=
  (List.range 24).filterMap fun p =>
    if p = 22 && e.anyPanic then none
    else (e.dram.reqs.find? (·.port = p)).bind fun q => (e.rankAt q.layer q.pos).map fun r => (q, r)

/-- The instant of the next choice and its channel (R407): the earliest of those at which a channel is free and a request for it has
been made; of several the lowest channel. -/
def Engine.dramNext (e : Engine) : Option (Nat × Nat) :=
  (e.dramHeads.map fun x => (max x.1.at_ (vget e.dram.busy (x.2 / 2) 0), x.2 / 2)).foldl (fun (m : Option (Nat × Nat)) x =>
    match m with
    | none => some x
    | some y => if x.1 < y.1 ∨ (x.1 = y.1 ∧ x.2 < y.2) then some x else m) none

/-- A request hits an open row. -/
def Engine.rowHit (e : Engine) (q : DramReq) (r : Nat) : Bool :=
  let u := q.word / 8
  e.dram.rows.contains (r, lineBank u, u / 128)

/-- The request that a channel takes at an instant (R407): of the top tier if it has any, open-row hits first, then the oldest in the
top tier and round robin otherwise. The second part says that it is of the top tier. -/
def Engine.dramPick (e : Engine) (ch t : Nat) : Option ((DramReq × Nat) × Bool) :=
  let cand := e.dramHeads.filter fun x => x.2 / 2 = ch && decide (x.1.at_ ≤ t)
  let isTop (x : DramReq × Nat) : Bool :=
    if e.cfg.qx2 then e.panic x.1.port
    else e.cfg.mpGuaranteed x.1.port && decide ((1000 * x.1.bytes : Nat) ≤ e.tokens x.1.port t)
  let top := cand.filter isTop
  let from_ := if top.isEmpty then cand else top
  let hits := from_.filter fun x => e.rowHit x.1 x.2
  let pool := if hits.isEmpty then from_ else hits
  let turn (x : DramReq × Nat) : Nat := (x.1.port + 23 - vget e.dram.turn ch 23) % 24
  let before (x y : DramReq × Nat) : Bool :=
    if top.isEmpty then decide (turn x < turn y) else decide (x.1.at_ < y.1.at_)
  (pool.foldl (fun (m : Option (DramReq × Nat)) x => match m with
    | none => some x
    | some y => if before x y then some x else m) none).map fun x => (x, !top.isEmpty)

/-- A GUARANTEED request that waited with its bucket at the cap has been refused its rate (R407; log 159). -/
def Engine.qosMiss (q : DramReq) (t : Nat) (e : Engine) : Engine :=
  let p := q.port
  if e.cfg.qx2 || !e.cfg.mpGuaranteed p || decide (t ≤ q.at_) || e.tokens p t ≠ (1024000 * e.cfg.mpBurst p : Nat) then e
  else
    let e := e.bump .dramQosMiss (0x0324 + p)
    if (vget e.dram.missAt p none).any fun m => decide (t < m + secs 1) then e
    else (e.modDram fun d => { d with missAt := vmod d.missAt p fun _ => some t }).emit (0x0324 + p) .dramQosMiss []

/-- A channel issues a request at an instant: its port pays, the channel is busy for a burst of 2 ns (R399), and the row is open. -/
def Engine.dramIssue (q : DramReq) (r t : Nat) (e : Engine) : Engine :=
  let e := e.qosMiss q t
  let toks : Vector Int 24 := Vector.ofFn fun (p : Fin 24) =>
    e.tokens p t - if p.val = q.port then ((1000 * q.bytes : Nat) : Int) else 0
  let u := q.word / 8
  let e := e.modDram fun d => { d with
    reqs := d.reqs.erase q, tok := toks, tokAt := t, busy := vmod d.busy (r / 2) fun _ => t + ns 2
    turn := vmod d.turn (r / 2) fun _ => q.port
    rows := (r, lineBank u, u / 128) :: d.rows.filter fun x => !(x.1 = r && x.2.1 = lineBank u) }
  match q.data with
  | some d => e.dramStore q.port r q.word d
  | none => e.dramFetch q.port r q.word q.errs

/-- The next choice of a channel, when its instant is not later than a limit. -/
def Engine.dramStep (limit : Option Nat) (e : Engine) : Option Engine :=
  match e.dramNext with
  | none => none
  | some (t, ch) =>
    if limit.any fun l => decide (l < t) then none
    else (e.dramPick ch t).map fun x => e.dramIssue x.1.1 x.1.2 t

/-- The choices made up to now. -/
def Engine.dramRun : (fuel : Nat) → Engine → Engine
  | 0, e => e
  | n + 1, e =>
    match e.dramStep (some e.now) with
    | some e => e.dramRun n
    | none => e

/-- A port makes a request (R406); its FIFO holds 64 (R403). -/
def Engine.dramRequest (q : DramReq) (e : Engine) : Engine :=
  if 64 ≤ (e.dram.reqs.filter (·.port = q.port)).length then e
  else
    let e := e.modDram fun d => { d with reqs := d.reqs ++ [q] }
    e.dramRun e.dram.reqs.length

/-- DRAM_READ (R405 to R407, R412, R413): a port asks for a code word of a region. -/
def execDramRead (t : Nat) (port : Fin 24) (region : Fin 4) (word errs : Nat) (s : State) : Out :=
  match s.eng.cfg.dramPlace region word with
  | some (layer, pos, w) => s.run t fun e => e.whenLive fun e => e.dramRequest ⟨port, layer, pos, w, none, errs, e.now⟩
  | none => if s.eng.live then .fault .dramAddress else s.run t id

/-- DRAM_WRITE (R405 to R407, R413, R414): a port writes a code word of a region. -/
def execDramWrite (t : Nat) (port : Fin 24) (region : Fin 4) (word : Nat) (data : List Byte) (s : State) : Out :=
  match s.eng.cfg.dramPlace region word with
  | some (layer, pos, w) =>
    s.run t fun e => e.whenLive fun e => e.dramRequest ⟨port, layer, pos, w, some (data.take 32), 0, e.now⟩
  | none => if s.eng.live then .fault .dramAddress else s.run t id

/-- What the DRAM does while no command comes: the next request that waits is issued. -/
def Engine.dramIdle (e : Engine) : Engine := if e.dram.reqs.isEmpty then e else (e.dramStep none).getD e

/-- DRAM_SCRUB (R412): the scrubber reads a code word of a rank in service, spares included. -/
def Engine.dramScrub (r word errs : Nat) (e : Engine) : Engine :=
  if !e.cfg.scrubEn || (e.rank r).state = .retired then e else e.dramEcc r word errs

def execDramScrub (t : Nat) (rank : Fin 32) (word errs : Nat) (s : State) : Out :=
  if rankWords ≤ word then .fault .dramAddress
  else s.run t fun e => e.whenLive (·.dramScrub rank word errs)

/-- DRAM_RECENTRE (R410): a rank in service is re-centred; two failures running trigger Siphon. -/
def Engine.dramRecentre (r : Nat) (edge : Bool) (eye : Nat) (e : Engine) : Engine :=
  let st := (e.rank r).state
  if st = .source || st = .retired then e
  else if edge && decide (24 ≤ eye) then e.modRank r fun q => { q with fails := 0 }
  else
    let n := (e.rank r).fails + 1
    let e := e.modRank r fun q => { q with fails := satNat 3 n }
    let e := (e.bump .dramTrainFail (rankSrc r)).emit (rankSrc r) .dramTrainFail []
    if n = 2 then e.siphonTrigger r else e

def execDramRecentre (t : Nat) (rank : Fin 32) (edgeFound : Bool) (eye : Nat) (s : State) : Out :=
  s.run t fun e => e.whenLive (·.dramRecentre rank edgeFound eye)

/-- DRAM_REFRESH (R411): a rank's temperature report sets its refresh rate. -/
def Engine.dramRefresh (r : Nat) (temp : Int) (e : Engine) : Engine :=
  let hot := decide (850 < temp)
  let was := (e.rank r).hot
  let e := e.modRank r fun q => { q with hot := hot }
  if hot && !was then (e.bump .dramHot (rankSrc r)).emit (rankSrc r) .dramHot [] else e

def execDramRefresh (t : Nat) (rank : Fin 32) (tempTenths : Int) (s : State) : Out :=
  s.run t fun e => e.whenLive (·.dramRefresh rank tempTenths)

/-- DRAM_POWER_DOWN (R411): a rank without a request for PD_US. -/
def Engine.dramPowerDown (r : Nat) (e : Engine) : Engine :=
  let q := e.rank r
  if !e.cfg.pdEn || q.state ≠ .active || decide (e.now < q.lastReq + us e.cfg.pdUs) then e
  else e.modRank r fun q => { q with state := .powerdown }

def execDramPowerDown (t : Nat) (rank : Fin 32) (s : State) : Out := s.run t fun e => e.whenLive (·.dramPowerDown rank)

/-- The contents of a raw row of the source copied to the target, poisoned words as such; how many are poisoned (R414). -/
def Engine.copyRow (m : Migration) (bad : List Nat) (e : Engine) : Engine × Nat :=
  match rowData (m.p / 2048) with
  | none => (e, 0)
  | some b =>
    let w := b / 32
    let newBad := ((List.range 64).filter bad.contains).map (w + ·)
    let e := newBad.foldl (fun e k => e.dramBad m.source k) e
    let poisoned := ((List.range 64).map (w + ·)).filter (e.rank m.source).poisoned.contains
    let bytes := memBytes 0 e.dram.mem 2048 (dramKey m.source b)
    let e := e.modDram fun d => { d with mem := memWrite 0 d.mem (dramKey m.target b) bytes }
    let e := e.modRank m.target fun q => { q with
      poisoned := poisoned ++ q.poisoned.filter fun k => !decide (w ≤ k ∧ k < w + 64) }
    (e, poisoned.length)

/-- The position moves to the target; the source is RETIRED, and the next queued rank starts (R414). SIPHON_DONE gives the nearest
millisecond, as the worked example of R415 does. -/
def Engine.siphonRemap (m : Migration) (e : Engine) : Engine :=
  let src := e.rank m.source
  let e := e.modRank m.target fun q => { q with state := .active, layer := src.layer, pos := src.pos }
  let e := e.modRank m.source fun q => { q with state := .retired, pos := 31, poisoned := [] }
  let e := e.modDram fun d => { d with
    siphon := none, retired := d.retired ++ [m.source]
    mem := d.mem.filter fun c => !(c.1 / 4294967296 = m.source) }
  let e := (e.bump .siphon 0x0321).emit 0x0321 .siphonDone (evData [(4, (e.now - m.started + ms 1 / 2) / ms 1), (4, m.poisoned)])
  match e.dram.queue with
  | r :: rest => (e.modDram fun d => { d with queue := rest }).siphonTrigger r
  | [] => e

/-- SIPHON_COPY_CHUNK (R35, R408, R414): the next 2 KiB are read and written through MPORT22, unless a port raises PANIC; at 3 GiB the
position moves. -/
def Engine.siphonChunk (bad : List Nat) (e : Engine) : Engine :=
  match e.dram.siphon with
  | none => e
  | some m =>
    if e.anyPanic then e
    else
    let e := (e.dramAccess 22 m.source 2048).dramAccess 22 m.target 2048
    let (e, n) := e.copyRow m bad
    let e := e.bumpN .siphonPoison 0x0321 0 n
    let m := { m with p := m.p + 2048, poisoned := m.poisoned + n }
    if rawBytes ≤ m.p then e.siphonRemap m else e.modDram fun d => { d with siphon := some m }

def execSiphonCopyChunk (t : Nat) (bad : List Nat) (s : State) : Out := s.run t fun e => e.whenPowered (·.siphonChunk bad)

/-- The physical rank of a position before start-up moves any (R399). -/
def homeRank (layer pos : Nat) : Nat := 2 * pos + layer

/-- Positions of the two layers, in ascending physical rank. -/
def positions : List (Nat × Nat) :=
  (List.range 16).flatMap fun j => if j < 14 then [(0, j), (1, j)] else [(0, j)]

/-- Training at start-up (R409): each position keeps its rank or takes a spare; none when the spares do not suffice. -/
def trainRanks (failed retired : List Nat) (eyes : List Nat) : Option (Vector Rank 32) :=
  let out (r : Nat) : Bool := failed.contains r || retired.contains r
  let moved := positions.filter fun x => out (homeRank x.1 x.2)
  let spares := [29, 31].filter fun r => !out r
  if spares.length < moved.length then none
  else
    let used := moved.zip spares
    some (Vector.ofFn fun (i : Fin 32) =>
      let r := i.val
      let base : Rank := { Rank.reset with eye := eyes.getD r 0, pos := 31, lastReq := 0 }
      match used.find? (·.2 = r) with
      | some u => { base with state := .active, layer := u.1.1, pos := u.1.2 }
      | none =>
        if out r then { base with state := .retired }
        else match positions.find? fun x => homeRank x.1 x.2 = r with
          | some x => { base with state := .active, layer := x.1, pos := x.2 }
          | none => { base with state := .spare })

/-- STS_DRAM (R418). -/
def Engine.stsDram (e : Engine) : List Word :=
  let d := e.dram
  let code : RankState → Nat
    | .active => 0 | .powerdown => 1 | .source => 2 | .spare => 3 | .target => 4 | .retired => 5 | .degraded => 6
  let sip := match d.siphon with
    | none => 0
    | some _ => if d.queue.isEmpty then 1 else 2
  let pct := match d.siphon with
    | none => 0
    | some m => m.p * 100 / rawBytes
  let free := (d.ranks.toList.filter (·.state = .spare)).length
  let rate (p : Nat) : Nat :=
    sumNat ((d.traffic.filter fun x => x.1 = p && decide (e.now < x.2.1 + ms 100)).map (·.2.2)) * 10 / 256000000
  [mkWord [(31, 30, sip), (29, 28, free), (27, 21, pct), (20, 20, bit e.cfg.qx2)]] ++
    (d.ranks.toList.map fun q =>
      mkWord [(31, 29, code q.state), (28, 28, q.layer), (27, 23, q.pos), (22, 15, q.eye), (14, 13, q.fails)]) ++
    (List.range 24).map fun p => mkWord [(31, 22, rate p), (21, 21, bit (e.panic p))]

/-- Grotto's partitions in the order of Table 2.6 (log 55): 0 frame stores, 1 defect table, 2 LUT store, 3 line and tile
buffers, 4 general; with the offset of a byte in its partition. -/
def grottoPart (b : Nat) : Nat × Nat :=
  if b < 167772160 then (0, b)
  else if b < 184549376 then (1, b - 167772160)
  else if b < 211812352 then (2, b - 184549376)
  else if b < 253755392 then (3, b - 211812352)
  else (4, b - 253755392)

/-- The die of a byte: partitions are interleaved across both at 4 KiB (R416). -/
def grottoDie (b : Nat) : Nat := b / 4096 % 2

/-- Samples of a frame store that an uncorrectable word holds are shown in the BG colour; stores lie one after another in head
order (Table 16.6; log 55). -/
def Engine.storeDamage (off : Nat) (e : Engine) : Engine :=
  let starts := (List.range 4).map fun h => (h, sumNat ((List.range h).map e.cfg.hdStore))
  match starts.find? fun x => decide (x.2 ≤ off ∧ off < x.2 + e.cfg.hdStore x.1) with
  | none => e
  | some (h, s) =>
    let o := (off - s) % e.cfg.hdPitch h
    let y := (off - s) / e.cfg.hdPitch h
    let x0 := if e.cfg.hd444 h then o / 4 else o / 5 * 2
    let x1 := if e.cfg.hd444 h then (o + 7) / 4 else (o + 7) / 5 * 2 + 1
    e.modHead h fun q => { q with damage := (y, x0, x1) :: q.damage }

/-- Entries of the defect table that a word holds are absent until firmware has reloaded the port's table from the active slot
as an ASAP swap; the tables of SP0 and SP1 lie one after the other (Table 16.6; log 55). -/
def Engine.defectDamage (off : Nat) (e : Engine) : Engine :=
  let k := off / 4
  let n0 := (vget e.raw.tables.words 0 []).length
  let p := if k < n0 then 0 else 1
  let i := if k < n0 then k else k - n0
  let gone (ws : List Word) : List Word := (ws.zipIdx.filter fun x => !decide (x.2 = i ∨ x.2 = i + 1)).map (·.1)
  if (vget e.raw.tables.words p []).length ≤ i then e
  else
    let tabs : CalTables := { e.raw.tables with words := vmod e.raw.tables.words p gone }
    let r : Reload :=
      { mask := 2 ^ p, target := none, cfn := none, loads := [], loadedAt := none, client := .uart, ty := 0x0207, seq := 0
        overrun := false, own := true, cal := false, fold := false }
    { e with raw := { e.raw with tables := tabs, reload := some (e.raw.reload.getD r) } }

/-- Bytes of one LUT in the store (Table 2.6). -/
def lutBytes : Nat := 1647750

/-- Components of a LUT that a word holds read as zero; a slot of the active image is loaded again ASAP (Table 16.6). -/
def Engine.lutDamage (off : Nat) (e : Engine) : Engine :=
  let b := off / lutBytes
  let i := off % lutBytes / 2
  match (List.range 16).find? fun k => (vget e.colour.slots k none).any (·.1 = b) with
  | none => e
  | some k =>
    let zero (l : LutData) : LutData :=
      { l with nodes := l.nodes.mapIdx fun j v => if i ≤ j ∧ j < i + 4 then 0 else v }
    let e : Engine := { e with colour := { e.colour with
      slots := vmod e.colour.slots k fun o => o.map fun x => (x.1, zero x.2) } }
    if e.colour.fromNs5.contains k then e
    else
      match e.placeLoads [⟨k, 0, []⟩] [] [] with
      | .ok (slots, own) =>
        let l : LutPend :=
          { slots := slots, target := none, cfn := none, recs := [], loadedAt := none, overrun := false, own := true
            client := .uart, seq := 0 }
        { e with colour := { e.colour with loads := e.colour.loads ++ [l], readsEmpty := e.colour.readsEmpty ++ own } }
      | .error _ => e

/-- A word of the general partition: the dynamic list entry that it holds is dropped. Where the entries lie, the manual does not say
(Table 16.6; logs 24, 55). -/
def Engine.generalDamage (e : Engine) : Engine :=
  let (d, e) := e.draw
  { e with raw := { e.raw with dyn := e.raw.dyn.eraseIdx (Config.unstated 417 d) } }

/-- A row that shows an uncorrectable word again goes to a spare row of its die (R417). The manual does not give a row's
size; the interleaved 4 KiB are taken for one (log 55). -/
def Engine.grottoRow (b : Nat) (e : Engine) : Engine :=
  let die := grottoDie b
  let row := (die, b / 8192)
  let put (l : List (Nat × Nat)) (e : Engine) : Engine := { e with grotto := { e.grotto with badRows := l } }
  if !e.grotto.badRows.contains row then put (row :: e.grotto.badRows) e
  else if vget e.grotto.spareRows die 0 < 64 then
    let e := put (e.grotto.badRows.filter (· ≠ row)) e
    let e : Engine := { e with grotto := { e.grotto with spareRows := vmod e.grotto.spareRows die (· + 1) } }
    e.emit (0x033E + die) .grottoRowRepair []
  else e.emit (0x033E + die) .grottoRepairFull []

/-- A Grotto word with some wrong bits (R417, Table 16.6); read by a unit when used. -/
def Engine.grottoWord (addr errs : Nat) (used : Bool) (e : Engine) : Engine :=
  let b := 8 * addr
  let die := grottoDie b
  if errs = 0 then e
  else if errs = 1 then e.bump .grottoCe (0x033E + die)
  else
    let (part, off) := grottoPart b
    let ns5 := part = 2 && e.colour.fromNs5.any fun k => (vget e.colour.slots k none).any (·.1 = off / lutBytes)
    let e := (e.bump .grottoUe (0x033E + die)).emit (0x033E + die) .grottoUe (evData [(4, part), (4, off), (4, bit ns5)])
    let e : Engine :=
      if used && decide (part ≠ 0) then
        { e with raw := { e.raw with ports := e.raw.ports.map fun (q : RawPort) => { q with grottoUe := true } } }
      else e
    let e := if part = 0 then e.storeDamage off else if part = 1 then e.defectDamage off
      else if part = 2 then e.lutDamage off else if part = 4 then e.generalDamage else e
    e.grottoRow b

def execGrottoRead (t : Nat) (addr errs : Nat) (s : State) : Out :=
  if grottoWords ≤ addr then .fault .grottoAddress
  else s.run t fun e => e.whenLive (·.grottoWord addr errs true)

def execGrottoScrub (t : Nat) (addr errs : Nat) (s : State) : Out :=
  if grottoWords ≤ addr then .fault .grottoAddress
  else s.run t fun e => e.whenLive (·.grottoWord addr errs false)

/-- STS_GROTTO (R418): frame-store bytes allocated and free, spare rows used. -/
def Engine.stsGrotto (e : Engine) : List Word :=
  [word e.cfg.hdStores, word (167772160 - e.cfg.hdStores),
    mkWord [(15, 8, vget e.grotto.spareRows 0 0), (7, 0, vget e.grotto.spareRows 1 0)]]

end Sys2Proof.Machine
end

