-- ==== Sys2Proof/Machine/Time.lean ====
section
/-! DEFINITION. The time base, network time and arrays (ch. 14): the PTP servos and their steering of the DTB (R363 to R367),
steps and sets of the DTB (R368 to R370), the followed servo (R371, R372), alignment to REFIN (R374), beacons (R379), and
STS_TIME (R382). Times of PTP messages are in ns since the PTP epoch, corrections in units of 2^-16 ns. -/

namespace Sys2Proof.Machine

namespace Cfg
/-- TIME words 0 to 5 (Tables 14.2, 14.3). -/
def ptpEn (c : Cfg) : Bool := c.b 0x0080 0 31
def slewUnits (c : Cfg) : Int := (c.f 0x0080 0 30 26 * 2 ^ 40 / 2000000 : Nat)
def stepAuto (c : Cfg) : Bool := c.b 0x0080 0 25
def prefServo (c : Cfg) : Nat := c.f 0x0080 0 24 24
def timeRevert (c : Cfg) : Bool := c.b 0x0080 0 23
def timeRevertS (c : Cfg) : Nat := c.f 0x0080 0 22 15
def syncTo (c : Cfg) : Nat := c.f 0x0080 0 14 12
def alignRefin (c : Cfg) : Bool := c.b 0x0080 1 27
def servoEn (c : Cfg) (k : Nat) : Bool := c.ptpEn && c.b 0x0080 (2 + k) 31
def servoPort (c : Cfg) (k port : Nat) : Bool := (c.f 0x0080 (2 + k) 23 21).testBit port
def ptpDomain (c : Cfg) (k : Nat) : Nat := c.f 0x0080 (2 + k) 30 24
def unicastDreq (c : Cfg) (k : Nat) : Bool := c.b 0x0080 (2 + k) 19
def annTo (c : Cfg) (k : Nat) : Nat := c.f 0x0080 (2 + k) 18 16
/-- The asymmetry of a port, ticks: 0 NET0, 1 NET1, 2 management Ethernet (R364). -/
def asym (c : Cfg) (port : Nat) : Int :=
  65536 * signedOf 16 (match port with
    | 0 => c.f 0x0080 4 31 16
    | 1 => c.f 0x0080 4 15 0
    | _ => c.f 0x0080 5 31 16)
end Cfg

def servoSrc (k : Nat) : Nat := 0x02E1 + k

def Engine.modTime (f : TimeBase → TimeBase) (e : Engine) : Engine := { e with time := f e.time }
def Engine.modServo (k : Nat) (f : Servo → Servo) (e : Engine) : Engine :=
  { e with time := { e.time with servos := vmod e.time.servos k f } }

/-- Servos of a start: LISTENING where enabled, f = 0 (R514). -/
def Engine.servosStart (e : Engine) : Engine :=
  let one (k : Nat) : Servo := { Servo.reset with state := if e.cfg.servoEn k then .listening else .off }
  e.modTime fun b => { b with servos := Vector.ofFn fun (i : Fin 2) => one i, follow := 0, chosen := false, slewing := false, adj := 0 }

/-- The UTC offset that the followed grandmaster announces (R358). -/
def Engine.takeUtc (e : Engine) : Engine :=
  match e.followed with
  | none => e
  | some k =>
    match (e.servo k).foreign.find? fun x => some x.2.master = (e.servo k).master && x.2.utcValid with
    | some x => e.modTime fun b => { b with utc := x.2.utcOffset }
    | none => e

/-- A switch to another servo (R372): no step; its own f takes over from its next exchange. -/
def Engine.servoSwitch (k : Nat) (e : Engine) : Engine :=
  match e.followed with
  | none => (e.modTime fun b => { b with follow := k + 1, slewing := false }).takeUtc
  | some o =>
    if o = k then e
    else
      let e := e.modTime fun b => { b with follow := k + 1, slewing := false, chosen := false }
      let e := (e.bump .timeSwitch 0x02E0).emit 0x02E0 .timeSwitch
        (leInt 4 (sat32ns (e.servo o).offset) ++ leInt 4 (sat32ns (e.servo k).offset))
      e.takeUtc

/-- The preferred servo has been TRACKING or LOCKED for REVERT_S (R371 rule 3). -/
def Engine.prefHeld (e : Engine) : Bool :=
  e.cfg.timeRevert && match (e.servo e.cfg.prefServo).goodSince with
    | some t => decide (t + secs e.cfg.timeRevertS ≤ e.now)
    | none => false

/-- Rules 2 to 4 of R371. -/
def Engine.refollow (e : Engine) : Engine :=
  match e.followed with
  | none =>
    if (e.servo e.cfg.prefServo).good then e.servoSwitch e.cfg.prefServo
    else if (e.servo (1 - e.cfg.prefServo)).good then e.servoSwitch (1 - e.cfg.prefServo)
    else e
  | some k =>
    let e := if (e.servo k).good then e else e.modTime fun b => { b with chosen := false }
    if !(e.servo k).good && (e.servo (1 - k)).good then e.servoSwitch (1 - k)
    else if k ≠ e.cfg.prefServo && !e.time.chosen && e.prefHeld then e.servoSwitch e.cfg.prefServo
    else e

/-- What follows a change of a servo's state (R371, R389): the followed servo, and the PTP source. -/
def Engine.servoMoved (e : Engine) : Engine := e.refollow.clkPtp

/-- A servo leaves TRACKING and LOCKED (R365): adj of the followed one is then f (R366). -/
def Engine.servoHoldover (k : Nat) (e : Engine) : Engine :=
  let was := (e.servo k).good
  let e := e.modServo k fun s => { s with run := 0, goodSince := none, state := if was then .holdover else s.state }
  if !was then e
  else
    let mine := decide (e.followed = some k)
    let e := if mine then e.modTime fun b => { b with adj := (e.servo k).f, slewing := false } else e
    let e := e.servoMoved
    if mine && decide (e.followed = some k) then e.emit 0x02E0 .timeHoldover [] else e

/-- The order of the dataset comparison of IEEE 1588 between masters heard (Table 14.4). -/
def announceKey (a : Announce) : List Nat :=
  [a.priority1, a.clockClass, a.accuracy, a.variance, a.priority2, a.gm, a.steps, a.master]

def keyLess : List Nat → List Nat → Bool
  | a :: r, b :: s => decide (a < b) || (a = b && keyLess r s)
  | _, _ => false

/-- The time window of an Announce's foreign master: 4 Announce intervals. -/
def announceWindow (a : Announce) : Nat :=
  if 0 ≤ a.logInterval then secs (4 * 2 ^ (min a.logInterval.toNat 16)) else secs 4 / 2 ^ (min (-a.logInterval).toNat 16)

/-- Masters qualified by two Announce messages within the window. -/
def Servo.qualified (s : Servo) : List Announce :=
  (s.foreign.filter fun x => 2 ≤ (s.foreign.filter fun y => y.2.master = x.2.master).length).map (·.2)

def Servo.best (s : Servo) : Option Announce :=
  s.qualified.foldl (fun a x => match a with
    | none => some x
    | some y => if keyLess (announceKey x) (announceKey y) then some x else some y) none

/-- A new grandmaster, or a new master (R365). -/
def Engine.takeMaster (k : Nat) (e : Engine) : Engine :=
  match (e.servo k).best with
  | none => e
  | some b =>
    let s := e.servo k
    let e := if s.master = some b.master then e
      else e.modServo k fun s => { s with master := some b.master, run := 0, sync := none, req := none }
    let e := e.modServo k fun s => { s with lastAnn := some e.now }
    if s.gm = b.gm then e
    else if s.gm = 0 then e.modServo k fun s => { s with gm := b.gm }
    else
      let e := e.modServo k fun s => { s with gm := b.gm, state := .listening, run := 0, goodSince := none, stalled := false }
      ((e.bump .ptpGmChange (servoSrc k)).emit (servoSrc k) .ptpGmChange []).servoMoved

/-- A servo hears and sends nothing on a port: it is not enabled, the port is none of its PORTS, or the port carries no traffic
(Table 14.3, Table 1.5). -/
def Engine.ptpDeaf (e : Engine) (k port : Nat) : Bool :=
  decide ((e.servo k).state = .off) || !e.cfg.servoPort k port || e.netHeld port

/-- PTP_ANNOUNCE (R363, R365). -/
def Engine.ptpAnnounce (k port : Nat) (a : Announce) (e : Engine) : Engine :=
  if e.ptpDeaf k port then e
  else
    let e := e.modServo k fun s => { s with
      foreign := (e.now, a) :: s.foreign.filter fun x => decide (e.now < x.1 + announceWindow x.2) }
    (e.takeMaster k).takeUtc

def execPtpAnnounce (t : Nat) (sv : PtpAt) (ann : Announce) (s : State) : Out :=
  s.run t fun e => e.whenLive (·.ptpAnnounce sv.servo sv.port ann)

/-- PTP_SYNC (R364, R365), stamped on receipt at a port. -/
def Engine.ptpSync (k port master seq : Nat) (twoStep : Bool) (origin : Nat) (corr : Int) (e : Engine) : Engine :=
  let s := e.servo k
  if e.ptpDeaf k port || s.master ≠ some master then e
  else
    let asym := e.cfg.asym port
    e.modServo k fun s => { s with sync := some ⟨master, seq, e.dtb, (if twoStep then 0 else (origin : Int) * 65536) + corr + asym, asym, !twoStep⟩ }

def execPtpSync (t : Nat) (sv : Fin 2) (port : Fin 3) (master seq : Nat) (twoStep : Bool) (origin : Nat) (corr : Int) (s : State) :
    Out :=
  s.run t fun e => e.whenLive (·.ptpSync sv port master seq twoStep origin corr)

/-- PTP_FOLLOW_UP (R365): the origin time of a two-step Sync, whose own origin time is not used. -/
def Engine.ptpFollowUp (k port master seq origin : Nat) (corr : Int) (e : Engine) : Engine :=
  match (e.servo k).sync with
  | none => e
  | some y =>
    if e.ptpDeaf k port || y.complete || y.master ≠ master || y.seq ≠ seq then e
    else e.modServo k fun s => { s with
      sync := some { y with origin := y.origin + origin * 65536 + corr, complete := true } }

def execPtpFollowUp (t : Nat) (sv : PtpAt) (master seq origin : Nat) (corr : Int) (s : State) : Out :=
  s.run t fun e => e.whenLive (·.ptpFollowUp sv.servo sv.port master seq origin corr)

/-- PTP_DELAY_REQ_SEND (R363, R364): the request leaves on a port, at most 16 a second. -/
def Engine.ptpDelayReqSend (k port seq : Nat) (e : Engine) : Engine :=
  if e.ptpDeaf k port || (e.servo k).master.isNone || (e.servo k).lastReq.any fun t => decide (e.now < t + secs 1 / 16) then e
  else (e.modServo k fun s => { s with
      lastReq := some e.now, req := some (seq, e.dtb), reqBytes := delayReqBytes k (e.cfg.ptpDomain k) seq (e.cfg.unicastDreq k) }).modTime
    fun b => { b with delayReqs := b.delayReqs + 1 }

def execPtpDelayReqSend (t : Nat) (sv : PtpAt) (seq : Nat) (s : State) : Out :=
  s.run t fun e => e.whenLive (·.ptpDelayReqSend sv.servo sv.port seq)

/-- The test of an offset against the last 8 accepted ones (R365): every term is doubled, and m is taken from the median. The
first 8 offsets are accepted without it (Table 22.4). -/
def outlier (hist : List Int) (o : Int) : Bool :=
  if hist.length < 8 then false
  else
    let l := hist.take 8
    let s := sortAsc (fun a b => decide (a < b)) l
    let med2 := s.getD 3 0 + s.getD 4 0
    let dev := l.foldl (fun n x => n + (2 * x - med2).natAbs) 0
    decide (dev + 4 * us 1 < 2 * (2 * o - med2).natAbs)

/-- The least-squares slope of offsets over their instants, in units of 2^-40. -/
def slope40 (l : List (Nat × Int)) : Int :=
  let n : Int := l.length
  let t0 : Int := (l.headD (0, 0)).1
  let xs := l.map fun x => ((x.1 : Int) - t0, x.2)
  let sx := xs.foldl (fun a x => a + x.1) 0
  let sy := xs.foldl (fun a x => a + x.2) 0
  let sxy := xs.foldl (fun a x => a + x.1 * x.2) 0
  let sxx := xs.foldl (fun a x => a + x.1 * x.1) 0
  let d := n * sxx - sx * sx
  if d = 0 then 0 else (n * sxy - sx * sy) * 2 ^ 40 / d

/-- adj of the followed servo at an accepted exchange, dt after the one before (R366). -/
def Engine.steer (k : Nat) (o : Int) (dt : Nat) (e : Engine) : Engine :=
  let slew := e.cfg.slewUnits
  let raw := -o * 2097152 / 1000000000
  let p := clampInt (-slew) slew raw
  let lim : Int := 2 ^ 40 / 5000
  let f := (e.servo k).f
  let f := if p = raw then clampInt (-lim) lim (f - o * dt / 4000000000000000000) else f
  let pull : Int := e.cfg.clkPull * dt * 2 ^ 40 / (1000000 * 65536000000000)
  let moved := if e.clk.selected = some .ptp && e.clk.root = .locked then clampInt (-pull) pull f else 0
  let e := e.modClk fun c => { c with offset := c.offset + moved * 1000000000 / 2 ^ 40 }
  (e.modServo k fun s => { s with f := f - moved, stalled := false }).modTime fun b =>
    { b with adj := f - moved + p, slewing := p ≠ raw }

/-- An unfollowed servo keeps f at adj minus the slope of its offsets over its last 16 s (R366, Table 22.4). -/
def Engine.trackFree (k : Nat) (e : Engine) : Engine :=
  let l := (e.servo k).hist.filter fun x => decide (e.now ≤ x.1 + secs 16)
  e.modServo k fun s => { s with f := e.time.adj - (if l.length < 2 then 0 else slope40 l), stalled := false }

/-- The state of a servo after an accepted exchange (R365). -/
def Servo.after (s : Servo) : ServoState :=
  let near := decide (16 ≤ s.hist.length) && (s.hist.take 16).all fun x => decide (x.2.natAbs ≤ us 1)
  match s.state with
  | .off => .off
  | .tracking | .locked => if near then .locked else .tracking
  | .listening | .holdover => if 8 ≤ s.run then (if near then .locked else .tracking) else s.state

/-- The followed servo's first entry to TRACKING inside the start-up window steps the DTB, or uses up the step (R368). -/
def Engine.autoStep (o : Int) (e : Engine) : Engine :=
  let b := e.time
  if !(b.window && e.cfg.stepAuto) || b.valid || b.stepped || b.stepDue.isSome then e
  else if o.natAbs < us 1 then e.modTime fun b => { b with stepped := true }
  else e.modTime fun b => { b with stepDue := some (-o), stepUses := true }

/-- An accepted exchange (R365, R366, R371). -/
def Engine.exchange (k : Nat) (o mean : Int) (e : Engine) : Engine :=
  let s := e.servo k
  let dt := match s.lastExch with
    | some t => e.now - t
    | none => 0
  let all := (e.now, o) :: s.hist
  let kept := all.take (max 16 (all.filter fun x => decide (e.now ≤ x.1 + secs 16)).length)
  let s1 := { s with offset := o, path := mean, hist := kept, run := s.run + 1, lastExch := some e.now, count := s.count + 1 }
  let st : ServoState := s1.after
  let s2 := { s1 with state := st, goodSince := if s.good then s.goodSince else if st = s.state then none else some e.now }
  let e := (e.modServo k fun _ => s2).refollow
  let mine := decide (e.followed = some k)
  let e := if mine && s2.good then e.steer k o dt else if mine then e else e.trackFree k
  let e := if mine && decide (st = .locked) && decide (s.state ≠ .locked) then e.emit 0x02E0 .timeLock [] else e
  let e := if mine && s2.good && !s.good then e.autoStep o else e
  e.clkPtp

/-- PTP_DELAY_RESP (R364 to R366): offset and mean path delay of IEEE 1588 from the newest Sync and this response. -/
def Engine.ptpDelayResp (k port master seq rx : Nat) (corr : Int) (e : Engine) : Engine :=
  let s := e.servo k
  match s.sync, s.req with
  | some y, some (q, tx) =>
    if e.ptpDeaf k port || !y.complete || y.master ≠ master || s.master ≠ some master || q ≠ seq then e
    else
      let e := e.modServo k fun s => { s with req := none }
      let there := y.rx - y.origin
      let mean := (there + y.asym + ((rx : Int) * 65536 - corr - tx)) / 2
      let o := there - mean
      if outlier (s.hist.map (·.2)) o then
        (e.modServo k fun s => { s with run := 0 }).bump .ptpOutlier (servoSrc k)
      else e.exchange k o mean
  | _, _ => e

def execPtpDelayResp (t : Nat) (sv : PtpAt) (master seq rx : Nat) (corr : Int) (s : State) : Out :=
  s.run t fun e => e.whenLive (·.ptpDelayResp sv.servo sv.port master seq rx corr)

/-- The Announce timeout has expired: ANN_TO of the master's Announce intervals since its last (Table 14.3). -/
def Engine.annExpired (e : Engine) (k : Nat) : Bool :=
  let s := e.servo k
  match s.lastAnn, s.foreign.find? fun x => some x.2.master = s.master with
  | some t, some x => decide (t + e.cfg.annTo k * (announceWindow x.2 / 4) ≤ e.now)
  | _, _ => s.master.isSome

/-- PTP_TIMEOUT (R365): no accepted exchange for SYNC_TO, or the Announce timeout. -/
def Engine.ptpTimeout (k : Nat) (announce : Bool) (e : Engine) : Engine :=
  let s := e.servo k
  let due := if announce then e.annExpired k else match s.lastExch with
    | some t => decide (t + secs e.cfg.syncTo ≤ e.now)
    | none => false
  if s.state = .off || !due then e
  else
    let e := (e.bump .ptpTimeout (servoSrc k)).emit (servoSrc k) .ptpTimeout []
    let e := if announce then e.modServo k fun s => { s with
        master := none, sync := none, req := none, foreign := s.foreign.filter fun x => some x.2.master ≠ s.master }
      else e.modServo k fun s => { s with lastExch := none }
    e.servoHoldover k

def execPtpTimeout (t : Nat) (sv : Fin 2) (announce : Bool) (s : State) : Out :=
  s.run t fun e => e.whenLive (·.ptpTimeout sv announce)

/-- SERVO_UPDATE_DEADLINE (R367): the last adj is kept and the servo shown in HOLDOVER. -/
def Engine.servoUpdateDeadline (e : Engine) : Engine :=
  match e.followed with
  | none => e
  | some k =>
    if !(e.servo k).good || (e.servo k).stalled then e
    else (e.fwOverrun (servoSrc k) 8 2 (e.servo k).count k).modServo k fun s => { s with stalled := true }

def execServoUpdateDeadline (t : Nat) (s : State) : Out := s.run t fun e => e.whenLive (·.servoUpdateDeadline)

/-- TIME_REVERT (R371 rule 3). -/
def execTimeRevert (t : Nat) (s : State) : Out := s.run t fun e => e.whenLive (·.servoMoved)

/-- DOMAIN_SELECT (R371 rule 1). -/
def Engine.domainSelect (h : MsgHdr) (domain : Nat) (e : Engine) : Engine :=
  if 2 ≤ domain then e.refuse h 0x0802 .malformed .none
  else if !e.cfg.servoEn domain then e.refuse h 0x0802 .refused .notConfigured
  else if !(e.servo domain).good then e.refuse h 0x0802 .refused .checkFailed
  else ((e.ok h 0x0802).servoSwitch domain).modTime (fun b => { b with chosen := true }) |>.clkPtp

def execDomainSelect (t : Nat) (h : MsgHdr) (domain : Nat) (s : State) : Out :=
  s.run t fun e => e.request h 0x0802 (·.domainSelect h domain)

/-- TIME_SET (R369): the step it asks for waits for the next 1 ms tick (R370). -/
def Engine.timeSet (h : MsgHdr) (sec ns frac : Nat) (e : Engine) : Engine :=
  if 1000000000 ≤ ns || 65536 ≤ frac || 2 ^ 64 ≤ sec then e.refuse h 0x0801 .malformed .none
  else if !e.time.window || e.time.valid || e.time.stepDue.isSome then e.refuse h 0x0801 .refused .checkFailed
  else
    let v : Int := (secs sec + Machine.ns ns + frac : Nat)
    (e.modTime fun b => { b with stepDue := some (v - e.dtb), stepUses := true }).ok h 0x0801

def execTimeSet (t : Nat) (h : MsgHdr) (sec ns frac : Nat) (s : State) : Out :=
  s.run t fun e => e.request h 0x0801 (·.timeSet h sec ns frac)

/-- The current project frame is lengthened up to a boundary that lies at a given instant (R112, R370, R374). -/
def Engine.lengthenTo (at_ : Int) (e : Engine) : Engine :=
  let p := e.proj
  { e with proj := { p with
      lengthened := true, stretch := at_ - (p.start + (e.cfg.boundary (p.pfi + 1) - e.cfg.boundary p.pfi)) } }

/-- The first project boundary of the DTB at or after an instant, on the engine's counter (R373). -/
def Engine.boundaryFrom (e : Engine) (at_ : Int) : Int :=
  let d := at_ - e.time.origin
  let k := e.cfg.nearestIndex d
  let k := if e.cfg.boundary (k - 1) < d then k else k - 1
  let k := if e.cfg.boundary k < d then k + 1 else k
  e.time.origin + e.cfg.boundary k

/-- DTB_STEP_APPLY (R368 to R370): the step takes effect at a 1 ms tick. Heads complete their current frames and go on at their
next boundaries, with their stores. -/
def Engine.dtbStepApply (e : Engine) : Engine :=
  match e.time.stepDue with
  | none => e
  | some d =>
    let old := e.dtb
    let e := e.modTime fun b => { b with
      origin := b.origin - d, valid := true, stepped := b.stepped || b.stepUses, stepDue := none, stepUses := false
      servos := b.servos.map fun (s : Servo) => { s with
        hist := s.hist.map fun x => (x.1, x.2 + d)
        sync := s.sync.map fun y => { y with rx := y.rx + d }
        req := s.req.map fun q => (q.1, q.2 + d) } }
    let e : Engine := { e with log := { e.log with steps := e.log.steps + 1 } }
    let e := (e.bump .timeStep 0x02E0).emit 0x02E0 .timeStep
      (evData [(8, dtbSec old), (4, dtbNs old), (8, dtbSec e.dtb), (4, dtbNs e.dtb)])
    let e := if e.proj.started && !e.time.alignNow then e.lengthenTo (e.boundaryFrom (e.now + (e.cfg.projTicks / 2 : Nat))) else e
    e.audRealign

def execDtbStepApply (t : Nat) (s : State) : Out := s.run t fun e => e.whenLive (·.dtbStepApply)

/-- The whole number q by which the REFIN rate is the project rate, when it fits (R374). -/
def Cfg.refinFits (c : Cfg) (rate : Nat) : Bool :=
  match rateOf rate with
  | none => false
  | some (n, d) =>
    let (pn, pd) := c.projRate
    (n * pd) % (pn * d) = 0

/-- This REFIN frame start is the one nearest a DTB boundary (R374). -/
def Engine.refinNearest (e : Engine) (rate : Nat) : Bool :=
  let (n, d) := rateD rate
  let x := e.dtb + us e.cfg.projOffset
  let k := e.cfg.nearestIndex x
  decide (2 * (x - e.cfg.boundary k).natAbs * n ≤ d * 65536000000000)

/-- The project boundaries differ from those of REFIN by more than 100 ns. -/
def Engine.refinDiffers (e : Engine) : Bool :=
  let per : Int := e.cfg.projTicks
  let x := ((e.now : Int) + us e.cfg.projOffset - e.proj.start) % per
  decide ((ns 100 : Int) < min x (per - x))

/-- REFIN_FRAME_START (R374, R375). -/
def Engine.refinFrameStart (rate : Nat) (e : Engine) : Engine :=
  if (vget e.outs.sdiIn 0 ⟨0, 0, false⟩).state ≠ 1 then e
  else
    let e := e.modTime fun b => { b with refin := some (e.now, rate) }
    if !e.cfg.alignRefin then e
    else if !e.cfg.refinFits rate then e.alignLost.modTime fun b => { b with refin := some (e.now, rate) }
    else if e.time.alignNow || !e.refinNearest rate then e
    else
      let e := e.modTime fun b => { b with alignNow := true, alignFault := false }
      if !(e.proj.started && e.refinDiffers) then e
      else
        let per : Int := e.cfg.projTicks
        let first : Int := (e.now : Int) + us e.cfg.projOffset
        let at_ := first + (-((first - (e.now + per / 2)).fdiv per)) * per
        ((e.bump .projRealign 0x02E8).emit 0x02E8 .projRealign []).lengthenTo at_

def execRefinFrameStart (t : Nat) (rate : Nat) (s : State) : Out := s.run t fun e => e.whenLive (·.refinFrameStart rate)

namespace Cfg
/-- ARRAY words (Table 14.5). -/
def arrayEn (c : Cfg) : Bool := c.b 0x0081 0 31
def sharedClip (c : Cfg) : Bool := c.arrayEn && c.b 0x0081 0 18
def beaconEn (c : Cfg) : Bool := c.arrayEn && c.b 0x0081 0 17
def arrayId (c : Cfg) : Nat := (c.w 0x0081 1).toNat
def sharedCrc (c : Cfg) : Nat := (c.w 0x0081 2).toNat
end Cfg

/-- MODE codes, in the order of Table 1.3. -/
def Mode.code : Mode → Nat
  | .standby => 0 | .preview => 1 | .record => 2 | .review => 3 | .offload => 4 | .service => 5

/-- Grandmaster of the followed servo, 0 when none (Table 14.6). -/
def Engine.followGm (e : Engine) : Nat :=
  match e.followed with
  | some k => (e.servo k).gm
  | none => 0
def Engine.followState (e : Engine) : ServoState :=
  match e.followed with
  | some k => (e.servo k).shown
  | none => .off

/-- The beacon (Table 14.6). -/
def Engine.beacon (e : Engine) : List Byte :=
  let b := le 4 0x42415851 ++ le 2 1 ++ le 2 e.deviceId ++ le 4 e.cfg.arrayId ++ le 4 e.cfg.sharedCrc ++ le 1 e.sys.mode.code ++
    le 1 (e.time.follow + 4 * e.followState.code) ++ le 2 0 ++ le 8 e.followGm ++ le 8 e.proj.pfi ++ le 8 (dtbSec e.dtb) ++
    le 4 (dtbNs e.dtb) ++ padTo 12 []
  b ++ le 4 (crc32c b)

/-- BEACON_SEND (R379): on management Ethernet to BEACON_GROUP and BEACON_PORT. -/
def Engine.beaconSend (e : Engine) : Engine :=
  if !e.cfg.beaconEn then e
  else e.modTime fun b => { b with beacons := ((e.cw 0x0081 3).toNat, e.cf 0x0081 4 31 16, e.beacon) :: b.beacons }

def execBeaconSend (t : Nat) (s : State) : Out := s.run t fun e => e.whenLive (·.beaconSend)

/-- Bytes of a structure as a number. -/
def field (bs : List Byte) (a n : Nat) : Nat := unle ((bs.drop a).take n)

/-- A peer entry replaced or added. -/
def putPeer (l : List Peer) (x : Peer) : List Peer :=
  match l with
  | [] => [x]
  | y :: r => if y.dev = x.dev then x :: r else y :: putPeer r x

/-- BEACON_RECEIVE (R379). -/
def Engine.beaconReceive (bs : List Byte) (e : Engine) : Engine :=
  if !e.cfg.beaconEn || bs.length ≠ 64 || field bs 0 4 ≠ 0x42415851 || field bs 8 4 ≠ e.cfg.arrayId ||
      crc32c (bs.take 60) ≠ field bs 60 4 then e
  else
    let dev := field bs 6 2 % 4096
    let ts := field bs 17 1
    let locked := decide (ts % 4 ≠ 0) && decide (ts / 4 % 8 = 3) && decide (e.followState = .locked)
    let dup := decide (dev = e.deviceId)
    let bad := decide (field bs 12 4 ≠ e.cfg.sharedCrc) || (locked && decide (field bs 20 8 ≠ e.followGm))
    let was := (e.time.peers.find? (·.dev = dev)).getD ⟨dev, 0, false, false⟩
    let e := if dup then e.bump .arrayDupId 0x02F0 else e
    let e := if dup && !was.dup then e.emit 0x02F0 .arrayDupId [] else e
    let e := if bad then e.bump .arrayMismatch 0x02F0 else e
    let e := if bad && !was.mismatch then e.emit 0x02F0 .arrayMismatch [] else e
    e.modTime fun b => { b with peers := putPeer b.peers ⟨dev, e.now, dup, bad⟩ }

def execBeaconReceive (t : Nat) (bytes : List Byte) (s : State) : Out := s.run t fun e => e.whenLive (·.beaconReceive bytes)

/-- BEACON_PEER_TIMEOUT (R379): not heard for 5 s. -/
def Engine.peerTimeout (dev : Nat) (e : Engine) : Engine :=
  e.modTime fun b => { b with peers := b.peers.filter fun x => !(x.dev = dev && decide (x.lastHeard + secs 5 ≤ e.now)) }

def execBeaconPeerTimeout (t : Nat) (dev : Nat) (s : State) : Out := s.run t fun e => e.whenLive (·.peerTimeout dev)

/-- ARRAY_OK (Table 14.7). -/
def Engine.arrayOk (e : Engine) : Bool := e.cfg.arrayEn && !e.time.peers.any fun x => x.dup || x.mismatch

/-- STS_TIME (R382). -/
def Engine.stsTime (e : Engine) : List Word :=
  let b := e.time
  let a := e.servo 0
  let c := e.servo 1
  [mkWord [(31, 30, b.follow), (29, 27, a.shown.code), (26, 24, c.shown.code), (23, 23, bit b.valid), (22, 22, bit b.stepped)
      , (21, 21, bit b.slewing), (20, 20, bit b.window), (19, 19, bit b.alignNow), (18, 18, bit b.alignFault)
      , (17, 17, bit e.arrayOk), (16, 5, satNat 4095 b.peers.length)],
    BitVec.ofInt 32 (sat32ns a.offset), BitVec.ofInt 32 (sat32ns a.path), BitVec.ofInt 32 (sat32ns c.offset)
    , BitVec.ofInt 32 (sat32ns c.path), BitVec.ofInt 32 e.adjPpb, word a.gm, word (a.gm / 4294967296), word c.gm
    , word (c.gm / 4294967296), BitVec.ofInt 32 b.utc]

end Sys2Proof.Machine
end

