-- ==== Sys2Proof/Machine/Limits.lean ====
section
/-! DEFINITION. The rules an image is rejected by (R7, R28 and the rules of each section's chapter): for a section ID of a
configuration, the number of each rule and whether it is kept. -/

namespace Sys2Proof.Machine

namespace Cfg

/-- A number lies in a range. -/
def within (lo hi v : Nat) : Bool := decide (lo ≤ v ∧ v ≤ hi)

/-- A section has n words. -/
def hasWords (c : Cfg) (id n : Nat) : Bool := decide ((c.ws id).length = n)

/-- Reserved fields of a section read 0 (R7): word, high bit, low bit. -/
def clear (c : Cfg) (id : Nat) (fs : List (Nat × Nat × Nat)) : Bool := fs.all fun x => c.f id x.1 x.2.1 x.2.2 = 0

/-- The capture frame rate N times the project rate, as a fraction (R87). -/
def capRate (c : Cfg) : Nat × Nat := (c.projRate.1 * c.phases, c.projRate.2)

/-- x per frame at the capture frame rate stays within a limit per second. -/
def perSec (c : Cfg) (x limit : Nat) : Bool := decide (x * c.capRate.1 ≤ limit * c.capRate.2)

/-- SYS (Table 18.5). -/
def limSys (c : Cfg) : List (Nat × Bool) :=
  [(443, c.hasWords 1 10), (7, c.clear 1 [(0, 19, 0)]), (443, within 1 7 (c.f 1 0 30 28)), (443, within 50 100 (c.f 1 0 27 20))]

/-- CLK (R387, R388). PRIMARY TCXO beside SECONDARY none are two sources, not one (log 62). -/
def limClk (c : Cfg) : List (Nat × Bool) :=
  let a := c.f 2 0 31 30
  let b := c.f 2 0 29 28
  [(387, c.hasWords 2 1), (7, c.clear 2 [(0, 2, 0)] && decide (a ≠ 3) && decide (b ≠ 3)), (388, decide (a = 0 ∨ a ≠ b)),
    (388, !(a = 1 || b = 1) || decide (c.lnRate 52 ≠ 0)), (388, !(a = 2 || b = 2) || c.b 0x0080 0 31),
    (388, within 10 255 (c.f 2 0 18 11) && within 1 15 (c.f 2 0 10 7) && within 1 15 (c.f 2 0 6 3)),
    (387, within 1 255 (c.f 2 0 26 19))]

/-- RATE codes, REFSEL and greatest TX_PRESET of a lane's group (Table 3.4): first and last code, reference, preset. -/
def laneGroup (c : Cfg) (l : Nat) : Nat × Nat × Nat × Nat :=
  if l < 16 then (1, 3, 0, 0)
  else if l < 32 then (1, 5, 0, 10)
  else if l < 36 then (1, 5, if c.f 3 62 1 0 = 0 then 2 else 0, 10)
  else if l < 44 then (3, 3, 0, 1)
  else if l < 52 then (6, 6, 1, 3)
  else if l < 54 then (6, 6, 0, 0)
  else (8, 11, 1, 0)

/-- RATE, REFSEL and TX_PRESET of a lane are allowed for its group (R41). A lane that is OFF may leave REFSEL at its default
(log 102). -/
def laneAllowed (c : Cfg) (l : Nat) : Bool :=
  let (lo, hi, ref, preset) := c.laneGroup l
  let r := c.lnRate l
  (r = 0 || within lo hi r) && decide (c.lnRef l = ref ∨ (r = 0 ∧ c.lnRef l = 0)) && decide (c.f 3 l 14 11 ≤ preset)

/-- LOGICAL of an enabled lane is one of 0 to k - 1 of its port, used once (R42). -/
def laneLogicalOk (c : Cfg) (l : Nat) : Bool :=
  c.lnRate l = 0 ||
    (if 44 ≤ l ∧ l < 54 then c.lnLogical l = 0
     else
      let port := c.lanePort l
      decide (c.lnLogical l < port.length) && decide ((port.filter fun k => c.lnLogical k = c.lnLogical l).length = 1))

/-- LANE (R41 to R44). -/
def limLane (c : Cfg) : List (Nat × Bool) :=
  let ls := List.range 62
  [(41, c.hasWords 3 63), (7, ls.all fun l => c.clear 3 [(l, 31, 28), (l, 10, 4)]),
    (7, c.clear 3 [(62, 31, 12)] && decide (c.f 3 62 9 8 ≠ 3 ∧ c.f 3 62 7 6 ≠ 3 ∧ c.f 3 62 1 0 ≠ 3)),
    (41, ls.all c.laneAllowed), (42, ls.all c.laneLogicalOk),
    (44, [0, 1].all fun n => c.net25 n || c.f 3 62 (7 + 2 * n) (6 + 2 * n) = 2)]

/-- Buffer table of DRAM (R445): code, region, offset and size in MiB. -/
def nbuf (c : Cfg) : Nat := c.f 4 29 5 0
def buffers (c : Cfg) : List (Nat × Nat × Nat × Nat) :=
  (List.range c.nbuf).map fun i => (c.f 4 (30 + 2 * i) 31 24, c.f 4 (30 + 2 * i) 23 22, c.f 4 (31 + 2 * i) 31 16, c.f 4 (31 + 2 * i) 15 0)

/-- MiB of the extents of a buffer code. -/
def bufMib (c : Cfg) (code : Nat) : Nat := sumNat ((c.buffers.filter (·.1 = code)).map (·.2.2.2))


/-- Two enabled regions of one layer overlap. -/
def regClash (c : Cfg) (r q : Nat) : Bool :=
  c.regEn r && c.regEn q && c.regLayer r = c.regLayer q &&
    decide (c.regBase r < c.regBase q + c.regSize q ∧ c.regBase q < c.regBase r + c.regSize r)

/-- The first pairs of different entries of a list, each pair once. -/
def pairs {α : Type} : List α → List (α × α)
  | [] => []
  | x :: r => r.map (fun y => (x, y)) ++ pairs r

/-- Two extents of one region overlap. -/
def bufClash (a b : Nat × Nat × Nat × Nat) : Bool :=
  a.2.1 = b.2.1 && decide (a.2.2.1 < b.2.2.1 + b.2.2.2 ∧ b.2.2.1 < a.2.2.1 + a.2.2.2)

/-- Buffers that the configured units need (R445, Table 18.8; log 63). -/
def buffersNeeded (c : Cfg) : List Nat :=
  [0x0A, 0x0C] ++ (if c.has 0x0050 then [0x01] else []) ++ (if c.has 0x0041 then [0x02, 0x03, 0x04] else []) ++
    (if c.has 0x0052 then [0x05] else []) ++ (if (List.range 4).any c.hdL1 then [0x06] else []) ++
    (if (List.range 16).any c.nvValid then [0x07] else []) ++ (if c.tnrEn then [0x08] else []) ++
    (if c.has 0x0022 then [0x0B] else []) ++ (if c.has 0x0070 then [0x0D] else [])

/-- Sum of the rates of GUARANTEED ports, or in QX2 mode of RT ports, in units of 256 MB/s (R32, R404). -/
def portRates (c : Cfg) : Nat :=
  sumNat ((List.range 24).map fun p => if c.b 4 (5 + p) (if c.qx2 then 8 else 31) then c.f 4 (5 + p) 30 21 else 0)

/-- DRAM (R32, R36, R401 to R404, R445). -/
def limDram (c : Cfg) : List (Nat × Bool) :=
  let ps := List.range 24
  let rs := List.range 4
  [(445, within 1 32 c.nbuf && c.hasWords 4 (30 + 2 * c.nbuf)),
    (7, c.clear 4 ([(0, 19, 0), (29, 31, 6)] ++ rs.map (fun r => (1 + r, 7, 0)) ++ ps.map (fun p => (5 + p, 1, 0)) ++
      (List.range c.nbuf).map fun i => (30 + 2 * i, 21, 0))),
    (401, within 1 255 c.pdUs),
    (404, (pairs rs).all fun x => !c.regClash x.1 x.2),
    (404, rs.all fun r => decide (c.regBase r + c.regSize r ≤ 672) && (!c.regEn r || decide (1 ≤ c.regSize r))),
    (404, rs.all fun r => decide (c.f 4 (1 + r) 29 28 ≠ 3)),
    (404, ps.all fun p => !c.b 4 (5 + p) 31 || decide (c.f 4 (5 + p) 30 21 ≠ 0)),
    (404, !c.b 4 27 31),
    (404, !c.qx2 || ps.all fun p => !c.b 4 (5 + p) 8 || decide (c.f 4 (5 + p) 7 2 ≠ 0)),
    (403, ps.all fun p => decide (c.f 4 (5 + p) 20 9 ≠ 0)),
    (32, decide (c.portRates * 256 ≤ 170000)),
    (445, c.buffers.all fun b => within 0x01 0x0D b.1),
    (445, c.buffersNeeded.all fun k => c.buffers.any (·.1 = k)),
    (404, c.buffers.all fun b => c.regEn b.2.1 && decide (1 ≤ b.2.2.2 ∧ b.2.2.1 + b.2.2.2 ≤ c.regMib b.2.1)),
    (445, (pairs c.buffers).all fun x => !bufClash x.1 x.2),
    (445, decide (c.bufMib 1 = 69632)),
    (36, decide (sumNat ((c.buffers.filter (·.1 ≠ 1)).map (·.2.2.2)) ≤ 11008))]

/-- Ports of the RAWFE section: SP1's block and mesh are present in split mode. -/
def rawPorts (c : Cfg) : List Nat := if c.split then [0, 1] else [0]

/-- GROTTO (R38, R416): the general partition holds the glyphs and both halves of each mesh, of the crosstalk table and of
TNR_THR (R147). -/
def limGrotto (c : Cfg) : List (Nat × Bool) :=
  let general := c.f 5 0 23 12 * 1024 + if c.has 0x0020 then 2 * (281672 * c.rawPorts.length + 256 + 72) else 0
  [(416, c.hasWords 5 1), (7, c.clear 5 [(0, 11, 0)]), (416, within 1 60 (c.f 5 0 31 24)),
    (416, decide (general ≤ 14 * 1048576)), (38, decide (c.hdStores ≤ 167772160))]

/-- Delivered photosites of a frame, both conversions when there are two (R29, R30). -/
def delivered (c : Cfg) (p : Nat) : Nat := c.width p * c.lines p

/-- Lanes of a port by the LANE section: those of SL0 to SL15 that it has in split mode or alone. -/
def slLanes (c : Cfg) (p : Nat) : List Nat :=
  (List.range 16).filter fun l => decide (c.lnRate l ≠ 0) && (!c.split || decide (l / 8 = p))

/-- A line time of a frame keeps R30: LINES x T_LINE against the pixel dies' and the link's share, in ns. -/
def readoutOk (c : Cfg) (p m : Nat) : Bool :=
  let sites := c.delivered p * c.nconv p
  let ns := c.lines p * c.tLine p m
  let rate := match c.lnRate ((c.slLanes p).headD 0) with
    | 1 => 980 | 2 => 1225 | _ => 2450
  decide (sites ≤ ns * (if c.split then 12 else 24)) &&
    decide (sites * c.packBits p * 100 ≤ ns * (c.slLanes p).length * rate)

/-- X_c - S_c of a mode in ns: t_ro(c) - T_XR (R90). -/
def xtrigNs (c : Cfg) (p m : Nat) : Int :=
  (c.slotTicks / 65536 : Nat) - (1000 * c.gTrail + c.kNs p m + 1000 * c.tXr p m : Nat)

/-- Time one register write takes on the control channel, in ns, with its read back under VERIFY (R95, R98; log 64). -/
def writeNs (c : Cfg) (p : Nat) : Nat :=
  let id := Cfg.sensor p
  let bytes := c.addrBytes p + c.dataBytes p
  let times := if c.verify p then 2 else 1
  if c.busI2c p then
    let bit := match c.f id 2 23 22 with
      | 0 => 10000 | 1 => 2500 | _ => 1000
    times * (1 + bytes) * 9 * bit
  else times * bytes * 8 * (20 * (c.f id 2 28 24 + 1))

/-- Rules of R93 for a valid mode and for each pair of valid modes. -/
def modesOk (c : Cfg) (p : Nat) : Bool :=
  let ms := c.modes p
  let pNs := c.slotTicks / 65536
  ms.all (fun m => decide (c.expQuant p m ≠ 0) && decide (c.tXr p m * 1000 < pNs) && c.readoutOk p m &&
    decide ((c.expMin p m * c.expQuant p m : Nat) ≤ c.ephNs p m)) &&
  ms.all fun m1 => ms.all fun m2 =>
    decide ((((c.lines p + c.vblank p m1) * c.tLine p m1 : Nat) : Int) ≤ pNs + c.kNs p m1 - c.kNs p m2) &&
      (c.lat p 2 ≠ 0 || (c.tLine p m1 = c.tLine p m2 && c.tXr p m1 = c.tXr p m2))

/-- Write windows of successive frames do not overlap, and hold every write that can fall due (R98). -/
def windowsOk (c : Cfg) (p : Nat) : Bool :=
  let ms := c.modes p
  if c.winLen p = 0 then !c.anyEntry p
  else
    ms.all (fun m1 => ms.all fun m2 =>
      decide (((c.winLen p * 10000 : Nat) : Int) ≤ (c.slotTicks / 65536 : Nat) + c.xtrigNs p m2 - c.xtrigNs p m1)) &&
    decide (((List.range 16).filter (c.weValid p)).length * c.writeNs p ≤ c.winLen p * 10000)

/-- SENSORn (R29, R30, R62, R93 to R100, R444). -/
def limSensor (c : Cfg) (p : Nat) : List (Nat × Bool) :=
  let id := Cfg.sensor p
  let lg := c.laneLog2 p
  let ls := c.slLanes p
  [(444, c.hasWords id (127 + 2 * c.ninit p)),
    (7, c.clear id ([(0, 31, 28), (0, 8, 0), (1, 31, 30), (2, 9, 0), (4, 11, 9), (62, 31, 7)] ++
      (List.range 8).map (fun m => (8 + 3 * m, 31, 24)) ++ (List.range 16).map (fun i => (31 + 2 * i, 16, 0)))),
    (7, decide (c.packCode p ≠ 3) && decide (lg ≤ if c.split then 3 else 4) && decide (c.f id 2 23 22 ≠ 3)),
    (62, if p = 0 then true else c.hasPort 0 && c.split && c.b id 0 24),
    (62, decide (ls.length = 2 ^ lg) && ls.all (fun l => c.lnRate l = c.lnRate (ls.headD 0))),
    (62, decide (5 ≤ c.trainMs p) && decide (1 ≤ c.trainTries p)),
    (94, c.width p % 8 = 0 && within 8 (if c.split then 8192 else 16384) (c.width p) && within 1 16384 (c.lines p)),
    (94, decide (c.delivered p ≤ if c.split then 35389440 else 141557760) && c.perSec 1 120),
    (29, c.perSec (sumNat (([0, 1].filter c.hasPort).map c.delivered)) 17500000000),
    (96, within 1 255 (c.badLimit p) && within 1 63 (c.f id 3 21 16) && within 1 255 (c.feGrace p) && within 1 255 (c.fsWin p)),
    (97, within 1 255 (c.f id 4 31 24) && decide (c.ninit p ≤ 256)),
    (99, c.modeValid p 0), (93, c.modesOk p), (98, c.windowsOk p),
    (100, (List.range 16).all fun i => !c.weValid p i ||
      (within 1 32 (c.weWidth p i) && (c.weGroup p i = 3 || c.weSrc p i = 0))),
    (444, decide (c.ngain p ≤ 64) && (List.range 64).all fun g => decide (g < c.ngain p) || c.w id (63 + g) = 0),
    (444, (List.range 8).all fun m => c.modeValid p m ||
      (c.w id (6 + 3 * m) = 0 && c.w id (7 + 3 * m) = 0 && c.w id (8 + 3 * m) = 0))]

/-- AUXCAM (R114). -/
def limAux (c : Cfg) : List (Nat × Bool) :=
  let rate := c.f 0x12 1 31 24
  [(114, c.hasWords 0x12 2), (7, decide (c.f 0x12 0 31 29 ≤ 4)), (114, within 1 120 rate),
    (114, decide ((c.f 0x12 0 23 12 + 1) * (c.f 0x12 0 11 0 + 1) * rate ≤ 200000000)),
    (114, decide (c.f 0x12 1 23 12 + 1 ≤ 4096 ∧ c.f 0x12 1 11 0 + 1 ≤ 2160))]

/-- PHASE (R110). -/
def limPhase (c : Cfg) : List (Nat × Bool) :=
  let n := c.phases
  let len := c.schedLen + 1
  [(110, c.hasWords 0x13 4),
    (7, c.clear 0x13 ((0, 1, 1) :: (List.range 16).map fun i => (2 + i / 8, 4 * (i % 8) + 3, 4 * (i % 8) + 3))),
    (110, within 1 255 c.inTol && within 1 15 c.inLoss && within 2 15 c.inRelock && within 1 255 (c.f 0x13 0 15 8)),
    (110, !c.schedEn || (List.range len).all fun i => decide (c.sched i < n)),
    (110, !c.schedEn || len % n = 0),
    (110, !c.schedEn || (List.range (len / n)).all fun g =>
      (pairs ((List.range n).map fun i => c.sched (g * n + i))).all fun x => x.1 ≠ x.2)]

/-- RAWFE (R120, R123 to R126). -/
def limRawfe (c : Cfg) : List (Nat × Bool) :=
  let ps := c.rawPorts.filter c.hasPort
  let quad := 4 ≤ c.cfa
  [(122, c.hasWords 0x20 (c.rawHead + 82 + 70418 * c.rawPorts.length)),
    (7, c.clear 0x20 ((2, 23, 0) :: c.rawPorts.flatMap fun p => [(3 + 5 * p, 18, 16), (6 + 5 * p, 18, 16), (6 + 5 * p, 7, 0)])),
    (7, decide (c.blkMode ≠ 3) && decide (c.dynMode ≠ 3)),
    (123, decide (c.blkTc ≤ 8)), (124, decide (1 ≤ c.dynPersist) && decide (c.f 0x20 2 31 24 ≤ 240)),
    (125, ps.all fun p => c.obRows p % 2 = 0 && within 256 8191 (c.gainRatio p)),
    (120, ps.all fun p => decide (c.obCols p < c.width p ∧ c.obRows p < c.lines p) && c.cropW p % 8 = 0 &&
      c.cropH p % (if quad then 4 else 2) = 0),
    (126, ps.all fun p => decide (c.blkMin p ≤ c.blkMax p)),
    (126, ps.all fun p => !c.dualConv p || decide (c.kneeLo p < c.kneeHi p)),
    (126, ps.all fun p => !c.dualConv p || decide (c.kneeHi p ≤ (c.sat0 p - c.blkMax p) * 2 ^ (16 - c.packBits p))),
    (126, ps.all fun p => c.blkMode = 0 || decide (0 < c.obRows p)),
    (126, ps.all fun p => decide (c.blkMode ≠ 2) || decide (0 < c.obCols p)),
    (126, !c.tnrEn || c.perSec (sumNat (ps.map fun p => c.cropW p * c.cropH p)) 8500000000),
    (126, !c.tnrEn || decide (sumNat (ps.map fun p => (c.phases + 1) * 2 * (c.cropW p * c.cropH p)) ≤ c.bufMib 8 * 1048576))]

/-- DEFECT (R127). -/
def limDefect (c : Cfg) : List (Nat × Bool) :=
  [(127, c.hasWords 0x21 (2 + c.defectCount 0 + c.defectCount 1)),
    (7, c.clear 0x21 [(0, 31, 23), (1, 31, 23)] && ((c.ws 0x21).drop 2).all fun w => !wbit w 31),
    (127, decide (c.defectCount 0 + c.defectCount 1 ≤ 4194304)),
    (127, [0, 1].all fun p => defectsOk (c.width p) (c.lines p) ((c.defectWords p).map defectOf))]

/-- STATS (R148). -/
def limStats (c : Cfg) : List (Nat × Bool) :=
  [(148, c.hasWords 0x22 1), (7, c.clear 0x22 [(0, 8, 0)]), (148, decide (16 ≤ c.ringSlots)), (148, decide (c.histShift ≤ 10))]

/-- A binary16 pattern is positive and finite. -/
def pos16 (x : Nat) : Bool := within 1 0x7BFF x

/-- COLOUR (R158, R159). -/
def limColour (c : Cfg) : List (Nat × Bool) :=
  let ps := c.rawPorts
  [(158, c.hasWords 0x30 (sumNat (ps.map fun p => 13 + 2 * c.nwb p))),
    (7, ps.all fun p => c.col p 7 31 16 = 0 && c.col p 12 31 16 = 0 && decide (c.qbMode p < 2) &&
      (List.range (c.nwb p)).all fun k => c.col p (13 + 2 * k) 15 0 = 0),
    (158, ps.all fun p => within 2 32 (c.nwb p)),
    (159, ps.all fun p => decide (c.col p 0 31 16 < c.col p 0 15 0)),
    (159, ps.all fun p => (List.range (c.nwb p - 1)).all fun k => decide (c.wbCct p k < c.wbCct p (k + 1))),
    (159, ps.all fun p => decide (c.wbCct p 0 ≤ c.col p 2 31 16 ∧ c.col p 2 31 16 ≤ c.wbCct p (c.nwb p - 1))),
    (159, ps.all fun p => decide (c.col p 1 31 16 ≤ 16 * c.col p 1 15 0 ∧ c.col p 1 15 0 ≤ 16 * c.col p 1 31 16)),
    (159, ps.all fun p => (List.range (c.nwb p)).all fun k => pos16 (c.wbR p k) && pos16 (c.wbB p k)),
    (159, ps.all fun p => 4 ≤ c.cfa || c.qbMode p = 0),
    (159, ps.all fun p => (c.inputMatrix p (c.col p 2 31 16) (signedOf 8 (c.col p 2 15 8)) (c.col p 1 15 0)).isSome)]

/-- Size of the working picture of a port (R154). -/
def workW (c : Cfg) (p : Nat) : Nat := if 4 ≤ c.cfa ∧ c.qbMode p = 0 then c.cropW p / 2 else c.cropW p
def workH (c : Cfg) (p : Nat) : Nat := if 4 ≤ c.cfa ∧ c.qbMode p = 0 then c.cropH p / 2 else c.cropH p

/-- A slot of LUTSTORE can be selected by a branch (R178). -/
def lutFits (c : Cfg) (b k : Nat) : Bool :=
  let w := c.lutWords k
  let d := w.getD 1 0
  let sh := (w.getD 2 0).toNat
  c.lutPresent k && (sh = 0 || sh = c.brShaperId b) && (wfield d 31 30 ≠ 0 || wfield d 29 27 = c.brEncode b)

/-- in / out lies between 1/2 and 8. -/
def ratioOk (i o : Nat) : Bool := decide (o ≤ 2 * i ∧ i ≤ 8 * o)

/-- A branch's format suits a head (R308). -/
def headTakes (c : Cfg) (h b : Nat) : Bool :=
  c.hasBranch b && decide (c.brOutW b = if c.hdPair (c.hdLead h) then 2 * c.actW h else c.actW h) &&
    decide (c.brOutH b = c.actH h) && c.brDepth b = 10 && c.brChroma b = (if c.hd444 h then 0 else 1) &&
    c.brYcc b = c.hdColour h && c.brFull b = c.hdFull h

/-- A branch's format suits an HEVC stream (R220). -/
def hevcTakes (c : Cfg) (s b : Nat) : Bool :=
  c.hasBranch b && within 1 2 (c.brYcc b) && c.brOutW b % 8 = 0 && c.brOutH b % 8 = 0 &&
    (match c.hv s 0 27 26 with
      | 0 => c.brChroma b = 2 && c.brDepth b = 8
      | 1 => c.brChroma b = 2 && c.brDepth b = 10
      | 2 => c.brChroma b = 1 && c.brDepth b = 10
      | _ => false)

/-- Frames of the phases of a mask fall at equal intervals (R311, R329). -/
def evenSlots (c : Cfg) (mask : Nat) : Bool :=
  let n := if c.schedEn then c.schedLen + 1 else c.phases
  let ks := (List.range n).filter fun k => mask.testBit (c.phaseOf k)
  match ks with
  | [] => false
  | k0 :: _ =>
    let d := n / ks.length
    n % ks.length = 0 && (List.range ks.length).all fun i => ks.getD i 0 = k0 + i * d

/-- A branch's format suits a network stream sent from it (R329). -/
def netTakes (c : Cfg) (b : Nat) : Bool :=
  c.hasBranch b && c.brDepth b = 10 && c.brChroma b = 1 && within 1 2 (c.brYcc b) && c.evenSlots (c.brMask b)

/-- BRANCHn (R163 to R165, R178). -/
def limBranch (fits : Cfg → Nat → Nat → Bool) (c : Cfg) (b : Nat) : List (Nat × Bool) :=
  let id := Cfg.branchId b
  let f := c.f id
  let p := c.brSrc b
  let (cx, cy, cw, ch) := (f 1 31 16, f 1 15 0, f 2 31 16, f 2 15 0)
  let (ow, oh) := (c.brOutW b, c.brOutH b)
  let lut := c.brLutInit b
  let zeros := (List.range 15).flatMap fun i => [497 + i, 1009 + i]
  [(164, c.hasWords id 1548),
    (7, c.clear id [(0, 31, 30), (0, 1, 0), (4, 15, 0)] && decide (c.brEncode b ≤ 3 ∧ c.brYcc b ≠ 3 ∧ c.brChroma b ≠ 3 ∧
      f 0 11 10 ≠ 3 ∧ f 0 8 7 < 2) && slotCode lut),
    (165, p = 0 || c.split),
    (165, cx % 2 = 0 && cw % 2 = 0 && decide (cx + cw ≤ c.workW p ∧ cy + ch ≤ c.workH p)),
    (165, decide (c.brChroma b ≠ 2) || (cy % 2 = 0 && ch % 2 = 0)),
    (165, within 1 8192 ow && within 1 4320 oh),
    (165, ratioOk cw ow && ratioOk ch oh),
    (165, c.brChroma b = 0 || (ow % 2 = 0 && (c.brChroma b ≠ 2 || oh % 2 = 0))),
    (165, decide (c.brYcc b ≠ 0) || c.brChroma b = 0),
    (165, pos16 (f 4 31 16)),
    (165, [0, 1, 2].all fun chn => zeros.all fun k => c.shaper b chn k = 0),
    (165, lut = 31 || fits c b lut),
    (165, (List.range 4).all fun h => !c.hdEn h || c.hdSrc h ≠ b || c.headTakes h b),
    (165, (List.range 8).all fun s => !c.hvValid s || c.hvSrc s ≠ b || c.hevcTakes s b),
    (165, (List.range 16).all fun s => !(c.nvValid s && c.nvKind s = 1 && c.nvSrc s = b) || c.netTakes b)]

/-- LUTSTORE (R176, R177): each record is followed by two zero bytes. -/
def limLut (c : Cfg) : List (Nat × Bool) :=
  let ks := (List.range 16).filter c.lutPresent
  [(176, c.hasWords 0x38 (1 + 411942 * ks.length)), (7, c.clear 0x38 [(0, 31, 16)]),
    (177, ks.all fun k => lutRecOk (c.lutWords k)),
    (176, ks.all fun k => lutCrcOk (wordBytes (c.lutWords k)) && ((wordBytes (c.lutWords k)).drop 1647766).all (· = 0))]

/-- FSR (R186, R187). -/
def limFsr (c : Cfg) : List (Nat × Bool) :=
  let ss := (List.range 8).filter c.fsValid
  [(186, c.hasWords 0x40 16), (7, c.clear 0x40 ((List.range 8).flatMap fun s => [(2 * s, 1, 0), (2 * s + 1, 15, 0)])),
    (7, (List.range 8).all fun s => decide (c.fsMode s ≠ 3 ∧ c.fsQlevel s ≤ 4)), (187, ss.all fun s => decide (c.fsTap s ≠ 0)),
    (187, ss.all fun s => decide (c.fsMode s ≠ 2) || within 12 72 (c.fsRatio s)),
    (187, ss.all fun s => c.fsSrc s = 0 || c.split),
    (187, (pairs ss).all fun x => decide (c.fsSrc x.1 ≠ c.fsSrc x.2) || (c.fsMask x.1 &&& c.fsMask x.2) = 0),
    (187, decide (sumNat (ss.map fun s => c.fsSites s * (phasesIn c.phases (c.fsMask s)).length) * c.projRate.1 ≤
      17500000000 * c.projRate.2)),
    (187, ss.all fun s => decide (c.fsMode s ≠ 2) || decide (c.hdrPages s + 2 * (c.tileCols s * c.fsBands s) ≤ c.capPages s))]

/-- H.265 Tables A.8 and A.9 (log 65): level, MaxLumaPs, MaxLumaSr, and MaxCPB and MaxBR of the Main and the High tier in units of
the profile's factor. -/
def hevcLevels : List (Nat × Nat × Nat × Nat × Nat × Nat × Nat) :=
  [(30, 36864, 552960, 350, 128, 0, 0), (60, 122880, 3686400, 1500, 1500, 0, 0), (63, 245760, 7372800, 3000, 3000, 0, 0),
    (90, 552960, 16588800, 6000, 6000, 0, 0), (93, 983040, 33177600, 10000, 10000, 0, 0),
    (120, 2228224, 66846720, 12000, 12000, 30000, 30000), (123, 2228224, 133693440, 20000, 20000, 50000, 50000),
    (150, 8912896, 267386880, 25000, 25000, 100000, 100000), (153, 8912896, 534773760, 40000, 40000, 160000, 160000),
    (156, 8912896, 1069547520, 60000, 60000, 240000, 240000), (180, 35651584, 1069547520, 60000, 60000, 240000, 240000),
    (183, 35651584, 2139095040, 120000, 120000, 480000, 480000), (186, 35651584, 4278190080, 240000, 240000, 800000, 800000)]

/-- A stream keeps its level and tier (R218). -/
def hevcLevelOk (c : Cfg) (s : Nat) : Bool :=
  match hevcLevels.find? (·.1 = c.hv s 0 24 17) with
  | none => false
  | some (_, ps, sr, cpbM, brM, cpbH, brH) =>
    let high := c.hv s 0 25 25 = 1
    let factor := if c.hv s 0 27 26 = 2 then 1667 else 1000
    let (w, h) := (c.hvW s, c.hvH s)
    let (cpb, br) := if high then (cpbH, brH) else (cpbM, brM)
    decide (w * h ≤ ps ∧ w * w ≤ 8 * ps ∧ h * h ≤ 8 * ps) && decide (w * h * (c.hvRate s).1 ≤ sr * (c.hvRate s).2) &&
      decide (c.hvMaxrate s ≤ br * factor ∧ c.hvCpb s ≤ cpb * factor)

/-- Bytes of one buffer of the reference pool (R216). -/
def poolBytes (c : Cfg) : Nat :=
  let n := c.poolW * c.poolH
  n * (if c.f 0x41 1 31 31 = 1 then 4 else 3) + n * 5 / 16

/-- HEVC (R216 to R220). -/
def limHevc (c : Cfg) : List (Nat × Bool) :=
  let ss := (List.range 8).filter c.hvValid
  [(216, c.hasWords 0x41 34),
    (7, c.clear 0x41 ((1, 24, 20) :: (List.range 8).map fun s => (4 + 4 * s, 3, 0)) && decide (c.f 0x41 1 30 25 ≠ 0) &&
      (List.range 8).all fun s => decide (c.hv s 0 27 26 ≠ 3 ∧ c.hvMode s ≠ 3 ∧ c.hvSrc s ≠ 7) &&
        (hevcLevels.any (·.1 = c.hv s 0 24 17) || (!c.hvValid s && c.hv s 0 24 17 = 0))),
    (216, c.poolW % 8 = 0 && c.poolH % 8 = 0 && decide (c.poolW ≤ 8192 ∧ c.poolH ≤ 4320)),
    (218, ss.all fun s => if c.hvSrc s = 6 then c.has 0x12 && decide (c.hv s 0 27 26 ≠ 2) else c.hasBranch (c.hvSrc s)),
    (218, ss.all fun s => c.hvSrc s = 6 || c.hevcTakes s (c.hvSrc s)),
    (218, ss.all fun s => decide (c.hvW s ≤ c.poolW ∧ c.hvH s ≤ c.poolH) && (c.hv s 0 27 26 ≠ 2 || c.f 0x41 1 31 31 = 1)),
    (218, ss.all c.hevcLevelOk),
    (218, ss.all fun s => decide (0 < c.hvBitrate s) && (match c.hvMode s with
      | 0 => decide (c.hvMaxrate s = c.hvBitrate s)
      | 1 => decide (c.hvBitrate s ≤ c.hvMaxrate s)
      | _ => true)),
    (217, ss.all fun s => decide (c.hv s 2 31 20 ≠ 0)),
    (218, ss.all fun s => decide (c.hvQpMin s ≤ 51 ∧ c.hvQpCq s ≤ 51)),
    (218, ss.all fun s => if c.hvTrim s then within 2 (c.hvCols s) (c.hvPeriod s) else decide (0 < c.hvPeriod s)),
    (218, decide ((ss.filter c.hvProxy).length ≤ 1)),
    (218, decide (sumNat (ss.map fun s => c.hvNref s + 1) + sumNat ((List.range 4).map c.decBufs) ≤ 32)),
    (218, decide ((ss.map fun s => ((c.hvW s * c.hvH s * (c.hvRate s).1 : Nat) : Rat) / ((c.hvRate s).2 : Nat)).foldl (· + ·) 0 ≤
      2200000000)),
    (218, decide (32 * c.poolBytes ≤ c.bufMib 2 * 1048576 ∧ ss.length * c.ringBytes ≤ c.bufMib 4 * 1048576 ∧
      sumNat (ss.map fun s => 2 * c.hvW s * c.hvH s * (if c.hv s 0 27 26 = 2 then 4 else 3)) ≤ c.bufMib 3 * 1048576))]

/-- RECORD (R255, R256). -/
def limRecord (c : Cfg) : List (Nat × Bool) :=
  let ss := (List.range 8).filter c.fsValid
  [(255, c.hasWords 0x50 4), (7, c.clear 0x50 [(0, 4, 0), (3, 23, 0)]),
    (256, ss.all fun s => within 0x41 0x5A (c.letter s)),
    (256, (pairs ss).all fun x => decide (c.letter x.1 ≠ c.letter x.2)),
    (256, within 1 999 c.reelInit && within 1 255 c.minFree),
    (256, !((List.range 8).any fun s => c.hvValid s && c.hvProxy s) || c.fsValid c.proxyStream)]

/-- A number of lanes a PCIe port may have enabled. -/
def pcieLanes (n : Nat) : Bool := n = 1 || n = 2 || n = 4

/-- MEDIA (R248). -/
def limMedia (c : Cfg) : List (Nat × Bool) :=
  let ms := (List.range 4).filter c.mediaEn
  [(248, c.hasWords 0x51 4), (7, (List.range 4).all fun m => c.clear 0x51 [(m, 30, 28), (m, 7, 0)]),
    (248, ms.all fun m => pcieLanes ((List.range 4).filter fun k => c.lnRate (16 + 4 * m + k) ≠ 0).length),
    (248, ms.all fun m => within 1 8 (c.mediaIoq m) && within 4 10 (c.f 0x51 m 23 20) && within 6 10 (c.f 0x51 m 19 16) &&
      within 5 255 (c.f 0x51 m 15 8))]

/-- ENDPOINT (R279, R280). -/
def limEndpoint (c : Cfg) : List (Nat × Bool) :=
  let els := (List.range 4).filter fun k => c.lnRate (32 + k) ≠ 0
  [(279, c.hasWords 0x52 4), (7, c.clear 0x52 [(2, 27, 0), (3, 11, 0)] && decide (c.f 0x52 2 31 30 ≠ 3)),
    (280, decide (c.f 0x52 0 31 16 ≠ 0 ∧ c.f 0x52 0 31 16 ≠ 0xFFFF)), (280, within 16 512 (c.f 0x52 3 29 20)),
    (280, pcieLanes els.length), (280, els.all fun k => c.laneLogicalOk (32 + k))]

/-- r of a head stays at or below n frames/s. -/
def rateMax (c : Cfg) (h n : Nat) : Bool := let r := rateD (c.hdRate h); decide (r.1 ≤ n * r.2)

/-- r of a head as a fraction. -/
def rateQ (c : Cfg) (h : Nat) : Rat := let r := rateD (c.hdRate h); (r.1 : Rat) / (r.2 : Rat)

/-- Time from S_c to t_ro of a mode, in ticks (R90). -/
def troAfter (c : Cfg) (p m : Nat) : Rat :=
  ((c.projRate.2 * 65536000000000 : Nat) : Rat) / ((c.projRate.1 * c.phases : Nat) : Rat) - (us c.gTrail : Nat) -
    (ns (c.kNs p m) : Nat)

/-- The LOCKED conditions of R311. -/
def lockedOk (c : Cfg) (h : Nat) : Bool :=
  let b := c.hdSrc h
  let p := c.brSrc b
  let n := (phasesIn c.phases (c.brMask b)).length
  let lag : Rat := (us (c.lagUs h) : Nat)
  decide (b < 6) && c.evenSlots (c.brMask b) &&
    decide (c.rateQ h = (c.hdM h : Rat) * (((c.projRate.1 * n : Nat) : Rat) / (c.projRate.2 : Nat))) &&
    (c.modes p).all fun m => (List.range (c.actH h)).all fun y =>
      decide (c.troAfter p m + c.branchHi b p m y ≤ lag + ((y : Rat) - 1) * c.tHl h) &&
        decide (lag - c.tOut h + ((y : Rat) + 1) * c.tHl h ≤ c.troAfter p m + c.branchLo b p m y)

/-- A head's producer is accepted (R308). -/
def producerOk (c : Cfg) (h : Nat) : Bool :=
  let s := c.hdSrc h
  if s < 6 then c.headTakes h s
  else if s = 6 then c.has 0x12 && !c.hd444 h && c.hdColour h = 1 && !c.hdFull h
  else if s < 13 then !c.hd444 h
  else s = 15

/-- Two heads of a pair agree (R307). -/
def pairAgrees (c : Cfg) (h : Nat) : Bool :=
  c.hdEn h && c.hdEn (h + 1) && c.hd h 0 30 30 = c.hd (h + 1) 0 30 30 && c.hd h 0 28 12 = c.hd (h + 1) 0 28 12 &&
    c.hd h 1 31 0 = c.hd (h + 1) 1 31 0 && c.hd h 2 31 0 = c.hd (h + 1) 2 31 0 && c.hd h 3 31 0 = c.hd (h + 1) 3 31 0

/-- HEADn (R305 to R308, R311). -/
def limHead (c : Cfg) (h : Nat) : List (Nat × Bool) :=
  let id := 0x60 + h
  let on := c.hdEn h
  let (w, ht) := (c.actW h, c.actH h)
  [(306, c.hasWords id 7), (7, c.clear id [(0, 7, 0), (4, 31, 30)]),
    (7, ((rateOf (c.hdRate h)).isSome || (!on && c.hdRate h = 0)) &&
      decide (c.hdSlate h ≠ 3 ∧ c.hdColour h ≠ 3 ∧ c.hdSrc h ≠ 13 ∧ c.hdSrc h ≠ 14)),
    (305, (h % 2 = 0 || c.hd h 0 29 29 = 0) && !(c.hdLocked h && c.hdTear h) && (c.hdLocked h || c.lagUs h = 0)),
    (307, !on || (within 1 8192 w && within 1 4320 ht)),
    (307, !on || c.rateMax h 60 || decide (w ≤ 3840 ∧ ht ≤ 2160)),
    (307, !on || c.hd444 h || (w % 2 = 0 && decide (c.hdColour h ≠ 0))),
    (307, !on || decide (w < c.totW h ∧ c.vact h + ht ≤ c.totH h)),
    (307, !on || decide ((c.totW h * c.totH h : Nat) * c.rateQ h ≤ 2600000000)),
    (307, decide ((((List.range 4).filter c.hdEn).map fun k => ((c.actW k * c.actH k : Nat) : Rat) * c.rateQ k).foldl (· + ·) 0 ≤
      4400000000)),
    (307, decide (c.hdStores ≤ 167772160)),
    (307, !c.hdPair h || c.pairAgrees h),
    (307, !(on && c.hdL1 h) || (decide (0 < c.l1W h ∧ 0 < c.l1H h) && decide (c.l1X h + c.l1W h ≤ w ∧ c.l1Y h + c.l1H h ≤ ht))),
    (307, !on || c.producerOk h), (307, !(on && c.hdLocked h) || c.lockedOk h)]

/-- The SDI format of a head for a number of links appears in Table 12.5. -/
def sdiFormatOk (c : Cfg) (h links : Nat) : Bool :=
  let (w, ht, r) := (c.actW h, c.actH h, c.hdRate h)
  let low := within 1 5 r
  let mid := within 6 10 r
  if links = 4 then (w = 7680 || w = 8192) && ht = 4320 && (if c.hd444 h then low else mid)
  else (w = 3840 || w = 4096) && ht = 2160 &&
    (if links = 1 then (if c.hd444 h then low else mid) else if c.hd444 h then mid else within 11 13 r)

/-- TOT_W and TOT_H of the SMPTE raster (log 66): 2,250 lines of 5,500, 5,280 or 4,400 samples, both doubled on quad links. -/
def sdiRasterOk (c : Cfg) (h links : Nat) : Bool :=
  let k := if links = 4 then 2 else 1
  let tw := match c.hdRate h with
    | 1 => 5500 | 2 => 5500 | 6 => 5500 | 7 => 5500 | 3 => 5280 | 8 => 5280 | 11 => 5280
    | _ => 4400
  c.totH h = 2250 * k && c.totW h = tw * k

/-- SDIOUT (R322). -/
def limSdi (c : Cfg) : List (Nat × Bool) :=
  let ns := (List.range 8).filter c.soEn
  let links (n : Nat) : Nat := 2 ^ c.f 0x68 n 28 27
  let mates (n : Nat) : List Nat := (List.range (links n)).map (n / links n * links n + ·)
  [(322, c.hasWords 0x68 8), (7, (List.range 8).all fun n => c.clear 0x68 [(n, 9, 0)] && decide (c.f 0x68 n 28 27 ≠ 3)),
    (322, ns.all fun n => c.hdEn (c.soHead n) && c.f 0x68 n 26 25 = n % links n),
    (322, ns.all fun n => (mates n).all fun k =>
      c.f 0x68 k 31 27 = c.f 0x68 n 31 27 && c.f 0x68 k 24 10 = c.f 0x68 n 24 10 && c.lnRate (44 + k) = 6),
    (322, ns.all fun n => c.sdiFormatOk (c.soHead n) (links n)), (322, ns.all fun n => c.sdiRasterOk (c.soHead n) (links n))]

/-- DPOUT (R325). -/
def limDp (c : Cfg) : List (Nat × Bool) :=
  let ds := [0, 1].filter c.dpEn
  [(325, c.hasWords 0x69 2), (7, [0, 1].all fun d => c.clear 0x69 [(d, 25, 0)] && decide (c.dpFormat d ≠ 3)),
    (325, ds.all fun d => c.hdEn (c.dpHead d)),
    (325, ds.all fun d =>
      let h := c.dpHead d
      match c.dpFormat d with
      | 0 => c.hdColour h = 0 && c.hd444 h
      | 1 => within 1 2 (c.hdColour h) && c.hd444 h
      | _ => !c.hd444 h),
    (325, ds.all fun d =>
      let top := ((List.range 4).map fun k => dpRate (c.lnRate (54 + 4 * d + k))).foldl max 0
      decide (c.dpNeed d * 10 ≤ ((4 * 8 * top * 10000000 : Nat) : Rat)))]

/-- Links a stream entry uses, as link entries 0 to 7: of PATHS, LINK0 and LINK1. -/
def linksOf (paths l0 l1 : Nat) : List Nat :=
  (if paths.testBit 0 then [l0] else []) ++ if paths.testBit 1 then [4 + l1] else []

/-- A link entry exists and is enabled (R329). -/
def linkOk (c : Cfg) (k : Nat) : Bool := c.nlEn k && (c.net25 (k / 4) || k % 4 = 0)

def nvLinks (c : Cfg) (s : Nat) : List Nat := linksOf (c.nvPaths s) (c.nvLink s 0) (c.nvLink s 1)
def auLinks (c : Cfg) (s : Nat) : List Nat := linksOf (c.stPaths s) (c.audSt s 0 27 26) (c.audSt s 0 25 24)

/-- Bytes of the seventeen packets of a metadata record under RFC 8331: 4 bytes and 10-bit words padded to 4 bytes each. -/
def record40 : Nat := 16 * (4 + 312) + 312

/-- Frame rate of a branch (R219). -/
def brRate (c : Cfg) (b : Nat) : Rat :=
  ((c.projRate.1 * (phasesIn c.phases (c.brMask b)).length : Nat) : Rat) / (c.projRate.2 : Nat)

/-- Bits per second of a stream entry; a received HEVC stream's is not known and counts 0 (log 67). -/
def nvBits (c : Cfg) (s : Nat) : Rat :=
  let n := c.nvSrc s
  match c.nvKind s with
  | 0 => ((c.actW n * c.actH n * 20 : Nat) : Rat) * c.rateQ n
  | 1 => ((c.brOutW n * c.brOutH n * 20 : Nat) : Rat) * c.brRate n
  | 2 => ((record40 * 8 : Nat) : Rat) * c.rateQ n
  | 3 => ((record40 * 8 : Nat) : Rat) * c.brRate n
  | 4 => (c.hvMaxrate n : Nat)
  | _ => 0

/-- The sums of a link with 4 % added stay within 90 % of its rate (R329, R353). -/
def linkLoadOk (c : Cfg) (k : Nat) : Bool :=
  let v := ((List.range 16).filter fun s => c.nvValid s && (c.nvLinks s).contains k).map c.nvBits
  let a := ((List.range 8).filter fun s => c.stValid s && (c.auLinks s).contains k).map fun s =>
    ((c.audFs * c.stCh s * 24 : Nat) : Rat)
  let rate : Nat := if c.net25 (k / 4) then 25000000000 else 100000000000
  decide ((v ++ a).foldl (· + ·) 0 * 104 ≤ ((rate * 90 : Nat) : Rat))

/-- NETVIDEO (R327 to R329). -/
def limNet (c : Cfg) : List (Nat × Bool) :=
  let ss := (List.range 16).filter c.nvValid
  let rx := ss.filter fun s => c.nvKind s = 5
  [(327, c.hasWords 0x6A 120),
    (7, c.clear 0x6A ((List.range 8).map (fun k => (3 * k, 7, 0)) ++
      (List.range 16).flatMap fun s => [(24 + 6 * s, 4, 0), (29 + 6 * s, 23, 0)]) && (List.range 16).all fun s => decide (c.nvKind s ≤ 5)),
    (328, ss.all fun s => within 96 127 (c.nv s 0 17 11) && (c.nvKind s ≠ 5 || decide (1 ≤ c.nvJitter s))),
    (329, ss.all fun s => !(c.nvLinks s).isEmpty && (c.nvLinks s).all c.linkOk),
    (329, decide ((ss.filter fun s => c.nvKind s ≤ 1).length ≤ 8)),
    (329, decide (rx.length ≤ 4) && (pairs rx).all fun x => decide (c.nvSrc x.1 ≠ c.nvSrc x.2)),
    (329, ss.all fun s => match c.nvKind s with
      | 0 => c.hdEn (c.nvSrc s) && !c.hd444 (c.nvSrc s)
      | 1 => c.netTakes (c.nvSrc s)
      | 2 => c.hdEn (c.nvSrc s)
      | 3 => c.hasBranch (c.nvSrc s)
      | 4 => c.hvValid (c.nvSrc s)
      | _ => decide (c.nvSrc s < 4)),
    (329, (List.range 8).all c.linkLoadOk)]

/-- A source ID names a channel that exists (R343, R345). -/
def audIdOk (c : Cfg) (id : Nat) : Bool :=
  if id < 0x40 then c.tdmIn (id / 16) && decide (id % 16 < c.tdmSlots (id / 16))
  else if id < 0x44 then c.aesIn ((id - 0x40) / 2)
  else if 0x80 ≤ id ∧ id < 0xC0 then decide (id - 0x80 < c.rxBase 8)
  else (decide (0xC0 ≤ id) && decide (id < 0xE0)) || id = 0xFF

/-- A source ID is one of Table 13.1, in use or not. -/
def audIdKnown (id : Nat) : Bool := decide (id < 0x44 ∨ (0x80 ≤ id ∧ id < 0xE0) ∨ id = 0xFF)

/-- Most channels of a stream entry by its packet time and rate (R353). -/
def chMax (c : Cfg) (n : Nat) : Nat :=
  let short := c.audSt n 0 23 23 = 1
  if c.audFs = 48000 then (if short then 64 else 8) else if short then 32 else 4

/-- AUDIO (R344, R345, R348, R353): bytes of outputs in use are checked (log 68). -/
def limAudio (c : Cfg) : List (Nat × Bool) :=
  let ss := (List.range 8).filter c.stValid
  let gs := (List.range 4).filter c.grpEn
  [(344, c.hasWords 0x70 99),
    (7, c.clear 0x70 ([(0, 24, 0), (5, 23, 0)] ++ (List.range 4).flatMap (fun n => [(1 + n, 21, 0), (6 + n, 30, 20), (6 + n, 15, 14)]) ++
      (List.range 8).flatMap fun n => [(10 + 6 * n, 3, 0), (15 + 6 * n, 23, 0)])),
    (7, (List.range 4).all (fun n => decide (c.f 0x70 (1 + n) 30 29 ≠ 3)) && decide (c.csMode 0 ≠ 3 ∧ c.csMode 1 ≠ 3)),
    (7, (List.range 164).all fun i => audIdKnown (c.audByte i)),
    (345, ((List.range 14).filter c.outUsed).all fun o => (c.outIds o).all c.audIdOk),
    (345, c.recIds.all c.audIdOk), (345, decide (c.recCh ≤ 32)),
    (345, (List.range 4).all fun n => !c.tdmEn n || decide (c.f 0x70 (1 + n) 30 29 ≠ 0) ||
      (c.b 0x70 (1 + n) 26 && c.b 0x70 (1 + n) 25 && c.b 0x70 (1 + n) 27)),
    (348, gs.all fun g => decide (c.grpMaster g < 14) && (c.grpMembers g).testBit (c.grpMaster g)),
    (348, (pairs gs).all fun x => (c.grpMembers x.1 &&& c.grpMembers x.2) = 0),
    (353, ss.all fun n => decide (c.stCh n ≤ c.chMax n) && within 96 127 (c.audSt n 0 16 10) &&
      !(c.auLinks n).isEmpty && (c.auLinks n).all c.linkOk),
    (353, decide (c.txBase 8 ≤ 64 ∧ c.rxBase 8 ≤ 64)),
    (353, ss.all fun n => !c.stRx n || decide (2 * c.stTicks n * 8000 ≤ c.stPlayout n * c.audFs)),
    (353, (List.range 8).all c.linkLoadOk)]

/-- TIME (R360 to R362). -/
def limTime (c : Cfg) : List (Nat × Bool) :=
  let ds := [0, 1].filter fun k => c.b 0x80 (2 + k) 31
  let ports (k : Nat) : Nat := c.f 0x80 (2 + k) 23 21
  [(360, c.hasWords 0x80 6), (7, c.clear 0x80 [(0, 11, 0), (1, 6, 0), (2, 15, 0), (3, 15, 0), (5, 15, 0)]),
    (362, !c.ptpEn || !ds.isEmpty),
    (362, ds.all fun k => decide (ports k ≠ 0) && [0, 1].all fun n => !(ports k).testBit n || c.linkOk (4 * n)),
    (362, !(c.b 0x80 2 31 && c.b 0x80 3 31) || decide (c.f 0x80 2 30 24 ≠ c.f 0x80 3 30 24) || (ports 0 &&& ports 1) = 0),
    (362, within 1 20 (c.f 0x80 0 30 26) && within 1 255 c.timeRevertS && within 1 7 c.syncTo && [0, 1].all fun k => within 2 7 (c.annTo k)),
    (362, (rateOf (c.f 0x80 1 31 28)).isSome),
    (362, decide (c.projOffset * c.projRate.1 < 1000000 * c.projRate.2)),
    (362, !c.alignRefin || decide (c.lnRate 52 ≠ 0))]

/-- The CRC of the shared content of an array (R378). -/
def sharedContentCrc (c : Cfg) : Nat :=
  let phase := match c.sect? 0x13 with
    | some s => le 2 s.id ++ le 1 1 ++ le 1 s.param ++ le 4 s.words.length ++ wordBytes s.words
    | none => []
  let w0 := (c.w 0x81 0).toNat
  crc32c (wordBytes ((c.ws 0x80).take 4) ++ phase ++ wordBytes [c.w 0x81 1, c.w 0x81 3, c.w 0x81 4] ++
    le 4 (w0 - bitsOf w0 30 19 * 2 ^ 19))

/-- ARRAY (R377, R378). -/
def limArray (c : Cfg) : List (Nat × Bool) :=
  [(377, c.hasWords 0x81 5), (7, c.clear 0x81 [(0, 16, 0), (4, 15, 0)]),
    (378, (c.w 0x81 2).toNat = c.sharedContentCrc), (378, !c.b 0x81 0 31 || decide (c.w 0x81 1 ≠ 0))]

/-- POS (R421, R422). -/
def limPos (c : Cfg) : List (Nat × Bool) :=
  let cs := List.range 8
  [(421, c.hasWords 0x90 48), (7, cs.all fun n => c.clear 0x90 [(6 * n, 18, 0), (6 * n + 1, 3, 0)]),
    (422, cs.all fun n => decide (c.posMode n ≠ 3)), (422, cs.all fun n => !c.limEn n || decide (c.limLo n ≤ c.limHi n)),
    (422, cs.all fun n => decide (c.posMode n ≠ 2) ||
      (within 8 40 (c.ssiBits n) && decide (4 ≤ c.pw n 1 23 16) && decide (1 ≤ c.pw n 1 15 8)))]

/-- SECURITY, PRESENCE, LOG, CONTROL and PROFILES (R474, R496, R457, R470). -/
def limSecurity (c : Cfg) : List (Nat × Bool) := [(474, c.hasWords 0xA0 1), (7, c.clear 0xA0 [(0, 20, 0)])]
def limPresence (c : Cfg) : List (Nat × Bool) :=
  [(474, c.hasWords 0xA1 1), (7, c.clear 0xA1 [(0, 29, 0)] && decide (c.f 0xA1 0 31 30 ≠ 3))]
def limLog (c : Cfg) : List (Nat × Bool) :=
  [(496, c.hasWords 0xB0 1), (7, c.clear 0xB0 [(0, 15, 0)]), (496, within 1 4 (c.f 0xB0 0 31 28) && within 1 4095 (c.f 0xB0 0 27 16))]
def limControl (c : Cfg) : List (Nat × Bool) :=
  [(457, c.hasWords 0xC0 7), (7, c.clear 0xC0 [(0, 10, 0), (2, 13, 0), (6, 25, 0)]), (457, c.b 0xC0 0 31 || c.b 0xC0 0 30),
    (457, !c.b 0xC0 0 30 || decide (c.f 0xC0 0 29 14 ≠ 0)), (457, decide (c.f 0xC0 2 31 26 ≤ 32 ∧ c.f 0xC0 6 31 26 ≤ 32)),
    (457, within 1 7 (c.f 0xC0 0 13 11))]
def limProfiles (c : Cfg) : List (Nat × Bool) :=
  let n := c.f 0xD0 0 5 0
  [(470, decide (n ≤ 32) && c.hasWords 0xD0 (1 + 16 * n)),
    (7, c.clear 0xD0 ((0, 31, 6) :: (List.range n).flatMap fun k =>
      [(5 + 16 * k, 31, 14), (7 + 16 * k, 7, 0), (10 + 16 * k, 15, 0), (12 + 16 * k, 31, 30), (13 + 16 * k, 31, 0),
        (14 + 16 * k, 31, 0), (15 + 16 * k, 31, 0), (16 + 16 * k, 31, 0)]) &&
      (List.range n).all fun k => decide (c.prof k 6 15 8 ≤ 240))]

/-- The rules of a section, in the order they are checked. -/
def limits (fits : Cfg → Nat → Nat → Bool) (c : Cfg) (id : Nat) : List (Nat × Bool) :=
  match id with
  | 0x01 => c.limSys | 0x02 => c.limClk | 0x03 => c.limLane | 0x04 => c.limDram | 0x05 => c.limGrotto
  | 0x10 => c.limSensor 0 | 0x11 => c.limSensor 1 | 0x12 => c.limAux | 0x13 => c.limPhase | 0x20 => c.limRawfe
  | 0x21 => c.limDefect | 0x22 => c.limStats | 0x30 => c.limColour
  | 0x31 => limBranch fits c 0 | 0x32 => limBranch fits c 1 | 0x33 => limBranch fits c 2 | 0x34 => limBranch fits c 3 | 0x35 => limBranch fits c 4
  | 0x36 => limBranch fits c 5 | 0x38 => c.limLut | 0x40 => c.limFsr | 0x41 => c.limHevc | 0x50 => c.limRecord
  | 0x51 => c.limMedia | 0x52 => c.limEndpoint | 0x60 => c.limHead 0 | 0x61 => c.limHead 1 | 0x62 => c.limHead 2
  | 0x63 => c.limHead 3 | 0x68 => c.limSdi | 0x69 => c.limDp | 0x6A => c.limNet | 0x70 => c.limAudio | 0x80 => c.limTime
  | 0x81 => c.limArray | 0x90 => c.limPos | 0xA0 => c.limSecurity | 0xA1 => c.limPresence | 0xB0 => c.limLog
  | 0xC0 => c.limControl | 0xD0 => c.limProfiles
  | _ => []

/-- The order in which step 7 configures the sections (R506). -/
def configOrder : List Nat :=
  [0x05, 0x04, 0x21, 0x38, 0x20, 0x01, 0x02, 0x03, 0x12, 0x13, 0x22, 0x30, 0x31, 0x32, 0x33, 0x34, 0x35, 0x36, 0x40, 0x41,
    0x50, 0x51, 0x52, 0x60, 0x61, 0x62, 0x63, 0x68, 0x69, 0x6A, 0x70, 0x80, 0x81, 0x90, 0xA0, 0xA1, 0xB0, 0xC0, 0xD0, 0x10, 0x11]

/-- The first rule that a configuration breaks: its section and the rule's number. fits says which slots a branch can select: those
of its own LUTSTORE, unless a branch restarts. -/
def broken (c : Cfg) (fits : Cfg → Nat → Nat → Bool := lutFits) : Option (Nat × Nat) :=
  (configOrder.filter c.has).findSome? fun id => ((limits fits c id).find? fun x => !x.2).map fun x => (id, x.1)

end Cfg

end Sys2Proof.Machine
end

