-- ==== Sys2Proof/Machine/Units.lean ====
section
/-! DEFINITION. Section restarts (R22 to R26, R450): the units of Table 1.5 and the parts of the image each restarts from, and the
commands UNIT_RESTART, RESTART_VERIFY_DONE, RESTART_UNIT_STOP, RESTART_DONE and RESTART_FAILED. -/

namespace Sys2Proof.Machine

/-- Kinds of units (Table 19.13): high byte of the code, how many, and the first ordinal. -/
def unitKinds : List (Nat × Nat × Nat) :=
  [(1, 4, 0), (2, 6, 4), (3, 2, 10), (4, 1, 12), (5, 4, 13), (6, 2, 17), (7, 1, 19), (8, 1, 20), (9, 4, 21), (10, 2, 25),
    (11, 2, 27), (12, 8, 29), (13, 8, 37)]

/-- The ordinal of a unit code; none names no unit. -/
def unitOrdinal (u : Nat) : Option Nat :=
  match unitKinds.find? fun k => k.1 = u / 256 with
  | some k => if u % 256 < k.2.1 then some (k.2.2 + u % 256) else none
  | none => none

/-- Unit codes in the order of their ordinals. -/
def unitCodes : List Nat := unitKinds.flatMap fun k => (List.range k.2.1).map (256 * k.1 + ·)

/-- A part of an image that a unit restarts from: a whole section, or some words of one with the bits it takes of each. -/
inductive UnitPart where
  | whole (id : Nat)
  | words (id : Nat) (ws : List (Nat × Word))
  deriving DecidableEq, Repr

def allBits : Word := BitVec.allOnes 32

/-- Words i to j of a section, whole. -/
def wordsOf (id : Nat) (is : List Nat) : UnitPart := .words id (is.map fun i => (i, allBits))

/-- Lane words. -/
def lanesPart (ls : List Nat) : UnitPart := wordsOf 0x0003 ls

/-- An entry goes with a unit that it names in the slot or in effect, unless another unit uses it now (R25; log 70). -/
def takesEntry (used mine slotMine : Bool) : Bool := if used && !mine then false else mine || slotMine

/-- Masks of byte i of AUDIO's route bytes (R344). -/
def routeByte (i : Nat) : Nat × Word := (58 + i / 4, BitVec.ofNat 32 (255 * 2 ^ (8 * (i % 4))))

namespace Cfg

/-- Heads of a head's unit, by the configuration in effect and by the slot's (R321). -/
def unitHeads (old new : Cfg) (h : Nat) : List Nat := if old.hdPair h || new.hdPair h then [h, h + 1] else [h]

/-- SDI and DisplayPort outputs and network streams of a head's unit (Table 1.5). -/
def headSdi (old new : Cfg) (hs : List Nat) : List Nat := (List.range 8).filter fun n =>
  takesEntry (old.soEn n) (old.soEn n && hs.contains (old.soHead n)) (new.soEn n && hs.contains (new.soHead n))
def headDp (old new : Cfg) (hs : List Nat) : List Nat := (List.range 2).filter fun d =>
  takesEntry (old.dpEn d) (old.dpEn d && hs.contains (old.dpHead d)) (new.dpEn d && hs.contains (new.dpHead d))
/-- A stream entry names one of some heads (R329). -/
def nvOfHead (c : Cfg) (hs : List Nat) (s : Nat) : Bool :=
  c.nvValid s && (c.nvKind s = 0 || c.nvKind s = 2) && hs.contains (c.nvSrc s)
/-- A stream entry of another kind, all of whose links are on one port. -/
def nvOfPort (c : Cfg) (n s : Nat) : Bool :=
  c.nvValid s && c.nvKind s ≠ 0 && c.nvKind s ≠ 2 && (c.nvLinks s).all fun k => k / 4 = n
def headNet (old new : Cfg) (hs : List Nat) : List Nat := (List.range 16).filter fun s =>
  takesEntry (old.nvValid s) (old.nvOfHead hs s) (new.nvOfHead hs s)
def portNet (old new : Cfg) (n : Nat) : List Nat := (List.range 16).filter fun s =>
  takesEntry (old.nvValid s) (old.nvOfPort n s) (new.nvOfPort n s)

def streamWords (ss : List Nat) : List Nat := ss.flatMap fun s => (List.range 6).map (24 + 6 * s + ·)

/-- Parts of a head's unit. -/
def headParts (old new : Cfg) (h : Nat) : List UnitPart :=
  let hs := unitHeads old new h
  let so := headSdi old new hs
  let dp := headDp old new hs
  (hs.map fun k => .whole (0x0060 + k)) ++
    [wordsOf 0x0068 so, wordsOf 0x0069 dp, wordsOf 0x006A (streamWords (headNet old new hs)),
      lanesPart ((so.map fun n => 44 + n) ++ dp.flatMap fun d => (List.range 4).map fun k => 54 + 4 * d + k)]

/-- Route bytes of a send stream, by the configuration in effect and with the channels of the slot's (log 70). -/
def routeOf (old new : Cfg) (n : Nat) : List (Nat × Word) :=
  (List.range (max (old.stCh n) (new.stCh n))).map fun k => routeByte (68 + old.txBase n + k)

/-- What a unit restarts from (Table 1.5). -/
def unitParts (old new : Cfg) (u : Nat) : List UnitPart :=
  let n := u % 256
  let four (b : Nat) : List Nat := (List.range 4).map (b + 4 * n + ·)
  match u / 256 with
  | 1 => headParts old new n
  | 2 => [.whole (0x0031 + n)]
  | 3 => [.whole (0x0010 + n)
      , lanesPart (if old.split || new.split then (List.range 8).map (8 * n + ·) else List.range 16)]
  | 4 => [.whole 0x0012]
  | 5 => [wordsOf 0x0051 [n], lanesPart (four 16)]
  | 6 => [wordsOf 0x006A ((List.range 12).map (12 * n + ·) ++ streamWords (portNet old new n)), lanesPart (four 36)]
  | 7 => [wordsOf 0x0052 [2], lanesPart [32, 33, 34, 35]]
  | 8 => [lanesPart [52, 53]]
  | 9 => [wordsOf 0x0070 ((1 + n) :: four 58)]
  | 10 => [.words 0x0070 [(5, BitVec.ofNat 32 (2 ^ (30 + n)))]]
  | 11 => [.words 0x0070 [(5, BitVec.ofNat 32 (2 ^ (28 + n) + 3 * 2 ^ (26 - 2 * n))), routeByte (64 + 2 * n), routeByte (65 + 2 * n)]]
  | 12 => [.words 0x0070 (((List.range 6).map fun k => (10 + 6 * n + k, allBits)) ++ routeOf old new n)]
  | 13 => [wordsOf 0x0090 ((List.range 6).map (6 * n + ·))]
  | _ => []

/-- Sections that hold the parts of a unit. -/
def unitSections (u : Nat) : List Nat :=
  match u / 256 with
  | 1 => [0x0060, 0x0061, 0x0062, 0x0063, 0x0068, 0x0069, 0x006A, 0x0003]
  | 2 => [0x0031 + u % 256] | 3 => [0x0010, 0x0011, 0x0003] | 4 => [0x0012] | 5 => [0x0051, 0x0003] | 6 => [0x006A, 0x0003]
  | 7 => [0x0052, 0x0003] | 8 => [0x0003] | 13 => [0x0090]
  | _ => [0x0070]

/-- A section put in its place. -/
def put (c : Cfg) (s : Sect) : Cfg := c.filter (fun x => decide (x.id < s.id)) ++ s :: c.filter fun x => decide (s.id < x.id)

/-- One word with the bits of a mask taken from another section's. -/
def takeWord (src ws : List Word) (x : Nat × Word) : List Word :=
  ws.set x.1 ((ws.getD x.1 0 &&& ~~~x.2) ||| (src.getD x.1 0 &&& x.2))

/-- One part taken from the slot: a section absent there reads 0, and one absent in effect begins as zeros (R450). -/
def takePart (slot c : Cfg) : UnitPart → Cfg
  | .whole id =>
    match slot.sect? id with
    | some s => c.put s
    | none => c.filter fun x => decide (x.id ≠ id)
  | .words id ws =>
    let base := match c.sect? id with
      | some s => some s
      | none => (slot.sect? id).map fun (s : Sect) => ⟨id, s.param, List.replicate s.words.length 0⟩
    match base with
    | some s => if ws.isEmpty then c else c.put { s with words := ws.foldl (takeWord (slot.ws id)) s.words }
    | none => c

/-- The configuration with a unit's parts taken from the slot. -/
def takeUnit (c slot : Cfg) (u : Nat) : Cfg := (unitParts c slot u).foldl (fun c' p => takePart slot c' p) c

/-- A part differs between two configurations. -/
def partDiffers (a b : Cfg) : UnitPart → Bool
  | .whole id => decide (a.sect? id ≠ b.sect? id)
  | .words id ws => ws.any fun x => decide (a.w id x.1 &&& x.2 ≠ b.w id x.1 &&& x.2)

/-- The unit's parts differ in the slot (R449). -/
def unitDiffers (c slot : Cfg) (u : Nat) : Bool := (unitParts c slot u).any (partDiffers c slot)

/-- Lanes of a unit. -/
def unitLanes (old new : Cfg) (u : Nat) : List Nat :=
  (unitParts old new u).flatMap fun p => match p with
    | .words 3 ws => ws.map (·.1)
    | _ => []

/-- What R220 holds fixed of a branch that feeds a valid stream: OUT_W, OUT_H, CHROMA, DEPTH, YCC, RANGE, ENCODE, PRIM. -/
def branchKept (old new : Cfg) (b : Nat) : Bool :=
  let id := Cfg.branchId b
  !((List.range 8).any fun s => old.hvValid s && old.hvSrc s = b) ||
    (old.w id 3 = new.w id 3 && old.f id 0 20 9 = new.f id 0 20 9)

end Cfg

/-- Sections of the active slot that a unit restarts from: none where the CRC or the DIGEST of one of them is wrong (R450). -/
def unitSlot (m : List Host.Cell) (u : Nat) : Option Cfg :=
  ((slotEntries m).filter fun x => (Cfg.unitSections u).contains x.id).mapM fun x => if x.intact m then x.load m else none

/-- The restart of a unit that is in progress (R26). -/
def Engine.unitRun (e : Engine) (u : Nat) : Option UnitRun := e.sys.units.find? (·.unit = u)

def Engine.modUnits (f : List UnitRun → List UnitRun) (e : Engine) : Engine := { e with sys := { e.sys with units := f e.sys.units } }

/-- Modes a restart request can meet (R23): the mode in effect, and every one that is pending. -/
def Engine.modesMet (e : Engine) : List Mode := e.sys.mode :: e.sys.pend.map (·.mode)

/-- A branch feeds the proxy, or with 6 the aux path does (R256). -/
def Cfg.feedsProxy (c : Cfg) (b : Nat) : Bool :=
  match c.proxyHevc with
  | some s => c.hvSrc s = b
  | none => false

/-- A port is recorded: by a Flowstone stream, or as the source of the proxy's branch. -/
def Cfg.recorded (c : Cfg) (p : Nat) : Bool :=
  (c.fsStreams.any fun s => c.fsSrc s = p) || (List.range 6).any fun b => c.brSrc b = p && c.hasBranch b && c.feedsProxy b

/-- Network port n is the only source of time for the servo that is followed, and the other has not qualified. -/
def Engine.onlyTime (e : Engine) (n : Nat) : Bool :=
  match e.followed with
  | some k => e.cfg.servoPort k n && !([0, 1, 2].any fun q => q ≠ n && e.cfg.servoPort k q) && !(e.servo (1 - k)).good
  | none => false

/-- The column "Refused when" of Table 1.5 (log 72). -/
def Engine.unitRefusal (e : Engine) (slot : Cfg) (u : Nat) : Option (Status × Reason) :=
  let n := u % 256
  let rec_ := e.modesMet.contains .record
  let st (b : Bool) : Option (Status × Reason) := if b then some (.state, .none) else none
  match u / 256 with
  | 1 =>
    if n % 2 = 1 && e.cfg.hdPair (n - 1) then some (.refused, .checkFailed)
    else if 167772160 < (e.cfg.takeUnit slot u).hdStores then some (.refused, .noRoom)
    else none
  | 2 => st (rec_ && e.cfg.feedsProxy n)
  | 3 => st (rec_ && e.cfg.recorded n)
  | 4 => st (rec_ && e.cfg.feedsProxy 6)
  | 5 => st ((rec_ && e.inSet n) || (e.modesMet.contains .review && (match e.rec_.play with
      | some p => p.ports.contains n
      | none => false)))
  | 6 => if e.onlyTime n then some (.refused, .checkFailed) else none
  | 7 => st (e.modesMet.contains .offload)
  | 8 => if e.cfg.lnRate 52 ≠ 0 ∧ e.clk.selected = some .refin then some (.refused, .checkFailed) else none
  | _ => none

/-- A restart begins at step 2 of R23: for a client, or by the engine itself at the end of a lane test (R55). -/
def Engine.unitBegin (u : Nat) (client : Option Client) (seq : Nat) (e : Engine) : Engine :=
  e.modUnits fun l => l ++ [⟨u, .verifying, client, seq, e.now, 0, false⟩]

/-- UNIT_RESTART (R22, R23, R26, R450). -/
def Engine.unitRestart (f : Flash) (h : MsgHdr) (u : Nat) (e : Engine) : Engine :=
  if 65535 < u then e.refuse h 0x0102 .malformed .none
  else if (unitOrdinal u).isNone then e.refuse h 0x0102 .notFound .none
  else if (e.unitRun u).isSome || e.sys.committing then e.refuse h 0x0102 .busy .none
  else
    match e.unitRefusal ((unitSlot (e.activeSlot f) u).getD []) u with
    | some (st, rs) => e.refuse h 0x0102 st rs
    | none => (e.unitBegin u (some h.client) h.seq).ok h 0x0102

def execUnitRestart (t : Nat) (h : MsgHdr) (unit : Nat) (s : State) : Out :=
  s.runWith t fun f _ e => e.request h 0x0102 (·.unitRestart f h unit)

/-- UNIT_STATE (Table 19.11): 0 DONE, 1 REJECTED, 2 FAILED. -/
def Engine.unitState (r : UnitRun) (state value : Nat) (e : Engine) : Engine :=
  e.notify 0x0504 r.client (le 2 r.unit ++ le 1 state ++ le 1 0 ++ le 4 value)

/-- Step 2 of R23 passes: CRC, DIGEST, and the rules of the configuration as it will be (R450, R220). -/
def Engine.unitPasses (e : Engine) (f : Flash) (u : Nat) : Bool :=
  match unitSlot (e.activeSlot f) u with
  | none => false
  | some slot =>
    let c := e.cfg.takeUnit slot u
    -- the branch that restarts meets the LUT store as it is (R165)
    let fits (c : Cfg) (b k : Nat) : Bool := if u = 0x0200 + b then e.storeFits c b k else c.lutFits b k
    (c.broken fits).isNone && (u / 256 ≠ 2 || e.cfg.branchKept c (u % 256))

/-- RESTART_VERIFY_DONE (R23 steps 2 and 3). -/
def Engine.restartVerifyDone (f : Flash) (u : Nat) (e : Engine) : Engine :=
  match e.unitRun u with
  | none => e
  | some r =>
    if r.step ≠ .verifying then e
    else if e.unitPasses f u then
      e.modUnits fun l => l.map fun x => if x.unit = u then { x with step := .verified } else x
    else
      let e := (e.modUnits fun l => l.filter (·.unit ≠ u)).bump .restartRejected 0x0350
      (e.emit 0x0350 .restartRejected (evData [(2, u), (2, Reason.checkFailed.code)])).unitState r 1 Reason.checkFailed.code

/-- The unit's number is its kind and its index within the kind (Table 1.5). -/
def execRestartVerifyDone (t : Nat) (kind index : Nat) (s : State) : Out :=
  s.runWith t fun f _ e => e.whenLive (·.restartVerifyDone f (256 * kind + index))

/-- Changes in the order in which they gave values: by their from, those added last behind their equals (R101). -/
def insChange (x : Change) : List Change → List Change
  | [] => [x]
  | y :: r =>
    if decide (0 ≤ y.from_) && (decide (x.from_ < 0) || decide (cfnDiff x.from_.toNat y.from_.toNat < 0)) then x :: y :: r
    else y :: insChange x r

/-- The capture run of a port ends (R89): what has landed stays, what has not is dropped (log 38). -/
def Engine.portRunEnd (p : Nat) (e : Engine) : Engine :=
  let keep (q : Port) (x : Change) : Bool := decide (x.from_ < 0) || (q.joined && decide (0 ≤ cfnDiff q.cfn x.from_.toNat))
  e.modPort p fun q => { q with
    joined := false, cap := .idle, changes := ((q.changes.filter (keep q)).foldl (fun l x => insChange x l) []).map fun x => { x with from_ := -1 } }

/-- The capture run ends (R89, R161, R179; log 38). -/
def Engine.runEnd (e : Engine) : Engine :=
  let e := (e.reloadRunEnd.looksRunEnd.portRunEnd 0).portRunEnd 1
  { e with proj := { e.proj with run := false } }

/-- The run of one port ends; the other's goes on, if it has joined (R89). -/
def Engine.portLeaves (p : Nat) (e : Engine) : Engine :=
  if e.proj.run && !(e.port (1 - p)).joined then e.runEnd else e.portRunEnd p

/-- The states of streams follow what is configured: those of a unit stop or go on (R335). -/
def Engine.netSet (mine : Nat → Bool) (on : Bool) (e : Engine) : Engine :=
  (List.range 16).foldl (fun e s =>
    if !e.cfg.nvValid s then e.modNet s fun q => { q with state := 0 }
    else if mine s then
      e.modNet s fun q => { q with state := if on && !(e.clk.classV && decide (e.cfg.nvKind s ≤ 4)) then 1 else 2 }
    else e) e

/-- A DisplayPort output of a unit that stops: its link trains anew (log 52). -/
def Engine.dpStop (d : Nat) (e : Engine) : Engine :=
  if e.cfg.dpEn d then e.modDp d fun q => { q with link := if q.link = 0 then 0 else 1, lanes := 0, rate := 0 }
  else e.modDp d fun _ => ⟨0, 0, 0, [], 0, 0⟩

/-- Sources and outputs of an audio unit. -/
def audUnit (u : Nat) : List Nat × List Nat :=
  let n := u % 256
  match u / 256 with
  | 9 => ([n], [n]) | 10 => ([4 + n], []) | 11 => ([], [4 + n])
  | _ => ([6 + n], [6 + n])

/-- A unit stops (R23 step 4, Table 1.5), while the old configuration is in effect. -/
def Engine.unitStop (hs : List Nat) (u : Nat) (e : Engine) : Engine :=
  let n := u % 256
  match u / 256 with
  | 1 => (hs.foldl (fun e h => e.headHold h) e).netSet (e.cfg.nvOfHead hs) false
  | 2 => { e with colour := { e.colour with branches := vmod e.colour.branches n fun b => { b with state := .stopped } } }
  | 3 => (((e.closeFrame n false).portLeaves n).calAbandon n).modPort n fun q => { q with owed := [], link := .off, lanesNow := 0, rateNow := 0 }
  | 4 => { e with aux := { Aux.reset with nextAfn := e.aux.nextAfn } }
  | 5 => if (e.mport n).state = .empty then e else e.driveLost n .linking
  | 6 => e.netSet (e.cfg.nvOfPort n) false
  | 7 => e.epLinkDown
  | 8 => (e.sdiInLoss 0).sdiInLoss 1
  | 13 => e
  | _ => e.audStop (audUnit u).1 (audUnit u).2

/-- The hardware of the unit is configured (R23 step 5): its lanes come up, and a sensor port trains. -/
def Engine.unitSetUp (old : Cfg) (ls : List Nat) (u : Nat) (e : Engine) : Engine :=
  let e := ls.foldl (fun e l => (e.laneConfigure l).modLane l fun q => { q with txHeld := laneVideo l }) e
  let n := u % 256
  let e := e.gatesFollow
  match u / 256 with
  | 1 => (((List.range 2).foldl (fun e d => if ls.contains (54 + 4 * d) then e.dpStop d else e) e).netSet (fun _ => false) false).sdiSync
  | 3 => if e.cfg.hasPort n then e.startTraining n false else e
  | 6 => e.netSet (fun _ => false) false
  | 13 => e.posStop old n
  | _ => e

/-- Digests of whole sections as a unit has taken them. -/
def Sys.takeDigests (s : Sys) (slot : List (Nat × Nat)) (ids : List Nat) : List (Nat × Nat) :=
  s.digests.filter (fun d => !ids.contains d.1) ++ slot.filter fun d => ids.contains d.1

/-- Whole sections among the parts of a unit. -/
def wholeIds (ps : List UnitPart) : List Nat := ps.filterMap fun p => match p with
  | .whole id => some id
  | .words _ _ => none

/-- RESTART_UNIT_STOP (R23 steps 4 and 5): at the unit's boundary it stops and is configured. -/
def Engine.restartUnitStop (f : Flash) (u : Nat) (e : Engine) : Engine :=
  match e.unitRun u with
  | none => e
  | some r =>
    if r.step ≠ .verified then e
    else
      let m := e.activeSlot f
      let slot := (unitSlot m u).getD []
      let old := e.cfg
      let new := old.takeUnit slot u
      let ls := Cfg.unitLanes old slot u
      let ids := wholeIds (Cfg.unitParts old slot u)
      let hs := Cfg.unitHeads old slot (u % 256)
      let run (x : UnitRun) : UnitRun :=
        if x.unit = u then { x with step := .stopped, stoppedAt := e.now, pair := decide (1 < hs.length) } else x
      let e := e.modUnits fun l => l.map run
      let e := e.unitStop hs u
      let e : Engine := { e with
        cfg := new
        sys := { e.sys with
          digests := e.sys.takeDigests (slotDigests m) ids
          failed := e.sys.failed.filter fun k => unitOrdinal u ≠ some k } }
      e.unitSetUp old ls u

def execRestartUnitStop (t : Nat) (unit : Nat) (s : State) : Out :=
  s.runWith t fun f _ e => e.whenLive (·.restartUnitStop f unit)

/-- A unit resumes as it is configured (R23 step 6). -/
def Engine.unitResume (pair : Bool) (u : Nat) (e : Engine) : Engine :=
  let n := u % 256
  match u / 256 with
  | 1 =>
    let hs := if pair then [n, n + 1] else [n]
    let e := hs.foldl (fun e h => if e.clk.classV then (e.headStart h).headHold h else e.headStart h) e
    let e := (e.cfg.headLanes hs).foldl (fun e l => e.modLane l fun q => { q with txPs := if q.txPs = 1 then 0 else q.txPs }) e
    (e.netSet (e.cfg.nvOfHead hs) true).sdiSync
  | 2 => { e with colour := { e.colour with branches := vmod e.colour.branches n fun b => { b with
      state := if e.cfg.hasBranch n then .running else .off } } }
  | 5 =>
    e.driveStart n
  | 6 => e.netSet (e.cfg.nvOfPort n) true
  | 7 => e.epTrain
  | 13 => e.posResume n
  | 9 | 10 | 11 | 12 => e.audStart (audUnit u).1 (audUnit u).2
  | _ => e

/-- RESTART_DONE (R23 step 6): the outage in microseconds. -/
def Engine.restartDone (u : Nat) (e : Engine) : Engine :=
  match e.unitRun u with
  | none => e
  | some r =>
    if r.step ≠ .stopped then e
    else
      let out := (e.now - r.stoppedAt) / 65536000
      let e := (e.modUnits fun l => l.filter (·.unit ≠ u)).unitResume r.pair u
      (e.emit 0x0350 .restartDone (evData [(2, u), (4, out)])).unitState r 0 out

def execRestartDone (t : Nat) (unit : Nat) (s : State) : Out := s.run t fun e => e.whenLive (·.restartDone unit)

/-- A unit stays in its stopped behaviour, shown FAILED (R24). -/
def Engine.unitFail (u : Nat) (e : Engine) : Engine :=
  let n := u % 256
  match u / 256 with
  | 1 => (e.modHead n fun q => { q with state := 3 }).sdiSync
  | 2 => { e with colour := { e.colour with branches := vmod e.colour.branches n fun b => { b with state := .failed } } }
  | _ => e

/-- RESTART_FAILED (R24): the maximum outage of Table 1.5 has passed. -/
def Engine.restartFailed (u : Nat) (e : Engine) : Engine :=
  match e.unitRun u, unitOrdinal u with
  | some r, some k =>
    if r.step ≠ .stopped then e
    else
      let e := e.modUnits fun l => l.filter (·.unit ≠ u)
      let e : Engine := { e with sys := { e.sys with failed := e.sys.failed ++ [k] } }
      ((e.unitFail u).emit 0x0350 .restartFailed (evData [(2, u)])).unitState r 2 ((e.now - r.stoppedAt) / 65536000)
  | _, _ => e

def execRestartFailed (t : Nat) (unit : Nat) (s : State) : Out := s.run t fun e => e.whenLive (·.restartFailed unit)

/-- The lane tests end as SERVICE is left: each unit returns to its configuration by a restart (R55). -/
def Engine.laneTestsEnd (e : Engine) : Engine :=
  let us := nubList (((List.range 62).filter fun l => (e.lane l).test).map e.cfg.laneUnit)
  let e : Engine := { e with lanes := e.lanes.map fun q =>
    if q.test then { q with test := false, loopback := 0, pattern := 0, prbsLock := false } else q }
  us.foldl (fun e u => if (e.unitRun u).isSome then e else e.unitBegin u none 0) e

end Sys2Proof.Machine
end

