-- ==== Sys2Proof/Machine/Modes.lean ====
section
/-! DEFINITION. Operating modes, record controls and the project frame boundary at which they take effect (R15 to R21, R87 to
R89, R257, R258, R381, R465, R469, R511): MODE_SET, AUTO_PREVIEW, RECORD_START, RECORD_STOP, ARRAY_RECORD_START,
ARRAY_RECORD_STOP and PROJECT_FRAME_BOUNDARY. -/

namespace Sys2Proof.Machine

/-- Modes by their codes (Table 1.3). -/
def modeOf : Nat → Option Mode
  | 0 => some .standby | 1 => some .preview | 2 => some .record | 3 => some .review | 4 => some .offload | 5 => some .service
  | _ => none

/-- Transitions a mode request makes (Table 1.4, entries M). -/
def modeAllowed : Mode → Mode → Bool
  | .standby, .preview | .standby, .review | .standby, .offload | .standby, .service => true
  | .preview, .standby | .preview, .review | .preview, .offload | .preview, .service => true
  | .review, .standby | .review, .preview | .review, .offload => true
  | .offload, .standby | .offload, .preview | .offload, .review => true
  | .service, .standby | .service, .preview => true
  | _, _ => false

def Engine.addPend (p : PendMode) (e : Engine) : Engine := { e with sys := { e.sys with pend := e.sys.pend ++ [p] } }

/-- A mode request that has been accepted (R18): its boundary lies at least 2 ms ahead. -/
def Engine.pendRequest (m : Mode) (preview : Bool) (c : Option Client) (seq : Nat) (e : Engine) : Engine :=
  let flag := preview && (m = .review || m = .offload || m = .service)
  e.addPend ⟨.request, m, flag, e.now + ms 2, none, false, c, 0x0101, seq, false, [], 0, none, true⟩

/-- MODE_SET (R15, R17 to R19, R21). The PREVIEW flag of STANDBY and PREVIEW is not used (log 73). -/
def Engine.modeSet (h : MsgHdr) (mode : Nat) (preview : Bool) (e : Engine) : Engine :=
  match modeOf mode with
  | none => e.refuse h 0x0101 .malformed .none
  | some m =>
    if e.sys.lampOpen || !modeAllowed e.modeThen m then e.refuse h 0x0101 .state .none
    else (e.ok h 0x0101).pendRequest m preview (some h.client) h.seq

def execModeSet (t : Nat) (h : MsgHdr) (mode : Nat) (preview : Bool) (s : State) : Out :=
  s.run t fun e => e.request h 0x0101 (·.modeSet h mode preview)

/-- One of the moments of R511 has come. -/
def Engine.autoMoment (e : Engine) : Bool :=
  !e.cfg.ptpEn || !e.cfg.stepAuto || e.time.valid || decide (e.sys.step8At + secs 10 ≤ e.now)

/-- AUTO_PREVIEW (R511): a mode request for PREVIEW of the engine's own, taken under R17 to R19. -/
def Engine.autoPreview (e : Engine) : Engine :=
  if !e.sys.autoDue || !e.autoMoment then e
  else
    let e : Engine := { e with sys := { e.sys with autoDue := false } }
    if e.sys.lampOpen || !modeAllowed e.modeThen .preview then e else e.pendRequest .preview false none 0

def execAutoPreview (t : Nat) (s : State) : Out := s.run t fun e => e.whenLive (·.autoPreview)

/-- CFN of the first project frame of the run that begins at or after an instant. -/
def Engine.boundaryCfn (e : Engine) (t : Nat) : Nat :=
  let n := e.cfg.phases
  let at_ (k : Nat) : Nat := cfnAdd e.proj.baseCfn ((k + 1) * n : Nat)
  match (List.range 64).find? fun k => (t : Int) ≤ e.slotOf (at_ k) with
  | some k => at_ k
  | none => at_ 64

/-- CFN of the boundary at which the last pending change of a run takes effect: one a boundary, in order (R19). -/
def Engine.pendLast (e : Engine) : Option Nat :=
  e.sys.pend.foldl (fun (a : Option Nat) p =>
    let b := match p.cfn with
      | some c => c
      | none => e.boundaryCfn p.notBefore
    some (match a with
      | some l => latestCfn [b, cfnAdd l (e.cfg.phases : Nat)]
      | none => b)) none

/-- Where a record control lands in a run, and LATE (R18, R104, R465). -/
def Engine.recLand (e : Engine) (target : Option Nat) : Nat × Bool :=
  let first := e.roundProj e.reachCfn
  let first := match e.pendLast with
    | some l => latestCfn [first, cfnAdd l (e.cfg.phases : Nat)]
    | none => first
  match target with
  | some t => let c := if cfnDiff t first < 0 then first else e.roundProj t; (c, decide (c ≠ t))
  | none => (first, false)

/-- A record control is accepted: it lands in the run, or is held for the next one (R465). -/
def Engine.recAccept (h : MsgHdr) (ty : Nat) (p : PendMode) (target : Option Nat) (e : Engine) : Engine :=
  if e.proj.run then
    let (c, late) := e.recLand target
    ((e.ok h ty).addPend { p with cfn := some c, late := late, told := true }).landed h.client ty h.seq c 0 late false
  else
    let first := e.sys.pend.isEmpty
    let e := (e.ok h ty).addPend { p with held := true, told := first }
    if first then e.landed h.client ty h.seq 0 0 false false else e

/-- A record start that its rules allow: the recording set is chosen and becomes read-only (R258, R287). -/
def Engine.recStartAccept (h : MsgHdr) (ty reel : Nat) (clip target : Option Nat) (e : Engine) : Engine :=
  let set := e.recSet
  let p : PendMode := ⟨.recStart, .record, false, e.now, none, false, some h.client, ty, h.seq, false, set, reel, clip, false⟩
  let e := set.foldl (fun e m => e.modMedia m fun q => { q with state := .recording }) e
  (e.recAccept h ty p target).epSync

/-- A record start refused by R258 is counted. -/
def Engine.recRefuse (h : MsgHdr) (ty : Nat) (rs : Reason) (e : Engine) : Engine :=
  (e.refuse h ty .refused rs).bump .recStartRefused 0x0200

/-- RECORD_START (R18, R19, R258, R465). -/
def Engine.recordStart (ks : KeyStore) (h : MsgHdr) (tg : Target) (vols : List VolNow) (e : Engine) : Engine :=
  if !targetOk tg false false then e.refuse h 0x0301 .malformed .none
  else if e.modeThen ≠ .preview then e.refuse h 0x0301 .state .none
  else if !e.proj.run && !tg.asap then e.refuse h 0x0301 .state .noRun
  else
    let e := e.readVolumes vols
    match e.recordRefusal ks e.rec_.reel none with
    | some n => e.recRefuse h 0x0301 (.recordBullet n)
    | none => e.recStartAccept h 0x0301 e.rec_.reel none (if tg.asap then none else some tg.target)

def execRecordStart (t : Nat) (h : MsgHdr) (tg : WithVols Target) (s : State) : Out :=
  s.runWith t fun _ ks e => e.request h 0x0301 (·.recordStart ks h tg.val tg.vols)

/-- A record stop that its rules allow. -/
def Engine.recStopAccept (h : MsgHdr) (ty : Nat) (target : Option Nat) (e : Engine) : Engine :=
  e.recAccept h ty ⟨.recStop, .preview, false, e.now, none, false, some h.client, ty, h.seq, false, [], 0, none, false⟩ target

/-- RECORD_STOP (R18, R19, R272, R465). -/
def Engine.recordStop (h : MsgHdr) (tg : Target) (e : Engine) : Engine :=
  if !targetOk tg false false then e.refuse h 0x0302 .malformed .none
  else if e.modeThen ≠ .record then e.refuse h 0x0302 .state .none
  else if !e.proj.run && !tg.asap then e.refuse h 0x0302 .state .noRun
  else e.recStopAccept h 0x0302 (if tg.asap then none else some tg.target)

def execRecordStop (t : Nat) (h : MsgHdr) (tg : Target) (s : State) : Out :=
  s.run t fun e => e.request h 0x0302 (·.recordStop h tg)

/-- Capture frames from the current one to the first slot of a project frame (R381). -/
def Engine.framesTo (e : Engine) (pfi : Nat) : Int :=
  ((pfi : Int) - e.proj.pfi) * e.cfg.phases + cfnDiff e.proj.baseCfn (e.frameNow.getD 0)

/-- The CFN that a project frame index names, for R18: one that lies further back than a CFN can say has passed (R381). -/
def Engine.pfiTarget (e : Engine) (pfi : Nat) : Nat := cfnAdd (e.frameNow.getD 0) (max (e.framesTo pfi) (-2147483648))

/-- Why an array request is turned away before its own rules (R469, R381). -/
def Engine.arrayRefusal (e : Engine) (pfi : Nat) (asap : Bool) (arrayId : Nat) (need : Mode) : Option (Status × Reason) :=
  if !e.cfg.arrayEn || arrayId ≠ e.cfg.arrayId then some (.refused, .notConfigured)
  else if e.modeThen ≠ need then some (.state, .none)
  else if !e.proj.run && !asap then some (.state, .noRun)
  else if !asap && decide (2147483647 < e.framesTo pfi) then some (.refused, .targetRange)
  else none

/-- A clip folder of the name of one of the record start's clips is on a drive of the set (R381). -/
def Engine.clipExists (e : Engine) (reel clip : Nat) : Bool :=
  e.recSet.any fun m => e.cfg.fsStreams.any fun s => (e.mport m).folders.contains ⟨e.cfg.letter s, reel, e.deviceId, clip⟩

/-- ARRAY_RECORD_START (R381, R469). -/
def Engine.arrayRecordStart (ks : KeyStore) (h : MsgHdr) (pfi : Nat) (asap : Bool) (reel clip arrayId : Nat) (vols : List VolNow)
    (e : Engine) : Engine :=
  let ty := 0x0803
  let shared := e.cfg.sharedClip
  if e.cfg.arrayEn && arrayId = e.cfg.arrayId &&
      (if shared then !(decide (1 ≤ reel ∧ reel ≤ 999 ∧ 1 ≤ clip)) else reel ≠ 0 || clip ≠ 0) then e.refuse h ty .malformed .none
  else
    match e.arrayRefusal pfi asap arrayId .preview with
    | some (st, rs) => e.refuse h ty st rs
    | none =>
      let r := if shared then reel else e.rec_.reel
      let c := if shared then some clip else none
      let e := e.readVolumes vols
      match e.recordRefusal ks r c with
      | some n => e.recRefuse h ty (.recordBullet n)
      | none =>
        if shared && e.clipExists reel clip then e.recRefuse h ty .checkFailed
        else e.recStartAccept h ty r c (if asap then none else some (e.pfiTarget pfi))

def execArrayRecordStart (t : Nat) (h : MsgHdr) (pfi : Nat) (asap : Bool) (reel : Nat) (clip : WithVols Nat) (arrayId : Nat)
    (s : State) : Out :=
  s.runWith t fun _ ks e => e.request h 0x0803 (·.arrayRecordStart ks h pfi asap reel clip.val arrayId clip.vols)

/-- ARRAY_RECORD_STOP (R381, R469). -/
def Engine.arrayRecordStop (h : MsgHdr) (pfi : Nat) (asap : Bool) (arrayId : Nat) (e : Engine) : Engine :=
  match e.arrayRefusal pfi asap arrayId .record with
  | some (st, rs) => e.refuse h 0x0804 st rs
  | none => e.recStopAccept h 0x0804 (if asap then none else some (e.pfiTarget pfi))

def execArrayRecordStop (t : Nat) (h : MsgHdr) (pfi : Nat) (asap : Bool) (arrayId : Nat) (s : State) : Out :=
  s.run t fun e => e.request h 0x0804 (·.arrayRecordStop h pfi asap arrayId)

/-- A calibration capture begins on every configured port (R482). -/
def Engine.calBegin (e : Engine) : Engine :=
  let one (p : Nat) : Option CalCap := if e.cfg.hasPort p then some ⟨[], 0, 0, 0, 0, 0, 0⟩ else none
  { e with cluster := { e.cluster with cal := Vector.ofFn fun (i : Fin 2) => one i } }

/-- What leaving a mode ends: the start-up window (R368); the staged command, lane tests and calibration captures (R472, R55,
R482); playback. -/
def Engine.modeLeave (e : Engine) : Engine :=
  match e.sys.mode with
  | .standby => e.modTime fun b => { b with window := false }
  | .service => ((e.gatedCancelled.laneTestsEnd).calAbandon 0).calAbandon 1
  | .review => e.playEnd
  | _ => e

/-- A mode takes effect (R18): MODE_CHANGED. -/
def Engine.modeEnter (m : Mode) (preview : Bool) (owner : Option Client) (e : Engine) : Engine :=
  let old := e.sys.mode
  let e := e.modeLeave
  let e : Engine := { e with sys := { e.sys with mode := m, preview := preview } }
  let e := if m = .service && preview then e.calBegin else e
  e.notify 0x0503 owner (le 1 old.code ++ le 1 m.code ++ le 1 (bit preview) ++ le 1 0 ++ le 8 e.proj.pfi)

/-- LANDED of a control that was held behind another change (R465). -/
def Engine.tellLanded (p : PendMode) (c : Nat) (e : Engine) : Engine :=
  match p.told, p.client with
  | false, some cl => e.landed cl p.ty p.seq c 0 p.late false
  | _, _ => e

/-- A change takes effect at a boundary whose first slot has a CFN (R18, R257, R272). A record start whose drives have all gone
ends at once (R20). -/
def Engine.pendApply (ks : KeyStore) (base : Nat) (p : PendMode) (e : Engine) : Engine :=
  let e := e.tellLanded p base
  match p.kind with
  | .request => e.modeEnter p.mode p.preview p.client
  | .recStop => (e.recStopAt base).modeEnter .preview false p.client
  | .recStart =>
    let e := (e.recBegin ks base p).modeEnter .record false p.client
    match e.recNow with
    | some t => if t.live.isEmpty then (e.recEnd t.id (cfnAdd base (-1)) 2).recReturn else e
    | none => e

/-- A port can take part in a capture run (R89). -/
def Engine.portReady (e : Engine) (p : Nat) : Bool :=
  e.cfg.hasPort p && (e.port p).link = .up && !e.unitHeld (0x0300 + p) (10 + p)

/-- The strobe at this boundary carries the p of CFN 0, where PHASE_IN leads (R113). -/
def Engine.strobeFits (e : Engine) : Bool :=
  !e.cfg.phaseSrc || match e.phaseIn.lastStrobe, e.phaseIn.lastCode with
    | some t, some c => decide (((e.now : Int) - t).natAbs ≤ us e.cfg.inTol) && c = e.cfg.phaseOf 0
    | _, _ => false

/-- The schedule of an array member begins at this project frame (R380). -/
def Engine.scheduleFits (e : Engine) : Bool :=
  !(e.cfg.arrayEn && e.cfg.schedEn) || e.proj.pfi % max 1 ((e.cfg.schedLen + 1) / e.cfg.phases) = 0

/-- A capture run can start at this boundary (R89). -/
def Engine.canStart (e : Engine) : Bool :=
  e.sys.sensorsLive && !e.clk.classV && (e.portReady 0 || e.portReady 1) && e.scheduleFits && e.strobeFits

/-- A port starts or joins the run (R89): CAPTURE_START with the port, its first CFN and the DTB of its slot. -/
def Engine.portJoin (p : Nat) (e : Engine) : Engine :=
  if (e.port p).joined || !e.portReady p || e.clk.classV then e
  else
    let c := e.proj.nextCfn
    let e := e.modPort p fun q => { q with
      joined := true, cap := .running, nextTrig := c, firstCfn := c, early := [] }
    let e : Engine := { e with raw := { e.raw with ports := vmod e.raw.ports p fun (q : RawPort) => { q with
      blackRun := Vector.replicate 64 false, tnr := Vector.replicate 8 none, tnrSeen := Vector.replicate 8 false } } }
    let at_ : Int := e.dtb + (e.slotBy c - e.now)
    e.emit (portSrc p) .captureStart (evData [(1, p), (4, c), (8, dtbSec at_), (4, dtbNs at_)])

/-- The run starts (R88, R89): CFN 0, and everything that counts by runs begins anew. -/
def Engine.runStart (e : Engine) : Engine :=
  let e : Engine := { e with
    proj := { e.proj with run := true, baseCfn := 0, nextCfn := 0, kept := [] }
    raw := { e.raw with trackFull := false }
    md := { e.md with codec := [] } }
  let e := (e.modPort 0 fun q => { q with owed := [] }).modPort 1 fun q => { q with owed := [] }
  e.fsrRunStart.hevcRunStart.looksRunStart

/-- CAP_STATE of a port that has not started or joined: WAIT_LINK while sensors are live, otherwise IDLE; PAUSED while Class V
lasts (Table 5.10). -/
def Engine.capStates (e : Engine) : Engine :=
  let one (p : Nat) (e : Engine) : Engine :=
    e.modPort p fun q => { q with
      cap := if q.joined then (if e.clk.classV then .paused else .running)
        else if e.sys.sensorsLive && e.cfg.hasPort p then .waitLink else .idle }
  one 1 (one 0 e)

/-- Controls still held when a run starts land on its next project frames, one a boundary (R465). -/
def Engine.heldLand : (k : Nat) → List PendMode → Engine → Engine
  | _, [], e => e
  | k, p :: r, e =>
    let c := cfnAdd 0 ((k * e.cfg.phases : Nat) : Int)
    let e := if p.held then e.tellLanded p c else e
    let q := if p.held then { p with held := false, cfn := some c, told := true } else p
    heldLand (k + 1) r { e with sys := { e.sys with pend := e.sys.pend ++ [q] } }

def Engine.heldAll (e : Engine) : Engine := Engine.heldLand 1 e.sys.pend { e with sys := { e.sys with pend := [] } }

/-- The first pending change takes effect at this boundary (R18, R19): a held one where a run starts. -/
def Engine.pendDue (e : Engine) (p : PendMode) : Bool :=
  if p.held then !e.proj.run && e.canStart
  else match p.cfn with
    | some c => e.proj.run && decide (0 ≤ cfnDiff e.proj.baseCfn c)
    | none => decide (p.notBefore ≤ e.now)

/-- A project frame begins: its start and index (R87, R373), and the CFN of its first slot; under Class V the slots that are
not captured are not counted. -/
def Engine.frameBegin (e : Engine) : Engine :=
  let p := e.proj
  let k := (e.cfg.nearestIndex e.dtb).toNat
  let n := e.cfg.phases
  let base := if p.run then
      let b := cfnAdd p.nextCfn (-((p.nextCfn % n : Nat) : Int))
      if e.clk.classV then cfnAdd b (-(n : Int)) else b
    else cfnAdd p.baseCfn (n : Nat)
  { e with
    proj := { p with
      kept := ((e.port 0).owed ++ (e.port 1).owed).map fun c => (c, e.slotOf c)
      started := true, prevStart := if p.started then p.start else e.now - e.cfg.projTicks
      prevPfi := if p.started then p.pfi else k - 1, start := e.now, pfi := k, slot := 0, baseCfn := base, lengthened := false
      stretch := 0 }
    phaseIn := { e.phaseIn with realign := false } }

/-- The mode change of this boundary (R19, R26): the first pending one, when it is due. -/
def Engine.boundaryMode (ks : KeyStore) (e : Engine) : Engine :=
  match e.sys.pend with
  | [] => e
  | p :: r =>
    if e.pendDue p && !p.held then
      Engine.pendApply ks e.proj.baseCfn p { e with sys := { e.sys with pend := r } }
    else e

/-- The run of this boundary ends, starts or goes on, and ports join it (R89); a held record control takes effect with CFN 0. -/
def Engine.boundaryRun (ks : KeyStore) (e : Engine) : Engine :=
  if e.proj.run then
    if e.sys.sensorsLive then (e.portJoin 0).portJoin 1 else e.runEnd
  else if e.canStart then
    let e := (e.runStart.portJoin 0).portJoin 1
    match e.sys.pend with
    | [] => e
    | p :: r =>
      if p.held && e.sys.mode = (if p.kind = .recStart then .preview else .record) then
        let e := Engine.pendApply ks 0 p { e with sys := { e.sys with pend := r } }
        e.heldAll
      else e.heldAll
  else e

/-- The strobe that now comes ends a lengthened project frame (R112): its code is the p of slot position 0 of the next. -/
def Engine.realigned (e : Engine) : Bool :=
  match e.phaseIn.lastStrobe, e.phaseIn.lastCode with
  | some t, some c => decide (((e.now : Int) - t).natAbs ≤ us e.cfg.inTol) && c = e.cfg.phaseOf (e.frameBegin.slotCfn 0)
  | _, _ => false

/-- PROJECT_FRAME_BOUNDARY (R87, R18, R89, R394, R112, R116, R341, R465). A boundary has one mode change at most: a held control
waits for the next where another has taken effect (R465). -/
def Engine.projectFrameBoundary (ks : KeyStore) (e : Engine) : Engine :=
  if e.phaseIn.realign && !e.classVRelease.realigned then e else
  let e := e.classVRelease.frameBegin
  let n := e.sys.pend.length
  let e := e.boundaryMode ks
  let e := if e.sys.pend.length < n && !e.proj.run && e.canStart then ((e.runStart.portJoin 0).portJoin 1).heldAll
    else e.boundaryRun ks
  let e := (e.capStates.auxTake.audFrameEnd e.proj.baseCfn).selsAtBoundary
  let e := if e.proj.run then e else e.lutSwaps none e.now
  e.recPump.epPump

def execProjectFrameBoundary (t : Nat) (s : State) : Out :=
  s.runWith t fun _ ks e => e.whenLive (·.projectFrameBoundary ks)

end Sys2Proof.Machine
end

