-- ==== Sys2Proof/Machine/Startup.lean ====
section
/-! DEFINITION. Start-up and the full restart (R9, R27, R446, R447, R503 to R513): the steps of Table 22.1, start-up halts,
and the commands STARTUP_STEP_DONE, BOOT_RETRY, FULL_RESTART, EP_DRAIN_DONE, POWER_FAIL_FLUSH, DIE_LINK_ERROR,
CORE_WATCHDOG and LOAD_SECOND. -/

namespace Sys2Proof.Machine

/-- Every unit stops, and every output is as it was at power-up (R509, R512). MEDIAn_PWREN stays only where the input loss
sequence keeps it (Table 23.2). -/
def Engine.unitsStop (pwren : Bool) (e : Engine) : Engine :=
  let e := e.epLinkDown
  let off : Lane := { Lane.reset with txPs := 3, rxPs := 3 }
  let port (q : MediaPort) : MediaPort := { MediaPort.reset with drive := q.drive }
  { e with
    sys := { e.sys with mode := .standby, preview := false, pend := [], units := [], failed := [], autoDue := false, committing := false }
    pins := { e.pins with
      rstN := Vector.replicate 2 false
      phaseOut := 0
      sealWatch := false
      pwren := if pwren then e.pins.pwren else Vector.replicate 4 false
      perstN := if pwren then e.pins.perstN else Vector.replicate 4 false
      refclk := Vector.replicate 4 false }
    cluster := { e.cluster with cal := Vector.replicate 2 none, fold := none, files := [] }
    lanes := Vector.replicate 62 off
    ports := Vector.replicate 2 Port.reset
    proj := Proj.reset
    phaseIn := PhaseIn.reset
    aux := Aux.reset
    raw := { RawFe.reset with nextSeq := e.raw.nextSeq }
    colour := Colour.reset
    fsr := Fsr.reset
    pos := Pos.reset
    aud := Audio.reset
    hevc := Hevc.reset
    md := Meta.reset
    rec_ := { Recorder.reset with ports := e.rec_.ports.map port }
    ep := { e.ep with
      regs := [], msix := Vector.replicate 65 MsixVector.reset, dirty := [], ns5 := [], errors := [], stopped := false
      drained := Vector.replicate 4 0, seen := Vector.replicate 4 (.notReady, 0) }
    outs := { Outs.reset with answers := e.outs.answers } }

/-- Step 2 begins (R359, R385, R497, R512): the DTB counts from 0, the start-up window opens and a new epoch of the log; the
cores run on CLK_MGT if the root is LOCKED. -/
def Engine.stepTwo (e : Engine) : Engine :=
  let e := e.closeEpoch
  let locked := decide (e.clk.root = .locked)
  let e : Engine := { e with
    sys := { e.sys with
      phase := .starting 2, bootFailed := false, rejected := [], restartDue := false, fatalAt := none }
    time := { TimeBase.reset with
      origin := e.now, window := true, beacons := e.time.beacons, delayReqs := e.time.delayReqs }
    clk := { e.clk with mgt := locked, dtbFab := locked } }
  e.openEpoch

/-- The staged command and a transfer end before a restart begins (R471, R472). -/
def Engine.restartDrops (e : Engine) : Engine :=
  let ctl := { e.ctl with staged := e.ctl.staged.map fun (g : Staged) => { g with executing := false } }
  ({ e with ctl := ctl } : Engine).gatedCancelled.xferAbandon 2

/-- A full restart (R27, R512), with the write buffer drained. -/
def Engine.restartNow (e : Engine) : Engine := (e.restartDrops.unitsStop false).stepTwo

/-- Video transmit lanes go into electrical idle (R9 step 3). -/
def Engine.videoIdle (e : Engine) : Engine :=
  (List.range 62).foldl (fun e l =>
    if laneVideo l && laneTx l then e.modLane l fun q => { q with txHeld := true } else e) e

/-- A full restart that is due begins once its clips are closed (R9) and the write buffer is drained (R297). -/
def Engine.restartWhenDone (e : Engine) : Engine :=
  if !e.live || !e.sys.restartDue || (e.sys.fatalAt.isSome && !e.rec_.takes.isEmpty) then e
  else
    let e := if e.sys.fatalAt.isSome then e.videoIdle else e
    if e.ep.dirty.any (!·.poison) then e else e.restartNow

def Engine.restartAsk (e : Engine) : Engine := ({ e with sys := { e.sys with restartDue := true } } : Engine).restartWhenDone

/-- FULL_RESTART (R27, R297, R512): accepted in STANDBY and SERVICE. -/
def Engine.fullRestart (h : MsgHdr) (e : Engine) : Engine :=
  if e.sys.mode = .standby || e.sys.mode = .service then (e.ok h 0x0103).restartAsk else e.refuse h 0x0103 .state .none

def execFullRestart (t : Nat) (h : MsgHdr) (s : State) : Out := s.run t fun e => e.request h 0x0103 (·.fullRestart h)

/-- EP_DRAIN_DONE (R290, R291): a drain write completes, or nothing is left to drain; a full restart that waits goes on. -/
def execEpDrainDone (t : Nat) (ns : Fin 4) (s : State) : Out :=
  s.run t fun e => e.whenLive fun e => (e.epDrainOne (ns.val + 1)).restartWhenDone

/-- POWER_FAIL_FLUSH (R273): the clips end; a full restart of R9 that waits goes on. -/
def execPowerFailFlush (t : Nat) (s : State) : Out :=
  s.run t fun e => e.whenPowered fun e => e.powerFailFlush.restartWhenDone

/-- A fault that ends in a full restart (R9, R452): clips are closed as on input loss. It does not disturb the input loss
sequence, a thermal trip or a start-up halt. -/
def Engine.fatal (src : Nat) (ev : Ev) (data : List Byte) (e : Engine) : Engine :=
  let e := e.emit src ev data
  if e.closing then e
  else match e.sys.phase with
    | .running =>
      let e := e.modRec fun r => { r with powerStop := true }
      ({ e with sys := { e.sys with fatalAt := some e.now } } : Engine).restartAsk
    | .starting n => if 4 ≤ n then e.restartNow else e
    | _ => e

/-- DIE_LINK_ERROR (R9): each retry is counted; a transfer that fails after 16 retries is fatal. -/
def Engine.dieLinkError (fails : Nat) (e : Engine) : Engine :=
  let e := e.bumpN .dieLinkRetry 0x0010 0 (min fails 16)
  if fails ≤ 16 then e else e.fatal 0x0010 .dieLinkFatal []

def execDieLinkError (t : Nat) (_link : Nat) (fails : Nat) (s : State) : Out :=
  s.run t fun e => if e.sys.phase.firmware then e.dieLinkError fails else e

/-- CORE_WATCHDOG (R452): the core is reset alone; more than CORE_RESET_MAX resets of it within 60 s are fatal. -/
def Engine.coreWatchdog (c : Nat) (e : Engine) : Engine :=
  let q := vget e.cluster.cores c Core.reset
  let recent := e.now :: q.resetsAt.filter fun t => decide (e.now < t + secs 60)
  let mod (x : Core) : Core := { x with resetsAt := recent, resets := min 63 (x.resets + 1) }
  let e : Engine := { e with cluster := { e.cluster with cores := vmod e.cluster.cores c mod } }
  let e := (e.bump .fwCoreReset (0x0351 + c)).emit (0x0351 + c) .fwCoreReset (evData [(1, c), (1, q.lastCode)])
  if e.cf 1 0 30 28 < recent.length then e.fatal (0x0351 + c) .fwCoreFatal [] else e

def execCoreWatchdog (t : Nat) (core : Fin 4) (s : State) : Out :=
  s.run t fun e => if e.sys.phase.firmware then e.coreWatchdog core.val else e

/-- LOAD_SECOND (R455): the load words of the last second; FW_LOAD_HIGH at the first second of a run above LOAD_WARN. -/
def Engine.loadSecond (loads peaks slacks : List Nat) (e : Engine) : Engine :=
  let warn := 10 * e.cf 1 0 27 20
  let set (i : Nat) (q : Core) : Core :=
    let v := loads.getD i 0
    { q with load1s := v, loadMax := peaks.getD i 0, high := decide (warn < v) }
  let fresh := (List.range 4).filter fun i => decide (warn < loads.getD i 0) && !(vget e.cluster.cores i Core.reset).high
  let e : Engine := { e with cluster := { e.cluster with
    cores := Vector.ofFn fun (i : Fin 4) => set i.val e.cluster.cores[i]
    slack := Vector.ofFn fun (i : Fin 8) => satNat 0xFFFF (slacks.getD i.val 0) } }
  fresh.foldl (fun e i => e.emit (0x0351 + i) .fwLoadHigh []) e

def execLoadSecond (t : Nat) (loads peaks slacks : List Nat) (s : State) : Out :=
  s.run t fun e => if e.sys.phase.firmware then e.loadSecond loads peaks slacks else e

/-- The calibration tables of the image; their TABLE_IDs are free (log 74). -/
def Cfg.startTables (c : Cfg) : CalTables :=
  ⟨Vector.ofFn fun (i : Fin 6) => c.tableWords i.val, Vector.ofFn fun (i : Fin 6) => Config.unstated 145 i.val⟩

/-- The raw front end, colour pipeline, LUT store and Flowstone codec as they start (R142, R176, R186, R514). -/
def Engine.pictureStart (e : Engine) : Engine :=
  let c := e.cfg
  let slot (k : Nat) : Option (Nat × LutData) := if c.lutPresent k then some (k, lutDataOf (c.lutWords k)) else none
  let branch (b : Nat) : Branch := { Branch.reset with state := if c.hasBranch b then .running else .off }

  { e with
    raw := { RawFe.reset with
      tables := c.startTables, tnrStr := if c.has 0x0020 then c.f 0x0020 2 31 24 else 128, nextSeq := e.raw.nextSeq }
    colour := { Colour.reset with
      slots := Vector.ofFn fun (i : Fin 16) => slot i.val
      branches := Vector.ofFn fun (i : Fin 6) => branch i.val }
    fsr := { Fsr.reset with inService := Vector.replicate 32 true } }

/-- Step 7 ends and step 8 is entered (R506, R511, R21): every section is configured, the sensors last. -/
def Engine.configureAll (e : Engine) : Engine :=
  let e := e.pictureStart
  let e := (List.range 62).foldl (fun e l => e.laneConfigure l) e
  let refclk : Vector Bool 4 := Vector.ofFn fun (m : Fin 4) => e.cb 0x0003 62 (2 + m.val)
  let e : Engine := { e with pins := { e.pins with refclk := refclk } }
  let e := (List.range 4).foldl (fun e m => e.driveStart m) e
  let e := e.modRec fun r => { r with reel := e.cfg.reelInit }
  let e := (List.range 8).foldl (fun e n => e.posStart n) e.hevcStart
  let e := e.outsStart
  let e := if e.clk.classV then e.outsHold else e
  let e := e.gatesStart.servosStart.ns5Make
  let lamp := e.sys.lampOpen
  let e : Engine := { e with sys := { e.sys with
    phase := .running, step8At := e.now, mode := if lamp then .service else .standby, preview := false
    autoDue := e.cb 1 0 31 && !lamp } }
  ([0, 1].filter e.cfg.hasPort).foldl (fun e p => e.startTraining p false) e.epTrain

/-- SEAL mode watches its loop from the moment PRESENCE is configured; an opening before it is stamped now (R476). -/
def sealFound (ks : KeyStore) (e : Engine) : KeyStore × Engine :=
  if e.cf 0x00A1 0 31 30 ≠ 2 then (ks, e)
  else
    let e : Engine := { e with pins := { e.pins with sealWatch := true } }
    if e.pins.presenceHigh && ks.sealFirst.isNone then
      ({ ks with sealFirst := some (dtbSec e.dtb) }, e.emit 0x0381 .sealFirst [])
    else (ks, e)

/-- Slots in the order step 3 checks them (R505): descending GENERATION, A first on a tie, without those marked invalid. -/
def slotOrder (f : Flash) (rejected : List Bool) : List Bool :=
  (if slotGeneration f.slotA < slotGeneration f.slotB then [true, false] else [false, true]).filter fun x => !rejected.contains x

/-- The first slot that passes R446; each that does not is counted and logged (R447). -/
def Engine.slotWalk (fault : Bool → Nat) : List Bool → Engine → Option Bool × Engine
  | [], e => (none, e)
  | x :: r, e =>
    if fault x = 0 then (some x, e)
    else Engine.slotWalk fault r
      ((e.bump .imgSlotInvalid 0x0358).emit 0x0358 .imageInvalid (evData [(4, fault x)]))

/-- Slots that hold a complete transfer at a start: those that held one, and each uncommitted inactive one that passes R446 but
for COMMIT (R471). -/
def completeSlots (f : Flash) (ks : KeyStore) (v : Bool → SlotVerdict) (active : Option Bool) (old : List Bool) : List Bool :=
  [false, true].filter fun x => decide (active ≠ some x) &&
    (old.contains x || (!slotCommitted (f.slot x) && slotFault (f.slot x) ks (v x) false = 0))

/-- Step 3 (R446, R447, R471, R505): a slot is chosen, or start-up halts. Step 4 ends at once while the root is LOCKED (R512). -/
def Engine.stepThree (f : Flash) (ks : KeyStore) (a b : SlotVerdict) (e : Engine) : Engine :=
  let v (x : Bool) : SlotVerdict := if x then b else a
  let fault (x : Bool) : Nat := slotFault (f.slot x) ks (v x) true
  let r := e.slotWalk fault (slotOrder f e.sys.rejected)
  let e : Engine := { r.2 with ctl := { r.2.ctl with complete := completeSlots f ks v r.1 r.2.ctl.complete } }
  match r.1 with
  | some x =>
    let m := f.slot x
    { e with
      cfg := (slotConfig m).getD []
      sys := { e.sys with
        active := some x, generation := slotGeneration m, fwBuild := (v x).fwBuild, digests := slotDigests m
        phase := .starting (if e.clk.root = .locked then 5 else 4), step4At := e.now } }
  | none =>
    { e with
      cfg := []
      sys := { e.sys with active := none, generation := 0, fwBuild := 0, digests := [], phase := .halt 3 } }

/-- Step 5 (R409, R508): every rank is trained; more positions without a rank than spares halt start-up. -/
def Engine.stepFive (failed : List Nat) (eyes : List Nat) (e : Engine) : Engine :=
  let e := failed.foldl (fun e r => e.emit (rankSrc r) .dramTrainFail []) e
  match trainRanks failed e.dram.retired eyes with
  | some ranks =>
    { e with
      dram := { Dram.reset with
        ranks := ranks, retired := e.dram.retired, tokAt := e.now
        tok := Vector.ofFn fun (p : Fin 24) => ((1024000 * e.cfg.mpBurst p : Nat) : Int) }
      sys := { e.sys with phase := .starting 6 } }
  | none =>
    let mask := sumNat (failed.map fun r => 2 ^ r)
    (({ e with sys := { e.sys with phase := .halt 5 } } : Engine).emit 0x0320 .dramNoSpare (evData [(1, 5), (4, mask)]))

/-- Step 6 (R508, R9): a link that fails 16 retries halts start-up. -/
def Engine.stepSix (failed : Option Nat) (e : Engine) : Engine :=
  match failed with
  | none => { e with sys := { e.sys with phase := .starting 7 } }
  | some l =>
    let e := e.bumpN .dieLinkRetry 0x0010 0 16
    (({ e with sys := { e.sys with phase := .halt 6 } } : Engine).emit 0x0010 .dieLinkFatal (evData [(1, 6), (1, l)]))

/-- Step 7 (R447, R506): a rejected section marks the slot invalid, and step 3 runs again; otherwise step 8 is entered. -/
def stepSeven (ks : KeyStore) (e : Engine) : KeyStore × Engine :=
  match e.cfg.broken with
  | none => sealFound ks e.configureAll
  | some (id, _) =>
    let bad := match e.sys.active with
      | some x => x :: e.sys.rejected
      | none => e.sys.rejected
    let e : Engine := { e with
      cfg := []
      sys := { e.sys with active := none, generation := 0, fwBuild := 0, digests := [], rejected := bad, phase := .starting 3 } }
    (ks, e.emit 0x0358 .imageRejected (evData [(2, id), (2, Reason.checkFailed.code)]))

/-- At step 2 of a power-up the log is emptied (R497). -/
def Engine.logEmpty (e : Engine) : Engine := { e with log := Log.reset }

/-- STARTUP_STEP_DONE (R503, Table 22.1): the step that runs ends with the facts it found; facts of another step change
nothing. -/
def State.stepDone (facts : StepFacts) (s : State) : State :=
  let e := s.eng
  match e.sys.phase, facts with
  | .starting 1, .rails => { s with eng := e.logEmpty.stepTwo }
  | .starting 2, .rom ok flashBytes =>
    if e.sys.bootFailed then s
    else if ok then
      { s with
        flash := { s.flash with slotBytes := min (flashBytes / 2) 268435456 }
        eng := { e with sys := { e.sys with phase := .starting 3 } } }
    else { s with eng := { e with sys := { e.sys with bootFailed := true } } }
  | .starting 3, .slots a b => { s with eng := e.stepThree s.flash s.ks a b }
  | .starting 4, .rootLocked =>
    if e.clk.root = .locked then { s with eng := { e with sys := { e.sys with phase := .starting 5 } } } else s
  | .starting 5, .dram failed eyes => { s with eng := e.stepFive (failed.map (·.val)) eyes }
  | .starting 6, .links failed => { s with eng := e.stepSix failed }
  | .starting 7, .configured =>
    let r := stepSeven s.ks e
    { s with ks := r.1, eng := r.2 }
  | _, _ => s

def execStartupStepDone (t : Nat) (f : StepFacts) (s : State) : Out := s.runAll t (·.stepDone f)

/-- BOOT_RETRY (R508): step 2 is tried again. -/
def Engine.bootRetry (ok : Bool) (e : Engine) : Engine :=
  if e.sys.phase = .starting 2 && e.sys.bootFailed then { e with sys := { e.sys with bootFailed := !ok } } else e

def execBootRetry (t : Nat) (ok : Bool) (s : State) : Out := s.run t (·.bootRetry ok)

end Sys2Proof.Machine
end

