-- ==== Sys2Proof/Machine/Gated.lean ====
section
/-! DEFINITION. Gated commands, presence, the key store and LAMP (R369, R448, R449, R472 to R485): IMAGE_COMMIT, KEY_LOAD,
KEY_ERASE, LAMP_OPEN, TIME_STEP, CAL_COMMIT, FACTORY_RESET, GATED_CANCEL, COMMIT_CHECK_DONE, PRESENCE_PRESS,
PRESENCE_DECISION, PRESENCE_LEVEL_CHANGE, GATED_EXPIRED, SEAL_OPEN and LAMP_SELECT. -/

namespace Sys2Proof.Machine

/-- PRESENCE.MODE: 0 BUTTON, 1 JUMPER, 2 SEAL; BUTTON with no image active (R474). -/
def Cfg.presenceMode (c : Cfg) : Nat := c.f 0x00A1 0 31 30

/-- SECURITY.FRESET_EN; its default with no image active (R474). -/
def Cfg.fresetEn (c : Cfg) : Bool := !c.has 0x00A0 || c.b 0x00A0 0 30

/-- Start-up is halted at step 3. -/
def Engine.haltThree (e : Engine) : Bool := e.sys.phase = .halt 3

/-- Gated commands are accepted in SERVICE, and in a start-up halt at step 3 (R472). -/
def Engine.gateOpen (e : Engine) : Bool := e.haltThree || (e.live && e.sys.mode = .service)

/-- The request is not one of its type (R461). -/
def Gated.malformed : Gated → Bool
  | .imageCommit slot => decide (1 < slot)
  | .keyLoad kind keyId value check => decide (1 < kind ∨ 2 ^ 32 ≤ keyId ∨ value.length ≠ 32 ∨ check.length ≠ 8)
  | .keyErase mask => decide (3 < mask)
  | .lampOpen => false
  | .timeStep o => !(decide (-(2 : Int) ^ 63 ≤ o) && decide (o < (2 : Int) ^ 63))
  | .calCommit tables fold _ => decide (63 < tables) || (tables = 0 && !fold)
  | .factoryReset _ => false

/-- CHECK of a KEY_LOAD: the first 8 bytes of the SHA-512 of KEY_ID and VALUE (R479). -/
def keyCheck (keyId : Nat) (value : List Byte) : List Byte := (sha512 (le 4 keyId ++ value)).take 8

/-- Preconditions of KEY_LOAD (R477, R479, R510). -/
def Engine.keyLoadPre (f : Flash) (ks : KeyStore) (c : Client) (kind keyId : Nat) (value check : List Byte) (e : Engine) :
    Option (Status × Reason) :=
  if e.sys.lampOpen then some (.state, .none)
  else if e.haltThree && kind = 0 then some (.notFound, .none)
  else if c.isEth && !e.cb 0x00A0 0 29 then some (.refused, .checkFailed)
  else if check ≠ keyCheck keyId value then some (.refused, .keyMismatch)
  else if kind = 1 then (if keyId = 0 then some (.refused, .checkFailed) else none)
  else if ks.hash.isSome then some (.refused, .inUse)
  else if value ≠ slotKeyHash (e.activeSlot f) then some (.refused, .keyMismatch)
  else none

/-- Preconditions of CAL_COMMIT (R477, R483, R145, R510). -/
def Engine.calCommitPre (tables found : Nat) (e : Engine) : Option (Status × Reason) :=
  if e.haltThree then some (.state, .none)
  else if (tablesOf tables).any (fun k => !found.testBit k) then some (.notFound, .none)
  else if !e.has 0x0020 || ((tablesOf tables).filterMap tablePort).any (fun p => !e.cfg.hasPort p) then
    some (.refused, .notConfigured)
  else if e.raw.reload.isSome then some (.busy, .none)
  else none

/-- Preconditions of a gated command, at staging and at its commit: the first that fails (R477, Table 20.2). -/
def Engine.gatedPre (f : Flash) (ks : KeyStore) (c : Client) (g : Gated) (e : Engine) : Option (Status × Reason) :=
  match g with
  | .imageCommit slot =>
    if !e.ctl.complete.contains (slot = 1) then some (.refused, .slotIncomplete)
    else if !e.sys.units.isEmpty then some (.busy, .none) else none
  | .keyLoad kind keyId value check => e.keyLoadPre f ks c kind keyId value check
  | .keyErase mask =>
    if (mask.testBit 0 && ks.hash.isSome) || (mask.testBit 1 && ks.pkey.isSome) then none else some (.notFound, .none)
  | .lampOpen =>
    if !e.cb 0x00A0 0 31 then some (.refused, .notConfigured) else if e.sys.lampOpen then some (.state, .none) else none
  | .timeStep _ => if e.haltThree then some (.state, .none) else none
  | .calCommit tables _ found => e.calCommitPre tables found
  | .factoryReset confirm =>
    if !e.cfg.fresetEn then some (.refused, .notConfigured)
    else if confirm ≠ 0x54535246 then some (.malformed, .none) else none

/-- A gated command is staged (R472, R475). -/
def Engine.stage (f : Flash) (ks : KeyStore) (h : MsgHdr) (g : Gated) (e : Engine) : Engine :=
  if g.malformed then e.refuse h g.ty .malformed .none
  else if !e.gateOpen then e.refuse h g.ty .state .none
  else if e.ctl.staged.isSome then e.refuse h g.ty .busy .none
  else
    match e.gatedPre f ks h.client g with
    | some (st, rs) => e.refuse h g.ty st rs
    | none =>
      let x : Staged := ⟨g, h.client, h.seq, e.now, e.pins.presenceHigh, e.pins.presenceSince, false⟩
      let e := e.ok h g.ty
      let e : Engine := { e with ctl := { e.ctl with staged := some x } }
      (e.gatedState x 0 .ok .none (if e.cfg.presenceMode = 0 then 30000 else 0)).gatedEvent .gatedStaged x

def execImageCommit (t : Nat) (h : MsgHdr) (slot : Nat) (s : State) : Out :=
  s.runWith t fun f ks e => e.request h 0x0701 (·.stage f ks h (.imageCommit slot))

/-- KEY_LOAD (R479); CHECK comes in its first and its last four bytes. -/
def execKeyLoad (t : Nat) (h : MsgHdr) (kind keyId : Nat) (value check check2 : List Byte) (s : State) : Out :=
  s.runWith t fun f ks e => e.request h 0x0702 (·.stage f ks h (.keyLoad kind keyId value (check ++ check2)))

def execKeyErase (t : Nat) (h : MsgHdr) (mask : Nat) (s : State) : Out :=
  s.runWith t fun f ks e => e.request h 0x0703 (·.stage f ks h (.keyErase mask))

def execLampOpen (t : Nat) (h : MsgHdr) (s : State) : Out :=
  s.runWith t fun f ks e => e.request h 0x0704 (·.stage f ks h .lampOpen)

def execTimeStep (t : Nat) (h : MsgHdr) (offsetNs : Int) (s : State) : Out :=
  s.runWith t fun f ks e => e.request h 0x0705 (·.stage f ks h (.timeStep offsetNs))

def execCalCommit (t : Nat) (h : MsgHdr) (tables : Nat) (fold : Bool) (found : Nat) (s : State) : Out :=
  s.runWith t fun f ks e => e.request h 0x0706 (·.stage f ks h (.calCommit tables fold found))

def execFactoryReset (t : Nat) (h : MsgHdr) (confirm : Nat) (s : State) : Out :=
  s.runWith t fun f ks e => e.request h 0x0707 (·.stage f ks h (.factoryReset confirm))

/-- GATED_CANCEL (R472): from any client; with nothing staged NOT_FOUND (log 80). -/
def Engine.gatedCancel (h : MsgHdr) (e : Engine) : Engine :=
  match e.ctl.staged with
  | some g => if g.executing then e.refuse h 0x0708 .notFound .none else (e.ok h 0x0708).gatedCancelled
  | none => e.refuse h 0x0708 .notFound .none

def execGatedCancel (t : Nat) (h : MsgHdr) (s : State) : Out := s.run t fun e => e.request h 0x0708 (·.gatedCancel h)

/-- What an entry reads as after a write whose read-back differs: a free value (log 81). -/
def badEntry (kind n : Nat) : KeyEntry :=
  ⟨freeBytes 478 (2 * n + kind) 32, Config.unstated 478 ((2 * n + kind) * 65536 + 32) % 4294967296⟩

/-- One write or erase of an entry, and whether it is verified (R478): 10,000 writes are the limit. -/
def KeyStore.write (kind : Nat) (v : Option KeyEntry) (ok : Bool) (n : Nat) (k : KeyStore) : KeyStore × Bool :=
  if 10000 ≤ (if kind = 0 then k.hashWrites else k.pkeyWrites) then ({ k with fault := true }, false)
  else
    let x := if ok then v else some (badEntry kind n)
    let k := if kind = 0 then { k with hash := x, hashWrites := k.hashWrites + 1 }
      else { k with pkey := x, pkeyWrites := k.pkeyWrites + 1 }
    (if ok then k else { k with fault := true }, ok)

/-- An entry is written or zeroised; a failure is logged (R478). -/
def keyWrite (kind : Nat) (v : Option KeyEntry) (ok : Bool) (ks : KeyStore) (e : Engine) : KeyStore × Bool × Engine :=
  let (n, e) := e.draw
  let r := ks.write kind v ok n
  (r.1, r.2, if r.2 then e else e.emit 0x0380 .keystoreFault [])

/-- The entries of a mask are zeroised and verified (R478, R480). -/
def zeroise (mask : Nat) (ok : Bool) (ks : KeyStore) (e : Engine) : KeyStore × Bool × Engine :=
  let one (kind : Nat) (x : KeyStore × Bool × Engine) : KeyStore × Bool × Engine :=
    if mask.testBit kind then
      let r := keyWrite kind none ok x.1 x.2.2
      (r.1, x.2.1 && r.2.1, r.2.2)
    else x
  one 1 (one 0 (ks, true, e))

/-- Step 3 of start-up runs again in its halt (R510, R472). -/
def Engine.stepThreeAgain (e : Engine) : Engine :=
  let e := e.gatedCancelled
  { e with sys := { e.sys with phase := .starting 3, rejected := [] } }

/-- KEY_LOAD executes (R479). -/
def State.runKeyLoad (ksOk : Bool) (g : Staged) (kind keyId : Nat) (value : List Byte) (s : State) : State :=
  let r := keyWrite kind (some ⟨value, keyId⟩) ksOk s.ks s.eng
  let e := r.2.2
  { s with
    ks := r.1
    eng := if r.2.1 then (e.emit 0x0380 .keyLoaded (evData [(1, kind), (4, keyId)])).gatedDone g
      else e.gatedFail g .refused .checkFailed }

/-- KEY_ERASE executes (R480). -/
def State.runKeyErase (ksOk : Bool) (g : Staged) (mask : Nat) (s : State) : State :=
  let r := zeroise mask ksOk s.ks s.eng
  let e := r.2.2
  { s with
    ks := r.1
    eng := if r.2.1 then (e.emit 0x0380 .keyErased []).gatedDone g
      else e.gatedFail g .refused .checkFailed }

/-- LAMP_OPEN executes (R484); the engine stays in SERVICE, so a mode change that is pending is dropped (R21; log 82). -/
def State.runLampOpen (ksOk : Bool) (g : Staged) (s : State) : State :=
  let r := zeroise 3 ksOk s.ks s.eng
  let e := r.2.2
  if r.2.1 then
    let e : Engine := { e with sys := { e.sys with lampOpen := true, pend := [], lampPins := Vector.replicate 16 none } }
    { s with
      ks := { r.1 with lampOpens := r.1.lampOpens + 1, lampSecs := dtbSec e.dtb :: r.1.lampSecs }
      eng := (e.emit 0x0382 .lampOpened []).gatedDone g }
  else { s with ks := r.1, eng := e.gatedFail g .refused .checkFailed }

/-- FACTORY_RESET executes (R481, R510). -/
def State.runFactoryReset (ksOk : Bool) (g : Staged) (s : State) : State :=
  let r := zeroise 3 ksOk s.ks s.eng
  let e := r.2.2
  if r.2.1 then
    let b := e.sys.inactive
    let e := e.xferAbandon 3
    let e : Engine := { e with
      ctl := { e.ctl with complete := e.ctl.complete.erase b }
      raw := { e.raw with dyn := [], tracker := [] } }
    let e := (e.emit 0x0380 .factoryReset []).gatedDone g
    { s with
      ks := r.1
      flash := s.flash.setSlot b []
      eng := if e.haltThree then e.stepThreeAgain else e.restartAsk }
  else { s with ks := r.1, eng := e.gatedFail g .refused .checkFailed }

/-- TIME_STEP executes (R369, R370): the step waits for the next 1 ms tick. -/
def Engine.runTimeStep (g : Staged) (offsetNs : Int) (e : Engine) : Engine :=
  (e.modTime fun b => { b with stepDue := some (b.stepDue.getD 0 + offsetNs * 65536) }).gatedDone g

/-- A command executes while it stays staged: its checks go on. -/
def Engine.executing (g : Staged) (e : Engine) : Engine :=
  { e with ctl := { e.ctl with staged := some { g with executing := true } } }

/-- CAL_COMMIT executes (R483): an ASAP reload of the named tables. -/
def Engine.runCalCommit (g : Staged) (tables : Nat) (fold : Bool) (e : Engine) : Engine :=
  let r : Reload :=
    { mask := tables, target := none, cfn := none, loads := [], loadedAt := none, client := g.client, ty := g.cmd.ty, seq := g.seq
      overrun := false, own := false, cal := true, fold := fold }
  ({ e with raw := { e.raw with reload := some r } } : Engine).executing g

/-- Presence is satisfied (R472): the preconditions are checked again, and the command executes. -/
def State.gatedCommit (ksOk : Bool) (g : Staged) (s : State) : State :=
  match s.eng.gatedPre s.flash s.ks g.client g.cmd with
  | some (st, rs) => { s with eng := s.eng.gatedFail g st rs }
  | none =>
    match g.cmd with
    | .imageCommit _ => { s with eng := { s.eng.executing g with sys := { s.eng.sys with committing := true } } }
    | .keyLoad kind keyId value _ => s.runKeyLoad ksOk g kind keyId value
    | .keyErase mask => s.runKeyErase ksOk g mask
    | .lampOpen => s.runLampOpen ksOk g
    | .timeStep o => { s with eng := s.eng.runTimeStep g o }
    | .calCommit tables fold _ => { s with eng := s.eng.runCalCommit g tables fold }
    | .factoryReset _ => s.runFactoryReset ksOk g

/-- The command expires (R472). -/
def Engine.gatedExpire (g : Staged) (e : Engine) : Engine :=
  ((e.unstage.bump .ctrlGatedExpired 0x0363).gatedState g 3 .noPresence .none 0).gatedEvent .gatedExpired g

/-- A staged command that waits for presence, while gated commands run. -/
def Engine.waitsPresence (e : Engine) (button : Bool) : Option Staged :=
  if e.gateOpen && (e.cfg.presenceMode = 0) == button then e.ctl.staged.filter (!·.executing) else none

/-- PRESENCE_PRESS (R475): in BUTTON mode, 50 ms of low level after a fall that follows the staging, within 30 s of it. -/
def State.presencePress (ksOk : Bool) (s : State) : State :=
  let e := s.eng
  match e.waitsPresence true with
  | none => s
  | some g =>
    if !e.pins.presenceHigh && decide (g.at_ < e.pins.presenceSince) && decide (e.pins.presenceSince + ms 50 ≤ e.now) &&
        decide (e.now ≤ g.at_ + secs 30) then
      State.gatedCommit ksOk g { s with eng := e.bump .presencePress 0x0381 }
    else s

def execPresencePress (t : Nat) (ksOk : Bool) (s : State) : Out := s.runAll t (·.presencePress ksOk)

/-- PRESENCE_DECISION (R475): 50 ms after staging the level without a break since 50 ms before it decides; JUMPER wants it low,
SEAL high. -/
def State.presenceDecision (ksOk : Bool) (s : State) : State :=
  let e := s.eng
  match e.waitsPresence false with
  | none => s
  | some g =>
    if e.now < g.at_ + ms 50 then s
    else if e.pins.presenceHigh = decide (e.cfg.presenceMode = 2) && decide (e.pins.presenceSince + ms 50 ≤ g.at_) then
      s.gatedCommit ksOk g
    else { s with eng := e.gatedExpire g }

def execPresenceDecision (t : Nat) (ksOk : Bool) (s : State) : Out := s.runAll t (·.presenceDecision ksOk)

/-- GATED_EXPIRED (R472, R475): 30 s in BUTTON mode without a press. -/
def Engine.gatedTimeout (e : Engine) : Engine :=
  match e.ctl.staged with
  | some g => if e.cfg.presenceMode = 0 && !g.executing && decide (g.at_ + secs 30 ≤ e.now) then e.gatedExpire g else e
  | none => e

def execGatedExpired (t : Nat) (s : State) : Out := s.run t fun e => e.whenPowered (·.gatedTimeout)

/-- PRESENCE_LEVEL_CHANGE (R475): the level of PRESENCE_N, and the instant of its change. -/
def Engine.presenceLevel (high : Bool) (e : Engine) : Engine :=
  if e.pins.presenceHigh = high then e else { e with pins := { e.pins with presenceHigh := high, presenceSince := e.now } }

def execPresenceLevelChange (t : Nat) (high : Bool) (s : State) : Out := s.run t (·.presenceLevel high)

/-- SEAL_OPEN (R476): the loop of SEAL mode opens; only its first opening is stamped. -/
def sealOpened (ks : KeyStore) (e : Engine) : KeyStore × Engine :=
  let e := e.presenceLevel true
  if !e.pins.sealWatch then (ks, e)
  else match ks.sealFirst with
    | some _ => (ks, e.emit 0x0381 .sealOpen [])
    | none =>
      ({ ks with sealFirst := some (dtbSec e.dtb) }, e.emit 0x0381 .sealFirst [])

def execSealOpen (t : Nat) (s : State) : Out := s.runKs t fun _ x => sealOpened x.1 x.2

/-- LAMP_SELECT (R485, Table 20.4): probe 0xFFFF sets the pin low. -/
def Engine.lampSelect (h : MsgHdr) (pin probe : Nat) (e : Engine) : Engine :=
  if 15 < pin || 65535 < probe then e.refuse h 0x0107 .malformed .none
  else if !e.sys.lampOpen || (probe ≠ 0xFFFF && decide (0x177F < probe)) then e.refuse h 0x0107 .state .none
  else
    let v := if probe = 0xFFFF then none else some probe
    let e : Engine := { e with sys := { e.sys with lampPins := vmod e.sys.lampPins pin fun _ => v } }
    e.ok h 0x0107

def execLampSelect (t : Nat) (h : MsgHdr) (pin probe : Nat) (s : State) : Out :=
  s.run t fun e => e.request h 0x0107 (·.lampSelect h pin probe)

/-- Whole sections that change only by full restart (ch. 1). -/
def fullIds : List Nat := [1, 2, 4, 5, 0x13, 0x22, 0x30, 0x40, 0x41, 0x50, 0x80, 0x81, 0xA0, 0xA1, 0xB0, 0xC0, 0xD0]

/-- Words of other sections that change only by full restart: the LANE group word, ENDPOINT outside the EL lanes, AUDIO word 0,
its group words and its record bytes (ch. 1). -/
def fullWords : List UnitPart :=
  [wordsOf 0x0003 [62], wordsOf 0x0052 [0, 1, 3], wordsOf 0x0070 ([0, 6, 7, 8, 9] ++ (List.range 16).map (91 + ·))]

def digestOf (l : List (Nat × Nat)) (id : Nat) : Option Nat := (l.find? (·.1 = id)).map (·.2)

/-- RESTART_PENDING (R449). -/
def Engine.restartPending (f : Flash) (e : Engine) : Bool :=
  let m := e.activeSlot f
  let new := slotDigests m
  e.sys.active.isSome &&
    (fullIds.any (fun id => digestOf e.sys.digests id ≠ digestOf new id) ||
      match slotConfig m with
      | some c => fullWords.any (Cfg.partDiffers e.cfg c) || (e.cfg.ws 0x0020).take e.cfg.rawHead ≠ (c.ws 0x0020).take c.rawHead
      | none => true)

/-- FW_PENDING (R449). -/
def Engine.fwPending (f : Flash) (e : Engine) : Bool :=
  e.sys.active.isSome && decide (digestOf e.sys.digests 0 ≠ some (slotFwDigest (e.activeSlot f)))

/-- COMMIT as it reads once the word of a commit is programmed without an erase (R448): bits of flash only fall. -/
def committedWord (m : List Host.Cell) : Nat := slotField m 4092 4 &&& commWord

/-- The step of R448 at which a commit fails, 0 for none. A step-3 halt skips step 2 (R510). -/
def Engine.commitFault (m : List Host.Cell) (ks : KeyStore) (v : SlotVerdict) (e : Engine) : Nat :=
  if slotFault m ks v false ≠ 0 then 1
  else if e.sys.active.isSome && slotGeneration m ≤ e.sys.generation then 2
  else if (match slotConfig m with
    | some c => c.broken.isSome
    | none => true) then 3
  else if committedWord m ≠ commWord then 4
  else 0

/-- The commit is done (R448 steps 5 and 6, R449): the slot is active; in a step-3 halt step 3 runs again (R510). -/
def Engine.commitDone (f : Flash) (g : Staged) (slot : Bool) (e : Engine) : Engine :=
  let old := e.sys.generation
  let new := slotGeneration (f.slot slot)
  let e : Engine := { e with
    sys := { e.sys with committing := false, active := some slot, generation := new }
    ctl := { e.ctl with complete := e.ctl.complete.erase slot } }
  let e := e.emit 0x0358 .imageCommit (evData [(4, old), (4, new)])
  let flags := bit (e.restartPending f) + 2 * bit (e.fwPending f)
  let e := e.notify 0x0506 (some g.client) (le 1 (bit slot) ++ le 3 0 ++ le 4 old ++ le 4 new ++ le 1 flags ++ le 3 0)
  let e := e.gatedDone g
  if e.haltThree then e.stepThreeAgain else e

/-- COMMIT_CHECK_DONE (R448): COMMIT is programmed and the slot becomes active, or the commit is refused with its step. -/
def State.commitCheckDone (v : SlotVerdict) (s : State) : State :=
  let e := s.eng
  if !e.sys.committing then s
  else match e.ctl.staged with
    | some g =>
      match g.cmd with
      | .imageCommit n =>
        let x := decide (n = 1)
        let m := s.flash.slot x
        let step := e.commitFault m s.ks v
        if step = 0 then
          let f := s.flash.setSlot x (memWrite 0xFF m 4092 (le 4 commWord))
          { s with flash := f, eng := e.commitDone f g x }
        else
          let e : Engine := { e with sys := { e.sys with committing := false } }
          { s with eng := (e.emit 0x0358 .imageCommitRefused []).gatedFail g .refused (.commitStep step) }
      | _ => s
    | none => s

def execCommitCheckDone (t : Nat) (v : SlotVerdict) (s : State) : Out := s.runAll t (·.commitCheckDone v)

end Sys2Proof.Machine
end

