-- ==== Sys2Proof/Machine/Power.lean ====
section
/-! DEFINITION. Power inputs, input loss, the hold-up cartridge, heat and bank voltages (R516 to R532): INPUT_QUALIFIED,
INPUT_DROPOUT, INPUT_LOST, POWER_FAIL_UNITS_STOP, POWER_FAIL_PWREN_OFF, POWER_FAIL_RAILS_OFF, HOLDUP_INSERT,
HOLDUP_REMOVED, HOLDUP_READY, HOLDUP_HEALTH_MEASURE, HOLDUP_FAULT, THERMAL_DERATE, THERMAL_DERATE_CLEAR,
THERMAL_TRIP, THERMAL_HALT_END, COLD_HOLD_RELEASE and VIO_CHANGE. -/

namespace Sys2Proof.Machine

/-- Limits of the grade in 0.1 degree C (Table 0.1): lower limit of full rating, and derated limit. -/
def ModuleId.lowerLimit (m : ModuleId) : Int := if m.extended then -400 else 0
def ModuleId.deratedLimit (m : ModuleId) : Int := if m.extended then 700 else 650

def Engine.modPower (f : Power → Power) (e : Engine) : Engine := { e with power := f e.power }
def Engine.modHoldup (f : Holdup → Holdup) (e : Engine) : Engine := e.modPower fun p => { p with holdup := f p.holdup }

/-- Step 1 begins: the cold plate is read first, and below the lower limit start-up holds there (R503, R529). -/
def Engine.powerUp (plate : Int) (e : Engine) : Engine :=
  let cold := decide (plate < e.modId.lowerLimit)
  let input := if vget e.power.qualified 0 false then 0 else 1
  { e with
    power := { e.power with inUse := some input, plate := plate }
    pins := { e.pins with pwrfailN := !cold }
    sys := { e.sys with phase := if cold then .coldHold else .starting 1 } }

/-- The engine moves to an input (R519). -/
def Engine.inputMove (j : Nat) (e : Engine) : Engine :=
  ((e.modPower fun p => { p with inUse := some j }).bump .inputSwitch 0x0044).emit 0x0044 .inputSwitch []

/-- INPUT_QUALIFIED (R518, R519, R521, R529). -/
def Engine.inputQualified (j : Nat) (plate : Int) (e : Engine) : Engine :=
  if vget e.power.qualified j false then e
  else
    let was := vget e.power.lost j false
    let e := e.modPower fun p => { p with
      qualified := vmod p.qualified j fun _ => true, lost := vmod p.lost j fun _ => false }
    if e.sys.phase = .off then e.powerUp plate
    else
      let e := if was then e.emit (0x0040 + j) .inputRestored [] else e
      if j = 0 && e.power.t0.isNone && decide (e.power.inUse = some 1) then e.inputMove 0 else e

def execInputQualified (t : Nat) (j : Fin 2) (plateTenths : Int) (s : State) : Out := s.run t (·.inputQualified j plateTenths)

/-- INPUT_DROPOUT (R518): a dropout of J1 is ridden through. -/
def Engine.inputDropout (e : Engine) : Engine := if e.power.inUse = some 0 then e.bump .inputDropout 0x0040 else e

def execInputDropout (t : Nat) (s : State) : Out := s.run t fun e => e.whenPowered (·.inputDropout)

/-- Input loss (R520): PWRFAIL_N goes low; clip closing and the endpoint's drain begin. -/
def Engine.inputLoss (e : Engine) : Engine :=
  let e := e.modPower fun p => { p with inUse := none, t0 := some e.now }
  let e := { e with pins := { e.pins with pwrfailN := false } }
  (e.modRec fun r => { r with powerStop := true }).modEp fun p => { p with stopped := true, drained := Vector.replicate 4 0 }

/-- INPUT_LOST (R518 to R521): byte 18 is 0 when another input carries on, otherwise 1. -/
def Engine.inputLost (j : Nat) (e : Engine) : Engine :=
  if !vget e.power.qualified j false then e
  else
    let e := e.modPower fun p => { p with
      qualified := vmod p.qualified j fun _ => false, lost := vmod p.lost j fun _ => true }
    if e.sys.phase = .off then e
    else
      let other := vget e.power.qualified (1 - j) false
      let e := (e.bump .inputLoss (0x0040 + j)).emit (0x0040 + j) .inputLoss (le 1 (bit !other))
      if e.power.inUse ≠ some j then e
      else if other then e.inputMove (1 - j)
      else e.inputLoss

def execInputLost (t : Nat) (j : Fin 2) (s : State) : Out := s.run t (·.inputLost j)

/-- POWER_FAIL_UNITS_STOP (R520, R528): 150 ms after input loss or a trip every unit stops; after a trip the thermal halt is
entered. -/
def Engine.powerUnitsStop (e : Engine) : Engine :=
  if !e.live then e
  else if e.power.t0.isSome then
    if e.since 150 e.power.t0 then
      let e := e.unitsStop true
      { e with sys := { e.sys with phase := .stopped } }
    else e
  else if e.since 150 e.power.trip then
    let e := e.unitsStop false
    { e with sys := { e.sys with phase := .thermalHalt, restartDue := false, fatalAt := none } }
  else e

def execPowerFailUnitsStop (t : Nat) (s : State) : Out := s.run t (·.powerUnitsStop)

/-- POWER_FAIL_PWREN_OFF (R520, R536): MEDIAn_PERST_N is asserted, then MEDIAn_PWREN is deasserted, 200 ms after input loss. -/
def Engine.pwrenOff (e : Engine) : Engine :=
  if !e.since 200 e.power.t0 then e
  else { e with pins := { e.pins with perstN := Vector.replicate 4 false, pwren := Vector.replicate 4 false } }

def execPowerFailPwrenOff (t : Nat) (s : State) : Out := s.run t fun e => e.whenPowered (·.pwrenOff)

/-- What is left without power: the levels that others drive, the inputs, the cartridge, and what the maker wrote. -/
def Engine.unpowered (e : Engine) : Engine :=
  let z := Engine.reset
  let hold (h : Holdup) : Holdup := { h with charged := false, ready := false, health := none, measuredAt := none }
  { z with
    now := e.now
    free := e.free
    modId := e.modId
    power := { z.power with
      qualified := e.power.qualified, lost := e.power.lost, holdup := hold e.power.holdup, plate := e.power.plate, vio := e.power.vio }
    pins := { z.pins with presenceHigh := e.pins.presenceHigh, presenceSince := e.pins.presenceSince }
    ep := { z.ep with perst := e.ep.perst } }

/-- How long after input loss the rails go off: 210 ms, but 10 ms for a loss before step 8 and in a thermal halt (R520, R530). -/
def Engine.railsMs (e : Engine) : Nat :=
  match e.sys.phase with
  | .running | .stopped => if e.power.t0.any fun t => decide (t < e.sys.step8At) then 10 else 210
  | _ => 10

/-- POWER_FAIL_RAILS_OFF (R520, R521, R530): everything that needs power is lost; with an input qualified again the engine starts
from step 1. The key store's fault flag reads 0 after power-up (R487). -/
def State.railsOff (s : State) : State :=
  if !s.eng.since s.eng.railsMs s.eng.power.t0 then s
  else
    let e := s.eng.unpowered
    let any := vget e.power.qualified 0 false || vget e.power.qualified 1 false
    { s with ks := { s.ks with fault := false }, eng := if any then e.powerUp e.power.plate else e }

def execPowerFailRailsOff (t : Nat) (s : State) : Out := s.runAll t (·.railsOff)

/-- A ready cartridge delivers at least 28 J (R522). -/
def holdupLeast : Nat := 280

/-- The conditions of R522. -/
def Holdup.fit (h : Holdup) : Bool :=
  h.present && h.idValid && h.charged && !h.fault && h.health.any fun j => decide (holdupLeast ≤ j)

/-- The cartridge becomes ready, or no longer is (R522, R523). -/
def Engine.holdupSettle (e : Engine) : Engine :=
  let was := e.power.holdup.ready
  let now := e.power.holdup.fit
  let e := e.modHoldup fun h => { h with ready := now }
  if now && !was then e.emit 0x0042 .holdupReady [] else e

/-- HOLDUP_FAULT with the last result in 0.1 J, the serial number and the hours in service (R523). -/
def Engine.holdupFail (e : Engine) : Engine :=
  let h := e.power.holdup
  (e.bump .holdupFault 0x0042).emit 0x0042 .holdupFault (evData [(4, h.health.getD 0), (4, h.serial), (4, h.hours)])

/-- HOLDUP_INSERT (R524): it charges. -/
def Engine.holdupInsert (serial hours : Nat) (idValid : Bool) (e : Engine) : Engine :=
  if e.power.holdup.present then e
  else e.modHoldup fun _ => { Holdup.reset with present := true, idValid := idValid, serial := serial, hours := hours }

def execHoldupInsert (t : Nat) (serial hours : Nat) (idValid : Bool) (s : State) : Out :=
  s.run t (·.holdupInsert serial hours idValid)

/-- HOLDUP_REMOVED (R524): it stops no unit. -/
def Engine.holdupRemoved (e : Engine) : Engine :=
  if !e.power.holdup.present then e
  else
    let e := e.modHoldup fun _ => Holdup.reset
    e.whenPowered fun e => (e.bump .holdupRemoved 0x0042).emit 0x0042 .holdupRemoved []

def execHoldupRemoved (t : Nat) (s : State) : Out := s.run t (·.holdupRemoved)

/-- HOLDUP_READY (R522): it is charged to full voltage. -/
def Engine.holdupCharged (e : Engine) : Engine :=
  if e.power.holdup.present then (e.modHoldup fun h => { h with charged := true }).holdupSettle else e

def execHoldupReady (t : Nat) (s : State) : Out := s.run t fun e => e.whenPowered (·.holdupCharged)

/-- A measurement is due: after the first full charge of a power-up, and 24 h after the one before (R523). -/
def Holdup.due (h : Holdup) (now : Nat) : Bool :=
  h.present && h.charged && h.measuredAt.all fun t => decide (t + secs 86400 ≤ now)

/-- HOLDUP_HEALTH_MEASURE (R523): not in RECORD, and abandoned after input loss (R530). -/
def Engine.holdupMeasure (tenthsJ : Nat) (e : Engine) : Engine :=
  if !e.power.holdup.due e.now || e.power.t0.isSome || (e.live && e.sys.mode = .record) then e
  else
    let e := (e.modHoldup fun h => { h with health := some tenthsJ, measuredAt := some e.now }).holdupSettle
    if tenthsJ < holdupLeast then e.holdupFail else e

def execHoldupHealthMeasure (t : Nat) (tenthsJ : Nat) (s : State) : Out :=
  s.run t fun e => e.whenPowered (·.holdupMeasure tenthsJ)

/-- HOLDUP_FAULT (R523): the cartridge reports a fault. -/
def Engine.holdupFault (e : Engine) : Engine :=
  if e.power.holdup.present then (e.modHoldup fun h => { h with fault := true, ready := false }).holdupFail else e

def execHoldupFault (t : Nat) (s : State) : Out := s.run t fun e => e.whenPowered (·.holdupFault)

/-- Data of THERMAL_DERATE and THERMAL_TRIP (R528). -/
def thermalData (plate junction : Int) (die : Nat) (cold : Bool) : List Byte :=
  leInt 2 plate ++ leInt 2 junction ++ le 1 die ++ le 1 (bit cold)

/-- Temperatures as the engine reads them while the rails are on. -/
def Engine.thermalRead (plate junction : Int) (e : Engine) : Engine :=
  e.modPower fun p => { p with plate := plate, junction := junction }

/-- One condition of R528 or R529 at a reading: its entry is counted, and it is logged at entry and every minute. -/
def Engine.thermalCond (cold holds : Bool) (data : List Byte) (e : Engine) : Engine :=
  let was := if cold then e.power.cold else e.power.hot
  let last := if cold then e.power.coldAt else e.power.hotAt
  if !holds || (was && decide (e.now < last + secs 60)) then e
  else
    let e := e.modPower fun p => if cold then { p with cold := true, coldAt := e.now } else { p with hot := true, hotAt := e.now }
    (if was then e else e.bump .thermalDerate 0x0043).emit 0x0043 .thermalDerate data

/-- THERMAL_DERATE (R528, R529). -/
def Engine.thermalDerate (plate junction : Int) (die : Nat) (e : Engine) : Engine :=
  let e := e.thermalRead plate junction
  let hot := decide (550 < plate) || decide (1050 < junction)
  let cold := decide (plate < e.modId.lowerLimit)
  (e.thermalCond false hot (thermalData plate junction die false)).thermalCond true cold (thermalData plate junction die true)

/-- The rails are on, so that the engine acts on its sensors. -/
def Engine.whenRails (f : Engine → Engine) (e : Engine) : Engine :=
  match e.sys.phase with
  | .off | .coldHold => e
  | _ => f e

def execThermalDerate (t : Nat) (plate junction : Int) (die : Fin 8) (s : State) : Out :=
  s.run t fun e => e.whenRails (·.thermalDerate plate junction die)

/-- THERMAL_DERATE_CLEAR (R528, R529): below 53 and 100 degrees C; 2 degrees C above the lower limit. -/
def Engine.thermalClear (plate junction : Int) (e : Engine) : Engine :=
  let e := e.thermalRead plate junction
  let low := e.modId.lowerLimit
  e.modPower fun p => { p with
    hot := p.hot && !(decide (plate < 530) && decide (junction < 1000))
    cold := p.cold && decide (plate < low + 20) }

def execThermalDerateClear (t : Nat) (plate junction : Int) (s : State) : Out :=
  s.run t fun e => e.whenRails (·.thermalClear plate junction)

/-- A trip (R528): clips close and the endpoint drains; before step 8, with nothing to close, the thermal halt is entered at
once. A start-up halt stays one (R509). -/
def Engine.trip (cold : Bool) (data : List Byte) (e : Engine) : Engine :=
  let e := (e.bump .thermalTrip 0x0043).emit 0x0043 .thermalTrip data
  let e := e.modPower fun p => { p with trip := some e.now, coldTrip := cold }
  match e.sys.phase with
  | .running => (e.modRec fun r => { r with powerStop := true }).modEp fun p =>
      { p with stopped := true, drained := Vector.replicate 4 0 }
  | .starting _ =>
    let e := e.unitsStop false
    { e with sys := { e.sys with phase := .thermalHalt } }
  | _ => e

/-- THERMAL_TRIP (R528, R529, R530). -/
def Engine.thermalTrip (plate junction : Int) (die : Nat) (e : Engine) : Engine :=
  let e := e.thermalRead plate junction
  let hot := decide (e.modId.deratedLimit < plate) || decide (1150 ≤ junction)
  let cold := decide (plate < e.modId.lowerLimit - 100)
  if e.power.t0.isSome || e.power.trip.isSome || !(hot || cold) then e
  else e.trip (!hot) (thermalData plate junction die (!hot))

def execThermalTrip (t : Nat) (plate junction : Int) (die : Fin 8) (s : State) : Out :=
  s.run t fun e => e.whenRails (·.thermalTrip plate junction die)

/-- THERMAL_HALT_END (R528, R529): the temperatures have held for 10 s, and a full restart follows. -/
def Engine.thermalHaltEnd (plate junction : Int) (e : Engine) : Engine :=
  let e := e.thermalRead plate junction
  let ok := if e.power.coldTrip then decide (e.modId.lowerLimit ≤ plate)
    else decide (plate ≤ e.modId.deratedLimit - 100) && decide (junction ≤ 850)
  if e.sys.phase = .thermalHalt && e.power.t0.isNone && ok then
    (e.modPower fun p => { p with trip := none, coldTrip := false }).restartNow
  else e

def execThermalHaltEnd (t : Nat) (plate junction : Int) (s : State) : Out :=
  s.run t fun e => e.whenRails (·.thermalHaltEnd plate junction)

/-- COLD_HOLD_RELEASE (R529): the base sensor has read at or above the lower limit for 1 s; step 1 goes on. -/
def Engine.coldHoldRelease (plate : Int) (e : Engine) : Engine :=
  if e.sys.phase = .coldHold && e.power.t0.isNone && decide (e.modId.lowerLimit ≤ plate) then
    { e with
      power := { e.power with plate := plate }
      pins := { e.pins with pwrfailN := true }
      sys := { e.sys with phase := .starting 1 } }
  else e

def execColdHoldRelease (t : Nat) (plate : Int) (s : State) : Out := s.run t (·.coldHoldRelease plate)

/-- Output contacts of J4 whose level this model holds (Table 23.8). -/
inductive Contact where
  | rstN (p : Fin 2)
  | xtrig (p : Fin 2)
  | auxTrig
  | phaseOut (bit : Fin 3)
  | phaseOutStb
  | pwrfailN
  | perstN (m : Fin 4)
  | pwren (m : Fin 4)
  | lamp (k : Fin 16)
  deriving DecidableEq, Repr

/-- The bank of a contact, from 0 for A (Table 23.8). -/
def Contact.bank : Contact → Nat
  | .rstN _ | .xtrig _ => 0
  | .auxTrig => 1
  | .phaseOut _ | .phaseOutStb | .pwrfailN => 2
  | .perstN _ | .pwren _ => 5
  | .lamp _ => 6

/-- A LAMP pin drives low until a probe is selected, and is high-impedance until LAMP opens (R484, R485, R535); what a probe carries
is a free value. -/
def Engine.lampLevel (k : Nat) (e : Engine) : Option Bool :=
  if !e.sys.lampOpen then none
  else match vget e.sys.lampPins k none with
    | some probe => some (Config.unstated 485 (e.now * 65536 + probe) % 2 = 1)
    | none => some false

/-- The level that the engine drives on a contact; none is high-impedance, as every output of a bank is while its VIO is absent or
out of range (R532). PWRFAIL_N, open drain, is never driven high (Table 23.9). -/
def Engine.contactLevel (k : Contact) (e : Engine) : Option Bool :=
  if vget e.power.vio k.bank 0 = 0 then none
  else match k with
    | .rstN p => some (vget e.pins.rstN p false)
    | .xtrig p => some (e.xtrigLevel p)
    | .auxTrig => some e.auxTrigLevel
    | .phaseOut i => some (e.pins.phaseOut.testBit i)
    | .phaseOutStb => some e.stbLevel
    | .pwrfailN => if e.pins.pwrfailN then none else some false
    | .perstN m => some (vget e.pins.perstN m false)
    | .pwren m => some (vget e.pins.pwren m false)
    | .lamp i => e.lampLevel i

/-- VIO_CHANGE (R532): the range of a bank's voltage; without one its outputs are high-impedance. -/
def execVioChange (t : Nat) (bank : Fin 7) (range : Fin 3) (s : State) : Out :=
  s.run t fun e => e.modPower fun p => { p with vio := vmod p.vio bank fun _ => range }

end Sys2Proof.Machine
end

