-- ==== Sys2Proof/Machine/Status.lean ====
section
/-! DEFINITION. The status query (R468): the STS_ block of every section, and the command STATUS. -/

namespace Sys2Proof.Machine

/-- PENDING of STS_SYS (Table 19.10, R507, R509, R528). -/
def Sys.pendingCode (s : Sys) : Nat :=
  match s.phase with
  | .halt _ | .thermalHalt => 6
  | .starting _ | .coldHold | .off => 0
  | .running | .stopped =>
    match s.pend with
    | p :: _ => p.mode.code
    | [] => 7

/-- Words of 16 ASCII bytes, the lowest byte in bits [7:0] (Table 19.10). -/
def asciiWords (b : List Byte) : List Word :=
  let b := padTo 16 b
  (List.range 4).map fun k => (List.range 4).foldl (fun w i => w ||| ((b.getD (4 * k + i) 0).setWidth 32 <<< (8 * i))) (0 : Word)

/-- Words of a mask of units by their ordinals (Table 19.10). -/
def unitMask (p : Nat → Bool) : List Word :=
  [0, 1].map fun k => (List.range 32).foldl (fun w i => if p (32 * k + i) then w ||| (1#32 <<< i) else w) (0 : Word)

/-- FW_LOAD and slack words (Table 18.11). -/
def Engine.loadWords (e : Engine) : List Word :=
  (e.cluster.cores.toList.map fun c => mkWord [(31, 22, c.load1s), (21, 12, c.loadMax), (11, 6, satNat 63 c.resets)]) ++
    (List.range 4).map fun k =>
      mkWord [(31, 16, vget e.cluster.slack (2 * k) 0), (15, 0, vget e.cluster.slack (2 * k + 1) 0)]

/-- The unit with ordinal k differs in the active slot (R449). -/
def Engine.unitChanged (f : Flash) (e : Engine) (k : Nat) : Bool :=
  match e.sys.active, unitCodes[k]? with
  | some _, some u => Cfg.unitDiffers e.cfg ((unitSlot (e.activeSlot f) u).getD []) u
  | _, _ => false

/-- STS_SYS (R468). -/
def Engine.stsSys (f : Flash) (ks : KeyStore) (e : Engine) : List Word :=
  let s := e.sys
  let mode := match s.phase with
    | .running | .stopped => s.mode.code
    | _ => 0
  [mkWord [(31, 29, mode), (28, 26, s.pendingCode), (25, 25, bit (e.live && s.sensorsLive)), (24, 24, bit (s.active.getD false)),
      (23, 23, bit (e.restartPending f)), (22, 22, bit (e.fwPending f)), (21, 21, bit ks.hash.isNone),
      (20, 20, bit s.lampOpen), (19, 19, bit (decide (s.phase = .halt 3))), (18, 18, bit e.power.holdup.ready)],
    word s.generation, e.cw 0x0001 1, word s.fwBuild] ++ asciiWords e.modId.order ++ asciiWords e.modId.serial ++
    [word (e.modId.mac % 4294967296), mkWord [(15, 0, e.modId.mac / 4294967296)], mkWord [(31, 20, e.deviceId)]] ++
    unitMask s.failed.contains ++ unitMask (e.unitChanged f) ++ e.loadWords

def LinkState.code : LinkState → Nat
  | .off => 0 | .training => 1 | .up => 2 | .resetting => 3 | .failed => 4

def CapState.code : CapState → Nat
  | .idle => 0 | .waitLink => 1 | .running => 2 | .paused => 3

/-- STS_SENSORn (R85, R117, Tables 4.6 and 5.10). -/
def Engine.stsSensor (e : Engine) (p : Nat) : List Word :=
  let q := e.port p
  [mkWord [(29, 27, q.link.code), (26, 24, q.lanesNow), (23, 20, q.rateNow), (19, 13, q.skewMax), (12, 5, q.alignSeq),
      (4, 4, bit q.frame.isSome), (3, 0, satNat 15 q.trainTry)],
    word q.cfn,
    mkWord [(31, 29, q.cap.code), (28, 28, bit q.capFault), (27, 25, q.phaseNow), (24, 24, bit e.phaseIn.lock),
      (23, 21, q.modeNow), (20, 15, satNat 63 (e.waitingChanges p))]]

/-- STATE of a branch (Table 7.10). -/
def Engine.branchCode (e : Engine) (b : Nat) : Nat :=
  if e.sys.failed.contains (4 + b) then 3
  else match (vget e.colour.branches b Branch.reset).state with
    | .off => 0 | .running => 1 | .stopped => 2 | .failed => 3

/-- STS_BRANCHn (R184). All words read 0 while the branch is off. -/
def Engine.stsBranch (e : Engine) (b : Nat) : List Word :=
  if e.branchCode b = 0 then [0, 0, 0]
  else
    [mkWord [(31, 30, e.branchCode b), (29, 25, e.slotAt b e.frameNow)], word (vget e.colour.branches b Branch.reset).clips,
      word (e.lutIdAt b e.frameNow)]

/-- STATE of a stream (Table 8.6): 0 OFF, 1 IDLE, 2 CODING while it records or a picture is not complete, 3 DECODING while the
playback's pictures are its. -/
def Engine.fsrState (e : Engine) (s : Nat) : Nat :=
  if !e.cfg.fsValid s then 0
  else if e.rec_.play.any fun x => !x.proxy && x.stream = some s then 3
  else if !(e.stream s).pics.isEmpty || e.rec_.takes.any fun t => t.last.isNone && t.clips.any (·.stream = s) then 2
  else 1

/-- STS_FSR (R213, Table 8.6). -/
def Engine.stsFsr (e : Engine) : List Word :=
  mkWord [(31, 26, (e.fsr.inService.toList.filter id).length)] ::
    e.fsr.streams.toList.mapIdx fun s q =>
      mkWord [(31, 30, e.fsrState s), (29, 24, q.lastQi), (23, 23, bit q.lastEmerg), (22, 0, satNat 8388607 q.lastPages)]

/-- STS_SECURITY (R487, Table 20.6). -/
def Engine.stsSecurity (ks : KeyStore) (e : Engine) : List Word :=
  let keyId (k : Option KeyEntry) : Word := match k with
    | some x => word x.keyId
    | none => 0
  let first := ks.sealFirst.getD 0
  [mkWord [(31, 31, bit ks.hash.isSome), (30, 30, bit ks.pkey.isSome), (29, 29, bit ks.sealFirst.isSome), (28, 28, bit ks.fault),
      (27, 27, bit (e.cluster.cal.any (·.isSome)))],
    keyId ks.hash, keyId ks.pkey, word (first % 4294967296), word (first / 4294967296), word ks.lampOpens]

/-- STS_PRESENCE (R487). -/
def Engine.stsPresence (e : Engine) : List Word :=
  [mkWord [(31, 30, e.cfg.presenceMode), (29, 29, bit e.pins.presenceHigh), (28, 28, bit e.ctl.staged.isSome)]]

/-- The STS_ block of a section; none has no status block (R468). -/
def Engine.stsBlock (f : Flash) (ks : KeyStore) (e : Engine) (sect : Nat) : Option (List Word) :=
  if sect = 0x0001 then some (e.stsSys f ks)
  else if sect = 0x0002 then some e.stsClk
  else if sect = 0x0003 then some e.stsLane
  else if sect = 0x0004 then some e.stsDram
  else if sect = 0x0005 then some e.stsGrotto
  else if sect = 0x0010 ∨ sect = 0x0011 then some (e.stsSensor (sect - 0x0010))
  else if 0x0031 ≤ sect ∧ sect ≤ 0x0036 then some (e.stsBranch (sect - 0x0031))
  else if sect = 0x0040 then some e.stsFsr
  else if sect = 0x0041 then some e.stsHevc
  else if sect = 0x0050 then some e.stsRecord
  else if sect = 0x0051 then some e.stsMedia
  else if sect = 0x0052 then some e.stsEndpoint
  else if 0x0060 ≤ sect ∧ sect ≤ 0x0063 then some (e.stsHead (sect - 0x0060))
  else if sect = 0x0068 then some e.stsSdi
  else if sect = 0x0069 then some e.stsDp
  else if sect = 0x006A then some e.stsNet
  else if sect = 0x0070 then some e.stsAudio
  else if sect = 0x0080 then some e.stsTime
  else if sect = 0x0090 then some ((List.range 8).flatMap e.stsPosChan)
  else if sect = 0x00A0 then some (e.stsSecurity ks)
  else if sect = 0x00A1 then some e.stsPresence
  else none

/-- Only STS_SYS is answered here: before step 8 and in a start-up halt (R507, R509, R510). -/
def Phase.sysOnly : Phase → Bool
  | .starting _ | .halt _ | .off | .coldHold => true
  | _ => false

/-- STATUS (R468, R507). -/
def Engine.statusRead (h : MsgHdr) (sect : Nat) (f : Flash) (ks : KeyStore) (e : Engine) : Engine :=
  if 0xFFFF < sect then e.refuse h 0x0401 .malformed .none
  else if e.sys.phase.sysOnly && sect != 0x0001 then e.refuse h 0x0401 .state .none
  else
    match e.stsBlock f ks sect with
    | none => e.refuse h 0x0401 .notFound .none
    | some ws => e.reply h 0x0401 .ok .none (le 4 ws.length ++ ws.flatMap fun w => le 4 w.toNat)

def execStatus (t : Nat) (h : MsgHdr) (sect : Nat) (s : State) : Out :=
  s.runWith t fun f ks e => e.request h 0x0401 (·.statusRead h sect f ks)

end Sys2Proof.Machine
end

