-- ==== Sys2Proof/Machine/Dispatch.lean ====
section
/-!
DEFINITION.  One arm for each command of the module: the command's meaning, called with its
operands and the state.
-/
namespace Sys2Proof.Machine

def exec (i : Instr) (s : State) : Host.Outcome State Fault Refusal :=
  match i with
  | .modeSet t h mode preview => Sys2Proof.Machine.execModeSet t h mode preview s
  | .unitRestart t h unit => Sys2Proof.Machine.execUnitRestart t h unit s
  | .fullRestart t h => Sys2Proof.Machine.execFullRestart t h s
  | .clearCounters t h source => Sys2Proof.Machine.execClearCounters t h source s
  | .laneTest t h lane loopback pattern => Sys2Proof.Machine.execLaneTest t h lane loopback pattern s
  | .subscribe t h mask sev => Sys2Proof.Machine.execSubscribe t h mask sev s
  | .lampSelect t h pin probe => Sys2Proof.Machine.execLampSelect t h pin probe s
  | .settings t h tg groups gain rmode expNs rowOff colOff => Sys2Proof.Machine.execSettings t h tg groups gain rmode expNs rowOff colOff s
  | .wbIso t h tg cct tint iso => Sys2Proof.Machine.execWbIso t h tg cct tint iso s
  | .lutSelect t h tg branches slots => Sys2Proof.Machine.execLutSelect t h tg branches slots s
  | .profileSelect t h tg profile => Sys2Proof.Machine.execProfileSelect t h tg profile s
  | .tnrStrength t h tg str => Sys2Proof.Machine.execTnrStrength t h tg str s
  | .lutLoad t h tg entries => Sys2Proof.Machine.execLutLoad t h tg entries s
  | .tableReload t h tg tables => Sys2Proof.Machine.execTableReload t h tg tables s
  | .l1Draw t h head commit copy x y w ht pixels => Sys2Proof.Machine.execL1Draw t h head commit copy x y w ht pixels s
  | .l2Text t h head box visible opq commit glyphSet x y fg bg text => Sys2Proof.Machine.execL2Text t h head box visible opq commit glyphSet x y fg bg text s
  | .l3Mark t h head visible half commit rect item x0 y0 x1 y1 width colour => Sys2Proof.Machine.execL3Mark t h head visible half commit rect item x0 y0 x1 y1 width colour s
  | .recordStart t h tg => Sys2Proof.Machine.execRecordStart t h tg s
  | .recordStop t h tg => Sys2Proof.Machine.execRecordStop t h tg s
  | .setReel t h reel => Sys2Proof.Machine.execSetReel t h reel s
  | .play t h clip startCfn proxy decode => Sys2Proof.Machine.execPlay t h clip startCfn proxy decode s
  | .playStop t h => Sys2Proof.Machine.execPlayStop t h s
  | .mediaFormat t h port => Sys2Proof.Machine.execMediaFormat t h port s
  | .mediaQualify t h port => Sys2Proof.Machine.execMediaQualify t h port s
  | .status t h sect => Sys2Proof.Machine.execStatus t h sect s
  | .counters t h source => Sys2Proof.Machine.execCounters t h source s
  | .logRead t h from_ count => Sys2Proof.Machine.execLogRead t h from_ count s
  | .statsRead t h slot => Sys2Proof.Machine.execStatsRead t h slot s
  | .defectRead t h first count port => Sys2Proof.Machine.execDefectRead t h first count port s
  | .outputQuery t h output => Sys2Proof.Machine.execOutputQuery t h output s
  | .streamQuery t h kind entry => Sys2Proof.Machine.execStreamQuery t h kind entry s
  | .xferBegin t h total generation => Sys2Proof.Machine.execXferBegin t h total generation s
  | .xferData t h offset data => Sys2Proof.Machine.execXferData t h offset data s
  | .xferEnd t h total crc => Sys2Proof.Machine.execXferEnd t h total crc s
  | .xferAbort t h => Sys2Proof.Machine.execXferAbort t h s
  | .imageCommit t h slot => Sys2Proof.Machine.execImageCommit t h slot s
  | .keyLoad t h kind keyId value check check2 => Sys2Proof.Machine.execKeyLoad t h kind keyId value check check2 s
  | .keyErase t h mask => Sys2Proof.Machine.execKeyErase t h mask s
  | .lampOpen t h => Sys2Proof.Machine.execLampOpen t h s
  | .timeStep t h offsetNs => Sys2Proof.Machine.execTimeStep t h offsetNs s
  | .calCommit t h tables fold found => Sys2Proof.Machine.execCalCommit t h tables fold found s
  | .factoryReset t h confirm => Sys2Proof.Machine.execFactoryReset t h confirm s
  | .gatedCancel t h => Sys2Proof.Machine.execGatedCancel t h s
  | .timeSet t h sec ns frac => Sys2Proof.Machine.execTimeSet t h sec ns frac s
  | .domainSelect t h domain => Sys2Proof.Machine.execDomainSelect t h domain s
  | .arrayRecordStart t h pfi asap reel clip arrayId => Sys2Proof.Machine.execArrayRecordStart t h pfi asap reel clip arrayId s
  | .arrayRecordStop t h pfi asap arrayId => Sys2Proof.Machine.execArrayRecordStop t h pfi asap arrayId s
  | .ctrlBadMessage t c kind type seq => Sys2Proof.Machine.execCtrlBadMessage t c kind type seq s
  | .ctrlDenied t addr port => Sys2Proof.Machine.execCtrlDenied t addr port s
  | .ctrlUartGapTimeout t => Sys2Proof.Machine.execCtrlUartGapTimeout t s
  | .fragmentTimeout t id => Sys2Proof.Machine.execFragmentTimeout t id s
  | .subscriptionLapse t addr port => Sys2Proof.Machine.execSubscriptionLapse t addr port s
  | .xferTimeout t => Sys2Proof.Machine.execXferTimeout t s
  | .presencePress t ksOk => Sys2Proof.Machine.execPresencePress t ksOk s
  | .presenceDecision t ksOk => Sys2Proof.Machine.execPresenceDecision t ksOk s
  | .gatedExpired t => Sys2Proof.Machine.execGatedExpired t s
  | .sealOpen t => Sys2Proof.Machine.execSealOpen t s
  | .projectFrameBoundary t => Sys2Proof.Machine.execProjectFrameBoundary t s
  | .autoPreview t => Sys2Proof.Machine.execAutoPreview t s
  | .captureSlotStart t => Sys2Proof.Machine.execCaptureSlotStart t s
  | .xtrig t p => Sys2Proof.Machine.execXtrig t p s
  | .writeWindowStart t p => Sys2Proof.Machine.execWriteWindowStart t p s
  | .sensorWriteDone t p ok room => Sys2Proof.Machine.execSensorWriteDone t p ok room s
  | .writeListDeadline t p complete => Sys2Proof.Machine.execWriteListDeadline t p complete s
  | .matrixDeadline t p ready => Sys2Proof.Machine.execMatrixDeadline t p ready s
  | .selectionDeadline t ready => Sys2Proof.Machine.execSelectionDeadline t ready s
  | .tableReloadDeadline t => Sys2Proof.Machine.execTableReloadDeadline t s
  | .lutLoadDeadline t => Sys2Proof.Machine.execLutLoadDeadline t s
  | .layerChangeDeadline t hd ready => Sys2Proof.Machine.execLayerChangeDeadline t hd ready s
  | .metadataDeadline t p ready => Sys2Proof.Machine.execMetadataDeadline t p ready s
  | .servoUpdateDeadline t => Sys2Proof.Machine.execServoUpdateDeadline t s
  | .sensorResetDone t p initOk => Sys2Proof.Machine.execSensorResetDone t p initOk s
  | .hyernTrainTimeout t p => Sys2Proof.Machine.execHyernTrainTimeout t p s
  | .hyernAlign t p seqs sameRow blocks skew tsLog2 => Sys2Proof.Machine.execHyernAlign t p seqs sameRow blocks skew tsLog2 s
  | .hyernSensorReset t p => Sys2Proof.Machine.execHyernSensorReset t p s
  | .hyernSopError t p kind => Sys2Proof.Machine.execHyernSopError t p kind s
  | .hyernFs t p sop payload crc => Sys2Proof.Machine.execHyernFs t p sop payload crc s
  | .hyernLs t p sop crc => Sys2Proof.Machine.execHyernLs t p sop crc s
  | .hyernPix t p sop payload crc => Sys2Proof.Machine.execHyernPix t p sop payload crc s
  | .hyernEmb t p sop payload crc => Sys2Proof.Machine.execHyernEmb t p sop payload crc s
  | .hyernLe t p sop crc => Sys2Proof.Machine.execHyernLe t p sop crc s
  | .hyernFe t p sop payload crc => Sys2Proof.Machine.execHyernFe t p sop payload crc s
  | .frameEndDeadline t p => Sys2Proof.Machine.execFrameEndDeadline t p s
  | .phaseInStrobe t code => Sys2Proof.Machine.execPhaseInStrobe t code s
  | .phaseInMiss t => Sys2Proof.Machine.execPhaseInMiss t s
  | .auxVs t => Sys2Proof.Machine.execAuxVs t s
  | .auxFrameEnd t clocks => Sys2Proof.Machine.execAuxFrameEnd t clocks s
  | .auxLoss t => Sys2Proof.Machine.execAuxLoss t s
  | .statsRecordDone t src => Sys2Proof.Machine.execStatsRecordDone t src s
  | .tableLoadDone t defects others => Sys2Proof.Machine.execTableLoadDone t defects others s
  | .lutLoadDone t files => Sys2Proof.Machine.execLutLoadDone t files s
  | .fsrBandDecide t st band => Sys2Proof.Machine.execFsrBandDecide t st band s
  | .fsrTileCoded t st col band engine errs1 errs2 => Sys2Proof.Machine.execFsrTileCoded t st col band engine errs1 errs2 s
  | .fsrTileLate t st col band => Sys2Proof.Machine.execFsrTileLate t st col band s
  | .fsrPictureComplete t st => Sys2Proof.Machine.execFsrPictureComplete t st s
  | .fsrDecodePicture t st bytes record audio => Sys2Proof.Machine.execFsrDecodePicture t st bytes record audio s
  | .hevcSourceFrame t st => Sys2Proof.Machine.execHevcSourceFrame t st s
  | .hevcRowStart t st params sei slice => Sys2Proof.Machine.execHevcRowStart t st params sei slice s
  | .hevcCtuCode t st row cands poison => Sys2Proof.Machine.execHevcCtuCode t st row cands poison s
  | .hevcPictureComplete t st => Sys2Proof.Machine.execHevcPictureComplete t st s
  | .hevcAccessUnitRx t d au => Sys2Proof.Machine.execHevcAccessUnitRx t d au s
  | .hevcDecodePicture t d au => Sys2Proof.Machine.execHevcDecodePicture t d au s
  | .hevcDecodeLate t d => Sys2Proof.Machine.execHevcDecodeLate t d s
  | .mediaInsert t m info => Sys2Proof.Machine.execMediaInsert t m info s
  | .mediaRemove t m => Sys2Proof.Machine.execMediaRemove t m s
  | .mediaMount t m info => Sys2Proof.Machine.execMediaMount t m info s
  | .mediaCmdComplete t m cid status => Sys2Proof.Machine.execMediaCmdComplete t m cid status s
  | .mediaCmdTimeout t m cid => Sys2Proof.Machine.execMediaCmdTimeout t m cid s
  | .mediaAbortTimeout t m cid => Sys2Proof.Machine.execMediaAbortTimeout t m cid s
  | .mediaResetTimeout t m => Sys2Proof.Machine.execMediaResetTimeout t m s
  | .mediaLinkDownTimeout t m => Sys2Proof.Machine.execMediaLinkDownTimeout t m s
  | .mediaHealthPoll t m warning => Sys2Proof.Machine.execMediaHealthPoll t m warning s
  | .mediaFormatDone t m => Sys2Proof.Machine.execMediaFormatDone t m s
  | .mediaQualified t m rates => Sys2Proof.Machine.execMediaQualified t m rates s
  | .recFlushTick t => Sys2Proof.Machine.execRecFlushTick t s
  | .chunkDurable t m chunk => Sys2Proof.Machine.execChunkDurable t m chunk s
  | .clipClosed t => Sys2Proof.Machine.execClipClosed t s
  | .nvmeSqDoorbell t q tail cids => Sys2Proof.Machine.execNvmeSqDoorbell t q tail cids s
  | .nvmeCqDoorbell t q hd => Sys2Proof.Machine.execNvmeCqDoorbell t q hd s
  | .epControllerEnable t asqs acqs => Sys2Proof.Machine.execEpControllerEnable t asqs acqs s
  | .epControllerReset t perst => Sys2Proof.Machine.execEpControllerReset t perst s
  | .epPerstRelease t => Sys2Proof.Machine.execEpPerstRelease t s
  | .epFlr t => Sys2Proof.Machine.execEpFlr t s
  | .epRegisterWrite t offset value => Sys2Proof.Machine.execEpRegisterWrite t offset value s
  | .epLoopbackEnter t => Sys2Proof.Machine.execEpLoopbackEnter t s
  | .nvmeIdentify t cid cns nsid => Sys2Proof.Machine.execNvmeIdentify t cid cns nsid s
  | .nvmeCreateIoSq t cid qid size cqid pc => Sys2Proof.Machine.execNvmeCreateIoSq t cid qid size cqid pc s
  | .nvmeCreateIoCq t cid qid size vector flags => Sys2Proof.Machine.execNvmeCreateIoCq t cid qid size vector flags s
  | .nvmeDeleteIoSq t cid qid => Sys2Proof.Machine.execNvmeDeleteIoSq t cid qid s
  | .nvmeDeleteIoCq t cid qid => Sys2Proof.Machine.execNvmeDeleteIoCq t cid qid s
  | .nvmeGetFeatures t cid fid sel => Sys2Proof.Machine.execNvmeGetFeatures t cid fid sel s
  | .nvmeSetFeatures t cid fid sel value => Sys2Proof.Machine.execNvmeSetFeatures t cid fid sel value s
  | .nvmeGetLogPage t cid lid nsid rae len => Sys2Proof.Machine.execNvmeGetLogPage t cid lid nsid rae len s
  | .nvmeAbort t cid sqid target => Sys2Proof.Machine.execNvmeAbort t cid sqid target s
  | .nvmeAsyncEventRequest t cid => Sys2Proof.Machine.execNvmeAsyncEventRequest t cid s
  | .nvmeControl t cid reqLen bufLen => Sys2Proof.Machine.execNvmeControl t cid reqLen bufLen s
  | .nvmeRead t q cid nsid slba nlb drive status => Sys2Proof.Machine.execNvmeRead t q cid nsid slba nlb drive status s
  | .nvmeWrite t q cid nsid slba nlb => Sys2Proof.Machine.execNvmeWrite t q cid nsid slba nlb s
  | .nvmeFlush t q cid nsid => Sys2Proof.Machine.execNvmeFlush t q cid nsid s
  | .nvmeWriteZeroes t q cid nsid slba nlb => Sys2Proof.Machine.execNvmeWriteZeroes t q cid nsid slba nlb s
  | .nvmeDatasetManagement t q cid nsid ranges ad => Sys2Proof.Machine.execNvmeDatasetManagement t q cid nsid ranges ad s
  | .nvmeInvalidOpcode t q cid opcode => Sys2Proof.Machine.execNvmeInvalidOpcode t q cid opcode s
  | .epPieceCommit t q cid piece data => Sys2Proof.Machine.execEpPieceCommit t q cid piece data s
  | .epDrainDone t ns => Sys2Proof.Machine.execEpDrainDone t ns s
  | .headFrameBoundary t hd => Sys2Proof.Machine.execHeadFrameBoundary t hd s
  | .headPictureStart t hd pic => Sys2Proof.Machine.execHeadPictureStart t hd pic s
  | .headSlate t hd => Sys2Proof.Machine.execHeadSlate t hd s
  | .sdiInLock t ix rate wide supported => Sys2Proof.Machine.execSdiInLock t ix rate wide supported s
  | .sdiInLoss t ix => Sys2Proof.Machine.execSdiInLoss t ix s
  | .dpHpd t d present edid maxLanes maxRate trained => Sys2Proof.Machine.execDpHpd t d present edid maxLanes maxRate trained s
  | .dpIrqHpd t d lockLost trained => Sys2Proof.Machine.execDpIrqHpd t d lockLost trained s
  | .nvRxPacket t e path seq => Sys2Proof.Machine.execNvRxPacket t e path seq s
  | .nvRxLoss t e seq => Sys2Proof.Machine.execNvRxLoss t e seq s
  | .netArpIcmp t link addr got => Sys2Proof.Machine.execNetArpIcmp t link addr got s
  | .audioTick t => Sys2Proof.Machine.execAudioTick t s
  | .audPllFirstLock t => Sys2Proof.Machine.execAudPllFirstLock t s
  | .audRelock t => Sys2Proof.Machine.execAudRelock t s
  | .audInLock t ix => Sys2Proof.Machine.execAudInLock t ix s
  | .audInLoss t ix => Sys2Proof.Machine.execAudInLoss t ix s
  | .audInRate t src => Sys2Proof.Machine.execAudInRate t src s
  | .aesCsBlock t ix bits zExact crcc => Sys2Proof.Machine.execAesCsBlock t ix bits zExact crcc s
  | .audRxPacket t e path seq ts samples => Sys2Proof.Machine.execAudRxPacket t e path seq ts samples s
  | .audTxPacket t e => Sys2Proof.Machine.execAudTxPacket t e s
  | .ptpSync t sv port master seq twoStep origin corr => Sys2Proof.Machine.execPtpSync t sv port master seq twoStep origin corr s
  | .ptpFollowUp t sv master seq origin corr => Sys2Proof.Machine.execPtpFollowUp t sv master seq origin corr s
  | .ptpDelayResp t sv master seq rx corr => Sys2Proof.Machine.execPtpDelayResp t sv master seq rx corr s
  | .ptpAnnounce t sv ann => Sys2Proof.Machine.execPtpAnnounce t sv ann s
  | .ptpDelayReqSend t sv seq => Sys2Proof.Machine.execPtpDelayReqSend t sv seq s
  | .ptpTimeout t sv announce => Sys2Proof.Machine.execPtpTimeout t sv announce s
  | .timeRevert t => Sys2Proof.Machine.execTimeRevert t s
  | .dtbStepApply t => Sys2Proof.Machine.execDtbStepApply t s
  | .beaconSend t => Sys2Proof.Machine.execBeaconSend t s
  | .beaconReceive t bytes => Sys2Proof.Machine.execBeaconReceive t bytes s
  | .beaconPeerTimeout t dev => Sys2Proof.Machine.execBeaconPeerTimeout t dev s
  | .clkMonitorWindow t src f => Sys2Proof.Machine.execClkMonitorWindow t src f s
  | .clkSourceStop t src => Sys2Proof.Machine.execClkSourceStop t src s
  | .clkPhaseHit t step => Sys2Proof.Machine.execClkPhaseHit t step s
  | .rootLocked t offset => Sys2Proof.Machine.execRootLocked t offset s
  | .clkRevert t src => Sys2Proof.Machine.execClkRevert t src s
  | .clkMuxForce t mux => Sys2Proof.Machine.execClkMuxForce t mux s
  | .clkNoSource t => Sys2Proof.Machine.execClkNoSource t s
  | .clkGateClose t parent => Sys2Proof.Machine.execClkGateClose t parent s
  | .dramRead t port region word errs => Sys2Proof.Machine.execDramRead t port region word errs s
  | .dramWrite t port region word data => Sys2Proof.Machine.execDramWrite t port region word data s
  | .dramScrub t rank word errs => Sys2Proof.Machine.execDramScrub t rank word errs s
  | .dramRecentre t rank edgeFound eye => Sys2Proof.Machine.execDramRecentre t rank edgeFound eye s
  | .dramRefresh t rank tempTenths => Sys2Proof.Machine.execDramRefresh t rank tempTenths s
  | .dramPowerDown t rank => Sys2Proof.Machine.execDramPowerDown t rank s
  | .siphonCopyChunk t bad => Sys2Proof.Machine.execSiphonCopyChunk t bad s
  | .grottoRead t addr errs => Sys2Proof.Machine.execGrottoRead t addr errs s
  | .grottoScrub t addr errs => Sys2Proof.Machine.execGrottoScrub t addr errs s
  | .posSample t ch a b z => Sys2Proof.Machine.execPosSample t ch a b z s
  | .posSsiRead t ch latch first second lowAtStart => Sys2Proof.Machine.execPosSsiRead t ch latch first second lowAtStart s
  | .posSpeedUpdate t => Sys2Proof.Machine.execPosSpeedUpdate t s
  | .posMidpointLatch t p => Sys2Proof.Machine.execPosMidpointLatch t p s
  | .posSsiSampleTimeout t p ch => Sys2Proof.Machine.execPosSsiSampleTimeout t p ch s
  | .metadataEmit t p => Sys2Proof.Machine.execMetadataEmit t p s
  | .logRelease t => Sys2Proof.Machine.execLogRelease t s
  | .logSuppressed t => Sys2Proof.Machine.execLogSuppressed t s
  | .deflateBlock t e stream zlib input code poison flush last => Sys2Proof.Machine.execDeflateBlock t e stream zlib input code poison flush last s
  | .coreWatchdog t core => Sys2Proof.Machine.execCoreWatchdog t core s
  | .loadSecond t loads peaks slacks => Sys2Proof.Machine.execLoadSecond t loads peaks slacks s
  | .dieLinkError t link fails => Sys2Proof.Machine.execDieLinkError t link fails s
  | .restartVerifyDone t kind index => Sys2Proof.Machine.execRestartVerifyDone t kind index s
  | .restartUnitStop t unit => Sys2Proof.Machine.execRestartUnitStop t unit s
  | .restartDone t unit => Sys2Proof.Machine.execRestartDone t unit s
  | .restartFailed t unit => Sys2Proof.Machine.execRestartFailed t unit s
  | .startupStepDone t f => Sys2Proof.Machine.execStartupStepDone t f s
  | .bootRetry t ok => Sys2Proof.Machine.execBootRetry t ok s
  | .inputQualified t j plateTenths => Sys2Proof.Machine.execInputQualified t j plateTenths s
  | .inputDropout t => Sys2Proof.Machine.execInputDropout t s
  | .inputLost t j => Sys2Proof.Machine.execInputLost t j s
  | .powerFailFlush t => Sys2Proof.Machine.execPowerFailFlush t s
  | .powerFailUnitsStop t => Sys2Proof.Machine.execPowerFailUnitsStop t s
  | .powerFailPwrenOff t => Sys2Proof.Machine.execPowerFailPwrenOff t s
  | .powerFailRailsOff t => Sys2Proof.Machine.execPowerFailRailsOff t s
  | .holdupInsert t serial hours idValid => Sys2Proof.Machine.execHoldupInsert t serial hours idValid s
  | .holdupRemoved t => Sys2Proof.Machine.execHoldupRemoved t s
  | .holdupReady t => Sys2Proof.Machine.execHoldupReady t s
  | .holdupHealthMeasure t tenthsJ => Sys2Proof.Machine.execHoldupHealthMeasure t tenthsJ s
  | .thermalDerate t plate junction die => Sys2Proof.Machine.execThermalDerate t plate junction die s
  | .thermalTrip t plate junction die => Sys2Proof.Machine.execThermalTrip t plate junction die s
  | .thermalHaltEnd t plate junction => Sys2Proof.Machine.execThermalHaltEnd t plate junction s
  | .coldHoldRelease t plate => Sys2Proof.Machine.execColdHoldRelease t plate s
  | .vioChange t bank range => Sys2Proof.Machine.execVioChange t bank range s
  | .calCaptureDone t p room => Sys2Proof.Machine.execCalCaptureDone t p room s
  | .lanePllLock t l => Sys2Proof.Machine.execLanePllLock t l s
  | .lanePllUnlock t l => Sys2Proof.Machine.execLanePllUnlock t l s
  | .laneCdrLock t l => Sys2Proof.Machine.execLaneCdrLock t l s
  | .lanePcsLock t l => Sys2Proof.Machine.execLanePcsLock t l s
  | .laneLockFail t l => Sys2Proof.Machine.execLaneLockFail t l s
  | .laneUp t l rate link => Sys2Proof.Machine.execLaneUp t l rate link s
  | .laneDown t l pll cdr pcs => Sys2Proof.Machine.execLaneDown t l pll cdr pcs s
  | .laneEbSlip t x => Sys2Proof.Machine.execLaneEbSlip t x s
  | .epUncommittedDiscard t => Sys2Proof.Machine.execEpUncommittedDiscard t s
  | .epDrainCutoff t => Sys2Proof.Machine.execEpDrainCutoff t s
  | .xferEraseDone t => Sys2Proof.Machine.execXferEraseDone t s
  | .xferCheckDone t => Sys2Proof.Machine.execXferCheckDone t s
  | .commitCheckDone t v => Sys2Proof.Machine.execCommitCheckDone t v s
  | .sdiInFormat t ix => Sys2Proof.Machine.execSdiInFormat t ix s
  | .refinFrameStart t rate => Sys2Proof.Machine.execRefinFrameStart t rate s
  | .presenceLevelChange t high => Sys2Proof.Machine.execPresenceLevelChange t high s
  | .thermalDerateClear t plate junction => Sys2Proof.Machine.execThermalDerateClear t plate junction s
  | .holdupFault t => Sys2Proof.Machine.execHoldupFault t s
  | .audInSample t src samples parityErr => Sys2Proof.Machine.execAudInSample t src samples parityErr s

end Sys2Proof.Machine
end

