-- ==== Sys2Proof/Safety.lean ====
section
/-! DEFINITION. The terms in which claims about this block are stated: which parts of the engine two states share, what a
command answers and logs, and the rules that every state of the flash and the key store keeps. -/

namespace Sys2Proof.Machine

/-- The parts of the engine, one for each field of Engine. -/
inductive Part where
  | now | free | cfg | counters | log | ctl | sys | modId | power | pins | cluster | lanes | ports | proj | phaseIn | aux
  | time | clk | raw | colour | fsr | pos | aud | hevc | md | recorder | ep | outs | dram | grotto
  deriving DecidableEq, Repr

/-- Two engines agree on a part. -/
def Part.same : Part → Engine → Engine → Prop
  | .now, a, b => a.now = b.now
  | .free, a, b => a.free = b.free
  | .cfg, a, b => a.cfg = b.cfg
  | .counters, a, b => a.counters = b.counters
  | .log, a, b => a.log = b.log
  | .ctl, a, b => a.ctl = b.ctl
  | .sys, a, b => a.sys = b.sys
  | .modId, a, b => a.modId = b.modId
  | .power, a, b => a.power = b.power
  | .pins, a, b => a.pins = b.pins
  | .cluster, a, b => a.cluster = b.cluster
  | .lanes, a, b => a.lanes = b.lanes
  | .ports, a, b => a.ports = b.ports
  | .proj, a, b => a.proj = b.proj
  | .phaseIn, a, b => a.phaseIn = b.phaseIn
  | .aux, a, b => a.aux = b.aux
  | .time, a, b => a.time = b.time
  | .clk, a, b => a.clk = b.clk
  | .raw, a, b => a.raw = b.raw
  | .colour, a, b => a.colour = b.colour
  | .fsr, a, b => a.fsr = b.fsr
  | .pos, a, b => a.pos = b.pos
  | .aud, a, b => a.aud = b.aud
  | .hevc, a, b => a.hevc = b.hevc
  | .md, a, b => a.md = b.md
  | .recorder, a, b => a.rec_ = b.rec_
  | .ep, a, b => a.ep = b.ep
  | .outs, a, b => a.outs = b.outs
  | .dram, a, b => a.dram = b.dram
  | .grotto, a, b => a.grotto = b.grotto

/-- b differs from a in the listed parts at most. -/
def Engine.changesOnly (ps : List Part) (a b : Engine) : Prop := ∀ p, p ∉ ps → p.same a b

/-- The command completes: it answers a next state in which flash, key store and queue are as before, and P holds of the
engine as the command finds it at its instant t, and as it leaves it. -/
def Does (i : Instr) (t : Nat) (s : State) (P : Engine → Engine → Prop) : Prop :=
  ∃ b, exec i s = .next { s with eng := b } ∧ P (s.eng.at t) b

/-- The events handed to the merger from a to b, oldest first: source, event and data. -/
def Engine.newEvents (a b : Engine) : List (Nat × Ev × List Byte) :=
  (b.log.held.drop a.log.held.length).map fun x => (x.record.src, x.record.ev, x.record.data)

/-- Counter c of a source, instance 0, has counted once more, and holds at its end (R8). -/
def Engine.counted (c : Ctr) (src : Nat) (a b : Engine) : Prop :=
  b.ctr c src 0 = satNat 0xFFFFFFFF (a.ctr c src 0 + 1)

/-- The last message sent is the response to a request. -/
def Engine.replied (h : MsgHdr) (ty : Nat) (st : Status) (rs : Reason) (payload : List Byte) (b : Engine) : Prop :=
  b.ctl.sent.head? = some ⟨h.client, false, ty, h.seq, st, rs, payload⟩

/-- A packet of type ty that the receiver of port p accepts whole (R70 to R74, R80). -/
def Engine.goodPacket (e : Engine) (p ty : Nat) (sop : BitVec 56) (payload : List Byte) (crc : BitVec 32) : Prop :=
  e.sys.phase = .running ∧ e.streaming p = true ∧ (pktHdr sop).ptype = ty ∧ ((e.port p).awaitFs = false ∨ ty = 1) ∧
    hchkOk sop = true ∧
    e.cfg.hdrOk p (match (e.port p).frame with
      | some f => f.embNext
      | none => 0) (pktHdr sop) = true ∧
    payload.length = e.cfg.payloadLen p (pktHdr sop) ∧ trailerOk sop payload crc = true

/-- Nothing hangs on the drive of a media port: no recording, playback, record start pending, qualification, or endpoint
data, and no command of the engine waits for a drain. -/
def Engine.driveIdle (e : Engine) (m : Nat) : Prop :=
  e.rec_.takes = [] ∧ e.rec_.play = none ∧ e.sys.pend = [] ∧ (e.mport m).qualifier = none ∧ e.ep.dirty = [] ∧ e.ep.cmds = [] ∧
    ∀ k : Fin 4, (e.mport k).owed = []

/-- From a to b every drive has been given what may go on now: its next drain write, or, with nothing to drain, the commands that
waited for that (R287, R290); the recorder changes in nothing else. -/
def Engine.drainsIssued (a b : Engine) : Prop :=
  b.rec_ = ([0, 1, 2, 3].foldl Engine.drainIssue { a with ep := b.ep }).rec_

/-- A completion of submission queue q finds its completion queue with a free entry (R282). -/
def Engine.canPost (e : Engine) (q : Nat) : Prop :=
  ∃ sq c, e.ep.sqs.find? (·.qid = q) = some sq ∧ e.ep.cqs.find? (·.qid = sq.cq) = some c ∧
    (c.tail + 1) % max 1 c.size ≠ c.head % max 1 c.size

/-- Command cid of queue q has been fetched and waits to be processed, and its completion can be posted. -/
def Engine.fetchedFor (e : Engine) (q cid : Nat) (x : EpFetched) : Prop :=
  e.ep.fetched.find? (fun x => x.q = q && x.cid = cid) = some x ∧ e.canPost q

/-- The newest completion posted. -/
def Engine.completed (q cid sct sc : Nat) (dnr : Bool) (dw0 : Nat) (data : List Byte) (b : Engine) : Prop :=
  b.ep.done.head? = some ⟨q, cid, sct, sc, dnr, dw0, data⟩

/-- The level of input k of a position channel after its filter: 0 A, 1 B, 2 Z (R423). -/
def PosChan.level (c : PosChan) (k : Nat) : Bool := (vget c.filt k ⟨false, false, 0⟩).level

/-- A request reaches its own rules (R457, R462, R507). -/
def State.takes (s : State) (t : Nat) (h : MsgHdr) (ty : Nat) : Prop := (s.eng.at t).intake h ty = .go

/-- The request that asks for a gated command (Table 20.2). -/
def Gated.instr (t : Nat) (h : MsgHdr) : Gated → Instr
  | .imageCommit slot => .imageCommit t h slot
  | .keyLoad kind keyId value check => .keyLoad t h kind keyId value (check.take 4) (check.drop 4)
  | .keyErase mask => .keyErase t h mask
  | .lampOpen => .lampOpen t h
  | .timeStep o => .timeStep t h o
  | .calCommit tables fold found => .calCommit t h tables fold found
  | .factoryReset confirm => .factoryReset t h confirm

/-- At instant t a press of R475 is complete for the staged command g: BUTTON mode in SERVICE, the level low for 50 ms since a
fall after the staging, within 30 s of it. -/
def State.pressed (s : State) (t : Nat) (g : Staged) : Prop :=
  s.eng.sys.phase = .running ∧ s.eng.sys.mode = .service ∧ s.eng.cfg.presenceMode = 0 ∧ s.eng.ctl.staged = some g ∧
    g.executing = false ∧ s.eng.pins.presenceHigh = false ∧ g.at_ < s.eng.pins.presenceSince ∧
    s.eng.pins.presenceSince + ms 50 ≤ (s.eng.at t).now ∧ (s.eng.at t).now ≤ g.at_ + secs 30

/-- The rules of the permanent state: both flash slots in canonical form (R435), at most 10,000 writes of a key entry, which is
absent until it is first written (R478), and a date for each LAMP opening (R484). -/
def State.keepsRules (s : State) : Prop :=
  memWf 0xFF s.flash.slotA = true ∧ memWf 0xFF s.flash.slotB = true ∧ s.flash.slotBytes ≤ 268435456 ∧
    s.ks.hashWrites ≤ 10000 ∧ s.ks.pkeyWrites ≤ 10000 ∧ (s.ks.hashWrites = 0 → s.ks.hash = none) ∧
    (s.ks.pkeyWrites = 0 → s.ks.pkey = none) ∧ s.ks.lampSecs.length = s.ks.lampOpens

end Sys2Proof.Machine
end

