-- ==== Sys2Proof/Certificates/Slice0/Obligations.lean ====
section
/-! DEFINITION. The statements about this block for the provers. Throughout, `Does i t s P` says that command i with instant t
completes on s, and P relates the engine as it finds it (a) to the engine as it leaves it (b). -/

open Sys2Proof Sys2Proof.Machine

/-- A step takes the command at the front of the queue and runs it on the state with the rest of the queue. -/
def Obligations.StepTakesFront : Prop :=
  ∀ (c : Instr) (rest : List Instr) (s : State), s.pending = c :: rest → step s = exec c { s with pending := rest }

/-- With nothing waiting a step changes nothing; with a DRAM request waiting only the engine may change (the model's choice,
log 2). -/
def Obligations.EmptyQueueIdles : Prop :=
  (∀ s : State, s.pending = [] → s.eng.dram.reqs = [] → step s = .next s) ∧
  (∀ s : State, s.pending = [] → ∃ b, step s = .next { s with eng := b } ∧
    Engine.changesOnly [.counters, .log, .dram, .free, .raw, .outs, .ep, .recorder] s.eng b)

/-- Every command completes with the queue as it was; only an address outside the memory stops the block (log 13). -/
def Obligations.ExecStopsOnlyOutsideMemory : Prop :=
  ∀ (c : Instr) (s : State), (∃ s', exec c s = .next s' ∧ s'.pending = s.pending) ∨
    (exec c s = .fault .dramAddress ∧
      ((∃ t p g w n, c = .dramRead t p g w n ∧ s.eng.live = true ∧ s.eng.cfg.dramPlace g w = none) ∨
        (∃ t p g w d, c = .dramWrite t p g w d ∧ s.eng.live = true ∧ s.eng.cfg.dramPlace g w = none) ∨
        ∃ t r w n, c = .dramScrub t r w n ∧ rankWords ≤ w)) ∨
    (exec c s = .fault .grottoAddress ∧
      ((∃ t a n, c = .grottoRead t a n ∧ grottoWords ≤ a) ∨ ∃ t a n, c = .grottoScrub t a n ∧ grottoWords ≤ a))

/-- R462: a request already answered within 5 s is not executed again; its kept response is sent and counted. -/
def Obligations.RepeatedRequestAnsweredAgain : Prop :=
  ∀ (i : Instr) (t : Nat) (h : MsgHdr) (ty : Nat) (s : State) (k : Kept),
    ((∃ src, i = .counters t h src ∧ ty = 0x0402) ∨ (∃ tg x, i = .tnrStrength t h tg x ∧ ty = 0x0205) ∨
      (∃ m p, i = .modeSet t h m p ∧ ty = 0x0101) ∨ ∃ tg vols, i = .recordStart t h ⟨tg, vols⟩ ∧ ty = 0x0301) →
    (s.eng.at t).answers h.client = true → (s.eng.at t).kept? h ty = some k →
    Does i t s fun a b => b.ctl.sent.head? = some k.msg ∧ Engine.counted .ctrlDup h.client.source a b ∧
      Engine.changesOnly [.ctl, .ep, .counters] a b

/-- The queries and the small system requests of ch. 19, taken while the engine runs. -/
def Obligations.ControlQueriesComplete : Prop :=
  (∀ t h mask sev s, s.takes t h 0x0106 → h.client = .uart → sev ≤ 4 → 0 < mask → mask < 2 ^ 32 →
    Does (.subscribe t h mask sev) t s fun a b => b.replied h 0x0106 .ok .none [] ∧
      (b.clientD h.client).sub = some (mask, sev) ∧ Engine.changesOnly [.ctl, .ep, .counters] a b) ∧
  (∀ t h source s, s.takes t h 0x0104 → source < 0xFFFF →
    Does (.clearCounters t h source) t s fun a b => b.replied h 0x0104 .ok .none [] ∧
      b.counters = a.counters.filter (·.src ≠ source) ∧ Engine.changesOnly [.ctl, .ep, .counters] a b) ∧
  (∀ t h s, s.takes t h 0x0104 →
    Does (.clearCounters t h 0xFFFF) t s fun a b => b.replied h 0x0104 .ok .none [] ∧ b.counters = [] ∧
      Engine.changesOnly [.ctl, .ep, .counters] a b) ∧
  (∀ t h source s, s.takes t h 0x0402 → source ≤ 0xFFFF →
    Does (.counters t h source) t s fun a b =>
      b.replied h 0x0402 .ok .none
        (le 4 (a.counterValues source).length ++ (a.counterValues source).flatMap (le 4)) ∧
      Engine.changesOnly [.ctl, .ep, .counters] a b) ∧
  (∀ t h from_ n s, s.takes t h 0x0403 → 0 < n → n ≤ 2045 → from_ < 2 ^ 64 →
    Does (.logRead t h from_ n) t s fun a b =>
      (∃ first rs, first = min a.log.nextSeq (max from_ (a.log.nextSeq - a.log.ring.length)) ∧
        rs = (a.log.ring.drop (first - (a.log.nextSeq - a.log.ring.length))).take n ∧
        b.replied h 0x0403 .ok .none
          (le 8 (first + rs.length) ++ le 2 rs.length ++ List.replicate 6 0 ++ rs.flatMap EventRec.bytes)) ∧
      Engine.changesOnly [.ctl, .ep, .counters] a b) ∧
  (∀ t h sect ws s, s.takes t h 0x0401 → s.eng.sys.phase = .running → sect ≤ 0xFFFF →
    ((s.eng.at t).received h 0x0401).stsBlock s.flash s.ks sect = some ws →
    Does (.status t h sect) t s fun a b => b.replied h 0x0401 .ok .none (le 4 ws.length ++ ws.flatMap fun w => le 4 w.toNat) ∧
      Engine.changesOnly [.ctl, .ep, .counters] a b)

/-- What becomes of damaged, denied and late traffic (R458, R461, R463). -/
def Obligations.DamagedAndDeniedMessagesCounted : Prop :=
  (∀ t ty seq s, (s.eng.at t).answers .uart = true →
    Does (.ctrlBadMessage t .uart .uartFraming ty seq) t s fun a b =>
      Engine.counted .ctrlFraming 0x0360 a b ∧ Engine.changesOnly [.counters] a b) ∧
  (∀ t c ty seq s, c ≠ .uart → (s.eng.at t).answers c = true →
    Does (.ctrlBadMessage t c .crc ty seq) t s fun a b => b.replied ⟨c, seq⟩ ty .crcError .none [] ∧
      Engine.counted .ctrlCrc c.source a b ∧ Engine.changesOnly [.ctl, .ep, .counters] a b) ∧
  (∀ t c ty seq s, (s.eng.at t).answers c = true →
    Does (.ctrlBadMessage t c .malformed ty seq) t s fun a b => b.replied ⟨c, seq⟩ ty .malformed .none [] ∧
      Engine.counted .ctrlMalformed c.source a b ∧ Engine.changesOnly [.ctl, .ep, .counters] a b) ∧
  (∀ t c ty seq s, (s.eng.at t).answers c = true →
    Does (.ctrlBadMessage t c .unknownType ty seq) t s fun a b => b.replied ⟨c, seq⟩ ty .unknownType .none [] ∧
      Engine.changesOnly [.ctl, .ep, .counters] a b) ∧
  (∀ t s, (s.eng.at t).answers .uart = true →
    Does (.ctrlUartGapTimeout t) t s fun a b => Engine.counted .ctrlFraming 0x0360 a b ∧ Engine.changesOnly [.counters] a b) ∧
  (∀ t addr port s, s.eng.ethUp = true → s.eng.allowed addr = false →
    Does (.ctrlDenied t addr port) t s fun a b => Engine.counted .ctrlDenied 0x0361 a b ∧
      Engine.newEvents a b = (if a.ctl.lastDenied.all (fun x => decide (x + secs 60 ≤ a.now)) then [(0x0361, .ctrlDenied, [])] else []) ∧
      Engine.changesOnly [.ctl, .counters, .log] a b) ∧
  (∀ t addr id s, s.eng.sys.phase = .running → s.eng.cb 0x00C0 0 30 = true → (s.eng.cw 0x00C0 1).toNat = addr →
    Does (.netArpIcmp t 8 addr (.fragment id false)) t s fun a b => Engine.changesOnly [.ctl] a b ∧
      b.ctl = { a.ctl with frags := if (a.ctl.frags.any fun x => x.1 = id) = true ∨ 8 ≤ a.ctl.frags.length then a.ctl.frags
        else a.ctl.frags ++ [(id, a.now)] }) ∧
  (∀ t id t0 s, s.eng.ctl.frags = [(id, t0)] → Does (.fragmentTimeout t id) t s fun a b =>
    b = { a with ctl := { a.ctl with frags := if t0 + secs 1 ≤ a.now then [] else [(id, t0)] } }) ∧
  (∀ t addr port x s, (s.eng.at t).client? (.eth addr port) = some x → x.lastHeard + secs 60 ≤ (s.eng.at t).now →
    Does (.subscriptionLapse t addr port) t s fun a b => (b.clientD (.eth addr port)).sub = none ∧
      Engine.changesOnly [.ctl] a b)

/-- The two commands of the merger (R497). -/
def Obligations.LogStoresAndSuppresses : Prop :=
  (∀ t s, s.eng.sys.phase.powered = true → Does (.logRelease t) t s fun a b =>
    b.log.held = a.log.held.filter (fun x => decide (a.now < x.at_ + ms 2)) ∧
      Engine.changesOnly [.log, .counters, .ctl, .ep] a b) ∧
  (∀ t s, s.eng.sys.phase.powered = true → Does (.logSuppressed t) t s fun a b =>
    b.log.nextSeq % 2 ^ 64 = (a.log.nextSeq +
      (a.log.rates.filter fun x => decide (x.sec < dtbSec a.dtb) && decide (0 < x.lost)).length) % 2 ^ 64 ∧
      b.log.held = a.log.held ∧ Engine.changesOnly [.log, .counters, .ctl, .ep] a b) ∧
  (∀ (l : Log) (r : EventRec), l.ring.length ≤ 32768 → l.nextSeq < 2 ^ 64 →
    (l.push r).ring.length ≤ 32768 ∧ (l.push r).nextSeq = (l.nextSeq + 1) % 2 ^ 64 ∧ (l.push r).ring.getLast? = some r ∧
      (l.ring.length = 32768 → (l.push r).ring = l.ring.tail ++ [r]))

/-- R52: each step of a lane's bring-up starts when the one before it ends. -/
def Obligations.LaneBringUpSteps : Prop :=
  (∀ t (l : Fin 62) s, s.eng.sys.phase.powered = true → Does (.lanePllLock t l) t s fun a b =>
    Engine.changesOnly [.lanes] a b ∧
      b.lanes = (if (a.lane l).step = 1 then vmod a.lanes l fun q => { q with
        pllLock := true, step := if laneRx l then 2 else 4, classVIdle := q.classVIdle && a.clk.classV } else a.lanes)) ∧
  (∀ t (l : Fin 62) s, s.eng.sys.phase.powered = true → Does (.laneCdrLock t l) t s fun a b =>
    Engine.changesOnly [.lanes] a b ∧
      b.lanes = (if (a.lane l).step = 2 then vmod a.lanes l fun q => { q with cdrLock := true, step := 3 } else a.lanes)) ∧
  (∀ t (l : Fin 62) s, s.eng.sys.phase.powered = true →
    (l.val < 16 → (s.eng.port (if s.eng.cfg.split then l.val / 8 else 0)).link ≠ .training) →
    Does (.lanePcsLock t l) t s fun a b =>
      Engine.changesOnly [.lanes] a b ∧
      b.lanes = (if (a.lane l).step = 3 then vmod a.lanes l fun q => { q with pcsLock := true, step := 4 } else a.lanes)) ∧
  (∀ t (l : Fin 62) s, s.eng.sys.phase.powered = true → l.val < 16 → (s.eng.lane l).step = 3 →
    (s.eng.port (if s.eng.cfg.split then l.val / 8 else 0)).link = .training → Does (.lanePcsLock t l) t s fun a b =>
      Engine.changesOnly [.lanes, .free] a b ∧
      ∃ v < 32, (s.eng.cb 0x0003 l 20 = true → v = s.eng.cf 0x0003 l 19 15) ∧
        b.lanes = (vmod a.lanes l fun q => { q with pcsLock := true, step := 4, eqDone := true, ctleNow := v })) ∧
  (∀ t (l : Fin 62) s, s.eng.sys.phase.powered = true → (s.eng.lane l).step = 3 → Does (.laneLockFail t l) t s fun a b =>
    Engine.changesOnly [.lanes, .counters, .log] a b ∧
      b.lanes = (vmod a.lanes l fun q => { q with cdrLock := false, step := 2 }) ∧
      Engine.counted .laneLockFail (laneSrc l) a b ∧ Engine.newEvents a b = [(laneSrc l, .laneLockFail, [])]) ∧
  (∀ t (l : Fin 62) width pm s, s.eng.sys.phase.powered = true → 36 ≤ l.val → l.val < 44 → (s.eng.lane l).test = false →
    (s.eng.lane l).linkUp = false → 4 ≤ (s.eng.lane l).step → s.eng.cfg.laneLink l = [l.val] →
    Does (.laneUp t l (s.eng.cfg.lnRate l) ⟨width, pm⟩) t s fun a b =>
      Engine.changesOnly [.lanes, .log, .free] a b ∧
      (∃ v < 32, (s.eng.cb 0x0003 l 20 = true → v = s.eng.cf 0x0003 l 19 15) ∧
        b.lanes = (vmod a.lanes l fun q => { q with
          step := 5, linkUp := true, eqDone := true, rateNow := a.cfg.lnRate l, ctleNow := v })) ∧
      Engine.newEvents a b = [(laneSrc l, .laneUp, le 4 (a.cfg.lnRate l) ++ le 4 1)]) ∧
  (∀ t (l : Fin 62) rate width pm s, s.eng.sys.phase.powered = true → 16 ≤ l.val → l.val < 32 → (s.eng.lane l).test = false →
    (s.eng.lane l).linkUp = true → 4 ≤ (s.eng.lane l).step → 1 ≤ rate → rate ≤ s.eng.cfg.lnRate l →
    s.eng.cfg.laneLink l = [l.val] → Does (.laneUp t l rate ⟨width, pm⟩) t s fun a b =>
      Engine.changesOnly [.lanes] a b ∧ b.lanes = (vmod a.lanes l fun q => { q with
        txPs := if pm.val = 4 then 2 else if pm.val = 1 ∨ pm.val = 3 then 1 else 0
        rxPs := if pm.val = 4 then 2 else if pm.val = 2 ∨ pm.val = 3 then 1 else 0 }))

/-- R53: losses of lock; R48 and R54: the buffer's fill and code errors. -/
def Obligations.LaneLossIsReported : Prop :=
  (∀ t (l : Fin 62) cdr pcs s, s.eng.sys.phase.powered = true → 36 ≤ l.val → l.val < 44 → (s.eng.lane l).linkUp = true →
    (cdr || pcs) = true → Does (.laneDown t l false cdr pcs) t s fun a b =>
      Engine.changesOnly [.lanes, .counters, .log] a b ∧
      b.lanes = (vmod a.lanes l fun q => { q with
        linkUp := false, eqDone := false, rateNow := 0, pcsLock := false, cdrLock := q.cdrLock && !cdr, pllLock := true,
        prbsLock := false, step := 2 }) ∧
      Engine.counted .laneDown (laneSrc l) a b ∧ Engine.counted .laneRetrain (laneSrc l) a b ∧
      Engine.newEvents a b = [(laneSrc l, .laneDown, le 1 (if cdr then 2 else 3))]) ∧
  (∀ t (l : Fin 62) u n s, s.eng.sys.phase.powered = true → laneRx l = true → l.val ≠ 52 → l.val ≠ 53 → 3 ≤ (s.eng.lane l).step →
    u = .take ∨ u = .recv true false ∨ u = .recv false false → (s.eng.lane l).ebNext u = some n →
    Does (.laneEbSlip t ⟨l, [u]⟩) t s fun a b => Engine.changesOnly [.lanes] a b ∧
      b.lanes = (vmod a.lanes l fun q => { q with
        ebFill := n, ebCorr := if n = 32 then 0 else if 40 ≤ n then 1 else if n ≤ 24 then 2 else q.ebCorr }) ∧
      (u = .take → n + 1 = (a.lane l).ebFill) ∧
      (u = .recv true false → n = (a.lane l).ebFill + if (a.lane l).ebCorr = 1 then 0 else if (a.lane l).ebCorr = 2 then 2 else 1) ∧
      (u = .recv false false → n = (a.lane l).ebFill + 1)) ∧
  (∀ t (l : Fin 62) s, s.eng.sys.phase.powered = true → laneRx l = true → l.val ≠ 52 → l.val ≠ 53 → 3 ≤ (s.eng.lane l).step →
    (s.eng.lane l).codeErrAt = none → (s.eng.lane l).ebFill < 64 → Does (.laneEbSlip t ⟨l, [.recv false true]⟩) t s fun a b =>
      Engine.changesOnly [.lanes, .counters, .log] a b ∧ Engine.counted .laneCodeErr (laneSrc l) a b ∧
      Engine.newEvents a b = [(laneSrc l, .laneCodeErr, le 4 ((a.lane l).codeErrs + 1))] ∧
      (b.lane l).ebFill = (a.lane l).ebFill + 1 ∧ (b.lane l).codeErrs = 0 ∧ (b.lane l).codeErrAt = some a.now) ∧
  (∀ t (l : Fin 62) s, s.eng.sys.phase.powered = true → (laneVideo l && s.eng.clk.classV) = false → (s.eng.lane l).step ≠ 0 →
    (s.eng.lane l).linkUp = false → Does (.lanePllUnlock t l) t s fun a b =>
      Engine.changesOnly [.lanes, .counters, .log] a b ∧
      b.lanes = (vmod a.lanes l fun q => { q with
        pllLock := false, cdrLock := false, pcsLock := false, linkUp := false, eqDone := false, rateNow := 0, step := 1 }) ∧
      Engine.counted .lanePllFail (laneSrc l) a b ∧ Engine.newEvents a b = [(laneSrc l, .lanePllUnlock, [])])

/-- R50: the buffer re-centres, the slip is counted and logged, and the lane stays up. -/
def Obligations.ElasticBufferRecentres : Prop :=
  ∀ t (l : Fin 62) u s, s.eng.sys.phase.powered = true → laneRx l = true → l.val ≠ 52 → l.val ≠ 53 → 3 ≤ (s.eng.lane l).step →
    (u = .take ∧ (s.eng.lane l).ebFill = 0) ∨ (u = .recv false false ∧ 64 ≤ (s.eng.lane l).ebFill) →
    Does (.laneEbSlip t ⟨l, [u]⟩) t s fun a b =>
      Engine.changesOnly [.lanes, .counters, .log] a b ∧ b.lanes = (vmod a.lanes l fun q => { q with ebFill := 32, ebCorr := 0 }) ∧
      (b.lane l).ebFill = 32 ∧ (b.lane l).linkUp = (a.lane l).linkUp ∧
      Engine.counted .laneEbSlip (laneSrc l) a b ∧ Engine.newEvents a b = [(laneSrc l, .laneEbSlip, [])]

/-- R55: lane tests. -/
def Obligations.LaneTestRunsInService : Prop :=
  (∀ t h (l : Fin 62) loopback pattern s, s.takes t h 0x0105 → s.eng.sys.mode = .service → s.eng.sys.pend = [] →
    s.eng.sys.units = [] → 36 ≤ l.val → l.val < 44 → s.eng.cfg.lnRate l ≠ 0 → loopback ≤ 3 → pattern ≤ 4 →
    Does (.laneTest t h l loopback pattern) t s fun a b => b.replied h 0x0105 .ok .none [] ∧
      Engine.changesOnly [.lanes, .ctl, .ep, .counters] a b ∧
      b.lanes = (vmod a.lanes l fun q => { q with
        test := true, loopback := loopback, pattern := pattern, linkUp := false, rateNow := 0, eqDone := false,
        prbsLock := decide (0 < pattern) && (loopback = 1 || loopback = 2) })) ∧
  (∀ t h l loopback pattern s, s.takes t h 0x0105 → s.eng.sys.mode ≠ .service → l < 62 → loopback ≤ 3 → pattern ≤ 4 →
    Does (.laneTest t h l loopback pattern) t s fun a b => b.replied h 0x0105 .state .none [] ∧
      Engine.changesOnly [.ctl, .ep, .counters] a b)

/-- What accepted packets do to the frame open on their port. -/
def Obligations.SensorPacketsBuildFrame : Prop :=
  (∀ t (p : Fin 2) sop pay crc s, (s.eng.at t).goodPacket p 1 sop pay crc → (s.eng.port p).frame = none →
    Does (.hyernFs t p sop pay crc) t s fun a b => Engine.changesOnly [.ports, .counters, .log] a b ∧
      (b.port p).frame = some {
        cfn := a.bindTo p, sfc := some (unle (pay.take 4)), flags := 0, cur := none, nextLine := 0
        lines := [], fillLines := 0, long := false, embNext := 0, echoes := [] } ∧
      (b.port p).awaitFs = false ∧ (b.port p).firstFs = false ∧ (b.port p).lastSfc = some (unle (pay.take 4))) ∧
  (∀ t (p : Fin 2) sop crc f s, (s.eng.at t).goodPacket p 2 sop [] crc → (s.eng.port p).frame = some f → f.cur = none →
    f.nextLine < s.eng.cfg.lines p → (pktHdr sop).line = f.nextLine →
    Does (.hyernLs t p sop crc) t s fun a b => Engine.changesOnly [.ports] a b ∧
      b.ports = vmod a.ports p fun q => { q with frame := some { f with
        cur := some ⟨f.nextLine, [], []⟩, nextLine := f.nextLine + 1 } }) ∧
  (∀ t (p : Fin 2) sop pay crc f l s, (s.eng.at t).goodPacket p 3 sop pay crc → (s.eng.port p).frame = some f →
    f.cur = some l → (pktHdr sop).line = l.line → l.line < s.eng.cfg.lines p →
    nextCol (if (pktHdr sop).conv = 0 then l.conv0 else l.conv1) ≤ (pktHdr sop).arg →
    Does (.hyernPix t p sop pay crc) t s fun a b => Engine.changesOnly [.ports, .counters] a b ∧
      ∃ fill k, fill = (a.port p).bufFill - a.cfg.portDrain (a.now - (a.port p).bufAt) ∧
        k = min (8 * ((pktHdr sop).count + 1)) ((a.cfg.portRoom p - fill) / 16384) ∧
        (k = 8 * ((pktHdr sop).count + 1) → b.counters = a.counters) ∧
        (k < 8 * ((pktHdr sop).count + 1) → Engine.counted .hyernOverrun (portSrc p) a b) ∧
        b.ports = vmod a.ports p fun q => { q with
          bufFill := fill + 16384 * k, bufAt := a.now
          errMoved := q.errMoved || decide (k < 8 * ((pktHdr sop).count + 1))
          frame := some { f with cur := some (l.add (pktHdr sop).conv (pktHdr sop).arg
            ((unpackPix (a.cfg.packBits p) ((pktHdr sop).count + 1) pay).take k)) } }) ∧
  (∀ t (p : Fin 2) sop pay crc f s, (s.eng.at t).goodPacket p 4 sop pay crc → (s.eng.port p).frame = some f →
    Does (.hyernEmb t p sop pay crc) t s fun a b => Engine.changesOnly [.ports] a b ∧
      b.ports = vmod a.ports p fun q => { q with frame := some { f with
        embNext := (pktHdr sop).arg + 1, echoes := (embEntries ((pktHdr sop).count + 1) pay).reverse ++ f.echoes } }) ∧
  (∀ t (p : Fin 2) sop crc f l s, (s.eng.at t).goodPacket p 5 sop [] crc → (s.eng.port p).frame = some f →
    f.cur = some l → (pktHdr sop).line = l.line → s.eng.cfg.width p ≤ l.conv0.length →
    (s.eng.cfg.dualConv p = true → s.eng.cfg.width p ≤ l.conv1.length) →
    Does (.hyernLe t p sop crc) t s fun a b => Engine.changesOnly [.ports] a b ∧
      b.ports = vmod a.ports p fun q => { q with frame := some { f with cur := none, lines := l :: f.lines } })

/-- R83, R107 and R108: every owed frame is produced exactly once. -/
def Obligations.FrameEndProducesRecord : Prop :=
  (∀ t (p : Fin 2) sop pay crc f s, (s.eng.at t).goodPacket p 6 sop pay crc → (s.eng.port p).frame = some f → f.cur = none →
    f.cfn = none → Does (.hyernFe t p sop pay crc) t s fun a b => Engine.changesOnly [.ports, .log] a b ∧
      (b.port p).frame = none ∧ (b.port p).owed = (a.port p).owed) ∧
  (∀ t (p : Fin 2) sop pay crc f c s, (s.eng.at t).goodPacket p 6 sop pay crc → (s.eng.port p).frame = some f → f.cur = none →
    f.cfn = some c → Does (.hyernFe t p sop pay crc) t s fun a b => (b.port p).frame = none ∧
      (b.port p).owed = (a.port p).owed.filter (· ≠ c) ∧ ∃ r, b.frozenOf p = a.frozenOf p ++ [r] ∧ r.cfn = c) ∧
  (∀ t (p : Fin 2) c s, s.eng.sys.phase = .running → (s.eng.port p).frame = none →
    ((s.eng.port p).owed.find? fun x => decide ((s.eng.at t).frameDeadline p x ≤ (s.eng.at t).now)) = some c →
    Does (.frameEndDeadline t p) t s fun a b => (b.port p).frame = none ∧
      (b.port p).owed = (a.port p).owed.filter (· ≠ c) ∧ ∃ r, b.frozenOf p = a.frozenOf p ++ [r] ∧ r.cfn = c)

/-- Training and errors of a Hyern port. -/
def Obligations.SensorLinkTrains : Prop :=
  (∀ t (p : Fin 2) room g c addr data r rest s, s.eng.sys.phase = .running → (s.eng.port p).link = .resetting →
    (s.eng.at t).rstWaited p = true → (s.eng.port p).window = (g, c, addr, data, r) :: rest →
    Does (.sensorWriteDone t p true room) t s fun a b => Engine.changesOnly [.ports, .pins] a b ∧
      b.pins = { a.pins with rstN := vmod a.pins.rstN p fun _ => true } ∧
      b.ports = vmod a.ports p fun q => { q with window := rest, writes := a.cfg.ctlWrite p addr data :: q.writes }) ∧
  (∀ t (p : Fin 2) ok room s, s.eng.sys.phase = .running → (s.eng.port p).link = .resetting →
    (s.eng.at t).rstWaited p = false → Does (.sensorWriteDone t p ok room) t s fun a b => b = a) ∧
  (∀ t (p : Fin 2) s, s.eng.sys.phase = .running → (s.eng.port p).link = .resetting → (s.eng.at t).rstWaited p = true →
    Does (.sensorResetDone t p true) t s fun a b => Engine.changesOnly [.ports, .pins] a b ∧
      (b.port p).link = .training ∧ (b.port p).trainAt = a.now ∧ (b.port p).base = a.cfg.baseVals p ∧
      b.pins.rstN = vmod a.pins.rstN p fun _ => true) ∧
  (∀ t (p : Fin 2) seqs blocks skew s, s.eng.sys.phase = .running → (s.eng.port p).link = .training → skew ≤ 64 → seqs ≠ [] →
    s.eng.lanesReady p = true →
    (∀ x ∈ seqs, x = 0) → Does (.hyernAlign t p seqs true blocks skew (s.eng.cfg.laneLog2 p)) t s fun a b =>
      Engine.changesOnly [.ports, .lanes, .counters, .log] a b ∧ (b.port p).link = .up ∧ (b.port p).skewMax = skew ∧
      (b.port p).alignSeq = 0 ∧ (b.port p).awaitFs = true ∧ Engine.counted .hyernTrain (portSrc p) a b ∧
      (portSrc p, .hyernTrained, []) ∈ Engine.newEvents a b) ∧
  (∀ t (p : Fin 2) seqs blocks skew ts s, s.eng.sys.phase = .running → (s.eng.port p).link = .up → skew ≤ 64 → seqs ≠ [] →
    (∀ x ∈ seqs, x = ((s.eng.port p).prevAlign + 1) % 256) → blocks.length = seqs.length → (∀ x ∈ blocks, x = 16383) →
    Does (.hyernAlign t p seqs true blocks skew ts) t s fun a b => Engine.changesOnly [.ports] a b ∧
      b.ports = vmod a.ports p fun q => { q with
        alignSeq := (q.prevAlign + 1) % 256, prevAlign := (q.prevAlign + 1) % 256, alignErrs := 0, waitAlign := false,
        skewMax := max q.skewMax skew }) ∧
  (∀ t (p : Fin 2) s, s.eng.sys.phase = .running → (s.eng.port p).link = .up → (s.eng.port p).frame = none →
    Does (.hyernSensorReset t p) t s fun a b => Engine.changesOnly [.ports, .pins, .lanes, .counters, .log] a b ∧
      (b.port p).link = .training ∧ (b.port p).trainTry = 1 ∧ (b.port p).trainAt = a.now ∧
      Engine.newEvents a b = [(portSrc p, .hyernSensorReset, [])]) ∧
  (∀ t (p : Fin 2) s, s.eng.sys.phase = .running → (s.eng.port p).link = .training →
    (s.eng.port p).trainAt + ms (s.eng.cfg.trainMs p + 2) ≤ (s.eng.at t).now → s.eng.cfg.trainTries p ≤ (s.eng.port p).trainTry →
    Does (.hyernTrainTimeout t p) t s fun a b => Engine.changesOnly [.ports, .lanes, .counters, .log] a b ∧
      (b.port p).link = .failed ∧ Engine.newEvents a b = [(portSrc p, .hyernTrainFail, le 4 1)]) ∧
  (∀ t (p : Fin 2) kind s, s.eng.sys.phase = .running → s.eng.streaming p = true → (s.eng.port p).awaitFs = false →
    Does (.hyernSopError t p kind) t s fun a b => Engine.changesOnly [.ports, .counters] a b ∧
      Engine.counted (if kind = .badHchk then .hyernHdrErr else .hyernFmtErr) (portSrc p) a b ∧ (b.port p).errMoved = true)

/-- The project timing generator (R87 to R90). -/
def Obligations.CaptureTimingAdvances : Prop :=
  (∀ t s, s.eng.sys.phase = .running → s.eng.proj.started = true → s.eng.proj.slot < s.eng.cfg.phases →
    s.eng.proj.run = false → (∀ x, s.eng.rec_.play = some x → x.queue = []) →
    Does (.captureSlotStart t) t s fun a b => Engine.changesOnly [.proj, .pins, .ports, .outs] a b ∧
      b.proj = { a.proj with slot := a.proj.slot + 1 } ∧
      (∀ p : Fin 2, a.cfg.hasPort p = true → (b.port p).phaseNow = a.cfg.phaseOf (a.slotCfn a.proj.slot)) ∧
      (a.has 0x0013 = true → a.cfg.phaseOutEn = true → a.clk.classV = false →
        b.pins = { a.pins with
          phaseOut := a.cfg.phaseOf (a.slotCfn a.proj.slot), phaseStb := a.pins.phaseStb + 1, stbAt := some a.now })) ∧
  (∀ t (p : Fin 2) s, s.eng.sys.phase = .running → s.eng.proj.started = true → s.eng.proj.slot < s.eng.cfg.phases →
    s.eng.captured s.eng.proj.slot = true → (s.eng.port p).joined = true → (∀ x, s.eng.rec_.play = some x → x.queue = []) →
    Does (.captureSlotStart t) t s fun a b => b.proj.slot = a.proj.slot + 1 ∧
      b.proj.nextCfn = cfnAdd (a.slotCfn a.proj.slot) 1 ∧ (b.port p).cfn = a.slotCfn a.proj.slot) ∧
  (∀ t (p : Fin 2) s, s.eng.sys.phase = .running → s.eng.proj.run = true → (s.eng.port p).joined = true →
    s.eng.clk.classV = false → (s.eng.at t).lengthening = false →
    Does (.xtrig t p) t s fun a b => Engine.changesOnly [.ports, .pins] a b ∧
      b.pins = { a.pins with
        xtrig := vmod a.pins.xtrig p (· + 1), xtrigAt := vmod a.pins.xtrigAt p fun _ => some a.now } ∧
      b.ports = vmod a.ports p fun q => { q with
        owed := if q.early.contains q.nextTrig then q.owed else q.owed ++ [q.nextTrig]
        early := q.early.filter (· ≠ q.nextTrig), nextTrig := cfnAdd q.nextTrig 1 }) ∧
  (∀ t s, s.eng.sys.phase = .running → s.eng.sys.pend = [] → s.eng.proj.run = false → s.eng.sys.sensorsLive = false →
    s.eng.clk.classV = false → s.eng.rec_.takes = [] → s.eng.phaseIn.realign = false →
    Does (.projectFrameBoundary t) t s fun a b => b.sys = a.sys ∧ b.proj.started = true ∧
      b.proj.start = a.now ∧ b.proj.slot = 0 ∧ b.proj.run = false ∧ b.proj.pfi = (a.cfg.nearestIndex a.dtb).toNat)

/-- R17 to R19: mode requests. -/
def Obligations.ModeChangesTakeEffectAtBoundary : Prop :=
  (∀ t h mode m preview s, s.takes t h 0x0101 → modeOf mode = some m → s.eng.sys.lampOpen = false →
    modeAllowed s.eng.modeThen m = true → Does (.modeSet t h mode preview) t s fun a b =>
      b.replied h 0x0101 .ok .none [] ∧ Engine.changesOnly [.sys, .ctl, .ep, .counters] a b ∧
      b.sys = { a.sys with pend := a.sys.pend ++ [⟨.request, m, preview && (m = .review || m = .offload || m = .service),
        a.now + ms 2, none, false, some h.client, 0x0101, h.seq, false, [], 0, none, true⟩] }) ∧
  (∀ t h mode m preview s, s.takes t h 0x0101 → modeOf mode = some m →
    s.eng.sys.lampOpen = true ∨ modeAllowed s.eng.modeThen m = false →
    Does (.modeSet t h mode preview) t s fun a b => b.replied h 0x0101 .state .none [] ∧
      Engine.changesOnly [.ctl, .ep, .counters] a b) ∧
  (∀ t s, s.eng.sys.phase = .running → s.eng.sys.autoDue = true → (s.eng.at t).autoMoment = true → s.eng.sys.lampOpen = false →
    modeAllowed s.eng.modeThen .preview = true → Does (.autoPreview t) t s fun a b => Engine.changesOnly [.sys] a b ∧
      b.sys = { a.sys with autoDue := false, pend := a.sys.pend ++ [⟨.request, .preview, false, a.now + ms 2, none, false, none,
        0x0101, 0, false, [], 0, none, true⟩] }) ∧
  (∀ t p s, s.eng.sys.phase = .running → s.eng.sys.pend = [p] → p.kind = .request → p.mode = .offload → p.preview = false →
    p.held = false → p.cfn = none → p.told = true → p.notBefore ≤ (s.eng.at t).now → s.eng.sys.mode = .standby →
    s.eng.proj.run = false → s.eng.clk.classV = false → s.eng.rec_.takes = [] → s.eng.phaseIn.realign = false →
    Does (.projectFrameBoundary t) t s fun a b => b.sys = { a.sys with mode := .offload, preview := false, pend := [] })

/-- R18, R258, R381: record controls that are accepted, and one refusal of each kind. -/
def Obligations.RecordControlsPend : Prop :=
  (∀ t h tg vols s, s.takes t h 0x0301 → tg.asap = true → targetOk tg false false = true → s.eng.modeThen = .preview →
    s.eng.proj.run = false →
    (((s.eng.at t).received h 0x0301).readVolumes vols).recordRefusal s.ks s.eng.rec_.reel none = none →
    Does (.recordStart t h ⟨tg, vols⟩) t s fun a b => b.replied h 0x0301 .ok .none [] ∧
      (∃ p, b.sys.pend = a.sys.pend ++ [p] ∧ p.kind = .recStart ∧ p.mode = .record ∧ p.held = true ∧ p.set = a.recSet ∧
        p.reel = a.rec_.reel ∧ p.clip = none) ∧ (∀ m ∈ a.recSet, m < 4 → (b.mport m).state = .recording) ∧
      Engine.changesOnly [.sys, .ctl, .ep, .counters, .recorder] a b) ∧
  (∀ t h pfi i vols s, s.takes t h 0x0803 → s.eng.cfg.arrayEn = true → s.eng.cfg.sharedClip = false → s.eng.cfg.arrayId = i →
    s.eng.modeThen = .preview → s.eng.proj.run = false →
    (((s.eng.at t).received h 0x0803).readVolumes vols).recordRefusal s.ks s.eng.rec_.reel none = none →
    Does (.arrayRecordStart t h pfi true 0 ⟨0, vols⟩ i) t s fun a b => b.replied h 0x0803 .ok .none [] ∧
      (∃ p, b.sys.pend = a.sys.pend ++ [p] ∧ p.kind = .recStart ∧ p.set = a.recSet ∧ p.reel = a.rec_.reel) ∧
      Engine.changesOnly [.sys, .ctl, .ep, .counters, .recorder] a b) ∧
  (∀ t h tg s, s.takes t h 0x0302 → tg.asap = true → targetOk tg false false = true → s.eng.modeThen = .record →
    s.eng.proj.run = false → Does (.recordStop t h tg) t s fun a b => b.replied h 0x0302 .ok .none [] ∧
      (∃ p, b.sys.pend = a.sys.pend ++ [p] ∧ p.kind = .recStop ∧ p.mode = .preview ∧ p.held = true) ∧
      Engine.changesOnly [.sys, .ctl, .ep, .counters] a b) ∧
  (∀ t h pfi i s, s.takes t h 0x0804 → s.eng.cfg.arrayEn = true → s.eng.cfg.arrayId = i → s.eng.modeThen = .record →
    s.eng.proj.run = false → Does (.arrayRecordStop t h pfi true i) t s fun a b => b.replied h 0x0804 .ok .none [] ∧
      (∃ p, b.sys.pend = a.sys.pend ++ [p] ∧ p.kind = .recStop ∧ p.mode = .preview) ∧
      Engine.changesOnly [.sys, .ctl, .ep, .counters] a b) ∧
  (∀ t h tg vols s, s.takes t h 0x0301 → tg.asap = false → targetOk tg false false = true → s.eng.modeThen = .preview →
    s.eng.proj.run = false → Does (.recordStart t h ⟨tg, vols⟩) t s fun a b => b.replied h 0x0301 .state .noRun [] ∧
      Engine.changesOnly [.ctl, .ep, .counters] a b) ∧
  (∀ t h tg vols n s, s.takes t h 0x0301 → tg.asap = true → targetOk tg false false = true → s.eng.modeThen = .preview →
    s.eng.proj.run = false →
    (((s.eng.at t).received h 0x0301).readVolumes vols).recordRefusal s.ks s.eng.rec_.reel none = some n →
    Does (.recordStart t h ⟨tg, vols⟩) t s fun a b => b.replied h 0x0301 .refused (.recordBullet n) [] ∧
      Engine.counted .recStartRefused 0x0200 a b ∧ Engine.changesOnly [.ctl, .ep, .counters, .recorder] a b)

/-- R101 and R102: settings changes. -/
def Obligations.SensorSettingsScheduled : Prop :=
  (∀ t h tg groups gain rmode expNs ro co s, s.takes t h 0x0201 → targetOk tg true true = true → groups ≤ 15 →
    (s.eng.at t).settingsRefusal tg.port tg.phaseMask groups gain rmode = none → (s.eng.proj.run || tg.asap) = true →
    Does (.settings t h tg groups gain rmode expNs ro co) t s fun a b => b.replied h 0x0201 .ok .none [] ∧
      Engine.changesOnly [.ports, .ctl, .ep, .counters] a b ∧
      b.ports = vmod a.ports tg.port fun q => { q with changes := q.changes ++
        [⟨(a.settingsLand tg.port tg.phaseMask groups (if tg.asap then none else some tg.target)).1, tg.phaseMask, groups,
          ⟨expNs, gain, rmode, ro, co⟩, h.client, 0x0201, h.seq⟩] }) ∧
  (∀ t h tg groups gain rmode expNs ro co s, s.takes t h 0x0201 → targetOk tg true true = true → groups ≤ 15 →
    (s.eng.at t).settingsRefusal tg.port tg.phaseMask groups gain rmode = none → s.eng.proj.run = false → tg.asap = false →
    Does (.settings t h tg groups gain rmode expNs ro co) t s fun a b => b.replied h 0x0201 .state .noRun [] ∧
      Engine.changesOnly [.ctl, .ep, .counters] a b) ∧
  (∀ t (p : Fin 2) s, s.eng.sys.phase = .running → s.eng.proj.run = true → (s.eng.port p).joined = true →
    s.eng.cfg.winLen p ≠ 0 → (s.eng.port p).listOk = true →
    Does (.writeWindowStart t p) t s fun a b => Engine.changesOnly [.ports] a b ∧
      b.ports = vmod a.ports p fun q => { q with window := [0, 1, 2, 3].flatMap (a.groupWrites p (a.windowNear p 0)) }) ∧
  (∀ t (p : Fin 2) s, s.eng.sys.phase = .running → s.eng.proj.run = true → (s.eng.port p).joined = true →
    s.eng.cfg.winLen p ≠ 0 → (s.eng.port p).listOk = false →
    Does (.writeWindowStart t p) t s fun a b => Engine.changesOnly [.ports] a b ∧
      b.ports = vmod a.ports p fun q => { q with listOk := true, window := [] }) ∧
  (∀ t (p : Fin 2) s, s.eng.sys.phase = .running → s.eng.proj.run = true → (s.eng.port p).joined = true →
    s.eng.cfg.winLen p ≠ 0 → Does (.writeListDeadline t p false) t s fun a b =>
      Engine.changesOnly [.ports, .ctl, .ep, .counters, .cluster, .log] a b ∧ (b.port p).listOk = false ∧
      Engine.newEvents a b = [(portSrc p, .fwOverrun, le 1 1 ++ le 1 1 ++ le 4 (a.windowNear p (us 250)) ++ le 1 p)]) ∧
  (∀ t (p : Fin 2) s, s.eng.sys.phase = .running → Does (.writeListDeadline t p true) t s fun a b => b = a)

/-- R112: strobes and misses. -/
def Obligations.PhaseInFollowed : Prop :=
  (∀ t code s, s.eng.sys.phase = .running → s.eng.has 0x0013 = true → s.eng.cfg.phaseSrc = true → s.eng.proj.started = true →
    s.eng.proj.run = false → (((s.eng.at t).now : Int) - (s.eng.at t).predictedStrobe).natAbs ≤ us s.eng.cfg.inTol →
    Does (.phaseInStrobe t code) t s fun a b => Engine.changesOnly [.phaseIn, .proj] a b ∧ b.phaseIn.lock = true ∧
      b.phaseIn.misses = 0 ∧ b.phaseIn.free = false ∧ b.phaseIn.lastStrobe = some a.now ∧ b.phaseIn.lastCode = some code) ∧
  (∀ t s, s.eng.sys.phase = .running → s.eng.has 0x0013 = true → s.eng.cfg.phaseSrc = true → s.eng.proj.started = true →
    Does (.phaseInMiss t) t s fun a b => Engine.changesOnly [.phaseIn, .counters, .log] a b ∧
      b.phaseIn.misses = a.phaseIn.misses + 1 ∧ Engine.counted .phaseInMiss 0x0102 a b ∧
      (a.phaseIn.misses + 1 = a.cfg.inLoss → b.phaseIn.lock = false ∧ b.phaseIn.free = true ∧
        Engine.newEvents a b = [(0x0102, .phaseInLoss, [])]) ∧
      (a.phaseIn.misses + 1 ≠ a.cfg.inLoss → b.phaseIn.lock = a.phaseIn.lock ∧ Engine.newEvents a b = []))

/-- R115, R116 and R482. -/
def Obligations.AuxiliaryCameraFrames : Prop :=
  (∀ t level s, s.eng.sys.phase = .running → s.eng.auxOn = true → level ≠ s.eng.cfg.auxVsLow →
    (∀ v, s.eng.aux.lastVs = some v → secs 1 ≤ ((s.eng.at t).now - v) * s.eng.cfg.auxMaxRate) →
    Does (.auxVs ⟨t, level⟩) t s fun a b => Engine.changesOnly [.aux] a b ∧
      b.aux = { a.aux with
        nextAfn := (a.aux.nextAfn + 1) % 4294967296, lastVs := some a.now, cur := some (a.aux.nextAfn, a.dtb) }) ∧
  (∀ t level s, level = s.eng.cfg.auxVsLow → Does (.auxVs ⟨t, level⟩) t s fun a b => b = a) ∧
  (∀ t level v s, s.eng.sys.phase = .running → s.eng.auxOn = true → level ≠ s.eng.cfg.auxVsLow → s.eng.aux.lastVs = some v →
    ((s.eng.at t).now - v) * s.eng.cfg.auxMaxRate < secs 1 →
    Does (.auxVs ⟨t, level⟩) t s fun a b => Engine.changesOnly [.aux, .counters] a b ∧ b.aux.cur = none ∧
      b.aux.nextAfn = (a.aux.nextAfn + 1) % 4294967296 ∧ Engine.counted .auxDrop 0x0103 a b) ∧
  (∀ t clocks afn stamp s, s.eng.sys.phase = .running → s.eng.auxOn = true → s.eng.aux.cur = some (afn, stamp) →
    (s.eng.has 0x0022 && s.eng.cfg.statsAux) = false →
    Does (.auxFrameEnd t clocks) t s fun a b => Engine.changesOnly [.aux, .counters] a b ∧ b.aux.cur = none ∧
      b.aux.lastDone = a.now ∧ b.aux.stale = false ∧ ∃ f, b.aux.newest = some f ∧ f.afn = afn ∧ f.stamp = stamp ∧
        f.lines = fitTo (List.replicate a.cfg.auxW 0) a.cfg.auxH ((a.cfg.auxLines clocks).map (fitTo 0 a.cfg.auxW)) ∧
        (f.sizeFlag = true ↔
          (a.cfg.auxLines clocks).length ≠ a.cfg.auxH ∨ ∃ l ∈ a.cfg.auxLines clocks, l.length ≠ a.cfg.auxW) ∧
        (f.sizeFlag = true → Engine.counted .auxSize 0x0103 a b)) ∧
  (∀ t s, s.eng.sys.phase = .running → s.eng.auxOn = true → s.eng.aux.stale = false →
    s.eng.aux.lastDone + ms 100 ≤ (s.eng.at t).now → Does (.auxLoss t) t s fun a b =>
      Engine.changesOnly [.aux, .log] a b ∧ b.aux = { a.aux with stale := true } ∧
      Engine.newEvents a b = [(0x0103, .auxLoss, [])]) ∧
  (∀ t (p : Fin 2) k s, s.eng.sys.phase = .running → vget s.eng.cluster.cal p none = some k → s.eng.cfg.calFrames ≤ k.frames →
    Does (.calCaptureDone t p true) t s fun a b => Engine.changesOnly [.cluster, .counters, .log] a b ∧
      vget b.cluster.cal p none = none ∧ ⟨calPath p, a.cfg.calFile p k⟩ ∈ b.cluster.files ∧
      Engine.counted .calCapture 0x0383 a b ∧ Engine.newEvents a b = [(0x0383, .calCaptureDone, [])])

/-- R465: frame-targeted scene controls. -/
def Obligations.SceneControlsLand : Prop :=
  (∀ t h tg cct tint iso s, s.takes t h 0x0202 → targetOk tg true false = true → -128 ≤ tint → tint ≤ 127 →
    s.eng.wbRefusal tg.port cct tint iso = none → (s.eng.proj.run || tg.asap) = true →
    Does (.wbIso t h tg cct tint iso) t s fun a b => b.replied h 0x0202 .ok .none [] ∧
      Engine.changesOnly [.colour, .ctl, .ep, .counters] a b ∧
      b.colour = { a.colour with ports := vmod a.colour.ports tg.port fun q => { q with pend := q.pend ++
        [⟨if a.proj.run then (a.landing tg).1 else 0, cct, tint, iso, h.client, 0x0202, h.seq⟩] } }) ∧
  (∀ t h tg str s, s.takes t h 0x0205 → targetOk tg false false = true → str ≤ 240 → s.eng.has 0x0020 = true →
    (s.eng.proj.run || tg.asap) = true → Does (.tnrStrength t h tg str) t s fun a b => b.replied h 0x0205 .ok .none [] ∧
      Engine.changesOnly [.raw, .ctl, .ep, .counters] a b ∧
      b.raw = { a.raw with tnrPend := a.raw.tnrPend ++
        [⟨if a.proj.run then (a.landing tg).1 else 0, str, h.client, 0x0205, h.seq⟩] }) ∧
  (∀ t h tg str s, s.takes t h 0x0205 → targetOk tg false false = true → str ≤ 240 → s.eng.has 0x0020 = true →
    s.eng.proj.run = false → tg.asap = false → Does (.tnrStrength t h tg str) t s fun a b =>
      b.replied h 0x0205 .state .noRun [] ∧ Engine.changesOnly [.ctl, .ep, .counters] a b) ∧
  (∀ t h tg (k : Fin 6) slots s, s.takes t h 0x0203 → tg.asap = true → targetOk tg false false = true → slots.length = 6 →
    slots.all slotCode = true → s.eng.selectRefusal k (slots.getD k 31) = none → s.eng.proj.run = false →
    Does (.lutSelect t h tg (2 ^ k.val) slots) t s fun a b => b.replied h 0x0203 .ok .none [] ∧
      Engine.changesOnly [.colour, .ctl, .ep, .counters] a b ∧
      b.colour = { a.colour with branches := vmod a.colour.branches k fun q => { q with sels := q.sels ++
        [⟨slots.getD k 31, none, a.now + ms 2, h.client, 0x0203, h.seq⟩] } }) ∧
  (∀ t h tg n s, s.takes t h 0x0204 → targetOk tg false true = true → n < s.eng.cf 0x00D0 0 5 0 →
    (s.eng.at t).profileRefusal n tg.phaseMask = none → (s.eng.proj.run || tg.asap) = true →
    Does (.profileSelect t h tg n) t s fun a b => b.replied h 0x0204 .ok .none [] ∧
      Engine.changesOnly [.ports, .colour, .raw, .md, .ctl, .ep, .counters] a b ∧
      b.md = { a.md with profs := a.md.profs ++ [⟨(a.profileLand n tg).1, n, h.client, h.seq⟩] })

/-- R161 and R453: missed deadlines 2 and 3. -/
def Obligations.SelectionDeadlinesSlip : Prop :=
  (∀ t (p : Fin 2) x s, s.eng.sys.phase = .running → s.eng.proj.run = true →
    (vget s.eng.colour.ports p ColourPort.reset).pend = [x] → x.cfn = s.eng.proj.nextCfn → x.ty ≠ 0x0204 →
    Does (.matrixDeadline t p false) t s fun a b =>
      (vget b.colour.ports p ColourPort.reset).pend = [{ x with cfn := cfnAdd a.proj.nextCfn 1 }] ∧
      a.proj.nextCfn ∈ (b.port p).lateCfns ∧
      Engine.newEvents a b = [(0x0148 + p.val, .fwOverrun, le 1 2 ++ le 1 1 ++ le 4 a.proj.nextCfn ++ le 1 p)] ∧
      Engine.changesOnly [.colour, .ports, .cluster, .log, .ctl, .ep, .counters] a b) ∧
  (∀ t (k : Fin 6) x s, s.eng.sys.phase = .running → s.eng.proj.run = true →
    (∀ j : Fin 6, (vget s.eng.colour.branches j Branch.reset).sels = if j = k then [x] else []) →
    (∀ y ∈ s.eng.md.profs, y.cfn ≠ s.eng.proj.nextCfn) → x.cfn = some s.eng.proj.nextCfn → x.ty ≠ 0x0204 →
    Does (.selectionDeadline t false) t s fun a b =>
      (vget b.colour.branches k Branch.reset).sels = [{ x with cfn := some (cfnAdd a.proj.nextCfn 1) }] ∧
      Engine.newEvents a b = [(0x0150 + k.val, .fwOverrun, le 1 3 ++ le 1 1 ++ le 4 a.proj.nextCfn ++ le 1 k)] ∧
      Engine.changesOnly [.colour, .ports, .cluster, .log, .ctl, .ep, .counters] a b) ∧
  (∀ t x s, s.eng.sys.phase = .running → s.eng.proj.run = true →
    (∀ j : Fin 6, (vget s.eng.colour.branches j Branch.reset).sels = []) → s.eng.md.profs = [x] →
    x.cfn = s.eng.proj.nextCfn → Does (.selectionDeadline t false) t s fun a b =>
      b.md = { a.md with profs := [{ x with cfn := cfnAdd x.cfn 1 }] } ∧
      (∀ p ∈ a.cfg.profPorts x.profile, x.cfn ∈ (b.port p).lateCfns) ∧
      Engine.newEvents a b = [(0x0350, .fwOverrun, le 1 3 ++ le 1 1 ++ le 4 x.cfn ++ le 1 0)] ∧
      Engine.changesOnly [.colour, .raw, .md, .ports, .cluster, .log, .ctl, .ep, .counters] a b) ∧
  (∀ t p s, s.eng.sys.phase = .running → Does (.matrixDeadline t p true) t s fun a b => b = a) ∧
  (∀ t s, s.eng.sys.phase = .running → Does (.selectionDeadline t true) t s fun a b => b = a)

/-- R180 and R181: the LUT store. -/
def Obligations.LutLoadsRunToTheirEnd : Prop :=
  (∀ t h tg entries slots own s, s.takes t h 0x0206 → tg.asap = true → targetOk tg false false = true → entries ≠ [] →
    entries.length ≤ 16 → (∀ x ∈ entries, x.slot ≤ 15 ∧ x.source ≤ 2) → s.eng.has 0x0031 = true →
    s.eng.placeLoads entries [] [] = .ok (slots, own) → (∃ x ∈ slots, x.2.2 ≠ none) →
    Does (.lutLoad t h tg entries) t s fun a b => Engine.changesOnly [.colour, .ctl, .ep] a b ∧ b.ctl.sent = a.ctl.sent ∧
      b.colour = { a.colour with
        loads := a.colour.loads ++ [⟨slots, none, none, [], none, false, false, h.client, h.seq⟩]
        readsEmpty := a.colour.readsEmpty ++ own }) ∧
  (∀ t files l s, s.eng.sys.phase = .running → s.eng.colour.loads = [l] → l.loadedAt = none → l.own = false →
    (∀ x ∈ l.slots, x.2.2 ≠ none → ∃ d, (s.eng.at t).lutRead s.flash files x.2.1 x.1 = .ok d) →
    Does (.lutLoadDone t files) t s fun a b => b.replied ⟨l.client, l.seq⟩ 0x0206 .ok .none [] ∧
      Engine.changesOnly [.colour, .ctl, .ep, .counters] a b ∧ b.colour.slots = a.colour.slots ∧
      ∃ l', b.colour.loads = [l'] ∧ l'.loadedAt = some a.now ∧ l'.slots = l.slots ∧ l'.cfn = some (a.lutLand l.target).1) ∧
  (∀ t l x rest s, s.eng.sys.phase = .running → s.eng.colour.loads = [l] → l.loadedAt = none → l.own = false →
    l.slots = x :: rest → x.2.2 ≠ none → x.2.1 = 1 →
    Does (.lutLoadDone t []) t s fun a b => b.replied ⟨l.client, l.seq⟩ 0x0206 .notFound .none [] ∧
      Engine.changesOnly [.colour, .ctl, .ep, .counters, .log] a b ∧ b.colour.slots = a.colour.slots ∧ b.colour.loads = [] ∧
      Engine.counted .lutRefused 0x0158 a b ∧ Engine.newEvents a b = [(0x0158, .lutRefused, le 1 x.1 ++ le 2 0)]) ∧
  (∀ t l c s, s.eng.sys.phase = .running → s.eng.colour.loads = [l] → l.loadedAt = none → l.target = some c →
    l.overrun = false → (s.eng.at t).slotBy c - (ms 2 : Nat) ≤ ((s.eng.at t).now : Int) → Does (.lutLoadDeadline t) t s fun a b =>
      Engine.changesOnly [.colour, .ports, .cluster, .log, .counters] a b ∧
      b.colour.loads = [{ l with overrun := true }] ∧
      Engine.newEvents a b = [(0x0158, .fwOverrun, le 1 5 ++ le 1 1 ++ le 4 c ++ le 1 0)]) ∧
  (∀ (f : Flash) files (x : LutFile) k (e : Engine), files.find? (·.slot = k) = some x → x.bytes.length = 1647766 →
    lutCrcOk x.bytes = true → lutRecOk (bytesWords 411942 (x.bytes ++ [0, 0])) = true →
    e.lutRead f files 1 k = .ok (lutDataOf (bytesWords 411942 (x.bytes ++ [0, 0]))))

/-- R145 to R147: reloads of calibration tables. -/
def Obligations.TableReloadsRunToTheirEnd : Prop :=
  (∀ t h tg tables s, s.takes t h 0x0207 → tg.asap = true → targetOk tg false false = true → 0 < tables → tables ≤ 63 →
    s.eng.has 0x0020 = true → (∀ k ∈ tablesOf tables, k < 4 → s.eng.cfg.hasPort (k % 2) = true) → s.eng.raw.reload = none →
    Does (.tableReload t h tg tables) t s fun a b => Engine.changesOnly [.raw, .ctl, .ep] a b ∧ b.ctl.sent = a.ctl.sent ∧
      b.raw = { a.raw with reload := some ⟨tables, none, none, [], none, h.client, 0x0207, h.seq, false, false, false, false⟩ }) ∧
  (∀ t h tg tables r s, s.takes t h 0x0207 → tg.asap = true → targetOk tg false false = true → 0 < tables → tables ≤ 63 →
    s.eng.has 0x0020 = true → (∀ k ∈ tablesOf tables, k < 4 → s.eng.cfg.hasPort (k % 2) = true) →
    s.eng.raw.reload = some r → Does (.tableReload t h tg tables) t s fun a b => b.replied h 0x0207 .busy .none [] ∧
      Engine.changesOnly [.ctl, .ep, .counters] a b) ∧
  (∀ t defects others loads r s, s.eng.sys.phase = .running → s.eng.raw.reload = some r → r.loadedAt = none → r.cal = false →
    r.own = false → r.target = none → (s.eng.at t).reloadRead s.flash (defects ++ others) r = some loads →
    (∀ l ∈ loads, s.eng.cfg.tableOk l = true) → s.eng.defectRoom loads = true →
    Does (.tableLoadDone t defects others) t s fun a b => b.replied ⟨r.client, r.seq⟩ r.ty .ok .none [] ∧
      Engine.changesOnly [.raw, .ctl, .ep, .counters] a b ∧
      b.raw = { a.raw with reload := some { r with
        loads := loads, loadedAt := some a.now, cfn := some (if a.proj.run then a.reachCfn else 0) } }) ∧
  (∀ t defects others r s, s.eng.sys.phase = .running → s.eng.raw.reload = some r → r.loadedAt = none → r.cal = false →
    r.own = false → (s.eng.at t).reloadRead s.flash (defects ++ others) r = none →
    Does (.tableLoadDone t defects others) t s fun a b =>
      b.replied ⟨r.client, r.seq⟩ r.ty .refused .checkFailed [] ∧ Engine.changesOnly [.raw, .ctl, .ep, .counters, .log] a b ∧
      b.raw = { a.raw with reload := none } ∧ Engine.counted .tableRefused 0x0142 a b ∧
      Engine.newEvents a b = [(0x0142, .tableRefused, le 2 6)]) ∧
  (∀ t r c s, s.eng.sys.phase = .running → s.eng.raw.reload = some r → r.target = some c → r.loadedAt = none →
    r.overrun = false → (s.eng.at t).slotBy c - (ms 2 : Nat) ≤ ((s.eng.at t).now : Int) → Does (.tableReloadDeadline t) t s fun a b =>
      Engine.changesOnly [.raw, .ports, .cluster, .log, .counters] a b ∧
      b.raw = { a.raw with reload := some { r with overrun := true } } ∧
      Engine.newEvents a b = [(0x0142, .fwOverrun, le 1 4 ++ le 1 1 ++ le 4 c ++ le 1 0)])

/-- R150 to R152 and R131. -/
def Obligations.StatisticsRing : Prop :=
  (∀ t (src : Fin 3) r rest s, s.eng.sys.phase = .running → vget (s.eng.at t).raw.waiting src [] = r :: rest →
    Does (.statsRecordDone t src) t s fun a b => Engine.changesOnly [.raw, .counters] a b ∧
      vget b.raw.waiting src [] = rest ∧
      b.raw.ring = putSlot a.raw.ring a.raw.nextSlot { r with seq := a.raw.nextSeq % 4294967296 } ∧
      b.raw.nextSlot = (a.raw.nextSlot + 1) % a.cfg.ringSlots ∧ b.raw.nextSeq = a.raw.nextSeq + 1 ∧ b.raw.notes.length ≤ 64) ∧
  (∀ t h slot r s, s.takes t h 0x0404 → slot ≤ 255 → s.eng.has 0x0022 = true → slot < s.eng.cfg.ringSlots →
    (s.eng.raw.ring.find? fun x => x.1 = slot) = some r →
    Does (.statsRead t h slot) t s fun a b => b.replied h 0x0404 .ok .none r.2.bytes ∧
      Engine.changesOnly [.ctl, .ep, .counters] a b) ∧
  (∀ t h first count (p : Fin 2) s, s.takes t h 0x0405 → 0 < count → count ≤ 16000 → s.eng.cfg.hasPort p = true →
    Does (.defectRead t h first count p) t s fun a b => Engine.changesOnly [.ctl, .ep, .counters] a b ∧
      ∃ l, l = ((a.raw.dyn.filter fun d => d.1 = p.val).drop first).take count ∧ b.replied h 0x0405 .ok .none
        (le 4 (a.raw.dyn.filter fun d => d.1 = p.val).length ++ le 2 l.length ++ le 2 0 ++
          l.flatMap fun d => le 4 (packWord [(30, 28, 6), (27, 14, d.2.2), (13, 0, d.2.1)])))

/-- R467: the three layer messages. -/
def Obligations.LayerChangesGoToIdleSide : Prop :=
  (∀ t h (k : Fin 4) box (v o commit : Bool) g x y fg bg text s, s.takes t h 0x0209 → box < 64 → text.length < 256 →
    s.eng.cfg.hdEn k = true → Does (.l2Text t h k box v o commit g x y fg bg text) t s fun a b => b.replied h 0x0209 .ok .none [] ∧
      Engine.changesOnly [.outs, .ctl, .ep, .counters] a b ∧
      b.outs = { a.outs with heads := vmod a.outs.heads k fun q => { q with
        l2Idle := putAt box ⟨v, o, g, x, y, fg, bg, text⟩ q.l2Idle
        due := if commit then vmod q.due 1 fun _ => some a.now else q.due } }) ∧
  (∀ t h (k : Fin 4) (v hf commit r : Bool) item x0 y0 x1 y1 w colour s, s.takes t h 0x020A → item < 256 → 1 ≤ w → w ≤ 8 →
    s.eng.cfg.hdEn k = true → Does (.l3Mark t h k v hf commit r item x0 y0 x1 y1 w colour) t s fun a b =>
      b.replied h 0x020A .ok .none [] ∧ Engine.changesOnly [.outs, .ctl, .ep, .counters] a b ∧
      b.outs = { a.outs with heads := vmod a.outs.heads k fun q => { q with
        l3Idle := putAt item ⟨v, hf, r, x0, y0, x1, y1, w, colour⟩ q.l3Idle
        due := if commit then vmod q.due 2 fun _ => some a.now else q.due } }) ∧
  (∀ t h (k : Fin 4) (commit copy : Bool) x y w ht pixels s, s.takes t h 0x0208 → s.eng.cfg.hdEn k = true →
    pixels.length = w * ht → x + w ≤ s.eng.cfg.l1W k → y + ht ≤ s.eng.cfg.l1H k →
    Does (.l1Draw t h k commit copy x y w ht pixels) t s fun a b => b.replied h 0x0208 .ok .none [] ∧
      Engine.changesOnly [.outs, .ctl, .ep, .counters] a b ∧
      b.outs = { a.outs with heads := vmod a.outs.heads k fun _ => b.head k } ∧
      b.head k = { a.head k with
        surfaces := (b.head k).surfaces
        due := if commit then vmod (a.head k).due 0 fun _ => some a.now else (a.head k).due } ∧
      vget (b.head k).surfaces (a.head k).surf [] = vget (a.head k).surfaces (a.head k).surf [] ∧
      ∀ px py, px < a.cfg.l1W k → py < a.cfg.l1H k →
        (vget (b.head k).surfaces (1 - (a.head k).surf) [])[py * a.cfg.l1W k + px]? =
          (vget (a.head k).surfaces (if copy then (a.head k).surf else 1 - (a.head k).surf) [])[py * a.cfg.l1W k + px]?.map
            fun v => if x ≤ px ∧ px < x + w ∧ y ≤ py ∧ py < y + ht then
              pixels.getD ((py - y) * w + (px - x)) 0 % 4294967296 else v) ∧
  (∀ t h (k : Fin 4) box (v o commit : Bool) g x y fg bg text s, s.takes t h 0x0209 → box < 64 → text.length < 256 →
    s.eng.cfg.hdEn k = false → Does (.l2Text t h k box v o commit g x y fg bg text) t s fun a b =>
      b.replied h 0x0209 .refused .notConfigured [] ∧ Engine.changesOnly [.ctl, .ep, .counters] a b)

/-- Heads: R310, R313, R317 and deadline 6 of R453. -/
def Obligations.HeadsFollowTheirFrames : Prop :=
  (∀ t (h : Fin 4) s, s.eng.sys.phase = .running → s.eng.cfg.hdLead h = h.val → s.eng.cfg.hdSet h = [h.val] →
    (s.eng.head h).state = 1 → Does (.headFrameBoundary t h) t s fun a b =>
      Engine.changesOnly [.outs, .lanes, .counters, .log] a b ∧ (b.head h).state = 1 ∧
      (∀ l : Fin 62, l.val ∈ a.cfg.headLanes [h.val] → (b.lane l).classVIdle = false → (b.lane l).txHeld = false) ∧
      (∀ l : Fin 62, l.val ∉ a.cfg.headLanes [h.val] → b.lane l = a.lane l) ∧
      (b.head h).nextFrame = (a.head h).nextFrame + 1 ∧
      (∃ f, (b.head h).cur = some f ∧ f.number = (a.head h).nextFrame ∧ f.at_ = a.now ∧ f.slate = (b.head h).slateOn ∧
        f.pic = (b.head h).store ∧ f.l2 = (b.head h).l2Shown ∧ f.l3 = (b.head h).l3Shown ∧
        f.l1 = vget (a.head h).surfaces (b.head h).surf []) ∧
      ((a.head h).store = none → (a.head h).incoming = [] → (b.head h).slateOn = true ∧ (b.head h).l0Fetch = false) ∧
      (∀ m, vget (a.head h).due 1 none = some m → (a.head h).missed = false →
        (m + ms 1 ≤ a.now → (b.head h).l2Shown = (a.head h).l2Idle ∧ vget (b.head h).due 1 none = none) ∧
        (a.now < m + ms 1 → (b.head h).l2Shown = (a.head h).l2Shown ∧ vget (b.head h).due 1 none = some m))) ∧
  (∀ t (h : Fin 4) pic s, s.eng.sys.phase = .running → s.eng.cfg.hdLead h = h.val → s.eng.cfg.hdSet h = [h.val] →
    (s.eng.head h).state = 1 → s.eng.cfg.hdSrc h < 6 → s.eng.cfg.hdLocked h = true →
    Does (.headPictureStart t h pic) t s fun a b => Engine.changesOnly [.outs] a b ∧ (b.head h).lastAdmit = a.now ∧
      ∃ x, (b.head h).incoming = (a.head h).incoming ++ [x] ∧ x.cfn = pic.cfn ∧ x.content = none ∧
        ∀ r, r ∈ x.late ↔ r ∈ pic.lateLines ∧ r.1 ≤ r.2 ∧ r.1 < a.cfg.actH h) ∧
  (∀ t (h : Fin 4) s, s.eng.sys.phase = .running → (s.eng.head h).state = 1 → (s.eng.head h).slate = false →
    (s.eng.head h).lastAdmit + secs 1 ≤ (s.eng.at t).now → Does (.headSlate t h) t s fun a b =>
      Engine.changesOnly [.outs, .log] a b ∧ (b.head h).slate = true ∧ Engine.newEvents a b = [(0x02A0 + h.val, .headSlate, [])]) ∧
  (∀ t (h : Fin 4) s, s.eng.sys.phase = .running → (s.eng.head h).slate = true → Does (.headSlate t h) t s fun a b => b = a) ∧
  (∀ t (h : Fin 4) m s, s.eng.sys.phase = .running → (s.eng.head h).state = 1 → vget (s.eng.head h).due 1 none = some m →
    m ≤ (s.eng.at t).now → Does (.layerChangeDeadline t h false) t s fun a b =>
      Engine.changesOnly [.outs, .cluster, .counters, .log] a b ∧ (b.head h).missed = true ∧
      Engine.newEvents a b = [(0x02A0 + h.val, .fwOverrun, le 1 6 ++ le 1 2 ++ le 4 (a.head h).nextFrame ++ le 1 h)])

/-- R324 and R326. -/
def Obligations.DisplayAndSdiLinksFollowTheirPartners : Prop :=
  (∀ t (i : Fin 2) rate wide s, s.eng.sys.phase = .running → s.eng.cfg.lnRate (52 + i.val) ≠ 0 → s.eng.unitHeld 0x0800 20 = false →
    (s.eng.lane (52 + i.val)).test = false → 6 ≤ rate → rate ≤ 10 → Does (.sdiInLock t i rate wide true) t s fun a b => Engine.changesOnly [.outs, .log] a b ∧
      b.outs = { a.outs with sdiIn := vmod a.outs.sdiIn i fun _ => ⟨1, rate, wide⟩ } ∧
      Engine.newEvents a b = [(0x02AC + i.val, .sdiInLock, [])]) ∧
  (∀ t (i : Fin 2) rate wide taken s, s.eng.sys.phase = .running → s.eng.cfg.lnRate (52 + i.val) ≠ 0 →
    s.eng.unitHeld 0x0800 20 = false → (s.eng.lane (52 + i.val)).test = false → rate < 16 →
    (taken = false ∨ rate < 6 ∨ 10 < rate) → Does (.sdiInLock t i rate wide taken) t s fun a b => Engine.changesOnly [.outs, .log] a b ∧
      b.outs = { a.outs with sdiIn := vmod a.outs.sdiIn i fun _ => ⟨2, rate, wide⟩ } ∧
      Engine.newEvents a b = [(0x02AC + i.val, .sdiInLock, []), (0x02AC + i.val, .sdiInFormat, [])]) ∧
  (∀ t (i : Fin 2) q s, s.eng.sys.phase = .running → vget s.eng.outs.sdiIn i ⟨0, 0, false⟩ = q → q.state = 1 →
    Does (.sdiInFormat t i) t s fun a b => Engine.changesOnly [.outs, .log] a b ∧
      b.outs = { a.outs with sdiIn := vmod a.outs.sdiIn i fun _ => { q with state := 2 } } ∧
      Engine.newEvents a b = [(0x02AC + i.val, .sdiInFormat, [])]) ∧
  (∀ t (i : Fin 2) q s, s.eng.sys.phase = .running → vget s.eng.outs.sdiIn i ⟨0, 0, false⟩ = q → q.state ≠ 0 →
    s.eng.cfg.b 0x0080 1 27 = false → s.eng.clk.refin.eligible = false →
    Does (.sdiInLoss t i) t s fun a b => Engine.changesOnly [.outs, .lanes, .clk, .log] a b ∧
      b.outs = { a.outs with sdiIn := vmod a.outs.sdiIn i fun _ => ⟨0, 0, false⟩ } ∧
      (b.lane (52 + i.val)).cdrLock = false ∧ (b.lane (52 + i.val)).linkUp = false ∧
      b.clk = (if i = 0 then { a.clk with refin := { a.clk.refin with stopped := true, good := 0 } } else a.clk) ∧
      Engine.newEvents a b = (0x02AC + i.val, .sdiInLoss, []) ::
        if (a.lane (52 + i.val)).cdrLock then [(0x00B4 + i.val, .laneCdrLoss, [])] else []) ∧
  (∀ t (d : Fin 2) edid ml mr n r s, s.eng.sys.phase = .running → s.eng.cfg.dpEn d = true →
    (∀ k : Fin 4, (s.eng.lane (54 + 4 * d.val + k.val)).test = false) → s.eng.dpPick d ml mr = some (n, r) →
    Does (.dpHpd t d true edid ml mr true) t s fun a b => Engine.changesOnly [.outs, .lanes, .counters, .log] a b ∧
      b.outs = { a.outs with dp := vmod a.outs.dp d fun _ => ⟨2, n, r, edid, ml, mr⟩ } ∧ Engine.counted .dpHpd (0x02AE + d.val) a b ∧
      Engine.newEvents a b = [(0x02AE + d.val, .dpHpd, []), (0x02AE + d.val, .dpLinkUp, [])]) ∧
  (∀ t (d : Fin 2) edid ml mr tr s, s.eng.sys.phase = .running → s.eng.cfg.dpEn d = true →
    (∀ k : Fin 4, (s.eng.lane (54 + 4 * d.val + k.val)).test = false) → s.eng.dpPick d ml mr = none →
    Does (.dpHpd t d true edid ml mr tr) t s fun a b => Engine.changesOnly [.outs, .lanes, .counters, .log] a b ∧
      b.outs = { a.outs with dp := vmod a.outs.dp d fun _ => ⟨3, 0, 0, edid, ml, mr⟩ } ∧
      Engine.newEvents a b = [(0x02AE + d.val, .dpHpd, []), (0x02AE + d.val, .dpBwShort, [])]) ∧
  (∀ t (d : Fin 2) edid ml mr tr s, s.eng.sys.phase = .running → s.eng.cfg.dpEn d = true →
    Does (.dpHpd t d false edid ml mr tr) t s fun a b => Engine.changesOnly [.outs, .lanes, .counters, .log] a b ∧
      b.outs = { a.outs with dp := vmod a.outs.dp d fun _ => ⟨0, 0, 0, [], 0, 0⟩ } ∧ Engine.counted .dpHpd (0x02AE + d.val) a b ∧
      Engine.newEvents a b = [(0x02AE + d.val, .dpHpd, [])] ∧
      ∀ l : Fin 62, 54 + 4 * d.val ≤ l.val → l.val < 58 + 4 * d.val → a.cfg.lnRate l ≠ 0 → (a.lane l).step ≠ 0 →
        b.lane l = { a.lane l with txPs := 2 }) ∧
  (∀ t (d : Fin 2) q n r s, s.eng.sys.phase = .running → s.eng.cfg.dpEn d = true → vget s.eng.outs.dp d ⟨0, 0, 0, [], 0, 0⟩ = q →
    q.link = 1 ∨ q.link = 2 → (∀ k : Fin 4, (s.eng.lane (54 + 4 * d.val + k.val)).test = false) →
    s.eng.dpPick d q.maxLanes q.maxRate = some (n, r) →
    Does (.dpIrqHpd t d true true) t s fun a b => Engine.changesOnly [.outs, .counters, .log] a b ∧
      b.outs = { a.outs with dp := vmod a.outs.dp d fun _ => { q with link := 2, lanes := n, rate := r } } ∧
      Engine.counted .dpRetrain (0x02AE + d.val) a b ∧
      (∀ k : Fin 4, a.cfg.lnRate (54 + 4 * d.val + k.val) ≠ 0 →
        Engine.counted .laneRetrain (0x0080 + (54 + 4 * d.val + k.val)) a b)) ∧
  (∀ t h (d : Fin 2) s, s.takes t h 0x0406 → Does (.outputQuery t h d) t s fun a b =>
    Engine.changesOnly [.ctl, .ep, .counters] a b ∧
    b.replied h 0x0406 .ok .none (le 2 (vget a.outs.dp d ⟨0, 0, 0, [], 0, 0⟩).edid.length ++ le 2 0 ++
      (vget a.outs.dp d ⟨0, 0, 0, [], 0, 0⟩).edid))

/-- R331 and R353; the description of STREAM_QUERY is a free value (log 24). -/
def Obligations.NetworkVideoReceivers : Prop :=
  (∀ t (n : Fin 16) (p : Fin 2) ssrc q s, s.eng.sys.phase = .running → s.eng.cfg.nvValid n = true → s.eng.cfg.nvKind n = 5 →
    (s.eng.cfg.nvPaths n).testBit p = true → (s.eng.cfg.nv n 4 31 0 = 0 ∨ s.eng.cfg.nv n 4 31 0 = ssrc) →
    s.eng.netHeld p = false → s.eng.clk.classV = false → (s.eng.netStream n).rx.seen = [] →
    Does (.nvRxPacket t n p ⟨ssrc, q⟩) t s fun a b => Engine.changesOnly [.outs] a b ∧
      b.outs = { a.outs with streams := vmod a.outs.streams n fun x => { x with rx := ⟨[(q, 2 ^ p.val, a.now)], false⟩ } }) ∧
  (∀ t (n : Fin 16) (p : Fin 2) ssrc q m t0 s, s.eng.sys.phase = .running → s.eng.cfg.nvValid n = true →
    s.eng.cfg.nvKind n = 5 → (s.eng.cfg.nvPaths n).testBit p = true →
    (s.eng.cfg.nv n 4 31 0 = 0 ∨ s.eng.cfg.nv n 4 31 0 = ssrc) → s.eng.netHeld p = false → s.eng.clk.classV = false →
    (s.eng.netStream n).rx.seen = [(q, m, t0)] → (s.eng.at t).now < t0 + ms (s.eng.cfg.nvJitter n) →
    Does (.nvRxPacket t n p ⟨ssrc, q⟩) t s fun a b => Engine.changesOnly [.outs] a b ∧
      b.outs = { a.outs with streams := vmod a.outs.streams n fun x => { x with
        rx := { x.rx with seen := [(q, m ||| 2 ^ p.val, t0)] } } }) ∧
  (∀ t (n : Fin 16) q s, s.eng.sys.phase = .running → s.eng.cfg.nvValid n = true → s.eng.cfg.nvKind n = 5 →
    (∀ x ∈ (s.eng.netStream n).rx.seen, x.1 ≠ q) →
    Does (.nvRxLoss t n q) t s fun a b => Engine.changesOnly [.outs, .counters, .log] a b ∧
      (b.netStream n).rx = { (a.netStream n).rx with losing := true } ∧ Engine.counted .nvRxLost (0x02B0 + n.val) a b ∧
      Engine.newEvents a b = if (a.netStream n).rx.losing then [] else [(0x02B0 + n.val, .nvRxLoss, [])]) ∧
  (∀ t link addr got s, s.eng.sys.phase = .running → link < 8 → s.eng.cfg.nlEn link = true →
    s.eng.netHeld (link / 4) = false → s.eng.linkUp (link / 4) (link % 4) = true → got = .arp ∨ got = .echo → Does (.netArpIcmp t link addr got) t s fun a b =>
      Engine.changesOnly [.outs] a b ∧
      (s.eng.cfg.nlAddr link = addr →
        b.outs = { a.outs with answers := ((link, decide (got = .echo)) :: a.outs.answers).take 64 }) ∧
      (s.eng.cfg.nlAddr link ≠ addr → b = a)) ∧
  (∀ t addr got s, s.eng.sys.phase = .running → s.eng.cb 0x00C0 0 30 = true → (s.eng.cw 0x00C0 1).toNat = addr →
    got = .arp ∨ got = .echo → Does (.netArpIcmp t 8 addr got) t s fun a b => Engine.changesOnly [.outs] a b ∧
      b.outs = { a.outs with answers := ((8, decide (got = .echo)) :: a.outs.answers).take 64 }) ∧
  (∀ t h (n : Fin 16) s, s.takes t h 0x0407 → s.eng.cfg.nvValid n = false → Does (.streamQuery t h 0 n) t s fun a b =>
    b.replied h 0x0407 .notFound .none [] ∧ Engine.changesOnly [.ctl, .ep, .counters] a b) ∧
  (∀ t h (n : Fin 16) s, s.takes t h 0x0407 → s.eng.cfg.nvValid n = true → Does (.streamQuery t h 0 n) t s fun a b =>
    Engine.changesOnly [.ctl, .ep, .counters] a b ∧
    ∃ text : List Byte, text.length < 65536 ∧ b.replied h 0x0407 .ok .none (le 2 text.length ++ le 2 0 ++ text))

/-- R489 and deadline 7 of R454. -/
def Obligations.MetadataRecordsAreFilledAndSent : Prop :=
  (∀ t (p : Fin 2) x s, s.eng.sys.phase = .running → s.eng.frozenOf p = [x] → x.fw = none → x.due (s.eng.at t).now = true →
    Does (.metadataDeadline t p true) t s fun a b => Engine.changesOnly [.md] a b ∧
      b.md = { a.md with frozen := vmod a.md.frozen p fun _ => [{ x with fw := some (a.fwRecord p x.cfn) }] }) ∧
  (∀ t (p : Fin 2) x s, s.eng.sys.phase = .running → s.eng.frozenOf p = [x] → x.fw = none → x.due (s.eng.at t).now = true →
    Does (.metadataDeadline t p false) t s fun a b => Engine.changesOnly [.md, .cluster, .counters, .log] a b ∧
      b.md = { a.md with frozen := vmod a.md.frozen p fun _ =>
        [{ x with fw := some (vget a.md.lastFw p []), flags := addFlag x.flags .incomplete }] } ∧
      Engine.newEvents a b = [(portSrc p, .fwOverrun, le 1 7 ++ le 1 1 ++ le 4 x.cfn ++ le 1 p)]) ∧
  (∀ t (p : Fin 2) x rest s, s.eng.sys.phase = .running → s.eng.frozenOf p = x :: rest → x.due (s.eng.at t).now = true →
    s.eng.rec_.takes = [] →
    Does (.metadataEmit t p) t s fun a b => Engine.changesOnly [.md, .outs] a b ∧ b.frozenOf p = rest ∧
      vget b.md.lastFw p [] = x.fw.getD (a.fwRecord p x.cfn) ∧
      ∃ body, body.length = 4092 ∧ b.md.sent.head? = some ⟨p, x.cfn, body ++ le 4 (crc32c body)⟩)

/-- R499 to R501. -/
def Obligations.DeflateBlocksChecked : Prop :=
  (∀ t (k : Fin 16) zlib input code poison flush last s, s.eng.sys.phase = .running →
    vget s.eng.md.deflate 1 [] = [] → poison ≠ [] →
    (lzToks (zeroWords poison input).length [] (zeroWords poison input)).length ≤ 16384 →
    Does (.deflateBlock t 1 k zlib input code poison flush last) t s fun a b =>
      Engine.changesOnly [.md, .counters, .log] a b ∧ Engine.counted .deflateMismatch 0x0357 a b ∧
      Engine.newEvents a b = [(0x0357, .deflateMismatch, le 4 k ++ le 1 1)] ∧
      ∃ x, vget b.md.deflate 1 [] = [x] ∧ x.number = k ∧ x.zlib = zlib ∧ x.done = last ∧
        x.window = (zeroWords poison input).reverse.take 32768 ∧ x.adler = adlerRun (1, 0) (zeroWords poison input)) ∧
  (∀ t (k : Fin 16) zlib input code flush last s, s.eng.sys.phase = .running →
    vget s.eng.md.deflate 1 [] = [] → (lzToks input.length [] input).length ≤ 16384 →
    takeDynamic code = some (lzToks input.length [] input, []) →
    Does (.deflateBlock t 1 k zlib input code [] flush last) t s fun a b => Engine.changesOnly [.md] a b ∧
      ∃ x, vget b.md.deflate 1 [] = [x] ∧ x.number = k ∧ x.done = last ∧ x.window = input.reverse.take 32768 ∧
        x.adler = adlerRun (1, 0) input) ∧
  (∀ t (k : Fin 16) zlib input code flush last x s, s.eng.sys.phase = .running → s.eng.sideOf k = some x →
    vget s.eng.md.deflate 0 [] = [] → input = x.todo.take input.length → input.length ≤ x.part_ →
    (x.flushes input.length || x.ends input.length) = true → (lzToks input.length [] input).length ≤ 16384 →
    takeDynamic code = some (lzToks input.length [] input, []) →
    Does (.deflateBlock t 0 k zlib input code [] flush last) t s fun a b => Engine.changesOnly [.md, .recorder] a b ∧
      (∃ y, vget b.md.deflate 0 [] = [y] ∧ y.number = x.stream ∧ y.zlib = true ∧ y.done = x.ends input.length ∧
        y.window = input.reverse.take 32768 ∧ y.adler = adlerRun (1, 0) input) ∧
      ∃ tk ∈ b.rec_.takes, ∃ c ∈ tk.clips, ∃ y ∈ c.sides, y.stream = x.stream ∧ y.todo = x.todo.drop input.length ∧
        y.done = x.ends input.length) ∧
  (∀ t (k : Fin 16) zlib input code poison flush last s, s.eng.sys.phase = .running → s.eng.sideOf k = none →
    Does (.deflateBlock t 0 k zlib input code poison flush last) t s fun a b => b = a)

/-- R499: the search is right, whatever it finds. -/
def Obligations.MatchSymbolsReproduceTheirInput : Prop :=
  ∀ past rest : List Byte, applyToks (lzToks rest.length past rest) past = some (rest.reverse ++ past)

/-- R192 to R212: the life of a Flowstone picture. -/
def Obligations.FlowstonePicturesAreBuilt : Prop :=
  (∀ t (k : Fin 8) band pic s, s.eng.sys.phase = .running → s.eng.cfg.fsMode k = 2 → (s.eng.stream k).pics = [pic] →
    pic.bands.length = band → band < s.eng.cfg.fsBands k → (∀ j < band - 1, pic.bandDone (s.eng.cfg.tileCols k) j = true) →
    pic.bandDone (s.eng.cfg.tileCols k) band = false →
    Does (.fsrBandDecide t k band) t s fun a b => Engine.changesOnly [.fsr] a b ∧
      ∃ d, d = a.fsDecide k pic band ∧ d.qi ≤ 255 ∧
        b.fsr = { a.fsr with streams := vmod a.fsr.streams k fun q => { q with pics := [{ pic with
          bands := pic.bands ++ [d]
          flags := if d.qi = 255 then pic.flags ||| picRcEmergency else pic.flags }] } }) ∧
  (∀ t (k : Fin 8) col band (g : Fin 32) pic x s, s.eng.sys.phase = .running → s.eng.cfg.fsMode k = 0 →
    (s.eng.stream k).pics = [pic] → pic.bands = [] → s.eng.fsWaiting k col band false pic = true →
    s.eng.fsTile k pic col band = x → vget s.eng.fsr.inService g false = true →
    (checkedTile x (s.eng.cfg.codeTile k col band x none) none [] []).2 = 0 →
    Does (.fsrTileCoded t k col band g [] []) t s fun a b => Engine.changesOnly [.fsr, .counters] a b ∧
      ∃ w, (b.stream k).pics = [{ pic with tiles := pic.tiles ++ [w] }] ∧ w.col = col ∧ w.band = band ∧ w.flags = 0 ∧
        ((codeRaw x).length < (codeLossless x).length → w.mode = 2 ∧ w.bytes = codeRaw x ∧ Engine.counted .fsrRawTile (0x0180 + k.val) a b) ∧
        ((codeLossless x).length ≤ (codeRaw x).length → w.mode = 0 ∧ w.bytes = codeLossless x ∧ b.counters = a.counters)) ∧
  (∀ t (k : Fin 8) col band (g : Fin 32) errs1 errs2 pic x s, s.eng.sys.phase = .running → s.eng.cfg.fsMode k = 0 →
    (s.eng.stream k).pics = [pic] → pic.bands = [] → s.eng.fsWaiting k col band false pic = true →
    s.eng.fsTile k pic col band = x → vget s.eng.fsr.inService g false = true →
    (checkedTile x (s.eng.cfg.codeTile k col band x none) none errs1 errs2).2 = 2 →
    Does (.fsrTileCoded t k col band g errs1 errs2) t s fun a b => Engine.changesOnly [.fsr, .counters, .log] a b ∧
      Engine.counted .fsrVerifyFail (0x0180 + k.val) a b ∧ Engine.counted .fsrVerifyMismatch (0x0180 + k.val) a b ∧
      (∃ w p, (b.stream k).pics = [p] ∧ p.tiles = pic.tiles ++ [w] ∧ p.mism = pic.mism + 1 ∧ w.mode = 2 ∧
        w.flags = tileReenc ||| tileVerifyFail ∧ w.bytes = codeRaw x) ∧
      vget b.fsr.fails g 0 = vget a.fsr.fails g 0 + 1 ∧
      (vget a.fsr.fails g 0 + 1 = 2 → vget b.fsr.inService g true = false ∧
        Engine.newEvents a b = [(0x0180 + k.val, .fsrVerifyFail, le 4 g), (0x0190 + g.val, .fsrEngineOff, [])]) ∧
      (vget a.fsr.fails g 0 + 1 ≠ 2 → b.fsr.inService = a.fsr.inService ∧
        Engine.newEvents a b = [(0x0180 + k.val, .fsrVerifyFail, le 4 g)])) ∧
  (∀ t (k : Fin 8) col band (g : Fin 32) errs1 errs2 s, s.eng.sys.phase = .running → vget s.eng.fsr.inService g false = false →
    Does (.fsrTileCoded t k col band g errs1 errs2) t s fun a b => b = a) ∧
  (∀ t (k : Fin 8) col band pic s, s.eng.sys.phase = .running → (s.eng.stream k).pics = [pic] → pic.bands = [] →
    s.eng.fsWaiting k col band true pic = true → (s.eng.at t).tileOverdue k band pic = true →
    Does (.fsrTileLate t k col band) t s fun a b => Engine.changesOnly [.fsr, .counters, .log] a b ∧
      Engine.counted .fsrTileLate (0x0180 + k.val) a b ∧
      (∃ w p, (b.stream k).pics = [p] ∧ p.tiles = pic.tiles ++ [w] ∧ w.col = col ∧ w.band = band ∧ w.mode = 3 ∧
        w.flags = tileLate ∧ w.bytes = codeEmergency (a.fsTile k pic col band) ∧ p.flags = pic.flags ||| picTileLate) ∧
      Engine.newEvents a b = if pic.flags &&& picTileLate = 0 ∧ (a.stream k).lateRun = false
        then [(0x0180 + k.val, .fsrTileLate, [])] else []) ∧
  (∀ t (k : Fin 8) pic rest s, s.eng.sys.phase = .running → (s.eng.stream k).pics = pic :: rest →
    pic.whole (s.eng.cfg.tileCols k) (s.eng.cfg.fsBands k) = true → pic.mism = 0 → pic.flags &&& picRcEmergency = 0 →
    s.eng.rec_.takes = [] → Does (.fsrPictureComplete t k) t s fun a b => Engine.changesOnly [.fsr, .md] a b ∧
      (b.stream k).pics = rest ∧ (b.stream k).picNum = (a.stream k).picNum + 1 ∧ (b.stream k).lastEmerg = false ∧
      (b.stream k).lateRun = decide (pic.flags &&& picTileLate ≠ 0) ∧
      b.md = { a.md with codec := (⟨false, k, pic.cfn, pic.flags⟩ :: a.md.codec).take 1024 }) ∧
  (∀ t (k : Fin 8) bytes record audio x p s, s.eng.sys.phase = .running → s.eng.sys.mode = .review → s.eng.rec_.play = some x →
    x.proxy = false → decodePicture bytes record = some p →
    Does (.fsrDecodePicture t k bytes record audio) t s fun a b =>
      Engine.changesOnly [.fsr, .recorder, .aud, .counters] a b ∧
      b.fsr = { a.fsr with streams := vmod a.fsr.streams k fun q => { q with shown := some p } } ∧
      b.rec_ = { a.rec_ with play := some (({ x with stream := some k.val } : Play).add p) } ∧
      b.aud = { a.aud with play := a.aud.play ++ audio } ∧
      b.ctr .fsrDecTileErr 0x0188 0 = satNat 0xFFFFFFFF (a.ctr .fsrDecTileErr 0x0188 0 + p.concealed)) ∧
  (∀ t (k : Fin 8) bytes record audio x s, s.eng.sys.phase = .running → s.eng.sys.mode = .review → s.eng.rec_.play = some x →
    x.proxy = false → decodePicture bytes record = none →
    Does (.fsrDecodePicture t k bytes record audio) t s fun a b => Engine.changesOnly [.recorder, .counters, .log] a b ∧
      b.rec_ = { a.rec_ with play := some (match (a.stream k).shown with
        | some p => ({ x with stream := some k.val } : Play).add p
        | none => { x with stream := some k.val }) } ∧
      Engine.counted .fsrDecPicErr 0x0188 a b ∧ Engine.newEvents a b = [(0x0188, .fsrDecErr, [])]) ∧
  (∀ t x p rest s, s.eng.sys.phase = .running → s.eng.proj.started = true → s.eng.proj.slot < s.eng.cfg.phases →
    s.eng.proj.run = false → s.eng.rec_.play = some x → x.queue = p :: rest → s.eng.sys.units = [] → s.eng.sys.failed = [] →
    Does (.captureSlotStart t) t s fun a b =>
      b.rec_ = { a.rec_ with play := some { x with source := p.source, queue := rest, last := some p.cfn } } ∧
      b.md = { a.md with sent := (⟨p.source, p.cfn, padTo 4096 p.record⟩ :: a.md.sent).take 64 })

/-- R219 to R238; the size of an emergency CTU is a free value within its bound (log 24). -/
def Obligations.HevcPicturesAreCoded : Prop :=
  (∀ t (k : Fin 8) o s, s.eng.sys.phase = .running → (s.eng.hst k).state ≠ 0 → s.eng.clk.classV = false → s.eng.cfg.hvSrc k ≠ 6 →
    (s.eng.hst k).frames % s.eng.cfg.hvDiv k = 0 → s.eng.hevcSource k = some o → ((s.eng.hst k).pics.filter (·.buf)).length < 2 →
    Does (.hevcSourceFrame t k) t s fun a b => Engine.changesOnly [.hevc] a b ∧ (b.hst k).frames = (a.hst k).frames + 1 ∧
      (b.hst k).lastSrc = some o ∧ (b.hst k).begun = true ∧ (b.hst k).state = 2 ∧
      ∃ p, (b.hst k).pics = (a.hst k).pics ++ [p] ∧ p.skip = false ∧ p.buf = true ∧ p.rows = [] ∧ p.src = o ∧
        p.first = !(a.hst k).begun ∧ ((a.hst k).begun = false → p.idr = true) ∧ p.cfn = some o.cfn ∧
        p.poc = (if p.idr then 0 else (a.hst k).nextPoc) ∧ (b.hst k).nextPoc = p.poc + 1) ∧
  (∀ t (k : Fin 8) o s, s.eng.sys.phase = .running → (s.eng.hst k).state ≠ 0 → s.eng.clk.classV = false → s.eng.cfg.hvSrc k ≠ 6 →
    (s.eng.hst k).frames % s.eng.cfg.hvDiv k = 0 → s.eng.hevcSource k = some o → 2 ≤ ((s.eng.hst k).pics.filter (·.buf)).length →
    Does (.hevcSourceFrame t k) t s fun a b => Engine.changesOnly [.hevc, .counters, .log] a b ∧
      (∃ p, (b.hst k).pics = (a.hst k).pics ++ [p] ∧ p.skip = true ∧ p.buf = false ∧ p.cfn = some o.cfn ∧
        p.src = (a.hst k).lastSrc.getD o) ∧
      Engine.counted .hevcSrcDrop (0x01C0 + k.val) a b ∧ Engine.newEvents a b = [(0x01C0 + k.val, .hevcSrcDrop, [])]) ∧
  (∀ t (k : Fin 8) l s, s.eng.sys.phase = .running → (s.eng.hst k).state ≠ 0 → s.eng.clk.classV = false → s.eng.cfg.hvSrc k ≠ 6 →
    (s.eng.hst k).frames % s.eng.cfg.hvDiv k = 0 → s.eng.hevcSource k = none → (s.eng.hst k).lastSrc = some l →
    Does (.hevcSourceFrame t k) t s fun a b => Engine.changesOnly [.hevc] a b ∧
      ∃ p, (b.hst k).pics = (a.hst k).pics ++ [p] ∧ p.skip = true ∧ p.buf = false ∧ p.src = l ∧ p.cfn = a.frameNow) ∧
  (∀ t (k : Fin 8) ps sei hdr pic rest s, s.eng.sys.phase = .running → (s.eng.hst k).pics = pic :: rest → pic.rows = [] →
    pic.idr = false → pic.first = false → s.eng.hevcTurn = some k.val → s.eng.rowsInFlight < 4 →
    Does (.hevcRowStart t k ps sei hdr) t s fun a b => Engine.changesOnly [.hevc] a b ∧ b.hevc.pool = a.hevc.pool ∧
      ∃ p w, (b.hst k).pics = p :: rest ∧ p.rows = [w] ∧ p.cap = (a.hst k).fill / 8 ∧ p.hdr = ps + sei + hdr ∧ p.pool = a.freeBuf k ∧
        p.cfn = pic.cfn ∧ w.ctus = 0 ∧ w.bytes = 0 ∧ a.cfg.rowFloor k pic ≤ w.alloc) ∧
  (∀ t (k : Fin 8) row cands x pic rest w s, s.eng.sys.phase = .running → (s.eng.hst k).pics = pic :: rest →
    pic.rows[row]? = some w → w.ctus + 1 < s.eng.cfg.hvCols k → w.bound = false →
    s.eng.hevcChoose k pic row w.ctus false cands = some x →
    w.bytes + x.bytes + s.eng.cfg.emergBound k pic (w.ctus + 1) ≤ w.alloc →
    Does (.hevcCtuCode t k row cands ⟨false, false⟩) t s fun a b => Engine.changesOnly [.hevc, .free] a b ∧ b.free = a.free + 1 ∧
      b.hevc = { a.hevc with streams := vmod a.hevc.streams k fun q => { q with pics := { pic with
        rows := pic.rows.set row { w with
          ctus := w.ctus + 1, bytes := w.bytes + x.bytes, codes := w.codes ++ [(x.cus, true)] } } :: rest } }) ∧
  (∀ t (k : Fin 8) row cands pic rest w s, s.eng.sys.phase = .running → (s.eng.hst k).pics = pic :: rest →
    pic.rows[row]? = some w → w.ctus + 1 < s.eng.cfg.hvCols k → w.emerg = false →
    (w.bound = true ∨ ∃ x, s.eng.hevcChoose k pic row w.ctus false cands = some x ∧
      w.alloc < w.bytes + x.bytes + s.eng.cfg.emergBound k pic (w.ctus + 1)) →
    Does (.hevcCtuCode t k row cands ⟨false, false⟩) t s fun a b => Engine.changesOnly [.hevc, .free, .counters] a b ∧
      Engine.counted .hevcCtuEmerg (0x01C0 + k.val) a b ∧
      ∃ n, n ≤ (if a.cfg.hevcIntra k pic w.ctus then 16 else 2) ∧
        b.hevc = { a.hevc with streams := vmod a.hevc.streams k fun q => { q with pics := { pic with
          rows := pic.rows.set row { w with
            bound := true, ctus := w.ctus + 1, bytes := w.bytes + n
            codes := w.codes ++ [emergCtu row w.ctus (a.cfg.hevcIntra k pic w.ctus)] } } :: rest } }) ∧
  (∀ t (k : Fin 8) row cands pic rest w s, s.eng.sys.phase = .running → (s.eng.hst k).pics = pic :: rest →
    pic.rows[row]? = some w → w.ctus + 1 < s.eng.cfg.hvCols k → w.bound = false → pic.poison = false →
    Does (.hevcCtuCode t k row cands ⟨true, false⟩) t s fun a b => Engine.changesOnly [.hevc, .free, .counters] a b ∧
      Engine.counted .hevcPoison (0x01C0 + k.val) a b ∧
      ∃ n, n ≤ (if a.cfg.hevcIntra k pic w.ctus then 16 else 2) ∧
        b.hevc = { a.hevc with streams := vmod a.hevc.streams k fun q => { q with pics := { pic with
          poison := true
          rows := pic.rows.set row { w with
            ctus := w.ctus + 1, bytes := w.bytes + n
            codes := w.codes ++ [emergCtu row w.ctus (a.cfg.hevcIntra k pic w.ctus)] } } :: rest } }) ∧
  (∀ t (k : Fin 8) pic rest s, s.eng.sys.phase = .running → (s.eng.hst k).pics = pic :: rest → s.eng.cfg.hevcWhole k pic = true →
    s.eng.cfg.hvMode k ≠ 0 → s.eng.hevcSenders k = [] → s.eng.rec_.takes = [] → pic.rows.any (·.emerg) = false → pic.skip = false →
    Does (.hevcPictureComplete t k) t s fun a b => Engine.changesOnly [.hevc, .md] a b ∧ (b.hst k).pics = rest ∧
      (b.hst k).written = (a.hst k).written + pic.hdr + sumNat (pic.rows.map (·.bytes)) ∧
      (b.hst k).state = (if rest = [] then 1 else 2) ∧ (b.hst k).emergRun = false ∧
      ((b.hst k).written ≤ (a.hst k).written + a.cfg.ringBytes →
        a.hevcUnit k pic (a.hst k).written (pic.hdr + sumNat (pic.rows.map (·.bytes))) 0 ∈ (b.hst k).ring) ∧
      (b.hst k).joinAt = if pic.idr ∨ pic.sweep = some 0 then (a.hst k).written else (a.hst k).joinAt)

/-- R228 and R239 to R242. -/
def Obligations.HevcPicturesAreDecoded : Prop :=
  (∀ t (d : Fin 4) rtp au s, s.eng.sys.phase = .running → s.eng.cfg.decRx d = true → (s.eng.dec d).media = false →
    s.eng.clk.classV = false → Does (.hevcAccessUnitRx t d ⟨rtp, au⟩) t s fun a b => Engine.changesOnly [.hevc] a b ∧
      b.hevc = { a.hevc with decs := vmod a.hevc.decs d fun q => { q with
        state := if q.state = 0 then 1 else q.state
        queue := q.queue ++ [{ au with pts := (a.rtpDtb rtp + (ms (a.cfg.decJitter d) : Nat)).toNat }] } }) ∧
  (∀ t (d : Fin 4) au s, s.eng.sys.phase = .running → (s.eng.dec d).state = 1 ∨ (s.eng.dec d).state = 2 →
    (s.eng.dec d).media = false → s.eng.cfg.decFits d au = true → au.idr = true → au.irap = true → au.rasl = false →
    au.nalErrs = 0 → au.sliceErrs = 0 → au.lost = [] → au.hashOk ≠ some false → au.poison = [] →
    (s.eng.dec d).concealing = false → (s.eng.freeBuf (8 + d.val)).isSome = true →
    Does (.hevcDecodePicture t d au) t s fun a b => Engine.changesOnly [.hevc, .counters] a b ∧ (b.dec d).state = 2 ∧
      (b.dec d).concealing = false ∧ b.hevc.streams = a.hevc.streams ∧
      ∃ k, k < 32 ∧ (vget b.hevc.pool k PoolBuf.reset).owner = 8 + d.val ∧ (vget b.hevc.pool k PoolBuf.reset).mark = .short ∧
        (vget b.hevc.pool k PoolBuf.reset).poc = au.poc ∧ (vget b.hevc.pool k PoolBuf.reset).pts = au.pts ∧
        (vget b.hevc.pool k PoolBuf.reset).flags = 0) ∧
  (∀ t (d : Fin 4) au s, s.eng.sys.phase = .running → (s.eng.dec d).state = 1 ∨ (s.eng.dec d).state = 2 →
    (s.eng.dec d).media = false → s.eng.cfg.decFits d au = false →
    (s.eng.dec d).last = none → Does (.hevcDecodePicture t d au) t s fun a b => Engine.changesOnly [.hevc, .log] a b ∧
      (b.dec d).state = 3 ∧ (b.dec d).queue = (a.dec d).queue.erase au ∧
      Engine.newEvents a b = [(0x01C8 + d.val, .hevcDecUnsupported, [])]) ∧
  (∀ t (d : Fin 4) o s, s.eng.sys.phase = .running → (s.eng.dec d).state ≠ 0 → (s.eng.dec d).last = some o → o.flags = 0 →
    (s.eng.dec d).concealing = false → Does (.hevcDecodeLate t d) t s fun a b => Engine.changesOnly [.hevc, .counters] a b ∧
      b.hevc = { a.hevc with decs := vmod a.hevc.decs d fun q => { q with outputs := q.outputs + 1 } } ∧
      Engine.counted .hevcDecLate (0x01C8 + d.val) a b)

/-- R246 to R251, R253 and R274, for a drive on which nothing hangs. -/
def Obligations.DrivesComeAndGo : Prop :=
  (∀ t (m : Fin 4) info s, s.eng.sys.phase = .running → (s.eng.mport m).drive = none → info.present = true →
    s.eng.cfg.mediaEn m = true → Does (.mediaInsert t m info) t s fun a b => Engine.changesOnly [.recorder, .pins, .ep] a b ∧
      (∀ k : Fin 4, k ≠ m → b.mport k = a.mport k) ∧
      b.pins = { a.pins with
        pwren := vmod a.pins.pwren m fun _ => true
        perstN := vmod a.pins.perstN m fun _ => true } ∧
      (b.mport m).drive = some info ∧ (b.mport m).gen = min info.gen (a.cfg.mediaGen m) ∧
      (b.mport m).width = linkWidth (min info.width (a.cfg.mediaLanes m).length) ∧
      (driveUsable info = true → (b.mport m).state = .linking ∧
        (b.mport m).queues = min (a.cfg.mediaIoq m) info.queues ∧ (b.mport m).entries = min (a.cfg.mediaQd m) info.entries ∧
        (b.mport m).cmds.map (·.use) = linkCmds (min (a.cfg.mediaIoq m) info.queues)) ∧
      (driveUsable info = false → (b.mport m).state = .unsupported ∧ (b.mport m).cmds = [])) ∧
  (∀ t (m : Fin 4) d v info s, s.eng.sys.phase = .running → (s.eng.mport m).drive = some d → (s.eng.mport m).state = .linking →
    s.eng.sys.mode ≠ .offload → s.eng.unitHeld (0x0500 + m.val) (13 + m.val) = false → mountVolume info = some v →
    volumeOk v = true → info.open_ = [] → Does (.mediaMount t m info) t s fun a b => Engine.changesOnly [.recorder, .ep, .log] a b ∧
      b.rec_ = { a.rec_ with ports := vmod a.rec_.ports m fun q => { q with
        cmds := q.cmds.filter fun c => c.use = .asyncEvent
        volume := some ⟨v.start, v.size, v.clusterLog2, v.label⟩
        state := .mounted
        mounting := none
        qualBin := info.qual
        qual := info.qual.bind (qualRate d)
        free := info.free
        folders := info.folders } } ∧ Engine.newEvents a b = [(0x0210 + m.val, .mediaMount, [])]) ∧
  (∀ t (m : Fin 4) d v info s, s.eng.sys.phase = .running → (s.eng.mport m).drive = some d → (s.eng.mport m).state = .linking →
    s.eng.sys.mode ≠ .offload → s.eng.unitHeld (0x0500 + m.val) (13 + m.val) = false → mountVolume info = some v →
    volumeOk v = true → info.open_ ≠ [] → Does (.mediaMount t m info) t s fun a b => Engine.changesOnly [.recorder, .ep] a b ∧
      (∀ k : Fin 4, k ≠ m → b.mport k = a.mport k) ∧ (b.mport m).state = .recovering ∧ (b.mport m).mounting = some info ∧
      (b.mport m).cmds.map (·.use) =
        ((a.mport m).cmds.map (·.use)).filter (· = .asyncEvent) ++ [.read .recovery, .write .recovery, .flush]) ∧
  (∀ t (m : Fin 4) cid c d info s, s.eng.sys.phase.powered = true → (s.eng.mport m).cmds.find? (·.cid = cid) = some c →
    c.use = .flush → (s.eng.mport m).mounting = some info → (s.eng.mport m).drive = some d → s.eng.rec_.takes = [] →
    Does (.mediaCmdComplete t m cid 0) t s fun a b => Engine.changesOnly [.recorder, .ep, .ctl, .counters, .log] a b ∧
      (b.mport m).state = .mounted ∧ (b.mport m).mounting = none ∧ (b.mport m).free = info.free ∧
      (b.mport m).folders = info.folders ∧ (b.mport m).qual = info.qual.bind (qualRate d) ∧
      Engine.newEvents a b = info.open_.map (fun o => (0x0200, .clipRecovered, le 4 (openLast s.ks o).2)) ++
        [(0x0210 + m.val, .mediaMount, [])]) ∧
  (∀ t (m : Fin 4) d info s, s.eng.sys.phase = .running → (s.eng.mport m).drive = some d → (s.eng.mport m).state = .linking →
    s.eng.sys.mode ≠ .offload → s.eng.unitHeld (0x0500 + m.val) (13 + m.val) = false →
    (mountVolume info).all (fun v => !volumeOk v) = true →
    Does (.mediaMount t m info) t s fun a b => Engine.changesOnly [.recorder, .ep] a b ∧
      b.rec_ = { a.rec_ with ports := vmod a.rec_.ports m fun q => { q with
        cmds := q.cmds.filter fun c => c.use = .asyncEvent
        state := .foreign } }) ∧
  (∀ t (m : Fin 4) s, s.eng.sys.phase.powered = true → (s.eng.mport m).state ≠ .empty → s.eng.driveIdle m →
    Does (.mediaRemove t m) t s fun a b => Engine.changesOnly [.recorder, .pins, .ep, .counters, .log] a b ∧
      b.mport m = MediaPort.reset ∧ vget b.pins.pwren m true = false ∧ vget b.pins.perstN m true = false ∧
      (∀ k : Fin 4, k ≠ m → b.mport k = a.mport k) ∧ Engine.counted .mediaRemoved (0x0210 + m.val) a b ∧
      Engine.newEvents a b = [(0x0210 + m.val, .mediaRemoved, [])]) ∧
  (∀ t (m : Fin 4) i s, s.eng.sys.phase = .running → (s.eng.mport m).state ≠ .empty → (s.eng.mport m).state ≠ .failed →
    s.eng.driveIdle m → i = Instr.mediaLinkDownTimeout t m ∨ (i = .mediaResetTimeout t m ∧ (s.eng.mport m).resetting = true) →
    Does i t s fun a b => Engine.changesOnly [.recorder, .ep, .counters, .log] a b ∧ (b.mport m).state = .failed ∧
      (b.mport m).cmds = [] ∧ (b.mport m).resetting = false ∧ (b.mport m).volume = none ∧
      (∀ k : Fin 4, k ≠ m → b.mport k = a.mport k) ∧
      Engine.counted .mediaFail (0x0210 + m.val) a b ∧ Engine.newEvents a b = [(0x0210 + m.val, .mediaFailed, [])]) ∧
  (∀ t (m : Fin 4) w s, s.eng.sys.phase = .running → (s.eng.mport m).state ≠ .empty → (s.eng.mport m).state ≠ .failed →
    s.eng.driveIdle m → w ≠ 0 → (s.eng.mport m).healthWarn = false →
    Does (.mediaHealthPoll t m w) t s fun a b => Engine.changesOnly [.recorder, .ep, .counters, .log] a b ∧
      (b.mport m).healthWarn = true ∧ (w.testBit 3 = true → (b.mport m).state = .failed ∧
        Engine.newEvents a b = [(0x0210 + m.val, .mediaHealth, []), (0x0210 + m.val, .mediaFailed, [])]) ∧
      (w.testBit 3 = false → (b.mport m).state = (a.mport m).state ∧
        Engine.newEvents a b = [(0x0210 + m.val, .mediaHealth, [])]))

/-- R247, R249, R260 and R268. -/
def Obligations.DriveCommandsRetried : Prop :=
  (∀ t (m : Fin 4) cid c id s, s.eng.sys.phase.powered = true → (s.eng.mport m).cmds.find? (·.cid = cid) = some c →
    c.use = .header id → s.eng.rec_.takes = [] →
    Does (.mediaCmdComplete t m cid 0) t s fun a b => Engine.changesOnly [.recorder] a b ∧
      b.rec_ = { a.rec_ with
        ports := vmod a.rec_.ports m fun q => { q with resetting := false, cmds := q.cmds.filter (·.cid ≠ cid) }
        chunks := a.rec_.chunks.map fun x => if x.id = id then { x with
          written := true
          durable := !(((a.mport m).drive.map (·.vwc)).getD true) } else x }) ∧
  (∀ t (m : Fin 4) cid c id k s, s.eng.sys.phase.powered = true → (s.eng.mport m).cmds.find? (·.cid = cid) = some c →
    c.use = .body id k → s.eng.rec_.takes = [] →
    Does (.mediaCmdComplete t m cid 0) t s fun a b => Engine.changesOnly [.recorder] a b ∧
      b.rec_ = { a.rec_ with
        ports := vmod a.rec_.ports m fun q => { q with resetting := false, cmds := q.cmds.filter (·.cid ≠ cid) }
        chunks := a.rec_.chunks.map fun x => if x.id = id then { x with got := x.got + 1 } else x }) ∧
  (∀ t (m : Fin 4) cid c st s, s.eng.sys.phase.powered = true → (s.eng.mport m).cmds.find? (·.cid = cid) = some c →
    c.retried = false → st ≠ 0 → Does (.mediaCmdComplete t m cid st) t s fun a b =>
      Engine.changesOnly [.recorder, .counters, .log] a b ∧
      b.rec_ = { a.rec_ with ports := vmod a.rec_.ports m fun q => { q with
        resetting := false
        cmds := q.cmds.map fun x => if x.cid = cid then { x with retried := true, aborted := false } else x } } ∧
      Engine.counted .mediaIoErr (0x0210 + m.val) a b ∧ Engine.newEvents a b = [(0x0210 + m.val, .mediaIoErr, [])]) ∧
  (∀ t (m : Fin 4) cid c st s, s.eng.sys.phase.powered = true → (s.eng.mport m).cmds.find? (·.cid = cid) = some c →
    c.retried = true → st ≠ 0 → (∀ q k, c.use ≠ .host q k) → (s.eng.mport m).state ≠ .empty → (s.eng.mport m).state ≠ .failed →
    s.eng.driveIdle m → Does (.mediaCmdComplete t m cid st) t s fun a b =>
      Engine.changesOnly [.recorder, .ep, .counters, .log] a b ∧ (b.mport m).state = .failed ∧ (b.mport m).cmds = [] ∧
      Engine.counted .mediaFail (0x0210 + m.val) a b ∧
      Engine.newEvents a b = [(0x0210 + m.val, .mediaIoErr, []), (0x0210 + m.val, .mediaFailed, [])]) ∧
  (∀ t (m : Fin 4) cid s, s.eng.sys.phase = .running →
    (∃ c ∈ (s.eng.mport m).cmds, c.cid = cid ∧ c.aborted = false ∧ c.use ≠ .asyncEvent) →
    Does (.mediaCmdTimeout t m cid) t s fun a b => Engine.changesOnly [.recorder, .counters, .log] a b ∧
      b.rec_ = { a.rec_ with ports := vmod a.rec_.ports m fun q => { q with
        cmds := q.cmds.map (fun x => if x.cid = cid then { x with aborted := true } else x) ++
          [⟨q.nextCid, .abort cid, 0, false, false, []⟩]
        nextCid := q.nextCid + 1 } } ∧
      Engine.counted .mediaTimeout (0x0210 + m.val) a b ∧ Engine.newEvents a b = [(0x0210 + m.val, .mediaTimeout, [])]) ∧
  (∀ t (m : Fin 4) cid s, s.eng.sys.phase = .running → (∀ c ∈ (s.eng.mport m).cmds, c.cid = cid → c.use = .asyncEvent) →
    Does (.mediaCmdTimeout t m cid) t s fun a b => Engine.changesOnly [] a b) ∧
  (∀ t (m : Fin 4) cid s, s.eng.sys.phase = .running → (∃ c ∈ (s.eng.mport m).cmds, c.cid = cid ∧ c.aborted = true) →
    s.eng.inClip m = false → (s.eng.mport m).resetAt = none →
    Does (.mediaAbortTimeout t m cid) t s fun a b => Engine.changesOnly [.recorder, .counters, .log] a b ∧
      (∀ k : Fin 4, k ≠ m → b.mport k = a.mport k) ∧ (b.mport m).resetting = true ∧ (b.mport m).resetAt = some a.now ∧
      (b.mport m).resetInClip = false ∧ (∀ x ∈ (b.mport m).cmds, x.aborted = false ∧ ∀ k, x.use ≠ .abort k) ∧
      (∀ x ∈ (a.mport m).cmds, (∀ k, x.use ≠ .abort k) → (∀ n p k, x.use ≠ .queue n p k) →
        { x with aborted := false } ∈ (b.mport m).cmds) ∧
      (∀ k < (a.mport m).queues, ∀ n p, .queue n p (k + 1) ∈ (b.mport m).cmds.map (·.use)) ∧
      Engine.counted .mediaReset (0x0210 + m.val) a b ∧ Engine.newEvents a b = [(0x0210 + m.val, .mediaReset, [])])

/-- R212, R251, R252, R253 and R257; a drive whose namespace still drains gets its commands after that (R287). -/
def Obligations.MediaRequestsServed : Prop :=
  (∀ t h reel s, s.takes t h 0x0303 → 1 ≤ reel → reel ≤ 999 → Does (.setReel t h reel) t s fun a b =>
    b.replied h 0x0303 .ok .none [] ∧ Engine.changesOnly [.recorder, .ctl, .ep, .counters] a b ∧
    b.rec_ = { a.rec_ with reel := reel }) ∧
  (∀ t h clip start f vols s, s.takes t h 0x0304 → clip.length = 16 → (clip.drop 13).all (· = 0) = true →
    s.eng.sys.mode = .review → s.eng.rec_.play = none → parseClip clip = some f →
    (∃ m : Fin 4, ((s.eng.readVolumes vols).mport m).state = .mounted ∧ f ∈ ((s.eng.readVolumes vols).mport m).folders) →
    Does (.play t h ⟨clip, vols⟩ start false 0) t s fun a b => b.replied h 0x0304 .ok .none [] ∧
      Engine.changesOnly [.recorder, .ctl, .ep, .counters] a b ∧
      ∃ p, b.rec_.play = some p ∧ p.startCfn = start ∧ p.proxy = false ∧ p.ports ≠ [] ∧
        ∀ m : Fin 4, b.mport m = if m.val ∈ p.ports then
            (((a.readVolumes vols).modMedia m fun q => { q with state := .playing }).ownCmds m [.read .playback]).mport m
          else (a.readVolumes vols).mport m) ∧
  (∀ t h p s, s.takes t h 0x0305 → s.eng.sys.mode = .review → s.eng.rec_.play = some p → p.proxy = false →
    Does (.playStop t h) t s fun a b => b.replied h 0x0305 .ok .none [] ∧
      Engine.changesOnly [.recorder, .aud, .ctl, .ep, .counters] a b ∧ b.rec_.play = none ∧ b.aud = { a.aud with play := [] } ∧
      ∀ m : Fin 4, b.mport m = if m.val ∈ p.ports then { a.mport m with
          cmds := (a.mport m).cmds.filter fun c => !CmdUse.of .playback c.use
          state := if (a.mport m).state = .playing then .mounted else (a.mport m).state }
        else a.mport m) ∧
  (∀ t h (m : Fin 4) s, s.takes t h 0x0306 → s.eng.mediaRefusal m = none → Does (.mediaFormat t h m) t s fun a b =>
    b.replied h 0x0306 .ok .none [] ∧ Engine.changesOnly [.recorder, .ctl, .ep, .counters] a b ∧
    b.rec_ = ((a.modMedia m fun q => { q with
      state := .formatting
      qual := none
      qualBin := none
      volume := none }).ownCmds m [.deallocate .format, .write .format]).rec_) ∧
  (∀ t h (m : Fin 4) st rs s, s.takes t h 0x0306 → s.eng.mediaRefusal m = some (st, rs) → Does (.mediaFormat t h m) t s fun a b =>
    b.replied h 0x0306 st rs [] ∧ Engine.changesOnly [.ctl, .ep, .counters] a b) ∧
  (∀ t (m : Fin 4) d s, s.eng.sys.phase = .running → (s.eng.mport m).state = .formatting → (s.eng.mport m).drive = some d →
    Does (.mediaFormatDone t m) t s fun a b => Engine.changesOnly [.recorder, .ep] a b ∧
      b.rec_ = { a.rec_ with ports := vmod a.rec_.ports m fun q => { q with
        cmds := q.cmds.filter fun c => !CmdUse.of .format c.use
        state := .mounted
        volume := some (a.newVolume d)
        free := (a.newVolume d).fresh
        folders := []
        files := [] } }) ∧
  (∀ t h (m : Fin 4) s, s.takes t h 0x0307 → s.eng.mediaRefusal m = none → (s.eng.mport m).state = .mounted →
    68719476736 ≤ (s.eng.mport m).free → Does (.mediaQualify t h m) t s fun a b =>
      Engine.changesOnly [.recorder, .ctl, .ep] a b ∧ b.ctl.sent = a.ctl.sent ∧
      b.rec_ = ((a.modMedia m fun q => { q with
        state := .qualifying
        qualifier := some (h.client, h.seq)
        qualTmp := some (min (q.free - 1073741824) 549755813888) }).ownCmds m [.write .qualify, .read .qualify]).rec_) ∧
  (∀ t (m : Fin 4) d rates c sq s, s.eng.sys.phase = .running → (s.eng.mport m).state = .qualifying →
    (s.eng.mport m).drive = some d →
    (s.eng.mport m).qualifier = some (c, sq) → 11 ≤ rates.length → Does (.mediaQualified t m rates) t s fun a b =>
      b.replied ⟨c, sq⟩ 0x0307 .ok .none [] ∧ Engine.changesOnly [.recorder, .ctl, .ep, .counters, .log] a b ∧
      ∃ q, q ∈ (rates.drop 10).take 20 ∧ (∀ r ∈ (rates.drop 10).take 20, q ≤ r) ∧
        b.rec_ = { a.rec_ with ports := vmod a.rec_.ports m fun p => { p with
          cmds := p.cmds.filter fun c => !CmdUse.of .qualify c.use
          state := .mounted
          qual := some q
          qualBin := some (qualBin d q (100 * a.cfg.qualRead) (dtbSec a.dtb))
          qualTmp := none
          qualifier := none } } ∧
        Engine.newEvents a b = [(0x0210 + m.val, .mediaQualified, le 4 q)])

/-- R260, R268 and R272. -/
def Obligations.RecordedChunksAndClosings : Prop :=
  (∀ t (m : Fin 4) k pos s, s.eng.sys.phase = .running → s.eng.rec_.flushStop = false → s.eng.rec_.takes = [k] →
    k.drives = [⟨pos, m, false⟩] → Does (.recFlushTick t) t s fun a b => Engine.changesOnly [.recorder] a b ∧
      b.rec_ = { a.rec_ with ports := vmod a.rec_.ports m fun q => { q with
        cmds := q.cmds ++ [⟨q.nextCid, .flush, 1 + q.nextCid % max 1 q.queues, false, false,
          (a.rec_.chunks.filter fun x => x.port = m.val && x.written && !x.durable).map (·.id)⟩]
        nextCid := q.nextCid + 1 } }) ∧
  (∀ t (m : Fin 4) id s, s.eng.sys.phase = .running → s.eng.rec_.takes = [] →
    (∃ x ∈ s.eng.rec_.chunks, x.id = id ∧ x.port = m.val ∧ x.written = true) →
    Does (.chunkDurable t m id) t s fun a b => Engine.changesOnly [.recorder] a b ∧
      b.rec_ = { a.rec_ with chunks := a.rec_.chunks.map fun x =>
        if x.id = id ∧ x.written = true then { x with durable := true } else x }) ∧
  (∀ t k c s, s.eng.sys.phase = .running → s.eng.rec_.takes = [k] → s.eng.recClosed k = true → k.clips = [c] →
    Does (.clipClosed t) t s fun a b => Engine.changesOnly [.recorder, .ctl, .ep, .counters, .log] a b ∧
      b.rec_.takes = [] ∧ Engine.counted .recClips 0x0200 a b ∧ Engine.newEvents a b = [(0x0200, .clipClosed, [])] ∧
      ∀ m : Fin 4, (∃ d ∈ k.drives, d.port = m.val) → (a.mport m).state = .recording → a.sys.pend = [] →
        (b.mport m).state = .mounted)

/-- R56, R278, R281, R282, R289 (fetching) and R294. -/
def Obligations.EndpointLinkAndQueues : Prop :=
  (∀ t s, s.eng.sys.phase = .running → s.eng.has 0x0052 = true → s.eng.ep.link = .down → Does (.epPerstRelease t) t s fun a b =>
    Engine.changesOnly [.ep] a b ∧ b.ep = { a.ep with perst := false, link := .training }) ∧
  (∀ t asqs acqs s, s.eng.sys.phase = .running → s.eng.ep.link = .up → s.eng.ep.ccEn = false → 2 ≤ asqs → asqs ≤ 4096 → 2 ≤ acqs →
    acqs ≤ 4096 → Does (.epControllerEnable t asqs acqs) t s fun a b => Engine.changesOnly [.ep] a b ∧
      b.ep = { a.ep with
        ccEn := true
        ready := true
        sqs := [⟨0, asqs, 0, 0, 0⟩]
        cqs := [⟨0, acqs, 0, true, 0, 0, []⟩] }) ∧
  (∀ t i s, s.eng.sys.phase = .running → (i = Instr.epFlr t ∧ s.eng.ep.link = .up) ∨
    (i = Instr.epControllerReset t false ∧ s.eng.ep.ccEn = true) → Does i t s fun a b =>
      Engine.changesOnly [.ep, .counters, .log] a b ∧ b.ep.ccEn = false ∧ b.ep.ready = false ∧ b.ep.sqs = [] ∧ b.ep.cqs = [] ∧
      b.ep.cmds = [] ∧ b.ep.fetched = [] ∧ b.ep.feats = [] ∧ b.ep.dirty = a.ep.dirty ∧ b.ep.ns5 = a.ep.ns5 ∧
      b.ep.link = a.ep.link ∧ (i = .epFlr t → b.ep.regs = [] ∧ b.ep.msix = Vector.replicate 65 MsixVector.reset) ∧
      Engine.counted .epCtrlReset 0x0240 a b ∧ Engine.newEvents a b = [(0x0240, .epCtrlReset, [])]) ∧
  (∀ t s, s.eng.sys.phase = .running → s.eng.has 0x0052 = true → s.eng.ep.link = .up → Does (.epControllerReset t true) t s fun a b =>
    Engine.changesOnly [.ep, .lanes, .counters, .log] a b ∧ b.ep.perst = true ∧ b.ep.link = .down ∧ b.ep.gen = 0 ∧ b.ep.width = 0 ∧
    b.ep.sqs = [] ∧ b.ep.cmds = [] ∧ b.ep.dirty = a.ep.dirty ∧ b.ep.ns5 = a.ep.ns5 ∧
    (∀ l : Fin 62, b.lane l = if 32 ≤ l.val ∧ l.val < 36 ∧ (a.lane l).loopback = 4 then { a.lane l with loopback := 0 } else a.lane l) ∧
    Engine.newEvents a b = [(0x0240, .epCtrlReset, []), (0x0240, .epLinkDown, [])]) ∧
  (∀ t off v s, s.eng.sys.phase = .running → s.eng.ep.link = .up → off < 0x2000 ∨ 0x2410 ≤ off →
    Does (.epRegisterWrite t off v) t s fun a b =>
      Engine.changesOnly [.ep] a b ∧ b.ep = { a.ep with regs := putKey off v a.ep.regs }) ∧
  (∀ t (k : Fin 65) j v s, s.eng.sys.phase = .running → s.eng.ep.link = .up → j < 3 →
    Does (.epRegisterWrite t (0x2000 + 16 * k.val + 4 * j) v) t s fun a b => Engine.changesOnly [.ep] a b ∧
      b.ep = { a.ep with msix := vmod a.ep.msix k fun x =>
        if j = 0 then { x with addr := x.addr / 2 ^ 32 * 2 ^ 32 + v % 2 ^ 32 }
        else if j = 1 then { x with addr := x.addr % 2 ^ 32 + v % 2 ^ 32 * 2 ^ 32 }
        else { x with data := v % 2 ^ 32 } }) ∧
  (∀ t (k : Fin 65) v s, s.eng.sys.phase = .running → s.eng.ep.link = .up →
    Does (.epRegisterWrite t (0x2000 + 16 * k.val + 12) v) t s fun a b => Engine.changesOnly [.ep] a b ∧
      let x := vget a.ep.msix k MsixVector.reset
      b.ep = { a.ep with
        msix := vmod a.ep.msix k fun x => { x with masked := v.testBit 0, pending := x.pending && v.testBit 0 }
        msgs := if x.pending && !v.testBit 0 then (x.addr, x.data) :: a.ep.msgs else a.ep.msgs }) ∧
  (∀ t s, s.eng.sys.phase = .running → s.eng.ep.link = .up → Does (.epLoopbackEnter t) t s fun a b =>
    Engine.changesOnly [.ep, .lanes] a b ∧ b.ep = { a.ep with link := .loopback } ∧
    ∀ l : Fin 62, b.lane l = if 32 ≤ l.val ∧ l.val < 36 ∧ 0 < a.cf 0x0003 l 27 24 then { a.lane l with loopback := 4 } else a.lane l) ∧
  (∀ t q tail cids sq s, s.eng.sys.phase = .running → s.eng.ep.sqs.find? (·.qid = q) = some sq → tail < sq.size →
    s.eng.ep.ccEn = true → s.eng.ep.stopped = false → Does (.nvmeSqDoorbell t q tail cids) t s fun a b =>
      Engine.changesOnly [.ep] a b ∧ b.ep = { a.ep with
        fetched := a.ep.fetched ++ (cids.take ((tail + sq.size - sq.tail) % sq.size)).mapIdx fun i c =>
          ⟨q, c, ⟨a.dtb, if q = 0 then 0x0240 else 0x0260 + q - 1, sq.fetched + i⟩, [1, 2, 3, 4].map a.nsAccess⟩
        sqs := a.ep.sqs.map fun x => if x.qid = q then { x with
          fetched := x.fetched + (cids.take ((tail + sq.size - sq.tail) % sq.size)).length
          tail := tail } else x }) ∧
  (∀ t q hd c s, s.eng.sys.phase = .running → (s.eng.at t).ep.cqs.find? (·.qid = q) = some c → hd < c.size → c.waiting = [] →
    Does (.nvmeCqDoorbell t q hd) t s fun a b => Engine.changesOnly [.ep] a b ∧
      b.ep = { a.ep with cqs := a.ep.cqs.map fun y => if y.qid = q then { c with head := hd } else y }) ∧
  (∀ t i q v s, s.eng.sys.phase = .running → s.eng.ep.ccEn = true →
    (i = Instr.nvmeCqDoorbell t q v ∧ s.eng.ep.cqs.all (·.qid ≠ q) = true) ∨
      (∃ cids, i = Instr.nvmeSqDoorbell t q v cids ∧ s.eng.ep.sqs.all (·.qid ≠ q) = true) →
    Does i t s fun a b => Engine.changesOnly [.ep] a b ∧ b.ep = (a.epEvent 0 0 1).ep)

/-- R282, R284, R288, R294, R299 and R300. -/
def Obligations.AdminCommandsComplete : Prop :=
  (∀ t cid x s, s.eng.sys.phase = .running → (s.eng.at t).fetchedFor 0 cid x → Does (.nvmeIdentify t cid 1 0) t s fun a b =>
    Engine.changesOnly [.ep] a b ∧ b.completed 0 cid 0 0 false 0 a.identifyCtrl) ∧
  (∀ t cid ns x s, s.eng.sys.phase = .running → (s.eng.at t).fetchedFor 0 cid x → 1 ≤ ns → ns ≤ 5 →
    Does (.nvmeIdentify t cid 0 ns) t s fun a b => Engine.changesOnly [.ep] a b ∧
      b.completed 0 cid 0 0 false 0 (a.identifyNs ns)) ∧
  (∀ t cid qid size v ien x s, s.eng.sys.phase = .running → (s.eng.at t).fetchedFor 0 cid x → 1 ≤ qid → qid ≤ 64 → 2 ≤ size → size ≤ 1024 →
    v ≤ 64 → s.eng.ep.cqs.any (·.qid = qid) = false → Does (.nvmeCreateIoCq t cid qid size v ⟨true, ien⟩) t s fun a b =>
      Engine.changesOnly [.ep] a b ∧ b.completed 0 cid 0 0 false 0 [] ∧ (⟨qid, size, v, ien, 0, 0, []⟩ : EpCq) ∈ b.ep.cqs ∧
      b.ep.sqs = a.ep.sqs) ∧
  (∀ t cid qid size cq x s, s.eng.sys.phase = .running → (s.eng.at t).fetchedFor 0 cid x → 1 ≤ qid → qid ≤ 64 → 2 ≤ size → size ≤ 1024 →
    cq ≠ 0 → s.eng.ep.cqs.any (·.qid = cq) = true → s.eng.ep.sqs.any (·.qid = qid) = false →
    Does (.nvmeCreateIoSq t cid qid size cq true) t s fun a b => Engine.changesOnly [.ep] a b ∧
      b.completed 0 cid 0 0 false 0 [] ∧ b.ep.sqs = a.ep.sqs ++ [⟨qid, size, cq, 0, 0⟩]) ∧
  (∀ t cid qid x s, s.eng.sys.phase = .running → (s.eng.at t).fetchedFor 0 cid x → qid ≠ 0 → s.eng.ep.sqs.any (·.qid = qid) = true →
    s.eng.ep.cmds = [] → (∀ y ∈ s.eng.ep.fetched, y.q ≠ qid) → Does (.nvmeDeleteIoSq t cid qid) t s fun a b =>
      Engine.changesOnly [.ep, .recorder] a b ∧ a.drainsIssued b ∧ b.completed 0 cid 0 0 false 0 [] ∧ b.ep.sqs = a.ep.sqs.filter (·.qid ≠ qid)) ∧
  (∀ t cid qid x s, s.eng.sys.phase = .running → (s.eng.at t).fetchedFor 0 cid x → qid ≠ 0 → s.eng.ep.sqs.any (·.qid = qid) = true →
    s.eng.ep.sqs.any (·.cq = qid) = false → Does (.nvmeDeleteIoCq t cid qid) t s fun a b =>
      Engine.changesOnly [.ep] a b ∧ b.completed 0 cid 0 0 false 0 [] ∧ ∀ c ∈ b.ep.cqs, c.qid ≠ qid) ∧
  (∀ t cid fid v x s, s.eng.sys.phase = .running → (s.eng.at t).fetchedFor 0 cid x → fid = 0x01 ∨ fid = 0x08 ∨ fid = 0x0B →
    Does (.nvmeSetFeatures t cid fid 0 v) t s fun a b => Engine.changesOnly [.ep] a b ∧ b.completed 0 cid 0 0 false 0 [] ∧
      b.ep.feature fid 0 = v) ∧
  (∀ t cid fid x s, s.eng.sys.phase = .running → (s.eng.at t).fetchedFor 0 cid x → fid ∈ epFeatures → fid ≠ 0x0E →
    Does (.nvmeGetFeatures t cid fid 0) t s fun a b => Engine.changesOnly [.ep] a b ∧
      b.completed 0 cid 0 0 false (a.ep.feature fid 0) []) ∧
  (∀ t cid ns len x s, s.eng.sys.phase = .running → (s.eng.at t).fetchedFor 0 cid x → Does (.nvmeGetLogPage t cid 4 ns false len) t s fun a b =>
    Engine.changesOnly [.ep] a b ∧ b.ep.changed = [] ∧
    b.completed 0 cid 0 0 false 0 (padTo len (padTo 4096 (a.ep.changed.flatMap (le 4 ·))))) ∧
  (∀ t cid ns rae len x s, s.eng.sys.phase = .running → (s.eng.at t).fetchedFor 0 cid x → Does (.nvmeGetLogPage t cid 5 ns rae len) t s fun a b =>
    Engine.changesOnly [.ep] a b ∧ b.completed 0 cid 0 0 false 0 (padTo len effectsLog)) ∧
  (∀ t cid k x s, s.eng.sys.phase = .running → (s.eng.at t).fetchedFor 0 cid x → k ≠ cid → (∃ y ∈ s.eng.ep.fetched, y.q = 0 ∧ y.cid = k) →
    Does (.nvmeAbort t cid 0 k) t s fun a b => Engine.changesOnly [.ep] a b ∧ ∀ y ∈ b.ep.fetched, ¬ (y.q = 0 ∧ y.cid = k)) ∧
  (∀ t cid k x s, s.eng.sys.phase = .running → (s.eng.at t).fetchedFor 0 cid x → s.eng.ep.fetched = [x] → k ≠ cid → s.eng.ep.cmds = [] →
    s.eng.ep.ctrls = [] → Does (.nvmeAbort t cid 0 k) t s fun a b => Engine.changesOnly [.ep] a b ∧ b.completed 0 cid 0 0 false 1 []) ∧
  (∀ t cid x s, s.eng.sys.phase = .running → (s.eng.at t).fetchedFor 0 cid x → (s.eng.at t).ep.events = [] → (s.eng.at t).ep.aers.length < 4 →
    Does (.nvmeAsyncEventRequest t cid) t s fun a b => Engine.changesOnly [.ep] a b ∧
      b.ep = { a.ep with fetched := a.ep.fetched.erase x, aers := a.ep.aers ++ [cid] }) ∧
  (∀ t cid ty info page r x s, s.eng.sys.phase = .running → (s.eng.at t).fetchedFor 0 cid x → (s.eng.at t).ep.events = (ty, info, page) :: r →
    Does (.nvmeAsyncEventRequest t cid) t s fun a b => Engine.changesOnly [.ep] a b ∧ b.ep.events = r ∧
      b.completed 0 cid 0 0 false (ty + 256 * info + 65536 * page) []) ∧
  (∀ t cid n m x s, s.eng.sys.phase = .running → (s.eng.at t).fetchedFor 0 cid x → s.eng.ctrlEn = true → 0 < n → n ≤ m → m ≤ 65535 →
    Does (.nvmeControl t cid n m) t s fun a b => Engine.changesOnly [.ep] a b ∧
      b.ep = { a.ep with fetched := a.ep.fetched.erase x, ctrls := a.ep.ctrls ++ [⟨cid, n, m, none⟩] }) ∧
  (∀ t q cid op x s, s.eng.sys.phase = .running → (s.eng.at t).fetchedFor q cid x → Does (.nvmeInvalidOpcode t q cid op) t s fun a b =>
    Engine.changesOnly [.ep] a b ∧ b.completed q cid 0 1 true 0 [])

/-- R286, R289, R290 and R293. -/
def Obligations.NamespaceCommandsComplete : Prop :=
  (∀ t q cid ns slba nlb drive x d s, s.eng.sys.phase = .running → (s.eng.at t).fetchedFor q cid x → 1 ≤ ns → ns ≤ 4 →
    s.eng.cmdAccess x ns ≠ .notReady → (s.eng.mport (ns - 1)).drive = some d → slba + nlb + 1 ≤ d.blocks →
    (nlb + 1) * 2 ^ d.lbaLog2 ≤ 1048576 → s.eng.ep.cmds = [] → s.eng.ep.dirty = [] →
    (s.eng.mport (ns - 1)).state ≠ .recording ∨ vget s.eng.ep.readUntil (ns - 1) 0 ≤ (s.eng.at t).now →
    Does (.nvmeRead t q cid ns slba nlb drive 0) t s fun a b => Engine.changesOnly [.ep, .recorder] a b ∧ a.drainsIssued b ∧
      b.completed q cid 0 0 false 0 (padTo ((nlb + 1) * 2 ^ d.lbaLog2) drive) ∧ b.ep.cmds = []) ∧
  (∀ t q cid ns slba nlb drive st x d s, s.eng.sys.phase = .running → (s.eng.at t).fetchedFor q cid x → 1 ≤ ns → ns ≤ 4 →
    s.eng.cmdAccess x ns = .readWrite → (s.eng.mport (ns - 1)).drive = some d → slba + nlb + 1 ≤ d.blocks →
    (nlb + 1) * 2 ^ d.lbaLog2 ≤ 1048576 → s.eng.driveIdle (ns - 1) → (s.eng.mport (ns - 1)).state = .mounted → st ≠ 0 →
    Does (.nvmeRead t q cid ns slba nlb drive st) t s fun a b => Engine.changesOnly [.ep, .recorder, .counters, .log] a b ∧
      (⟨q, cid, st / 256 % 8, st % 256, st.testBit 15, 0, []⟩ : Completion) ∈ b.ep.done ∧ (b.mport (ns - 1)).state = .failed) ∧
  (∀ t q cid slba nlb drive st x s, s.eng.sys.phase = .running → (s.eng.at t).fetchedFor q cid x → s.eng.cb 0x0052 3 31 = true →
    slba + nlb + 1 ≤ 262144 → nlb < 256 → s.eng.ep.cmds = [] →
    Does (.nvmeRead t q cid 5 slba nlb drive st) t s fun a b => Engine.changesOnly [.ep, .recorder, .counters] a b ∧
      a.drainsIssued b ∧ b.ep.cmds = [] ∧
      b.completed q cid 0 0 false 0
        ((List.range ((nlb + 1) * 4096)).map fun i => ns5Byte a.ep.ns5 a.deviceId (slba * 4096 + i))) ∧
  (∀ t q cid slba nlb x s, s.eng.sys.phase = .running → (s.eng.at t).fetchedFor q cid x → s.eng.cb 0x0052 3 31 = true →
    slba + nlb + 1 ≤ 262144 → nlb < 256 → s.eng.ep.cmds = [] →
    Does (.nvmeWrite t q cid 5 slba nlb) t s fun a b => Engine.changesOnly [.ep, .recorder] a b ∧ a.drainsIssued b ∧ b.ep.ns5 = a.ep.ns5 ∧
      b.ep.done = a.ep.done ∧ ∃ c, b.ep.cmds = [c] ∧ c.q = x.q ∧ c.cid = x.cid ∧ c.op = .write ∧ c.ns = 5 ∧ c.started = true ∧
        c.ranges = [(slba * 4096, (nlb + 1) * 4096)] ∧ ∀ p ∈ c.pieces, p.committed = false ∧ p.data = none) ∧
  (∀ t q cid x s, s.eng.sys.phase = .running → (s.eng.at t).fetchedFor q cid x → Does (.nvmeFlush t q cid 0xFFFFFFFF) t s fun a b =>
    Engine.changesOnly [.ep] a b ∧ b.completed q cid 0 0 false 0 [] ∧ b.ep.dirty = a.ep.dirty) ∧
  (∀ t q cid slba nlb x s, s.eng.sys.phase = .running → (s.eng.at t).fetchedFor q cid x → s.eng.cb 0x0052 3 31 = true →
    slba + nlb + 1 ≤ 262144 → s.eng.ep.cmds = [] → Does (.nvmeWriteZeroes t q cid 5 slba nlb) t s fun a b =>
      Engine.changesOnly [.ep, .recorder] a b ∧ a.drainsIssued b ∧ b.completed q cid 0 0 false 0 [] ∧ b.ep.cmds = [] ∧
      b.ep.ns5 = ns5Put a.ep.ns5 (slba * 4096) (List.replicate ((nlb + 1) * 4096) 0)) ∧
  (∀ t q cid (ns : Fin 4) ranges slba nlb i x d s, s.eng.sys.phase = .running → (s.eng.at t).fetchedFor q cid x →
    s.eng.cmdAccess x (ns + 1) = .readWrite → (s.eng.mport ns).drive = some d → (∀ r ∈ ranges, r.1 + r.2 ≤ d.blocks) →
    s.eng.ep.cmds = [] → s.eng.ep.dirty = [] → (∀ k : Fin 4, (s.eng.mport k).owed = []) →
    i = Instr.nvmeDatasetManagement t q cid (ns + 1) ranges true ∨
      (i = .nvmeWriteZeroes t q cid (ns + 1) slba nlb ∧ ranges = [(slba, nlb + 1)]) → Does i t s fun a b =>
      Engine.changesOnly [.ep, .recorder] a b ∧ b.ep.done = a.ep.done ∧
      (∃ c, b.ep.cmds = [c] ∧ c.q = q ∧ c.cid = cid ∧ c.ns = ns + 1 ∧ c.started = true ∧ c.passed = true ∧
        c.ranges = ranges.map fun r => (r.1 * 2 ^ d.lbaLog2, r.2 * 2 ^ d.lbaLog2)) ∧
      b.rec_ = { a.rec_ with ports := vmod a.rec_.ports ns fun p => { p with
        cmds := p.cmds ++ [⟨p.nextCid, .host q cid, 1 + p.nextCid % max 1 p.queues, false, false, []⟩]
        nextCid := p.nextCid + 1 } }) ∧
  (∀ t (m : Fin 4) k d c s, s.eng.sys.phase.powered = true → (s.eng.mport m).cmds.find? (·.cid = k) = some d →
    d.use = .host c.q c.cid → s.eng.ep.cmds = [c] → c.passed = true → (s.eng.at t).canPost c.q → s.eng.ep.dirty = [] →
    s.eng.rec_.takes = [] → (∀ j : Fin 4, (s.eng.mport j).owed = []) →
    Does (.mediaCmdComplete t m k 0) t s fun a b => Engine.changesOnly [.ep, .recorder] a b ∧
      b.completed c.q c.cid 0 0 false 0 [] ∧ b.ep.cmds = [] ∧
      b.rec_ = { a.rec_ with ports := vmod a.rec_.ports m fun q => { q with
        resetting := false, cmds := q.cmds.filter (·.cid ≠ k) } }) ∧
  (∀ t q cid ns slba nlb x s, s.eng.sys.phase = .running → (s.eng.at t).fetchedFor q cid x → 1 ≤ ns → ns ≤ 4 →
    s.eng.cmdAccess x ns = .readOnly → Does (.nvmeWrite t q cid ns slba nlb) t s fun a b =>
      Engine.changesOnly [.ep, .counters] a b ∧ b.completed q cid 0 0x20 true 0 [] ∧ Engine.counted .epWpReject 0x0240 a b)

/-- R290, R291 and R298. -/
def Obligations.WriteBufferCommitsAndDrains : Prop :=
  (∀ t c x data s, s.eng.sys.phase = .running → s.eng.ep.cmds = [c] → c.started = true → c.op = .write → c.ns = 5 → c.pieces = [x] →
    x.committed = false → x.data = none → (s.eng.at t).canPost c.q →
    Does (.epPieceCommit t c.q c.cid 0 data) t s fun a b => Engine.changesOnly [.ep, .recorder] a b ∧ a.drainsIssued b ∧
      b.completed c.q c.cid 0 0 false 0 [] ∧ b.ep.cmds = [] ∧ b.ep.ns5 = ns5Put a.ep.ns5 x.addr (padTo x.len data) ∧ b.ep.dirty = a.ep.dirty) ∧
  (∀ t c x data s, s.eng.sys.phase = .running → s.eng.ep.cmds = [c] → c.started = true → c.op = .write → c.ns ≠ 5 → c.pieces = [x] →
    x.committed = false → x.data = none → (s.eng.at t).canPost c.q → (∀ d ∈ s.eng.ep.dirty, d.poison = false) →
    s.eng.epRoom c.ns x.len = true → Does (.epPieceCommit t c.q c.cid 0 data) t s fun a b => Engine.changesOnly [.ep, .recorder] a b ∧
      a.drainsIssued b ∧ b.completed c.q c.cid 0 0 false 0 [] ∧ b.ep.cmds = [] ∧ b.ep.ns5 = a.ep.ns5 ∧
      b.ep.dirty = a.ep.dirty ++ [⟨c.ns, x.addr, padTo x.len data, false⟩]) ∧
  (∀ t c x data s, s.eng.sys.phase = .running → s.eng.ep.cmds = [c] → c.started = true → c.op = .write → c.ns ≠ 5 → c.pieces = [x] →
    x.committed = false → x.data = none → c.waited = false → s.eng.epRoom c.ns x.len = false →
    Does (.epPieceCommit t c.q c.cid 0 data) t s fun a b => Engine.changesOnly [.ep, .counters] a b ∧
      Engine.counted .epBufWait 0x0241 a b ∧ b.ep = { a.ep with cmds := [{ c with
        waited := true
        pieces := [{ x with data := some (padTo x.len data) }] }] }) ∧
  (∀ t (m : Fin 4) d s, s.eng.sys.phase = .running → s.eng.ep.dirty.find? (fun y => y.ns = m.val + 1 && !y.poison) = some d →
    s.eng.ep.cmds = [] → s.eng.rec_.takes = [] → s.eng.ep.stopped = false → s.eng.sys.restartDue = false → Does (.epDrainDone t m) t s fun a b =>
      Engine.changesOnly [.ep, .recorder] a b ∧ b.ep = { a.ep with dirty := a.ep.dirty.erase d } ∧
      (a.modMedia m fun q => { q with cmds := q.cmds.filter (·.use ≠ .drain) }).drainsIssued b) ∧
  (∀ t t0 s, s.eng.sys.phase.powered = true → s.eng.power.t0 = some t0 → t0 + ms 1 ≤ (s.eng.at t).now →
    Does (.epUncommittedDiscard t) t s fun a b =>
    Engine.changesOnly [.ep] a b ∧
    b.ep = { a.ep with cmds := a.ep.cmds.filter fun c => !(c.op = .write && c.pieces.any (!·.committed)) }) ∧
  (∀ t t0 s, s.eng.sys.phase.powered = true → s.eng.ep.stopped = true → s.eng.power.t0 = some t0 →
    t0 + ms 130 ≤ (s.eng.at t).now → Does (.epDrainCutoff t) t s fun a b =>
    Engine.changesOnly [.ep, .recorder, .counters, .log] a b ∧ (∀ m : Fin 4, ∀ c ∈ (b.mport m).cmds, c.use ≠ .drain) ∧
    b.ep.dirty = [] ∧ b.ep.cmds = [] ∧
    (Engine.newEvents a b).getLast? = some (0x0241, .epPowerDrain, le 4 (sumNat a.ep.drained.toList)))

/-- R331, R339 to R353. -/
def Obligations.AudioPortsFollowTheirInputs : Prop :=
  (∀ t s, s.eng.sys.phase = .running → s.eng.has 0x0070 = true → s.eng.aud.running = true → Does (.audioTick t) t s fun a b =>
    Engine.changesOnly [.aud, .counters, .log] a b ∧ b.aud.n = a.aud.n + 1 ∧ b.aud.play = a.aud.play.drop 1 ∧
    ∀ o : Fin 2, a.cfg.aesOut o = true → (a.aout (4 + o.val)).stopped = false →
      (b.aout (4 + o.val)).pos = ((a.aout (4 + o.val)).pos + 1) % 192) ∧
  (∀ t s, s.eng.sys.phase = .running → s.eng.has 0x0070 = true → s.eng.aud.running = false → 0 ≤ (s.eng.at t).dtb →
    Does (.audPllFirstLock t) t s fun a b => Engine.changesOnly [.aud] a b ∧ b.aud.pllLock = true ∧ b.aud.running = true ∧
      a.dtb * a.cfg.audFs ≤ (b.aud.n : Int) * 65536000000000 ∧
      ((b.aud.n : Int) - 1) * 65536000000000 < a.dtb * a.cfg.audFs) ∧
  (∀ t s, s.eng.sys.phase = .running → s.eng.aud.coast = true → s.eng.clk.root = .locked → Does (.audRelock t) t s fun a b =>
    Engine.changesOnly [.aud, .log] a b ∧ b.aud = { a.aud with pllLock := true, coast := false } ∧
    Engine.newEvents a b = [(0x02C0, .audRelock, [])]) ∧
  (∀ t (i : Fin 2) s, s.eng.sys.phase = .running → s.eng.cfg.aesIn i = true → (s.eng.asrc (4 + i.val)).stopped = false →
    (s.eng.asrc (4 + i.val)).locked = false ∨ (s.eng.asrc (4 + i.val)).lost = true → Does (.audInLock t i) t s fun a b => Engine.changesOnly [.aud, .log] a b ∧
      (b.asrc (4 + i.val)).locked = true ∧ (b.asrc (4 + i.val)).lost = false ∧
      ((a.asrc (4 + i.val)).primed = false → (b.asrc (4 + i.val)).primed = true ∧ (b.asrc (4 + i.val)).fifo.length = 16) ∧
      ((a.asrc (4 + i.val)).primed = true → (b.asrc (4 + i.val)).fifo = (a.asrc (4 + i.val)).fifo) ∧
      Engine.newEvents a b = [(0x02C5 + i.val, .audInLock, [])]) ∧
  (∀ t (i : Fin 2) s, s.eng.sys.phase = .running → (s.eng.asrc (4 + i.val)).locked = true → Does (.audInLoss t i) t s fun a b =>
    Engine.changesOnly [.aud, .log] a b ∧
    b.aud = { a.aud with srcs := vmod a.aud.srcs (4 + i.val) fun q => { q with locked := false } } ∧
    Engine.newEvents a b = [(0x02C5 + i.val, .audInLoss, [])]) ∧
  (∀ t (m : Fin 14) s, s.eng.sys.phase = .running → s.eng.cfg.srcUsed m = true → s.eng.cfg.srcFifo m = true →
    (s.eng.asrc m).lost = false → Does (.audInRate t m) t s fun a b => Engine.changesOnly [.aud, .log] a b ∧
      b.aud = { a.aud with srcs := vmod a.aud.srcs m fun q => { q with lost := true } } ∧
      Engine.newEvents a b = [(audSrcNo m, .audInRate, [])]) ∧
  (∀ t (i : Fin 2) (m : Fin 14) samples s, s.eng.sys.phase = .running → m.val = 4 + i.val → s.eng.cfg.aesIn i = true →
    (s.eng.asrc m).stopped = false → (s.eng.asrc m).locked = true → (s.eng.asrc m).lost = false →
    Does (.audInSample t m samples false) t s fun a b => Engine.changesOnly [.aud, .counters] a b ∧
      ((a.asrc m).fifo.length < 32 → b.counters = a.counters ∧
        b.aud = { a.aud with srcs := vmod a.aud.srcs m fun q => { q with
          fifo := q.fifo ++ [(0, samples.map fun x => (x.1 % 16777216, x.2))] } }) ∧
      (32 ≤ (a.asrc m).fifo.length → b.aud = a.aud ∧ Engine.counted .audInOverrun (0x02C5 + i.val) a b)) ∧
  (∀ t (i : Fin 2) bits z crcc block s, block = bits ++ crcc → s.eng.sys.phase = .running → s.eng.cfg.aesIn i = true → (s.eng.asrc (4 + i.val)).locked = true →
    (s.eng.asrc (4 + i.val)).stopped = false → Does (.aesCsBlock t i bits z crcc) t s fun a b =>
      Engine.changesOnly [.aud, .counters] a b ∧
      (z = true → block.length = 192 → (block.getD 0 false = false ∨ block.drop 184 = aesCrcc block) → b.counters = a.counters ∧
        b.aud = { a.aud with srcs := vmod a.aud.srcs (4 + i.val) fun q => { q with cs := some block } }) ∧
      (z = false ∨ block.length ≠ 192 ∨ (block.getD 0 false = true ∧ block.drop 184 ≠ aesCrcc block) → b.aud = a.aud ∧
        Engine.counted .audCsErr (0x02C5 + i.val) a b)) ∧
  (∀ t (n : Fin 8) (p : Fin 2) ssrc q (ts : Nat) f s, s.eng.sys.phase = .running → s.eng.cfg.stRx n = true →
    (s.eng.cfg.stPaths n).testBit p = true → s.eng.cfg.audSt n 4 31 0 = 0 ∨ s.eng.cfg.audSt n 4 31 0 = ssrc → s.eng.netHeld p = false →
    (s.eng.asrc (6 + n.val)).stopped = false → (s.eng.asrc (6 + n.val)).lost = false → s.eng.aud.running = true →
    (vget s.eng.aud.rx n RtpRx.reset).seen = [] → (s.eng.asrc (6 + n.val)).fifo = [] → (s.eng.asrc (6 + n.val)).readTs ≤ (ts : Int) →
    s.eng.aud.n ≤ ts → ts < s.eng.aud.n + 2147483648 → Does (.audRxPacket t n p ⟨ssrc, q⟩ ts [f]) t s fun a b =>
      Engine.changesOnly [.aud] a b ∧ vget b.aud.rx n RtpRx.reset = ⟨[(q, 2 ^ p.val, a.now)], false⟩ ∧
      b.asrc (6 + n.val) = { a.asrc (6 + n.val) with fifo := [(ts, f.map fun v => (v % 16777216, false))] }) ∧
  (∀ t (n : Fin 8) (p : Fin 2) ssrc q m t0 ts fs s, s.eng.sys.phase = .running → s.eng.cfg.stRx n = true →
    (s.eng.cfg.stPaths n).testBit p = true → s.eng.cfg.audSt n 4 31 0 = 0 ∨ s.eng.cfg.audSt n 4 31 0 = ssrc →
    s.eng.netHeld p = false → (s.eng.asrc (6 + n.val)).stopped = false → s.eng.aud.running = true →
    (vget s.eng.aud.rx n RtpRx.reset).seen = [(q, m, t0)] → (s.eng.at t).now < t0 + us 125 * s.eng.cfg.stPlayout n →
    Does (.audRxPacket t n p ⟨ssrc, q⟩ ts fs) t s fun a b => Engine.changesOnly [.aud] a b ∧ b.aud.srcs = a.aud.srcs ∧
      (vget b.aud.rx n RtpRx.reset).seen = [(q, m ||| 2 ^ p.val, t0)]) ∧
  (∀ t (n : Fin 8) s, s.eng.sys.phase = .running → s.eng.cfg.stTx n = true → (s.eng.aout (6 + n.val)).stopped = false →
    s.eng.cfg.stTicks n ≤ (s.eng.aout (6 + n.val)).buf.length → Does (.audTxPacket t n) t s fun a b =>
      Engine.changesOnly [.aud] a b ∧ b.aud = { a.aud with outs := vmod a.aud.outs (6 + n.val) fun q => { q with
        packet := a.audCopies n q.seq q.bufN (q.buf.take (a.cfg.stTicks n))
        seq := q.seq + 1
        buf := q.buf.drop (a.cfg.stTicks n)
        bufN := q.bufN + a.cfg.stTicks n } })

/-- R369 to R379. -/
def Obligations.TimeStepsAndServoChoice : Prop :=
  (∀ t h sec n f s, s.takes t h 0x0801 → n < 1000000000 → f < 65536 → sec < 2 ^ 64 → s.eng.time.window = true →
    s.eng.time.valid = false → s.eng.time.stepDue = none → Does (.timeSet t h sec n f) t s fun a b =>
      b.replied h 0x0801 .ok .none [] ∧ Engine.changesOnly [.time, .ctl, .ep, .counters] a b ∧
      b.time = { a.time with
        stepDue := some (((sec * 65536000000000 + n * 65536 + f : Nat) : Int) - a.dtb)
        stepUses := true }) ∧
  (∀ t h sec n f s, s.takes t h 0x0801 → n < 1000000000 → f < 65536 → sec < 2 ^ 64 → s.eng.time.window = false →
    Does (.timeSet t h sec n f) t s fun a b => b.replied h 0x0801 .refused .checkFailed [] ∧
      Engine.changesOnly [.ctl, .ep, .counters] a b) ∧
  (∀ t d s, s.eng.sys.phase = .running → s.eng.time.stepDue = some d → s.eng.proj.started = false → s.eng.aud.running = false →
    Does (.dtbStepApply t) t s fun a b => Engine.changesOnly [.time, .counters, .log] a b ∧ b.dtb = a.dtb + d ∧
      b.time.valid = true ∧ b.time.stepDue = none ∧ b.log.steps = a.log.steps + 1 ∧ Engine.counted .timeStep 0x02E0 a b ∧
      Engine.newEvents a b = [(0x02E0, .timeStep, le 8 (dtbSec a.dtb) ++ le 4 (dtbNs a.dtb))]) ∧
  (∀ t d s, s.eng.sys.phase = .running → s.eng.time.stepDue = some d → s.eng.proj.started = true → s.eng.time.alignNow = false →
    s.eng.aud.running = false → Does (.dtbStepApply t) t s fun a b =>
      Engine.changesOnly [.time, .proj, .counters, .log] a b ∧ b.dtb = a.dtb + d ∧ b.proj.lengthened = true ∧
      b.proj.pfi = a.proj.pfi ∧ b.time.valid = true ∧ b.time.stepDue = none) ∧
  (∀ t h (k : Fin 2) s, s.takes t h 0x0802 → s.eng.cfg.servoEn k = true → (s.eng.servo k).good = true →
    s.eng.clk.tcxo.eligible = s.eng.clk.ptp.eligible → Does (.domainSelect t h k) t s fun a b =>
      b.replied h 0x0802 .ok .none [] ∧ Engine.changesOnly [.time, .ctl, .ep, .counters, .log] a b ∧
      b.time.follow = k.val + 1 ∧ b.time.chosen = true ∧ b.time.origin = a.time.origin ∧ b.time.servos = a.time.servos ∧
      (∀ o, a.followed = some o → o ≠ k.val → Engine.counted .timeSwitch 0x02E0 a b)) ∧
  (∀ t k s, s.eng.sys.phase = .running → s.eng.followed = some k → k ≠ s.eng.cfg.prefServo → (s.eng.servo k).good = true →
    s.eng.time.chosen = false → (s.eng.at t).prefHeld = true → (s.eng.servo s.eng.cfg.prefServo).good = true →
    s.eng.clk.tcxo.eligible = s.eng.clk.ptp.eligible → Does (.timeRevert t) t s fun a b =>
      Engine.changesOnly [.time, .counters, .log] a b ∧ b.time.follow = a.cfg.prefServo + 1 ∧ b.time.origin = a.time.origin ∧
      Engine.counted .timeSwitch 0x02E0 a b) ∧
  (∀ t rate s, s.eng.sys.phase = .running → (vget s.eng.outs.sdiIn 0 ⟨0, 0, false⟩).state = 1 → s.eng.cfg.alignRefin = false →
    Does (.refinFrameStart t rate) t s fun a b => Engine.changesOnly [.time] a b ∧
      b.time = { a.time with refin := some (a.now, rate) }) ∧
  (∀ t s, s.eng.sys.phase = .running → s.eng.cfg.beaconEn = true → Does (.beaconSend t) t s fun a b =>
    Engine.changesOnly [.time] a b ∧ ∃ x : List Byte, x.length = 64 ∧
      b.time = { a.time with beacons := ((a.cw 0x0081 3).toNat, a.cf 0x0081 4 31 16, x) :: a.time.beacons } ∧
      field x 0 4 = 0x42415851 ∧ field x 60 4 = crc32c (x.take 60)) ∧
  (∀ t bs dev s, s.eng.sys.phase = .running → s.eng.cfg.beaconEn = true → bs.length = 64 → field bs 0 4 = 0x42415851 →
    field bs 8 4 = s.eng.cfg.arrayId → field bs 60 4 = crc32c (bs.take 60) → field bs 6 2 % 4096 = dev → dev ≠ s.eng.deviceId →
    field bs 12 4 = s.eng.cfg.sharedCrc → s.eng.followState ≠ .locked → Does (.beaconReceive t bs) t s fun a b =>
      Engine.changesOnly [.time] a b ∧ b.time = { a.time with peers := putPeer a.time.peers ⟨dev, a.now, false, false⟩ }) ∧
  (∀ t dev s, s.eng.sys.phase = .running → Does (.beaconPeerTimeout t dev) t s fun a b => Engine.changesOnly [.time] a b ∧
    b.time = { a.time with peers := a.time.peers.filter fun x => !(x.dev = dev && decide (x.lastHeard + secs 5 ≤ a.now)) })

/-- R363 to R367 and deadline 8 of R454. -/
def Obligations.PtpServosExchangeMessages : Prop :=
  (∀ t (k : Fin 2) (p : Fin 3) x s, s.eng.sys.phase = .running → s.eng.ptpDeaf k p = false → (s.eng.servo k).foreign = [] →
    s.eng.time.follow = 0 → Does (.ptpAnnounce t ⟨k, p⟩ x) t s fun a b => Engine.changesOnly [.time] a b ∧
      b.time = { a.time with servos := vmod a.time.servos k fun q => { q with foreign := [(a.now, x)] } }) ∧
  (∀ t (k : Fin 2) (p : Fin 3) x t0 s, s.eng.sys.phase = .running → s.eng.ptpDeaf k p = false → (s.eng.servo k).foreign = [(t0, x)] →
    (s.eng.at t).now < t0 + announceWindow x → (s.eng.servo k).master = none → (s.eng.servo k).gm = 0 → x.gm ≠ 0 →
    s.eng.time.follow = 0 → Does (.ptpAnnounce t ⟨k, p⟩ x) t s fun a b => Engine.changesOnly [.time] a b ∧
      (b.servo k).master = some x.master ∧ (b.servo k).gm = x.gm ∧ (b.servo k).lastAnn = some a.now ∧
      (b.servo k).run = 0 ∧ (b.servo k).state = (a.servo k).state) ∧
  (∀ t (k : Fin 2) (p : Fin 3) master q two (o : Nat) corr s, s.eng.sys.phase = .running →
    s.eng.ptpDeaf k p = false → (s.eng.servo k).master = some master →
    Does (.ptpSync t k p master q two o corr) t s fun a b => Engine.changesOnly [.time] a b ∧
      b.time = { a.time with servos := vmod a.time.servos k fun v => { v with
        sync := some ⟨master, q, a.dtb, (if two then 0 else (o : Int) * 65536) + corr + a.cfg.asym p, a.cfg.asym p, !two⟩ } }) ∧
  (∀ t (k : Fin 2) (p : Fin 3) master q (o : Nat) corr y s, s.eng.sys.phase = .running → s.eng.ptpDeaf k p = false → (s.eng.servo k).sync = some y → y.complete = false →
    y.master = master → y.seq = q → Does (.ptpFollowUp t ⟨k, p⟩ master q o corr) t s fun a b => Engine.changesOnly [.time] a b ∧
      b.time = { a.time with servos := vmod a.time.servos k fun v => { v with
        sync := some { y with origin := y.origin + o * 65536 + corr, complete := true } } }) ∧
  (∀ t (k : Fin 2) (p : Fin 3) q m s, s.eng.sys.phase = .running → s.eng.ptpDeaf k p = false → (s.eng.servo k).master = some m →
    (∀ t0, (s.eng.servo k).lastReq = some t0 → t0 + secs 1 / 16 ≤ (s.eng.at t).now) →
    Does (.ptpDelayReqSend t ⟨k, p⟩ q) t s fun a b => Engine.changesOnly [.time] a b ∧
      b.time = { a.time with
        servos := vmod a.time.servos k fun v => { v with
          lastReq := some a.now
          req := some (q, a.dtb)
          reqBytes := delayReqBytes k (a.cfg.ptpDomain k) q (a.cfg.unicastDreq k) }
        delayReqs := a.time.delayReqs + 1 }) ∧
  (∀ t (k : Fin 2) (p : Fin 3) master q (rx : Nat) corr y tx s, s.eng.sys.phase = .running → s.eng.ptpDeaf k p = false → (s.eng.servo k).state = .listening →
    (s.eng.servo k).sync = some y → y.complete = true → y.master = master → (s.eng.servo k).master = some master →
    (s.eng.servo k).req = some (q, tx) → (s.eng.servo k).hist = [] → (s.eng.servo k).run = 0 → s.eng.time.follow = 0 →
    (s.eng.servo (1 - k.val)).good = false → s.eng.clk.ptp.eligible = false →
    Does (.ptpDelayResp t ⟨k, p⟩ master q rx corr) t s fun a b => Engine.changesOnly [.time] a b ∧
      (b.servo k).path = ((y.rx - y.origin) + y.asym + ((rx : Int) * 65536 - corr - tx)) / 2 ∧
      (b.servo k).offset = (y.rx - y.origin) - (b.servo k).path ∧ (b.servo k).run = 1 ∧ (b.servo k).req = none ∧
      (b.servo k).state = .listening ∧ (b.servo k).lastExch = some a.now ∧ (b.servo k).hist = [(a.now, (b.servo k).offset)] ∧
      (b.servo k).count = (a.servo k).count + 1 ∧ b.time.adj = a.time.adj) ∧
  (∀ t (k : Fin 2) (p : Fin 3) master q (rx : Nat) corr y tx s, s.eng.sys.phase = .running → s.eng.ptpDeaf k p = false →
    (s.eng.servo k).sync = some y → y.complete = true → y.master = master → (s.eng.servo k).master = some master →
    (s.eng.servo k).req = some (q, tx) → outlier ((s.eng.servo k).hist.map (·.2))
      ((y.rx - y.origin) - ((y.rx - y.origin) + y.asym + ((rx : Int) * 65536 - corr - tx)) / 2) = true →
    Does (.ptpDelayResp t ⟨k, p⟩ master q rx corr) t s fun a b => Engine.changesOnly [.time, .counters] a b ∧
      b.time = { a.time with servos := vmod a.time.servos k fun v => { v with req := none, run := 0 } } ∧
      Engine.counted .ptpOutlier (0x02E1 + k.val) a b) ∧
  (∀ t (k : Fin 2) t1 s, s.eng.sys.phase = .running → (s.eng.servo k).state = .listening → (s.eng.servo k).lastExch = some t1 →
    t1 + secs s.eng.cfg.syncTo ≤ (s.eng.at t).now → Does (.ptpTimeout t k false) t s fun a b =>
      Engine.changesOnly [.time, .counters, .log] a b ∧
      b.time = { a.time with servos := vmod a.time.servos k fun v => { v with lastExch := none, run := 0, goodSince := none } } ∧
      Engine.counted .ptpTimeout (0x02E1 + k.val) a b ∧ Engine.newEvents a b = [(0x02E1 + k.val, .ptpTimeout, [])]) ∧
  (∀ t (k : Fin 2) s, s.eng.sys.phase = .running → (s.eng.servo k).state = .listening → (s.eng.at t).annExpired k = true →
    Does (.ptpTimeout t k true) t s fun a b => Engine.changesOnly [.time, .counters, .log] a b ∧
      b.time = { a.time with servos := vmod a.time.servos k fun v => { v with
        master := none
        sync := none
        req := none
        foreign := v.foreign.filter fun x => some x.2.master ≠ v.master
        run := 0
        goodSince := none } } ∧
      Engine.counted .ptpTimeout (0x02E1 + k.val) a b ∧ Engine.newEvents a b = [(0x02E1 + k.val, .ptpTimeout, [])]) ∧
  (∀ t (k : Fin 2) s, s.eng.sys.phase = .running → s.eng.followed = some k.val → (s.eng.servo k).good = true →
    (s.eng.servo k).stalled = false → Does (.servoUpdateDeadline t) t s fun a b =>
      Engine.changesOnly [.time, .cluster, .counters, .log] a b ∧ (b.servo k).shown = .holdover ∧ (b.servo k).state = (a.servo k).state ∧
      b.time.adj = a.time.adj ∧
      Engine.newEvents a b = [(0x02E1 + k.val, .fwOverrun, le 1 8 ++ le 1 2 ++ le 4 (a.servo k).count ++ le 1 k)])

/-- R385 to R396. -/
def Obligations.ClockSourcesQualifiedAndLost : Prop :=
  (∀ t f s, s.eng.sys.phase.firmware = true → s.eng.clk.tcxo.eligible = false → s.eng.clk.refin.eligible = false →
    s.eng.clk.ptp.eligible = false → s.eng.clk.selected = none →
    s.eng.cfg.qualMs ≤ (s.eng.clk.tcxo.window 30000000 f).good → s.eng.time.follow = 0 →
    Does (.clkMonitorWindow t .tcxo f) t s fun a b => Engine.changesOnly [.clk, .log] a b ∧ b.clk.root = .acquiring ∧
      b.clk.selected = some .tcxo ∧ b.clk.tcxo.eligible = true ∧ b.clk.tcxo.since = a.now ∧ b.clk.tcxo.fRef = f ∧
      Engine.newEvents a b = [(1, .clkQualified, [])]) ∧
  (∀ t f s, s.eng.sys.phase.firmware = true → s.eng.clk.refin.eligible = true → 100000 < (f - s.eng.clk.refin.fRef).natAbs →
    s.eng.clk.selected = some .tcxo → s.eng.clk.tcxo.eligible = true →
    Does (.clkMonitorWindow t .refin f) t s fun a b => Engine.changesOnly [.clk, .counters, .log] a b ∧
      b.clk.refin.eligible = false ∧ b.clk.selected = some .tcxo ∧ b.clk.lastLoss = some (.rate, .refin) ∧
      Engine.counted .clkRate 2 a b ∧ Engine.newEvents a b = [(2, .clkLoss, le 4 1 ++ le 4 3)]) ∧
  (∀ t s, s.eng.sys.phase.powered = true → s.eng.clk.refin.eligible = true → s.eng.clk.selected = some .tcxo →
    s.eng.clk.tcxo.eligible = true → Does (.clkSourceStop t .refin) t s fun a b => Engine.changesOnly [.clk, .counters, .log] a b ∧
      b.clk.refin.eligible = false ∧ b.clk.refin.stopped = true ∧ b.clk.root = a.clk.root ∧ Engine.counted .clkStop 2 a b ∧
      Engine.newEvents a b = [(2, .clkLoss, le 4 1 ++ le 4 1)]) ∧
  (∀ t step s, s.eng.sys.phase.powered = true → s.eng.clk.refin.eligible = true → s.eng.clk.selected = some .refin →
    s.eng.clk.tcxo.eligible = true → s.eng.clk.ptp.eligible = false → s.eng.clk.revert = none → 5 * s.eng.cfg.phHit < step →
    Does (.clkPhaseHit t step) t s fun a b => Engine.changesOnly [.clk, .counters, .log] a b ∧ b.clk.root = .holdover ∧
      b.clk.selected = some .tcxo ∧ b.clk.refin.eligible = false ∧ Engine.counted .clkPhaseHit 2 a b ∧
      Engine.counted .clkSwitch 0 a b ∧
      Engine.newEvents a b = [(2, .clkLoss, le 4 1 ++ le 4 2), (0, .clkSwitch, le 1 1 ++ le 1 0)]) ∧
  (∀ t s, s.eng.sys.phase.powered = true → s.eng.clk.tcxo.eligible = true → s.eng.clk.refin.eligible = false →
    s.eng.clk.ptp.eligible = false → s.eng.clk.selected = some .tcxo → s.eng.clk.revert = none → s.eng.clk.classV = false →
    Does (.clkSourceStop t .tcxo) t s fun _ b => b.clk.root = .held ∧ b.clk.selected = none ∧ b.clk.classV = true ∧
      b.clk.classA = true ∧ b.clk.tcxo.eligible = false) ∧
  (∀ t off x s, s.eng.sys.phase.powered = true → s.eng.clk.root = .acquiring ∨ s.eng.clk.root = .holdover →
    s.eng.clk.selected = some x → Does (.rootLocked t off) t s fun a b => Engine.changesOnly [.clk] a b ∧
      b.clk = { a.clk with
        root := .locked
        everLocked := true
        mgt := true
        dtbFab := true
        offset := off
        classA := false
        revert := none
        lockedAt := if a.clk.classV then some a.now else none }) ∧
  (∀ t s, s.eng.sys.phase.powered = true → s.eng.cfg.clkRevert = true → s.eng.clk.selected = some .tcxo →
    s.eng.cfg.clkRank = [.refin, .tcxo] → s.eng.clk.refin.eligible = true →
    s.eng.clk.refin.since + secs s.eng.cfg.clkRevertS ≤ (s.eng.at t).now → Does (.clkRevert t .refin) t s fun a b =>
      Engine.changesOnly [.clk, .counters, .log] a b ∧ b.clk.root = .holdover ∧ b.clk.selected = some .refin ∧
      Engine.counted .clkSwitch 0 a b ∧ Engine.newEvents a b = [(0, .clkSwitch, le 1 0 ++ le 1 1)]) ∧
  (∀ t m s, s.eng.sys.phase.powered = true → Does (.clkMuxForce t m) t s fun a b => Engine.changesOnly [.counters, .log] a b ∧
    Engine.counted .clkMuxForce 4 a b ∧ Engine.newEvents a b = [(4, .clkMuxForce, [])]) ∧
  (∀ t s, s.eng.sys.phase = .starting 4 → s.eng.bestSource = none → s.eng.sys.step4At + secs 3 ≤ (s.eng.at t).now →
    Does (.clkNoSource t) t s fun a b =>
    b.sys = { a.sys with phase := .starting 5 } ∧ b.clk.root = .held ∧ b.clk.classV = true ∧
    (Engine.newEvents a b).head? = some (0, .clkNoSource, [])) ∧
  (∀ t (p : Fin 5) s, s.eng.sys.phase.powered = true → vget s.eng.clk.leaves p [] = [] → Does (.clkGateClose t p) t s fun a b =>
    Engine.changesOnly [.clk] a b ∧ b.clk = { a.clk with parents := vmod a.clk.parents p fun _ => false }) ∧
  (∀ t (p : Fin 5) l r s, s.eng.sys.phase.powered = true → vget s.eng.clk.leaves p [] = l :: r →
    Does (.clkGateClose t p) t s fun a b => Engine.changesOnly [.counters, .log] a b ∧ Engine.counted .clkGateRefused 5 a b ∧
      Engine.newEvents a b = [(5, .clkGateRefused, le 4 p ++ le 4 l)])

/-- R400, R405 to R408, R412 to R414, R416 and R417. -/
def Obligations.DramWordsKeepAndReturnData : Prop :=
  (∀ t (p : Fin 24) (g : Fin 4) k errs lay pos w r s, s.eng.sys.phase = .running → s.eng.dram.reqs = [] →
    p.val ≠ 22 ∨ s.eng.cfg.qx2 = false → s.eng.cfg.dramPlace g k = some (lay, pos, w) → s.eng.rankAt lay pos = some r →
    vget s.eng.dram.busy (r / 2) 0 ≤ (s.eng.at t).now → errs ≤ 1 →
    w ∉ (s.eng.rank r).poisoned → Does (.dramRead t p g k errs) t s fun a b => Engine.changesOnly [.dram, .counters] a b ∧
      vget b.dram.returned p ([], false) = (memBytes 0 a.dram.mem 32 (dramKey r (32 * w)), false) ∧ b.dram.reqs = [] ∧
      b.dram.mem = a.dram.mem ∧ (errs = 0 → b.counters = a.counters) ∧ (errs = 1 → Engine.counted .dramCe (0x0300 + r) a b)) ∧
  (∀ t (g : Fin 4) k errs lay pos w r m s, s.eng.sys.phase = .running → s.eng.dram.reqs = [] →
    s.eng.cfg.dramPlace g k = some (lay, pos, w) → s.eng.rankAt lay pos = some r →
    vget s.eng.dram.busy (r / 2) 0 ≤ (s.eng.at t).now → 2 ≤ errs →
    s.eng.dram.siphon = some m → r ≠ m.source → r ≠ m.target → r ∉ s.eng.dram.queue → (s.eng.rank r).pos ≠ 31 →
    Does (.dramRead t 0 g k errs) t s fun a b => Engine.changesOnly [.dram, .counters, .log] a b ∧
      vget b.dram.returned 0 ([], false) = (List.replicate 32 0, true) ∧ w ∈ (b.rank r).poisoned ∧
      b.dram.queue = a.dram.queue ++ [r] ∧ Engine.counted .dramUe (0x0300 + r) a b ∧
      Engine.counted .dramPoisonRead 0x0324 a b ∧
      Engine.newEvents a b = [(0x0300 + r, .dramUe, le 4 (32 * w)), (0x0321, .siphonQueued, [])]) ∧
  (∀ t (p : Fin 24) (g : Fin 4) k (data : List Byte) lay pos w r s, s.eng.sys.phase = .running → s.eng.dram.reqs = [] →
    p.val ≠ 22 ∨ s.eng.cfg.qx2 = false → s.eng.cfg.dramPlace g k = some (lay, pos, w) → s.eng.rankAt lay pos = some r →
    vget s.eng.dram.busy (r / 2) 0 ≤ (s.eng.at t).now → data.length = 32 → s.eng.dram.siphon = none →
    Does (.dramWrite t p g k data) t s fun a b => Engine.changesOnly [.dram] a b ∧ b.dram.reqs = [] ∧
      memBytes 0 b.dram.mem 32 (dramKey r (32 * w)) = data ∧ w ∉ (b.rank r).poisoned ∧
      ∀ j, ¬ (dramKey r (32 * w) ≤ j ∧ j < dramKey r (32 * w) + 32) → memRead 0 b.dram.mem j = memRead 0 a.dram.mem j) ∧
  (∀ t (p : Fin 24) (g : Fin 4) k lay pos w r s, s.eng.sys.phase = .running → s.eng.dram.reqs = [] →
    s.eng.cfg.dramPlace g k = some (lay, pos, w) → s.eng.rankAt lay pos = some r →
    (s.eng.at t).now < vget s.eng.dram.busy (r / 2) 0 → Does (.dramRead t p g k 0) t s fun a b =>
      b = { a with dram := { a.dram with reqs := [⟨p, lay, pos, w, none, 0, a.now⟩] } }) ∧
  (∀ t (r : Fin 32) w s, s.eng.sys.phase = .running → w < rankWords → s.eng.cfg.scrubEn = true → (s.eng.rank r).state ≠ .retired →
    Does (.dramScrub t r w 1) t s fun a b => Engine.changesOnly [.counters] a b ∧ Engine.counted .dramCe (0x0300 + r.val) a b) ∧
  (∀ t bad s, s.eng.sys.phase.powered = true → s.eng.anyPanic = true → Does (.siphonCopyChunk t bad) t s fun a b => b = a) ∧
  (∀ t m base s, s.eng.sys.phase.powered = true → s.eng.anyPanic = false → s.eng.dram.siphon = some m → m.p + 2048 < rawBytes →
    rowData (m.p / 2048) = some base → m.source < 32 → m.target < 32 →
    Does (.siphonCopyChunk t []) t s fun a b => Engine.changesOnly [.dram, .counters] a b ∧
      (∃ n, b.dram.siphon = some { m with p := m.p + 2048, poisoned := m.poisoned + n }) ∧
      (∀ i < 2048, memRead 0 b.dram.mem (dramKey m.target base + i) = memRead 0 a.dram.mem (dramKey m.source base + i)) ∧
      ∀ k, ¬ (dramKey m.target base ≤ k ∧ k < dramKey m.target base + 2048) → memRead 0 b.dram.mem k = memRead 0 a.dram.mem k) ∧
  (∀ t addr i s, s.eng.sys.phase = .running → addr < grottoWords → i = Instr.grottoRead t addr 1 ∨ i = Instr.grottoScrub t addr 1 →
    Does i t s fun a b => Engine.changesOnly [.counters] a b ∧ Engine.counted .grottoCe (0x033E + 8 * addr / 4096 % 2) a b) ∧
  (∀ t addr errs i s, s.eng.sys.phase = .running → addr < grottoWords → 253755392 ≤ 8 * addr → 2 ≤ errs →
    i = Instr.grottoRead t addr errs ∨ i = Instr.grottoScrub t addr errs →
    (8 * addr / 4096 % 2, 8 * addr / 8192) ∉ s.eng.grotto.badRows →
    Does i t s fun a b => Engine.changesOnly [.grotto, .raw, .free, .counters, .log] a b ∧
      (∃ n, b.raw.dyn = a.raw.dyn.eraseIdx n) ∧
      b.grotto = { a.grotto with badRows := (8 * addr / 4096 % 2, 8 * addr / 8192) :: a.grotto.badRows } ∧
      Engine.counted .grottoUe (0x033E + 8 * addr / 4096 % 2) a b ∧
      Engine.newEvents a b = [(0x033E + 8 * addr / 4096 % 2, .grottoUe, le 4 4 ++ le 4 (8 * addr - 253755392) ++ le 4 0)])

/-- R410, R411 and R414. -/
def Obligations.RanksAreKeptInService : Prop :=
  (∀ t (r : Fin 32) eye s, s.eng.sys.phase = .running → (s.eng.rank r).state ≠ .source → (s.eng.rank r).state ≠ .retired → 24 ≤ eye →
    Does (.dramRecentre t r true eye) t s fun a b => Engine.changesOnly [.dram] a b ∧
      b.dram = { a.dram with ranks := vmod a.dram.ranks r fun q => { q with fails := 0 } }) ∧
  (∀ t (r : Fin 32) edge eye s, s.eng.sys.phase = .running → (s.eng.rank r).state ≠ .source → (s.eng.rank r).state ≠ .retired →
    edge = false ∨ eye < 24 → (s.eng.rank r).fails = 0 → Does (.dramRecentre t r edge eye) t s fun a b =>
      Engine.changesOnly [.dram, .counters, .log] a b ∧
      b.dram = { a.dram with ranks := vmod a.dram.ranks r fun q => { q with fails := 1 } } ∧
      Engine.counted .dramTrainFail (0x0300 + r.val) a b ∧
      Engine.newEvents a b = [(0x0300 + r.val, .dramTrainFail, [])]) ∧
  (∀ t (r : Fin 32) temp s, s.eng.sys.phase = .running → Does (.dramRefresh t r temp) t s fun a b =>
    Engine.changesOnly [.dram, .counters, .log] a b ∧
    b.dram = { a.dram with ranks := vmod a.dram.ranks r fun q => { q with hot := decide (850 < temp) } } ∧
    Engine.newEvents a b = if 850 < temp ∧ (a.rank r).hot = false then [(0x0300 + r.val, .dramHot, [])] else []) ∧
  (∀ t (r : Fin 32) s, s.eng.sys.phase = .running → s.eng.cfg.pdEn = true → (s.eng.rank r).state = .active →
    (s.eng.rank r).lastReq + us s.eng.cfg.pdUs ≤ (s.eng.at t).now → Does (.dramPowerDown t r) t s fun a b =>
      Engine.changesOnly [.dram] a b ∧
      b.dram = { a.dram with ranks := vmod a.dram.ranks r fun q => { q with state := .powerdown } }) ∧
  (∀ t m s, s.eng.sys.phase.powered = true → s.eng.anyPanic = false → s.eng.dram.siphon = some m → rawBytes ≤ m.p + 2048 → s.eng.dram.queue = [] →
    m.source < 32 → m.target < 32 → m.source ≠ m.target → Does (.siphonCopyChunk t []) t s fun a b =>
      Engine.changesOnly [.dram, .counters, .log] a b ∧ b.dram.siphon = none ∧ (b.rank m.target).state = .active ∧
      (b.rank m.target).layer = (a.rank m.source).layer ∧ (b.rank m.target).pos = (a.rank m.source).pos ∧
      (b.rank m.source).state = .retired ∧ (b.rank m.source).pos = 31 ∧ m.source ∈ b.dram.retired ∧
      Engine.counted .siphon 0x0321 a b)

/-- R424 to R431. -/
def Obligations.PositionChannelsCountAndSample : Prop :=
  (∀ t (n : Fin 8) x y z s, s.eng.sys.phase = .running → (s.eng.chan n).state ≠ 0 → s.eng.cfg.posMode n = 0 →
    (∀ v, s.eng.cfg.limited n v = v) → (s.eng.chan n).held = false →
    Does (.posSample t n x y z) t s fun a b => Engine.changesOnly [.pos, .counters, .log] a b ∧ (b.chan n).started = true ∧
      (((b.chan n).level 2 = false ∨ (a.chan n).level 2 = true) →
        ((a.chan n).level 0 = (b.chan n).level 0 → (a.chan n).level 1 = (b.chan n).level 1 →
          (b.chan n).pos = (a.chan n).pos ∧ b.counters = a.counters) ∧
        (((a.chan n).level 0 != (b.chan n).level 0) = !((a.chan n).level 1 != (b.chan n).level 1) →
          (b.chan n).pos = (a.chan n).pos +
            (if (b.chan n).level 0 != (a.chan n).level 1 then 1 else -1) * (if a.cfg.dirInv n then -1 else 1)) ∧
        ((a.chan n).level 0 ≠ (b.chan n).level 0 → (a.chan n).level 1 ≠ (b.chan n).level 1 →
          (b.chan n).pos = (a.chan n).pos ∧ Engine.counted .posIllegal (0x0340 + n.val) a b))) ∧
  (∀ t (n : Fin 8) latch v second s, s.eng.sys.phase = .running → (s.eng.chan n).state = 1 → s.eng.cfg.posMode n = 2 →
    s.eng.cfg.ssiGray n = false → s.eng.cfg.dirInv n = false → (s.eng.cfg.ssiDbl n = true → second = v) →
    (∀ u, s.eng.cfg.limited n u = u) → s.eng.pos.waits = [] →
    Does (.posSsiRead t n latch v second false) t s fun a b => Engine.changesOnly [.pos] a b ∧
      (b.chan n).pos = ((v % 2 ^ a.cfg.ssiBits n : Nat) : Int) ∧ (b.chan n).ref = true ∧ (b.chan n).ssiErrs = 0 ∧
      (b.chan n).reads.head? = some (latch, ((v % 2 ^ a.cfg.ssiBits n : Nat) : Int)) ∧ (b.chan n).state = 1) ∧
  (∀ t (n : Fin 8) latch v second s, s.eng.sys.phase = .running → (s.eng.chan n).state = 1 → s.eng.cfg.posMode n = 2 →
    Does (.posSsiRead t n latch v second true) t s fun a b => Engine.changesOnly [.pos, .counters, .log] a b ∧
      (b.chan n).ssiErrs = (a.chan n).ssiErrs + 1 ∧ (b.chan n).pos = (a.chan n).pos ∧ (b.chan n).reads = (a.chan n).reads ∧
      Engine.counted .posSsiErr (0x0340 + n.val) a b ∧
      ((a.chan n).ssiErrs = 7 → (b.chan n).state = 3 ∧ Engine.newEvents a b = [(0x0340 + n.val, .posSsiLoss, [])]) ∧
      ((a.chan n).ssiErrs ≠ 7 → (b.chan n).state = 1 ∧ Engine.newEvents a b = [])) ∧
  (∀ t s, s.eng.sys.phase = .running → Does (.posSpeedUpdate t) t s fun a b => Engine.changesOnly [.pos] a b ∧
    ∀ n : Fin 8, ((a.chan n).state = 0 ∨ a.cfg.posMode n = 2 → b.chan n = a.chan n) ∧
      ((a.chan n).state ≠ 0 → a.cfg.posMode n ≠ 2 → (b.chan n).pos = (a.chan n).pos ∧
        ∀ old, (a.chan n).hist[2 ^ a.cfg.spdWin n - 1]? = some old →
          (b.chan n).speed = Int.tdiv (((a.chan n).pos - old) * 1000000) ((125 * 2 ^ a.cfg.spdWin n : Nat) : Int))) ∧
  (∀ t (p : Fin 2) s, s.eng.sys.phase = .running → s.eng.proj.run = true → (s.eng.port p).joined = true →
    (∀ n : Fin 8, s.eng.cfg.posMode n ≠ 2) → Does (.posMidpointLatch t p) t s fun a b => Engine.changesOnly [.pos] a b ∧
      ∀ n : Fin 8, a.cfg.posEn n = true → (a.chan n).state ≠ 0 → (a.chan n).state ≠ 2 → (a.chan n).started = true →
        (b.chan n).pos = (a.chan n).pos ∧ vget (b.chan n).flags p 1 = 0 ∧
        ∃ fl, (⟨p, a.midFrame p, n, sampleBytes (a.chan n).pos (a.chan n).speed fl (a.cfg.posMode n)⟩ : PosSample) ∈ b.pos.samples) ∧
  (∀ t (p : Fin 2) (n : Fin 8) w r s, s.eng.sys.phase = .running → s.eng.pos.waits = [w] → w.port = p.val → w.ch = n.val →
    (s.eng.chan n).reads = [r] → w.tm + ns (2 * s.eng.cfg.ssiPeriod n) ≤ (s.eng.at t).now →
    (nsBetween r.1 w.tm).natAbs ≤ 2 * s.eng.cfg.ssiPeriod n → (s.eng.cfg.limited n r.2 = r.2) →
    Does (.posSsiSampleTimeout t p n) t s fun a b => Engine.changesOnly [.pos] a b ∧ b.pos.waits = [] ∧
      ∃ x fl, b.pos.samples.head? = some x ∧ x.port = p.val ∧ x.cfn = w.cfn ∧ x.ch = n.val ∧ fl &&& pfStale = pfStale ∧
        x.bytes = sampleBytes r.2 (a.chan n).speed fl 2)

/-- R435, R436, R448 and R471. -/
def Obligations.ImagesAreTransferredAndCommitted : Prop :=
  (∀ t h total gen s, s.takes t h 0x0601 → total % 4096 = 0 → total < 2 ^ 32 → gen < 2 ^ 32 → total ≤ s.flash.slotBytes →
    s.eng.sys.committing = false → s.eng.ctl.xfer = none →
    ∃ b, exec (.xferBegin t h total gen) s = .next { s with eng := b, flash := s.flash.setSlot s.eng.sys.inactive [] } ∧
      Engine.changesOnly [.ctl, .ep] (s.eng.at t) b ∧ b.ctl.sent = (s.eng.at t).ctl.sent ∧
      b.ctl.complete = s.eng.ctl.complete.erase s.eng.sys.inactive ∧
      b.ctl.xfer = some { owner := h.client, total := total, generation := gen, erasing := true, written := []
                          lastReq := (s.eng.at t).now, waiting := h.seq, checking := none }) ∧
  (∀ t x s, s.eng.ctl.xfer = some x → x.erasing = true → Does (.xferEraseDone t) t s fun a b =>
    Engine.changesOnly [.ctl, .ep] a b ∧ b.ctl.xfer = some { x with erasing := false } ∧
    b.replied ⟨x.owner, x.waiting⟩ 0x0601 .ok .none []) ∧
  (∀ t h off (data : List Byte) x s, s.takes t h 0x0602 → off % 256 = 0 → data.length % 256 = 0 → 256 ≤ data.length →
    data.length ≤ 32768 → off < 2 ^ 32 → s.eng.sys.committing = false → s.eng.ctl.xfer = some x → x.owner = h.client →
    x.erasing = false → x.checking = none → off + data.length ≤ x.total →
    (∀ k ∈ x.written, k < off / 256 ∨ off / 256 + data.length / 256 ≤ k) →
    ∃ b f, exec (.xferData t h off data) s = .next { s with eng := b, flash := f } ∧
      Engine.changesOnly [.ctl, .ep] (s.eng.at t) b ∧ b.replied h 0x0602 .ok .none [] ∧
      b.ctl.xfer = some { x with
        written := x.written ++ (List.range (data.length / 256)).map (off / 256 + ·)
        lastReq := (s.eng.at t).now } ∧
      f.slotBytes = s.flash.slotBytes ∧ f.slot (!s.eng.sys.inactive) = s.flash.slot (!s.eng.sys.inactive) ∧
      memBytes 0xFF (f.slot s.eng.sys.inactive) data.length off = data ∧
      ∀ k, k < off ∨ off + data.length ≤ k →
        memRead 0xFF (f.slot s.eng.sys.inactive) k = memRead 0xFF (s.flash.slot s.eng.sys.inactive) k) ∧
  (∀ t h off (data : List Byte) x k s, s.takes t h 0x0602 → off % 256 = 0 → data.length % 256 = 0 → 256 ≤ data.length →
    data.length ≤ 32768 → off < 2 ^ 32 → s.eng.sys.committing = false → s.eng.ctl.xfer = some x → x.owner = h.client →
    x.erasing = false → x.checking = none → k ∈ x.written → off / 256 ≤ k → k < off / 256 + data.length / 256 →
    Does (.xferData t h off data) t s fun a b => Engine.changesOnly [.ctl, .ep] a b ∧
      b.replied h 0x0602 .refused .checkFailed [] ∧ b.ctl.xfer = some { x with lastReq := a.now }) ∧
  (∀ t h total crc x s, s.takes t h 0x0603 → total < 2 ^ 32 → crc < 2 ^ 32 → s.eng.sys.committing = false →
    s.eng.ctl.xfer = some x → x.owner = h.client → x.erasing = false → x.checking = none →
    Does (.xferEnd t h total crc) t s fun a b => Engine.changesOnly [.ctl, .ep] a b ∧ b.ctl.sent = a.ctl.sent ∧
      b.ctl.xfer = some { x with lastReq := a.now, checking := some (total, crc), waiting := h.seq }) ∧
  (∀ t x crc m s, s.eng.ctl.xfer = some x → x.checking = some (x.total, crc) → m = s.flash.slot s.eng.sys.inactive →
    crc32c (memBytes 0xFF m x.total 0) = crc → (∀ k < x.total / 256, k ∈ x.written) →
    memBytes 0xFF m 4 0 = le 4 0x52505554 → slotField m 8 4 = x.generation →
    Does (.xferCheckDone t) t s fun a b => Engine.changesOnly [.ctl, .ep, .log] a b ∧ b.ctl.xfer = none ∧
      b.ctl.complete = s.eng.sys.inactive :: a.ctl.complete.erase s.eng.sys.inactive ∧
      b.replied ⟨x.owner, x.waiting⟩ 0x0603 .ok .none [] ∧ Engine.newEvents a b = [(0x0358, .imageXferDone, [])]) ∧
  (∀ t x total crc m s, s.eng.ctl.xfer = some x → x.checking = some (total, crc) → m = s.flash.slot s.eng.sys.inactive →
    (total ≠ x.total ∨ crc32c (memBytes 0xFF m total 0) ≠ crc ∨ (∃ k < x.total / 256, k ∉ x.written) ∨
      slotField m 8 4 ≠ x.generation) →
    Does (.xferCheckDone t) t s fun a b => Engine.changesOnly [.ctl, .ep] a b ∧ b.ctl.complete = a.ctl.complete ∧
      b.ctl.xfer = some { x with checking := none } ∧ b.replied ⟨x.owner, x.waiting⟩ 0x0603 .refused .checkFailed []) ∧
  (∀ t h x s, s.takes t h 0x0604 → s.eng.sys.committing = false → s.eng.ctl.xfer = some x → x.owner = h.client →
    Does (.xferAbort t h) t s fun a b => Engine.changesOnly [.ctl, .ep, .log] a b ∧ b.ctl.xfer = none ∧
      b.ctl.complete = a.ctl.complete ∧ b.replied h 0x0604 .ok .none [] ∧
      Engine.newEvents a b = [(0x0358, .imageXferAbort, le 4 0)]) ∧
  (∀ t x s, s.eng.ctl.xfer = some x → x.lastReq + secs 60 ≤ (s.eng.at t).now → Does (.xferTimeout t) t s fun a b =>
    Engine.changesOnly [.ctl, .log] a b ∧ b.ctl.xfer = none ∧ Engine.newEvents a b = [(0x0358, .imageXferAbort, le 4 1)]) ∧
  (∀ t v g n c m s, s.eng.sys.phase = .running → s.eng.sys.committing = true → s.eng.ctl.staged = some g →
    g.cmd = .imageCommit n → m = s.flash.slot (decide (n = 1)) → slotFault m s.ks v false = 0 →
    (s.eng.sys.active = none ∨ s.eng.sys.generation < slotGeneration m) → slotConfig m = some c → c.broken = none →
    committedWord m = commWord →
    ∃ b f, exec (.commitCheckDone t v) s = .next { s with eng := b, flash := f } ∧
      Engine.changesOnly [.sys, .ctl, .ep, .counters, .log] (s.eng.at t) b ∧ f.slotBytes = s.flash.slotBytes ∧
      f.slot (!decide (n = 1)) = s.flash.slot (!decide (n = 1)) ∧ slotCommitted (f.slot (decide (n = 1))) = true ∧
      (∀ k, k < 4092 ∨ 4096 ≤ k → memRead 0xFF (f.slot (decide (n = 1))) k = memRead 0xFF m k) ∧
      b.sys = { (s.eng.at t).sys with
        committing := false
        active := some (decide (n = 1))
        generation := slotGeneration m } ∧
      b.ctl.staged = none ∧ b.ctl.complete = s.eng.ctl.complete.erase (decide (n = 1)) ∧
      Engine.newEvents (s.eng.at t) b = [(0x0358, .imageCommit, le 4 s.eng.sys.generation ++ le 4 (slotGeneration m)),
        (0x0363, .gatedDone, le 2 0x0701 ++ le 4 g.client.transport)]) ∧
  (∀ t v g n m k s, s.eng.sys.phase = .running → s.eng.sys.committing = true → s.eng.ctl.staged = some g →
    g.cmd = .imageCommit n → m = s.flash.slot (decide (n = 1)) →
    ((k = 1 ∧ slotFault m s.ks v false ≠ 0) ∨ (k = 2 ∧ slotFault m s.ks v false = 0 ∧ s.eng.sys.active.isSome = true ∧
      slotGeneration m ≤ s.eng.sys.generation)) →
    Does (.commitCheckDone t v) t s fun a b => Engine.changesOnly [.sys, .ctl, .ep, .counters, .log] a b ∧
      b.sys = { a.sys with committing := false } ∧ b.ctl.staged = none ∧ b.ctl.complete = a.ctl.complete ∧
      Engine.newEvents a b = [(0x0358, .imageCommitRefused, [])])

/-- R472 to R477 and R484. -/
def Obligations.GatedCommandsAreStagedAndEnd : Prop :=
  (∀ t h (g : Gated) s, s.takes t h g.ty → s.eng.sys.phase = .running → s.eng.sys.mode = .service → s.eng.ctl.staged = none →
    (match g with
      | .imageCommit n => n ≤ 1 ∧ decide (n = 1) ∈ s.eng.ctl.complete ∧ s.eng.sys.units = []
      | .keyLoad kind id v check => v.length = 32 ∧ id < 2 ^ 32 ∧ s.eng.sys.lampOpen = false ∧
          check = (sha512 (le 4 id ++ v)).take 8 ∧ (h.client.isEth = true → s.eng.cb 0x00A0 0 29 = true) ∧
          ((kind = 0 ∧ s.ks.hash = none ∧ v = (sha512 (slotSigner (s.eng.activeSlot s.flash))).take 32) ∨ (kind = 1 ∧ id ≠ 0))
      | .keyErase m => m ≤ 3 ∧ ((m.testBit 0 = true ∧ s.ks.hash ≠ none) ∨ (m.testBit 1 = true ∧ s.ks.pkey ≠ none))
      | .lampOpen => s.eng.cb 0x00A0 0 31 = true ∧ s.eng.sys.lampOpen = false
      | .timeStep o => -(2 : Int) ^ 63 ≤ o ∧ o < (2 : Int) ^ 63
      | .calCommit tables fold found => tables ≤ 63 ∧ (tables = 0 → fold = true) ∧
          (∀ k ∈ tablesOf tables, found.testBit k = true ∧ ∀ p, tablePort k = some p → s.eng.cfg.hasPort p = true) ∧
          s.eng.has 0x0020 = true ∧ s.eng.raw.reload = none
      | .factoryReset confirm => s.eng.cfg.fresetEn = true ∧ confirm = 0x54535246) →
    Does (g.instr t h) t s fun a b => Engine.changesOnly [.ctl, .ep, .counters, .log] a b ∧
      b.replied h g.ty .ok .none [] ∧
      b.ctl.staged = some ⟨g, h.client, h.seq, a.now, a.pins.presenceHigh, a.pins.presenceSince, false⟩ ∧
      Engine.newEvents a b = [(0x0363, .gatedStaged, le 2 g.ty ++ le 4 h.client.transport)]) ∧
  (∀ t h kind id (v : List Byte) (check : List Byte) (check2 : List Byte) s, s.takes t h 0x0702 → s.eng.sys.phase = .running → s.eng.sys.mode = .service →
    s.eng.ctl.staged = none → kind ≤ 1 → id < 2 ^ 32 → v.length = 32 → (check ++ check2).length = 8 → s.eng.sys.lampOpen = false →
    (h.client.isEth = true → s.eng.cb 0x00A0 0 29 = true) → check ++ check2 ≠ (sha512 (le 4 id ++ v)).take 8 →
    Does (.keyLoad t h kind id v check check2) t s fun a b => Engine.changesOnly [.ctl, .ep] a b ∧ b.ctl.staged = none ∧
      b.replied h 0x0702 .refused .keyMismatch []) ∧
  (∀ t h (g : Gated) s, s.takes t h g.ty → g.malformed = false → s.eng.sys.phase = .running →
    (s.eng.sys.mode ≠ .service ∨ s.eng.ctl.staged ≠ none) → Does (g.instr t h) t s fun a b =>
      Engine.changesOnly [.ctl, .ep] a b ∧ b.ctl.staged = a.ctl.staged ∧
      b.replied h g.ty (if s.eng.sys.mode = .service then .busy else .state) .none []) ∧
  (∀ t h g s, s.takes t h 0x0708 → s.eng.ctl.staged = some g → g.executing = false → Does (.gatedCancel t h) t s fun a b =>
    Engine.changesOnly [.ctl, .ep, .counters, .log] a b ∧ b.replied h 0x0708 .ok .none [] ∧ b.ctl.staged = none ∧
    Engine.newEvents a b = [(0x0363, .gatedCancelled, le 2 g.cmd.ty ++ le 4 g.client.transport)]) ∧
  (∀ t g s, s.eng.sys.phase.powered = true → s.eng.cfg.presenceMode = 0 → s.eng.ctl.staged = some g → g.executing = false →
    g.at_ + secs 30 ≤ (s.eng.at t).now → Does (.gatedExpired t) t s fun a b =>
      Engine.changesOnly [.ctl, .ep, .counters, .log] a b ∧ b.ctl.staged = none ∧
      b.ctr .ctrlGatedExpired 0x0363 0 = satNat 0xFFFFFFFF (a.ctr .ctrlGatedExpired 0x0363 0 + 1) ∧
      Engine.newEvents a b = [(0x0363, .gatedExpired, le 2 g.cmd.ty ++ le 4 g.client.transport)]) ∧
  (∀ t high s, Does (.presenceLevelChange t high) t s fun a b => Engine.changesOnly [.pins] a b ∧
    b.pins = if a.pins.presenceHigh = high then a.pins else { a.pins with presenceHigh := high, presenceSince := a.now }) ∧
  (∀ t s, s.eng.pins.sealWatch = true → s.ks.sealFirst = none →
    ∃ b, exec (.sealOpen t) s = .next { s with eng := b, ks := { s.ks with sealFirst := some (dtbSec (s.eng.at t).dtb) } } ∧
      Engine.changesOnly [.pins, .log] (s.eng.at t) b ∧ b.pins.presenceHigh = true ∧
      Engine.newEvents (s.eng.at t) b = [(0x0381, .sealFirst, [])]) ∧
  (∀ t x s, s.eng.pins.sealWatch = true → s.ks.sealFirst = some x → Does (.sealOpen t) t s fun a b =>
    Engine.changesOnly [.pins, .log] a b ∧ b.pins.presenceHigh = true ∧ Engine.newEvents a b = [(0x0381, .sealOpen, [])])

/-- R475 to R485. -/
def Obligations.PresenceExecutesGatedCommands : Prop :=
  (∀ t g id v s, s.pressed t g → g.cmd = .keyLoad 1 id v ((sha512 (le 4 id ++ v)).take 8) → id ≠ 0 → s.eng.sys.lampOpen = false →
    (g.client.isEth = true → s.eng.cb 0x00A0 0 29 = true) → s.ks.pkeyWrites < 10000 →
    ∃ b, exec (.presencePress t true) s = .next { s with
        eng := b, ks := { s.ks with pkey := some ⟨v, id⟩, pkeyWrites := s.ks.pkeyWrites + 1 } } ∧
      Engine.changesOnly [.free, .ctl, .ep, .counters, .log] (s.eng.at t) b ∧ b.ctl.staged = none ∧
      Engine.counted .presencePress 0x0381 (s.eng.at t) b ∧
      Engine.newEvents (s.eng.at t) b = [(0x0380, .keyLoaded, le 1 1 ++ le 4 id),
        (0x0363, .gatedDone, le 2 0x0702 ++ le 4 g.client.transport)]) ∧
  (∀ t g id v s, s.pressed t g → g.cmd = .keyLoad 1 id v ((sha512 (le 4 id ++ v)).take 8) → id ≠ 0 → s.eng.sys.lampOpen = false →
    (g.client.isEth = true → s.eng.cb 0x00A0 0 29 = true) → s.ks.pkeyWrites < 10000 →
    ∃ b k, exec (.presencePress t false) s = .next { s with
        eng := b, ks := { s.ks with pkey := k, pkeyWrites := s.ks.pkeyWrites + 1, fault := true } } ∧
      Engine.changesOnly [.free, .ctl, .ep, .counters, .log] (s.eng.at t) b ∧ b.ctl.staged = none ∧
      Engine.newEvents (s.eng.at t) b = [(0x0380, .keystoreFault, [])]) ∧
  (∀ t g s, s.pressed t g → g.cmd = .keyErase 3 → s.ks.hash ≠ none ∨ s.ks.pkey ≠ none → s.ks.hashWrites < 10000 →
    s.ks.pkeyWrites < 10000 →
    ∃ b, exec (.presencePress t true) s = .next { s with
        eng := b, ks := { s.ks with
          hash := none, pkey := none, hashWrites := s.ks.hashWrites + 1, pkeyWrites := s.ks.pkeyWrites + 1 } } ∧
      Engine.changesOnly [.free, .ctl, .ep, .counters, .log] (s.eng.at t) b ∧ b.ctl.staged = none ∧
      Engine.newEvents (s.eng.at t) b = [(0x0380, .keyErased, []),
        (0x0363, .gatedDone, le 2 0x0703 ++ le 4 g.client.transport)]) ∧
  (∀ t g s, s.pressed t g → g.cmd = .lampOpen → s.eng.cb 0x00A0 0 31 = true → s.eng.sys.lampOpen = false →
    s.ks.hashWrites < 10000 → s.ks.pkeyWrites < 10000 →
    ∃ b, exec (.presencePress t true) s = .next { s with
        eng := b, ks := { s.ks with
          hash := none, pkey := none, hashWrites := s.ks.hashWrites + 1, pkeyWrites := s.ks.pkeyWrites + 1
          lampOpens := s.ks.lampOpens + 1, lampSecs := dtbSec (s.eng.at t).dtb :: s.ks.lampSecs } } ∧
      Engine.changesOnly [.free, .sys, .ctl, .ep, .counters, .log] (s.eng.at t) b ∧ b.ctl.staged = none ∧
      b.sys.lampOpen = true ∧ b.sys.mode = .service ∧ b.sys.lampPins = Vector.replicate 16 none ∧
      Engine.newEvents (s.eng.at t) b = [(0x0382, .lampOpened, []),
        (0x0363, .gatedDone, le 2 0x0704 ++ le 4 g.client.transport)]) ∧
  (∀ t ok g o s, s.pressed t g → g.cmd = .timeStep o → Does (.presencePress t ok) t s fun a b =>
    Engine.changesOnly [.time, .ctl, .ep, .counters, .log] a b ∧ b.ctl.staged = none ∧
    b.time = { a.time with stepDue := some (a.time.stepDue.getD 0 + o * 65536) } ∧
    Engine.newEvents a b = [(0x0363, .gatedDone, le 2 0x0705 ++ le 4 g.client.transport)]) ∧
  (∀ t ok g n s, s.pressed t g → g.cmd = .imageCommit n → decide (n = 1) ∈ s.eng.ctl.complete → s.eng.sys.units = [] →
    Does (.presencePress t ok) t s fun a b => Engine.changesOnly [.sys, .ctl, .counters] a b ∧
      b.sys = { a.sys with committing := true } ∧ b.ctl = { a.ctl with staged := some { g with executing := true } }) ∧
  (∀ t ok g tables fold found s, s.pressed t g → g.cmd = .calCommit tables fold found →
    (∀ k ∈ tablesOf tables, found.testBit k = true ∧ ∀ p, tablePort k = some p → s.eng.cfg.hasPort p = true) →
    s.eng.has 0x0020 = true → s.eng.raw.reload = none → Does (.presencePress t ok) t s fun a b =>
      Engine.changesOnly [.raw, .ctl, .counters] a b ∧ b.ctl.staged = some { g with executing := true } ∧
      ∃ r, b.raw.reload = some r ∧ r.mask = tables ∧ r.cal = true ∧ r.fold = fold ∧ r.cfn = none ∧ r.loads = []) ∧
  (∀ t g s, s.pressed t g → g.cmd = .factoryReset 0x54535246 → s.eng.cfg.fresetEn = true → s.ks.hashWrites < 10000 →
    s.ks.pkeyWrites < 10000 → s.eng.ep.dirty = [] → s.eng.sys.fatalAt = none →
    ∃ b, exec (.presencePress t true) s = .next { s with
        eng := b
        flash := s.flash.setSlot s.eng.sys.inactive []
        ks := { s.ks with
          hash := none, pkey := none, hashWrites := s.ks.hashWrites + 1, pkeyWrites := s.ks.pkeyWrites + 1 } } ∧
      b.sys.phase = .starting 2 ∧ b.ctl.staged = none ∧ b.ctl.xfer = none ∧
      b.ctl.complete = s.eng.ctl.complete.erase s.eng.sys.inactive) ∧
  (∀ t ok g o s, s.eng.sys.phase = .running → s.eng.sys.mode = .service → s.eng.ctl.staged = some g → g.executing = false →
    g.cmd = .timeStep o → g.at_ + ms 50 ≤ (s.eng.at t).now →
    (s.eng.cfg.presenceMode = 1 ∧ s.eng.pins.presenceHigh = false ∨ s.eng.cfg.presenceMode = 2 ∧ s.eng.pins.presenceHigh = true) →
    s.eng.pins.presenceSince + ms 50 ≤ g.at_ → Does (.presenceDecision t ok) t s fun a b =>
      Engine.changesOnly [.time, .ctl, .ep, .counters, .log] a b ∧ b.ctl.staged = none ∧
      b.time = { a.time with stepDue := some (a.time.stepDue.getD 0 + o * 65536) }) ∧
  (∀ t ok g s, s.eng.sys.phase = .running → s.eng.sys.mode = .service → s.eng.ctl.staged = some g → g.executing = false →
    g.at_ + ms 50 ≤ (s.eng.at t).now →
    (s.eng.cfg.presenceMode = 1 ∧ s.eng.pins.presenceHigh = true ∨ s.eng.cfg.presenceMode = 2 ∧ s.eng.pins.presenceHigh = false ∨
      s.eng.cfg.presenceMode ≠ 0 ∧ g.at_ < s.eng.pins.presenceSince + ms 50) → Does (.presenceDecision t ok) t s fun a b =>
      Engine.changesOnly [.ctl, .ep, .counters, .log] a b ∧ b.ctl.staged = none ∧
      Engine.newEvents a b = [(0x0363, .gatedExpired, le 2 g.cmd.ty ++ le 4 g.client.transport)]) ∧
  (∀ t h (pin : Fin 16) probe s, s.takes t h 0x0107 → s.eng.sys.lampOpen = true → probe = 0xFFFF ∨ probe ≤ 0x177F →
    Does (.lampSelect t h pin probe) t s fun a b => Engine.changesOnly [.sys, .ctl, .ep] a b ∧ b.replied h 0x0107 .ok .none [] ∧
      b.sys = { a.sys with
        lampPins := vmod a.sys.lampPins pin fun _ => if probe = 0xFFFF then none else some probe })

/-- R22 to R26 and R450. -/
def Obligations.UnitsRestartAlone : Prop :=
  (∀ t h u k s, s.takes t h 0x0102 → u ≤ 65535 → unitOrdinal u = some k →
    (9 ≤ u / 256 ∨ (u / 256 = 2 ∧ Mode.record ∉ s.eng.modesMet)) → s.eng.unitRun u = none → s.eng.sys.committing = false →
    Does (.unitRestart t h u) t s fun a b => Engine.changesOnly [.sys, .ctl, .ep] a b ∧ b.replied h 0x0102 .ok .none [] ∧
      b.sys = { a.sys with units := a.sys.units ++ [⟨u, .verifying, some h.client, h.seq, a.now, 0, false⟩] }) ∧
  (∀ t h u s, s.takes t h 0x0102 → u ≤ 65535 → unitOrdinal u = none → Does (.unitRestart t h u) t s fun a b =>
    Engine.changesOnly [.ctl, .ep] a b ∧ b.replied h 0x0102 .notFound .none []) ∧
  (∀ t h u k s, s.takes t h 0x0102 → u ≤ 65535 → unitOrdinal u = some k → (s.eng.unitRun u ≠ none ∨ s.eng.sys.committing = true) →
    Does (.unitRestart t h u) t s fun a b => Engine.changesOnly [.ctl, .ep] a b ∧ b.replied h 0x0102 .busy .none []) ∧
  (∀ t h (n : Fin 6) s, s.takes t h 0x0102 → s.eng.unitRun (0x0200 + n) = none → s.eng.sys.committing = false →
    Mode.record ∈ s.eng.modesMet → s.eng.cfg.feedsProxy n = true → Does (.unitRestart t h (0x0200 + n)) t s fun a b =>
      Engine.changesOnly [.ctl, .ep] a b ∧ b.replied h 0x0102 .state .none []) ∧
  (∀ t kind i u r slot s, s.eng.sys.phase = .running → u = 256 * kind + i → s.eng.unitRun u = some r → r.step = .verifying →
    unitSlot (s.eng.activeSlot s.flash) u = some slot →
    (u / 256 ≠ 2 ∧ (s.eng.cfg.takeUnit slot u).broken = none) ∨
      (u / 256 = 2 ∧ s.eng.cfg.branchKept (s.eng.cfg.takeUnit slot u) (u % 256) = true ∧
        (s.eng.cfg.takeUnit slot u).broken (fun c b k => if u = 0x0200 + b then s.eng.storeFits c b k else c.lutFits b k) = none) →
    Does (.restartVerifyDone t kind i) t s fun a b => Engine.changesOnly [.sys] a b ∧
      b.sys = { a.sys with units := a.sys.units.map fun x => if x.unit = u then { x with step := .verified } else x }) ∧
  (∀ t kind i u r s, s.eng.sys.phase = .running → u = 256 * kind + i → s.eng.unitRun u = some r → r.step = .verifying →
    (unitSlot (s.eng.activeSlot s.flash) u = none ∨ ∃ slot, unitSlot (s.eng.activeSlot s.flash) u = some slot ∧
      ((u / 256 ≠ 2 ∧ (s.eng.cfg.takeUnit slot u).broken ≠ none) ∨
        (u / 256 = 2 ∧ s.eng.cfg.branchKept (s.eng.cfg.takeUnit slot u) (u % 256) = false))) →
    Does (.restartVerifyDone t kind i) t s fun a b => Engine.changesOnly [.sys, .ctl, .ep, .counters, .log] a b ∧
      b.sys = { a.sys with units := a.sys.units.filter fun x => x.unit ≠ u } ∧
      b.ctr .restartRejected 0x0350 0 = satNat 0xFFFFFFFF (a.ctr .restartRejected 0x0350 0 + 1) ∧
      Engine.newEvents a b = [(0x0350, .restartRejected, le 2 u ++ le 2 6)]) ∧
  (∀ t (n : Fin 8) r slot s, s.eng.sys.phase = .running → s.eng.unitRun (0x0D00 + n) = some r → r.step = .verified →
    unitSlot (s.eng.activeSlot s.flash) (0x0D00 + n) = some slot → Does (.restartUnitStop t (0x0D00 + n)) t s fun a b =>
      Engine.changesOnly [.sys, .cfg, .pos, .clk] a b ∧ b.cfg = a.cfg.takeUnit slot (0x0D00 + n) ∧
      (∀ k : Fin 8, k ≠ n → b.chan k = a.chan k) ∧ b.chan n = (if a.cfg.posKept b.cfg n = true ∧ (a.chan n).state ≠ 0 then
        { a.chan n with state := 2, keeps := true } else { PosChan.reset with state := 2 }) ∧
      b.sys.mode = a.sys.mode ∧ b.sys.failed = a.sys.failed.filter (· ≠ 37 + n.val) ∧
      ∃ p, b.sys.units = a.sys.units.map fun x =>
        if x.unit = 0x0D00 + n.val then { x with step := .stopped, stoppedAt := a.now, pair := p } else x) ∧
  (∀ t (n : Fin 6) r slot s, s.eng.sys.phase = .running → s.eng.unitRun (0x0200 + n) = some r → r.step = .verified →
    unitSlot (s.eng.activeSlot s.flash) (0x0200 + n) = some slot → Does (.restartUnitStop t (0x0200 + n)) t s fun a b =>
      Engine.changesOnly [.sys, .cfg, .colour, .clk] a b ∧ b.cfg = a.cfg.takeUnit slot (0x0200 + n) ∧
      b.colour = { a.colour with branches := vmod a.colour.branches n fun q => { q with state := .stopped } } ∧
      b.sys.mode = a.sys.mode ∧ b.sys.failed = a.sys.failed.filter (· ≠ 4 + n.val)) ∧
  (∀ t (n : Fin 6) r s, s.eng.sys.phase = .running → s.eng.unitRun (0x0200 + n) = some r → r.step = .stopped →
    Does (.restartDone t (0x0200 + n)) t s fun a b =>
      Engine.changesOnly [.sys, .colour, .ctl, .ep, .counters, .log] a b ∧
      b.sys = { a.sys with units := a.sys.units.filter fun x => x.unit ≠ 0x0200 + n } ∧
      b.colour = { a.colour with branches := vmod a.colour.branches n fun q =>
        { q with state := if s.eng.cfg.hasBranch n then .running else .off } } ∧
      Engine.newEvents a b = [(0x0350, .restartDone, le 2 (0x0200 + n) ++ le 4 ((a.now - r.stoppedAt) / us 1))]) ∧
  (∀ t (n : Fin 8) r s, s.eng.sys.phase = .running → s.eng.unitRun (0x0D00 + n) = some r → r.step = .stopped →
    Does (.restartDone t (0x0D00 + n)) t s fun a b => Engine.changesOnly [.sys, .pos, .ctl, .ep, .counters, .log] a b ∧
      b.pos = { a.pos with chans := vmod a.pos.chans n fun q =>
        { q with state := if s.eng.cfg.posEn n then 1 else 0, keeps := false } } ∧
      Engine.newEvents a b = [(0x0350, .restartDone, le 2 (0x0D00 + n) ++ le 4 ((a.now - r.stoppedAt) / us 1))]) ∧
  (∀ t (n : Fin 6) r s, s.eng.sys.phase = .running → s.eng.unitRun (0x0200 + n) = some r → r.step = .stopped →
    Does (.restartFailed t (0x0200 + n)) t s fun a b =>
      Engine.changesOnly [.sys, .colour, .ctl, .ep, .counters, .log] a b ∧
      b.sys = { a.sys with
        units := a.sys.units.filter fun x => x.unit ≠ 0x0200 + n
        failed := a.sys.failed ++ [4 + n.val] } ∧
      b.colour = { a.colour with branches := vmod a.colour.branches n fun q => { q with state := .failed } } ∧
      Engine.newEvents a b = [(0x0350, .restartFailed, le 2 (0x0200 + n))])

/-- R27, R446, R447 and R503 to R513. -/
def Obligations.StartUpRunsItsSteps : Prop :=
  (∀ t s, s.eng.sys.phase = .starting 1 → Does (.startupStepDone t .rails) t s fun a b =>
    Engine.changesOnly [.sys, .time, .clk, .log, .ctl, .ep, .counters] a b ∧ b.sys.phase = .starting 2 ∧ b.time.origin = a.now ∧ b.dtb = 0 ∧
    b.log.held = [] ∧ b.log.nextSeq = 1 ∧ b.log.ring.map (·.ev) = [.logEpoch] ∧ b.sys.bootFailed = false ∧ b.sys.rejected = []) ∧
  (∀ t n s, s.eng.sys.phase = .starting 2 → s.eng.sys.bootFailed = false →
    ∃ b, exec (.startupStepDone t (.rom true n)) s = .next { s with
        eng := b, flash := { s.flash with slotBytes := min (n / 2) 268435456 } } ∧
      Engine.changesOnly [.sys] (s.eng.at t) b ∧ b.sys = { (s.eng.at t).sys with phase := .starting 3 }) ∧
  (∀ t n s, s.eng.sys.phase = .starting 2 → s.eng.sys.bootFailed = false → Does (.startupStepDone t (.rom false n)) t s fun a b =>
    Engine.changesOnly [.sys] a b ∧ b.sys = { a.sys with bootFailed := true }) ∧
  (∀ t ok s, s.eng.sys.phase = .starting 2 → s.eng.sys.bootFailed = true → Does (.bootRetry t ok) t s fun a b =>
    Engine.changesOnly [.sys] a b ∧ b.sys = { a.sys with bootFailed := !ok }) ∧
  (∀ t va vb (x : Bool) v m c s, s.eng.sys.phase = .starting 3 → s.eng.sys.rejected = [] →
    v = (if x then vb else va) → m = s.flash.slot x → slotFault m s.ks v true = 0 → slotConfig m = some c →
    (slotFault (s.flash.slot (!x)) s.ks (if x then va else vb) true ≠ 0 ∨ slotGeneration (s.flash.slot (!x)) < slotGeneration m ∨
      (x = false ∧ slotGeneration (s.flash.slot (!x)) = slotGeneration m)) →
    Does (.startupStepDone t (.slots va vb)) t s fun a b => Engine.changesOnly [.cfg, .sys, .ctl, .counters, .log] a b ∧
      b.cfg = c ∧ b.sys = { a.sys with
        active := some x
        generation := slotGeneration m
        fwBuild := v.fwBuild
        digests := slotDigests m
        phase := .starting (if s.eng.clk.root = .locked then 5 else 4)
        step4At := a.now }) ∧
  (∀ t va vb s, s.eng.sys.phase = .starting 3 → slotFault s.flash.slotA s.ks va true ≠ 0 →
    slotFault s.flash.slotB s.ks vb true ≠ 0 → Does (.startupStepDone t (.slots va vb)) t s fun a b =>
      Engine.changesOnly [.cfg, .sys, .ctl, .counters, .log] a b ∧ b.cfg = [] ∧ b.sys.phase = .halt 3 ∧ b.sys.active = none) ∧
  (∀ t s, s.eng.sys.phase = .starting 4 → Does (.startupStepDone t .rootLocked) t s fun a b => Engine.changesOnly [.sys] a b ∧
    b.sys = { a.sys with phase := .starting (if s.eng.clk.root = .locked then 5 else 4) }) ∧
  (∀ t eyes s, s.eng.sys.phase = .starting 5 → s.eng.dram.retired = [] → Does (.startupStepDone t (.dram [] eyes)) t s fun a b =>
    Engine.changesOnly [.dram, .sys] a b ∧ b.sys = { a.sys with phase := .starting 6 } ∧
    ∀ r : Fin 32, (b.rank r).state = (if r = 29 ∨ r = 31 then .spare else .active) ∧ (b.rank r).eye = eyes.getD r 0) ∧
  (∀ t eyes (x y z : Fin 32) s, s.eng.sys.phase = .starting 5 → s.eng.dram.retired = [] → x ≠ y → x ≠ z → y ≠ z →
    x ≠ 29 → x ≠ 31 → y ≠ 29 → y ≠ 31 → z ≠ 29 → z ≠ 31 → Does (.startupStepDone t (.dram [x, y, z] eyes)) t s fun a b =>
      Engine.changesOnly [.sys, .log] a b ∧ b.sys = { a.sys with phase := .halt 5 } ∧
      Engine.newEvents a b = [(0x0300 + x.val, .dramTrainFail, []), (0x0300 + y.val, .dramTrainFail, []),
        (0x0300 + z.val, .dramTrainFail, []), (0x0320, .dramNoSpare, le 1 5 ++ le 4 (2 ^ x.val + 2 ^ y.val + 2 ^ z.val))]) ∧
  (∀ t s, s.eng.sys.phase = .starting 6 → Does (.startupStepDone t (.links none)) t s fun a b => Engine.changesOnly [.sys] a b ∧
    b.sys = { a.sys with phase := .starting 7 }) ∧
  (∀ t l s, s.eng.sys.phase = .starting 6 → Does (.startupStepDone t (.links (some l))) t s fun a b =>
    Engine.changesOnly [.sys, .counters, .log] a b ∧ b.sys = { a.sys with phase := .halt 6 } ∧
    Engine.newEvents a b = [(0x0010, .dieLinkFatal, le 1 6 ++ le 1 l)]) ∧
  (∀ t s, s.eng.sys.phase = .starting 7 → s.eng.cfg.broken = none → s.eng.cfg.presenceMode ≠ 2 →
    Does (.startupStepDone t .configured) t s fun a b => b.cfg = a.cfg ∧ b.sys.phase = .running ∧ b.sys.step8At = a.now ∧
      b.sys.mode = (if s.eng.sys.lampOpen then .service else .standby) ∧ b.sys.preview = false ∧
      b.sys.autoDue = (s.eng.cb 1 0 31 && !s.eng.sys.lampOpen)) ∧
  (∀ t s, s.eng.sys.phase = .starting 7 → s.eng.cfg.broken = none → s.eng.cfg.presenceMode = 2 → s.eng.pins.presenceHigh = true →
    s.ks.sealFirst = none → ∃ b, exec (.startupStepDone t .configured) s = .next { s with
        eng := b, ks := { s.ks with sealFirst := some (dtbSec (s.eng.at t).dtb) } } ∧ b.sys.phase = .running ∧ b.pins.sealWatch = true) ∧
  (∀ t id r x s, s.eng.sys.phase = .starting 7 → s.eng.cfg.broken = some (id, r) → s.eng.sys.active = some x →
    Does (.startupStepDone t .configured) t s fun a b => Engine.changesOnly [.cfg, .sys, .log] a b ∧ b.cfg = [] ∧
      b.sys = { a.sys with
        active := none
        generation := 0
        fwBuild := 0
        digests := []
        rejected := x :: a.sys.rejected
        phase := .starting 3 } ∧
      Engine.newEvents a b = [(0x0358, .imageRejected, le 2 id ++ le 2 6)]) ∧
  (∀ t h s, s.takes t h 0x0103 → s.eng.sys.phase = .running → s.eng.sys.mode = .standby → s.eng.sys.fatalAt = none →
    s.eng.ep.dirty = [] → Does (.fullRestart t h) t s fun a b => b.sys.phase = .starting 2 ∧ b.sys.mode = .standby ∧
      b.time.origin = a.now ∧ b.ctl.staged = none ∧ b.ctl.xfer = none ∧ b.replied h 0x0103 .ok .none [] ∧
      b.dram = a.dram ∧ b.power = a.power ∧ b.sys.lampOpen = a.sys.lampOpen) ∧
  (∀ t h x s, s.takes t h 0x0103 → s.eng.sys.phase = .running → s.eng.sys.mode = .standby → s.eng.sys.fatalAt = none →
    x ∈ s.eng.ep.dirty → x.poison = false → Does (.fullRestart t h) t s fun a b => Engine.changesOnly [.sys, .ctl, .ep] a b ∧
      b.sys = { a.sys with restartDue := true } ∧ b.replied h 0x0103 .ok .none []) ∧
  (∀ t h s, s.takes t h 0x0103 → s.eng.sys.mode ≠ .standby → s.eng.sys.mode ≠ .service → Does (.fullRestart t h) t s fun a b =>
    Engine.changesOnly [.ctl, .ep] a b ∧ b.replied h 0x0103 .state .none [])

/-- R9, R273, R452 and R455. -/
def Obligations.CoresAndLinksAreWatched : Prop :=
  (∀ t (c : Fin 4) s, s.eng.sys.phase.firmware = true →
    1 + ((vget s.eng.cluster.cores c Core.reset).resetsAt.filter fun x => decide ((s.eng.at t).now < x + secs 60)).length ≤
      s.eng.cf 1 0 30 28 → Does (.coreWatchdog t c) t s fun a b => Engine.changesOnly [.cluster, .counters, .log] a b ∧
      (vget b.cluster.cores c Core.reset).resets = min 63 ((vget a.cluster.cores c Core.reset).resets + 1) ∧
      (∀ k : Fin 4, k ≠ c → vget b.cluster.cores k Core.reset = vget a.cluster.cores k Core.reset) ∧
      Engine.counted .fwCoreReset (0x0351 + c.val) a b ∧
      Engine.newEvents a b = [(0x0351 + c.val, .fwCoreReset, le 1 c ++ le 1 (vget a.cluster.cores c Core.reset).lastCode)]) ∧
  (∀ t (c : Fin 4) s, s.eng.sys.phase = .running →
    s.eng.cf 1 0 30 28 < 1 + ((vget s.eng.cluster.cores c Core.reset).resetsAt.filter fun x =>
      decide ((s.eng.at t).now < x + secs 60)).length → s.eng.closing = false → s.eng.rec_.takes = [] → s.eng.ep.dirty = [] →
    Does (.coreWatchdog t c) t s fun a b => b.sys.phase = .starting 2 ∧ b.time.origin = a.now ∧ b.power = a.power ∧
      ∃ x ∈ b.cluster.cores, x.resetsAt.head? = some a.now) ∧
  (∀ t (loads peaks slacks : List Nat) (k : Fin 4) s, s.eng.sys.phase.firmware = true → 10 * s.eng.cf 1 0 27 20 < loads.getD k 0 →
    (∀ j : Fin 4, j ≠ k → loads.getD j 0 ≤ 10 * s.eng.cf 1 0 27 20) → (vget s.eng.cluster.cores k Core.reset).high = false →
    Does (.loadSecond t loads peaks slacks) t s fun a b => Engine.changesOnly [.cluster, .log] a b ∧
      (∀ j : Fin 4, (vget b.cluster.cores j Core.reset).load1s = loads.getD j 0 ∧
        (vget b.cluster.cores j Core.reset).loadMax = peaks.getD j 0 ∧
        (vget b.cluster.cores j Core.reset).resets = (vget a.cluster.cores j Core.reset).resets) ∧
      (∀ j : Fin 8, vget b.cluster.slack j 0 = satNat 0xFFFF (slacks.getD j 0)) ∧
      Engine.newEvents a b = [(0x0351 + k.val, .fwLoadHigh, [])]) ∧
  (∀ t l n s, s.eng.sys.phase.firmware = true → n ≤ 16 → Does (.dieLinkError t l n) t s fun a b =>
    Engine.changesOnly [.counters] a b ∧ b.ctr .dieLinkRetry 0x0010 0 = satNat 0xFFFFFFFF (a.ctr .dieLinkRetry 0x0010 0 + n)) ∧
  (∀ t l n s, s.eng.sys.phase = .running → 16 < n → s.eng.closing = false → s.eng.rec_.takes ≠ [] →
    Does (.dieLinkError t l n) t s fun a b => Engine.changesOnly [.counters, .log, .recorder, .sys] a b ∧
      b.sys = { a.sys with fatalAt := some a.now, restartDue := true } ∧ b.rec_ = { a.rec_ with powerStop := true } ∧
      Engine.newEvents a b = [(0x0010, .dieLinkFatal, [])]) ∧
  (∀ t t0 s, s.eng.sys.phase.powered = true → s.eng.power.t0 = some t0 → t0 + ms 100 ≤ (s.eng.at t).now → s.eng.rec_.flushStop = false → s.eng.sys.restartDue = false →
    Does (.powerFailFlush t) t s fun a b => b.rec_.takes = [] ∧ b.rec_.chunks = [] ∧ b.rec_.buffer = [] ∧ b.rec_.flushStop = true ∧
      b.sys = a.sys ∧ b.power = a.power ∧ b.pins = a.pins ∧ b.cfg = a.cfg) ∧
  (∀ t x s, s.eng.sys.phase = .running → s.eng.power.t0 = none → s.eng.power.trip = none → s.eng.sys.fatalAt = some x →
    s.eng.sys.restartDue = true → x + ms 100 ≤ (s.eng.at t).now → s.eng.rec_.flushStop = false → s.eng.ep.dirty = [] →
    Does (.powerFailFlush t) t s fun a b =>
      b.sys.phase = .starting 2 ∧ b.sys.fatalAt = none ∧ b.sys.restartDue = false ∧ b.time.origin = a.now)

/-- R518 to R524, R529 and R530. -/
def Obligations.PowerInputsAndHoldup : Prop :=
  (∀ t (j : Fin 2) plate s, s.eng.sys.phase = .off → vget s.eng.power.qualified j false = false →
    Does (.inputQualified t j plate) t s fun a b => Engine.changesOnly [.power, .pins, .sys] a b ∧
      vget b.power.qualified j false = true ∧ b.power.plate = plate ∧
      b.sys = { a.sys with phase := if plate < s.eng.modId.lowerLimit then .coldHold else .starting 1 } ∧
      b.pins = { a.pins with pwrfailN := decide (s.eng.modId.lowerLimit ≤ plate) }) ∧
  (∀ t plate s, s.eng.sys.phase = .running → vget s.eng.power.qualified 0 false = false → s.eng.power.inUse = some 1 →
    s.eng.power.t0 = none → vget s.eng.power.lost 0 false = true → Does (.inputQualified t 0 plate) t s fun a b =>
      Engine.changesOnly [.power, .counters, .log] a b ∧ b.power.inUse = some 0 ∧ vget b.power.qualified 0 false = true ∧
      vget b.power.lost 0 false = false ∧ Engine.counted .inputSwitch 0x0044 a b ∧
      Engine.newEvents a b = [(0x0040, .inputRestored, []), (0x0044, .inputSwitch, [])]) ∧
  (∀ t s, s.eng.sys.phase.powered = true → s.eng.power.inUse = some 0 → Does (.inputDropout t) t s fun a b =>
    Engine.changesOnly [.counters] a b ∧ Engine.counted .inputDropout 0x0040 a b) ∧
  (∀ t (j : Fin 2) s, s.eng.sys.phase.powered = true → vget s.eng.power.qualified j false = true →
    vget s.eng.power.qualified (1 - j.val) false = true → s.eng.power.inUse = some j.val → Does (.inputLost t j) t s fun a b =>
      Engine.changesOnly [.power, .counters, .log] a b ∧ b.power.inUse = some (1 - j.val) ∧ b.power.t0 = a.power.t0 ∧
      Engine.counted .inputLoss (0x0040 + j.val) a b ∧ Engine.counted .inputSwitch 0x0044 a b ∧
      Engine.newEvents a b = [(0x0040 + j.val, .inputLoss, [0]), (0x0044, .inputSwitch, [])]) ∧
  (∀ t (j : Fin 2) s, s.eng.sys.phase.powered = true → vget s.eng.power.qualified j false = true →
    vget s.eng.power.qualified (1 - j.val) false = false → s.eng.power.inUse = some j.val → Does (.inputLost t j) t s fun a b =>
      Engine.changesOnly [.power, .pins, .recorder, .ep, .counters, .log] a b ∧ b.power.inUse = none ∧
      b.power.t0 = some a.now ∧ b.pins = { a.pins with pwrfailN := false } ∧ b.rec_ = { a.rec_ with powerStop := true } ∧
      b.ep = { a.ep with stopped := true, drained := Vector.replicate 4 0 } ∧ Engine.newEvents a b = [(0x0040 + j.val, .inputLoss, [1])]) ∧
  (∀ t t0 s, s.eng.sys.phase = .running → s.eng.power.t0 = some t0 → t0 + ms 150 ≤ (s.eng.at t).now →
    Does (.powerFailUnitsStop t) t s fun a b =>
    b.sys.phase = .stopped ∧ b.pins.pwren = a.pins.pwren ∧ b.pins.phaseOut = 0 ∧ b.rec_.takes = [] ∧ b.power = a.power ∧
    b.dram = a.dram ∧ b.cfg = a.cfg ∧ ∀ l ∈ b.lanes, l.txPs = 3 ∧ l.rxPs = 3) ∧
  (∀ t t0 s, s.eng.sys.phase.powered = true → s.eng.power.t0 = some t0 → t0 + ms 200 ≤ (s.eng.at t).now →
    Does (.powerFailPwrenOff t) t s fun a b =>
    Engine.changesOnly [.pins] a b ∧
    b.pins = { a.pins with pwren := Vector.replicate 4 false, perstN := Vector.replicate 4 false }) ∧
  (∀ t t0 s, s.eng.power.t0 = some t0 → t0 + ms 210 ≤ (s.eng.at t).now ∨ t0 + ms 10 ≤ (s.eng.at t).now ∧
      (t0 < s.eng.sys.step8At ∨ s.eng.sys.phase = .thermalHalt) → (∀ j : Fin 2, vget s.eng.power.qualified j false = false) →
    ∃ b, exec (.powerFailRailsOff t) s = .next { s with eng := b, ks := { s.ks with fault := false } } ∧ b.sys = Sys.reset ∧
      b.counters = [] ∧ b.log = Log.reset ∧ b.cfg = [] ∧ b.ctl = Control.reset ∧ b.dram = Dram.reset ∧ b.modId = s.eng.modId ∧
      b.now = (s.eng.at t).now) ∧
  (∀ t (j : Fin 2) t0 s, s.eng.power.t0 = some t0 → t0 + ms 210 ≤ (s.eng.at t).now → vget s.eng.power.qualified j false = true →
    s.eng.modId.lowerLimit ≤ s.eng.power.plate →
    ∃ b, exec (.powerFailRailsOff t) s = .next { s with eng := b, ks := { s.ks with fault := false } } ∧
      b.sys = { Sys.reset with phase := .starting 1 } ∧ b.pins.pwrfailN = true ∧ b.log = Log.reset ∧ b.power.t0 = none) ∧
  (∀ t serial hours ok s, s.eng.power.holdup.present = false → Does (.holdupInsert t serial hours ok) t s fun a b =>
    Engine.changesOnly [.power] a b ∧ b.power = { a.power with
      holdup := { Holdup.reset with present := true, idValid := ok, serial := serial, hours := hours } }) ∧
  (∀ t s, s.eng.sys.phase.powered = true → s.eng.power.holdup.present = true → Does (.holdupRemoved t) t s fun a b =>
    Engine.changesOnly [.power, .counters, .log] a b ∧ b.power = { a.power with holdup := Holdup.reset } ∧
    Engine.counted .holdupRemoved 0x0042 a b ∧ Engine.newEvents a b = [(0x0042, .holdupRemoved, [])]) ∧
  (∀ t q s, s.eng.sys.phase.powered = true → s.eng.power.holdup.present = true → s.eng.power.holdup.idValid = true →
    s.eng.power.holdup.fault = false → s.eng.power.holdup.health = some q → 280 ≤ q → s.eng.power.holdup.ready = false →
    Does (.holdupReady t) t s fun a b => Engine.changesOnly [.power, .log] a b ∧
      b.power = { a.power with holdup := { a.power.holdup with charged := true, ready := true } } ∧
      Engine.newEvents a b = [(0x0042, .holdupReady, [])]) ∧
  (∀ t q s, s.eng.sys.phase = .running → s.eng.sys.mode ≠ .record → s.eng.power.t0 = none →
    s.eng.power.holdup.due (s.eng.at t).now = true → s.eng.power.holdup.idValid = true → s.eng.power.holdup.fault = false →
    s.eng.power.holdup.ready = true → 280 ≤ q → Does (.holdupHealthMeasure t q) t s fun a b => Engine.changesOnly [.power] a b ∧
      b.power = { a.power with holdup := { a.power.holdup with health := some q, measuredAt := some a.now } }) ∧
  (∀ t q s, s.eng.sys.phase = .running → s.eng.sys.mode ≠ .record → s.eng.power.t0 = none →
    s.eng.power.holdup.due (s.eng.at t).now = true → q < 280 → Does (.holdupHealthMeasure t q) t s fun a b =>
      Engine.changesOnly [.power, .counters, .log] a b ∧ b.power.holdup.ready = false ∧ b.power.holdup.health = some q ∧
      Engine.counted .holdupFault 0x0042 a b ∧ Engine.newEvents a b = [(0x0042, .holdupFault,
        le 4 q ++ le 4 a.power.holdup.serial ++ le 4 a.power.holdup.hours)]) ∧
  (∀ t s, s.eng.sys.phase = .running → (s.eng.sys.mode = .record ∨ s.eng.power.t0.isSome = true ∨
      s.eng.power.holdup.due (s.eng.at t).now = false) → ∀ q,
    Does (.holdupHealthMeasure t q) t s fun a b => b = a) ∧
  (∀ t s, s.eng.sys.phase.powered = true → s.eng.power.holdup.present = true → Does (.holdupFault t) t s fun a b =>
    Engine.changesOnly [.power, .counters, .log] a b ∧ b.power.holdup = { a.power.holdup with fault := true, ready := false } ∧
    Engine.counted .holdupFault 0x0042 a b)

/-- R528, R529, R530 and R532. -/
def Obligations.HeatAndBankVoltages : Prop :=
  (∀ t plate junction (die : Fin 8) s, s.eng.sys.phase = .running → 550 < plate ∨ 1050 < junction → s.eng.modId.lowerLimit ≤ plate →
    s.eng.power.hot = false ∨ s.eng.power.hotAt + secs 60 ≤ (s.eng.at t).now →
    Does (.thermalDerate t plate junction die) t s fun a b => Engine.changesOnly [.power, .counters, .log] a b ∧
      b.power = { a.power with plate := plate, junction := junction, hot := true, hotAt := a.now } ∧
      (s.eng.power.hot = true → b.counters = a.counters) ∧
      (s.eng.power.hot = false → Engine.counted .thermalDerate 0x0043 a b) ∧
      Engine.newEvents a b = [(0x0043, .thermalDerate, leInt 2 plate ++ leInt 2 junction ++ le 1 die ++ le 1 0)]) ∧
  (∀ t plate junction (die : Fin 8) s, s.eng.sys.phase = .running → plate < s.eng.modId.lowerLimit → junction ≤ 1050 →
    s.eng.power.cold = false ∨ s.eng.power.coldAt + secs 60 ≤ (s.eng.at t).now →
    Does (.thermalDerate t plate junction die) t s fun a b => Engine.changesOnly [.power, .counters, .log] a b ∧
      b.power = { a.power with plate := plate, junction := junction, cold := true, coldAt := a.now } ∧
      (s.eng.power.cold = true → b.counters = a.counters) ∧
      (s.eng.power.cold = false → Engine.counted .thermalDerate 0x0043 a b) ∧
      Engine.newEvents a b = [(0x0043, .thermalDerate, leInt 2 plate ++ leInt 2 junction ++ le 1 die ++ le 1 1)]) ∧
  (∀ t plate junction (die : Fin 8) s, s.eng.sys.phase = .running →
    (550 < plate ∨ 1050 < junction → s.eng.power.hot = true ∧ (s.eng.at t).now < s.eng.power.hotAt + secs 60) →
    (plate < s.eng.modId.lowerLimit → s.eng.power.cold = true ∧ (s.eng.at t).now < s.eng.power.coldAt + secs 60) →
    Does (.thermalDerate t plate junction die) t s fun a b => Engine.changesOnly [.power] a b ∧
      b.power = { a.power with plate := plate, junction := junction }) ∧
  (∀ t plate junction s, s.eng.sys.phase = .running → Does (.thermalDerateClear t plate junction) t s fun a b =>
    Engine.changesOnly [.power] a b ∧ b.power.plate = plate ∧ b.power.junction = junction ∧
    (b.power.hot = true ↔ a.power.hot = true ∧ (530 ≤ plate ∨ 1000 ≤ junction)) ∧
    (b.power.cold = true ↔ a.power.cold = true ∧ plate < s.eng.modId.lowerLimit + 20)) ∧
  (∀ t plate junction (die : Fin 8) s, s.eng.sys.phase = .running → s.eng.power.t0 = none → s.eng.power.trip = none →
    s.eng.modId.deratedLimit < plate ∨ 1150 ≤ junction ∨ plate < s.eng.modId.lowerLimit - 100 →
    Does (.thermalTrip t plate junction die) t s fun a b => Engine.changesOnly [.power, .recorder, .ep, .counters, .log] a b ∧
      b.power.trip = some a.now ∧ b.rec_ = { a.rec_ with powerStop := true } ∧ b.ep = { a.ep with stopped := true, drained := Vector.replicate 4 0 } ∧
      Engine.counted .thermalTrip 0x0043 a b ∧
      Engine.newEvents a b = [(0x0043, .thermalTrip, leInt 2 plate ++ leInt 2 junction ++ le 1 die ++
        le 1 (if s.eng.modId.deratedLimit < plate ∨ 1150 ≤ junction then 0 else 1))]) ∧
  (∀ t plate junction (die : Fin 8) s, s.eng.sys.phase = .running → s.eng.power.t0.isSome = true →
    Does (.thermalTrip t plate junction die) t s fun a b => Engine.changesOnly [.power] a b ∧
      b.power = { a.power with plate := plate, junction := junction }) ∧
  (∀ t x s, s.eng.sys.phase = .running → s.eng.power.t0 = none → s.eng.power.trip = some x → x + ms 150 ≤ (s.eng.at t).now →
    Does (.powerFailUnitsStop t) t s fun a b =>
    b.sys.phase = .thermalHalt ∧ b.pins.pwren = Vector.replicate 4 false ∧ b.rec_.takes = [] ∧ b.power = a.power ∧
    b.sys.restartDue = false) ∧
  (∀ t plate junction s, s.eng.sys.phase = .thermalHalt → s.eng.power.t0 = none →
    (if s.eng.power.coldTrip then s.eng.modId.lowerLimit ≤ plate
      else plate ≤ s.eng.modId.deratedLimit - 100 ∧ junction ≤ 850) →
    Does (.thermalHaltEnd t plate junction) t s fun a b => b.sys.phase = .starting 2 ∧ b.time.origin = a.now ∧
      b.power = { a.power with plate := plate, junction := junction, trip := none, coldTrip := false }) ∧
  (∀ t plate junction s, s.eng.sys.phase = .thermalHalt → s.eng.power.coldTrip = false →
    (s.eng.modId.deratedLimit - 100 < plate ∨ 850 < junction) → Does (.thermalHaltEnd t plate junction) t s fun a b =>
      Engine.changesOnly [.power] a b ∧ b.power = { a.power with plate := plate, junction := junction }) ∧
  (∀ t plate s, s.eng.sys.phase = .coldHold → s.eng.power.t0 = none → s.eng.modId.lowerLimit ≤ plate →
    Does (.coldHoldRelease t plate) t s fun a b => Engine.changesOnly [.power, .pins, .sys] a b ∧
      b.sys = { a.sys with phase := .starting 1 } ∧ b.pins = { a.pins with pwrfailN := true } ∧
      b.power = { a.power with plate := plate }) ∧
  (∀ t (bank : Fin 7) (range : Fin 3) s, Does (.vioChange t bank range) t s fun a b => Engine.changesOnly [.power] a b ∧
    b.power = { a.power with vio := vmod a.power.vio bank fun _ => range })

/-- The state after reset. The blank flash and empty key store are the model's choice (log 3). -/
def Obligations.ResetIsThePoweredOffBlock : Prop :=
  State.reset.pending = [] ∧ State.reset.eng.sys.phase = .off ∧ State.reset.eng.cfg = [] ∧
    (∀ c src i, State.reset.eng.ctr c src i = 0) ∧ State.reset.eng.log = Log.reset ∧ State.reset.eng.log.ring = [] ∧
    State.reset.eng.sys.lampOpen = false ∧ (∀ p : Fin 16, vget State.reset.eng.sys.lampPins p none = none) ∧
    State.reset.eng.pins.presenceHigh = true ∧ State.reset.eng.pins.pwrfailN = false ∧ State.reset.ks.sealFirst = none ∧
    State.reset.ks.lampOpens = 0 ∧ State.reset.ks.fault = false ∧ State.reset.keepsRules

/-- No command but those named ever writes the permanent state, and none breaks its rules. -/
def Obligations.PermanentStateKeptByEveryStep : Prop :=
  ∀ s s' : State, s.keepsRules → step s = .next s' →
    s'.keepsRules ∧ (∀ x, s.ks.sealFirst = some x → s'.ks.sealFirst = some x) ∧
    s.ks.lampOpens ≤ s'.ks.lampOpens ∧ (∃ l, s'.ks.lampSecs = l ++ s.ks.lampSecs) ∧
    s.ks.hashWrites ≤ s'.ks.hashWrites ∧ s.ks.pkeyWrites ≤ s'.ks.pkeyWrites ∧
    (s'.ks.hash ≠ s.ks.hash ∨ s'.ks.pkey ≠ s.ks.pkey ∨ s'.ks.lampOpens ≠ s.ks.lampOpens →
      ∃ t ok, s.pending.head? = some (.presencePress t ok) ∨ s.pending.head? = some (.presenceDecision t ok)) ∧
    (∀ b, s'.flash.slot b ≠ s.flash.slot b → ∃ t,
      (∃ ok, s.pending.head? = some (.presencePress t ok) ∨ s.pending.head? = some (.presenceDecision t ok)) ∨
      (∃ h n g, s.pending.head? = some (.xferBegin t h n g)) ∨ (∃ h o d, s.pending.head? = some (.xferData t h o d)) ∨
      ∃ v, s.pending.head? = some (.commitCheckDone t v)) ∧
    ∀ b, s.eng.sys.active = some b → s'.flash.slot b ≠ s.flash.slot b → ∃ t v, s.pending.head? = some (.commitCheckDone t v)
end

