-- ==== Sys2Proof/Laws/Memory.lean ====
section
/-! SUPPORT. Numbers as bytes, and the addressed memories: what a write leaves, and that it keeps the canonical form. -/

namespace Sys2Proof.Laws
open Sys2Proof Sys2Proof.Machine

/-- Little-endian bytes give their number back. -/
theorem unle_le (n v : Nat) : unle (le n v) = v % 256 ^ n := by
  induction n generalizing v with
  | zero => simp [le, unle, Nat.mod_one]
  | succ n ih =>
    rw [le, unle, ih, BitVec.toNat_ofNat, show 256 ^ (n + 1) = 256 * 256 ^ n from pow_succ' 256 n, Nat.mod_mul]

theorem le_length (n v : Nat) : (le n v).length = n := by
  induction n generalizing v with
  | zero => rfl
  | succ n ih => simp [le, ih]

theorem padTo_length (n : Nat) (bs : List Byte) : (padTo n bs).length = n := by
  induction n generalizing bs with
  | zero => cases bs <;> rfl
  | succ n ih => cases bs <;> simp [padTo, ih]

theorem crcBit_lt (c : Nat) (h : c < 2 ^ 32) : crcBit c < 2 ^ 32 := by
  have h1 : c >>> 1 < 2 ^ 32 := by rw [Nat.shiftRight_eq_div_pow]; omega
  unfold crcBit
  split
  · exact Nat.xor_lt_two_pow h1 (by norm_num)
  · exact h1

theorem crcRun_lt (bs : List Byte) (c : Nat) (h : c < 2 ^ 32) : crcRun c bs < 2 ^ 32 := by
  induction bs generalizing c with
  | nil => exact h
  | cons b r ih =>
    refine ih _ ?_
    unfold crcByte
    have : c ^^^ b.toNat < 2 ^ 32 := Nat.xor_lt_two_pow h (by omega)
    repeat (first | exact this | refine crcBit_lt _ ?_)

/-- A CRC-32C is a 32-bit number. -/
theorem crc32c_lt (bs : List Byte) : crc32c bs < 2 ^ 32 := Nat.xor_lt_two_pow (crcRun_lt bs _ (by norm_num)) (by norm_num)

/-- A CRC stored in four bytes reads back. -/
theorem unle_crc (bs : List Byte) : unle (le 4 (crc32c bs)) = crc32c bs := by
  rw [unle_le]; exact Nat.mod_eq_of_lt (crc32c_lt bs)

theorem cellsOf_key {d : Byte} {a : Nat} {bs : List Byte} {c : Host.Cell} (h : c ∈ cellsOf d a bs) : a ≤ c.1 ∧ c.1 < a + bs.length := by
  induction bs generalizing a with
  | nil => simp [cellsOf] at h
  | cons b r ih =>
    unfold cellsOf at h
    split at h
    · have := ih h
      simp only [List.length_cons]; omega
    · rcases List.mem_cons.1 h with rfl | h
      · simp
      · have := ih h
        simp only [List.length_cons]; omega

theorem memRead_append {d : Byte} {l m : List Host.Cell} {k : Nat} (h : ∀ c ∈ l, c.1 ≠ k) : memRead d (l ++ m) k = memRead d m k := by
  induction l with
  | nil => rfl
  | cons c r ih =>
    rw [List.cons_append, memRead, if_neg (h c (by simp)), ih fun x hx => h x (by simp [hx])]

theorem memRead_none {d : Byte} {m : List Host.Cell} {k : Nat} (h : ∀ c ∈ m, c.1 ≠ k) : memRead d m k = d := by
  simpa [memRead] using memRead_append (d := d) (m := []) h

theorem memRead_cellsOf {d : Byte} {a k : Nat} {bs : List Byte} {m : List Host.Cell} (h : ∀ c ∈ m, c.1 ≠ k) (ha : a ≤ k) :
    memRead d (cellsOf d a bs ++ m) k = bs.getD (k - a) d := by
  induction bs generalizing a with
  | nil => simpa [cellsOf] using memRead_none h
  | cons b r ih =>
    unfold cellsOf
    by_cases hk : a = k
    · subst hk
      have hr : ∀ c ∈ cellsOf d (a + 1) r, c.1 ≠ a := fun c hc => by have := cellsOf_key hc; omega
      split
      · rename_i e
        rw [memRead_append hr, memRead_none h]; simp [e]
      · simp [memRead]
    · have := ih (a := a + 1) (by omega)
      have e : k - a = k - (a + 1) + 1 := by omega
      split
      · rw [this, e, List.getD_cons_succ]
      · rw [List.cons_append, memRead, if_neg hk, this, e, List.getD_cons_succ]

/-- Bytes read inside a run of cells are the run's. -/
theorem memBytes_run {d : Byte} {a n off : Nat} {bs : List Byte} {l m : List Host.Cell} (hl : ∀ c ∈ l, c.1 < a)
    (hm : ∀ c ∈ m, a + bs.length ≤ c.1) (h : off + n ≤ bs.length) :
    memBytes d (l ++ (cellsOf d a bs ++ m)) n (a + off) = (bs.drop off).take n := by
  induction n generalizing off with
  | zero => simp [memBytes]
  | succ n ih =>
    have hn : off + 1 + n ≤ bs.length := by omega
    have ho : off < bs.length := by omega
    rw [memBytes, memRead_append fun c hc => by have := hl c hc; omega,
      memRead_cellsOf (fun c hc => by have := hm c hc; omega) (by omega), show a + off + 1 = a + (off + 1) by omega,
      ih hn, List.drop_eq_getElem_cons ho, List.take_succ_cons, Nat.add_sub_cancel_left, List.getD_eq_getElem?_getD,
      List.getElem?_eq_getElem ho]
    rfl

/-- A read after a write of the same bytes gives what was written, whatever the memory was. -/
theorem memWrite_read (d : Byte) (m : List Host.Cell) (a : Nat) (bs : List Byte) :
    memBytes d (memWrite d m a bs) bs.length a = bs := by
  have := memBytes_run (d := d) (a := a) (off := 0) (n := bs.length) (bs := bs) (l := m.filter fun c => c.1 < a)
    (m := m.filter fun c => a + bs.length ≤ c.1) (fun c hc => by simpa using (List.mem_filter.1 hc).2)
    (fun c hc => by simpa using (List.mem_filter.1 hc).2) (by omega)
  simpa [memWrite] using this

theorem memRead_filter {d : Byte} {m : List Host.Cell} {k : Nat} {q : Host.Cell → Bool} (h : ∀ c : Host.Cell, c.1 = k → q c = true) :
    memRead d (m.filter q) k = memRead d m k := by
  induction m with
  | nil => rfl
  | cons c r ih =>
    by_cases hc : c.1 = k
    · simp [h c hc, memRead, hc]
    · by_cases hq : q c = true
      · simp [hq, memRead, hc, ih]
      · simp [hq, memRead, hc, ih]

/-- A write leaves every other byte alone. -/
theorem memWrite_other {d : Byte} {m : List Host.Cell} {a k : Nat} {bs : List Byte} (h : k < a ∨ a + bs.length ≤ k) :
    memRead d (memWrite d m a bs) k = memRead d m k := by
  unfold memWrite
  rcases h with h | h
  · by_cases hk : ∃ c ∈ m, c.1 = k
    · have e : ∀ c ∈ cellsOf d a bs ++ m.filter (fun c => a + bs.length ≤ c.1), c.1 ≠ k := by
        intro c hc
        rcases List.mem_append.1 hc with hc | hc
        · have := cellsOf_key hc; omega
        · have : a + bs.length ≤ c.1 := by simpa using (List.mem_filter.1 hc).2
          omega
      have r (l n : List Host.Cell) (hn : ∀ c ∈ n, c.1 ≠ k) : memRead d (l ++ n) k = memRead d l k := by
        induction l with
        | nil => simpa [memRead] using memRead_none hn
        | cons c l ih => simp [memRead, ih]
      rw [List.append_assoc, r _ _ e, memRead_filter fun c hc => by simp [hc, h]]
    · rw [memRead_none (m := m) fun c hc e => hk ⟨c, hc, e⟩, memRead_none]
      intro c hc e
      rcases List.mem_append.1 hc with hc | hc
      · rcases List.mem_append.1 hc with hc | hc
        · exact hk ⟨c, (List.mem_filter.1 hc).1, e⟩
        · have := cellsOf_key hc; omega
      · exact hk ⟨c, (List.mem_filter.1 hc).1, e⟩
  · rw [memRead_append, memRead_filter fun c hc => by simp [hc, h]]
    intro c hc
    rcases List.mem_append.1 hc with hc | hc
    · have : c.1 < a := by simpa using (List.mem_filter.1 hc).2
      omega
    · have := cellsOf_key hc; omega

/-- The canonical form, as a statement about each pair of cells. -/
theorem memWf_iff (d : Byte) (m : List Host.Cell) :
    memWf d m = true ↔ (∀ c ∈ m, c.2 ≠ d) ∧ m.Pairwise fun x y => x.1 < y.1 := by
  have t : ∀ m : List Host.Cell, memWf d m = true → ∀ c, m.head? = some c → ∀ x ∈ m.tail, c.1 < x.1 := by
    intro m
    induction m with
    | nil => simp
    | cons a r ih =>
      intro h c hc x hx
      obtain rfl : a = c := by simpa using hc
      cases r with
      | nil => simp at hx
      | cons b r =>
        simp only [memWf, Bool.and_eq_true, decide_eq_true_eq] at h
        rcases List.mem_cons.1 (by simpa using hx) with rfl | hx
        · exact h.1.2
        · exact lt_trans h.1.2 (ih h.2 b rfl x (by simpa using hx))
  induction m with
  | nil => simp [memWf]
  | cons a r ih =>
    constructor
    · intro h
      have ht := t _ h a rfl
      cases r with
      | nil => simpa [memWf] using h
      | cons b r =>
        simp only [memWf, Bool.and_eq_true, decide_eq_true_eq, bne_iff_ne, ne_eq] at h
        obtain ⟨h1, h2⟩ := ih.1 h.2
        exact ⟨List.forall_mem_cons.2 ⟨h.1.1, h1⟩, List.pairwise_cons.2 ⟨by simpa using ht, h2⟩⟩
    · rintro ⟨h1, h2⟩
      have hr := ih.2 ⟨fun c hc => h1 c (by simp [hc]), (List.pairwise_cons.1 h2).2⟩
      cases r with
      | nil => simpa [memWf] using h1 a (by simp)
      | cons b r =>
        simp only [memWf, Bool.and_eq_true, decide_eq_true_eq, bne_iff_ne, ne_eq]
        exact ⟨⟨h1 a (by simp), (List.pairwise_cons.1 h2).1 b (by simp)⟩, hr⟩

theorem cellsOf_wf (d : Byte) (a : Nat) (bs : List Byte) :
    (∀ c ∈ cellsOf d a bs, c.2 ≠ d) ∧ (cellsOf d a bs).Pairwise fun x y => x.1 < y.1 := by
  induction bs generalizing a with
  | nil => simp [cellsOf]
  | cons b r ih =>
    obtain ⟨h1, h2⟩ := ih (a + 1)
    unfold cellsOf
    split
    · exact ⟨h1, h2⟩
    · rename_i hb
      exact ⟨List.forall_mem_cons.2 ⟨hb, h1⟩, List.pairwise_cons.2 ⟨fun c hc => by have := cellsOf_key hc; omega, h2⟩⟩

/-- A write keeps the canonical form. -/
theorem memWrite_wf {d : Byte} {m : List Host.Cell} (a : Nat) (bs : List Byte) (h : memWf d m = true) :
    memWf d (memWrite d m a bs) = true := by
  obtain ⟨h1, h2⟩ := (memWf_iff d m).1 h
  obtain ⟨c1, c2⟩ := cellsOf_wf d a bs
  refine (memWf_iff d _).2 ⟨fun c hc => ?_, ?_⟩
  · simp only [memWrite, List.mem_append, List.mem_filter] at hc
    rcases hc with (hc | hc) | hc
    · exact h1 c hc.1
    · exact c1 c hc
    · exact h1 c hc.1
  · unfold memWrite
    refine List.pairwise_append.2 ⟨List.pairwise_append.2 ⟨h2.filter _, c2, fun x hx y hy => ?_⟩, h2.filter _, fun x hx y hy => ?_⟩
    · have := cellsOf_key hy
      have : x.1 < a := by simpa using (List.mem_filter.1 hx).2
      omega
    · have hy' : a + bs.length ≤ y.1 := by simpa using (List.mem_filter.1 hy).2
      rcases List.mem_append.1 hx with hx | hx
      · have : x.1 < a := by simpa using (List.mem_filter.1 hx).2
        omega
      · have := cellsOf_key hx; omega

/-- Cells taken out leave the canonical form. -/
theorem memWf_filter {d : Byte} {m : List Host.Cell} (q : Host.Cell → Bool) (h : memWf d m = true) : memWf d (m.filter q) = true := by
  obtain ⟨h1, h2⟩ := (memWf_iff d m).1 h
  exact (memWf_iff d _).2 ⟨fun c hc => h1 c (List.mem_filter.1 hc).1, h2.filter _⟩

/-- The memories are in canonical form after reset. -/
theorem reset_memories_wf : memWf 0 State.reset.eng.dram.mem = true ∧ memWf 0xFF State.reset.flash.slotA = true ∧
    memWf 0xFF State.reset.flash.slotB = true ∧ ns5Wf State.reset.eng.ep.ns5 = true := ⟨rfl, rfl, rfl, rfl⟩

theorem ns5Wf_iff (m : List Host.Cell) : ns5Wf m = true ↔ m.Pairwise fun x y => x.1 < y.1 := by
  have e : ∀ m : List Host.Cell, ns5Wf m = decide (m.IsChain fun x y => x.1 < y.1) := by
    intro m
    induction m with
    | nil => simp [ns5Wf]
    | cons a r ih => cases r with
      | nil => simp [ns5Wf]
      | cons b r => rw [ns5Wf, ih]; simp [List.isChain_cons_cons]
  have : IsTrans Host.Cell fun x y => x.1 < y.1 := ⟨fun _ _ _ => lt_trans⟩
  rw [e, decide_eq_true_eq, List.isChain_iff_pairwise]

/-- A write to NS5 keeps its form. -/
theorem ns5Put_wf {m : List Host.Cell} (a : Nat) (bs : List Byte) (h : ns5Wf m = true) : ns5Wf (ns5Put m a bs) = true := by
  have h2 := (ns5Wf_iff m).1 h
  have k : ∀ x ∈ bs.mapIdx (fun i b => (a + i, b)), a ≤ x.1 ∧ x.1 < a + bs.length := by
    intro x hx
    obtain ⟨i, hi, rfl⟩ := List.mem_mapIdx.1 hx
    simp only; omega
  refine (ns5Wf_iff _).2 (List.pairwise_append.2 ⟨List.pairwise_append.2 ⟨h2.filter _, ?_, fun x hx y hy => ?_⟩, h2.filter _,
    fun x hx y hy => ?_⟩)
  · rw [List.pairwise_iff_getElem]
    intro i j hi hj hij
    simpa using hij
  · have := k y hy
    have : x.1 < a := by simpa using (List.mem_filter.1 hx).2
    omega
  · have hy' : a + bs.length ≤ y.1 := by simpa using (List.mem_filter.1 hy).2
    rcases List.mem_append.1 hx with hx | hx
    · have : x.1 < a := by simpa using (List.mem_filter.1 hx).2
      omega
    · have := k x hx; omega

end Sys2Proof.Laws
end

