-- ==== Sys2Proof/Laws/State.lean ====
section
/-! SUPPORT. What each plain update of the engine leaves alone, field by field: every lemma is true by unfolding, so no later
proof unfolds a record update. -/

namespace Sys2Proof.Machine

section modSrc
variable (m : Nat) (f : AudSrc → AudSrc) (e : Engine)
@[simp] theorem Engine.modSrc_now : (e.modSrc m f).now = e.now := rfl
@[simp] theorem Engine.modSrc_free : (e.modSrc m f).free = e.free := rfl
@[simp] theorem Engine.modSrc_cfg : (e.modSrc m f).cfg = e.cfg := rfl
@[simp] theorem Engine.modSrc_counters : (e.modSrc m f).counters = e.counters := rfl
@[simp] theorem Engine.modSrc_log : (e.modSrc m f).log = e.log := rfl
@[simp] theorem Engine.modSrc_ctl : (e.modSrc m f).ctl = e.ctl := rfl
@[simp] theorem Engine.modSrc_sys : (e.modSrc m f).sys = e.sys := rfl
@[simp] theorem Engine.modSrc_modId : (e.modSrc m f).modId = e.modId := rfl
@[simp] theorem Engine.modSrc_power : (e.modSrc m f).power = e.power := rfl
@[simp] theorem Engine.modSrc_pins : (e.modSrc m f).pins = e.pins := rfl
@[simp] theorem Engine.modSrc_cluster : (e.modSrc m f).cluster = e.cluster := rfl
@[simp] theorem Engine.modSrc_lanes : (e.modSrc m f).lanes = e.lanes := rfl
@[simp] theorem Engine.modSrc_ports : (e.modSrc m f).ports = e.ports := rfl
@[simp] theorem Engine.modSrc_proj : (e.modSrc m f).proj = e.proj := rfl
@[simp] theorem Engine.modSrc_phaseIn : (e.modSrc m f).phaseIn = e.phaseIn := rfl
@[simp] theorem Engine.modSrc_aux : (e.modSrc m f).aux = e.aux := rfl
@[simp] theorem Engine.modSrc_time : (e.modSrc m f).time = e.time := rfl
@[simp] theorem Engine.modSrc_clk : (e.modSrc m f).clk = e.clk := rfl
@[simp] theorem Engine.modSrc_raw : (e.modSrc m f).raw = e.raw := rfl
@[simp] theorem Engine.modSrc_colour : (e.modSrc m f).colour = e.colour := rfl
@[simp] theorem Engine.modSrc_fsr : (e.modSrc m f).fsr = e.fsr := rfl
@[simp] theorem Engine.modSrc_pos : (e.modSrc m f).pos = e.pos := rfl
@[simp] theorem Engine.modSrc_hevc : (e.modSrc m f).hevc = e.hevc := rfl
@[simp] theorem Engine.modSrc_md : (e.modSrc m f).md = e.md := rfl
@[simp] theorem Engine.modSrc_rec : (e.modSrc m f).rec_ = e.rec_ := rfl
@[simp] theorem Engine.modSrc_ep : (e.modSrc m f).ep = e.ep := rfl
@[simp] theorem Engine.modSrc_outs : (e.modSrc m f).outs = e.outs := rfl
@[simp] theorem Engine.modSrc_dram : (e.modSrc m f).dram = e.dram := rfl
@[simp] theorem Engine.modSrc_grotto : (e.modSrc m f).grotto = e.grotto := rfl
@[simp] theorem Engine.modSrc_aud : (e.modSrc m f).aud = { e.aud with srcs := vmod e.aud.srcs m f } := rfl
end modSrc

section modOut
variable (o : Nat) (f : AudOut → AudOut) (e : Engine)
@[simp] theorem Engine.modOut_now : (e.modOut o f).now = e.now := rfl
@[simp] theorem Engine.modOut_free : (e.modOut o f).free = e.free := rfl
@[simp] theorem Engine.modOut_cfg : (e.modOut o f).cfg = e.cfg := rfl
@[simp] theorem Engine.modOut_counters : (e.modOut o f).counters = e.counters := rfl
@[simp] theorem Engine.modOut_log : (e.modOut o f).log = e.log := rfl
@[simp] theorem Engine.modOut_ctl : (e.modOut o f).ctl = e.ctl := rfl
@[simp] theorem Engine.modOut_sys : (e.modOut o f).sys = e.sys := rfl
@[simp] theorem Engine.modOut_modId : (e.modOut o f).modId = e.modId := rfl
@[simp] theorem Engine.modOut_power : (e.modOut o f).power = e.power := rfl
@[simp] theorem Engine.modOut_pins : (e.modOut o f).pins = e.pins := rfl
@[simp] theorem Engine.modOut_cluster : (e.modOut o f).cluster = e.cluster := rfl
@[simp] theorem Engine.modOut_lanes : (e.modOut o f).lanes = e.lanes := rfl
@[simp] theorem Engine.modOut_ports : (e.modOut o f).ports = e.ports := rfl
@[simp] theorem Engine.modOut_proj : (e.modOut o f).proj = e.proj := rfl
@[simp] theorem Engine.modOut_phaseIn : (e.modOut o f).phaseIn = e.phaseIn := rfl
@[simp] theorem Engine.modOut_aux : (e.modOut o f).aux = e.aux := rfl
@[simp] theorem Engine.modOut_time : (e.modOut o f).time = e.time := rfl
@[simp] theorem Engine.modOut_clk : (e.modOut o f).clk = e.clk := rfl
@[simp] theorem Engine.modOut_raw : (e.modOut o f).raw = e.raw := rfl
@[simp] theorem Engine.modOut_colour : (e.modOut o f).colour = e.colour := rfl
@[simp] theorem Engine.modOut_fsr : (e.modOut o f).fsr = e.fsr := rfl
@[simp] theorem Engine.modOut_pos : (e.modOut o f).pos = e.pos := rfl
@[simp] theorem Engine.modOut_hevc : (e.modOut o f).hevc = e.hevc := rfl
@[simp] theorem Engine.modOut_md : (e.modOut o f).md = e.md := rfl
@[simp] theorem Engine.modOut_rec : (e.modOut o f).rec_ = e.rec_ := rfl
@[simp] theorem Engine.modOut_ep : (e.modOut o f).ep = e.ep := rfl
@[simp] theorem Engine.modOut_outs : (e.modOut o f).outs = e.outs := rfl
@[simp] theorem Engine.modOut_dram : (e.modOut o f).dram = e.dram := rfl
@[simp] theorem Engine.modOut_grotto : (e.modOut o f).grotto = e.grotto := rfl
@[simp] theorem Engine.modOut_aud : (e.modOut o f).aud = { e.aud with outs := vmod e.aud.outs o f } := rfl
end modOut

section modClk
variable (f : Clk → Clk) (e : Engine)
@[simp] theorem Engine.modClk_now : (e.modClk f).now = e.now := rfl
@[simp] theorem Engine.modClk_free : (e.modClk f).free = e.free := rfl
@[simp] theorem Engine.modClk_cfg : (e.modClk f).cfg = e.cfg := rfl
@[simp] theorem Engine.modClk_counters : (e.modClk f).counters = e.counters := rfl
@[simp] theorem Engine.modClk_log : (e.modClk f).log = e.log := rfl
@[simp] theorem Engine.modClk_ctl : (e.modClk f).ctl = e.ctl := rfl
@[simp] theorem Engine.modClk_sys : (e.modClk f).sys = e.sys := rfl
@[simp] theorem Engine.modClk_modId : (e.modClk f).modId = e.modId := rfl
@[simp] theorem Engine.modClk_power : (e.modClk f).power = e.power := rfl
@[simp] theorem Engine.modClk_pins : (e.modClk f).pins = e.pins := rfl
@[simp] theorem Engine.modClk_cluster : (e.modClk f).cluster = e.cluster := rfl
@[simp] theorem Engine.modClk_lanes : (e.modClk f).lanes = e.lanes := rfl
@[simp] theorem Engine.modClk_ports : (e.modClk f).ports = e.ports := rfl
@[simp] theorem Engine.modClk_proj : (e.modClk f).proj = e.proj := rfl
@[simp] theorem Engine.modClk_phaseIn : (e.modClk f).phaseIn = e.phaseIn := rfl
@[simp] theorem Engine.modClk_aux : (e.modClk f).aux = e.aux := rfl
@[simp] theorem Engine.modClk_time : (e.modClk f).time = e.time := rfl
@[simp] theorem Engine.modClk_raw : (e.modClk f).raw = e.raw := rfl
@[simp] theorem Engine.modClk_colour : (e.modClk f).colour = e.colour := rfl
@[simp] theorem Engine.modClk_fsr : (e.modClk f).fsr = e.fsr := rfl
@[simp] theorem Engine.modClk_pos : (e.modClk f).pos = e.pos := rfl
@[simp] theorem Engine.modClk_aud : (e.modClk f).aud = e.aud := rfl
@[simp] theorem Engine.modClk_hevc : (e.modClk f).hevc = e.hevc := rfl
@[simp] theorem Engine.modClk_md : (e.modClk f).md = e.md := rfl
@[simp] theorem Engine.modClk_rec : (e.modClk f).rec_ = e.rec_ := rfl
@[simp] theorem Engine.modClk_ep : (e.modClk f).ep = e.ep := rfl
@[simp] theorem Engine.modClk_outs : (e.modClk f).outs = e.outs := rfl
@[simp] theorem Engine.modClk_dram : (e.modClk f).dram = e.dram := rfl
@[simp] theorem Engine.modClk_grotto : (e.modClk f).grotto = e.grotto := rfl
@[simp] theorem Engine.modClk_clk : (e.modClk f).clk = f e.clk := rfl
end modClk

section modMedia
variable (m : Nat) (f : MediaPort → MediaPort) (e : Engine)
@[simp] theorem Engine.modMedia_now : (e.modMedia m f).now = e.now := rfl
@[simp] theorem Engine.modMedia_free : (e.modMedia m f).free = e.free := rfl
@[simp] theorem Engine.modMedia_cfg : (e.modMedia m f).cfg = e.cfg := rfl
@[simp] theorem Engine.modMedia_counters : (e.modMedia m f).counters = e.counters := rfl
@[simp] theorem Engine.modMedia_log : (e.modMedia m f).log = e.log := rfl
@[simp] theorem Engine.modMedia_ctl : (e.modMedia m f).ctl = e.ctl := rfl
@[simp] theorem Engine.modMedia_sys : (e.modMedia m f).sys = e.sys := rfl
@[simp] theorem Engine.modMedia_modId : (e.modMedia m f).modId = e.modId := rfl
@[simp] theorem Engine.modMedia_power : (e.modMedia m f).power = e.power := rfl
@[simp] theorem Engine.modMedia_pins : (e.modMedia m f).pins = e.pins := rfl
@[simp] theorem Engine.modMedia_cluster : (e.modMedia m f).cluster = e.cluster := rfl
@[simp] theorem Engine.modMedia_lanes : (e.modMedia m f).lanes = e.lanes := rfl
@[simp] theorem Engine.modMedia_ports : (e.modMedia m f).ports = e.ports := rfl
@[simp] theorem Engine.modMedia_proj : (e.modMedia m f).proj = e.proj := rfl
@[simp] theorem Engine.modMedia_phaseIn : (e.modMedia m f).phaseIn = e.phaseIn := rfl
@[simp] theorem Engine.modMedia_aux : (e.modMedia m f).aux = e.aux := rfl
@[simp] theorem Engine.modMedia_time : (e.modMedia m f).time = e.time := rfl
@[simp] theorem Engine.modMedia_clk : (e.modMedia m f).clk = e.clk := rfl
@[simp] theorem Engine.modMedia_raw : (e.modMedia m f).raw = e.raw := rfl
@[simp] theorem Engine.modMedia_colour : (e.modMedia m f).colour = e.colour := rfl
@[simp] theorem Engine.modMedia_fsr : (e.modMedia m f).fsr = e.fsr := rfl
@[simp] theorem Engine.modMedia_pos : (e.modMedia m f).pos = e.pos := rfl
@[simp] theorem Engine.modMedia_aud : (e.modMedia m f).aud = e.aud := rfl
@[simp] theorem Engine.modMedia_hevc : (e.modMedia m f).hevc = e.hevc := rfl
@[simp] theorem Engine.modMedia_md : (e.modMedia m f).md = e.md := rfl
@[simp] theorem Engine.modMedia_ep : (e.modMedia m f).ep = e.ep := rfl
@[simp] theorem Engine.modMedia_outs : (e.modMedia m f).outs = e.outs := rfl
@[simp] theorem Engine.modMedia_dram : (e.modMedia m f).dram = e.dram := rfl
@[simp] theorem Engine.modMedia_grotto : (e.modMedia m f).grotto = e.grotto := rfl
@[simp] theorem Engine.modMedia_rec : (e.modMedia m f).rec_ = { e.rec_ with ports := vmod e.rec_.ports m f } := rfl
end modMedia

section modStream
variable (s : Nat) (f : FsrStream → FsrStream) (e : Engine)
@[simp] theorem Engine.modStream_now : (e.modStream s f).now = e.now := rfl
@[simp] theorem Engine.modStream_free : (e.modStream s f).free = e.free := rfl
@[simp] theorem Engine.modStream_cfg : (e.modStream s f).cfg = e.cfg := rfl
@[simp] theorem Engine.modStream_counters : (e.modStream s f).counters = e.counters := rfl
@[simp] theorem Engine.modStream_log : (e.modStream s f).log = e.log := rfl
@[simp] theorem Engine.modStream_ctl : (e.modStream s f).ctl = e.ctl := rfl
@[simp] theorem Engine.modStream_sys : (e.modStream s f).sys = e.sys := rfl
@[simp] theorem Engine.modStream_modId : (e.modStream s f).modId = e.modId := rfl
@[simp] theorem Engine.modStream_power : (e.modStream s f).power = e.power := rfl
@[simp] theorem Engine.modStream_pins : (e.modStream s f).pins = e.pins := rfl
@[simp] theorem Engine.modStream_cluster : (e.modStream s f).cluster = e.cluster := rfl
@[simp] theorem Engine.modStream_lanes : (e.modStream s f).lanes = e.lanes := rfl
@[simp] theorem Engine.modStream_ports : (e.modStream s f).ports = e.ports := rfl
@[simp] theorem Engine.modStream_proj : (e.modStream s f).proj = e.proj := rfl
@[simp] theorem Engine.modStream_phaseIn : (e.modStream s f).phaseIn = e.phaseIn := rfl
@[simp] theorem Engine.modStream_aux : (e.modStream s f).aux = e.aux := rfl
@[simp] theorem Engine.modStream_time : (e.modStream s f).time = e.time := rfl
@[simp] theorem Engine.modStream_clk : (e.modStream s f).clk = e.clk := rfl
@[simp] theorem Engine.modStream_raw : (e.modStream s f).raw = e.raw := rfl
@[simp] theorem Engine.modStream_colour : (e.modStream s f).colour = e.colour := rfl
@[simp] theorem Engine.modStream_pos : (e.modStream s f).pos = e.pos := rfl
@[simp] theorem Engine.modStream_aud : (e.modStream s f).aud = e.aud := rfl
@[simp] theorem Engine.modStream_hevc : (e.modStream s f).hevc = e.hevc := rfl
@[simp] theorem Engine.modStream_md : (e.modStream s f).md = e.md := rfl
@[simp] theorem Engine.modStream_rec : (e.modStream s f).rec_ = e.rec_ := rfl
@[simp] theorem Engine.modStream_ep : (e.modStream s f).ep = e.ep := rfl
@[simp] theorem Engine.modStream_outs : (e.modStream s f).outs = e.outs := rfl
@[simp] theorem Engine.modStream_dram : (e.modStream s f).dram = e.dram := rfl
@[simp] theorem Engine.modStream_grotto : (e.modStream s f).grotto = e.grotto := rfl
@[simp] theorem Engine.modStream_fsr : (e.modStream s f).fsr = { e.fsr with streams := vmod e.fsr.streams s f } := rfl
end modStream

section modLane
variable (l : Nat) (f : Lane → Lane) (e : Engine)
@[simp] theorem Engine.modLane_now : (e.modLane l f).now = e.now := rfl
@[simp] theorem Engine.modLane_free : (e.modLane l f).free = e.free := rfl
@[simp] theorem Engine.modLane_cfg : (e.modLane l f).cfg = e.cfg := rfl
@[simp] theorem Engine.modLane_counters : (e.modLane l f).counters = e.counters := rfl
@[simp] theorem Engine.modLane_log : (e.modLane l f).log = e.log := rfl
@[simp] theorem Engine.modLane_ctl : (e.modLane l f).ctl = e.ctl := rfl
@[simp] theorem Engine.modLane_sys : (e.modLane l f).sys = e.sys := rfl
@[simp] theorem Engine.modLane_modId : (e.modLane l f).modId = e.modId := rfl
@[simp] theorem Engine.modLane_power : (e.modLane l f).power = e.power := rfl
@[simp] theorem Engine.modLane_pins : (e.modLane l f).pins = e.pins := rfl
@[simp] theorem Engine.modLane_cluster : (e.modLane l f).cluster = e.cluster := rfl
@[simp] theorem Engine.modLane_ports : (e.modLane l f).ports = e.ports := rfl
@[simp] theorem Engine.modLane_proj : (e.modLane l f).proj = e.proj := rfl
@[simp] theorem Engine.modLane_phaseIn : (e.modLane l f).phaseIn = e.phaseIn := rfl
@[simp] theorem Engine.modLane_aux : (e.modLane l f).aux = e.aux := rfl
@[simp] theorem Engine.modLane_time : (e.modLane l f).time = e.time := rfl
@[simp] theorem Engine.modLane_clk : (e.modLane l f).clk = e.clk := rfl
@[simp] theorem Engine.modLane_raw : (e.modLane l f).raw = e.raw := rfl
@[simp] theorem Engine.modLane_colour : (e.modLane l f).colour = e.colour := rfl
@[simp] theorem Engine.modLane_fsr : (e.modLane l f).fsr = e.fsr := rfl
@[simp] theorem Engine.modLane_pos : (e.modLane l f).pos = e.pos := rfl
@[simp] theorem Engine.modLane_aud : (e.modLane l f).aud = e.aud := rfl
@[simp] theorem Engine.modLane_hevc : (e.modLane l f).hevc = e.hevc := rfl
@[simp] theorem Engine.modLane_md : (e.modLane l f).md = e.md := rfl
@[simp] theorem Engine.modLane_rec : (e.modLane l f).rec_ = e.rec_ := rfl
@[simp] theorem Engine.modLane_ep : (e.modLane l f).ep = e.ep := rfl
@[simp] theorem Engine.modLane_outs : (e.modLane l f).outs = e.outs := rfl
@[simp] theorem Engine.modLane_dram : (e.modLane l f).dram = e.dram := rfl
@[simp] theorem Engine.modLane_grotto : (e.modLane l f).grotto = e.grotto := rfl
@[simp] theorem Engine.modLane_lanes : (e.modLane l f).lanes = vmod e.lanes l f := rfl
end modLane

section modPort
variable (p : Nat) (f : Port → Port) (e : Engine)
@[simp] theorem Engine.modPort_now : (e.modPort p f).now = e.now := rfl
@[simp] theorem Engine.modPort_free : (e.modPort p f).free = e.free := rfl
@[simp] theorem Engine.modPort_cfg : (e.modPort p f).cfg = e.cfg := rfl
@[simp] theorem Engine.modPort_counters : (e.modPort p f).counters = e.counters := rfl
@[simp] theorem Engine.modPort_log : (e.modPort p f).log = e.log := rfl
@[simp] theorem Engine.modPort_ctl : (e.modPort p f).ctl = e.ctl := rfl
@[simp] theorem Engine.modPort_sys : (e.modPort p f).sys = e.sys := rfl
@[simp] theorem Engine.modPort_modId : (e.modPort p f).modId = e.modId := rfl
@[simp] theorem Engine.modPort_power : (e.modPort p f).power = e.power := rfl
@[simp] theorem Engine.modPort_pins : (e.modPort p f).pins = e.pins := rfl
@[simp] theorem Engine.modPort_cluster : (e.modPort p f).cluster = e.cluster := rfl
@[simp] theorem Engine.modPort_lanes : (e.modPort p f).lanes = e.lanes := rfl
@[simp] theorem Engine.modPort_proj : (e.modPort p f).proj = e.proj := rfl
@[simp] theorem Engine.modPort_phaseIn : (e.modPort p f).phaseIn = e.phaseIn := rfl
@[simp] theorem Engine.modPort_aux : (e.modPort p f).aux = e.aux := rfl
@[simp] theorem Engine.modPort_time : (e.modPort p f).time = e.time := rfl
@[simp] theorem Engine.modPort_clk : (e.modPort p f).clk = e.clk := rfl
@[simp] theorem Engine.modPort_raw : (e.modPort p f).raw = e.raw := rfl
@[simp] theorem Engine.modPort_colour : (e.modPort p f).colour = e.colour := rfl
@[simp] theorem Engine.modPort_fsr : (e.modPort p f).fsr = e.fsr := rfl
@[simp] theorem Engine.modPort_pos : (e.modPort p f).pos = e.pos := rfl
@[simp] theorem Engine.modPort_aud : (e.modPort p f).aud = e.aud := rfl
@[simp] theorem Engine.modPort_hevc : (e.modPort p f).hevc = e.hevc := rfl
@[simp] theorem Engine.modPort_md : (e.modPort p f).md = e.md := rfl
@[simp] theorem Engine.modPort_rec : (e.modPort p f).rec_ = e.rec_ := rfl
@[simp] theorem Engine.modPort_ep : (e.modPort p f).ep = e.ep := rfl
@[simp] theorem Engine.modPort_outs : (e.modPort p f).outs = e.outs := rfl
@[simp] theorem Engine.modPort_dram : (e.modPort p f).dram = e.dram := rfl
@[simp] theorem Engine.modPort_grotto : (e.modPort p f).grotto = e.grotto := rfl
@[simp] theorem Engine.modPort_ports : (e.modPort p f).ports = vmod e.ports p f := rfl
end modPort

section modHead
variable (h : Nat) (f : Head → Head) (e : Engine)
@[simp] theorem Engine.modHead_now : (e.modHead h f).now = e.now := rfl
@[simp] theorem Engine.modHead_free : (e.modHead h f).free = e.free := rfl
@[simp] theorem Engine.modHead_cfg : (e.modHead h f).cfg = e.cfg := rfl
@[simp] theorem Engine.modHead_counters : (e.modHead h f).counters = e.counters := rfl
@[simp] theorem Engine.modHead_log : (e.modHead h f).log = e.log := rfl
@[simp] theorem Engine.modHead_ctl : (e.modHead h f).ctl = e.ctl := rfl
@[simp] theorem Engine.modHead_sys : (e.modHead h f).sys = e.sys := rfl
@[simp] theorem Engine.modHead_modId : (e.modHead h f).modId = e.modId := rfl
@[simp] theorem Engine.modHead_power : (e.modHead h f).power = e.power := rfl
@[simp] theorem Engine.modHead_pins : (e.modHead h f).pins = e.pins := rfl
@[simp] theorem Engine.modHead_cluster : (e.modHead h f).cluster = e.cluster := rfl
@[simp] theorem Engine.modHead_lanes : (e.modHead h f).lanes = e.lanes := rfl
@[simp] theorem Engine.modHead_ports : (e.modHead h f).ports = e.ports := rfl
@[simp] theorem Engine.modHead_proj : (e.modHead h f).proj = e.proj := rfl
@[simp] theorem Engine.modHead_phaseIn : (e.modHead h f).phaseIn = e.phaseIn := rfl
@[simp] theorem Engine.modHead_aux : (e.modHead h f).aux = e.aux := rfl
@[simp] theorem Engine.modHead_time : (e.modHead h f).time = e.time := rfl
@[simp] theorem Engine.modHead_clk : (e.modHead h f).clk = e.clk := rfl
@[simp] theorem Engine.modHead_raw : (e.modHead h f).raw = e.raw := rfl
@[simp] theorem Engine.modHead_colour : (e.modHead h f).colour = e.colour := rfl
@[simp] theorem Engine.modHead_fsr : (e.modHead h f).fsr = e.fsr := rfl
@[simp] theorem Engine.modHead_pos : (e.modHead h f).pos = e.pos := rfl
@[simp] theorem Engine.modHead_aud : (e.modHead h f).aud = e.aud := rfl
@[simp] theorem Engine.modHead_hevc : (e.modHead h f).hevc = e.hevc := rfl
@[simp] theorem Engine.modHead_md : (e.modHead h f).md = e.md := rfl
@[simp] theorem Engine.modHead_rec : (e.modHead h f).rec_ = e.rec_ := rfl
@[simp] theorem Engine.modHead_ep : (e.modHead h f).ep = e.ep := rfl
@[simp] theorem Engine.modHead_dram : (e.modHead h f).dram = e.dram := rfl
@[simp] theorem Engine.modHead_grotto : (e.modHead h f).grotto = e.grotto := rfl
@[simp] theorem Engine.modHead_outs : (e.modHead h f).outs = { e.outs with heads := vmod e.outs.heads h f } := rfl
end modHead

section modHst
variable (s : Nat) (f : HevcStream → HevcStream) (e : Engine)
@[simp] theorem Engine.modHst_now : (e.modHst s f).now = e.now := rfl
@[simp] theorem Engine.modHst_free : (e.modHst s f).free = e.free := rfl
@[simp] theorem Engine.modHst_cfg : (e.modHst s f).cfg = e.cfg := rfl
@[simp] theorem Engine.modHst_counters : (e.modHst s f).counters = e.counters := rfl
@[simp] theorem Engine.modHst_log : (e.modHst s f).log = e.log := rfl
@[simp] theorem Engine.modHst_ctl : (e.modHst s f).ctl = e.ctl := rfl
@[simp] theorem Engine.modHst_sys : (e.modHst s f).sys = e.sys := rfl
@[simp] theorem Engine.modHst_modId : (e.modHst s f).modId = e.modId := rfl
@[simp] theorem Engine.modHst_power : (e.modHst s f).power = e.power := rfl
@[simp] theorem Engine.modHst_pins : (e.modHst s f).pins = e.pins := rfl
@[simp] theorem Engine.modHst_cluster : (e.modHst s f).cluster = e.cluster := rfl
@[simp] theorem Engine.modHst_lanes : (e.modHst s f).lanes = e.lanes := rfl
@[simp] theorem Engine.modHst_ports : (e.modHst s f).ports = e.ports := rfl
@[simp] theorem Engine.modHst_proj : (e.modHst s f).proj = e.proj := rfl
@[simp] theorem Engine.modHst_phaseIn : (e.modHst s f).phaseIn = e.phaseIn := rfl
@[simp] theorem Engine.modHst_aux : (e.modHst s f).aux = e.aux := rfl
@[simp] theorem Engine.modHst_time : (e.modHst s f).time = e.time := rfl
@[simp] theorem Engine.modHst_clk : (e.modHst s f).clk = e.clk := rfl
@[simp] theorem Engine.modHst_raw : (e.modHst s f).raw = e.raw := rfl
@[simp] theorem Engine.modHst_colour : (e.modHst s f).colour = e.colour := rfl
@[simp] theorem Engine.modHst_fsr : (e.modHst s f).fsr = e.fsr := rfl
@[simp] theorem Engine.modHst_pos : (e.modHst s f).pos = e.pos := rfl
@[simp] theorem Engine.modHst_aud : (e.modHst s f).aud = e.aud := rfl
@[simp] theorem Engine.modHst_md : (e.modHst s f).md = e.md := rfl
@[simp] theorem Engine.modHst_rec : (e.modHst s f).rec_ = e.rec_ := rfl
@[simp] theorem Engine.modHst_ep : (e.modHst s f).ep = e.ep := rfl
@[simp] theorem Engine.modHst_outs : (e.modHst s f).outs = e.outs := rfl
@[simp] theorem Engine.modHst_dram : (e.modHst s f).dram = e.dram := rfl
@[simp] theorem Engine.modHst_grotto : (e.modHst s f).grotto = e.grotto := rfl
@[simp] theorem Engine.modHst_hevc : (e.modHst s f).hevc = { e.hevc with streams := vmod e.hevc.streams s f } := rfl
end modHst

section modBuf
variable (b : Nat) (f : PoolBuf → PoolBuf) (e : Engine)
@[simp] theorem Engine.modBuf_now : (e.modBuf b f).now = e.now := rfl
@[simp] theorem Engine.modBuf_free : (e.modBuf b f).free = e.free := rfl
@[simp] theorem Engine.modBuf_cfg : (e.modBuf b f).cfg = e.cfg := rfl
@[simp] theorem Engine.modBuf_counters : (e.modBuf b f).counters = e.counters := rfl
@[simp] theorem Engine.modBuf_log : (e.modBuf b f).log = e.log := rfl
@[simp] theorem Engine.modBuf_ctl : (e.modBuf b f).ctl = e.ctl := rfl
@[simp] theorem Engine.modBuf_sys : (e.modBuf b f).sys = e.sys := rfl
@[simp] theorem Engine.modBuf_modId : (e.modBuf b f).modId = e.modId := rfl
@[simp] theorem Engine.modBuf_power : (e.modBuf b f).power = e.power := rfl
@[simp] theorem Engine.modBuf_pins : (e.modBuf b f).pins = e.pins := rfl
@[simp] theorem Engine.modBuf_cluster : (e.modBuf b f).cluster = e.cluster := rfl
@[simp] theorem Engine.modBuf_lanes : (e.modBuf b f).lanes = e.lanes := rfl
@[simp] theorem Engine.modBuf_ports : (e.modBuf b f).ports = e.ports := rfl
@[simp] theorem Engine.modBuf_proj : (e.modBuf b f).proj = e.proj := rfl
@[simp] theorem Engine.modBuf_phaseIn : (e.modBuf b f).phaseIn = e.phaseIn := rfl
@[simp] theorem Engine.modBuf_aux : (e.modBuf b f).aux = e.aux := rfl
@[simp] theorem Engine.modBuf_time : (e.modBuf b f).time = e.time := rfl
@[simp] theorem Engine.modBuf_clk : (e.modBuf b f).clk = e.clk := rfl
@[simp] theorem Engine.modBuf_raw : (e.modBuf b f).raw = e.raw := rfl
@[simp] theorem Engine.modBuf_colour : (e.modBuf b f).colour = e.colour := rfl
@[simp] theorem Engine.modBuf_fsr : (e.modBuf b f).fsr = e.fsr := rfl
@[simp] theorem Engine.modBuf_pos : (e.modBuf b f).pos = e.pos := rfl
@[simp] theorem Engine.modBuf_aud : (e.modBuf b f).aud = e.aud := rfl
@[simp] theorem Engine.modBuf_md : (e.modBuf b f).md = e.md := rfl
@[simp] theorem Engine.modBuf_rec : (e.modBuf b f).rec_ = e.rec_ := rfl
@[simp] theorem Engine.modBuf_ep : (e.modBuf b f).ep = e.ep := rfl
@[simp] theorem Engine.modBuf_outs : (e.modBuf b f).outs = e.outs := rfl
@[simp] theorem Engine.modBuf_dram : (e.modBuf b f).dram = e.dram := rfl
@[simp] theorem Engine.modBuf_grotto : (e.modBuf b f).grotto = e.grotto := rfl
@[simp] theorem Engine.modBuf_hevc : (e.modBuf b f).hevc = { e.hevc with pool := vmod e.hevc.pool b f } := rfl
end modBuf

section modDec
variable (d : Nat) (f : HevcDec → HevcDec) (e : Engine)
@[simp] theorem Engine.modDec_now : (e.modDec d f).now = e.now := rfl
@[simp] theorem Engine.modDec_free : (e.modDec d f).free = e.free := rfl
@[simp] theorem Engine.modDec_cfg : (e.modDec d f).cfg = e.cfg := rfl
@[simp] theorem Engine.modDec_counters : (e.modDec d f).counters = e.counters := rfl
@[simp] theorem Engine.modDec_log : (e.modDec d f).log = e.log := rfl
@[simp] theorem Engine.modDec_ctl : (e.modDec d f).ctl = e.ctl := rfl
@[simp] theorem Engine.modDec_sys : (e.modDec d f).sys = e.sys := rfl
@[simp] theorem Engine.modDec_modId : (e.modDec d f).modId = e.modId := rfl
@[simp] theorem Engine.modDec_power : (e.modDec d f).power = e.power := rfl
@[simp] theorem Engine.modDec_pins : (e.modDec d f).pins = e.pins := rfl
@[simp] theorem Engine.modDec_cluster : (e.modDec d f).cluster = e.cluster := rfl
@[simp] theorem Engine.modDec_lanes : (e.modDec d f).lanes = e.lanes := rfl
@[simp] theorem Engine.modDec_ports : (e.modDec d f).ports = e.ports := rfl
@[simp] theorem Engine.modDec_proj : (e.modDec d f).proj = e.proj := rfl
@[simp] theorem Engine.modDec_phaseIn : (e.modDec d f).phaseIn = e.phaseIn := rfl
@[simp] theorem Engine.modDec_aux : (e.modDec d f).aux = e.aux := rfl
@[simp] theorem Engine.modDec_time : (e.modDec d f).time = e.time := rfl
@[simp] theorem Engine.modDec_clk : (e.modDec d f).clk = e.clk := rfl
@[simp] theorem Engine.modDec_raw : (e.modDec d f).raw = e.raw := rfl
@[simp] theorem Engine.modDec_colour : (e.modDec d f).colour = e.colour := rfl
@[simp] theorem Engine.modDec_fsr : (e.modDec d f).fsr = e.fsr := rfl
@[simp] theorem Engine.modDec_pos : (e.modDec d f).pos = e.pos := rfl
@[simp] theorem Engine.modDec_aud : (e.modDec d f).aud = e.aud := rfl
@[simp] theorem Engine.modDec_md : (e.modDec d f).md = e.md := rfl
@[simp] theorem Engine.modDec_rec : (e.modDec d f).rec_ = e.rec_ := rfl
@[simp] theorem Engine.modDec_ep : (e.modDec d f).ep = e.ep := rfl
@[simp] theorem Engine.modDec_outs : (e.modDec d f).outs = e.outs := rfl
@[simp] theorem Engine.modDec_dram : (e.modDec d f).dram = e.dram := rfl
@[simp] theorem Engine.modDec_grotto : (e.modDec d f).grotto = e.grotto := rfl
@[simp] theorem Engine.modDec_hevc : (e.modDec d f).hevc = { e.hevc with decs := vmod e.hevc.decs d f } := rfl
end modDec

section modFrame
variable (p : Nat) (f : OpenFrame → OpenFrame) (e : Engine)
@[simp] theorem Engine.modFrame_now : (e.modFrame p f).now = e.now := rfl
@[simp] theorem Engine.modFrame_free : (e.modFrame p f).free = e.free := rfl
@[simp] theorem Engine.modFrame_cfg : (e.modFrame p f).cfg = e.cfg := rfl
@[simp] theorem Engine.modFrame_counters : (e.modFrame p f).counters = e.counters := rfl
@[simp] theorem Engine.modFrame_log : (e.modFrame p f).log = e.log := rfl
@[simp] theorem Engine.modFrame_ctl : (e.modFrame p f).ctl = e.ctl := rfl
@[simp] theorem Engine.modFrame_sys : (e.modFrame p f).sys = e.sys := rfl
@[simp] theorem Engine.modFrame_modId : (e.modFrame p f).modId = e.modId := rfl
@[simp] theorem Engine.modFrame_power : (e.modFrame p f).power = e.power := rfl
@[simp] theorem Engine.modFrame_pins : (e.modFrame p f).pins = e.pins := rfl
@[simp] theorem Engine.modFrame_cluster : (e.modFrame p f).cluster = e.cluster := rfl
@[simp] theorem Engine.modFrame_lanes : (e.modFrame p f).lanes = e.lanes := rfl
@[simp] theorem Engine.modFrame_proj : (e.modFrame p f).proj = e.proj := rfl
@[simp] theorem Engine.modFrame_phaseIn : (e.modFrame p f).phaseIn = e.phaseIn := rfl
@[simp] theorem Engine.modFrame_aux : (e.modFrame p f).aux = e.aux := rfl
@[simp] theorem Engine.modFrame_time : (e.modFrame p f).time = e.time := rfl
@[simp] theorem Engine.modFrame_clk : (e.modFrame p f).clk = e.clk := rfl
@[simp] theorem Engine.modFrame_raw : (e.modFrame p f).raw = e.raw := rfl
@[simp] theorem Engine.modFrame_colour : (e.modFrame p f).colour = e.colour := rfl
@[simp] theorem Engine.modFrame_fsr : (e.modFrame p f).fsr = e.fsr := rfl
@[simp] theorem Engine.modFrame_pos : (e.modFrame p f).pos = e.pos := rfl
@[simp] theorem Engine.modFrame_aud : (e.modFrame p f).aud = e.aud := rfl
@[simp] theorem Engine.modFrame_hevc : (e.modFrame p f).hevc = e.hevc := rfl
@[simp] theorem Engine.modFrame_md : (e.modFrame p f).md = e.md := rfl
@[simp] theorem Engine.modFrame_rec : (e.modFrame p f).rec_ = e.rec_ := rfl
@[simp] theorem Engine.modFrame_ep : (e.modFrame p f).ep = e.ep := rfl
@[simp] theorem Engine.modFrame_outs : (e.modFrame p f).outs = e.outs := rfl
@[simp] theorem Engine.modFrame_dram : (e.modFrame p f).dram = e.dram := rfl
@[simp] theorem Engine.modFrame_grotto : (e.modFrame p f).grotto = e.grotto := rfl
end modFrame

section modDram
variable (f : Dram → Dram) (e : Engine)
@[simp] theorem Engine.modDram_now : (e.modDram f).now = e.now := rfl
@[simp] theorem Engine.modDram_free : (e.modDram f).free = e.free := rfl
@[simp] theorem Engine.modDram_cfg : (e.modDram f).cfg = e.cfg := rfl
@[simp] theorem Engine.modDram_counters : (e.modDram f).counters = e.counters := rfl
@[simp] theorem Engine.modDram_log : (e.modDram f).log = e.log := rfl
@[simp] theorem Engine.modDram_ctl : (e.modDram f).ctl = e.ctl := rfl
@[simp] theorem Engine.modDram_sys : (e.modDram f).sys = e.sys := rfl
@[simp] theorem Engine.modDram_modId : (e.modDram f).modId = e.modId := rfl
@[simp] theorem Engine.modDram_power : (e.modDram f).power = e.power := rfl
@[simp] theorem Engine.modDram_pins : (e.modDram f).pins = e.pins := rfl
@[simp] theorem Engine.modDram_cluster : (e.modDram f).cluster = e.cluster := rfl
@[simp] theorem Engine.modDram_lanes : (e.modDram f).lanes = e.lanes := rfl
@[simp] theorem Engine.modDram_ports : (e.modDram f).ports = e.ports := rfl
@[simp] theorem Engine.modDram_proj : (e.modDram f).proj = e.proj := rfl
@[simp] theorem Engine.modDram_phaseIn : (e.modDram f).phaseIn = e.phaseIn := rfl
@[simp] theorem Engine.modDram_aux : (e.modDram f).aux = e.aux := rfl
@[simp] theorem Engine.modDram_time : (e.modDram f).time = e.time := rfl
@[simp] theorem Engine.modDram_clk : (e.modDram f).clk = e.clk := rfl
@[simp] theorem Engine.modDram_raw : (e.modDram f).raw = e.raw := rfl
@[simp] theorem Engine.modDram_colour : (e.modDram f).colour = e.colour := rfl
@[simp] theorem Engine.modDram_fsr : (e.modDram f).fsr = e.fsr := rfl
@[simp] theorem Engine.modDram_pos : (e.modDram f).pos = e.pos := rfl
@[simp] theorem Engine.modDram_aud : (e.modDram f).aud = e.aud := rfl
@[simp] theorem Engine.modDram_hevc : (e.modDram f).hevc = e.hevc := rfl
@[simp] theorem Engine.modDram_md : (e.modDram f).md = e.md := rfl
@[simp] theorem Engine.modDram_rec : (e.modDram f).rec_ = e.rec_ := rfl
@[simp] theorem Engine.modDram_ep : (e.modDram f).ep = e.ep := rfl
@[simp] theorem Engine.modDram_outs : (e.modDram f).outs = e.outs := rfl
@[simp] theorem Engine.modDram_grotto : (e.modDram f).grotto = e.grotto := rfl
@[simp] theorem Engine.modDram_dram : (e.modDram f).dram = f e.dram := rfl
end modDram

section modRank
variable (r : Nat) (f : Rank → Rank) (e : Engine)
@[simp] theorem Engine.modRank_now : (e.modRank r f).now = e.now := rfl
@[simp] theorem Engine.modRank_free : (e.modRank r f).free = e.free := rfl
@[simp] theorem Engine.modRank_cfg : (e.modRank r f).cfg = e.cfg := rfl
@[simp] theorem Engine.modRank_counters : (e.modRank r f).counters = e.counters := rfl
@[simp] theorem Engine.modRank_log : (e.modRank r f).log = e.log := rfl
@[simp] theorem Engine.modRank_ctl : (e.modRank r f).ctl = e.ctl := rfl
@[simp] theorem Engine.modRank_sys : (e.modRank r f).sys = e.sys := rfl
@[simp] theorem Engine.modRank_modId : (e.modRank r f).modId = e.modId := rfl
@[simp] theorem Engine.modRank_power : (e.modRank r f).power = e.power := rfl
@[simp] theorem Engine.modRank_pins : (e.modRank r f).pins = e.pins := rfl
@[simp] theorem Engine.modRank_cluster : (e.modRank r f).cluster = e.cluster := rfl
@[simp] theorem Engine.modRank_lanes : (e.modRank r f).lanes = e.lanes := rfl
@[simp] theorem Engine.modRank_ports : (e.modRank r f).ports = e.ports := rfl
@[simp] theorem Engine.modRank_proj : (e.modRank r f).proj = e.proj := rfl
@[simp] theorem Engine.modRank_phaseIn : (e.modRank r f).phaseIn = e.phaseIn := rfl
@[simp] theorem Engine.modRank_aux : (e.modRank r f).aux = e.aux := rfl
@[simp] theorem Engine.modRank_time : (e.modRank r f).time = e.time := rfl
@[simp] theorem Engine.modRank_clk : (e.modRank r f).clk = e.clk := rfl
@[simp] theorem Engine.modRank_raw : (e.modRank r f).raw = e.raw := rfl
@[simp] theorem Engine.modRank_colour : (e.modRank r f).colour = e.colour := rfl
@[simp] theorem Engine.modRank_fsr : (e.modRank r f).fsr = e.fsr := rfl
@[simp] theorem Engine.modRank_pos : (e.modRank r f).pos = e.pos := rfl
@[simp] theorem Engine.modRank_aud : (e.modRank r f).aud = e.aud := rfl
@[simp] theorem Engine.modRank_hevc : (e.modRank r f).hevc = e.hevc := rfl
@[simp] theorem Engine.modRank_md : (e.modRank r f).md = e.md := rfl
@[simp] theorem Engine.modRank_rec : (e.modRank r f).rec_ = e.rec_ := rfl
@[simp] theorem Engine.modRank_ep : (e.modRank r f).ep = e.ep := rfl
@[simp] theorem Engine.modRank_outs : (e.modRank r f).outs = e.outs := rfl
@[simp] theorem Engine.modRank_grotto : (e.modRank r f).grotto = e.grotto := rfl
end modRank

section modEp
variable (f : Ep → Ep) (e : Engine)
@[simp] theorem Engine.modEp_now : (e.modEp f).now = e.now := rfl
@[simp] theorem Engine.modEp_free : (e.modEp f).free = e.free := rfl
@[simp] theorem Engine.modEp_cfg : (e.modEp f).cfg = e.cfg := rfl
@[simp] theorem Engine.modEp_counters : (e.modEp f).counters = e.counters := rfl
@[simp] theorem Engine.modEp_log : (e.modEp f).log = e.log := rfl
@[simp] theorem Engine.modEp_ctl : (e.modEp f).ctl = e.ctl := rfl
@[simp] theorem Engine.modEp_sys : (e.modEp f).sys = e.sys := rfl
@[simp] theorem Engine.modEp_modId : (e.modEp f).modId = e.modId := rfl
@[simp] theorem Engine.modEp_power : (e.modEp f).power = e.power := rfl
@[simp] theorem Engine.modEp_pins : (e.modEp f).pins = e.pins := rfl
@[simp] theorem Engine.modEp_cluster : (e.modEp f).cluster = e.cluster := rfl
@[simp] theorem Engine.modEp_lanes : (e.modEp f).lanes = e.lanes := rfl
@[simp] theorem Engine.modEp_ports : (e.modEp f).ports = e.ports := rfl
@[simp] theorem Engine.modEp_proj : (e.modEp f).proj = e.proj := rfl
@[simp] theorem Engine.modEp_phaseIn : (e.modEp f).phaseIn = e.phaseIn := rfl
@[simp] theorem Engine.modEp_aux : (e.modEp f).aux = e.aux := rfl
@[simp] theorem Engine.modEp_time : (e.modEp f).time = e.time := rfl
@[simp] theorem Engine.modEp_clk : (e.modEp f).clk = e.clk := rfl
@[simp] theorem Engine.modEp_raw : (e.modEp f).raw = e.raw := rfl
@[simp] theorem Engine.modEp_colour : (e.modEp f).colour = e.colour := rfl
@[simp] theorem Engine.modEp_fsr : (e.modEp f).fsr = e.fsr := rfl
@[simp] theorem Engine.modEp_pos : (e.modEp f).pos = e.pos := rfl
@[simp] theorem Engine.modEp_aud : (e.modEp f).aud = e.aud := rfl
@[simp] theorem Engine.modEp_hevc : (e.modEp f).hevc = e.hevc := rfl
@[simp] theorem Engine.modEp_md : (e.modEp f).md = e.md := rfl
@[simp] theorem Engine.modEp_rec : (e.modEp f).rec_ = e.rec_ := rfl
@[simp] theorem Engine.modEp_outs : (e.modEp f).outs = e.outs := rfl
@[simp] theorem Engine.modEp_dram : (e.modEp f).dram = e.dram := rfl
@[simp] theorem Engine.modEp_grotto : (e.modEp f).grotto = e.grotto := rfl
@[simp] theorem Engine.modEp_ep : (e.modEp f).ep = f e.ep := rfl
end modEp

section modNet
variable (n : Nat) (f : NetStream → NetStream) (e : Engine)
@[simp] theorem Engine.modNet_now : (e.modNet n f).now = e.now := rfl
@[simp] theorem Engine.modNet_free : (e.modNet n f).free = e.free := rfl
@[simp] theorem Engine.modNet_cfg : (e.modNet n f).cfg = e.cfg := rfl
@[simp] theorem Engine.modNet_counters : (e.modNet n f).counters = e.counters := rfl
@[simp] theorem Engine.modNet_log : (e.modNet n f).log = e.log := rfl
@[simp] theorem Engine.modNet_ctl : (e.modNet n f).ctl = e.ctl := rfl
@[simp] theorem Engine.modNet_sys : (e.modNet n f).sys = e.sys := rfl
@[simp] theorem Engine.modNet_modId : (e.modNet n f).modId = e.modId := rfl
@[simp] theorem Engine.modNet_power : (e.modNet n f).power = e.power := rfl
@[simp] theorem Engine.modNet_pins : (e.modNet n f).pins = e.pins := rfl
@[simp] theorem Engine.modNet_cluster : (e.modNet n f).cluster = e.cluster := rfl
@[simp] theorem Engine.modNet_lanes : (e.modNet n f).lanes = e.lanes := rfl
@[simp] theorem Engine.modNet_ports : (e.modNet n f).ports = e.ports := rfl
@[simp] theorem Engine.modNet_proj : (e.modNet n f).proj = e.proj := rfl
@[simp] theorem Engine.modNet_phaseIn : (e.modNet n f).phaseIn = e.phaseIn := rfl
@[simp] theorem Engine.modNet_aux : (e.modNet n f).aux = e.aux := rfl
@[simp] theorem Engine.modNet_time : (e.modNet n f).time = e.time := rfl
@[simp] theorem Engine.modNet_clk : (e.modNet n f).clk = e.clk := rfl
@[simp] theorem Engine.modNet_raw : (e.modNet n f).raw = e.raw := rfl
@[simp] theorem Engine.modNet_colour : (e.modNet n f).colour = e.colour := rfl
@[simp] theorem Engine.modNet_fsr : (e.modNet n f).fsr = e.fsr := rfl
@[simp] theorem Engine.modNet_pos : (e.modNet n f).pos = e.pos := rfl
@[simp] theorem Engine.modNet_aud : (e.modNet n f).aud = e.aud := rfl
@[simp] theorem Engine.modNet_hevc : (e.modNet n f).hevc = e.hevc := rfl
@[simp] theorem Engine.modNet_md : (e.modNet n f).md = e.md := rfl
@[simp] theorem Engine.modNet_rec : (e.modNet n f).rec_ = e.rec_ := rfl
@[simp] theorem Engine.modNet_ep : (e.modNet n f).ep = e.ep := rfl
@[simp] theorem Engine.modNet_dram : (e.modNet n f).dram = e.dram := rfl
@[simp] theorem Engine.modNet_grotto : (e.modNet n f).grotto = e.grotto := rfl
@[simp] theorem Engine.modNet_outs : (e.modNet n f).outs = { e.outs with streams := vmod e.outs.streams n f } := rfl
end modNet

section modDp
variable (d : Nat) (f : DpOut → DpOut) (e : Engine)
@[simp] theorem Engine.modDp_now : (e.modDp d f).now = e.now := rfl
@[simp] theorem Engine.modDp_free : (e.modDp d f).free = e.free := rfl
@[simp] theorem Engine.modDp_cfg : (e.modDp d f).cfg = e.cfg := rfl
@[simp] theorem Engine.modDp_counters : (e.modDp d f).counters = e.counters := rfl
@[simp] theorem Engine.modDp_log : (e.modDp d f).log = e.log := rfl
@[simp] theorem Engine.modDp_ctl : (e.modDp d f).ctl = e.ctl := rfl
@[simp] theorem Engine.modDp_sys : (e.modDp d f).sys = e.sys := rfl
@[simp] theorem Engine.modDp_modId : (e.modDp d f).modId = e.modId := rfl
@[simp] theorem Engine.modDp_power : (e.modDp d f).power = e.power := rfl
@[simp] theorem Engine.modDp_pins : (e.modDp d f).pins = e.pins := rfl
@[simp] theorem Engine.modDp_cluster : (e.modDp d f).cluster = e.cluster := rfl
@[simp] theorem Engine.modDp_lanes : (e.modDp d f).lanes = e.lanes := rfl
@[simp] theorem Engine.modDp_ports : (e.modDp d f).ports = e.ports := rfl
@[simp] theorem Engine.modDp_proj : (e.modDp d f).proj = e.proj := rfl
@[simp] theorem Engine.modDp_phaseIn : (e.modDp d f).phaseIn = e.phaseIn := rfl
@[simp] theorem Engine.modDp_aux : (e.modDp d f).aux = e.aux := rfl
@[simp] theorem Engine.modDp_time : (e.modDp d f).time = e.time := rfl
@[simp] theorem Engine.modDp_clk : (e.modDp d f).clk = e.clk := rfl
@[simp] theorem Engine.modDp_raw : (e.modDp d f).raw = e.raw := rfl
@[simp] theorem Engine.modDp_colour : (e.modDp d f).colour = e.colour := rfl
@[simp] theorem Engine.modDp_fsr : (e.modDp d f).fsr = e.fsr := rfl
@[simp] theorem Engine.modDp_pos : (e.modDp d f).pos = e.pos := rfl
@[simp] theorem Engine.modDp_aud : (e.modDp d f).aud = e.aud := rfl
@[simp] theorem Engine.modDp_hevc : (e.modDp d f).hevc = e.hevc := rfl
@[simp] theorem Engine.modDp_md : (e.modDp d f).md = e.md := rfl
@[simp] theorem Engine.modDp_rec : (e.modDp d f).rec_ = e.rec_ := rfl
@[simp] theorem Engine.modDp_ep : (e.modDp d f).ep = e.ep := rfl
@[simp] theorem Engine.modDp_dram : (e.modDp d f).dram = e.dram := rfl
@[simp] theorem Engine.modDp_grotto : (e.modDp d f).grotto = e.grotto := rfl
@[simp] theorem Engine.modDp_outs : (e.modDp d f).outs = { e.outs with dp := vmod e.outs.dp d f } := rfl
end modDp

section modSdiIn
variable (i : Nat) (f : SdiIn → SdiIn) (e : Engine)
@[simp] theorem Engine.modSdiIn_now : (e.modSdiIn i f).now = e.now := rfl
@[simp] theorem Engine.modSdiIn_free : (e.modSdiIn i f).free = e.free := rfl
@[simp] theorem Engine.modSdiIn_cfg : (e.modSdiIn i f).cfg = e.cfg := rfl
@[simp] theorem Engine.modSdiIn_counters : (e.modSdiIn i f).counters = e.counters := rfl
@[simp] theorem Engine.modSdiIn_log : (e.modSdiIn i f).log = e.log := rfl
@[simp] theorem Engine.modSdiIn_ctl : (e.modSdiIn i f).ctl = e.ctl := rfl
@[simp] theorem Engine.modSdiIn_sys : (e.modSdiIn i f).sys = e.sys := rfl
@[simp] theorem Engine.modSdiIn_modId : (e.modSdiIn i f).modId = e.modId := rfl
@[simp] theorem Engine.modSdiIn_power : (e.modSdiIn i f).power = e.power := rfl
@[simp] theorem Engine.modSdiIn_pins : (e.modSdiIn i f).pins = e.pins := rfl
@[simp] theorem Engine.modSdiIn_cluster : (e.modSdiIn i f).cluster = e.cluster := rfl
@[simp] theorem Engine.modSdiIn_lanes : (e.modSdiIn i f).lanes = e.lanes := rfl
@[simp] theorem Engine.modSdiIn_ports : (e.modSdiIn i f).ports = e.ports := rfl
@[simp] theorem Engine.modSdiIn_proj : (e.modSdiIn i f).proj = e.proj := rfl
@[simp] theorem Engine.modSdiIn_phaseIn : (e.modSdiIn i f).phaseIn = e.phaseIn := rfl
@[simp] theorem Engine.modSdiIn_aux : (e.modSdiIn i f).aux = e.aux := rfl
@[simp] theorem Engine.modSdiIn_time : (e.modSdiIn i f).time = e.time := rfl
@[simp] theorem Engine.modSdiIn_clk : (e.modSdiIn i f).clk = e.clk := rfl
@[simp] theorem Engine.modSdiIn_raw : (e.modSdiIn i f).raw = e.raw := rfl
@[simp] theorem Engine.modSdiIn_colour : (e.modSdiIn i f).colour = e.colour := rfl
@[simp] theorem Engine.modSdiIn_fsr : (e.modSdiIn i f).fsr = e.fsr := rfl
@[simp] theorem Engine.modSdiIn_pos : (e.modSdiIn i f).pos = e.pos := rfl
@[simp] theorem Engine.modSdiIn_aud : (e.modSdiIn i f).aud = e.aud := rfl
@[simp] theorem Engine.modSdiIn_hevc : (e.modSdiIn i f).hevc = e.hevc := rfl
@[simp] theorem Engine.modSdiIn_md : (e.modSdiIn i f).md = e.md := rfl
@[simp] theorem Engine.modSdiIn_rec : (e.modSdiIn i f).rec_ = e.rec_ := rfl
@[simp] theorem Engine.modSdiIn_ep : (e.modSdiIn i f).ep = e.ep := rfl
@[simp] theorem Engine.modSdiIn_dram : (e.modSdiIn i f).dram = e.dram := rfl
@[simp] theorem Engine.modSdiIn_grotto : (e.modSdiIn i f).grotto = e.grotto := rfl
@[simp] theorem Engine.modSdiIn_outs : (e.modSdiIn i f).outs = { e.outs with sdiIn := vmod e.outs.sdiIn i f } := rfl
end modSdiIn

section modChan
variable (n : Nat) (f : PosChan → PosChan) (e : Engine)
@[simp] theorem Engine.modChan_now : (e.modChan n f).now = e.now := rfl
@[simp] theorem Engine.modChan_free : (e.modChan n f).free = e.free := rfl
@[simp] theorem Engine.modChan_cfg : (e.modChan n f).cfg = e.cfg := rfl
@[simp] theorem Engine.modChan_counters : (e.modChan n f).counters = e.counters := rfl
@[simp] theorem Engine.modChan_log : (e.modChan n f).log = e.log := rfl
@[simp] theorem Engine.modChan_ctl : (e.modChan n f).ctl = e.ctl := rfl
@[simp] theorem Engine.modChan_sys : (e.modChan n f).sys = e.sys := rfl
@[simp] theorem Engine.modChan_modId : (e.modChan n f).modId = e.modId := rfl
@[simp] theorem Engine.modChan_power : (e.modChan n f).power = e.power := rfl
@[simp] theorem Engine.modChan_pins : (e.modChan n f).pins = e.pins := rfl
@[simp] theorem Engine.modChan_cluster : (e.modChan n f).cluster = e.cluster := rfl
@[simp] theorem Engine.modChan_lanes : (e.modChan n f).lanes = e.lanes := rfl
@[simp] theorem Engine.modChan_ports : (e.modChan n f).ports = e.ports := rfl
@[simp] theorem Engine.modChan_proj : (e.modChan n f).proj = e.proj := rfl
@[simp] theorem Engine.modChan_phaseIn : (e.modChan n f).phaseIn = e.phaseIn := rfl
@[simp] theorem Engine.modChan_aux : (e.modChan n f).aux = e.aux := rfl
@[simp] theorem Engine.modChan_time : (e.modChan n f).time = e.time := rfl
@[simp] theorem Engine.modChan_clk : (e.modChan n f).clk = e.clk := rfl
@[simp] theorem Engine.modChan_raw : (e.modChan n f).raw = e.raw := rfl
@[simp] theorem Engine.modChan_colour : (e.modChan n f).colour = e.colour := rfl
@[simp] theorem Engine.modChan_fsr : (e.modChan n f).fsr = e.fsr := rfl
@[simp] theorem Engine.modChan_aud : (e.modChan n f).aud = e.aud := rfl
@[simp] theorem Engine.modChan_hevc : (e.modChan n f).hevc = e.hevc := rfl
@[simp] theorem Engine.modChan_md : (e.modChan n f).md = e.md := rfl
@[simp] theorem Engine.modChan_rec : (e.modChan n f).rec_ = e.rec_ := rfl
@[simp] theorem Engine.modChan_ep : (e.modChan n f).ep = e.ep := rfl
@[simp] theorem Engine.modChan_outs : (e.modChan n f).outs = e.outs := rfl
@[simp] theorem Engine.modChan_dram : (e.modChan n f).dram = e.dram := rfl
@[simp] theorem Engine.modChan_grotto : (e.modChan n f).grotto = e.grotto := rfl
@[simp] theorem Engine.modChan_pos : (e.modChan n f).pos = { e.pos with chans := vmod e.pos.chans n f } := rfl
end modChan

section modPower
variable (f : Power → Power) (e : Engine)
@[simp] theorem Engine.modPower_now : (e.modPower f).now = e.now := rfl
@[simp] theorem Engine.modPower_free : (e.modPower f).free = e.free := rfl
@[simp] theorem Engine.modPower_cfg : (e.modPower f).cfg = e.cfg := rfl
@[simp] theorem Engine.modPower_counters : (e.modPower f).counters = e.counters := rfl
@[simp] theorem Engine.modPower_log : (e.modPower f).log = e.log := rfl
@[simp] theorem Engine.modPower_ctl : (e.modPower f).ctl = e.ctl := rfl
@[simp] theorem Engine.modPower_sys : (e.modPower f).sys = e.sys := rfl
@[simp] theorem Engine.modPower_modId : (e.modPower f).modId = e.modId := rfl
@[simp] theorem Engine.modPower_pins : (e.modPower f).pins = e.pins := rfl
@[simp] theorem Engine.modPower_cluster : (e.modPower f).cluster = e.cluster := rfl
@[simp] theorem Engine.modPower_lanes : (e.modPower f).lanes = e.lanes := rfl
@[simp] theorem Engine.modPower_ports : (e.modPower f).ports = e.ports := rfl
@[simp] theorem Engine.modPower_proj : (e.modPower f).proj = e.proj := rfl
@[simp] theorem Engine.modPower_phaseIn : (e.modPower f).phaseIn = e.phaseIn := rfl
@[simp] theorem Engine.modPower_aux : (e.modPower f).aux = e.aux := rfl
@[simp] theorem Engine.modPower_time : (e.modPower f).time = e.time := rfl
@[simp] theorem Engine.modPower_clk : (e.modPower f).clk = e.clk := rfl
@[simp] theorem Engine.modPower_raw : (e.modPower f).raw = e.raw := rfl
@[simp] theorem Engine.modPower_colour : (e.modPower f).colour = e.colour := rfl
@[simp] theorem Engine.modPower_fsr : (e.modPower f).fsr = e.fsr := rfl
@[simp] theorem Engine.modPower_pos : (e.modPower f).pos = e.pos := rfl
@[simp] theorem Engine.modPower_aud : (e.modPower f).aud = e.aud := rfl
@[simp] theorem Engine.modPower_hevc : (e.modPower f).hevc = e.hevc := rfl
@[simp] theorem Engine.modPower_md : (e.modPower f).md = e.md := rfl
@[simp] theorem Engine.modPower_rec : (e.modPower f).rec_ = e.rec_ := rfl
@[simp] theorem Engine.modPower_ep : (e.modPower f).ep = e.ep := rfl
@[simp] theorem Engine.modPower_outs : (e.modPower f).outs = e.outs := rfl
@[simp] theorem Engine.modPower_dram : (e.modPower f).dram = e.dram := rfl
@[simp] theorem Engine.modPower_grotto : (e.modPower f).grotto = e.grotto := rfl
@[simp] theorem Engine.modPower_power : (e.modPower f).power = f e.power := rfl
end modPower

section modHoldup
variable (f : Holdup → Holdup) (e : Engine)
@[simp] theorem Engine.modHoldup_now : (e.modHoldup f).now = e.now := rfl
@[simp] theorem Engine.modHoldup_free : (e.modHoldup f).free = e.free := rfl
@[simp] theorem Engine.modHoldup_cfg : (e.modHoldup f).cfg = e.cfg := rfl
@[simp] theorem Engine.modHoldup_counters : (e.modHoldup f).counters = e.counters := rfl
@[simp] theorem Engine.modHoldup_log : (e.modHoldup f).log = e.log := rfl
@[simp] theorem Engine.modHoldup_ctl : (e.modHoldup f).ctl = e.ctl := rfl
@[simp] theorem Engine.modHoldup_sys : (e.modHoldup f).sys = e.sys := rfl
@[simp] theorem Engine.modHoldup_modId : (e.modHoldup f).modId = e.modId := rfl
@[simp] theorem Engine.modHoldup_pins : (e.modHoldup f).pins = e.pins := rfl
@[simp] theorem Engine.modHoldup_cluster : (e.modHoldup f).cluster = e.cluster := rfl
@[simp] theorem Engine.modHoldup_lanes : (e.modHoldup f).lanes = e.lanes := rfl
@[simp] theorem Engine.modHoldup_ports : (e.modHoldup f).ports = e.ports := rfl
@[simp] theorem Engine.modHoldup_proj : (e.modHoldup f).proj = e.proj := rfl
@[simp] theorem Engine.modHoldup_phaseIn : (e.modHoldup f).phaseIn = e.phaseIn := rfl
@[simp] theorem Engine.modHoldup_aux : (e.modHoldup f).aux = e.aux := rfl
@[simp] theorem Engine.modHoldup_time : (e.modHoldup f).time = e.time := rfl
@[simp] theorem Engine.modHoldup_clk : (e.modHoldup f).clk = e.clk := rfl
@[simp] theorem Engine.modHoldup_raw : (e.modHoldup f).raw = e.raw := rfl
@[simp] theorem Engine.modHoldup_colour : (e.modHoldup f).colour = e.colour := rfl
@[simp] theorem Engine.modHoldup_fsr : (e.modHoldup f).fsr = e.fsr := rfl
@[simp] theorem Engine.modHoldup_pos : (e.modHoldup f).pos = e.pos := rfl
@[simp] theorem Engine.modHoldup_aud : (e.modHoldup f).aud = e.aud := rfl
@[simp] theorem Engine.modHoldup_hevc : (e.modHoldup f).hevc = e.hevc := rfl
@[simp] theorem Engine.modHoldup_md : (e.modHoldup f).md = e.md := rfl
@[simp] theorem Engine.modHoldup_rec : (e.modHoldup f).rec_ = e.rec_ := rfl
@[simp] theorem Engine.modHoldup_ep : (e.modHoldup f).ep = e.ep := rfl
@[simp] theorem Engine.modHoldup_outs : (e.modHoldup f).outs = e.outs := rfl
@[simp] theorem Engine.modHoldup_dram : (e.modHoldup f).dram = e.dram := rfl
@[simp] theorem Engine.modHoldup_grotto : (e.modHoldup f).grotto = e.grotto := rfl
end modHoldup

section modRec
variable (f : Recorder → Recorder) (e : Engine)
@[simp] theorem Engine.modRec_now : (e.modRec f).now = e.now := rfl
@[simp] theorem Engine.modRec_free : (e.modRec f).free = e.free := rfl
@[simp] theorem Engine.modRec_cfg : (e.modRec f).cfg = e.cfg := rfl
@[simp] theorem Engine.modRec_counters : (e.modRec f).counters = e.counters := rfl
@[simp] theorem Engine.modRec_log : (e.modRec f).log = e.log := rfl
@[simp] theorem Engine.modRec_ctl : (e.modRec f).ctl = e.ctl := rfl
@[simp] theorem Engine.modRec_sys : (e.modRec f).sys = e.sys := rfl
@[simp] theorem Engine.modRec_modId : (e.modRec f).modId = e.modId := rfl
@[simp] theorem Engine.modRec_power : (e.modRec f).power = e.power := rfl
@[simp] theorem Engine.modRec_pins : (e.modRec f).pins = e.pins := rfl
@[simp] theorem Engine.modRec_cluster : (e.modRec f).cluster = e.cluster := rfl
@[simp] theorem Engine.modRec_lanes : (e.modRec f).lanes = e.lanes := rfl
@[simp] theorem Engine.modRec_ports : (e.modRec f).ports = e.ports := rfl
@[simp] theorem Engine.modRec_proj : (e.modRec f).proj = e.proj := rfl
@[simp] theorem Engine.modRec_phaseIn : (e.modRec f).phaseIn = e.phaseIn := rfl
@[simp] theorem Engine.modRec_aux : (e.modRec f).aux = e.aux := rfl
@[simp] theorem Engine.modRec_time : (e.modRec f).time = e.time := rfl
@[simp] theorem Engine.modRec_clk : (e.modRec f).clk = e.clk := rfl
@[simp] theorem Engine.modRec_raw : (e.modRec f).raw = e.raw := rfl
@[simp] theorem Engine.modRec_colour : (e.modRec f).colour = e.colour := rfl
@[simp] theorem Engine.modRec_fsr : (e.modRec f).fsr = e.fsr := rfl
@[simp] theorem Engine.modRec_pos : (e.modRec f).pos = e.pos := rfl
@[simp] theorem Engine.modRec_aud : (e.modRec f).aud = e.aud := rfl
@[simp] theorem Engine.modRec_hevc : (e.modRec f).hevc = e.hevc := rfl
@[simp] theorem Engine.modRec_md : (e.modRec f).md = e.md := rfl
@[simp] theorem Engine.modRec_ep : (e.modRec f).ep = e.ep := rfl
@[simp] theorem Engine.modRec_outs : (e.modRec f).outs = e.outs := rfl
@[simp] theorem Engine.modRec_dram : (e.modRec f).dram = e.dram := rfl
@[simp] theorem Engine.modRec_grotto : (e.modRec f).grotto = e.grotto := rfl
@[simp] theorem Engine.modRec_rec : (e.modRec f).rec_ = f e.rec_ := rfl
end modRec

section modTake
variable (id : Nat) (f : Take → Take) (e : Engine)
@[simp] theorem Engine.modTake_now : (e.modTake id f).now = e.now := rfl
@[simp] theorem Engine.modTake_free : (e.modTake id f).free = e.free := rfl
@[simp] theorem Engine.modTake_cfg : (e.modTake id f).cfg = e.cfg := rfl
@[simp] theorem Engine.modTake_counters : (e.modTake id f).counters = e.counters := rfl
@[simp] theorem Engine.modTake_log : (e.modTake id f).log = e.log := rfl
@[simp] theorem Engine.modTake_ctl : (e.modTake id f).ctl = e.ctl := rfl
@[simp] theorem Engine.modTake_sys : (e.modTake id f).sys = e.sys := rfl
@[simp] theorem Engine.modTake_modId : (e.modTake id f).modId = e.modId := rfl
@[simp] theorem Engine.modTake_power : (e.modTake id f).power = e.power := rfl
@[simp] theorem Engine.modTake_pins : (e.modTake id f).pins = e.pins := rfl
@[simp] theorem Engine.modTake_cluster : (e.modTake id f).cluster = e.cluster := rfl
@[simp] theorem Engine.modTake_lanes : (e.modTake id f).lanes = e.lanes := rfl
@[simp] theorem Engine.modTake_ports : (e.modTake id f).ports = e.ports := rfl
@[simp] theorem Engine.modTake_proj : (e.modTake id f).proj = e.proj := rfl
@[simp] theorem Engine.modTake_phaseIn : (e.modTake id f).phaseIn = e.phaseIn := rfl
@[simp] theorem Engine.modTake_aux : (e.modTake id f).aux = e.aux := rfl
@[simp] theorem Engine.modTake_time : (e.modTake id f).time = e.time := rfl
@[simp] theorem Engine.modTake_clk : (e.modTake id f).clk = e.clk := rfl
@[simp] theorem Engine.modTake_raw : (e.modTake id f).raw = e.raw := rfl
@[simp] theorem Engine.modTake_colour : (e.modTake id f).colour = e.colour := rfl
@[simp] theorem Engine.modTake_fsr : (e.modTake id f).fsr = e.fsr := rfl
@[simp] theorem Engine.modTake_pos : (e.modTake id f).pos = e.pos := rfl
@[simp] theorem Engine.modTake_aud : (e.modTake id f).aud = e.aud := rfl
@[simp] theorem Engine.modTake_hevc : (e.modTake id f).hevc = e.hevc := rfl
@[simp] theorem Engine.modTake_md : (e.modTake id f).md = e.md := rfl
@[simp] theorem Engine.modTake_ep : (e.modTake id f).ep = e.ep := rfl
@[simp] theorem Engine.modTake_outs : (e.modTake id f).outs = e.outs := rfl
@[simp] theorem Engine.modTake_dram : (e.modTake id f).dram = e.dram := rfl
@[simp] theorem Engine.modTake_grotto : (e.modTake id f).grotto = e.grotto := rfl
end modTake

section modChunk
variable (id : Nat) (f : Chunk → Chunk) (e : Engine)
@[simp] theorem Engine.modChunk_now : (e.modChunk id f).now = e.now := rfl
@[simp] theorem Engine.modChunk_free : (e.modChunk id f).free = e.free := rfl
@[simp] theorem Engine.modChunk_cfg : (e.modChunk id f).cfg = e.cfg := rfl
@[simp] theorem Engine.modChunk_counters : (e.modChunk id f).counters = e.counters := rfl
@[simp] theorem Engine.modChunk_log : (e.modChunk id f).log = e.log := rfl
@[simp] theorem Engine.modChunk_ctl : (e.modChunk id f).ctl = e.ctl := rfl
@[simp] theorem Engine.modChunk_sys : (e.modChunk id f).sys = e.sys := rfl
@[simp] theorem Engine.modChunk_modId : (e.modChunk id f).modId = e.modId := rfl
@[simp] theorem Engine.modChunk_power : (e.modChunk id f).power = e.power := rfl
@[simp] theorem Engine.modChunk_pins : (e.modChunk id f).pins = e.pins := rfl
@[simp] theorem Engine.modChunk_cluster : (e.modChunk id f).cluster = e.cluster := rfl
@[simp] theorem Engine.modChunk_lanes : (e.modChunk id f).lanes = e.lanes := rfl
@[simp] theorem Engine.modChunk_ports : (e.modChunk id f).ports = e.ports := rfl
@[simp] theorem Engine.modChunk_proj : (e.modChunk id f).proj = e.proj := rfl
@[simp] theorem Engine.modChunk_phaseIn : (e.modChunk id f).phaseIn = e.phaseIn := rfl
@[simp] theorem Engine.modChunk_aux : (e.modChunk id f).aux = e.aux := rfl
@[simp] theorem Engine.modChunk_time : (e.modChunk id f).time = e.time := rfl
@[simp] theorem Engine.modChunk_clk : (e.modChunk id f).clk = e.clk := rfl
@[simp] theorem Engine.modChunk_raw : (e.modChunk id f).raw = e.raw := rfl
@[simp] theorem Engine.modChunk_colour : (e.modChunk id f).colour = e.colour := rfl
@[simp] theorem Engine.modChunk_fsr : (e.modChunk id f).fsr = e.fsr := rfl
@[simp] theorem Engine.modChunk_pos : (e.modChunk id f).pos = e.pos := rfl
@[simp] theorem Engine.modChunk_aud : (e.modChunk id f).aud = e.aud := rfl
@[simp] theorem Engine.modChunk_hevc : (e.modChunk id f).hevc = e.hevc := rfl
@[simp] theorem Engine.modChunk_md : (e.modChunk id f).md = e.md := rfl
@[simp] theorem Engine.modChunk_ep : (e.modChunk id f).ep = e.ep := rfl
@[simp] theorem Engine.modChunk_outs : (e.modChunk id f).outs = e.outs := rfl
@[simp] theorem Engine.modChunk_dram : (e.modChunk id f).dram = e.dram := rfl
@[simp] theorem Engine.modChunk_grotto : (e.modChunk id f).grotto = e.grotto := rfl
end modChunk

section modTime
variable (f : TimeBase → TimeBase) (e : Engine)
@[simp] theorem Engine.modTime_now : (e.modTime f).now = e.now := rfl
@[simp] theorem Engine.modTime_free : (e.modTime f).free = e.free := rfl
@[simp] theorem Engine.modTime_cfg : (e.modTime f).cfg = e.cfg := rfl
@[simp] theorem Engine.modTime_counters : (e.modTime f).counters = e.counters := rfl
@[simp] theorem Engine.modTime_log : (e.modTime f).log = e.log := rfl
@[simp] theorem Engine.modTime_ctl : (e.modTime f).ctl = e.ctl := rfl
@[simp] theorem Engine.modTime_sys : (e.modTime f).sys = e.sys := rfl
@[simp] theorem Engine.modTime_modId : (e.modTime f).modId = e.modId := rfl
@[simp] theorem Engine.modTime_power : (e.modTime f).power = e.power := rfl
@[simp] theorem Engine.modTime_pins : (e.modTime f).pins = e.pins := rfl
@[simp] theorem Engine.modTime_cluster : (e.modTime f).cluster = e.cluster := rfl
@[simp] theorem Engine.modTime_lanes : (e.modTime f).lanes = e.lanes := rfl
@[simp] theorem Engine.modTime_ports : (e.modTime f).ports = e.ports := rfl
@[simp] theorem Engine.modTime_proj : (e.modTime f).proj = e.proj := rfl
@[simp] theorem Engine.modTime_phaseIn : (e.modTime f).phaseIn = e.phaseIn := rfl
@[simp] theorem Engine.modTime_aux : (e.modTime f).aux = e.aux := rfl
@[simp] theorem Engine.modTime_clk : (e.modTime f).clk = e.clk := rfl
@[simp] theorem Engine.modTime_raw : (e.modTime f).raw = e.raw := rfl
@[simp] theorem Engine.modTime_colour : (e.modTime f).colour = e.colour := rfl
@[simp] theorem Engine.modTime_fsr : (e.modTime f).fsr = e.fsr := rfl
@[simp] theorem Engine.modTime_pos : (e.modTime f).pos = e.pos := rfl
@[simp] theorem Engine.modTime_aud : (e.modTime f).aud = e.aud := rfl
@[simp] theorem Engine.modTime_hevc : (e.modTime f).hevc = e.hevc := rfl
@[simp] theorem Engine.modTime_md : (e.modTime f).md = e.md := rfl
@[simp] theorem Engine.modTime_rec : (e.modTime f).rec_ = e.rec_ := rfl
@[simp] theorem Engine.modTime_ep : (e.modTime f).ep = e.ep := rfl
@[simp] theorem Engine.modTime_outs : (e.modTime f).outs = e.outs := rfl
@[simp] theorem Engine.modTime_dram : (e.modTime f).dram = e.dram := rfl
@[simp] theorem Engine.modTime_grotto : (e.modTime f).grotto = e.grotto := rfl
@[simp] theorem Engine.modTime_time : (e.modTime f).time = f e.time := rfl
end modTime

section modServo
variable (k : Nat) (f : Servo → Servo) (e : Engine)
@[simp] theorem Engine.modServo_now : (e.modServo k f).now = e.now := rfl
@[simp] theorem Engine.modServo_free : (e.modServo k f).free = e.free := rfl
@[simp] theorem Engine.modServo_cfg : (e.modServo k f).cfg = e.cfg := rfl
@[simp] theorem Engine.modServo_counters : (e.modServo k f).counters = e.counters := rfl
@[simp] theorem Engine.modServo_log : (e.modServo k f).log = e.log := rfl
@[simp] theorem Engine.modServo_ctl : (e.modServo k f).ctl = e.ctl := rfl
@[simp] theorem Engine.modServo_sys : (e.modServo k f).sys = e.sys := rfl
@[simp] theorem Engine.modServo_modId : (e.modServo k f).modId = e.modId := rfl
@[simp] theorem Engine.modServo_power : (e.modServo k f).power = e.power := rfl
@[simp] theorem Engine.modServo_pins : (e.modServo k f).pins = e.pins := rfl
@[simp] theorem Engine.modServo_cluster : (e.modServo k f).cluster = e.cluster := rfl
@[simp] theorem Engine.modServo_lanes : (e.modServo k f).lanes = e.lanes := rfl
@[simp] theorem Engine.modServo_ports : (e.modServo k f).ports = e.ports := rfl
@[simp] theorem Engine.modServo_proj : (e.modServo k f).proj = e.proj := rfl
@[simp] theorem Engine.modServo_phaseIn : (e.modServo k f).phaseIn = e.phaseIn := rfl
@[simp] theorem Engine.modServo_aux : (e.modServo k f).aux = e.aux := rfl
@[simp] theorem Engine.modServo_clk : (e.modServo k f).clk = e.clk := rfl
@[simp] theorem Engine.modServo_raw : (e.modServo k f).raw = e.raw := rfl
@[simp] theorem Engine.modServo_colour : (e.modServo k f).colour = e.colour := rfl
@[simp] theorem Engine.modServo_fsr : (e.modServo k f).fsr = e.fsr := rfl
@[simp] theorem Engine.modServo_pos : (e.modServo k f).pos = e.pos := rfl
@[simp] theorem Engine.modServo_aud : (e.modServo k f).aud = e.aud := rfl
@[simp] theorem Engine.modServo_hevc : (e.modServo k f).hevc = e.hevc := rfl
@[simp] theorem Engine.modServo_md : (e.modServo k f).md = e.md := rfl
@[simp] theorem Engine.modServo_rec : (e.modServo k f).rec_ = e.rec_ := rfl
@[simp] theorem Engine.modServo_ep : (e.modServo k f).ep = e.ep := rfl
@[simp] theorem Engine.modServo_outs : (e.modServo k f).outs = e.outs := rfl
@[simp] theorem Engine.modServo_dram : (e.modServo k f).dram = e.dram := rfl
@[simp] theorem Engine.modServo_grotto : (e.modServo k f).grotto = e.grotto := rfl
@[simp] theorem Engine.modServo_time : (e.modServo k f).time = { e.time with servos := vmod e.time.servos k f } := rfl
end modServo

section modUnits
variable (f : List UnitRun → List UnitRun) (e : Engine)
@[simp] theorem Engine.modUnits_now : (e.modUnits f).now = e.now := rfl
@[simp] theorem Engine.modUnits_free : (e.modUnits f).free = e.free := rfl
@[simp] theorem Engine.modUnits_cfg : (e.modUnits f).cfg = e.cfg := rfl
@[simp] theorem Engine.modUnits_counters : (e.modUnits f).counters = e.counters := rfl
@[simp] theorem Engine.modUnits_log : (e.modUnits f).log = e.log := rfl
@[simp] theorem Engine.modUnits_ctl : (e.modUnits f).ctl = e.ctl := rfl
@[simp] theorem Engine.modUnits_modId : (e.modUnits f).modId = e.modId := rfl
@[simp] theorem Engine.modUnits_power : (e.modUnits f).power = e.power := rfl
@[simp] theorem Engine.modUnits_pins : (e.modUnits f).pins = e.pins := rfl
@[simp] theorem Engine.modUnits_cluster : (e.modUnits f).cluster = e.cluster := rfl
@[simp] theorem Engine.modUnits_lanes : (e.modUnits f).lanes = e.lanes := rfl
@[simp] theorem Engine.modUnits_ports : (e.modUnits f).ports = e.ports := rfl
@[simp] theorem Engine.modUnits_proj : (e.modUnits f).proj = e.proj := rfl
@[simp] theorem Engine.modUnits_phaseIn : (e.modUnits f).phaseIn = e.phaseIn := rfl
@[simp] theorem Engine.modUnits_aux : (e.modUnits f).aux = e.aux := rfl
@[simp] theorem Engine.modUnits_time : (e.modUnits f).time = e.time := rfl
@[simp] theorem Engine.modUnits_clk : (e.modUnits f).clk = e.clk := rfl
@[simp] theorem Engine.modUnits_raw : (e.modUnits f).raw = e.raw := rfl
@[simp] theorem Engine.modUnits_colour : (e.modUnits f).colour = e.colour := rfl
@[simp] theorem Engine.modUnits_fsr : (e.modUnits f).fsr = e.fsr := rfl
@[simp] theorem Engine.modUnits_pos : (e.modUnits f).pos = e.pos := rfl
@[simp] theorem Engine.modUnits_aud : (e.modUnits f).aud = e.aud := rfl
@[simp] theorem Engine.modUnits_hevc : (e.modUnits f).hevc = e.hevc := rfl
@[simp] theorem Engine.modUnits_md : (e.modUnits f).md = e.md := rfl
@[simp] theorem Engine.modUnits_rec : (e.modUnits f).rec_ = e.rec_ := rfl
@[simp] theorem Engine.modUnits_ep : (e.modUnits f).ep = e.ep := rfl
@[simp] theorem Engine.modUnits_outs : (e.modUnits f).outs = e.outs := rfl
@[simp] theorem Engine.modUnits_dram : (e.modUnits f).dram = e.dram := rfl
@[simp] theorem Engine.modUnits_grotto : (e.modUnits f).grotto = e.grotto := rfl
@[simp] theorem Engine.modUnits_sys : (e.modUnits f).sys = { e.sys with units := f e.sys.units } := rfl
end modUnits

section emit
variable (src : Nat) (ev : Ev) (data : List Byte) (e : Engine)
@[simp] theorem Engine.emit_now : (e.emit src ev data).now = e.now := rfl
@[simp] theorem Engine.emit_free : (e.emit src ev data).free = e.free := rfl
@[simp] theorem Engine.emit_cfg : (e.emit src ev data).cfg = e.cfg := rfl
@[simp] theorem Engine.emit_counters : (e.emit src ev data).counters = e.counters := rfl
@[simp] theorem Engine.emit_ctl : (e.emit src ev data).ctl = e.ctl := rfl
@[simp] theorem Engine.emit_sys : (e.emit src ev data).sys = e.sys := rfl
@[simp] theorem Engine.emit_modId : (e.emit src ev data).modId = e.modId := rfl
@[simp] theorem Engine.emit_power : (e.emit src ev data).power = e.power := rfl
@[simp] theorem Engine.emit_pins : (e.emit src ev data).pins = e.pins := rfl
@[simp] theorem Engine.emit_cluster : (e.emit src ev data).cluster = e.cluster := rfl
@[simp] theorem Engine.emit_lanes : (e.emit src ev data).lanes = e.lanes := rfl
@[simp] theorem Engine.emit_ports : (e.emit src ev data).ports = e.ports := rfl
@[simp] theorem Engine.emit_proj : (e.emit src ev data).proj = e.proj := rfl
@[simp] theorem Engine.emit_phaseIn : (e.emit src ev data).phaseIn = e.phaseIn := rfl
@[simp] theorem Engine.emit_aux : (e.emit src ev data).aux = e.aux := rfl
@[simp] theorem Engine.emit_time : (e.emit src ev data).time = e.time := rfl
@[simp] theorem Engine.emit_clk : (e.emit src ev data).clk = e.clk := rfl
@[simp] theorem Engine.emit_raw : (e.emit src ev data).raw = e.raw := rfl
@[simp] theorem Engine.emit_colour : (e.emit src ev data).colour = e.colour := rfl
@[simp] theorem Engine.emit_fsr : (e.emit src ev data).fsr = e.fsr := rfl
@[simp] theorem Engine.emit_pos : (e.emit src ev data).pos = e.pos := rfl
@[simp] theorem Engine.emit_aud : (e.emit src ev data).aud = e.aud := rfl
@[simp] theorem Engine.emit_hevc : (e.emit src ev data).hevc = e.hevc := rfl
@[simp] theorem Engine.emit_md : (e.emit src ev data).md = e.md := rfl
@[simp] theorem Engine.emit_rec : (e.emit src ev data).rec_ = e.rec_ := rfl
@[simp] theorem Engine.emit_ep : (e.emit src ev data).ep = e.ep := rfl
@[simp] theorem Engine.emit_outs : (e.emit src ev data).outs = e.outs := rfl
@[simp] theorem Engine.emit_dram : (e.emit src ev data).dram = e.dram := rfl
@[simp] theorem Engine.emit_grotto : (e.emit src ev data).grotto = e.grotto := rfl
end emit

end Sys2Proof.Machine
end

