-- ==== Sys2Proof/Laws/Ops.lean ====
section
/-! SUPPORT. What the shared operations can do, each said once: the parts of the engine they change, what a counter reads
after one more, what a request is answered, and the frame of every operation field by field. -/

namespace Sys2Proof.Machine

theorem Part.same_refl (p : Part) (a : Engine) : p.same a a := by cases p <;> rfl

theorem Part.same_trans {p : Part} {a b c : Engine} (h : p.same a b) (h' : p.same b c) : p.same a c := by
  cases p <;> exact Eq.trans h h'

theorem Engine.changesOnly_refl (ps : List Part) (a : Engine) : Engine.changesOnly ps a a := fun p _ => p.same_refl a

theorem Engine.changesOnly_trans {ps : List Part} {a b c : Engine} (h : Engine.changesOnly ps a b)
    (h' : Engine.changesOnly ps b c) : Engine.changesOnly ps a c := fun p hp => Part.same_trans (h p hp) (h' p hp)

theorem Engine.changesOnly_mono {ps qs : List Part} {a b : Engine} (h : Engine.changesOnly ps a b)
    (hs : ∀ p ∈ ps, p ∈ qs) : Engine.changesOnly qs a b := fun p hp => h p fun hm => hp (hs p hm)

theorem Engine.changesOnly_foldl {α : Type} {ps : List Part} (f : Engine → α → Engine)
    (h : ∀ e x, Engine.changesOnly ps e (f e x)) (l : List α) (e : Engine) : Engine.changesOnly ps e (l.foldl f e) := by
  induction l generalizing e with
  | nil => exact Engine.changesOnly_refl ps e
  | cons x r ih => exact Engine.changesOnly_trans (h e x) (ih (f e x))

section
variable (e : Engine)

theorem Engine.emit_only (src : Nat) (ev : Ev) (d : List Byte) : Engine.changesOnly [.log] e (e.emit src ev d) := by
  intro p hp; cases p <;> first | rfl | exact absurd (by decide) hp

theorem Engine.bumpN_only (c : Ctr) (src i n : Nat) : Engine.changesOnly [.counters] e (e.bumpN c src i n) := by
  unfold Engine.bumpN
  split
  · exact Engine.changesOnly_refl _ e
  · intro p hp; cases p <;> first | rfl | exact absurd (by decide) hp

theorem Engine.bump_only (c : Ctr) (src : Nat) : Engine.changesOnly [.counters] e (e.bump c src) := e.bumpN_only c src 0 1

theorem Engine.putClient_only (x : ClientState) : Engine.changesOnly [.ctl] e (e.putClient x) := by
  intro p hp; cases p <;> first | rfl | exact absurd (by decide) hp

theorem Engine.modEp_only (f : Ep → Ep) : Engine.changesOnly [.ep] e (e.modEp f) := by
  intro p hp; cases p <;> first | rfl | exact absurd (by decide) hp

theorem Engine.epStatus_only (q cid sct sc : Nat) (dnr : Bool) (dw : Nat) (d : List Byte) :
    Engine.changesOnly [.ep] e (e.epStatus q cid sct sc dnr dw d) := e.modEp_only _

theorem Engine.epOk_only (q cid dw : Nat) (d : List Byte) : Engine.changesOnly [.ep] e (e.epOk q cid dw d) := e.modEp_only _

theorem Engine.epEvent_only (ty info page : Nat) : Engine.changesOnly [.ep] e (e.epEvent ty info page) := by
  unfold Engine.epEvent
  split
  · exact Engine.changesOnly_refl _ e
  · dsimp only
    split
    · exact Engine.changesOnly_trans (Engine.changesOnly_trans (e.modEp_only _) (Engine.modEp_only _ _)) (Engine.epOk_only _ _ _ _ _)
    · exact Engine.changesOnly_trans (e.modEp_only _) (Engine.modEp_only _ _)

theorem Engine.takeControl_only (h : MsgHdr) (ty : Nat) : Engine.changesOnly [.ep] e (e.takeControl h ty) := by
  unfold Engine.takeControl
  split
  · exact e.modEp_only _
  · exact Engine.changesOnly_refl _ e

theorem Engine.answerControl_only (m : OutMsg) : Engine.changesOnly [.ep] e (e.answerControl m) := by
  unfold Engine.answerControl
  split
  · exact Engine.changesOnly_refl _ e
  · exact Engine.changesOnly_trans (e.modEp_only _) (Engine.epOk_only _ _ _ _ _)

/-- The model's own record of what was sent touches the control state alone. -/
theorem Engine.sent_only (l : List OutMsg) :
    Engine.changesOnly [.ctl] e { e with ctl := { e.ctl with sent := l } } := by
  intro p hp; cases p <;> first | rfl | exact absurd (by decide) hp

theorem Engine.transmit_only (m : OutMsg) : Engine.changesOnly [.ctl, .ep] e (e.transmit m) := by
  unfold Engine.transmit
  have h := Engine.changesOnly_mono (qs := [.ctl, .ep]) (e.sent_only (m :: e.ctl.sent)) (by decide)
  dsimp only
  split
  · exact Engine.changesOnly_trans h (Engine.changesOnly_mono (Engine.answerControl_only _ m) (by decide))
  · exact h

theorem Engine.reply_only (h : MsgHdr) (ty : Nat) (st : Status) (rs : Reason) (d : List Byte) :
    Engine.changesOnly [.ctl, .ep, .counters] e (e.reply h ty st rs d) := by
  unfold Engine.reply
  dsimp only
  split
  · exact Engine.changesOnly_trans (Engine.changesOnly_mono (e.transmit_only _) (by decide))
      (Engine.changesOnly_mono (Engine.bump_only _ _ _) (by decide))
  · exact Engine.changesOnly_trans (Engine.changesOnly_mono (e.transmit_only _) (by decide))
      (Engine.changesOnly_mono (Engine.putClient_only _ _) (by decide))

theorem Engine.ok_only (h : MsgHdr) (ty : Nat) : Engine.changesOnly [.ctl, .ep, .counters] e (e.ok h ty) := e.reply_only h ty _ _ _

theorem Engine.refuse_only (h : MsgHdr) (ty : Nat) (st : Status) (rs : Reason) :
    Engine.changesOnly [.ctl, .ep, .counters] e (e.refuse h ty st rs) := e.reply_only h ty _ _ _

theorem Engine.makeRoom_only (c : Client) : Engine.changesOnly [.ctl] e (e.makeRoom c) := by
  unfold Engine.makeRoom
  split
  · split
    · split
      · exact e.putClient_only _
      · intro p hp; cases p <;> first | rfl | exact absurd (by decide) hp
    · exact Engine.changesOnly_refl _ e
  · exact Engine.changesOnly_refl _ e

theorem Engine.heard_only (c : Client) : Engine.changesOnly [.ctl] e (e.heard c) :=
  Engine.changesOnly_trans (e.makeRoom_only c) (Engine.putClient_only _ _)

theorem Engine.received_only (h : MsgHdr) (ty : Nat) : Engine.changesOnly [.ctl, .ep] e (e.received h ty) :=
  Engine.changesOnly_trans (Engine.changesOnly_mono (e.heard_only _) (by decide))
    (Engine.changesOnly_mono (Engine.takeControl_only _ h ty) (by decide))

theorem Engine.turnAway_only (h : MsgHdr) (ty : Nat) (a : Admit) :
    Engine.changesOnly [.ctl, .ep, .counters] e (e.turnAway h ty a) := by
  cases a with
  | ignore => exact Engine.changesOnly_refl _ e
  | dup k =>
    exact Engine.changesOnly_trans (Engine.changesOnly_mono (e.received_only h ty) (by decide))
      (Engine.changesOnly_trans (Engine.changesOnly_mono (Engine.transmit_only _ _) (by decide))
        (Engine.changesOnly_mono (Engine.bump_only _ _ _) (by decide)))
  | state =>
    exact Engine.changesOnly_trans (Engine.changesOnly_mono (e.received_only h ty) (by decide)) (Engine.refuse_only _ _ _ _ _)
  | go => exact Engine.changesOnly_refl _ e

theorem Engine.queueTo_only (c : Client) (ty : Nat) (d : List Byte) :
    Engine.changesOnly [.ctl, .ep, .counters] e (e.queueTo c ty d) := by
  unfold Engine.queueTo
  refine Engine.changesOnly_trans ?_ (Engine.changesOnly_mono (Engine.bumpN_only _ _ _ _ _) (by decide))
  have h (x : ClientState) := Engine.changesOnly_mono (qs := [.ctl, .ep, .counters]) (e.putClient_only x) (by decide)
  split
  · exact Engine.changesOnly_trans (h _) (Engine.changesOnly_mono (Engine.epEvent_only _ _ _ _) (by decide))
  · exact h _

theorem Engine.notifySev_only (ty sev : Nat) (o : Option Client) (d : List Byte) :
    Engine.changesOnly [.ctl, .ep, .counters] e (e.notifySev ty sev o d) :=
  Engine.changesOnly_foldl _ (fun e c => e.queueTo_only c ty d) _ e

theorem Engine.notify_only (ty : Nat) (o : Option Client) (d : List Byte) :
    Engine.changesOnly [.ctl, .ep, .counters] e (e.notify ty o d) := e.notifySev_only ty 0 o d

theorem Engine.landed_only (o : Client) (ty seq cfn port : Nat) (late overrun : Bool) :
    Engine.changesOnly [.ctl, .ep, .counters] e (e.landed o ty seq cfn port late overrun) := e.notify_only _ _ _

theorem Engine.sendNotes_only : Engine.changesOnly [.ctl, .ep, .counters, .raw] e e.sendNotes := by
  unfold Engine.sendNotes
  have h : Engine.changesOnly [.ctl, .ep, .counters, .raw] e { e with raw := { e.raw with notes := [] } } := by
    intro p hp; cases p <;> first | rfl | exact absurd (by decide) hp
  exact Engine.changesOnly_trans h (Engine.changesOnly_mono (Engine.changesOnly_foldl _
    (fun e n => e.notify_only 0x0502 none n) _ _) (by decide))

/-- The parts that the passing of time changes: the clock, and what leaves on the transports. -/
theorem Engine.at_only (t : Nat) : Engine.changesOnly [.now, .ctl, .ep, .counters, .raw] e (e.at t) := by
  unfold Engine.at
  split
  · have h : Engine.changesOnly [.now, .ctl, .ep, .counters, .raw] e { e with now := t, ctl := e.ctl.drain } := by
      intro p hp; cases p <;> first | rfl | exact absurd (by decide) hp
    exact Engine.changesOnly_trans h (Engine.changesOnly_mono (Engine.sendNotes_only _) (by decide))
  · exact Engine.changesOnly_refl _ e

end

/-! The frame of each operation, field by field. -/

/-- A part outside the list is as it was. -/
theorem Engine.changesOnly_get {ps : List Part} {a b : Engine} (h : Engine.changesOnly ps a b) (p : Part)
    (hp : decide (p ∈ ps) = false) : p.same a b := h p (of_decide_eq_false hp)

section bumpN
variable (e : Engine) (c : Ctr) (src i n : Nat)
@[simp] theorem Engine.bumpN_now : (e.bumpN c src i n).now = e.now := (Engine.changesOnly_get (e.bumpN_only c src i n) .now rfl).symm
@[simp] theorem Engine.bumpN_free : (e.bumpN c src i n).free = e.free := (Engine.changesOnly_get (e.bumpN_only c src i n) .free rfl).symm
@[simp] theorem Engine.bumpN_cfg : (e.bumpN c src i n).cfg = e.cfg := (Engine.changesOnly_get (e.bumpN_only c src i n) .cfg rfl).symm
@[simp] theorem Engine.bumpN_log : (e.bumpN c src i n).log = e.log := (Engine.changesOnly_get (e.bumpN_only c src i n) .log rfl).symm
@[simp] theorem Engine.bumpN_ctl : (e.bumpN c src i n).ctl = e.ctl := (Engine.changesOnly_get (e.bumpN_only c src i n) .ctl rfl).symm
@[simp] theorem Engine.bumpN_sys : (e.bumpN c src i n).sys = e.sys := (Engine.changesOnly_get (e.bumpN_only c src i n) .sys rfl).symm
@[simp] theorem Engine.bumpN_modId : (e.bumpN c src i n).modId = e.modId := (Engine.changesOnly_get (e.bumpN_only c src i n) .modId rfl).symm
@[simp] theorem Engine.bumpN_power : (e.bumpN c src i n).power = e.power := (Engine.changesOnly_get (e.bumpN_only c src i n) .power rfl).symm
@[simp] theorem Engine.bumpN_pins : (e.bumpN c src i n).pins = e.pins := (Engine.changesOnly_get (e.bumpN_only c src i n) .pins rfl).symm
@[simp] theorem Engine.bumpN_cluster : (e.bumpN c src i n).cluster = e.cluster := (Engine.changesOnly_get (e.bumpN_only c src i n) .cluster rfl).symm
@[simp] theorem Engine.bumpN_lanes : (e.bumpN c src i n).lanes = e.lanes := (Engine.changesOnly_get (e.bumpN_only c src i n) .lanes rfl).symm
@[simp] theorem Engine.bumpN_ports : (e.bumpN c src i n).ports = e.ports := (Engine.changesOnly_get (e.bumpN_only c src i n) .ports rfl).symm
@[simp] theorem Engine.bumpN_proj : (e.bumpN c src i n).proj = e.proj := (Engine.changesOnly_get (e.bumpN_only c src i n) .proj rfl).symm
@[simp] theorem Engine.bumpN_phaseIn : (e.bumpN c src i n).phaseIn = e.phaseIn := (Engine.changesOnly_get (e.bumpN_only c src i n) .phaseIn rfl).symm
@[simp] theorem Engine.bumpN_aux : (e.bumpN c src i n).aux = e.aux := (Engine.changesOnly_get (e.bumpN_only c src i n) .aux rfl).symm
@[simp] theorem Engine.bumpN_time : (e.bumpN c src i n).time = e.time := (Engine.changesOnly_get (e.bumpN_only c src i n) .time rfl).symm
@[simp] theorem Engine.bumpN_clk : (e.bumpN c src i n).clk = e.clk := (Engine.changesOnly_get (e.bumpN_only c src i n) .clk rfl).symm
@[simp] theorem Engine.bumpN_raw : (e.bumpN c src i n).raw = e.raw := (Engine.changesOnly_get (e.bumpN_only c src i n) .raw rfl).symm
@[simp] theorem Engine.bumpN_colour : (e.bumpN c src i n).colour = e.colour := (Engine.changesOnly_get (e.bumpN_only c src i n) .colour rfl).symm
@[simp] theorem Engine.bumpN_fsr : (e.bumpN c src i n).fsr = e.fsr := (Engine.changesOnly_get (e.bumpN_only c src i n) .fsr rfl).symm
@[simp] theorem Engine.bumpN_pos : (e.bumpN c src i n).pos = e.pos := (Engine.changesOnly_get (e.bumpN_only c src i n) .pos rfl).symm
@[simp] theorem Engine.bumpN_aud : (e.bumpN c src i n).aud = e.aud := (Engine.changesOnly_get (e.bumpN_only c src i n) .aud rfl).symm
@[simp] theorem Engine.bumpN_hevc : (e.bumpN c src i n).hevc = e.hevc := (Engine.changesOnly_get (e.bumpN_only c src i n) .hevc rfl).symm
@[simp] theorem Engine.bumpN_md : (e.bumpN c src i n).md = e.md := (Engine.changesOnly_get (e.bumpN_only c src i n) .md rfl).symm
@[simp] theorem Engine.bumpN_rec : (e.bumpN c src i n).rec_ = e.rec_ := (Engine.changesOnly_get (e.bumpN_only c src i n) .recorder rfl).symm
@[simp] theorem Engine.bumpN_ep : (e.bumpN c src i n).ep = e.ep := (Engine.changesOnly_get (e.bumpN_only c src i n) .ep rfl).symm
@[simp] theorem Engine.bumpN_outs : (e.bumpN c src i n).outs = e.outs := (Engine.changesOnly_get (e.bumpN_only c src i n) .outs rfl).symm
@[simp] theorem Engine.bumpN_dram : (e.bumpN c src i n).dram = e.dram := (Engine.changesOnly_get (e.bumpN_only c src i n) .dram rfl).symm
@[simp] theorem Engine.bumpN_grotto : (e.bumpN c src i n).grotto = e.grotto := (Engine.changesOnly_get (e.bumpN_only c src i n) .grotto rfl).symm
end bumpN

section bump
variable (e : Engine) (c : Ctr) (src : Nat)
@[simp] theorem Engine.bump_now : (e.bump c src).now = e.now := (Engine.changesOnly_get (e.bump_only c src) .now rfl).symm
@[simp] theorem Engine.bump_free : (e.bump c src).free = e.free := (Engine.changesOnly_get (e.bump_only c src) .free rfl).symm
@[simp] theorem Engine.bump_cfg : (e.bump c src).cfg = e.cfg := (Engine.changesOnly_get (e.bump_only c src) .cfg rfl).symm
@[simp] theorem Engine.bump_log : (e.bump c src).log = e.log := (Engine.changesOnly_get (e.bump_only c src) .log rfl).symm
@[simp] theorem Engine.bump_ctl : (e.bump c src).ctl = e.ctl := (Engine.changesOnly_get (e.bump_only c src) .ctl rfl).symm
@[simp] theorem Engine.bump_sys : (e.bump c src).sys = e.sys := (Engine.changesOnly_get (e.bump_only c src) .sys rfl).symm
@[simp] theorem Engine.bump_modId : (e.bump c src).modId = e.modId := (Engine.changesOnly_get (e.bump_only c src) .modId rfl).symm
@[simp] theorem Engine.bump_power : (e.bump c src).power = e.power := (Engine.changesOnly_get (e.bump_only c src) .power rfl).symm
@[simp] theorem Engine.bump_pins : (e.bump c src).pins = e.pins := (Engine.changesOnly_get (e.bump_only c src) .pins rfl).symm
@[simp] theorem Engine.bump_cluster : (e.bump c src).cluster = e.cluster := (Engine.changesOnly_get (e.bump_only c src) .cluster rfl).symm
@[simp] theorem Engine.bump_lanes : (e.bump c src).lanes = e.lanes := (Engine.changesOnly_get (e.bump_only c src) .lanes rfl).symm
@[simp] theorem Engine.bump_ports : (e.bump c src).ports = e.ports := (Engine.changesOnly_get (e.bump_only c src) .ports rfl).symm
@[simp] theorem Engine.bump_proj : (e.bump c src).proj = e.proj := (Engine.changesOnly_get (e.bump_only c src) .proj rfl).symm
@[simp] theorem Engine.bump_phaseIn : (e.bump c src).phaseIn = e.phaseIn := (Engine.changesOnly_get (e.bump_only c src) .phaseIn rfl).symm
@[simp] theorem Engine.bump_aux : (e.bump c src).aux = e.aux := (Engine.changesOnly_get (e.bump_only c src) .aux rfl).symm
@[simp] theorem Engine.bump_time : (e.bump c src).time = e.time := (Engine.changesOnly_get (e.bump_only c src) .time rfl).symm
@[simp] theorem Engine.bump_clk : (e.bump c src).clk = e.clk := (Engine.changesOnly_get (e.bump_only c src) .clk rfl).symm
@[simp] theorem Engine.bump_raw : (e.bump c src).raw = e.raw := (Engine.changesOnly_get (e.bump_only c src) .raw rfl).symm
@[simp] theorem Engine.bump_colour : (e.bump c src).colour = e.colour := (Engine.changesOnly_get (e.bump_only c src) .colour rfl).symm
@[simp] theorem Engine.bump_fsr : (e.bump c src).fsr = e.fsr := (Engine.changesOnly_get (e.bump_only c src) .fsr rfl).symm
@[simp] theorem Engine.bump_pos : (e.bump c src).pos = e.pos := (Engine.changesOnly_get (e.bump_only c src) .pos rfl).symm
@[simp] theorem Engine.bump_aud : (e.bump c src).aud = e.aud := (Engine.changesOnly_get (e.bump_only c src) .aud rfl).symm
@[simp] theorem Engine.bump_hevc : (e.bump c src).hevc = e.hevc := (Engine.changesOnly_get (e.bump_only c src) .hevc rfl).symm
@[simp] theorem Engine.bump_md : (e.bump c src).md = e.md := (Engine.changesOnly_get (e.bump_only c src) .md rfl).symm
@[simp] theorem Engine.bump_rec : (e.bump c src).rec_ = e.rec_ := (Engine.changesOnly_get (e.bump_only c src) .recorder rfl).symm
@[simp] theorem Engine.bump_ep : (e.bump c src).ep = e.ep := (Engine.changesOnly_get (e.bump_only c src) .ep rfl).symm
@[simp] theorem Engine.bump_outs : (e.bump c src).outs = e.outs := (Engine.changesOnly_get (e.bump_only c src) .outs rfl).symm
@[simp] theorem Engine.bump_dram : (e.bump c src).dram = e.dram := (Engine.changesOnly_get (e.bump_only c src) .dram rfl).symm
@[simp] theorem Engine.bump_grotto : (e.bump c src).grotto = e.grotto := (Engine.changesOnly_get (e.bump_only c src) .grotto rfl).symm
end bump

section putClient
variable (e : Engine) (x : ClientState)
@[simp] theorem Engine.putClient_now : (e.putClient x).now = e.now := (Engine.changesOnly_get (e.putClient_only x) .now rfl).symm
@[simp] theorem Engine.putClient_free : (e.putClient x).free = e.free := (Engine.changesOnly_get (e.putClient_only x) .free rfl).symm
@[simp] theorem Engine.putClient_cfg : (e.putClient x).cfg = e.cfg := (Engine.changesOnly_get (e.putClient_only x) .cfg rfl).symm
@[simp] theorem Engine.putClient_counters : (e.putClient x).counters = e.counters := (Engine.changesOnly_get (e.putClient_only x) .counters rfl).symm
@[simp] theorem Engine.putClient_log : (e.putClient x).log = e.log := (Engine.changesOnly_get (e.putClient_only x) .log rfl).symm
@[simp] theorem Engine.putClient_sys : (e.putClient x).sys = e.sys := (Engine.changesOnly_get (e.putClient_only x) .sys rfl).symm
@[simp] theorem Engine.putClient_modId : (e.putClient x).modId = e.modId := (Engine.changesOnly_get (e.putClient_only x) .modId rfl).symm
@[simp] theorem Engine.putClient_power : (e.putClient x).power = e.power := (Engine.changesOnly_get (e.putClient_only x) .power rfl).symm
@[simp] theorem Engine.putClient_pins : (e.putClient x).pins = e.pins := (Engine.changesOnly_get (e.putClient_only x) .pins rfl).symm
@[simp] theorem Engine.putClient_cluster : (e.putClient x).cluster = e.cluster := (Engine.changesOnly_get (e.putClient_only x) .cluster rfl).symm
@[simp] theorem Engine.putClient_lanes : (e.putClient x).lanes = e.lanes := (Engine.changesOnly_get (e.putClient_only x) .lanes rfl).symm
@[simp] theorem Engine.putClient_ports : (e.putClient x).ports = e.ports := (Engine.changesOnly_get (e.putClient_only x) .ports rfl).symm
@[simp] theorem Engine.putClient_proj : (e.putClient x).proj = e.proj := (Engine.changesOnly_get (e.putClient_only x) .proj rfl).symm
@[simp] theorem Engine.putClient_phaseIn : (e.putClient x).phaseIn = e.phaseIn := (Engine.changesOnly_get (e.putClient_only x) .phaseIn rfl).symm
@[simp] theorem Engine.putClient_aux : (e.putClient x).aux = e.aux := (Engine.changesOnly_get (e.putClient_only x) .aux rfl).symm
@[simp] theorem Engine.putClient_time : (e.putClient x).time = e.time := (Engine.changesOnly_get (e.putClient_only x) .time rfl).symm
@[simp] theorem Engine.putClient_clk : (e.putClient x).clk = e.clk := (Engine.changesOnly_get (e.putClient_only x) .clk rfl).symm
@[simp] theorem Engine.putClient_raw : (e.putClient x).raw = e.raw := (Engine.changesOnly_get (e.putClient_only x) .raw rfl).symm
@[simp] theorem Engine.putClient_colour : (e.putClient x).colour = e.colour := (Engine.changesOnly_get (e.putClient_only x) .colour rfl).symm
@[simp] theorem Engine.putClient_fsr : (e.putClient x).fsr = e.fsr := (Engine.changesOnly_get (e.putClient_only x) .fsr rfl).symm
@[simp] theorem Engine.putClient_pos : (e.putClient x).pos = e.pos := (Engine.changesOnly_get (e.putClient_only x) .pos rfl).symm
@[simp] theorem Engine.putClient_aud : (e.putClient x).aud = e.aud := (Engine.changesOnly_get (e.putClient_only x) .aud rfl).symm
@[simp] theorem Engine.putClient_hevc : (e.putClient x).hevc = e.hevc := (Engine.changesOnly_get (e.putClient_only x) .hevc rfl).symm
@[simp] theorem Engine.putClient_md : (e.putClient x).md = e.md := (Engine.changesOnly_get (e.putClient_only x) .md rfl).symm
@[simp] theorem Engine.putClient_rec : (e.putClient x).rec_ = e.rec_ := (Engine.changesOnly_get (e.putClient_only x) .recorder rfl).symm
@[simp] theorem Engine.putClient_ep : (e.putClient x).ep = e.ep := (Engine.changesOnly_get (e.putClient_only x) .ep rfl).symm
@[simp] theorem Engine.putClient_outs : (e.putClient x).outs = e.outs := (Engine.changesOnly_get (e.putClient_only x) .outs rfl).symm
@[simp] theorem Engine.putClient_dram : (e.putClient x).dram = e.dram := (Engine.changesOnly_get (e.putClient_only x) .dram rfl).symm
@[simp] theorem Engine.putClient_grotto : (e.putClient x).grotto = e.grotto := (Engine.changesOnly_get (e.putClient_only x) .grotto rfl).symm
end putClient

section heard
variable (e : Engine) (c : Client)
@[simp] theorem Engine.heard_now : (e.heard c).now = e.now := (Engine.changesOnly_get (e.heard_only c) .now rfl).symm
@[simp] theorem Engine.heard_free : (e.heard c).free = e.free := (Engine.changesOnly_get (e.heard_only c) .free rfl).symm
@[simp] theorem Engine.heard_cfg : (e.heard c).cfg = e.cfg := (Engine.changesOnly_get (e.heard_only c) .cfg rfl).symm
@[simp] theorem Engine.heard_counters : (e.heard c).counters = e.counters := (Engine.changesOnly_get (e.heard_only c) .counters rfl).symm
@[simp] theorem Engine.heard_log : (e.heard c).log = e.log := (Engine.changesOnly_get (e.heard_only c) .log rfl).symm
@[simp] theorem Engine.heard_sys : (e.heard c).sys = e.sys := (Engine.changesOnly_get (e.heard_only c) .sys rfl).symm
@[simp] theorem Engine.heard_modId : (e.heard c).modId = e.modId := (Engine.changesOnly_get (e.heard_only c) .modId rfl).symm
@[simp] theorem Engine.heard_power : (e.heard c).power = e.power := (Engine.changesOnly_get (e.heard_only c) .power rfl).symm
@[simp] theorem Engine.heard_pins : (e.heard c).pins = e.pins := (Engine.changesOnly_get (e.heard_only c) .pins rfl).symm
@[simp] theorem Engine.heard_cluster : (e.heard c).cluster = e.cluster := (Engine.changesOnly_get (e.heard_only c) .cluster rfl).symm
@[simp] theorem Engine.heard_lanes : (e.heard c).lanes = e.lanes := (Engine.changesOnly_get (e.heard_only c) .lanes rfl).symm
@[simp] theorem Engine.heard_ports : (e.heard c).ports = e.ports := (Engine.changesOnly_get (e.heard_only c) .ports rfl).symm
@[simp] theorem Engine.heard_proj : (e.heard c).proj = e.proj := (Engine.changesOnly_get (e.heard_only c) .proj rfl).symm
@[simp] theorem Engine.heard_phaseIn : (e.heard c).phaseIn = e.phaseIn := (Engine.changesOnly_get (e.heard_only c) .phaseIn rfl).symm
@[simp] theorem Engine.heard_aux : (e.heard c).aux = e.aux := (Engine.changesOnly_get (e.heard_only c) .aux rfl).symm
@[simp] theorem Engine.heard_time : (e.heard c).time = e.time := (Engine.changesOnly_get (e.heard_only c) .time rfl).symm
@[simp] theorem Engine.heard_clk : (e.heard c).clk = e.clk := (Engine.changesOnly_get (e.heard_only c) .clk rfl).symm
@[simp] theorem Engine.heard_raw : (e.heard c).raw = e.raw := (Engine.changesOnly_get (e.heard_only c) .raw rfl).symm
@[simp] theorem Engine.heard_colour : (e.heard c).colour = e.colour := (Engine.changesOnly_get (e.heard_only c) .colour rfl).symm
@[simp] theorem Engine.heard_fsr : (e.heard c).fsr = e.fsr := (Engine.changesOnly_get (e.heard_only c) .fsr rfl).symm
@[simp] theorem Engine.heard_pos : (e.heard c).pos = e.pos := (Engine.changesOnly_get (e.heard_only c) .pos rfl).symm
@[simp] theorem Engine.heard_aud : (e.heard c).aud = e.aud := (Engine.changesOnly_get (e.heard_only c) .aud rfl).symm
@[simp] theorem Engine.heard_hevc : (e.heard c).hevc = e.hevc := (Engine.changesOnly_get (e.heard_only c) .hevc rfl).symm
@[simp] theorem Engine.heard_md : (e.heard c).md = e.md := (Engine.changesOnly_get (e.heard_only c) .md rfl).symm
@[simp] theorem Engine.heard_rec : (e.heard c).rec_ = e.rec_ := (Engine.changesOnly_get (e.heard_only c) .recorder rfl).symm
@[simp] theorem Engine.heard_ep : (e.heard c).ep = e.ep := (Engine.changesOnly_get (e.heard_only c) .ep rfl).symm
@[simp] theorem Engine.heard_outs : (e.heard c).outs = e.outs := (Engine.changesOnly_get (e.heard_only c) .outs rfl).symm
@[simp] theorem Engine.heard_dram : (e.heard c).dram = e.dram := (Engine.changesOnly_get (e.heard_only c) .dram rfl).symm
@[simp] theorem Engine.heard_grotto : (e.heard c).grotto = e.grotto := (Engine.changesOnly_get (e.heard_only c) .grotto rfl).symm
end heard

section received
variable (e : Engine) (h : MsgHdr) (ty : Nat)
@[simp] theorem Engine.received_now : (e.received h ty).now = e.now := (Engine.changesOnly_get (e.received_only h ty) .now rfl).symm
@[simp] theorem Engine.received_free : (e.received h ty).free = e.free := (Engine.changesOnly_get (e.received_only h ty) .free rfl).symm
@[simp] theorem Engine.received_cfg : (e.received h ty).cfg = e.cfg := (Engine.changesOnly_get (e.received_only h ty) .cfg rfl).symm
@[simp] theorem Engine.received_counters : (e.received h ty).counters = e.counters := (Engine.changesOnly_get (e.received_only h ty) .counters rfl).symm
@[simp] theorem Engine.received_log : (e.received h ty).log = e.log := (Engine.changesOnly_get (e.received_only h ty) .log rfl).symm
@[simp] theorem Engine.received_sys : (e.received h ty).sys = e.sys := (Engine.changesOnly_get (e.received_only h ty) .sys rfl).symm
@[simp] theorem Engine.received_modId : (e.received h ty).modId = e.modId := (Engine.changesOnly_get (e.received_only h ty) .modId rfl).symm
@[simp] theorem Engine.received_power : (e.received h ty).power = e.power := (Engine.changesOnly_get (e.received_only h ty) .power rfl).symm
@[simp] theorem Engine.received_pins : (e.received h ty).pins = e.pins := (Engine.changesOnly_get (e.received_only h ty) .pins rfl).symm
@[simp] theorem Engine.received_cluster : (e.received h ty).cluster = e.cluster := (Engine.changesOnly_get (e.received_only h ty) .cluster rfl).symm
@[simp] theorem Engine.received_lanes : (e.received h ty).lanes = e.lanes := (Engine.changesOnly_get (e.received_only h ty) .lanes rfl).symm
@[simp] theorem Engine.received_ports : (e.received h ty).ports = e.ports := (Engine.changesOnly_get (e.received_only h ty) .ports rfl).symm
@[simp] theorem Engine.received_proj : (e.received h ty).proj = e.proj := (Engine.changesOnly_get (e.received_only h ty) .proj rfl).symm
@[simp] theorem Engine.received_phaseIn : (e.received h ty).phaseIn = e.phaseIn := (Engine.changesOnly_get (e.received_only h ty) .phaseIn rfl).symm
@[simp] theorem Engine.received_aux : (e.received h ty).aux = e.aux := (Engine.changesOnly_get (e.received_only h ty) .aux rfl).symm
@[simp] theorem Engine.received_time : (e.received h ty).time = e.time := (Engine.changesOnly_get (e.received_only h ty) .time rfl).symm
@[simp] theorem Engine.received_clk : (e.received h ty).clk = e.clk := (Engine.changesOnly_get (e.received_only h ty) .clk rfl).symm
@[simp] theorem Engine.received_raw : (e.received h ty).raw = e.raw := (Engine.changesOnly_get (e.received_only h ty) .raw rfl).symm
@[simp] theorem Engine.received_colour : (e.received h ty).colour = e.colour := (Engine.changesOnly_get (e.received_only h ty) .colour rfl).symm
@[simp] theorem Engine.received_fsr : (e.received h ty).fsr = e.fsr := (Engine.changesOnly_get (e.received_only h ty) .fsr rfl).symm
@[simp] theorem Engine.received_pos : (e.received h ty).pos = e.pos := (Engine.changesOnly_get (e.received_only h ty) .pos rfl).symm
@[simp] theorem Engine.received_aud : (e.received h ty).aud = e.aud := (Engine.changesOnly_get (e.received_only h ty) .aud rfl).symm
@[simp] theorem Engine.received_hevc : (e.received h ty).hevc = e.hevc := (Engine.changesOnly_get (e.received_only h ty) .hevc rfl).symm
@[simp] theorem Engine.received_md : (e.received h ty).md = e.md := (Engine.changesOnly_get (e.received_only h ty) .md rfl).symm
@[simp] theorem Engine.received_rec : (e.received h ty).rec_ = e.rec_ := (Engine.changesOnly_get (e.received_only h ty) .recorder rfl).symm
@[simp] theorem Engine.received_outs : (e.received h ty).outs = e.outs := (Engine.changesOnly_get (e.received_only h ty) .outs rfl).symm
@[simp] theorem Engine.received_dram : (e.received h ty).dram = e.dram := (Engine.changesOnly_get (e.received_only h ty) .dram rfl).symm
@[simp] theorem Engine.received_grotto : (e.received h ty).grotto = e.grotto := (Engine.changesOnly_get (e.received_only h ty) .grotto rfl).symm
end received

section epStatus
variable (e : Engine) (q cid sct sc : Nat) (dnr : Bool) (dw : Nat) (d : List Byte)
@[simp] theorem Engine.epStatus_now : (e.epStatus q cid sct sc dnr dw d).now = e.now := (Engine.changesOnly_get (e.epStatus_only q cid sct sc dnr dw d) .now rfl).symm
@[simp] theorem Engine.epStatus_free : (e.epStatus q cid sct sc dnr dw d).free = e.free := (Engine.changesOnly_get (e.epStatus_only q cid sct sc dnr dw d) .free rfl).symm
@[simp] theorem Engine.epStatus_cfg : (e.epStatus q cid sct sc dnr dw d).cfg = e.cfg := (Engine.changesOnly_get (e.epStatus_only q cid sct sc dnr dw d) .cfg rfl).symm
@[simp] theorem Engine.epStatus_counters : (e.epStatus q cid sct sc dnr dw d).counters = e.counters := (Engine.changesOnly_get (e.epStatus_only q cid sct sc dnr dw d) .counters rfl).symm
@[simp] theorem Engine.epStatus_log : (e.epStatus q cid sct sc dnr dw d).log = e.log := (Engine.changesOnly_get (e.epStatus_only q cid sct sc dnr dw d) .log rfl).symm
@[simp] theorem Engine.epStatus_ctl : (e.epStatus q cid sct sc dnr dw d).ctl = e.ctl := (Engine.changesOnly_get (e.epStatus_only q cid sct sc dnr dw d) .ctl rfl).symm
@[simp] theorem Engine.epStatus_sys : (e.epStatus q cid sct sc dnr dw d).sys = e.sys := (Engine.changesOnly_get (e.epStatus_only q cid sct sc dnr dw d) .sys rfl).symm
@[simp] theorem Engine.epStatus_modId : (e.epStatus q cid sct sc dnr dw d).modId = e.modId := (Engine.changesOnly_get (e.epStatus_only q cid sct sc dnr dw d) .modId rfl).symm
@[simp] theorem Engine.epStatus_power : (e.epStatus q cid sct sc dnr dw d).power = e.power := (Engine.changesOnly_get (e.epStatus_only q cid sct sc dnr dw d) .power rfl).symm
@[simp] theorem Engine.epStatus_pins : (e.epStatus q cid sct sc dnr dw d).pins = e.pins := (Engine.changesOnly_get (e.epStatus_only q cid sct sc dnr dw d) .pins rfl).symm
@[simp] theorem Engine.epStatus_cluster : (e.epStatus q cid sct sc dnr dw d).cluster = e.cluster := (Engine.changesOnly_get (e.epStatus_only q cid sct sc dnr dw d) .cluster rfl).symm
@[simp] theorem Engine.epStatus_lanes : (e.epStatus q cid sct sc dnr dw d).lanes = e.lanes := (Engine.changesOnly_get (e.epStatus_only q cid sct sc dnr dw d) .lanes rfl).symm
@[simp] theorem Engine.epStatus_ports : (e.epStatus q cid sct sc dnr dw d).ports = e.ports := (Engine.changesOnly_get (e.epStatus_only q cid sct sc dnr dw d) .ports rfl).symm
@[simp] theorem Engine.epStatus_proj : (e.epStatus q cid sct sc dnr dw d).proj = e.proj := (Engine.changesOnly_get (e.epStatus_only q cid sct sc dnr dw d) .proj rfl).symm
@[simp] theorem Engine.epStatus_phaseIn : (e.epStatus q cid sct sc dnr dw d).phaseIn = e.phaseIn := (Engine.changesOnly_get (e.epStatus_only q cid sct sc dnr dw d) .phaseIn rfl).symm
@[simp] theorem Engine.epStatus_aux : (e.epStatus q cid sct sc dnr dw d).aux = e.aux := (Engine.changesOnly_get (e.epStatus_only q cid sct sc dnr dw d) .aux rfl).symm
@[simp] theorem Engine.epStatus_time : (e.epStatus q cid sct sc dnr dw d).time = e.time := (Engine.changesOnly_get (e.epStatus_only q cid sct sc dnr dw d) .time rfl).symm
@[simp] theorem Engine.epStatus_clk : (e.epStatus q cid sct sc dnr dw d).clk = e.clk := (Engine.changesOnly_get (e.epStatus_only q cid sct sc dnr dw d) .clk rfl).symm
@[simp] theorem Engine.epStatus_raw : (e.epStatus q cid sct sc dnr dw d).raw = e.raw := (Engine.changesOnly_get (e.epStatus_only q cid sct sc dnr dw d) .raw rfl).symm
@[simp] theorem Engine.epStatus_colour : (e.epStatus q cid sct sc dnr dw d).colour = e.colour := (Engine.changesOnly_get (e.epStatus_only q cid sct sc dnr dw d) .colour rfl).symm
@[simp] theorem Engine.epStatus_fsr : (e.epStatus q cid sct sc dnr dw d).fsr = e.fsr := (Engine.changesOnly_get (e.epStatus_only q cid sct sc dnr dw d) .fsr rfl).symm
@[simp] theorem Engine.epStatus_pos : (e.epStatus q cid sct sc dnr dw d).pos = e.pos := (Engine.changesOnly_get (e.epStatus_only q cid sct sc dnr dw d) .pos rfl).symm
@[simp] theorem Engine.epStatus_aud : (e.epStatus q cid sct sc dnr dw d).aud = e.aud := (Engine.changesOnly_get (e.epStatus_only q cid sct sc dnr dw d) .aud rfl).symm
@[simp] theorem Engine.epStatus_hevc : (e.epStatus q cid sct sc dnr dw d).hevc = e.hevc := (Engine.changesOnly_get (e.epStatus_only q cid sct sc dnr dw d) .hevc rfl).symm
@[simp] theorem Engine.epStatus_md : (e.epStatus q cid sct sc dnr dw d).md = e.md := (Engine.changesOnly_get (e.epStatus_only q cid sct sc dnr dw d) .md rfl).symm
@[simp] theorem Engine.epStatus_rec : (e.epStatus q cid sct sc dnr dw d).rec_ = e.rec_ := (Engine.changesOnly_get (e.epStatus_only q cid sct sc dnr dw d) .recorder rfl).symm
@[simp] theorem Engine.epStatus_outs : (e.epStatus q cid sct sc dnr dw d).outs = e.outs := (Engine.changesOnly_get (e.epStatus_only q cid sct sc dnr dw d) .outs rfl).symm
@[simp] theorem Engine.epStatus_dram : (e.epStatus q cid sct sc dnr dw d).dram = e.dram := (Engine.changesOnly_get (e.epStatus_only q cid sct sc dnr dw d) .dram rfl).symm
@[simp] theorem Engine.epStatus_grotto : (e.epStatus q cid sct sc dnr dw d).grotto = e.grotto := (Engine.changesOnly_get (e.epStatus_only q cid sct sc dnr dw d) .grotto rfl).symm
end epStatus

section epOk
variable (e : Engine) (q cid dw : Nat) (d : List Byte)
@[simp] theorem Engine.epOk_now : (e.epOk q cid dw d).now = e.now := (Engine.changesOnly_get (e.epOk_only q cid dw d) .now rfl).symm
@[simp] theorem Engine.epOk_free : (e.epOk q cid dw d).free = e.free := (Engine.changesOnly_get (e.epOk_only q cid dw d) .free rfl).symm
@[simp] theorem Engine.epOk_cfg : (e.epOk q cid dw d).cfg = e.cfg := (Engine.changesOnly_get (e.epOk_only q cid dw d) .cfg rfl).symm
@[simp] theorem Engine.epOk_counters : (e.epOk q cid dw d).counters = e.counters := (Engine.changesOnly_get (e.epOk_only q cid dw d) .counters rfl).symm
@[simp] theorem Engine.epOk_log : (e.epOk q cid dw d).log = e.log := (Engine.changesOnly_get (e.epOk_only q cid dw d) .log rfl).symm
@[simp] theorem Engine.epOk_ctl : (e.epOk q cid dw d).ctl = e.ctl := (Engine.changesOnly_get (e.epOk_only q cid dw d) .ctl rfl).symm
@[simp] theorem Engine.epOk_sys : (e.epOk q cid dw d).sys = e.sys := (Engine.changesOnly_get (e.epOk_only q cid dw d) .sys rfl).symm
@[simp] theorem Engine.epOk_modId : (e.epOk q cid dw d).modId = e.modId := (Engine.changesOnly_get (e.epOk_only q cid dw d) .modId rfl).symm
@[simp] theorem Engine.epOk_power : (e.epOk q cid dw d).power = e.power := (Engine.changesOnly_get (e.epOk_only q cid dw d) .power rfl).symm
@[simp] theorem Engine.epOk_pins : (e.epOk q cid dw d).pins = e.pins := (Engine.changesOnly_get (e.epOk_only q cid dw d) .pins rfl).symm
@[simp] theorem Engine.epOk_cluster : (e.epOk q cid dw d).cluster = e.cluster := (Engine.changesOnly_get (e.epOk_only q cid dw d) .cluster rfl).symm
@[simp] theorem Engine.epOk_lanes : (e.epOk q cid dw d).lanes = e.lanes := (Engine.changesOnly_get (e.epOk_only q cid dw d) .lanes rfl).symm
@[simp] theorem Engine.epOk_ports : (e.epOk q cid dw d).ports = e.ports := (Engine.changesOnly_get (e.epOk_only q cid dw d) .ports rfl).symm
@[simp] theorem Engine.epOk_proj : (e.epOk q cid dw d).proj = e.proj := (Engine.changesOnly_get (e.epOk_only q cid dw d) .proj rfl).symm
@[simp] theorem Engine.epOk_phaseIn : (e.epOk q cid dw d).phaseIn = e.phaseIn := (Engine.changesOnly_get (e.epOk_only q cid dw d) .phaseIn rfl).symm
@[simp] theorem Engine.epOk_aux : (e.epOk q cid dw d).aux = e.aux := (Engine.changesOnly_get (e.epOk_only q cid dw d) .aux rfl).symm
@[simp] theorem Engine.epOk_time : (e.epOk q cid dw d).time = e.time := (Engine.changesOnly_get (e.epOk_only q cid dw d) .time rfl).symm
@[simp] theorem Engine.epOk_clk : (e.epOk q cid dw d).clk = e.clk := (Engine.changesOnly_get (e.epOk_only q cid dw d) .clk rfl).symm
@[simp] theorem Engine.epOk_raw : (e.epOk q cid dw d).raw = e.raw := (Engine.changesOnly_get (e.epOk_only q cid dw d) .raw rfl).symm
@[simp] theorem Engine.epOk_colour : (e.epOk q cid dw d).colour = e.colour := (Engine.changesOnly_get (e.epOk_only q cid dw d) .colour rfl).symm
@[simp] theorem Engine.epOk_fsr : (e.epOk q cid dw d).fsr = e.fsr := (Engine.changesOnly_get (e.epOk_only q cid dw d) .fsr rfl).symm
@[simp] theorem Engine.epOk_pos : (e.epOk q cid dw d).pos = e.pos := (Engine.changesOnly_get (e.epOk_only q cid dw d) .pos rfl).symm
@[simp] theorem Engine.epOk_aud : (e.epOk q cid dw d).aud = e.aud := (Engine.changesOnly_get (e.epOk_only q cid dw d) .aud rfl).symm
@[simp] theorem Engine.epOk_hevc : (e.epOk q cid dw d).hevc = e.hevc := (Engine.changesOnly_get (e.epOk_only q cid dw d) .hevc rfl).symm
@[simp] theorem Engine.epOk_md : (e.epOk q cid dw d).md = e.md := (Engine.changesOnly_get (e.epOk_only q cid dw d) .md rfl).symm
@[simp] theorem Engine.epOk_rec : (e.epOk q cid dw d).rec_ = e.rec_ := (Engine.changesOnly_get (e.epOk_only q cid dw d) .recorder rfl).symm
@[simp] theorem Engine.epOk_outs : (e.epOk q cid dw d).outs = e.outs := (Engine.changesOnly_get (e.epOk_only q cid dw d) .outs rfl).symm
@[simp] theorem Engine.epOk_dram : (e.epOk q cid dw d).dram = e.dram := (Engine.changesOnly_get (e.epOk_only q cid dw d) .dram rfl).symm
@[simp] theorem Engine.epOk_grotto : (e.epOk q cid dw d).grotto = e.grotto := (Engine.changesOnly_get (e.epOk_only q cid dw d) .grotto rfl).symm
end epOk

section epEvent
variable (e : Engine) (ty info page : Nat)
@[simp] theorem Engine.epEvent_now : (e.epEvent ty info page).now = e.now := (Engine.changesOnly_get (e.epEvent_only ty info page) .now rfl).symm
@[simp] theorem Engine.epEvent_free : (e.epEvent ty info page).free = e.free := (Engine.changesOnly_get (e.epEvent_only ty info page) .free rfl).symm
@[simp] theorem Engine.epEvent_cfg : (e.epEvent ty info page).cfg = e.cfg := (Engine.changesOnly_get (e.epEvent_only ty info page) .cfg rfl).symm
@[simp] theorem Engine.epEvent_counters : (e.epEvent ty info page).counters = e.counters := (Engine.changesOnly_get (e.epEvent_only ty info page) .counters rfl).symm
@[simp] theorem Engine.epEvent_log : (e.epEvent ty info page).log = e.log := (Engine.changesOnly_get (e.epEvent_only ty info page) .log rfl).symm
@[simp] theorem Engine.epEvent_ctl : (e.epEvent ty info page).ctl = e.ctl := (Engine.changesOnly_get (e.epEvent_only ty info page) .ctl rfl).symm
@[simp] theorem Engine.epEvent_sys : (e.epEvent ty info page).sys = e.sys := (Engine.changesOnly_get (e.epEvent_only ty info page) .sys rfl).symm
@[simp] theorem Engine.epEvent_modId : (e.epEvent ty info page).modId = e.modId := (Engine.changesOnly_get (e.epEvent_only ty info page) .modId rfl).symm
@[simp] theorem Engine.epEvent_power : (e.epEvent ty info page).power = e.power := (Engine.changesOnly_get (e.epEvent_only ty info page) .power rfl).symm
@[simp] theorem Engine.epEvent_pins : (e.epEvent ty info page).pins = e.pins := (Engine.changesOnly_get (e.epEvent_only ty info page) .pins rfl).symm
@[simp] theorem Engine.epEvent_cluster : (e.epEvent ty info page).cluster = e.cluster := (Engine.changesOnly_get (e.epEvent_only ty info page) .cluster rfl).symm
@[simp] theorem Engine.epEvent_lanes : (e.epEvent ty info page).lanes = e.lanes := (Engine.changesOnly_get (e.epEvent_only ty info page) .lanes rfl).symm
@[simp] theorem Engine.epEvent_ports : (e.epEvent ty info page).ports = e.ports := (Engine.changesOnly_get (e.epEvent_only ty info page) .ports rfl).symm
@[simp] theorem Engine.epEvent_proj : (e.epEvent ty info page).proj = e.proj := (Engine.changesOnly_get (e.epEvent_only ty info page) .proj rfl).symm
@[simp] theorem Engine.epEvent_phaseIn : (e.epEvent ty info page).phaseIn = e.phaseIn := (Engine.changesOnly_get (e.epEvent_only ty info page) .phaseIn rfl).symm
@[simp] theorem Engine.epEvent_aux : (e.epEvent ty info page).aux = e.aux := (Engine.changesOnly_get (e.epEvent_only ty info page) .aux rfl).symm
@[simp] theorem Engine.epEvent_time : (e.epEvent ty info page).time = e.time := (Engine.changesOnly_get (e.epEvent_only ty info page) .time rfl).symm
@[simp] theorem Engine.epEvent_clk : (e.epEvent ty info page).clk = e.clk := (Engine.changesOnly_get (e.epEvent_only ty info page) .clk rfl).symm
@[simp] theorem Engine.epEvent_raw : (e.epEvent ty info page).raw = e.raw := (Engine.changesOnly_get (e.epEvent_only ty info page) .raw rfl).symm
@[simp] theorem Engine.epEvent_colour : (e.epEvent ty info page).colour = e.colour := (Engine.changesOnly_get (e.epEvent_only ty info page) .colour rfl).symm
@[simp] theorem Engine.epEvent_fsr : (e.epEvent ty info page).fsr = e.fsr := (Engine.changesOnly_get (e.epEvent_only ty info page) .fsr rfl).symm
@[simp] theorem Engine.epEvent_pos : (e.epEvent ty info page).pos = e.pos := (Engine.changesOnly_get (e.epEvent_only ty info page) .pos rfl).symm
@[simp] theorem Engine.epEvent_aud : (e.epEvent ty info page).aud = e.aud := (Engine.changesOnly_get (e.epEvent_only ty info page) .aud rfl).symm
@[simp] theorem Engine.epEvent_hevc : (e.epEvent ty info page).hevc = e.hevc := (Engine.changesOnly_get (e.epEvent_only ty info page) .hevc rfl).symm
@[simp] theorem Engine.epEvent_md : (e.epEvent ty info page).md = e.md := (Engine.changesOnly_get (e.epEvent_only ty info page) .md rfl).symm
@[simp] theorem Engine.epEvent_rec : (e.epEvent ty info page).rec_ = e.rec_ := (Engine.changesOnly_get (e.epEvent_only ty info page) .recorder rfl).symm
@[simp] theorem Engine.epEvent_outs : (e.epEvent ty info page).outs = e.outs := (Engine.changesOnly_get (e.epEvent_only ty info page) .outs rfl).symm
@[simp] theorem Engine.epEvent_dram : (e.epEvent ty info page).dram = e.dram := (Engine.changesOnly_get (e.epEvent_only ty info page) .dram rfl).symm
@[simp] theorem Engine.epEvent_grotto : (e.epEvent ty info page).grotto = e.grotto := (Engine.changesOnly_get (e.epEvent_only ty info page) .grotto rfl).symm
end epEvent

section transmit
variable (e : Engine) (m : OutMsg)
@[simp] theorem Engine.transmit_now : (e.transmit m).now = e.now := (Engine.changesOnly_get (e.transmit_only m) .now rfl).symm
@[simp] theorem Engine.transmit_free : (e.transmit m).free = e.free := (Engine.changesOnly_get (e.transmit_only m) .free rfl).symm
@[simp] theorem Engine.transmit_cfg : (e.transmit m).cfg = e.cfg := (Engine.changesOnly_get (e.transmit_only m) .cfg rfl).symm
@[simp] theorem Engine.transmit_counters : (e.transmit m).counters = e.counters := (Engine.changesOnly_get (e.transmit_only m) .counters rfl).symm
@[simp] theorem Engine.transmit_log : (e.transmit m).log = e.log := (Engine.changesOnly_get (e.transmit_only m) .log rfl).symm
@[simp] theorem Engine.transmit_sys : (e.transmit m).sys = e.sys := (Engine.changesOnly_get (e.transmit_only m) .sys rfl).symm
@[simp] theorem Engine.transmit_modId : (e.transmit m).modId = e.modId := (Engine.changesOnly_get (e.transmit_only m) .modId rfl).symm
@[simp] theorem Engine.transmit_power : (e.transmit m).power = e.power := (Engine.changesOnly_get (e.transmit_only m) .power rfl).symm
@[simp] theorem Engine.transmit_pins : (e.transmit m).pins = e.pins := (Engine.changesOnly_get (e.transmit_only m) .pins rfl).symm
@[simp] theorem Engine.transmit_cluster : (e.transmit m).cluster = e.cluster := (Engine.changesOnly_get (e.transmit_only m) .cluster rfl).symm
@[simp] theorem Engine.transmit_lanes : (e.transmit m).lanes = e.lanes := (Engine.changesOnly_get (e.transmit_only m) .lanes rfl).symm
@[simp] theorem Engine.transmit_ports : (e.transmit m).ports = e.ports := (Engine.changesOnly_get (e.transmit_only m) .ports rfl).symm
@[simp] theorem Engine.transmit_proj : (e.transmit m).proj = e.proj := (Engine.changesOnly_get (e.transmit_only m) .proj rfl).symm
@[simp] theorem Engine.transmit_phaseIn : (e.transmit m).phaseIn = e.phaseIn := (Engine.changesOnly_get (e.transmit_only m) .phaseIn rfl).symm
@[simp] theorem Engine.transmit_aux : (e.transmit m).aux = e.aux := (Engine.changesOnly_get (e.transmit_only m) .aux rfl).symm
@[simp] theorem Engine.transmit_time : (e.transmit m).time = e.time := (Engine.changesOnly_get (e.transmit_only m) .time rfl).symm
@[simp] theorem Engine.transmit_clk : (e.transmit m).clk = e.clk := (Engine.changesOnly_get (e.transmit_only m) .clk rfl).symm
@[simp] theorem Engine.transmit_raw : (e.transmit m).raw = e.raw := (Engine.changesOnly_get (e.transmit_only m) .raw rfl).symm
@[simp] theorem Engine.transmit_colour : (e.transmit m).colour = e.colour := (Engine.changesOnly_get (e.transmit_only m) .colour rfl).symm
@[simp] theorem Engine.transmit_fsr : (e.transmit m).fsr = e.fsr := (Engine.changesOnly_get (e.transmit_only m) .fsr rfl).symm
@[simp] theorem Engine.transmit_pos : (e.transmit m).pos = e.pos := (Engine.changesOnly_get (e.transmit_only m) .pos rfl).symm
@[simp] theorem Engine.transmit_aud : (e.transmit m).aud = e.aud := (Engine.changesOnly_get (e.transmit_only m) .aud rfl).symm
@[simp] theorem Engine.transmit_hevc : (e.transmit m).hevc = e.hevc := (Engine.changesOnly_get (e.transmit_only m) .hevc rfl).symm
@[simp] theorem Engine.transmit_md : (e.transmit m).md = e.md := (Engine.changesOnly_get (e.transmit_only m) .md rfl).symm
@[simp] theorem Engine.transmit_rec : (e.transmit m).rec_ = e.rec_ := (Engine.changesOnly_get (e.transmit_only m) .recorder rfl).symm
@[simp] theorem Engine.transmit_outs : (e.transmit m).outs = e.outs := (Engine.changesOnly_get (e.transmit_only m) .outs rfl).symm
@[simp] theorem Engine.transmit_dram : (e.transmit m).dram = e.dram := (Engine.changesOnly_get (e.transmit_only m) .dram rfl).symm
@[simp] theorem Engine.transmit_grotto : (e.transmit m).grotto = e.grotto := (Engine.changesOnly_get (e.transmit_only m) .grotto rfl).symm
end transmit

section reply
variable (e : Engine) (h : MsgHdr) (ty : Nat) (st : Status) (rs : Reason) (d : List Byte)
@[simp] theorem Engine.reply_now : (e.reply h ty st rs d).now = e.now := (Engine.changesOnly_get (e.reply_only h ty st rs d) .now rfl).symm
@[simp] theorem Engine.reply_free : (e.reply h ty st rs d).free = e.free := (Engine.changesOnly_get (e.reply_only h ty st rs d) .free rfl).symm
@[simp] theorem Engine.reply_cfg : (e.reply h ty st rs d).cfg = e.cfg := (Engine.changesOnly_get (e.reply_only h ty st rs d) .cfg rfl).symm
@[simp] theorem Engine.reply_log : (e.reply h ty st rs d).log = e.log := (Engine.changesOnly_get (e.reply_only h ty st rs d) .log rfl).symm
@[simp] theorem Engine.reply_sys : (e.reply h ty st rs d).sys = e.sys := (Engine.changesOnly_get (e.reply_only h ty st rs d) .sys rfl).symm
@[simp] theorem Engine.reply_modId : (e.reply h ty st rs d).modId = e.modId := (Engine.changesOnly_get (e.reply_only h ty st rs d) .modId rfl).symm
@[simp] theorem Engine.reply_power : (e.reply h ty st rs d).power = e.power := (Engine.changesOnly_get (e.reply_only h ty st rs d) .power rfl).symm
@[simp] theorem Engine.reply_pins : (e.reply h ty st rs d).pins = e.pins := (Engine.changesOnly_get (e.reply_only h ty st rs d) .pins rfl).symm
@[simp] theorem Engine.reply_cluster : (e.reply h ty st rs d).cluster = e.cluster := (Engine.changesOnly_get (e.reply_only h ty st rs d) .cluster rfl).symm
@[simp] theorem Engine.reply_lanes : (e.reply h ty st rs d).lanes = e.lanes := (Engine.changesOnly_get (e.reply_only h ty st rs d) .lanes rfl).symm
@[simp] theorem Engine.reply_ports : (e.reply h ty st rs d).ports = e.ports := (Engine.changesOnly_get (e.reply_only h ty st rs d) .ports rfl).symm
@[simp] theorem Engine.reply_proj : (e.reply h ty st rs d).proj = e.proj := (Engine.changesOnly_get (e.reply_only h ty st rs d) .proj rfl).symm
@[simp] theorem Engine.reply_phaseIn : (e.reply h ty st rs d).phaseIn = e.phaseIn := (Engine.changesOnly_get (e.reply_only h ty st rs d) .phaseIn rfl).symm
@[simp] theorem Engine.reply_aux : (e.reply h ty st rs d).aux = e.aux := (Engine.changesOnly_get (e.reply_only h ty st rs d) .aux rfl).symm
@[simp] theorem Engine.reply_time : (e.reply h ty st rs d).time = e.time := (Engine.changesOnly_get (e.reply_only h ty st rs d) .time rfl).symm
@[simp] theorem Engine.reply_clk : (e.reply h ty st rs d).clk = e.clk := (Engine.changesOnly_get (e.reply_only h ty st rs d) .clk rfl).symm
@[simp] theorem Engine.reply_raw : (e.reply h ty st rs d).raw = e.raw := (Engine.changesOnly_get (e.reply_only h ty st rs d) .raw rfl).symm
@[simp] theorem Engine.reply_colour : (e.reply h ty st rs d).colour = e.colour := (Engine.changesOnly_get (e.reply_only h ty st rs d) .colour rfl).symm
@[simp] theorem Engine.reply_fsr : (e.reply h ty st rs d).fsr = e.fsr := (Engine.changesOnly_get (e.reply_only h ty st rs d) .fsr rfl).symm
@[simp] theorem Engine.reply_pos : (e.reply h ty st rs d).pos = e.pos := (Engine.changesOnly_get (e.reply_only h ty st rs d) .pos rfl).symm
@[simp] theorem Engine.reply_aud : (e.reply h ty st rs d).aud = e.aud := (Engine.changesOnly_get (e.reply_only h ty st rs d) .aud rfl).symm
@[simp] theorem Engine.reply_hevc : (e.reply h ty st rs d).hevc = e.hevc := (Engine.changesOnly_get (e.reply_only h ty st rs d) .hevc rfl).symm
@[simp] theorem Engine.reply_md : (e.reply h ty st rs d).md = e.md := (Engine.changesOnly_get (e.reply_only h ty st rs d) .md rfl).symm
@[simp] theorem Engine.reply_rec : (e.reply h ty st rs d).rec_ = e.rec_ := (Engine.changesOnly_get (e.reply_only h ty st rs d) .recorder rfl).symm
@[simp] theorem Engine.reply_outs : (e.reply h ty st rs d).outs = e.outs := (Engine.changesOnly_get (e.reply_only h ty st rs d) .outs rfl).symm
@[simp] theorem Engine.reply_dram : (e.reply h ty st rs d).dram = e.dram := (Engine.changesOnly_get (e.reply_only h ty st rs d) .dram rfl).symm
@[simp] theorem Engine.reply_grotto : (e.reply h ty st rs d).grotto = e.grotto := (Engine.changesOnly_get (e.reply_only h ty st rs d) .grotto rfl).symm
end reply

section ok
variable (e : Engine) (h : MsgHdr) (ty : Nat)
@[simp] theorem Engine.ok_now : (e.ok h ty).now = e.now := (Engine.changesOnly_get (e.ok_only h ty) .now rfl).symm
@[simp] theorem Engine.ok_free : (e.ok h ty).free = e.free := (Engine.changesOnly_get (e.ok_only h ty) .free rfl).symm
@[simp] theorem Engine.ok_cfg : (e.ok h ty).cfg = e.cfg := (Engine.changesOnly_get (e.ok_only h ty) .cfg rfl).symm
@[simp] theorem Engine.ok_log : (e.ok h ty).log = e.log := (Engine.changesOnly_get (e.ok_only h ty) .log rfl).symm
@[simp] theorem Engine.ok_sys : (e.ok h ty).sys = e.sys := (Engine.changesOnly_get (e.ok_only h ty) .sys rfl).symm
@[simp] theorem Engine.ok_modId : (e.ok h ty).modId = e.modId := (Engine.changesOnly_get (e.ok_only h ty) .modId rfl).symm
@[simp] theorem Engine.ok_power : (e.ok h ty).power = e.power := (Engine.changesOnly_get (e.ok_only h ty) .power rfl).symm
@[simp] theorem Engine.ok_pins : (e.ok h ty).pins = e.pins := (Engine.changesOnly_get (e.ok_only h ty) .pins rfl).symm
@[simp] theorem Engine.ok_cluster : (e.ok h ty).cluster = e.cluster := (Engine.changesOnly_get (e.ok_only h ty) .cluster rfl).symm
@[simp] theorem Engine.ok_lanes : (e.ok h ty).lanes = e.lanes := (Engine.changesOnly_get (e.ok_only h ty) .lanes rfl).symm
@[simp] theorem Engine.ok_ports : (e.ok h ty).ports = e.ports := (Engine.changesOnly_get (e.ok_only h ty) .ports rfl).symm
@[simp] theorem Engine.ok_proj : (e.ok h ty).proj = e.proj := (Engine.changesOnly_get (e.ok_only h ty) .proj rfl).symm
@[simp] theorem Engine.ok_phaseIn : (e.ok h ty).phaseIn = e.phaseIn := (Engine.changesOnly_get (e.ok_only h ty) .phaseIn rfl).symm
@[simp] theorem Engine.ok_aux : (e.ok h ty).aux = e.aux := (Engine.changesOnly_get (e.ok_only h ty) .aux rfl).symm
@[simp] theorem Engine.ok_time : (e.ok h ty).time = e.time := (Engine.changesOnly_get (e.ok_only h ty) .time rfl).symm
@[simp] theorem Engine.ok_clk : (e.ok h ty).clk = e.clk := (Engine.changesOnly_get (e.ok_only h ty) .clk rfl).symm
@[simp] theorem Engine.ok_raw : (e.ok h ty).raw = e.raw := (Engine.changesOnly_get (e.ok_only h ty) .raw rfl).symm
@[simp] theorem Engine.ok_colour : (e.ok h ty).colour = e.colour := (Engine.changesOnly_get (e.ok_only h ty) .colour rfl).symm
@[simp] theorem Engine.ok_fsr : (e.ok h ty).fsr = e.fsr := (Engine.changesOnly_get (e.ok_only h ty) .fsr rfl).symm
@[simp] theorem Engine.ok_pos : (e.ok h ty).pos = e.pos := (Engine.changesOnly_get (e.ok_only h ty) .pos rfl).symm
@[simp] theorem Engine.ok_aud : (e.ok h ty).aud = e.aud := (Engine.changesOnly_get (e.ok_only h ty) .aud rfl).symm
@[simp] theorem Engine.ok_hevc : (e.ok h ty).hevc = e.hevc := (Engine.changesOnly_get (e.ok_only h ty) .hevc rfl).symm
@[simp] theorem Engine.ok_md : (e.ok h ty).md = e.md := (Engine.changesOnly_get (e.ok_only h ty) .md rfl).symm
@[simp] theorem Engine.ok_rec : (e.ok h ty).rec_ = e.rec_ := (Engine.changesOnly_get (e.ok_only h ty) .recorder rfl).symm
@[simp] theorem Engine.ok_outs : (e.ok h ty).outs = e.outs := (Engine.changesOnly_get (e.ok_only h ty) .outs rfl).symm
@[simp] theorem Engine.ok_dram : (e.ok h ty).dram = e.dram := (Engine.changesOnly_get (e.ok_only h ty) .dram rfl).symm
@[simp] theorem Engine.ok_grotto : (e.ok h ty).grotto = e.grotto := (Engine.changesOnly_get (e.ok_only h ty) .grotto rfl).symm
end ok

section refuse
variable (e : Engine) (h : MsgHdr) (ty : Nat) (st : Status) (rs : Reason)
@[simp] theorem Engine.refuse_now : (e.refuse h ty st rs).now = e.now := (Engine.changesOnly_get (e.refuse_only h ty st rs) .now rfl).symm
@[simp] theorem Engine.refuse_free : (e.refuse h ty st rs).free = e.free := (Engine.changesOnly_get (e.refuse_only h ty st rs) .free rfl).symm
@[simp] theorem Engine.refuse_cfg : (e.refuse h ty st rs).cfg = e.cfg := (Engine.changesOnly_get (e.refuse_only h ty st rs) .cfg rfl).symm
@[simp] theorem Engine.refuse_log : (e.refuse h ty st rs).log = e.log := (Engine.changesOnly_get (e.refuse_only h ty st rs) .log rfl).symm
@[simp] theorem Engine.refuse_sys : (e.refuse h ty st rs).sys = e.sys := (Engine.changesOnly_get (e.refuse_only h ty st rs) .sys rfl).symm
@[simp] theorem Engine.refuse_modId : (e.refuse h ty st rs).modId = e.modId := (Engine.changesOnly_get (e.refuse_only h ty st rs) .modId rfl).symm
@[simp] theorem Engine.refuse_power : (e.refuse h ty st rs).power = e.power := (Engine.changesOnly_get (e.refuse_only h ty st rs) .power rfl).symm
@[simp] theorem Engine.refuse_pins : (e.refuse h ty st rs).pins = e.pins := (Engine.changesOnly_get (e.refuse_only h ty st rs) .pins rfl).symm
@[simp] theorem Engine.refuse_cluster : (e.refuse h ty st rs).cluster = e.cluster := (Engine.changesOnly_get (e.refuse_only h ty st rs) .cluster rfl).symm
@[simp] theorem Engine.refuse_lanes : (e.refuse h ty st rs).lanes = e.lanes := (Engine.changesOnly_get (e.refuse_only h ty st rs) .lanes rfl).symm
@[simp] theorem Engine.refuse_ports : (e.refuse h ty st rs).ports = e.ports := (Engine.changesOnly_get (e.refuse_only h ty st rs) .ports rfl).symm
@[simp] theorem Engine.refuse_proj : (e.refuse h ty st rs).proj = e.proj := (Engine.changesOnly_get (e.refuse_only h ty st rs) .proj rfl).symm
@[simp] theorem Engine.refuse_phaseIn : (e.refuse h ty st rs).phaseIn = e.phaseIn := (Engine.changesOnly_get (e.refuse_only h ty st rs) .phaseIn rfl).symm
@[simp] theorem Engine.refuse_aux : (e.refuse h ty st rs).aux = e.aux := (Engine.changesOnly_get (e.refuse_only h ty st rs) .aux rfl).symm
@[simp] theorem Engine.refuse_time : (e.refuse h ty st rs).time = e.time := (Engine.changesOnly_get (e.refuse_only h ty st rs) .time rfl).symm
@[simp] theorem Engine.refuse_clk : (e.refuse h ty st rs).clk = e.clk := (Engine.changesOnly_get (e.refuse_only h ty st rs) .clk rfl).symm
@[simp] theorem Engine.refuse_raw : (e.refuse h ty st rs).raw = e.raw := (Engine.changesOnly_get (e.refuse_only h ty st rs) .raw rfl).symm
@[simp] theorem Engine.refuse_colour : (e.refuse h ty st rs).colour = e.colour := (Engine.changesOnly_get (e.refuse_only h ty st rs) .colour rfl).symm
@[simp] theorem Engine.refuse_fsr : (e.refuse h ty st rs).fsr = e.fsr := (Engine.changesOnly_get (e.refuse_only h ty st rs) .fsr rfl).symm
@[simp] theorem Engine.refuse_pos : (e.refuse h ty st rs).pos = e.pos := (Engine.changesOnly_get (e.refuse_only h ty st rs) .pos rfl).symm
@[simp] theorem Engine.refuse_aud : (e.refuse h ty st rs).aud = e.aud := (Engine.changesOnly_get (e.refuse_only h ty st rs) .aud rfl).symm
@[simp] theorem Engine.refuse_hevc : (e.refuse h ty st rs).hevc = e.hevc := (Engine.changesOnly_get (e.refuse_only h ty st rs) .hevc rfl).symm
@[simp] theorem Engine.refuse_md : (e.refuse h ty st rs).md = e.md := (Engine.changesOnly_get (e.refuse_only h ty st rs) .md rfl).symm
@[simp] theorem Engine.refuse_rec : (e.refuse h ty st rs).rec_ = e.rec_ := (Engine.changesOnly_get (e.refuse_only h ty st rs) .recorder rfl).symm
@[simp] theorem Engine.refuse_outs : (e.refuse h ty st rs).outs = e.outs := (Engine.changesOnly_get (e.refuse_only h ty st rs) .outs rfl).symm
@[simp] theorem Engine.refuse_dram : (e.refuse h ty st rs).dram = e.dram := (Engine.changesOnly_get (e.refuse_only h ty st rs) .dram rfl).symm
@[simp] theorem Engine.refuse_grotto : (e.refuse h ty st rs).grotto = e.grotto := (Engine.changesOnly_get (e.refuse_only h ty st rs) .grotto rfl).symm
end refuse

section notify
variable (e : Engine) (ty : Nat) (o : Option Client) (d : List Byte)
@[simp] theorem Engine.notify_now : (e.notify ty o d).now = e.now := (Engine.changesOnly_get (e.notify_only ty o d) .now rfl).symm
@[simp] theorem Engine.notify_free : (e.notify ty o d).free = e.free := (Engine.changesOnly_get (e.notify_only ty o d) .free rfl).symm
@[simp] theorem Engine.notify_cfg : (e.notify ty o d).cfg = e.cfg := (Engine.changesOnly_get (e.notify_only ty o d) .cfg rfl).symm
@[simp] theorem Engine.notify_log : (e.notify ty o d).log = e.log := (Engine.changesOnly_get (e.notify_only ty o d) .log rfl).symm
@[simp] theorem Engine.notify_sys : (e.notify ty o d).sys = e.sys := (Engine.changesOnly_get (e.notify_only ty o d) .sys rfl).symm
@[simp] theorem Engine.notify_modId : (e.notify ty o d).modId = e.modId := (Engine.changesOnly_get (e.notify_only ty o d) .modId rfl).symm
@[simp] theorem Engine.notify_power : (e.notify ty o d).power = e.power := (Engine.changesOnly_get (e.notify_only ty o d) .power rfl).symm
@[simp] theorem Engine.notify_pins : (e.notify ty o d).pins = e.pins := (Engine.changesOnly_get (e.notify_only ty o d) .pins rfl).symm
@[simp] theorem Engine.notify_cluster : (e.notify ty o d).cluster = e.cluster := (Engine.changesOnly_get (e.notify_only ty o d) .cluster rfl).symm
@[simp] theorem Engine.notify_lanes : (e.notify ty o d).lanes = e.lanes := (Engine.changesOnly_get (e.notify_only ty o d) .lanes rfl).symm
@[simp] theorem Engine.notify_ports : (e.notify ty o d).ports = e.ports := (Engine.changesOnly_get (e.notify_only ty o d) .ports rfl).symm
@[simp] theorem Engine.notify_proj : (e.notify ty o d).proj = e.proj := (Engine.changesOnly_get (e.notify_only ty o d) .proj rfl).symm
@[simp] theorem Engine.notify_phaseIn : (e.notify ty o d).phaseIn = e.phaseIn := (Engine.changesOnly_get (e.notify_only ty o d) .phaseIn rfl).symm
@[simp] theorem Engine.notify_aux : (e.notify ty o d).aux = e.aux := (Engine.changesOnly_get (e.notify_only ty o d) .aux rfl).symm
@[simp] theorem Engine.notify_time : (e.notify ty o d).time = e.time := (Engine.changesOnly_get (e.notify_only ty o d) .time rfl).symm
@[simp] theorem Engine.notify_clk : (e.notify ty o d).clk = e.clk := (Engine.changesOnly_get (e.notify_only ty o d) .clk rfl).symm
@[simp] theorem Engine.notify_raw : (e.notify ty o d).raw = e.raw := (Engine.changesOnly_get (e.notify_only ty o d) .raw rfl).symm
@[simp] theorem Engine.notify_colour : (e.notify ty o d).colour = e.colour := (Engine.changesOnly_get (e.notify_only ty o d) .colour rfl).symm
@[simp] theorem Engine.notify_fsr : (e.notify ty o d).fsr = e.fsr := (Engine.changesOnly_get (e.notify_only ty o d) .fsr rfl).symm
@[simp] theorem Engine.notify_pos : (e.notify ty o d).pos = e.pos := (Engine.changesOnly_get (e.notify_only ty o d) .pos rfl).symm
@[simp] theorem Engine.notify_aud : (e.notify ty o d).aud = e.aud := (Engine.changesOnly_get (e.notify_only ty o d) .aud rfl).symm
@[simp] theorem Engine.notify_hevc : (e.notify ty o d).hevc = e.hevc := (Engine.changesOnly_get (e.notify_only ty o d) .hevc rfl).symm
@[simp] theorem Engine.notify_md : (e.notify ty o d).md = e.md := (Engine.changesOnly_get (e.notify_only ty o d) .md rfl).symm
@[simp] theorem Engine.notify_rec : (e.notify ty o d).rec_ = e.rec_ := (Engine.changesOnly_get (e.notify_only ty o d) .recorder rfl).symm
@[simp] theorem Engine.notify_outs : (e.notify ty o d).outs = e.outs := (Engine.changesOnly_get (e.notify_only ty o d) .outs rfl).symm
@[simp] theorem Engine.notify_dram : (e.notify ty o d).dram = e.dram := (Engine.changesOnly_get (e.notify_only ty o d) .dram rfl).symm
@[simp] theorem Engine.notify_grotto : (e.notify ty o d).grotto = e.grotto := (Engine.changesOnly_get (e.notify_only ty o d) .grotto rfl).symm
end notify

section landed
variable (e : Engine) (o : Client) (ty seq cfn port : Nat) (late overrun : Bool)
@[simp] theorem Engine.landed_now : (e.landed o ty seq cfn port late overrun).now = e.now := (Engine.changesOnly_get (e.landed_only o ty seq cfn port late overrun) .now rfl).symm
@[simp] theorem Engine.landed_free : (e.landed o ty seq cfn port late overrun).free = e.free := (Engine.changesOnly_get (e.landed_only o ty seq cfn port late overrun) .free rfl).symm
@[simp] theorem Engine.landed_cfg : (e.landed o ty seq cfn port late overrun).cfg = e.cfg := (Engine.changesOnly_get (e.landed_only o ty seq cfn port late overrun) .cfg rfl).symm
@[simp] theorem Engine.landed_log : (e.landed o ty seq cfn port late overrun).log = e.log := (Engine.changesOnly_get (e.landed_only o ty seq cfn port late overrun) .log rfl).symm
@[simp] theorem Engine.landed_sys : (e.landed o ty seq cfn port late overrun).sys = e.sys := (Engine.changesOnly_get (e.landed_only o ty seq cfn port late overrun) .sys rfl).symm
@[simp] theorem Engine.landed_modId : (e.landed o ty seq cfn port late overrun).modId = e.modId := (Engine.changesOnly_get (e.landed_only o ty seq cfn port late overrun) .modId rfl).symm
@[simp] theorem Engine.landed_power : (e.landed o ty seq cfn port late overrun).power = e.power := (Engine.changesOnly_get (e.landed_only o ty seq cfn port late overrun) .power rfl).symm
@[simp] theorem Engine.landed_pins : (e.landed o ty seq cfn port late overrun).pins = e.pins := (Engine.changesOnly_get (e.landed_only o ty seq cfn port late overrun) .pins rfl).symm
@[simp] theorem Engine.landed_cluster : (e.landed o ty seq cfn port late overrun).cluster = e.cluster := (Engine.changesOnly_get (e.landed_only o ty seq cfn port late overrun) .cluster rfl).symm
@[simp] theorem Engine.landed_lanes : (e.landed o ty seq cfn port late overrun).lanes = e.lanes := (Engine.changesOnly_get (e.landed_only o ty seq cfn port late overrun) .lanes rfl).symm
@[simp] theorem Engine.landed_ports : (e.landed o ty seq cfn port late overrun).ports = e.ports := (Engine.changesOnly_get (e.landed_only o ty seq cfn port late overrun) .ports rfl).symm
@[simp] theorem Engine.landed_proj : (e.landed o ty seq cfn port late overrun).proj = e.proj := (Engine.changesOnly_get (e.landed_only o ty seq cfn port late overrun) .proj rfl).symm
@[simp] theorem Engine.landed_phaseIn : (e.landed o ty seq cfn port late overrun).phaseIn = e.phaseIn := (Engine.changesOnly_get (e.landed_only o ty seq cfn port late overrun) .phaseIn rfl).symm
@[simp] theorem Engine.landed_aux : (e.landed o ty seq cfn port late overrun).aux = e.aux := (Engine.changesOnly_get (e.landed_only o ty seq cfn port late overrun) .aux rfl).symm
@[simp] theorem Engine.landed_time : (e.landed o ty seq cfn port late overrun).time = e.time := (Engine.changesOnly_get (e.landed_only o ty seq cfn port late overrun) .time rfl).symm
@[simp] theorem Engine.landed_clk : (e.landed o ty seq cfn port late overrun).clk = e.clk := (Engine.changesOnly_get (e.landed_only o ty seq cfn port late overrun) .clk rfl).symm
@[simp] theorem Engine.landed_raw : (e.landed o ty seq cfn port late overrun).raw = e.raw := (Engine.changesOnly_get (e.landed_only o ty seq cfn port late overrun) .raw rfl).symm
@[simp] theorem Engine.landed_colour : (e.landed o ty seq cfn port late overrun).colour = e.colour := (Engine.changesOnly_get (e.landed_only o ty seq cfn port late overrun) .colour rfl).symm
@[simp] theorem Engine.landed_fsr : (e.landed o ty seq cfn port late overrun).fsr = e.fsr := (Engine.changesOnly_get (e.landed_only o ty seq cfn port late overrun) .fsr rfl).symm
@[simp] theorem Engine.landed_pos : (e.landed o ty seq cfn port late overrun).pos = e.pos := (Engine.changesOnly_get (e.landed_only o ty seq cfn port late overrun) .pos rfl).symm
@[simp] theorem Engine.landed_aud : (e.landed o ty seq cfn port late overrun).aud = e.aud := (Engine.changesOnly_get (e.landed_only o ty seq cfn port late overrun) .aud rfl).symm
@[simp] theorem Engine.landed_hevc : (e.landed o ty seq cfn port late overrun).hevc = e.hevc := (Engine.changesOnly_get (e.landed_only o ty seq cfn port late overrun) .hevc rfl).symm
@[simp] theorem Engine.landed_md : (e.landed o ty seq cfn port late overrun).md = e.md := (Engine.changesOnly_get (e.landed_only o ty seq cfn port late overrun) .md rfl).symm
@[simp] theorem Engine.landed_rec : (e.landed o ty seq cfn port late overrun).rec_ = e.rec_ := (Engine.changesOnly_get (e.landed_only o ty seq cfn port late overrun) .recorder rfl).symm
@[simp] theorem Engine.landed_outs : (e.landed o ty seq cfn port late overrun).outs = e.outs := (Engine.changesOnly_get (e.landed_only o ty seq cfn port late overrun) .outs rfl).symm
@[simp] theorem Engine.landed_dram : (e.landed o ty seq cfn port late overrun).dram = e.dram := (Engine.changesOnly_get (e.landed_only o ty seq cfn port late overrun) .dram rfl).symm
@[simp] theorem Engine.landed_grotto : (e.landed o ty seq cfn port late overrun).grotto = e.grotto := (Engine.changesOnly_get (e.landed_only o ty seq cfn port late overrun) .grotto rfl).symm
end landed

section atTime
variable (e : Engine) (t : Nat)
@[simp] theorem Engine.at_free : (e.at t).free = e.free := (Engine.changesOnly_get (e.at_only t) .free rfl).symm
@[simp] theorem Engine.at_cfg : (e.at t).cfg = e.cfg := (Engine.changesOnly_get (e.at_only t) .cfg rfl).symm
@[simp] theorem Engine.at_log : (e.at t).log = e.log := (Engine.changesOnly_get (e.at_only t) .log rfl).symm
@[simp] theorem Engine.at_sys : (e.at t).sys = e.sys := (Engine.changesOnly_get (e.at_only t) .sys rfl).symm
@[simp] theorem Engine.at_modId : (e.at t).modId = e.modId := (Engine.changesOnly_get (e.at_only t) .modId rfl).symm
@[simp] theorem Engine.at_power : (e.at t).power = e.power := (Engine.changesOnly_get (e.at_only t) .power rfl).symm
@[simp] theorem Engine.at_pins : (e.at t).pins = e.pins := (Engine.changesOnly_get (e.at_only t) .pins rfl).symm
@[simp] theorem Engine.at_cluster : (e.at t).cluster = e.cluster := (Engine.changesOnly_get (e.at_only t) .cluster rfl).symm
@[simp] theorem Engine.at_lanes : (e.at t).lanes = e.lanes := (Engine.changesOnly_get (e.at_only t) .lanes rfl).symm
@[simp] theorem Engine.at_ports : (e.at t).ports = e.ports := (Engine.changesOnly_get (e.at_only t) .ports rfl).symm
@[simp] theorem Engine.at_proj : (e.at t).proj = e.proj := (Engine.changesOnly_get (e.at_only t) .proj rfl).symm
@[simp] theorem Engine.at_phaseIn : (e.at t).phaseIn = e.phaseIn := (Engine.changesOnly_get (e.at_only t) .phaseIn rfl).symm
@[simp] theorem Engine.at_aux : (e.at t).aux = e.aux := (Engine.changesOnly_get (e.at_only t) .aux rfl).symm
@[simp] theorem Engine.at_time : (e.at t).time = e.time := (Engine.changesOnly_get (e.at_only t) .time rfl).symm
@[simp] theorem Engine.at_clk : (e.at t).clk = e.clk := (Engine.changesOnly_get (e.at_only t) .clk rfl).symm
@[simp] theorem Engine.at_colour : (e.at t).colour = e.colour := (Engine.changesOnly_get (e.at_only t) .colour rfl).symm
@[simp] theorem Engine.at_fsr : (e.at t).fsr = e.fsr := (Engine.changesOnly_get (e.at_only t) .fsr rfl).symm
@[simp] theorem Engine.at_pos : (e.at t).pos = e.pos := (Engine.changesOnly_get (e.at_only t) .pos rfl).symm
@[simp] theorem Engine.at_aud : (e.at t).aud = e.aud := (Engine.changesOnly_get (e.at_only t) .aud rfl).symm
@[simp] theorem Engine.at_hevc : (e.at t).hevc = e.hevc := (Engine.changesOnly_get (e.at_only t) .hevc rfl).symm
@[simp] theorem Engine.at_md : (e.at t).md = e.md := (Engine.changesOnly_get (e.at_only t) .md rfl).symm
@[simp] theorem Engine.at_rec : (e.at t).rec_ = e.rec_ := (Engine.changesOnly_get (e.at_only t) .recorder rfl).symm
@[simp] theorem Engine.at_outs : (e.at t).outs = e.outs := (Engine.changesOnly_get (e.at_only t) .outs rfl).symm
@[simp] theorem Engine.at_dram : (e.at t).dram = e.dram := (Engine.changesOnly_get (e.at_only t) .dram rfl).symm
@[simp] theorem Engine.at_grotto : (e.at t).grotto = e.grotto := (Engine.changesOnly_get (e.at_only t) .grotto rfl).symm
end atTime

/-! What an operation writes. -/

theorem ctrVal_ctrAdd (l : List CtrCell) (c : Ctr) (src i n : Nat) :
    ctrVal (ctrAdd l c src i n) c src i = satNat 0xFFFFFFFF (ctrVal l c src i + n) := by
  have hs (v : Nat) : (BitVec.ofNat 32 (satNat 0xFFFFFFFF v)).toNat = satNat 0xFFFFFFFF v := by
    simp only [BitVec.toNat_ofNat, satNat]; split <;> omega
  induction l with
  | nil => simp [ctrAdd, ctrVal, hs]
  | cons x r ih =>
    unfold ctrAdd
    split
    · next h => simp [ctrVal, h, hs]
    · next h => simp [ctrVal, h, ih]

theorem ctrVal_ctrAdd_ne (l : List CtrCell) (c c' : Ctr) (src src' i i' n : Nat) (h : ¬(c = c' ∧ src = src' ∧ i = i')) :
    ctrVal (ctrAdd l c src i n) c' src' i' = ctrVal l c' src' i' := by
  induction l with
  | nil => simp [ctrAdd, ctrVal, h]
  | cons x r ih =>
    unfold ctrAdd
    split
    · next hx =>
      obtain ⟨rfl, rfl, rfl⟩ := hx
      simp [ctrVal, h]
    · simp [ctrVal, ih]

/-- A counter that moves once more has counted. -/
theorem Engine.counted_bump (e : Engine) (c : Ctr) (src : Nat) : Engine.counted c src e (e.bump c src) := by
  simp [Engine.counted, Engine.bump, Engine.bumpN, Engine.ctr, ctrVal_ctrAdd]

/-- Counting looks at the counters alone. -/
theorem Engine.counted_of_counters {c : Ctr} {src : Nat} {a b a' b' : Engine} (h : Engine.counted c src a b)
    (ha : a'.counters = a.counters) (hb : b'.counters = b.counters) : Engine.counted c src a' b' := by
  simpa [Engine.counted, Engine.ctr, ha, hb] using h

theorem Engine.emit_held (e : Engine) (src : Nat) (ev : Ev) (d : List Byte) :
    (e.emit src ev d).log.held =
      e.log.held ++ [⟨e.now, e.log.steps, ⟨dtbSec e.dtb, dtbNs e.dtb, e.deviceId, src, ev, d.take 14⟩⟩] := rfl

/-- One event more: the merger holds it after those it held. -/
theorem Engine.newEvents_emit (a e : Engine) (src : Nat) (ev : Ev) (d : List Byte) (h : e.log = a.log) :
    Engine.newEvents a (e.emit src ev d) = [(src, ev, d.take 14)] := by
  simp [Engine.newEvents, Engine.emit_held, h]

theorem Engine.newEvents_same (a b : Engine) (h : b.log = a.log) : Engine.newEvents a b = [] := by
  simp [Engine.newEvents, h]

theorem Engine.transmit_sent (e : Engine) (m : OutMsg) : (e.transmit m).ctl.sent = m :: e.ctl.sent := by
  unfold Engine.transmit
  dsimp only
  split
  · exact (congrArg Control.sent (Engine.changesOnly_get (Engine.answerControl_only _ m) .ctl rfl)).symm
  · rfl

@[simp] theorem Engine.putClient_sent (e : Engine) (x : ClientState) : (e.putClient x).ctl.sent = e.ctl.sent := rfl

/-- A reply is the last message sent. -/
theorem Engine.replied_reply (e : Engine) (h : MsgHdr) (ty : Nat) (st : Status) (rs : Reason) (d : List Byte) :
    (e.reply h ty st rs d).replied h ty st rs d := by
  unfold Engine.reply Engine.replied
  dsimp only
  split
  · simp [Engine.transmit_sent]
  · simp [Engine.transmit_sent]

theorem Engine.replied_ok (e : Engine) (h : MsgHdr) (ty : Nat) : (e.ok h ty).replied h ty .ok .none [] := e.replied_reply ..

theorem Engine.replied_refuse (e : Engine) (h : MsgHdr) (ty : Nat) (st : Status) (rs : Reason) :
    (e.refuse h ty st rs).replied h ty st rs [] := e.replied_reply ..

/-- A reply that is not MALFORMED counts nothing. -/
theorem Engine.reply_counters (e : Engine) (h : MsgHdr) (ty : Nat) (st : Status) (rs : Reason) (d : List Byte)
    (hs : st ≠ .malformed) : (e.reply h ty st rs d).counters = e.counters := by
  unfold Engine.reply
  simp [hs]

@[simp] theorem Engine.ok_counters (e : Engine) (h : MsgHdr) (ty : Nat) : (e.ok h ty).counters = e.counters :=
  e.reply_counters _ _ _ _ _ (by decide)

theorem find?_putClient (l : List ClientState) (x : ClientState) (c : Client) :
    (Machine.putClient l x).find? (·.client = c) = if x.client = c then some x else l.find? (·.client = c) := by
  induction l with
  | nil => by_cases h : x.client = c <;> simp [Machine.putClient, h]
  | cons y r ih =>
    unfold Machine.putClient
    by_cases hy : y.client = x.client
    · by_cases h : x.client = c
      · simp [hy, h]
      · simp [hy, h]
    · by_cases h : x.client = c
      · subst h; simp [hy, ih]
      · rw [if_neg hy, List.find?_cons, List.find?_cons, ih, if_neg h, if_neg h]

/-- What is kept for a client is kept under its name. -/
theorem Engine.clientD_client (e : Engine) (c : Client) : (e.clientD c).client = c := by
  unfold Engine.clientD Engine.client?
  cases hf : e.ctl.clients.find? (·.client = c) with
  | none => rfl
  | some x => simpa using List.find?_some hf

/-- The client just put is the one found. -/
theorem Engine.clientD_putClient (e : Engine) (x : ClientState) (c : Client) (h : x.client = c) :
    (e.putClient x).clientD c = x := by
  simp [Engine.clientD, Engine.client?, Engine.putClient, find?_putClient, h]

/-- A reply leaves the client's subscription as it is. -/
theorem Engine.reply_sub (e : Engine) (h : MsgHdr) (ty : Nat) (st : Status) (rs : Reason) (d : List Byte)
    (hs : st ≠ .malformed) : ((e.reply h ty st rs d).clientD h.client).sub = (e.clientD h.client).sub := by
  unfold Engine.reply
  simp only [hs, if_false]
  rw [Engine.clientD_putClient]
  exact e.clientD_client h.client

/-! Completion: a command whose meaning is a run of f has f's effect. -/

theorem Does.of_run {i : Instr} {t : Nat} {s : State} {P : Engine → Engine → Prop} (f : Engine → Engine)
    (h : exec i s = s.run t f) (hp : P (s.eng.at t) (f (s.eng.at t))) : Does i t s P := ⟨f (s.eng.at t), h, hp⟩

theorem Engine.request_go (e : Engine) (h : MsgHdr) (ty : Nat) (body : Engine → Engine) (hg : e.intake h ty = .go) :
    e.request h ty body = body (e.received h ty) := by
  unfold Engine.request; rw [hg]

theorem Does.of_request {i : Instr} {t : Nat} {s : State} {P : Engine → Engine → Prop} (h : MsgHdr) (ty : Nat)
    (body : Engine → Engine) (hx : exec i s = s.run t fun e => e.request h ty body) (hg : s.takes t h ty)
    (hp : P (s.eng.at t) (body ((s.eng.at t).received h ty))) : Does i t s P :=
  ⟨_, hx, by dsimp only; rw [Engine.request_go _ _ _ _ hg]; exact hp⟩

theorem Engine.whenLive_run (e : Engine) (f : Engine → Engine) (h : e.sys.phase = .running) : e.whenLive f = f e := by
  simp [Engine.whenLive, Engine.live, h]

theorem Engine.whenPowered_on (e : Engine) (f : Engine → Engine) (h : e.sys.phase.powered = true) :
    e.whenPowered f = f e := by
  simp [Engine.whenPowered, h]

end Sys2Proof.Machine
end

