-- ==== Sys2Proof/WellFormed.lean ====
section
/-! DEFINITION. Well-formed commands: every operand has a value that the field, bus or list it stands for can carry. -/

namespace Sys2Proof

/-- Numbers of 8, 16, 32 and 64 bits, and signed ones of 8 and 64. -/
def u8 (n : Nat) : Bool := decide (n < 256)
def u16 (n : Nat) : Bool := decide (n < 65536)
def u32 (n : Nat) : Bool := decide (n < 4294967296)
def u64 (n : Nat) : Bool := decide (n < 18446744073709551616)
def s8 (x : Int) : Bool := decide (-128 ≤ x ∧ x < 128)
def s64 (x : Int) : Bool := decide (-9223372036854775808 ≤ x ∧ x < 9223372036854775808)

/-- The payload of a Hyern packet: at most 65,535 bytes, for its length field has 16 bits (Table 4.3). -/
def pay (l : List Byte) : Bool := decide (l.length < 65536)

/-- A client's IPv4 address and UDP port. -/
def Client.wf : Client → Bool
  | .uart | .endpoint => true
  | .eth addr port => u32 addr && u16 port

/-- SEQ is a 32-bit field (Table 19.2). -/
def MsgHdr.wf (h : MsgHdr) : Bool := h.client.wf && u32 h.seq

/-- The target block (Table 19.5). -/
def Target.wf (t : Target) : Bool := u32 t.target && u8 t.port && u8 t.phaseMask

/-- A fragment carries the 16-bit identification of IPv4 (R458). -/
def NetIn.wf : NetIn → Bool
  | .fragment id _ => u16 id
  | _ => true

/-- One entry of LUT_LOAD: a path of 64 bytes (Table 19.7). -/
def LutEntry.wf (x : LutEntry) : Bool := u8 x.slot && u8 x.source && decide (x.path.length = 64)

/-- Every operand of the command fits the field it stands for. -/
def Instr.wf : Instr → Bool
  | .modeSet _ h mode _ => h.wf && u8 mode
  | .unitRestart _ h unit => h.wf && u16 unit
  | .fullRestart _ h => h.wf
  | .clearCounters _ h source => h.wf && u16 source
  | .laneTest _ h lane loopback pattern => h.wf && u8 lane && u8 loopback && u8 pattern
  | .subscribe _ h mask sev => h.wf && u32 mask && u8 sev
  | .lampSelect _ h pin probe => h.wf && u8 pin && u16 probe
  | .settings _ h tg groups gain rmode expNs rowOff colOff =>
      h.wf && tg.wf && u8 groups && u8 gain && u8 rmode && u32 expNs && u16 rowOff && u16 colOff
  | .wbIso _ h tg cct tint iso => h.wf && tg.wf && u16 cct && s8 tint && u16 iso
  | .lutSelect _ h tg branches slots => h.wf && tg.wf && u8 branches && decide (slots.length = 6) && slots.all u8
  | .profileSelect _ h tg profile => h.wf && tg.wf && u8 profile
  | .tnrStrength _ h tg str => h.wf && tg.wf && u8 str
  | .lutLoad _ h tg entries =>
      h.wf && tg.wf && decide (1 ≤ entries.length ∧ entries.length ≤ 16) && entries.all (·.wf)
  | .tableReload _ h tg tables => h.wf && tg.wf && u8 tables
  | .l1Draw _ h head _ _ x y w ht pixels =>
      h.wf && u8 head && u16 x && u16 y && u16 w && u16 ht && decide (pixels.length = w * ht) && pixels.all u16
  | .l2Text _ h head box _ _ _ glyphSet x y fg bg text =>
      h.wf && u8 head && u8 box && u8 glyphSet && u16 x && u16 y && u32 fg && u32 bg && decide (text.length ≤ 255) && text.all u8
  | .l3Mark _ h head _ _ _ _ item x0 y0 x1 y1 width colour =>
      h.wf && u8 head && u16 item && u16 x0 && u16 y0 && u16 x1 && u16 y1 && u8 width && u32 colour
  | .recordStart _ h tg => h.wf && tg.val.wf
  | .recordStop _ h tg => h.wf && tg.wf
  | .setReel _ h reel => h.wf && u16 reel
  | .play _ h clip startCfn _ decode =>
      h.wf && decide (clip.val.length = 16) && clip.val.all u8 && u32 startCfn && u8 decode
  | .playStop _ h => h.wf
  | .mediaFormat _ h port => h.wf && u8 port
  | .mediaQualify _ h port => h.wf && u8 port
  | .status _ h sect => h.wf && u16 sect
  | .counters _ h source => h.wf && u16 source
  | .logRead _ h from_ count => h.wf && u64 from_ && u16 count
  | .statsRead _ h slot => h.wf && u8 slot
  | .defectRead _ h first count port => h.wf && u32 first && u16 count && u8 port
  | .outputQuery _ h output => h.wf && u8 output
  | .streamQuery _ h kind entry => h.wf && u8 kind && u8 entry
  | .xferBegin _ h total generation => h.wf && u32 total && u32 generation
  | .xferData _ h offset data => h.wf && u32 offset && decide (data.length ≤ 65476)
  | .xferEnd _ h total crc => h.wf && u32 total && u32 crc
  | .xferAbort _ h => h.wf
  | .imageCommit _ h slot => h.wf && u8 slot
  | .keyLoad _ h kind keyId value check check2 =>
      h.wf && u8 kind && u32 keyId && decide (value.length = 32) && decide (check.length = 4 ∧ check2.length = 4)
  | .keyErase _ h mask => h.wf && u8 mask
  | .lampOpen _ h => h.wf
  | .timeStep _ h offsetNs => h.wf && s64 offsetNs
  | .calCommit _ h tables _ found => h.wf && u8 tables && u8 found
  | .factoryReset _ h confirm => h.wf && u32 confirm
  | .gatedCancel _ h => h.wf
  | .timeSet _ h sec ns frac => h.wf && u64 sec && u32 ns && u32 frac
  | .domainSelect _ h domain => h.wf && u8 domain
  | .arrayRecordStart _ h pfi _ reel clip arrayId => h.wf && u32 pfi && u16 reel && u16 clip.val && u16 arrayId
  | .arrayRecordStop _ h pfi _ arrayId => h.wf && u32 pfi && u16 arrayId
  | .ctrlBadMessage _ c _ type seq => c.wf && u16 type && u32 seq
  | .ctrlDenied _ addr port => u32 addr && u16 port
  | .ctrlUartGapTimeout _ => true
  | .fragmentTimeout _ id => u16 id
  | .subscriptionLapse _ addr port => u32 addr && u16 port
  | .xferTimeout _ => true
  | .presencePress _ _ => true
  | .presenceDecision _ _ => true
  | .gatedExpired _ => true
  | .sealOpen _ => true
  | .projectFrameBoundary _ => true
  | .autoPreview _ => true
  | .captureSlotStart _ => true
  | .xtrig _ _ => true
  | .writeWindowStart _ _ => true
  | .sensorWriteDone _ _ _ _ => true
  | .writeListDeadline _ _ _ => true
  | .matrixDeadline _ _ _ => true
  | .selectionDeadline _ _ => true
  | .tableReloadDeadline _ => true
  | .lutLoadDeadline _ => true
  | .layerChangeDeadline _ _ _ => true
  | .metadataDeadline _ _ _ => true
  | .servoUpdateDeadline _ => true
  | .sensorResetDone _ _ _ => true
  | .hyernTrainTimeout _ _ => true
  | .hyernAlign _ _ seqs _ _ _ _ => seqs.all u8 && decide (seqs.length ≤ 16)
  | .hyernSensorReset _ _ => true
  | .hyernSopError _ _ _ => true
  | .hyernFs _ _ _ payload _ => pay payload
  | .hyernLs _ _ _ _ => true
  | .hyernPix _ _ _ payload _ => pay payload
  | .hyernEmb _ _ _ payload _ => pay payload
  | .hyernLe _ _ _ _ => true
  | .hyernFe _ _ _ payload _ => pay payload
  | .frameEndDeadline _ _ => true
  | .phaseInStrobe _ code => decide (code < 8)
  | .phaseInMiss _ => true
  | .auxVs _ => true
  | .auxFrameEnd _ clocks => clocks.all (fun k => decide (k.rise.d < 16777216 ∧ k.fall.d < 16777216))
  | .auxLoss _ => true
  | .statsRecordDone _ _ => true
  | .tableLoadDone _ defects others =>
      defects.all (fun x => decide (x.which < 2)) && others.all (fun x => decide (2 ≤ x.which ∧ x.which < 6))
  | .lutLoadDone _ files => files.all (fun x => decide (x.slot < 16))
  | .fsrBandDecide _ _ _ => true
  | .fsrTileCoded _ _ _ _ _ _ _ => true
  | .fsrTileLate _ _ _ _ => true
  | .fsrPictureComplete _ _ => true
  | .fsrDecodePicture _ _ _ _ _ => true
  | .hevcSourceFrame _ _ => true
  | .hevcRowStart _ _ _ _ _ => true
  | .hevcCtuCode _ _ _ _ _ => true
  | .hevcPictureComplete _ _ => true
  | .hevcAccessUnitRx _ _ _ => true
  | .hevcDecodePicture _ _ _ => true
  | .hevcDecodeLate _ _ => true
  | .mediaInsert _ _ _ => true
  | .mediaRemove _ _ => true
  | .mediaMount _ _ _ => true
  | .mediaCmdComplete _ _ _ _ => true
  | .mediaCmdTimeout _ _ _ => true
  | .mediaAbortTimeout _ _ _ => true
  | .mediaResetTimeout _ _ => true
  | .mediaLinkDownTimeout _ _ => true
  | .mediaHealthPoll _ _ warning => u8 warning
  | .mediaFormatDone _ _ => true
  | .mediaQualified _ _ _ => true
  | .recFlushTick _ => true
  | .chunkDurable _ _ _ => true
  | .clipClosed _ => true
  | .nvmeSqDoorbell _ q tail cids => u16 q && u16 tail && cids.all u16
  | .nvmeCqDoorbell _ q hd => u16 q && u16 hd
  | .epControllerEnable _ asqs acqs => decide (asqs < 4096 ∧ acqs < 4096)
  | .epControllerReset _ _ => true
  | .epPerstRelease _ => true
  | .epFlr _ => true
  | .epRegisterWrite _ _ _ => true
  | .epLoopbackEnter _ => true
  | .nvmeIdentify _ cid cns nsid => u16 cid && u8 cns && u32 nsid
  | .nvmeCreateIoSq _ cid qid size cqid _ => u16 cid && u16 qid && u16 cqid && decide (size ≤ 65536)
  | .nvmeCreateIoCq _ cid qid size vector _ => u16 cid && u16 qid && u16 vector && decide (size ≤ 65536)
  | .nvmeDeleteIoSq _ cid qid => u16 cid && u16 qid
  | .nvmeDeleteIoCq _ cid qid => u16 cid && u16 qid
  | .nvmeGetFeatures _ cid fid sel => u16 cid && u8 fid && u8 sel
  | .nvmeSetFeatures _ cid fid _ value => u16 cid && u8 fid && u32 value
  | .nvmeGetLogPage _ cid lid nsid _ len => u16 cid && u8 lid && u32 nsid && u32 len
  | .nvmeAbort _ cid sqid target => u16 cid && u16 sqid && u16 target
  | .nvmeAsyncEventRequest _ cid => u16 cid
  | .nvmeControl _ cid reqLen bufLen => u16 cid && u32 reqLen && u32 bufLen
  | .nvmeRead _ q cid nsid slba nlb _ _ => u16 q && u16 cid && u32 nsid && u64 slba && decide (nlb ≤ 65536)
  | .nvmeWrite _ q cid nsid slba nlb => u16 q && u16 cid && u32 nsid && u64 slba && decide (nlb ≤ 65536)
  | .nvmeFlush _ q cid nsid => u16 q && u16 cid && u32 nsid
  | .nvmeWriteZeroes _ q cid nsid slba nlb => u16 q && u16 cid && u32 nsid && u64 slba && decide (nlb ≤ 65536)
  | .nvmeDatasetManagement _ q cid nsid ranges _ => u16 q && u16 cid && u32 nsid && decide (ranges.length ≤ 256)
  | .nvmeInvalidOpcode _ q cid opcode => u16 q && u16 cid && u8 opcode
  | .epPieceCommit _ q cid _ _ => u16 q && u16 cid
  | .epDrainDone _ _ => true
  | .headFrameBoundary _ _ => true
  | .headPictureStart _ _ _ => true
  | .headSlate _ _ => true
  | .sdiInLock _ _ _ _ _ => true
  | .sdiInLoss _ _ => true
  | .dpHpd _ _ _ edid maxLanes _ _ => edid.length % 128 == 0 && decide (maxLanes ≤ 4)
  | .dpIrqHpd _ _ _ _ => true
  | .nvRxPacket _ _ _ seq => u32 seq.ssrc && u16 seq.seq
  | .nvRxLoss _ _ seq => u16 seq
  | .netArpIcmp _ link addr got => u32 addr && got.wf && decide (link < 9)
  | .audioTick _ => true
  | .audPllFirstLock _ => true
  | .audRelock _ => true
  | .audInLock _ _ => true
  | .audInLoss _ _ => true
  | .audInRate _ _ => true
  | .aesCsBlock _ _ bits _ crcc => decide (bits.length = 184 ∧ crcc.length = 8)
  | .audRxPacket _ _ _ seq ts _ => u32 seq.ssrc && u16 seq.seq && u32 ts
  | .audTxPacket _ _ => true
  | .ptpSync _ _ _ master seq _ _ _ => u64 master && u16 seq
  | .ptpFollowUp _ _ master seq _ _ => u64 master && u16 seq
  | .ptpDelayResp _ _ master seq _ _ => u64 master && u16 seq
  | .ptpAnnounce _ _ _ => true
  | .ptpDelayReqSend _ _ seq => u16 seq
  | .ptpTimeout _ _ _ => true
  | .timeRevert _ => true
  | .dtbStepApply _ => true
  | .beaconSend _ => true
  | .beaconReceive _ bytes => decide (bytes.length ≤ 65484)
  | .beaconPeerTimeout _ dev => decide (dev < 4096)
  | .clkMonitorWindow _ _ _ => true
  | .clkSourceStop _ _ => true
  | .clkPhaseHit _ _ => true
  | .rootLocked _ _ => true
  | .clkRevert _ _ => true
  | .clkMuxForce _ _ => true
  | .clkNoSource _ => true
  | .clkGateClose _ _ => true
  | .dramRead _ _ _ _ _ => true
  | .dramWrite _ _ _ _ data => decide (data.length = 32)
  | .dramScrub _ _ _ _ => true
  | .dramRecentre _ _ _ _ => true
  | .dramRefresh _ _ _ => true
  | .dramPowerDown _ _ => true
  | .siphonCopyChunk _ bad => bad.all (fun i => decide (i < 64))
  | .grottoRead _ _ _ => true
  | .grottoScrub _ _ _ => true
  | .posSample _ _ _ _ _ => true
  | .posSsiRead _ _ _ first second _ => u64 first && u64 second
  | .posSpeedUpdate _ => true
  | .posMidpointLatch _ _ => true
  | .posSsiSampleTimeout _ _ _ => true
  | .metadataEmit _ _ => true
  | .logRelease _ => true
  | .logSuppressed _ => true
  | .deflateBlock _ _ _ _ input _ poison _ _ => decide (poison.all (fun i => decide (i < input.length)))
  | .coreWatchdog _ _ => true
  | .loadSecond _ loads peaks slacks =>
      decide (loads.length = 4 ∧ peaks.length = 4 ∧ slacks.length = 8) && loads.all (fun x => decide (x ≤ 1000)) && peaks.all (fun x => decide (x ≤ 1000)) && slacks.all u16
  | .dieLinkError _ link _ => decide (link < 4)
  | .restartVerifyDone _ kind index => u8 kind && u8 index
  | .restartUnitStop _ unit => u16 unit
  | .restartDone _ unit => u16 unit
  | .restartFailed _ unit => u16 unit
  | .startupStepDone _ _ => true
  | .bootRetry _ _ => true
  | .inputQualified _ _ _ => true
  | .inputDropout _ => true
  | .inputLost _ _ => true
  | .powerFailFlush _ => true
  | .powerFailUnitsStop _ => true
  | .powerFailPwrenOff _ => true
  | .powerFailRailsOff _ => true
  | .holdupInsert _ serial _ _ => u64 serial
  | .holdupRemoved _ => true
  | .holdupReady _ => true
  | .holdupHealthMeasure _ _ => true
  | .thermalDerate _ _ _ _ => true
  | .thermalTrip _ _ _ _ => true
  | .thermalHaltEnd _ _ _ => true
  | .coldHoldRelease _ _ => true
  | .vioChange _ _ _ => true
  | .calCaptureDone _ _ _ => true
  | .lanePllLock _ _ => true
  | .lanePllUnlock _ _ => true
  | .laneCdrLock _ _ => true
  | .lanePcsLock _ _ => true
  | .laneLockFail _ _ => true
  | .laneUp _ _ rate link => decide (rate < 16 ∧ link.width ≤ 16)
  | .laneDown _ _ _ _ _ => true
  | .laneEbSlip _ _ => true
  | .epUncommittedDiscard _ => true
  | .epDrainCutoff _ => true
  | .xferEraseDone _ => true
  | .xferCheckDone _ => true
  | .commitCheckDone _ _ => true
  | .sdiInFormat _ _ => true
  | .refinFrameStart _ _ => true
  | .presenceLevelChange _ _ => true
  | .thermalDerateClear _ _ _ => true
  | .holdupFault _ => true
  | .audInSample _ _ _ _ => true

end Sys2Proof
end

