-- ==== Sys2Proof/Laws/PerInstr.lean ====
section
/-! SUPPORT. One statement about every command as syntax: a request's header fits its fields when the request is well formed. -/

namespace Sys2Proof.Laws
set_option Elab.async false

/-- The header a request carries: who sent it, and its SEQ (Table 19.2). The other commands carry none. -/
def reqHdr : Instr → Option MsgHdr
  | .modeSet _ h _ _ => some h
  | .unitRestart _ h _ => some h
  | .fullRestart _ h => some h
  | .clearCounters _ h _ => some h
  | .laneTest _ h _ _ _ => some h
  | .subscribe _ h _ _ => some h
  | .lampSelect _ h _ _ => some h
  | .settings _ h _ _ _ _ _ _ _ => some h
  | .wbIso _ h _ _ _ _ => some h
  | .lutSelect _ h _ _ _ => some h
  | .profileSelect _ h _ _ => some h
  | .tnrStrength _ h _ _ => some h
  | .lutLoad _ h _ _ => some h
  | .tableReload _ h _ _ => some h
  | .l1Draw _ h _ _ _ _ _ _ _ _ => some h
  | .l2Text _ h _ _ _ _ _ _ _ _ _ _ _ => some h
  | .l3Mark _ h _ _ _ _ _ _ _ _ _ _ _ _ => some h
  | .recordStart _ h _ => some h
  | .recordStop _ h _ => some h
  | .setReel _ h _ => some h
  | .play _ h _ _ _ _ => some h
  | .playStop _ h => some h
  | .mediaFormat _ h _ => some h
  | .mediaQualify _ h _ => some h
  | .status _ h _ => some h
  | .counters _ h _ => some h
  | .logRead _ h _ _ => some h
  | .statsRead _ h _ => some h
  | .defectRead _ h _ _ _ => some h
  | .outputQuery _ h _ => some h
  | .streamQuery _ h _ _ => some h
  | .xferBegin _ h _ _ => some h
  | .xferData _ h _ _ => some h
  | .xferEnd _ h _ _ => some h
  | .xferAbort _ h => some h
  | .imageCommit _ h _ => some h
  | .keyLoad _ h _ _ _ _ _ => some h
  | .keyErase _ h _ => some h
  | .lampOpen _ h => some h
  | .timeStep _ h _ => some h
  | .calCommit _ h _ _ _ => some h
  | .factoryReset _ h _ => some h
  | .gatedCancel _ h => some h
  | .timeSet _ h _ _ _ => some h
  | .domainSelect _ h _ => some h
  | .arrayRecordStart _ h _ _ _ _ _ => some h
  | .arrayRecordStop _ h _ _ _ => some h
  | .ctrlBadMessage _ _ _ _ _ => none
  | .ctrlDenied _ _ _ => none
  | .ctrlUartGapTimeout _ => none
  | .fragmentTimeout _ _ => none
  | .subscriptionLapse _ _ _ => none
  | .xferTimeout _ => none
  | .presencePress _ _ => none
  | .presenceDecision _ _ => none
  | .gatedExpired _ => none
  | .sealOpen _ => none
  | .projectFrameBoundary _ => none
  | .autoPreview _ => none
  | .captureSlotStart _ => none
  | .xtrig _ _ => none
  | .writeWindowStart _ _ => none
  | .sensorWriteDone _ _ _ _ => none
  | .writeListDeadline _ _ _ => none
  | .matrixDeadline _ _ _ => none
  | .selectionDeadline _ _ => none
  | .tableReloadDeadline _ => none
  | .lutLoadDeadline _ => none
  | .layerChangeDeadline _ _ _ => none
  | .metadataDeadline _ _ _ => none
  | .servoUpdateDeadline _ => none
  | .sensorResetDone _ _ _ => none
  | .hyernTrainTimeout _ _ => none
  | .hyernAlign _ _ _ _ _ _ _ => none
  | .hyernSensorReset _ _ => none
  | .hyernSopError _ _ _ => none
  | .hyernFs _ _ _ _ _ => none
  | .hyernLs _ _ _ _ => none
  | .hyernPix _ _ _ _ _ => none
  | .hyernEmb _ _ _ _ _ => none
  | .hyernLe _ _ _ _ => none
  | .hyernFe _ _ _ _ _ => none
  | .frameEndDeadline _ _ => none
  | .phaseInStrobe _ _ => none
  | .phaseInMiss _ => none
  | .auxVs _ => none
  | .auxFrameEnd _ _ => none
  | .auxLoss _ => none
  | .statsRecordDone _ _ => none
  | .tableLoadDone _ _ _ => none
  | .lutLoadDone _ _ => none
  | .fsrBandDecide _ _ _ => none
  | .fsrTileCoded _ _ _ _ _ _ _ => none
  | .fsrTileLate _ _ _ _ => none
  | .fsrPictureComplete _ _ => none
  | .fsrDecodePicture _ _ _ _ _ => none
  | .hevcSourceFrame _ _ => none
  | .hevcRowStart _ _ _ _ _ => none
  | .hevcCtuCode _ _ _ _ _ => none
  | .hevcPictureComplete _ _ => none
  | .hevcAccessUnitRx _ _ _ => none
  | .hevcDecodePicture _ _ _ => none
  | .hevcDecodeLate _ _ => none
  | .mediaInsert _ _ _ => none
  | .mediaRemove _ _ => none
  | .mediaMount _ _ _ => none
  | .mediaCmdComplete _ _ _ _ => none
  | .mediaCmdTimeout _ _ _ => none
  | .mediaAbortTimeout _ _ _ => none
  | .mediaResetTimeout _ _ => none
  | .mediaLinkDownTimeout _ _ => none
  | .mediaHealthPoll _ _ _ => none
  | .mediaFormatDone _ _ => none
  | .mediaQualified _ _ _ => none
  | .recFlushTick _ => none
  | .chunkDurable _ _ _ => none
  | .clipClosed _ => none
  | .nvmeSqDoorbell _ _ _ _ => none
  | .nvmeCqDoorbell _ _ _ => none
  | .epControllerEnable _ _ _ => none
  | .epControllerReset _ _ => none
  | .epPerstRelease _ => none
  | .epFlr _ => none
  | .epRegisterWrite _ _ _ => none
  | .epLoopbackEnter _ => none
  | .nvmeIdentify _ _ _ _ => none
  | .nvmeCreateIoSq _ _ _ _ _ _ => none
  | .nvmeCreateIoCq _ _ _ _ _ _ => none
  | .nvmeDeleteIoSq _ _ _ => none
  | .nvmeDeleteIoCq _ _ _ => none
  | .nvmeGetFeatures _ _ _ _ => none
  | .nvmeSetFeatures _ _ _ _ _ => none
  | .nvmeGetLogPage _ _ _ _ _ _ => none
  | .nvmeAbort _ _ _ _ => none
  | .nvmeAsyncEventRequest _ _ => none
  | .nvmeControl _ _ _ _ => none
  | .nvmeRead _ _ _ _ _ _ _ _ => none
  | .nvmeWrite _ _ _ _ _ _ => none
  | .nvmeFlush _ _ _ _ => none
  | .nvmeWriteZeroes _ _ _ _ _ _ => none
  | .nvmeDatasetManagement _ _ _ _ _ _ => none
  | .nvmeInvalidOpcode _ _ _ _ => none
  | .epPieceCommit _ _ _ _ _ => none
  | .epDrainDone _ _ => none
  | .headFrameBoundary _ _ => none
  | .headPictureStart _ _ _ => none
  | .headSlate _ _ => none
  | .sdiInLock _ _ _ _ _ => none
  | .sdiInLoss _ _ => none
  | .dpHpd _ _ _ _ _ _ _ => none
  | .dpIrqHpd _ _ _ _ => none
  | .nvRxPacket _ _ _ _ => none
  | .nvRxLoss _ _ _ => none
  | .netArpIcmp _ _ _ _ => none
  | .audioTick _ => none
  | .audPllFirstLock _ => none
  | .audRelock _ => none
  | .audInLock _ _ => none
  | .audInLoss _ _ => none
  | .audInRate _ _ => none
  | .aesCsBlock _ _ _ _ _ => none
  | .audRxPacket _ _ _ _ _ _ => none
  | .audTxPacket _ _ => none
  | .ptpSync _ _ _ _ _ _ _ _ => none
  | .ptpFollowUp _ _ _ _ _ _ => none
  | .ptpDelayResp _ _ _ _ _ _ => none
  | .ptpAnnounce _ _ _ => none
  | .ptpDelayReqSend _ _ _ => none
  | .ptpTimeout _ _ _ => none
  | .timeRevert _ => none
  | .dtbStepApply _ => none
  | .beaconSend _ => none
  | .beaconReceive _ _ => none
  | .beaconPeerTimeout _ _ => none
  | .clkMonitorWindow _ _ _ => none
  | .clkSourceStop _ _ => none
  | .clkPhaseHit _ _ => none
  | .rootLocked _ _ => none
  | .clkRevert _ _ => none
  | .clkMuxForce _ _ => none
  | .clkNoSource _ => none
  | .clkGateClose _ _ => none
  | .dramRead _ _ _ _ _ => none
  | .dramWrite _ _ _ _ _ => none
  | .dramScrub _ _ _ _ => none
  | .dramRecentre _ _ _ _ => none
  | .dramRefresh _ _ _ => none
  | .dramPowerDown _ _ => none
  | .siphonCopyChunk _ _ => none
  | .grottoRead _ _ _ => none
  | .grottoScrub _ _ _ => none
  | .posSample _ _ _ _ _ => none
  | .posSsiRead _ _ _ _ _ _ => none
  | .posSpeedUpdate _ => none
  | .posMidpointLatch _ _ => none
  | .posSsiSampleTimeout _ _ _ => none
  | .metadataEmit _ _ => none
  | .logRelease _ => none
  | .logSuppressed _ => none
  | .deflateBlock _ _ _ _ _ _ _ _ _ => none
  | .coreWatchdog _ _ => none
  | .loadSecond _ _ _ _ => none
  | .dieLinkError _ _ _ => none
  | .restartVerifyDone _ _ _ => none
  | .restartUnitStop _ _ => none
  | .restartDone _ _ => none
  | .restartFailed _ _ => none
  | .startupStepDone _ _ => none
  | .bootRetry _ _ => none
  | .inputQualified _ _ _ => none
  | .inputDropout _ => none
  | .inputLost _ _ => none
  | .powerFailFlush _ => none
  | .powerFailUnitsStop _ => none
  | .powerFailPwrenOff _ => none
  | .powerFailRailsOff _ => none
  | .holdupInsert _ _ _ _ => none
  | .holdupRemoved _ => none
  | .holdupReady _ => none
  | .holdupHealthMeasure _ _ => none
  | .thermalDerate _ _ _ _ => none
  | .thermalTrip _ _ _ _ => none
  | .thermalHaltEnd _ _ _ => none
  | .coldHoldRelease _ _ => none
  | .vioChange _ _ _ => none
  | .calCaptureDone _ _ _ => none
  | .lanePllLock _ _ => none
  | .lanePllUnlock _ _ => none
  | .laneCdrLock _ _ => none
  | .lanePcsLock _ _ => none
  | .laneLockFail _ _ => none
  | .laneUp _ _ _ _ => none
  | .laneDown _ _ _ _ _ => none
  | .laneEbSlip _ _ => none
  | .epUncommittedDiscard _ => none
  | .epDrainCutoff _ => none
  | .xferEraseDone _ => none
  | .xferCheckDone _ => none
  | .commitCheckDone _ _ => none
  | .sdiInFormat _ _ => none
  | .refinFrameStart _ _ => none
  | .presenceLevelChange _ _ => none
  | .thermalDerateClear _ _ _ => none
  | .holdupFault _ => none
  | .audInSample _ _ _ _ => none

namespace HeaderFits

/-- A well-formed request has a header that fits: its client's address and port, and its SEQ. -/
def Statement (i : Instr) : Prop := ∀ h, reqHdr i = some h → i.wf = true → h.wf = true

theorem ofNone {i : Instr} (n : reqHdr i = none) : Statement i := fun h e => by rw [n] at e; cases e
theorem ofHdr {i : Instr} {h : MsgHdr} (n : reqHdr i = some h) (f : i.wf = true → h.wf = true) : Statement i := fun k e w => by
  rw [n] at e; cases e; exact f w

theorem modeSet (t : Nat) (h : MsgHdr) (mode : Nat) (preview : Bool)
    : Statement (.modeSet t h mode preview) :=
  ofHdr rfl fun w => by simp only [Instr.wf, Bool.and_eq_true] at w; simp only [w]

theorem unitRestart (t : Nat) (h : MsgHdr) (unit : Nat)
    : Statement (.unitRestart t h unit) :=
  ofHdr rfl fun w => by simp only [Instr.wf, Bool.and_eq_true] at w; simp only [w]

theorem fullRestart (t : Nat) (h : MsgHdr)
    : Statement (.fullRestart t h) := ofHdr rfl fun w => w

theorem clearCounters (t : Nat) (h : MsgHdr) (source : Nat)
    : Statement (.clearCounters t h source) :=
  ofHdr rfl fun w => by simp only [Instr.wf, Bool.and_eq_true] at w; simp only [w]

theorem laneTest (t : Nat) (h : MsgHdr) (lane : Nat) (loopback : Nat) (pattern : Nat)
    : Statement (.laneTest t h lane loopback pattern) :=
  ofHdr rfl fun w => by simp only [Instr.wf, Bool.and_eq_true] at w; simp only [w]

theorem subscribe (t : Nat) (h : MsgHdr) (mask : Nat) (sev : Nat)
    : Statement (.subscribe t h mask sev) :=
  ofHdr rfl fun w => by simp only [Instr.wf, Bool.and_eq_true] at w; simp only [w]

theorem lampSelect (t : Nat) (h : MsgHdr) (pin : Nat) (probe : Nat)
    : Statement (.lampSelect t h pin probe) :=
  ofHdr rfl fun w => by simp only [Instr.wf, Bool.and_eq_true] at w; simp only [w]

theorem settings (t : Nat) (h : MsgHdr) (tg : Target) (groups : Nat) (gain : Nat) (rmode : Nat) (expNs : Nat) (rowOff : Nat) (colOff : Nat)
    : Statement (.settings t h tg groups gain rmode expNs rowOff colOff) :=
  ofHdr rfl fun w => by simp only [Instr.wf, Bool.and_eq_true] at w; simp only [w]

theorem wbIso (t : Nat) (h : MsgHdr) (tg : Target) (cct : Nat) (tint : Int) (iso : Nat)
    : Statement (.wbIso t h tg cct tint iso) :=
  ofHdr rfl fun w => by simp only [Instr.wf, Bool.and_eq_true] at w; simp only [w]

theorem lutSelect (t : Nat) (h : MsgHdr) (tg : Target) (branches : Nat) (slots : List Nat)
    : Statement (.lutSelect t h tg branches slots) :=
  ofHdr rfl fun w => by simp only [Instr.wf, Bool.and_eq_true] at w; simp only [w]

theorem profileSelect (t : Nat) (h : MsgHdr) (tg : Target) (profile : Nat)
    : Statement (.profileSelect t h tg profile) :=
  ofHdr rfl fun w => by simp only [Instr.wf, Bool.and_eq_true] at w; simp only [w]

theorem tnrStrength (t : Nat) (h : MsgHdr) (tg : Target) (str : Nat)
    : Statement (.tnrStrength t h tg str) :=
  ofHdr rfl fun w => by simp only [Instr.wf, Bool.and_eq_true] at w; simp only [w]

theorem lutLoad (t : Nat) (h : MsgHdr) (tg : Target) (entries : List LutEntry)
    : Statement (.lutLoad t h tg entries) :=
  ofHdr rfl fun w => by simp only [Instr.wf, Bool.and_eq_true] at w; simp only [w]

theorem tableReload (t : Nat) (h : MsgHdr) (tg : Target) (tables : Nat)
    : Statement (.tableReload t h tg tables) :=
  ofHdr rfl fun w => by simp only [Instr.wf, Bool.and_eq_true] at w; simp only [w]

theorem l1Draw (t : Nat) (h : MsgHdr) (head : Nat) (commit : Bool) (copy : Bool) (x : Nat) (y : Nat) (w : Nat) (ht : Nat) (pixels : List Nat)
    : Statement (.l1Draw t h head commit copy x y w ht pixels) :=
  ofHdr rfl fun w => by simp only [Instr.wf, Bool.and_eq_true] at w; simp only [w]

theorem l2Text (t : Nat) (h : MsgHdr) (head : Nat) (box : Nat) (visible : Bool) (opq : Bool) (commit : Bool) (glyphSet : Nat) (x : Nat) (y : Nat) (fg : Nat) (bg : Nat) (text : List Nat)
    : Statement (.l2Text t h head box visible opq commit glyphSet x y fg bg text) :=
  ofHdr rfl fun w => by simp only [Instr.wf, Bool.and_eq_true] at w; simp only [w]

theorem l3Mark (t : Nat) (h : MsgHdr) (head : Nat) (visible : Bool) (half : Bool) (commit : Bool) (rect : Bool) (item : Nat) (x0 : Nat) (y0 : Nat) (x1 : Nat) (y1 : Nat) (width : Nat) (colour : Nat)
    : Statement (.l3Mark t h head visible half commit rect item x0 y0 x1 y1 width colour) :=
  ofHdr rfl fun w => by simp only [Instr.wf, Bool.and_eq_true] at w; simp only [w]

theorem recordStart (t : Nat) (h : MsgHdr) (tg : WithVols Target)
    : Statement (.recordStart t h tg) :=
  ofHdr rfl fun w => by simp only [Instr.wf, Bool.and_eq_true] at w; simp only [w]

theorem recordStop (t : Nat) (h : MsgHdr) (tg : Target)
    : Statement (.recordStop t h tg) :=
  ofHdr rfl fun w => by simp only [Instr.wf, Bool.and_eq_true] at w; simp only [w]

theorem setReel (t : Nat) (h : MsgHdr) (reel : Nat)
    : Statement (.setReel t h reel) :=
  ofHdr rfl fun w => by simp only [Instr.wf, Bool.and_eq_true] at w; simp only [w]

theorem play (t : Nat) (h : MsgHdr) (clip : WithVols (List Nat)) (startCfn : Nat) (proxy : Bool) (decode : Nat)
    : Statement (.play t h clip startCfn proxy decode) :=
  ofHdr rfl fun w => by simp only [Instr.wf, Bool.and_eq_true] at w; simp only [w]

theorem playStop (t : Nat) (h : MsgHdr)
    : Statement (.playStop t h) := ofHdr rfl fun w => w

theorem mediaFormat (t : Nat) (h : MsgHdr) (port : Nat)
    : Statement (.mediaFormat t h port) :=
  ofHdr rfl fun w => by simp only [Instr.wf, Bool.and_eq_true] at w; simp only [w]

theorem mediaQualify (t : Nat) (h : MsgHdr) (port : Nat)
    : Statement (.mediaQualify t h port) :=
  ofHdr rfl fun w => by simp only [Instr.wf, Bool.and_eq_true] at w; simp only [w]

theorem status (t : Nat) (h : MsgHdr) (sect : Nat)
    : Statement (.status t h sect) :=
  ofHdr rfl fun w => by simp only [Instr.wf, Bool.and_eq_true] at w; simp only [w]

theorem counters (t : Nat) (h : MsgHdr) (source : Nat)
    : Statement (.counters t h source) :=
  ofHdr rfl fun w => by simp only [Instr.wf, Bool.and_eq_true] at w; simp only [w]

theorem logRead (t : Nat) (h : MsgHdr) (from_ : Nat) (count : Nat)
    : Statement (.logRead t h from_ count) :=
  ofHdr rfl fun w => by simp only [Instr.wf, Bool.and_eq_true] at w; simp only [w]

theorem statsRead (t : Nat) (h : MsgHdr) (slot : Nat)
    : Statement (.statsRead t h slot) :=
  ofHdr rfl fun w => by simp only [Instr.wf, Bool.and_eq_true] at w; simp only [w]

theorem defectRead (t : Nat) (h : MsgHdr) (first : Nat) (count : Nat) (port : Nat)
    : Statement (.defectRead t h first count port) :=
  ofHdr rfl fun w => by simp only [Instr.wf, Bool.and_eq_true] at w; simp only [w]

theorem outputQuery (t : Nat) (h : MsgHdr) (output : Nat)
    : Statement (.outputQuery t h output) :=
  ofHdr rfl fun w => by simp only [Instr.wf, Bool.and_eq_true] at w; simp only [w]

theorem streamQuery (t : Nat) (h : MsgHdr) (kind : Nat) (entry : Nat)
    : Statement (.streamQuery t h kind entry) :=
  ofHdr rfl fun w => by simp only [Instr.wf, Bool.and_eq_true] at w; simp only [w]

theorem xferBegin (t : Nat) (h : MsgHdr) (total : Nat) (generation : Nat)
    : Statement (.xferBegin t h total generation) :=
  ofHdr rfl fun w => by simp only [Instr.wf, Bool.and_eq_true] at w; simp only [w]

theorem xferData (t : Nat) (h : MsgHdr) (offset : Nat) (data : List Byte)
    : Statement (.xferData t h offset data) :=
  ofHdr rfl fun w => by simp only [Instr.wf, Bool.and_eq_true] at w; simp only [w]

theorem xferEnd (t : Nat) (h : MsgHdr) (total : Nat) (crc : Nat)
    : Statement (.xferEnd t h total crc) :=
  ofHdr rfl fun w => by simp only [Instr.wf, Bool.and_eq_true] at w; simp only [w]

theorem xferAbort (t : Nat) (h : MsgHdr)
    : Statement (.xferAbort t h) := ofHdr rfl fun w => w

theorem imageCommit (t : Nat) (h : MsgHdr) (slot : Nat)
    : Statement (.imageCommit t h slot) :=
  ofHdr rfl fun w => by simp only [Instr.wf, Bool.and_eq_true] at w; simp only [w]

theorem keyLoad (t : Nat) (h : MsgHdr) (kind : Nat) (keyId : Nat) (value : List Byte) (check : List Byte) (check2 : List Byte)
    : Statement (.keyLoad t h kind keyId value check check2) :=
  ofHdr rfl fun w => by simp only [Instr.wf, Bool.and_eq_true] at w; simp only [w]

theorem keyErase (t : Nat) (h : MsgHdr) (mask : Nat)
    : Statement (.keyErase t h mask) :=
  ofHdr rfl fun w => by simp only [Instr.wf, Bool.and_eq_true] at w; simp only [w]

theorem lampOpen (t : Nat) (h : MsgHdr)
    : Statement (.lampOpen t h) := ofHdr rfl fun w => w

theorem timeStep (t : Nat) (h : MsgHdr) (offsetNs : Int)
    : Statement (.timeStep t h offsetNs) :=
  ofHdr rfl fun w => by simp only [Instr.wf, Bool.and_eq_true] at w; simp only [w]

theorem calCommit (t : Nat) (h : MsgHdr) (tables : Nat) (fold : Bool) (found : Nat)
    : Statement (.calCommit t h tables fold found) :=
  ofHdr rfl fun w => by simp only [Instr.wf, Bool.and_eq_true] at w; simp only [w]

theorem factoryReset (t : Nat) (h : MsgHdr) (confirm : Nat)
    : Statement (.factoryReset t h confirm) :=
  ofHdr rfl fun w => by simp only [Instr.wf, Bool.and_eq_true] at w; simp only [w]

theorem gatedCancel (t : Nat) (h : MsgHdr)
    : Statement (.gatedCancel t h) := ofHdr rfl fun w => w

theorem timeSet (t : Nat) (h : MsgHdr) (sec : Nat) (ns : Nat) (frac : Nat)
    : Statement (.timeSet t h sec ns frac) :=
  ofHdr rfl fun w => by simp only [Instr.wf, Bool.and_eq_true] at w; simp only [w]

theorem domainSelect (t : Nat) (h : MsgHdr) (domain : Nat)
    : Statement (.domainSelect t h domain) :=
  ofHdr rfl fun w => by simp only [Instr.wf, Bool.and_eq_true] at w; simp only [w]

theorem arrayRecordStart (t : Nat) (h : MsgHdr) (pfi : Nat) (asap : Bool) (reel : Nat) (clip : WithVols Nat) (arrayId : Nat)
    : Statement (.arrayRecordStart t h pfi asap reel clip arrayId) :=
  ofHdr rfl fun w => by simp only [Instr.wf, Bool.and_eq_true] at w; simp only [w]

theorem arrayRecordStop (t : Nat) (h : MsgHdr) (pfi : Nat) (asap : Bool) (arrayId : Nat)
    : Statement (.arrayRecordStop t h pfi asap arrayId) :=
  ofHdr rfl fun w => by simp only [Instr.wf, Bool.and_eq_true] at w; simp only [w]

theorem ctrlBadMessage (t : Nat) (c : Client) (kind : BadKind) (type : Nat) (seq : Nat)
    : Statement (.ctrlBadMessage t c kind type seq) := ofNone rfl

theorem ctrlDenied (t : Nat) (addr : Nat) (port : Nat)
    : Statement (.ctrlDenied t addr port) := ofNone rfl

theorem ctrlUartGapTimeout (t : Nat)
    : Statement (.ctrlUartGapTimeout t) := ofNone rfl

theorem fragmentTimeout (t : Nat) (id : Nat)
    : Statement (.fragmentTimeout t id) := ofNone rfl

theorem subscriptionLapse (t : Nat) (addr : Nat) (port : Nat)
    : Statement (.subscriptionLapse t addr port) := ofNone rfl

theorem xferTimeout (t : Nat)
    : Statement (.xferTimeout t) := ofNone rfl

theorem presencePress (t : Nat) (ksOk : Bool)
    : Statement (.presencePress t ksOk) := ofNone rfl

theorem presenceDecision (t : Nat) (ksOk : Bool)
    : Statement (.presenceDecision t ksOk) := ofNone rfl

theorem gatedExpired (t : Nat)
    : Statement (.gatedExpired t) := ofNone rfl

theorem sealOpen (t : Nat)
    : Statement (.sealOpen t) := ofNone rfl

theorem projectFrameBoundary (t : Nat)
    : Statement (.projectFrameBoundary t) := ofNone rfl

theorem autoPreview (t : Nat)
    : Statement (.autoPreview t) := ofNone rfl

theorem captureSlotStart (t : Nat)
    : Statement (.captureSlotStart t) := ofNone rfl

theorem xtrig (t : Nat) (p : Fin 2)
    : Statement (.xtrig t p) := ofNone rfl

theorem writeWindowStart (t : Nat) (p : Fin 2)
    : Statement (.writeWindowStart t p) := ofNone rfl

theorem sensorWriteDone (t : Nat) (p : Fin 2) (ok : Bool) (room : Bool)
    : Statement (.sensorWriteDone t p ok room) := ofNone rfl

theorem writeListDeadline (t : Nat) (p : Fin 2) (complete : Bool)
    : Statement (.writeListDeadline t p complete) := ofNone rfl

theorem matrixDeadline (t : Nat) (p : Fin 2) (ready : Bool)
    : Statement (.matrixDeadline t p ready) := ofNone rfl

theorem selectionDeadline (t : Nat) (ready : Bool)
    : Statement (.selectionDeadline t ready) := ofNone rfl

theorem tableReloadDeadline (t : Nat)
    : Statement (.tableReloadDeadline t) := ofNone rfl

theorem lutLoadDeadline (t : Nat)
    : Statement (.lutLoadDeadline t) := ofNone rfl

theorem layerChangeDeadline (t : Nat) (hd : Fin 4) (ready : Bool)
    : Statement (.layerChangeDeadline t hd ready) := ofNone rfl

theorem metadataDeadline (t : Nat) (p : Fin 2) (ready : Bool)
    : Statement (.metadataDeadline t p ready) := ofNone rfl

theorem servoUpdateDeadline (t : Nat)
    : Statement (.servoUpdateDeadline t) := ofNone rfl

theorem sensorResetDone (t : Nat) (p : Fin 2) (initOk : Bool)
    : Statement (.sensorResetDone t p initOk) := ofNone rfl

theorem hyernTrainTimeout (t : Nat) (p : Fin 2)
    : Statement (.hyernTrainTimeout t p) := ofNone rfl

theorem hyernAlign (t : Nat) (p : Fin 2) (seqs : List Nat) (sameRow : Bool) (blocks : List Nat) (skew : Nat) (tsLog2 : Nat)
    : Statement (.hyernAlign t p seqs sameRow blocks skew tsLog2) := ofNone rfl

theorem hyernSensorReset (t : Nat) (p : Fin 2)
    : Statement (.hyernSensorReset t p) := ofNone rfl

theorem hyernSopError (t : Nat) (p : Fin 2) (kind : SopErr)
    : Statement (.hyernSopError t p kind) := ofNone rfl

theorem hyernFs (t : Nat) (p : Fin 2) (sop : BitVec 56) (payload : List Byte) (crc : BitVec 32)
    : Statement (.hyernFs t p sop payload crc) := ofNone rfl

theorem hyernLs (t : Nat) (p : Fin 2) (sop : BitVec 56) (crc : BitVec 32)
    : Statement (.hyernLs t p sop crc) := ofNone rfl

theorem hyernPix (t : Nat) (p : Fin 2) (sop : BitVec 56) (payload : List Byte) (crc : BitVec 32)
    : Statement (.hyernPix t p sop payload crc) := ofNone rfl

theorem hyernEmb (t : Nat) (p : Fin 2) (sop : BitVec 56) (payload : List Byte) (crc : BitVec 32)
    : Statement (.hyernEmb t p sop payload crc) := ofNone rfl

theorem hyernLe (t : Nat) (p : Fin 2) (sop : BitVec 56) (crc : BitVec 32)
    : Statement (.hyernLe t p sop crc) := ofNone rfl

theorem hyernFe (t : Nat) (p : Fin 2) (sop : BitVec 56) (payload : List Byte) (crc : BitVec 32)
    : Statement (.hyernFe t p sop payload crc) := ofNone rfl

theorem frameEndDeadline (t : Nat) (p : Fin 2)
    : Statement (.frameEndDeadline t p) := ofNone rfl

theorem phaseInStrobe (t : Nat) (code : Nat)
    : Statement (.phaseInStrobe t code) := ofNone rfl

theorem phaseInMiss (t : Nat)
    : Statement (.phaseInMiss t) := ofNone rfl

theorem auxVs (t : VsEdge)
    : Statement (.auxVs t) := ofNone rfl

theorem auxFrameEnd (t : Nat) (clocks : List AuxClk)
    : Statement (.auxFrameEnd t clocks) := ofNone rfl

theorem auxLoss (t : Nat)
    : Statement (.auxLoss t) := ofNone rfl

theorem statsRecordDone (t : Nat) (src : Fin 3)
    : Statement (.statsRecordDone t src) := ofNone rfl

theorem tableLoadDone (t : Nat) (defects : List CalFile) (others : List CalFile)
    : Statement (.tableLoadDone t defects others) := ofNone rfl

theorem lutLoadDone (t : Nat) (files : List LutFile)
    : Statement (.lutLoadDone t files) := ofNone rfl

theorem fsrBandDecide (t : Nat) (st : Fin 8) (band : Nat)
    : Statement (.fsrBandDecide t st band) := ofNone rfl

theorem fsrTileCoded (t : Nat) (st : Fin 8) (col : Nat) (band : Nat) (engine : Fin 32) (errs1 : List (Nat × Byte)) (errs2 : List (Nat × Byte))
    : Statement (.fsrTileCoded t st col band engine errs1 errs2) := ofNone rfl

theorem fsrTileLate (t : Nat) (st : Fin 8) (col : Nat) (band : Nat)
    : Statement (.fsrTileLate t st col band) := ofNone rfl

theorem fsrPictureComplete (t : Nat) (st : Fin 8)
    : Statement (.fsrPictureComplete t st) := ofNone rfl

theorem fsrDecodePicture (t : Nat) (st : Fin 8) (bytes : List Byte) (record : List Byte) (audio : List (List (Nat × Bool)))
    : Statement (.fsrDecodePicture t st bytes record audio) := ofNone rfl

theorem hevcSourceFrame (t : Nat) (st : Fin 8)
    : Statement (.hevcSourceFrame t st) := ofNone rfl

theorem hevcRowStart (t : Nat) (st : Fin 8) (params : Nat) (sei : Nat) (slice : Nat)
    : Statement (.hevcRowStart t st params sei slice) := ofNone rfl

theorem hevcCtuCode (t : Nat) (st : Fin 8) (row : Nat) (cands : List HevcCand) (poison : CtuPoison)
    : Statement (.hevcCtuCode t st row cands poison) := ofNone rfl

theorem hevcPictureComplete (t : Nat) (st : Fin 8)
    : Statement (.hevcPictureComplete t st) := ofNone rfl

theorem hevcAccessUnitRx (t : Nat) (d : Fin 4) (au : RtpUnit)
    : Statement (.hevcAccessUnitRx t d au) := ofNone rfl

theorem hevcDecodePicture (t : Nat) (d : Fin 4) (au : AccessUnit)
    : Statement (.hevcDecodePicture t d au) := ofNone rfl

theorem hevcDecodeLate (t : Nat) (d : Fin 4)
    : Statement (.hevcDecodeLate t d) := ofNone rfl

theorem mediaInsert (t : Nat) (m : Fin 4) (info : DriveInfo)
    : Statement (.mediaInsert t m info) := ofNone rfl

theorem mediaRemove (t : Nat) (m : Fin 4)
    : Statement (.mediaRemove t m) := ofNone rfl

theorem mediaMount (t : Nat) (m : Fin 4) (info : MountInfo)
    : Statement (.mediaMount t m info) := ofNone rfl

theorem mediaCmdComplete (t : Nat) (m : Fin 4) (cid : Nat) (status : Nat)
    : Statement (.mediaCmdComplete t m cid status) := ofNone rfl

theorem mediaCmdTimeout (t : Nat) (m : Fin 4) (cid : Nat)
    : Statement (.mediaCmdTimeout t m cid) := ofNone rfl

theorem mediaAbortTimeout (t : Nat) (m : Fin 4) (cid : Nat)
    : Statement (.mediaAbortTimeout t m cid) := ofNone rfl

theorem mediaResetTimeout (t : Nat) (m : Fin 4)
    : Statement (.mediaResetTimeout t m) := ofNone rfl

theorem mediaLinkDownTimeout (t : Nat) (m : Fin 4)
    : Statement (.mediaLinkDownTimeout t m) := ofNone rfl

theorem mediaHealthPoll (t : Nat) (m : Fin 4) (warning : Nat)
    : Statement (.mediaHealthPoll t m warning) := ofNone rfl

theorem mediaFormatDone (t : Nat) (m : Fin 4)
    : Statement (.mediaFormatDone t m) := ofNone rfl

theorem mediaQualified (t : Nat) (m : Fin 4) (rates : List Nat)
    : Statement (.mediaQualified t m rates) := ofNone rfl

theorem recFlushTick (t : Nat)
    : Statement (.recFlushTick t) := ofNone rfl

theorem chunkDurable (t : Nat) (m : Fin 4) (chunk : Nat)
    : Statement (.chunkDurable t m chunk) := ofNone rfl

theorem clipClosed (t : Nat)
    : Statement (.clipClosed t) := ofNone rfl

theorem nvmeSqDoorbell (t : Nat) (q : Nat) (tail : Nat) (cids : List Nat)
    : Statement (.nvmeSqDoorbell t q tail cids) := ofNone rfl

theorem nvmeCqDoorbell (t : Nat) (q : Nat) (hd : Nat)
    : Statement (.nvmeCqDoorbell t q hd) := ofNone rfl

theorem epControllerEnable (t : Nat) (asqs : Nat) (acqs : Nat)
    : Statement (.epControllerEnable t asqs acqs) := ofNone rfl

theorem epControllerReset (t : Nat) (perst : Bool)
    : Statement (.epControllerReset t perst) := ofNone rfl

theorem epPerstRelease (t : Nat)
    : Statement (.epPerstRelease t) := ofNone rfl

theorem epFlr (t : Nat)
    : Statement (.epFlr t) := ofNone rfl

theorem epRegisterWrite (t : Nat) (offset : Nat) (value : Nat)
    : Statement (.epRegisterWrite t offset value) := ofNone rfl

theorem epLoopbackEnter (t : Nat)
    : Statement (.epLoopbackEnter t) := ofNone rfl

theorem nvmeIdentify (t : Nat) (cid : Nat) (cns : Nat) (nsid : Nat)
    : Statement (.nvmeIdentify t cid cns nsid) := ofNone rfl

theorem nvmeCreateIoSq (t : Nat) (cid : Nat) (qid : Nat) (size : Nat) (cqid : Nat) (pc : Bool)
    : Statement (.nvmeCreateIoSq t cid qid size cqid pc) := ofNone rfl

theorem nvmeCreateIoCq (t : Nat) (cid : Nat) (qid : Nat) (size : Nat) (vector : Nat) (flags : CqFlags)
    : Statement (.nvmeCreateIoCq t cid qid size vector flags) := ofNone rfl

theorem nvmeDeleteIoSq (t : Nat) (cid : Nat) (qid : Nat)
    : Statement (.nvmeDeleteIoSq t cid qid) := ofNone rfl

theorem nvmeDeleteIoCq (t : Nat) (cid : Nat) (qid : Nat)
    : Statement (.nvmeDeleteIoCq t cid qid) := ofNone rfl

theorem nvmeGetFeatures (t : Nat) (cid : Nat) (fid : Nat) (sel : Nat)
    : Statement (.nvmeGetFeatures t cid fid sel) := ofNone rfl

theorem nvmeSetFeatures (t : Nat) (cid : Nat) (fid : Nat) (sel : Nat) (value : Nat)
    : Statement (.nvmeSetFeatures t cid fid sel value) := ofNone rfl

theorem nvmeGetLogPage (t : Nat) (cid : Nat) (lid : Nat) (nsid : Nat) (rae : Bool) (len : Nat)
    : Statement (.nvmeGetLogPage t cid lid nsid rae len) := ofNone rfl

theorem nvmeAbort (t : Nat) (cid : Nat) (sqid : Nat) (target : Nat)
    : Statement (.nvmeAbort t cid sqid target) := ofNone rfl

theorem nvmeAsyncEventRequest (t : Nat) (cid : Nat)
    : Statement (.nvmeAsyncEventRequest t cid) := ofNone rfl

theorem nvmeControl (t : Nat) (cid : Nat) (reqLen : Nat) (bufLen : Nat)
    : Statement (.nvmeControl t cid reqLen bufLen) := ofNone rfl

theorem nvmeRead (t : Nat) (q : Nat) (cid : Nat) (nsid : Nat) (slba : Nat) (nlb : Nat) (drive : List Byte) (status : Nat)
    : Statement (.nvmeRead t q cid nsid slba nlb drive status) := ofNone rfl

theorem nvmeWrite (t : Nat) (q : Nat) (cid : Nat) (nsid : Nat) (slba : Nat) (nlb : Nat)
    : Statement (.nvmeWrite t q cid nsid slba nlb) := ofNone rfl

theorem nvmeFlush (t : Nat) (q : Nat) (cid : Nat) (nsid : Nat)
    : Statement (.nvmeFlush t q cid nsid) := ofNone rfl

theorem nvmeWriteZeroes (t : Nat) (q : Nat) (cid : Nat) (nsid : Nat) (slba : Nat) (nlb : Nat)
    : Statement (.nvmeWriteZeroes t q cid nsid slba nlb) := ofNone rfl

theorem nvmeDatasetManagement (t : Nat) (q : Nat) (cid : Nat) (nsid : Nat) (ranges : List (Nat × Nat)) (ad : Bool)
    : Statement (.nvmeDatasetManagement t q cid nsid ranges ad) := ofNone rfl

theorem nvmeInvalidOpcode (t : Nat) (q : Nat) (cid : Nat) (opcode : Nat)
    : Statement (.nvmeInvalidOpcode t q cid opcode) := ofNone rfl

theorem epPieceCommit (t : Nat) (q : Nat) (cid : Nat) (piece : Nat) (data : List Byte)
    : Statement (.epPieceCommit t q cid piece data) := ofNone rfl

theorem epDrainDone (t : Nat) (ns : Fin 4)
    : Statement (.epDrainDone t ns) := ofNone rfl

theorem headFrameBoundary (t : Nat) (hd : Fin 4)
    : Statement (.headFrameBoundary t hd) := ofNone rfl

theorem headPictureStart (t : Nat) (hd : Fin 4) (pic : SourcePic)
    : Statement (.headPictureStart t hd pic) := ofNone rfl

theorem headSlate (t : Nat) (hd : Fin 4)
    : Statement (.headSlate t hd) := ofNone rfl

theorem sdiInLock (t : Nat) (i : Fin 2) (rate : Nat) (wide : Bool) (supported : Bool)
    : Statement (.sdiInLock t i rate wide supported) := ofNone rfl

theorem sdiInLoss (t : Nat) (i : Fin 2)
    : Statement (.sdiInLoss t i) := ofNone rfl

theorem dpHpd (t : Nat) (d : Fin 2) (present : Bool) (edid : List Byte) (maxLanes : Nat) (maxRate : Nat) (trained : Bool)
    : Statement (.dpHpd t d present edid maxLanes maxRate trained) := ofNone rfl

theorem dpIrqHpd (t : Nat) (d : Fin 2) (lockLost : Bool) (trained : Bool)
    : Statement (.dpIrqHpd t d lockLost trained) := ofNone rfl

theorem nvRxPacket (t : Nat) (e : Fin 16) (path : Fin 2) (seq : RtpSeq)
    : Statement (.nvRxPacket t e path seq) := ofNone rfl

theorem nvRxLoss (t : Nat) (e : Fin 16) (seq : Nat)
    : Statement (.nvRxLoss t e seq) := ofNone rfl

theorem netArpIcmp (t : Nat) (link : Nat) (addr : Nat) (got : NetIn)
    : Statement (.netArpIcmp t link addr got) := ofNone rfl

theorem audioTick (t : Nat)
    : Statement (.audioTick t) := ofNone rfl

theorem audPllFirstLock (t : Nat)
    : Statement (.audPllFirstLock t) := ofNone rfl

theorem audRelock (t : Nat)
    : Statement (.audRelock t) := ofNone rfl

theorem audInLock (t : Nat) (i : Fin 2)
    : Statement (.audInLock t i) := ofNone rfl

theorem audInLoss (t : Nat) (i : Fin 2)
    : Statement (.audInLoss t i) := ofNone rfl

theorem audInRate (t : Nat) (src : Fin 14)
    : Statement (.audInRate t src) := ofNone rfl

theorem aesCsBlock (t : Nat) (i : Fin 2) (bits : List Bool) (zExact : Bool) (crcc : List Bool)
    : Statement (.aesCsBlock t i bits zExact crcc) := ofNone rfl

theorem audRxPacket (t : Nat) (e : Fin 8) (path : Fin 2) (seq : RtpSeq) (ts : Nat) (samples : List (List Nat))
    : Statement (.audRxPacket t e path seq ts samples) := ofNone rfl

theorem audTxPacket (t : Nat) (e : Fin 8)
    : Statement (.audTxPacket t e) := ofNone rfl

theorem ptpSync (t : Nat) (sv : Fin 2) (port : Fin 3) (master : Nat) (seq : Nat) (twoStep : Bool) (origin : Nat) (corr : Int)
    : Statement (.ptpSync t sv port master seq twoStep origin corr) := ofNone rfl

theorem ptpFollowUp (t : Nat) (sv : PtpAt) (master : Nat) (seq : Nat) (origin : Nat) (corr : Int)
    : Statement (.ptpFollowUp t sv master seq origin corr) := ofNone rfl

theorem ptpDelayResp (t : Nat) (sv : PtpAt) (master : Nat) (seq : Nat) (rx : Nat) (corr : Int)
    : Statement (.ptpDelayResp t sv master seq rx corr) := ofNone rfl

theorem ptpAnnounce (t : Nat) (sv : PtpAt) (ann : Announce)
    : Statement (.ptpAnnounce t sv ann) := ofNone rfl

theorem ptpDelayReqSend (t : Nat) (sv : PtpAt) (seq : Nat)
    : Statement (.ptpDelayReqSend t sv seq) := ofNone rfl

theorem ptpTimeout (t : Nat) (sv : Fin 2) (announce : Bool)
    : Statement (.ptpTimeout t sv announce) := ofNone rfl

theorem timeRevert (t : Nat)
    : Statement (.timeRevert t) := ofNone rfl

theorem dtbStepApply (t : Nat)
    : Statement (.dtbStepApply t) := ofNone rfl

theorem beaconSend (t : Nat)
    : Statement (.beaconSend t) := ofNone rfl

theorem beaconReceive (t : Nat) (bytes : List Byte)
    : Statement (.beaconReceive t bytes) := ofNone rfl

theorem beaconPeerTimeout (t : Nat) (dev : Nat)
    : Statement (.beaconPeerTimeout t dev) := ofNone rfl

theorem clkMonitorWindow (t : Nat) (src : ClkSrc) (f : Int)
    : Statement (.clkMonitorWindow t src f) := ofNone rfl

theorem clkSourceStop (t : Nat) (src : ClkSrc)
    : Statement (.clkSourceStop t src) := ofNone rfl

theorem clkPhaseHit (t : Nat) (step : Nat)
    : Statement (.clkPhaseHit t step) := ofNone rfl

theorem rootLocked (t : Nat) (offset : Int)
    : Statement (.rootLocked t offset) := ofNone rfl

theorem clkRevert (t : Nat) (src : ClkSrc)
    : Statement (.clkRevert t src) := ofNone rfl

theorem clkMuxForce (t : Nat) (mux : Fin 3)
    : Statement (.clkMuxForce t mux) := ofNone rfl

theorem clkNoSource (t : Nat)
    : Statement (.clkNoSource t) := ofNone rfl

theorem clkGateClose (t : Nat) (parent : Fin 5)
    : Statement (.clkGateClose t parent) := ofNone rfl

theorem dramRead (t : Nat) (port : Fin 24) (region : Fin 4) (word : Nat) (errs : Nat)
    : Statement (.dramRead t port region word errs) := ofNone rfl

theorem dramWrite (t : Nat) (port : Fin 24) (region : Fin 4) (word : Nat) (data : List Byte)
    : Statement (.dramWrite t port region word data) := ofNone rfl

theorem dramScrub (t : Nat) (rank : Fin 32) (word : Nat) (errs : Nat)
    : Statement (.dramScrub t rank word errs) := ofNone rfl

theorem dramRecentre (t : Nat) (rank : Fin 32) (edgeFound : Bool) (eye : Nat)
    : Statement (.dramRecentre t rank edgeFound eye) := ofNone rfl

theorem dramRefresh (t : Nat) (rank : Fin 32) (tempTenths : Int)
    : Statement (.dramRefresh t rank tempTenths) := ofNone rfl

theorem dramPowerDown (t : Nat) (rank : Fin 32)
    : Statement (.dramPowerDown t rank) := ofNone rfl

theorem siphonCopyChunk (t : Nat) (bad : List Nat)
    : Statement (.siphonCopyChunk t bad) := ofNone rfl

theorem grottoRead (t : Nat) (addr : Nat) (errs : Nat)
    : Statement (.grottoRead t addr errs) := ofNone rfl

theorem grottoScrub (t : Nat) (addr : Nat) (errs : Nat)
    : Statement (.grottoScrub t addr errs) := ofNone rfl

theorem posSample (t : Nat) (ch : Fin 8) (a : Bool) (b : Bool) (z : Bool)
    : Statement (.posSample t ch a b z) := ofNone rfl

theorem posSsiRead (t : Nat) (ch : Fin 8) (latch : Nat) (first : Nat) (second : Nat) (lowAtStart : Bool)
    : Statement (.posSsiRead t ch latch first second lowAtStart) := ofNone rfl

theorem posSpeedUpdate (t : Nat)
    : Statement (.posSpeedUpdate t) := ofNone rfl

theorem posMidpointLatch (t : Nat) (p : Fin 2)
    : Statement (.posMidpointLatch t p) := ofNone rfl

theorem posSsiSampleTimeout (t : Nat) (p : Fin 2) (ch : Fin 8)
    : Statement (.posSsiSampleTimeout t p ch) := ofNone rfl

theorem metadataEmit (t : Nat) (p : Fin 2)
    : Statement (.metadataEmit t p) := ofNone rfl

theorem logRelease (t : Nat)
    : Statement (.logRelease t) := ofNone rfl

theorem logSuppressed (t : Nat)
    : Statement (.logSuppressed t) := ofNone rfl

theorem deflateBlock (t : Nat) (e : Fin 2) (stream : Fin 16) (zlib : Bool) (input : List Byte) (code : List Bool) (poison : List Nat) (flush : Bool) (last : Bool)
    : Statement (.deflateBlock t e stream zlib input code poison flush last) := ofNone rfl

theorem coreWatchdog (t : Nat) (core : Fin 4)
    : Statement (.coreWatchdog t core) := ofNone rfl

theorem loadSecond (t : Nat) (loads : List Nat) (peaks : List Nat) (slacks : List Nat)
    : Statement (.loadSecond t loads peaks slacks) := ofNone rfl

theorem dieLinkError (t : Nat) (link : Nat) (fails : Nat)
    : Statement (.dieLinkError t link fails) := ofNone rfl

theorem restartVerifyDone (t : Nat) (kind : Nat) (index : Nat)
    : Statement (.restartVerifyDone t kind index) := ofNone rfl

theorem restartUnitStop (t : Nat) (unit : Nat)
    : Statement (.restartUnitStop t unit) := ofNone rfl

theorem restartDone (t : Nat) (unit : Nat)
    : Statement (.restartDone t unit) := ofNone rfl

theorem restartFailed (t : Nat) (unit : Nat)
    : Statement (.restartFailed t unit) := ofNone rfl

theorem startupStepDone (t : Nat) (f : StepFacts)
    : Statement (.startupStepDone t f) := ofNone rfl

theorem bootRetry (t : Nat) (ok : Bool)
    : Statement (.bootRetry t ok) := ofNone rfl

theorem inputQualified (t : Nat) (j : Fin 2) (plateTenths : Int)
    : Statement (.inputQualified t j plateTenths) := ofNone rfl

theorem inputDropout (t : Nat)
    : Statement (.inputDropout t) := ofNone rfl

theorem inputLost (t : Nat) (j : Fin 2)
    : Statement (.inputLost t j) := ofNone rfl

theorem powerFailFlush (t : Nat)
    : Statement (.powerFailFlush t) := ofNone rfl

theorem powerFailUnitsStop (t : Nat)
    : Statement (.powerFailUnitsStop t) := ofNone rfl

theorem powerFailPwrenOff (t : Nat)
    : Statement (.powerFailPwrenOff t) := ofNone rfl

theorem powerFailRailsOff (t : Nat)
    : Statement (.powerFailRailsOff t) := ofNone rfl

theorem holdupInsert (t : Nat) (serial : Nat) (hours : Nat) (idValid : Bool)
    : Statement (.holdupInsert t serial hours idValid) := ofNone rfl

theorem holdupRemoved (t : Nat)
    : Statement (.holdupRemoved t) := ofNone rfl

theorem holdupReady (t : Nat)
    : Statement (.holdupReady t) := ofNone rfl

theorem holdupHealthMeasure (t : Nat) (tenthsJ : Nat)
    : Statement (.holdupHealthMeasure t tenthsJ) := ofNone rfl

theorem thermalDerate (t : Nat) (plate : Int) (junction : Int) (die : Fin 8)
    : Statement (.thermalDerate t plate junction die) := ofNone rfl

theorem thermalTrip (t : Nat) (plate : Int) (junction : Int) (die : Fin 8)
    : Statement (.thermalTrip t plate junction die) := ofNone rfl

theorem thermalHaltEnd (t : Nat) (plate : Int) (junction : Int)
    : Statement (.thermalHaltEnd t plate junction) := ofNone rfl

theorem coldHoldRelease (t : Nat) (plate : Int)
    : Statement (.coldHoldRelease t plate) := ofNone rfl

theorem vioChange (t : Nat) (bank : Fin 7) (range : Fin 3)
    : Statement (.vioChange t bank range) := ofNone rfl

theorem calCaptureDone (t : Nat) (p : Fin 2) (room : Bool)
    : Statement (.calCaptureDone t p room) := ofNone rfl

theorem lanePllLock (t : Nat) (l : Fin 62)
    : Statement (.lanePllLock t l) := ofNone rfl

theorem lanePllUnlock (t : Nat) (l : Fin 62)
    : Statement (.lanePllUnlock t l) := ofNone rfl

theorem laneCdrLock (t : Nat) (l : Fin 62)
    : Statement (.laneCdrLock t l) := ofNone rfl

theorem lanePcsLock (t : Nat) (l : Fin 62)
    : Statement (.lanePcsLock t l) := ofNone rfl

theorem laneLockFail (t : Nat) (l : Fin 62)
    : Statement (.laneLockFail t l) := ofNone rfl

theorem laneUp (t : Nat) (l : Fin 62) (rate : Nat) (link : LinkForm)
    : Statement (.laneUp t l rate link) := ofNone rfl

theorem laneDown (t : Nat) (l : Fin 62) (pll : Bool) (cdr : Bool) (pcs : Bool)
    : Statement (.laneDown t l pll cdr pcs) := ofNone rfl

theorem laneEbSlip (t : Nat) (x : LaneUnits)
    : Statement (.laneEbSlip t x) := ofNone rfl

theorem epUncommittedDiscard (t : Nat)
    : Statement (.epUncommittedDiscard t) := ofNone rfl

theorem epDrainCutoff (t : Nat)
    : Statement (.epDrainCutoff t) := ofNone rfl

theorem xferEraseDone (t : Nat)
    : Statement (.xferEraseDone t) := ofNone rfl

theorem xferCheckDone (t : Nat)
    : Statement (.xferCheckDone t) := ofNone rfl

theorem commitCheckDone (t : Nat) (v : SlotVerdict)
    : Statement (.commitCheckDone t v) := ofNone rfl

theorem sdiInFormat (t : Nat) (i : Fin 2)
    : Statement (.sdiInFormat t i) := ofNone rfl

theorem refinFrameStart (t : Nat) (rate : Nat)
    : Statement (.refinFrameStart t rate) := ofNone rfl

theorem presenceLevelChange (t : Nat) (high : Bool)
    : Statement (.presenceLevelChange t high) := ofNone rfl

theorem thermalDerateClear (t : Nat) (plate : Int) (junction : Int)
    : Statement (.thermalDerateClear t plate junction) := ofNone rfl

theorem holdupFault (t : Nat)
    : Statement (.holdupFault t) := ofNone rfl

theorem audInSample (t : Nat) (src : Fin 14) (samples : List (Nat × Bool)) (parityErr : Bool)
    : Statement (.audInSample t src samples parityErr) := ofNone rfl

end HeaderFits

end Sys2Proof.Laws
end

