-- ==== Sys2Proof/Tests/Slice0.lean ====
section
/-! SUPPORT. Tests: an ill-formed term for each check of WellFormed, small checks of one step, and for each statement states and
operands that meet its hypotheses. -/

namespace Sys2Proof.Tests
set_option Elab.async false
open Sys2Proof Sys2Proof.Machine Sys2Proof.Laws

/-- A section of n words, all zero but for the fields named. -/
def sw (id n : Nat) (l : List (Nat × List (Nat × Nat × Nat))) : Sect :=
  ⟨id, 0, (List.range n).map fun i => mkWord (((l.find? fun x => x.1 = i).map (·.2)).getD [])⟩

/-- The sections of an engine whose control UART and Ethernet answer. -/
def cfg0 : Cfg := [sw 0xC0 7 [(0, [(31, 31, 1), (30, 30, 1)])]]

/-! An ill-formed term for each check of WellFormed; every operand beside the one that breaks it is well formed. -/

def h0 : MsgHdr := ⟨.uart, 0⟩
def hBad : MsgHdr := ⟨.uart, 4294967296⟩
def tg0 : Target := ⟨0, false, 0, 0⟩
def tgBad : Target := ⟨4294967296, false, 0, 0⟩

theorem test_clients_and_targets :
    [MsgHdr.wf ⟨.eth 4294967296 0, 0⟩, MsgHdr.wf ⟨.eth 0 65536, 0⟩, Target.wf ⟨0, false, 256, 0⟩, Target.wf ⟨0, false, 0, 256⟩].all
      (fun x => !x) = true := by decide +kernel

theorem test_well_formed_1 : ([
    .modeSet 0 h0 0 false,
    .unitRestart 0 h0 0,
    .fullRestart 0 h0,
    .clearCounters 0 h0 0,
    .laneTest 0 h0 0 0 0,
    .subscribe 0 h0 0 0,
    .lampSelect 0 h0 0 0,
    .settings 0 h0 tg0 0 0 0 0 0 0,
    .wbIso 0 h0 tg0 0 0 0,
    .lutSelect 0 h0 tg0 0 [0, 0, 0, 0, 0, 0],
    .profileSelect 0 h0 tg0 0,
    .tnrStrength 0 h0 tg0 0,
    .lutLoad 0 h0 tg0 [⟨0, 0, List.replicate 64 0⟩],
    .tableReload 0 h0 tg0 0,
    .l1Draw 0 h0 0 false false 0 0 0 0 [],
    .l2Text 0 h0 0 0 false false false 0 0 0 0 0 [],
    .l3Mark 0 h0 0 false false false false 0 0 0 0 0 0 0,
    .recordStart 0 h0 ⟨tg0, []⟩,
    .recordStop 0 h0 tg0,
    .setReel 0 h0 0,
    .play 0 h0 ⟨(List.replicate 16 0), []⟩ 0 false 0,
    .playStop 0 h0,
    .mediaFormat 0 h0 0,
    .mediaQualify 0 h0 0,
    .status 0 h0 0,
    .counters 0 h0 0,
    .logRead 0 h0 0 0,
    .statsRead 0 h0 0,
    .defectRead 0 h0 0 0 0,
    .outputQuery 0 h0 0,
    .streamQuery 0 h0 0 0,
    .xferBegin 0 h0 0 0,
    .xferData 0 h0 0 [],
    .xferEnd 0 h0 0 0,
    .xferAbort 0 h0,
    .imageCommit 0 h0 0,
    .keyLoad 0 h0 0 0 (List.replicate 32 0) (List.replicate 4 0) (List.replicate 4 0),
    .keyErase 0 h0 0,
    .lampOpen 0 h0,
    .timeStep 0 h0 0,
    .calCommit 0 h0 0 false 0,
    .factoryReset 0 h0 0,
    .gatedCancel 0 h0,
    .timeSet 0 h0 0 0 0,
    .domainSelect 0 h0 0,
    .arrayRecordStart 0 h0 0 false 0 ⟨0, []⟩ 0,
    .arrayRecordStop 0 h0 0 false 0,
    .ctrlBadMessage 0 .uart .crc 0 0,
    .ctrlDenied 0 0 0,
    .fragmentTimeout 0 0,
    .subscriptionLapse 0 0 0,
    .hyernAlign 0 0 [] false [] 0 0,
    .hyernFs 0 0 0 [] 0,
    .hyernPix 0 0 0 [] 0,
    .hyernEmb 0 0 0 [] 0,
    .hyernFe 0 0 0 [] 0,
    .phaseInStrobe 0 0,
    .auxFrameEnd 0 [],
    .tableLoadDone 0 [] [],
    .lutLoadDone 0 []] : List Instr).all (fun i => i.wf) = true := by decide +kernel

theorem test_well_formed_2 : ([
    .mediaHealthPoll 0 0 0,
    .nvmeSqDoorbell 0 0 0 [],
    .nvmeCqDoorbell 0 0 0,
    .epControllerEnable 0 0 0,
    .nvmeIdentify 0 0 0 0,
    .nvmeCreateIoSq 0 0 0 0 0 false,
    .nvmeCreateIoCq 0 0 0 0 0 ⟨false, false⟩,
    .nvmeDeleteIoSq 0 0 0,
    .nvmeDeleteIoCq 0 0 0,
    .nvmeGetFeatures 0 0 0 0,
    .nvmeSetFeatures 0 0 0 0 0,
    .nvmeGetLogPage 0 0 0 0 false 0,
    .nvmeAbort 0 0 0 0,
    .nvmeAsyncEventRequest 0 0,
    .nvmeControl 0 0 0 0,
    .nvmeRead 0 0 0 0 0 0 [] 0,
    .nvmeWrite 0 0 0 0 0 0,
    .nvmeFlush 0 0 0 0,
    .nvmeWriteZeroes 0 0 0 0 0 0,
    .nvmeDatasetManagement 0 0 0 0 [] false,
    .nvmeInvalidOpcode 0 0 0 0,
    .epPieceCommit 0 0 0 0 [],
    .dpHpd 0 0 false [] 0 0 false,
    .nvRxPacket 0 0 0 ⟨0, 0⟩,
    .nvRxLoss 0 0 0,
    .netArpIcmp 0 0 0 .arp,
    .aesCsBlock 0 0 (List.replicate 184 false) false (List.replicate 8 false),
    .audRxPacket 0 0 0 ⟨0, 0⟩ 0 [],
    .ptpSync 0 0 0 0 0 false 0 0,
    .ptpFollowUp 0 ⟨0, 0⟩ 0 0 0 0,
    .ptpDelayResp 0 ⟨0, 0⟩ 0 0 0 0,
    .ptpDelayReqSend 0 ⟨0, 0⟩ 0,
    .beaconReceive 0 [],
    .beaconPeerTimeout 0 0,
    .dramWrite 0 0 0 0 (List.replicate 32 0),
    .siphonCopyChunk 0 [],
    .posSsiRead 0 0 0 0 0 false,
    .deflateBlock 0 0 0 false [] [] [] false false,
    .loadSecond 0 [0, 0, 0, 0] [0, 0, 0, 0] (List.replicate 8 0),
    .dieLinkError 0 0 0,
    .restartVerifyDone 0 0 0,
    .restartUnitStop 0 0,
    .restartDone 0 0,
    .restartFailed 0 0,
    .holdupInsert 0 0 0 false,
    .laneUp 0 0 0 ⟨0, 0⟩] : List Instr).all (fun i => i.wf) = true := by decide +kernel

theorem test_ill_formed_1 : ([
    .modeSet 0 hBad 0 false,
    .modeSet 0 h0 256 false,
    .unitRestart 0 hBad 0,
    .unitRestart 0 h0 65536,
    .fullRestart 0 hBad,
    .clearCounters 0 hBad 0,
    .clearCounters 0 h0 65536,
    .laneTest 0 hBad 0 0 0,
    .laneTest 0 h0 256 0 0,
    .laneTest 0 h0 0 256 0,
    .laneTest 0 h0 0 0 256,
    .subscribe 0 hBad 0 0,
    .subscribe 0 h0 4294967296 0,
    .subscribe 0 h0 0 256,
    .lampSelect 0 hBad 0 0,
    .lampSelect 0 h0 256 0,
    .lampSelect 0 h0 0 65536,
    .settings 0 hBad tg0 0 0 0 0 0 0,
    .settings 0 h0 tgBad 0 0 0 0 0 0,
    .settings 0 h0 tg0 256 0 0 0 0 0,
    .settings 0 h0 tg0 0 256 0 0 0 0,
    .settings 0 h0 tg0 0 0 256 0 0 0,
    .settings 0 h0 tg0 0 0 0 4294967296 0 0,
    .settings 0 h0 tg0 0 0 0 0 65536 0,
    .settings 0 h0 tg0 0 0 0 0 0 65536,
    .wbIso 0 hBad tg0 0 0 0,
    .wbIso 0 h0 tgBad 0 0 0,
    .wbIso 0 h0 tg0 65536 0 0,
    .wbIso 0 h0 tg0 0 128 0,
    .wbIso 0 h0 tg0 0 0 65536,
    .lutSelect 0 hBad tg0 0 [0, 0, 0, 0, 0, 0],
    .lutSelect 0 h0 tgBad 0 [0, 0, 0, 0, 0, 0],
    .lutSelect 0 h0 tg0 256 [0, 0, 0, 0, 0, 0],
    .lutSelect 0 h0 tg0 0 [0],
    .lutSelect 0 h0 tg0 0 (256 :: List.replicate 5 0),
    .profileSelect 0 hBad tg0 0,
    .profileSelect 0 h0 tgBad 0,
    .profileSelect 0 h0 tg0 256,
    .tnrStrength 0 hBad tg0 0,
    .tnrStrength 0 h0 tgBad 0,
    .tnrStrength 0 h0 tg0 256,
    .lutLoad 0 hBad tg0 [⟨0, 0, List.replicate 64 0⟩],
    .lutLoad 0 h0 tgBad [⟨0, 0, List.replicate 64 0⟩],
    .lutLoad 0 h0 tg0 [],
    .lutLoad 0 h0 tg0 (List.replicate 17 ⟨0, 0, List.replicate 64 0⟩),
    .lutLoad 0 h0 tg0 [⟨256, 0, List.replicate 64 0⟩],
    .lutLoad 0 h0 tg0 [⟨0, 256, List.replicate 64 0⟩],
    .lutLoad 0 h0 tg0 [⟨0, 0, List.replicate 63 0⟩],
    .tableReload 0 hBad tg0 0,
    .tableReload 0 h0 tgBad 0] : List Instr).all (fun i => !i.wf) = true := by decide +kernel

theorem test_ill_formed_2 : ([
    .tableReload 0 h0 tg0 256,
    .l1Draw 0 hBad 0 false false 0 0 0 0 [],
    .l1Draw 0 h0 256 false false 0 0 0 0 [],
    .l1Draw 0 h0 0 false false 65536 0 0 0 [],
    .l1Draw 0 h0 0 false false 0 65536 0 0 [],
    .l1Draw 0 h0 0 false false 0 0 65536 0 [],
    .l1Draw 0 h0 0 false false 0 0 0 65536 [],
    .l1Draw 0 h0 0 false false 0 0 0 0 [0],
    .l1Draw 0 h0 0 false false 0 0 1 1 [65536],
    .l2Text 0 hBad 0 0 false false false 0 0 0 0 0 [],
    .l2Text 0 h0 256 0 false false false 0 0 0 0 0 [],
    .l2Text 0 h0 0 256 false false false 0 0 0 0 0 [],
    .l2Text 0 h0 0 0 false false false 256 0 0 0 0 [],
    .l2Text 0 h0 0 0 false false false 0 65536 0 0 0 [],
    .l2Text 0 h0 0 0 false false false 0 0 65536 0 0 [],
    .l2Text 0 h0 0 0 false false false 0 0 0 4294967296 0 [],
    .l2Text 0 h0 0 0 false false false 0 0 0 0 4294967296 [],
    .l2Text 0 h0 0 0 false false false 0 0 0 0 0 (List.replicate 256 0),
    .l2Text 0 h0 0 0 false false false 0 0 0 0 0 [256],
    .l3Mark 0 hBad 0 false false false false 0 0 0 0 0 0 0,
    .l3Mark 0 h0 256 false false false false 0 0 0 0 0 0 0,
    .l3Mark 0 h0 0 false false false false 65536 0 0 0 0 0 0,
    .l3Mark 0 h0 0 false false false false 0 65536 0 0 0 0 0,
    .l3Mark 0 h0 0 false false false false 0 0 65536 0 0 0 0,
    .l3Mark 0 h0 0 false false false false 0 0 0 65536 0 0 0,
    .l3Mark 0 h0 0 false false false false 0 0 0 0 65536 0 0,
    .l3Mark 0 h0 0 false false false false 0 0 0 0 0 256 0,
    .l3Mark 0 h0 0 false false false false 0 0 0 0 0 0 4294967296,
    .recordStart 0 hBad ⟨tg0, []⟩,
    .recordStart 0 h0 ⟨tgBad, []⟩,
    .recordStop 0 hBad tg0,
    .recordStop 0 h0 tgBad,
    .setReel 0 hBad 0,
    .setReel 0 h0 65536,
    .play 0 hBad ⟨(List.replicate 16 0), []⟩ 0 false 0,
    .play 0 h0 ⟨[], []⟩ 0 false 0,
    .play 0 h0 ⟨(256 :: List.replicate 15 0), []⟩ 0 false 0,
    .play 0 h0 ⟨(List.replicate 16 0), []⟩ 4294967296 false 0,
    .play 0 h0 ⟨(List.replicate 16 0), []⟩ 0 false 256,
    .playStop 0 hBad,
    .mediaFormat 0 hBad 0,
    .mediaFormat 0 h0 256,
    .mediaQualify 0 hBad 0,
    .mediaQualify 0 h0 256,
    .status 0 hBad 0,
    .status 0 h0 65536,
    .counters 0 hBad 0,
    .counters 0 h0 65536,
    .logRead 0 hBad 0 0,
    .logRead 0 h0 18446744073709551616 0] : List Instr).all (fun i => !i.wf) = true := by decide +kernel

theorem test_ill_formed_3 : ([
    .logRead 0 h0 0 65536,
    .statsRead 0 hBad 0,
    .statsRead 0 h0 256,
    .defectRead 0 hBad 0 0 0,
    .defectRead 0 h0 4294967296 0 0,
    .defectRead 0 h0 0 65536 0,
    .defectRead 0 h0 0 0 256,
    .outputQuery 0 hBad 0,
    .outputQuery 0 h0 256,
    .streamQuery 0 hBad 0 0,
    .streamQuery 0 h0 256 0,
    .streamQuery 0 h0 0 256,
    .xferBegin 0 hBad 0 0,
    .xferBegin 0 h0 4294967296 0,
    .xferBegin 0 h0 0 4294967296,
    .xferData 0 hBad 0 [],
    .xferData 0 h0 4294967296 [],
    .xferEnd 0 hBad 0 0,
    .xferEnd 0 h0 4294967296 0,
    .xferEnd 0 h0 0 4294967296,
    .xferAbort 0 hBad,
    .imageCommit 0 hBad 0,
    .imageCommit 0 h0 256,
    .keyLoad 0 hBad 0 0 (List.replicate 32 0) (List.replicate 4 0) (List.replicate 4 0),
    .keyLoad 0 h0 256 0 (List.replicate 32 0) (List.replicate 4 0) (List.replicate 4 0),
    .keyLoad 0 h0 0 4294967296 (List.replicate 32 0) (List.replicate 4 0) (List.replicate 4 0),
    .keyLoad 0 h0 0 0 (List.replicate 31 0) (List.replicate 4 0) (List.replicate 4 0),
    .keyLoad 0 h0 0 0 (List.replicate 32 0) (List.replicate 3 0) (List.replicate 4 0),
    .keyLoad 0 h0 0 0 (List.replicate 32 0) (List.replicate 4 0) (List.replicate 3 0),
    .keyErase 0 hBad 0,
    .keyErase 0 h0 256,
    .lampOpen 0 hBad,
    .timeStep 0 hBad 0,
    .timeStep 0 h0 9223372036854775808,
    .calCommit 0 hBad 0 false 0,
    .calCommit 0 h0 256 false 0,
    .calCommit 0 h0 0 false 256,
    .factoryReset 0 hBad 0,
    .factoryReset 0 h0 4294967296,
    .gatedCancel 0 hBad,
    .timeSet 0 hBad 0 0 0,
    .timeSet 0 h0 18446744073709551616 0 0,
    .timeSet 0 h0 0 4294967296 0,
    .timeSet 0 h0 0 0 4294967296,
    .domainSelect 0 hBad 0,
    .domainSelect 0 h0 256,
    .arrayRecordStart 0 hBad 0 false 0 ⟨0, []⟩ 0,
    .arrayRecordStart 0 h0 4294967296 false 0 ⟨0, []⟩ 0,
    .arrayRecordStart 0 h0 0 false 65536 ⟨0, []⟩ 0,
    .arrayRecordStart 0 h0 0 false 0 ⟨65536, []⟩ 0,
    .arrayRecordStart 0 h0 0 false 0 ⟨0, []⟩ 65536,
    .arrayRecordStop 0 hBad 0 false 0] : List Instr).all (fun i => !i.wf) = true := by decide +kernel

theorem test_ill_formed_4 : ([
    .arrayRecordStop 0 h0 4294967296 false 0,
    .arrayRecordStop 0 h0 0 false 65536,
    .ctrlBadMessage 0 (.eth 4294967296 0) .crc 0 0,
    .ctrlBadMessage 0 (.eth 0 65536) .crc 0 0,
    .ctrlBadMessage 0 .uart .crc 65536 0,
    .ctrlBadMessage 0 .uart .crc 0 4294967296,
    .ctrlDenied 0 4294967296 0,
    .ctrlDenied 0 0 65536,
    .fragmentTimeout 0 65536,
    .subscriptionLapse 0 4294967296 0,
    .subscriptionLapse 0 0 65536,
    .hyernAlign 0 0 [256] false [] 0 0,
    .hyernAlign 0 0 (List.replicate 17 0) false [] 0 0,
    .phaseInStrobe 0 8,
    .auxFrameEnd 0 [⟨⟨false, false, 16777216⟩, ⟨false, false, 0⟩⟩],
    .auxFrameEnd 0 [⟨⟨false, false, 0⟩, ⟨false, false, 16777216⟩⟩],
    .tableLoadDone 0 [] [⟨6, []⟩],
    .tableLoadDone 0 [] [⟨1, []⟩],
    .tableLoadDone 0 [⟨2, []⟩] [],
    .lutLoadDone 0 [⟨16, []⟩],
    .mediaHealthPoll 0 0 256,
    .nvmeSqDoorbell 0 65536 0 [],
    .nvmeSqDoorbell 0 0 65536 [],
    .nvmeSqDoorbell 0 0 0 [65536],
    .nvmeCqDoorbell 0 65536 0,
    .nvmeCqDoorbell 0 0 65536,
    .epControllerEnable 0 4096 0,
    .epControllerEnable 0 0 4096,
    .nvmeIdentify 0 65536 0 0,
    .nvmeIdentify 0 0 256 0,
    .nvmeIdentify 0 0 0 4294967296,
    .nvmeCreateIoSq 0 65536 0 0 0 false,
    .nvmeCreateIoSq 0 0 65536 0 0 false,
    .nvmeCreateIoSq 0 0 0 0 65536 false,
    .nvmeCreateIoSq 0 0 0 65537 0 false,
    .nvmeCreateIoCq 0 65536 0 0 0 ⟨false, false⟩,
    .nvmeCreateIoCq 0 0 65536 0 0 ⟨false, false⟩,
    .nvmeCreateIoCq 0 0 0 0 65536 ⟨false, false⟩,
    .nvmeCreateIoCq 0 0 0 65537 0 ⟨false, false⟩,
    .nvmeDeleteIoSq 0 65536 0,
    .nvmeDeleteIoSq 0 0 65536,
    .nvmeDeleteIoCq 0 65536 0,
    .nvmeDeleteIoCq 0 0 65536,
    .nvmeGetFeatures 0 65536 0 0,
    .nvmeGetFeatures 0 0 256 0,
    .nvmeGetFeatures 0 0 0 256,
    .nvmeSetFeatures 0 65536 0 0 0,
    .nvmeSetFeatures 0 0 256 0 0,
    .nvmeSetFeatures 0 0 0 0 4294967296,
    .nvmeGetLogPage 0 65536 0 0 false 0,
    .nvmeGetLogPage 0 0 256 0 false 0,
    .nvmeGetLogPage 0 0 0 4294967296 false 0] : List Instr).all (fun i => !i.wf) = true := by decide +kernel

theorem test_ill_formed_5 : ([
    .nvmeGetLogPage 0 0 0 0 false 4294967296,
    .nvmeAbort 0 65536 0 0,
    .nvmeAbort 0 0 65536 0,
    .nvmeAbort 0 0 0 65536,
    .nvmeAsyncEventRequest 0 65536,
    .nvmeControl 0 65536 0 0,
    .nvmeControl 0 0 4294967296 0,
    .nvmeControl 0 0 0 4294967296,
    .nvmeRead 0 65536 0 0 0 0 [] 0,
    .nvmeRead 0 0 65536 0 0 0 [] 0,
    .nvmeRead 0 0 0 4294967296 0 0 [] 0,
    .nvmeRead 0 0 0 0 18446744073709551616 0 [] 0,
    .nvmeRead 0 0 0 0 0 65537 [] 0,
    .nvmeWrite 0 65536 0 0 0 0,
    .nvmeWrite 0 0 65536 0 0 0,
    .nvmeWrite 0 0 0 4294967296 0 0,
    .nvmeWrite 0 0 0 0 18446744073709551616 0,
    .nvmeWrite 0 0 0 0 0 65537,
    .nvmeFlush 0 65536 0 0,
    .nvmeFlush 0 0 65536 0,
    .nvmeFlush 0 0 0 4294967296,
    .nvmeWriteZeroes 0 65536 0 0 0 0,
    .nvmeWriteZeroes 0 0 65536 0 0 0,
    .nvmeWriteZeroes 0 0 0 4294967296 0 0,
    .nvmeWriteZeroes 0 0 0 0 18446744073709551616 0,
    .nvmeWriteZeroes 0 0 0 0 0 65537,
    .nvmeDatasetManagement 0 65536 0 0 [] false,
    .nvmeDatasetManagement 0 0 65536 0 [] false,
    .nvmeDatasetManagement 0 0 0 4294967296 [] false,
    .nvmeDatasetManagement 0 0 0 0 (List.replicate 257 (0, 0)) false,
    .nvmeInvalidOpcode 0 65536 0 0,
    .nvmeInvalidOpcode 0 0 65536 0,
    .nvmeInvalidOpcode 0 0 0 256,
    .epPieceCommit 0 65536 0 0 [],
    .epPieceCommit 0 0 65536 0 [],
    .dpHpd 0 0 false [0] 0 0 false,
    .dpHpd 0 0 false [] 5 0 false,
    .nvRxPacket 0 0 0 ⟨4294967296, 0⟩,
    .nvRxPacket 0 0 0 ⟨0, 65536⟩,
    .nvRxLoss 0 0 65536,
    .netArpIcmp 0 0 4294967296 .arp,
    .netArpIcmp 0 8 0 (.fragment 65536 false),
    .netArpIcmp 0 9 0 .arp,
    .aesCsBlock 0 0 [] false (List.replicate 8 false),
    .aesCsBlock 0 0 (List.replicate 184 false) false [],
    .audRxPacket 0 0 0 ⟨4294967296, 0⟩ 0 [],
    .audRxPacket 0 0 0 ⟨0, 65536⟩ 0 [],
    .audRxPacket 0 0 0 ⟨0, 0⟩ 4294967296 [],
    .ptpSync 0 0 0 18446744073709551616 0 false 0 0,
    .ptpSync 0 0 0 0 65536 false 0 0,
    .ptpFollowUp 0 ⟨0, 0⟩ 18446744073709551616 0 0 0,
    .ptpFollowUp 0 ⟨0, 0⟩ 0 65536 0 0,
    .ptpDelayResp 0 ⟨0, 0⟩ 18446744073709551616 0 0 0,
    .ptpDelayResp 0 ⟨0, 0⟩ 0 65536 0 0] : List Instr).all (fun i => !i.wf) = true := by decide +kernel

theorem test_ill_formed_6 : ([
    .ptpDelayReqSend 0 ⟨0, 0⟩ 65536,
    .beaconPeerTimeout 0 4096,
    .dramWrite 0 0 0 0 [],
    .siphonCopyChunk 0 [64],
    .posSsiRead 0 0 0 18446744073709551616 0 false,
    .posSsiRead 0 0 0 0 18446744073709551616 false,
    .deflateBlock 0 0 0 false [] [] [0] false false,
    .loadSecond 0 [] [0, 0, 0, 0] (List.replicate 8 0),
    .loadSecond 0 [0, 0, 0, 0] [] (List.replicate 8 0),
    .loadSecond 0 [0, 0, 0, 0] [0, 0, 0, 0] [],
    .loadSecond 0 [1001, 0, 0, 0] [0, 0, 0, 0] (List.replicate 8 0),
    .loadSecond 0 [0, 0, 0, 0] [1001, 0, 0, 0] (List.replicate 8 0),
    .loadSecond 0 [0, 0, 0, 0] [0, 0, 0, 0] (65536 :: List.replicate 7 0),
    .dieLinkError 0 4 0,
    .restartVerifyDone 0 256 0,
    .restartVerifyDone 0 0 256,
    .restartUnitStop 0 65536,
    .restartDone 0 65536,
    .restartFailed 0 65536,
    .holdupInsert 0 18446744073709551616 0 false,
    .laneUp 0 0 16 ⟨0, 0⟩,
    .laneUp 0 0 0 ⟨17, 0⟩] : List Instr).all (fun i => !i.wf) = true := by decide +kernel

theorem test_ill_formed_xferData (l : List Byte) (h : 65477 ≤ l.length) : (Instr.xferData 0 h0 0 l).wf = false := by
  simp [Instr.wf, u32, MsgHdr.wf, Client.wf, h0, Nat.not_le.2 h]

theorem test_ill_formed_hyernFs (l : List Byte) (h : 65536 ≤ l.length) : (Instr.hyernFs 0 0 0 l 0).wf = false := by
  simp [Instr.wf, pay, Nat.not_lt.2 h]

theorem test_ill_formed_hyernPix (l : List Byte) (h : 65536 ≤ l.length) : (Instr.hyernPix 0 0 0 l 0).wf = false := by
  simp [Instr.wf, pay, Nat.not_lt.2 h]

theorem test_ill_formed_hyernEmb (l : List Byte) (h : 65536 ≤ l.length) : (Instr.hyernEmb 0 0 0 l 0).wf = false := by
  simp [Instr.wf, pay, Nat.not_lt.2 h]

theorem test_ill_formed_hyernFe (l : List Byte) (h : 65536 ≤ l.length) : (Instr.hyernFe 0 0 0 l 0).wf = false := by
  simp [Instr.wf, pay, Nat.not_lt.2 h]

theorem test_ill_formed_beaconReceive (l : List Byte) (h : 65485 ≤ l.length) : (Instr.beaconReceive 0 l).wf = false := by
  simp [Instr.wf, Nat.not_le.2 h]

/-! Small checks: expected values are the manual's own worked examples unless a comment says otherwise. -/

/-- The check value of CRC-32C (Castagnoli): of the nine characters 1 to 9 it is 0xE3069283, by the CRC's definition. -/
theorem test_crc32c : crc32c [0x31, 0x32, 0x33, 0x34, 0x35, 0x36, 0x37, 0x38, 0x39] = 0xE3069283 := by decide +kernel

/-- Chapter 4: two photosites of 12 bits, 0x123 and 0x456, are the bytes 0x23, 0x61, 0x45. -/
theorem test_packing : (packGroups 2 12 [0x123, 0x456]).take 3 = [0x23, 0x61, 0x45] := by decide +kernel

/-- Chapter 6: the two photosites of the example of R135 merge to 35,057 and 58,944. -/
theorem test_merge :
    let c : Cfg := [sw 0x10 8 [(0, [(27, 26, 1), (25, 25, 1)])], sw 0x20 8 [(6, [(31, 19, 4096)]), (7, [(31, 16, 32768), (15, 0, 49152)])]]
    c.merge 0 9000 812 65536 65536 = 35057 ∧ c.merge 0 15000 1177 65536 65536 = 58944 := by decide +kernel

/-- Chapter 7: a branch from 16,384 to 3,840 columns averages blocks of 4. -/
theorem test_block_factor : blockFactor 16384 3840 = 4 ∧ blockFactor 8640 2160 = 4 := by decide +kernel

/-- Chapter 7: v = 26,164 leaves at 10 bits as 414 in narrow and 408 in full range, and 1.0 as 940. -/
theorem test_quantise :
    (quantise 10 false false 26164).1 = 414 ∧ (quantise 10 true false 26164).1 = 408 ∧ (quantise 10 false false 65535).1 = 940 := by
  decide +kernel

/-- Chapter 8: the row 100, 104, 98, 110 lifts to 103, 102, 5, 12, and back. -/
theorem test_lift : lift [100, 104, 98, 110] = [103, 102, 5, 12] ∧ unlift [103, 102, 5, 12] = [100, 104, 98, 110] := by decide +kernel

/-- Chapter 8: in a fresh class q = 5 is written 11 0 10 with k = 2, and then q = -3 is written 0 101 with k = 3. -/
theorem test_rice :
    let s := (Coder.start []).put (zz 5) 1
    s.out.reverse = [true, true, false, true, false] ∧ s.a.getD 1 0 = 14 ∧ s.n.getD 1 0 = 2 ∧
      (s.put (zz (-3)) 1).out.reverse.drop 5 = [false, true, false, true] := by decide +kernel

/-- Chapter 14: at 24,000/1,001 frames/s the boundary of frame 40,759,240,759 is stamped 1,699,999,999 s, 989,958,333 ns and
FRAC 21,845. -/
theorem test_boundary :
    let b := Cfg.boundary [sw 0x80 6 [(1, [(31, 28, 1)])]] 40759240759
    dtbSec b = 1699999999 ∧ dtbNs b = 989958333 ∧ dtbFrac b = 21845 := by decide +kernel

/-- Chapter 16: u = 85,217 lies in bank 5, physical row 760; layer 1 position 8 is physical rank 17. -/
theorem test_dram_place : lineBank 85217 = 5 ∧ rawRow 85217 = 5 * 98304 + 760 ∧ homeRank 1 8 = 17 := by decide +kernel

/-- Chapter 17: the reads 1,000,000 and 1,000,452 around the midpoint give 1,000,140, and the speed 20,458,567 counts/s. -/
theorem test_ssi :
    ssiInterp 25 (ns 1000000) (ns 993000) (ns 1015600) 1000000 1000452 = 1000140 ∧
      ssiSpeed 25 3 [(ns 2000000, 1000452), (ns 1005600, 980108), (ns 983000, 979646)] = 20458567 := by decide +kernel

/-- Chapter 17: Gray 110 is binary 100. -/
theorem test_gray : grayToBin 3 6 = 4 := by decide +kernel

/-- SHA-512 of the three characters abc, as FIPS 180 gives it. -/
theorem test_sha512 : unle (sha512 [0x61, 0x62, 0x63]) =
    0x9FA44CA54FC99A2A0EE83C6423444D45BDEBFEA3233CBA36A8C14F272A9992219AD3554BE6EE9E0AA27EA9894EFAE612314120AE497341CCBA7A6193A135AFDD := by
  decide +kernel

/-- The first test of RFC 8032, 7.1: its signature of the empty message stands, and not that of another message. -/
theorem test_ed25519 :
    let k := le 32 0x1A5107F7681A02AF2523A6DAF372E10E3A0764C9D3FE4BD5B70AB18201985AD7
    let g := le 64 0xB107A8E4341516524BE5B59F0F55BD26BB4F91C70391EC6AC3BA3901582B85F5501492265E073D874D9E5B81E7F87848A826E80CCE2869072AC60C3004356E5
    ed25519Ok k [] g = true ∧ ed25519Ok k [0] g = false := by
  decide +kernel

/-- The AES-256 example of FIPS 197, C.3, both ways. -/
theorem test_aes256 :
    let k := (List.range 32).map (BitVec.ofNat 8)
    let x := (List.range 16).map fun i => BitVec.ofNat 8 (17 * i)
    unle (aesEnc k x) = 0x8960494B9049FCEABF456751CAB7A28E ∧ aesDec k (aesEnc k x) = x := by
  decide +kernel

/-- No row of the operation table gives bits (log 1), an empty queue idles (log 2), and a step takes the front of the queue. -/
theorem test_no_table_word : decodeTableWord 32 5 = none ∧ State.reset.withFetchWord 32 5 = State.reset := by decide +kernel
theorem test_idle : step State.reset = .next State.reset := rfl
theorem test_step_takes_the_front (c : Instr) (r : List Instr) :
    step { State.reset with pending := c :: r } = exec c { State.reset with pending := r } := rfl

/-- A word past the end of a rank does not exist (R399; log 13). -/
theorem test_dram_past_the_end : exec (.dramScrub 0 0 rankWords 0) State.reset = .fault .dramAddress := rfl

/-! The hypotheses of every statement that has some can be met: states, operands and proofs, clause by clause. -/

/-- A running engine with some sections besides, changed by f. -/
def live (l : List Sect) (f : Engine → Engine) : State :=
  { State.reset with
    eng := f { Engine.reset with cfg := cfg0 ++ l, sys := { Sys.reset with phase := .running } } }

/-- A request of the UART. -/
def hU : MsgHdr := ⟨.uart, 7⟩

/-- A SOP block with its HCHK, from PTYPE, PACK, CONV, LINE, ARG and COUNT (Table 4.3). -/
def sopOf (ptype pack conv line arg count : Nat) : BitVec 56 :=
  let n := ptype * 2 ^ 52 + pack * 2 ^ 50 + conv * 2 ^ 49 + line * 2 ^ 34 + arg * 2 ^ 20 + count * 2 ^ 8
  BitVec.ofNat 56 (n + crc8 ((le 7 n).drop 1).reverse)

/-- The trailer of a packet (R72). -/
def crcOf (sop : BitVec 56) (payload : List Byte) : BitVec 32 := BitVec.ofNat 32 (crc32c (le 7 sop.toNat ++ payload))

/-- SENSOR0 with WIDTH 8 and LINES 1, 12 bits, and one valid mode. -/
def sen0 : Sect :=
  sw 0x10 127 [(0, [(23, 21, 4), (20, 13, 100), (12, 9, 3)]), (1, [(29, 15, 8), (14, 0, 1)]), (3, [(31, 24, 5), (15, 8, 10), (7, 0, 50)]),
    (6, [(31, 31, 1), (29, 14, 10000)]), (8, [(23, 0, 1000)]), (62, [(6, 0, 1)])]

/-- The same with a write entry for EXP and a write window. -/
def sen0w : Sect := { sen0 with words := (sen0.words.set 31 (mkWord [(31, 31, 1), (30, 29, 0), (23, 18, 16)])).set 5 (mkWord [(11, 0, 50)]) }

/-- COLOUR with a white-balance table of two entries. -/
def colour0 : Sect :=
  sw 0x30 17 [(0, [(31, 16, 2856), (15, 0, 6504)]), (1, [(31, 16, 800), (15, 0, 800)]), (2, [(5, 0, 2)]), (13, [(31, 16, 3200)]),
    (14, [(31, 16, 15360), (15, 0, 15360)]), (15, [(31, 16, 5600)]), (16, [(31, 16, 15360), (15, 0, 15360)])]

/-- An empty statistics record. -/
def stat0 : StatsRec := ⟨0, 0, 0, 0, 0, 0, 0, 0, 0, [], [], 0, [], [], [], [], []⟩

/-- A record of the right size whose descriptor is 0 is one (R176). -/
theorem lutRecOk_of (ws : List Word) (hl : ws.length = 411942) (hd : ws.getD 1 0 = 0) : lutRecOk ws = true := by
  have h0 : wfield (0 : Word) 31 30 = 0 := by decide
  have h1 : wfield (0 : Word) 29 27 = 0 := by decide
  have h2 : wfield (0 : Word) 26 0 = 0 := by decide
  simp only [lutRecOk, lutDataOf, LutData.fmt, LutData.encoding, hl, hd, h0, h1, h2, if_true]
  decide

/-- The file of a LUT record whose bytes before the CRC are zero (Table 7.7). -/
def lutBlank : List Byte := List.replicate 1647762 0
def lutFile0 : List Byte := lutBlank ++ le 4 (crc32c lutBlank)

theorem bytesWords_length (n : Nat) : ∀ bs : List Byte, (bytesWords n bs).length = n := by
  induction n with
  | zero => intro bs; rfl
  | succ n ih => intro bs; rw [bytesWords, List.length_cons, ih]

theorem lutBlank_length : lutBlank.length = 1647762 := List.length_replicate
theorem lutFile0_length : lutFile0.length = 1647766 := by rw [lutFile0, List.length_append, lutBlank_length, le_length]
theorem lutFile0_crc : lutCrcOk lutFile0 = true := by
  have d : lutFile0.drop 1647762 = le 4 (crc32c lutBlank) := by rw [lutFile0, List.drop_left' lutBlank_length]
  have t : lutFile0.take 1647762 = lutBlank := by rw [lutFile0, List.take_left' lutBlank_length]
  have u : (le 4 (crc32c lutBlank)).take 4 = le 4 (crc32c lutBlank) := List.take_of_length_le (by rw [le_length])
  rw [lutCrcOk, d, t, u, unle_crc]
  exact decide_eq_true rfl
theorem lutFile0_rec : lutRecOk (bytesWords 411942 (lutFile0 ++ [0, 0])) = true := by
  refine lutRecOk_of _ (bytesWords_length _ _) ?_
  have e : lutFile0 ++ [0, 0] = lutBlank ++ (le 4 (crc32c lutBlank) ++ [0, 0]) := by rw [lutFile0, List.append_assoc]
  have h : (bytesWords 411942 (lutFile0 ++ [0, 0])).getD 1 0 = word (unle (((lutFile0 ++ [0, 0]).drop 4).take 4)) := rfl
  have z : (lutBlank.drop 4).take 4 = [0, 0, 0, 0] := by
    rw [lutBlank, List.drop_replicate, List.take_replicate, show min 4 (1647762 - 4) = 4 from rfl]; rfl
  rw [h, e, List.drop_append_of_le_length (by rw [lutBlank_length]; omega),
    List.take_append_of_le_length (by rw [List.length_drop, lutBlank_length]; omega), z]
  decide
theorem lutFile0_reads (e : Engine) (f : Flash) : ∃ d, e.lutRead f [⟨15, lutFile0⟩] 1 15 = .ok d := by
  refine ⟨lutDataOf (bytesWords 411942 (lutFile0 ++ [0, 0])), ?_⟩
  simp only [Engine.lutRead, List.find?, decide_true, lutFile0_length, lutFile0_crc, lutFile0_rec, Bool.and_self, if_true]

/-- Port 0 up, with a frame open where fr says so. -/
def up0 (fr : Option OpenFrame) (e : Engine) : Engine :=
  e.modPort 0 fun q => { q with link := .up, awaitFs := false, firstFs := false, frame := fr }

/-- A frame with no line open. -/
def fr0 : OpenFrame := ⟨none, some 5, 0, none, 0, [], 0, false, 0, []⟩

/-- SENSOR0 with two lines, a Flowstone picture of 16 photosites whose tile waits, and such a tile written. -/
def sen2 : Sect := { sen0 with words := sen0.words.set 1 (mkWord [(29, 15, 8), (14, 0, 2)]) }
def fsPic0 : FsrPic := ⟨7, 7, 0, 0, 0, [[[1, 2, 3, 4, 5, 6, 7, 8], [9, 8, 7, 6, 5, 4, 3, 2]]], [], [], 0, 0, (0, 0), 0⟩
def fsTile0 : FsrTile := ⟨0, 0, 2, 0, 0, [1, 2, 3], 3⟩

/-- First fields of a picture header: MAGIC, VERSION, HDR_PAGES 2 and CFN 9. -/
def picPre : List Byte := le 4 0x50525346 ++ le 2 1 ++ le 2 2 ++ le 8 0 ++ le 8 9 ++ List.replicate 36 0

theorem picPre_take (k n : Nat) (r : List Byte) (h : k + n ≤ 60) : ((picPre ++ r).drop k).take n = (picPre.drop k).take n := by
  have hl : picPre.length = 60 := by decide
  rw [List.drop_append_of_le_length (by omega), List.take_append_of_le_length (by simp; omega)]

def picFile (z b : List Byte) : List Byte := picPre ++ (z ++ (le 4 (crc32c (picPre ++ z)) ++ (b ++ le 4 (crc32c b))))

theorem decodePicture_blank (z b : List Byte) (hz : z.length = 4032) (hb : b.length = 4092) :
    decodePicture (picFile z b) [] = some ⟨9, 0, 0, 0, 0, [], 0, 0, []⟩ := by
  have hl : picPre.length = 60 := by decide
  have f (k n : Nat) (h : k + n ≤ 60) : unle (((picFile z b).drop k).take n) = unle ((picPre.drop k).take n) := by
    rw [picFile, picPre_take k n _ h]
  have e : picFile z b = (picPre ++ z) ++ (le 4 (crc32c (picPre ++ z)) ++ (b ++ le 4 (crc32c b))) := by simp [picFile]
  have t : (picFile z b).take 4092 = picPre ++ z := by rw [e, List.take_left' (by simp [hl, hz])]
  have d : (picFile z b).drop 4092 = le 4 (crc32c (picPre ++ z)) ++ (b ++ le 4 (crc32c b)) := by
    rw [e, List.drop_left' (by simp [hl, hz])]
  have d2 : (picFile z b).drop 4096 = b ++ le 4 (crc32c b) := by
    rw [show 4096 = 4092 + 4 from rfl, ← List.drop_drop, d, List.drop_left' (le_length _ _)]
  have d3 : (picFile z b).drop 8188 = le 4 (crc32c b) := by
    rw [show 8188 = 4096 + 4092 from rfl, ← List.drop_drop, d2, List.drop_left' hb]
  have t2 : (picFile z b |>.drop 4096).take 4092 = b := by rw [d2, List.take_left' hb]
  have h1 : unle (((picFile z b).drop 4092).take 4) = crc32c (picPre ++ z) := by
    rw [d, List.take_left' (le_length _ _), unle_crc]
  have h2 : unle (((picFile z b).drop 8188).take 4) = crc32c b := by
    rw [d3, List.take_of_length_le (by rw [le_length]), unle_crc]
  have k0 := f 0 4 (by omega)
  have k4 := f 4 2 (by omega)
  have k6 := f 6 2 (by omega)
  have k16 := f 16 4 (by omega)
  have k39 := f 39 1 (by omega)
  have k40 := f 40 1 (by omega)
  have k41 := f 41 1 (by omega)
  have k44 := f 44 2 (by omega)
  have k46 := f 46 2 (by omega)
  have k50 := f 50 1 (by omega)
  have k52 := f 52 2 (by omega)
  have k54 := f 54 2 (by omega)
  have k56 := f 56 2 (by omega)
  rw [show unle ((picPre.drop 0).take 4) = 0x50525346 by decide] at k0
  rw [show unle ((picPre.drop 4).take 2) = 1 by decide] at k4
  rw [show unle ((picPre.drop 6).take 2) = 2 by decide] at k6
  rw [show unle ((picPre.drop 16).take 4) = 9 by decide] at k16
  rw [show unle ((picPre.drop 39).take 1) = 0 by decide] at k39
  rw [show unle ((picPre.drop 40).take 1) = 0 by decide] at k40
  rw [show unle ((picPre.drop 41).take 1) = 0 by decide] at k41
  rw [show unle ((picPre.drop 44).take 2) = 0 by decide] at k44
  rw [show unle ((picPre.drop 46).take 2) = 0 by decide] at k46
  rw [show unle ((picPre.drop 50).take 1) = 0 by decide] at k50
  rw [show unle ((picPre.drop 52).take 2) = 0 by decide] at k52
  rw [show unle ((picPre.drop 54).take 2) = 0 by decide] at k54
  rw [show unle ((picPre.drop 56).take 2) = 0 by decide] at k56
  unfold decodePicture
  simp only [k0, k4, k6, k16, k39, k40, k41, k44, k46, k50, k52, k54, k56, h1, h2, t, t2, Nat.reduceSub, Nat.reduceMul]
  simp

/-- The pages of a recorded picture without tiles. -/
def fsFile0 : List Byte := picFile (List.replicate 4032 0) (List.replicate 4092 0)

theorem fsFile0_decodes : decodePicture fsFile0 [] = some ⟨9, 0, 0, 0, 0, [], 0, 0, []⟩ :=
  decodePicture_blank _ _ (List.length_replicate ..) (List.length_replicate ..)

/-- A playback of port 0's clip. -/
def play0 : Play := ⟨[], 0, false, 0, [0], 0, none, [], none⟩

/-- An HEVC picture of one row in a branch of 128 by 64 pixels. -/
def outPic0 : OutPic := ⟨7, 0, 0, [], [], []⟩
def hvPic0 : HevcPic := ⟨some 7, false, false, none, false, false, true, outPic0, 0, 3, [], false, 0, 0, 0, 0, 0, none, []⟩
def hvRow0 : HevcRow := ⟨0, 500, false, false, 0, 10, []⟩

/-- BRANCH0 with OUT_W 128 and OUT_H 64. -/
def br0 : Sect := sw 0x31 12 [(3, [(31, 16, 128), (15, 0, 64)])]

/-- An IDR access unit. -/
def au0 : AccessUnit := ⟨0, true, true, false, 0, [], [], [], true, 64, 64, false, 8, 64, 1, 0, 0, 0, none, none, 0, [], [], []⟩

/-- The n low bits of a number, least significant first. -/
def bitsOf (n v : Nat) : List Bool := (List.range n).map v.testBit

/-- A sidecar with one byte to come, which ends it. -/
def side0 : SideFile := ⟨1, 0, [0], [1], true, [], [], false⟩

/-- A drive, a volume on it, and a media port that holds it. -/
def drive0 : DriveInfo := ⟨true, 4, 4, 0x10400, 8, 1024, 0, false, 12, 0, false, 1000000, [], [], []⟩
def volInfo0 : VolInfo := ⟨1048576, 4000000000, 0x0100, true, 22, 4194304, []⟩
def vol0 : MountInfo := ⟨true, some volInfo0, none, none, 100, [], [⟨65, 1, 2, 3⟩]⟩
def withDrive (m : Nat) (st : DriveState) (f : MediaPort → MediaPort) (e : Engine) : Engine :=
  e.modMedia m fun q => f { q with state := st, drive := some drive0 }

/-- A take on a drive, a chunk of it, and a command that writes the chunk. -/
def take0 (p : Nat) : Take := ⟨1, 1, 1, 0, none, [⟨0, p, false⟩], [], ⟨1, 0, [], [], false, 0⟩, [], false, 0, []⟩
def clipRec0 : ClipRec := ⟨0, [], 0, none, [], []⟩
def chunk0 (p : Nat) : Chunk := ⟨5, 1, 0, p, 0, 1, 0, 0, 0, 0, 0, 1, 1, 0, 0, [], 0, 0, true, false, false⟩
def cmd0 : MediaCmd := ⟨9, .header 5, 1, false, false, []⟩

/-- Queue pair q, an endpoint with queue pairs 0 to 2 on, and a command fetched from queue q. -/
def epSq0 (q : Nat) : EpSq := ⟨q, 16, q, 3, 3⟩
def epCq0 (q : Nat) : EpCq := ⟨q, 16, 0, false, 0, 0, []⟩
def epOn (f : Ep → Ep) (e : Engine) : Engine :=
  e.modEp fun p => f { p with link := .up, ccEn := true, ready := true, sqs := [epSq0 0, epSq0 1, epSq0 2], cqs := [epCq0 0, epCq0 1, epCq0 2] }
def epFx (q cid : Nat) : EpFetched := ⟨q, cid, ⟨0, 0x0240, 0⟩, [.readWrite, .readOnly, .notReady, .readWrite]⟩
def epCmd0 (ns : Nat) : EpCmd := ⟨1, 7, ⟨0, 0x0260, 0⟩, .write, ns, [(4096, 2)], true, [⟨4096, 2, none, false⟩], false, false⟩

/-- ENDPOINT with NS5 and CONTROL. -/
def ept0 : Sect := sw 0x52 4 [(0, [(31, 0, 0)]), (3, [(31, 31, 1), (30, 30, 1)])]

/-- TIME with PTP, automatic steps and servos A and B on all ports, and CLK with four ranks. -/
def time0 : Sect := sw 0x80 6 [(0, [(31, 31, 1), (23, 23, 1), (22, 15, 1), (14, 12, 3)]), (1, [(31, 28, 2)]), (2, [(31, 31, 1), (23, 21, 7)]), (3, [(31, 31, 1), (23, 21, 7)])]
def arr0 : Sect := sw 0x81 3 [(0, [(31, 31, 1), (17, 17, 1)]), (1, [(31, 0, 5)])]
def servo (k : Nat) (f : Servo → Servo) (e : Engine) : Engine := { e with time := { e.time with servos := vmod e.time.servos k f } }
def ann0 : Announce := ⟨3, 4, 128, 6, 0x21, 0, 128, 0, 37, true, true, 0⟩
def elig (m : SrcMon) : SrcMon := { m with eligible := true }

/-- A beacon of device 9 in array 5. -/
def beacon0 : List Byte :=
  let b := le 4 0x42415851 ++ le 2 1 ++ le 2 9 ++ le 4 5 ++ List.replicate 48 0
  b ++ le 4 (crc32c b)

/-- A small configuration that breaks no rule. -/
def mini : Cfg := [⟨1,0,mkWord [(30,28,3),(27,20,90)] :: List.replicate 9 0⟩, ⟨2,0,[mkWord [(27,27,1),(26,19,10),(18,11,100),(10,7,4),(6,3,2)]]⟩,
 ⟨3,0,List.replicate 62 0 ++ [mkWord [(9,8,2),(7,6,2)]]⟩,
 ⟨4,0,[mkWord [(30,30,1),(29,22,20),(21,21,1),(20,20,1)], 0, mkWord [(31,31,1),(27,18,64),(17,8,520)], mkWord [(31,31,1),(30,30,1),(17,8,672)], mkWord [(31,31,1),(29,28,2),(27,18,584),(17,8,88)]] ++ List.replicate 24 (mkWord [(20,9,64),(7,2,48)]) ++ [4] ++ [mkWord [(31,24,1),(23,22,1)], mkWord [(15,0,32000)], mkWord [(31,24,1),(23,22,2)], mkWord [(15,0,37632)], mkWord [(31,24,10),(23,22,3)], mkWord [(15,0,1024)], mkWord [(31,24,12),(23,22,3)], mkWord [(31,16,1024),(15,0,256)]]⟩,
 ⟨5,0,[mkWord [(31,24,4)]]⟩, ⟨0x80,0,[mkWord [(30,26,4),(25,25,1),(22,15,60),(14,12,3)], mkWord [(31,28,2)], mkWord [(23,21,1),(18,16,3)], mkWord [(23,21,1),(18,16,3)],0,0]⟩,
 ⟨0xA0,0,[mkWord [(30,30,1),(28,21,63)]]⟩, ⟨0xA1,0,[0]⟩, ⟨0xB0,0,[mkWord [(31,28,1),(27,16,100)]]⟩, ⟨0xC0,0,[mkWord [(31,31,1),(13,11,4)],0,mkWord [(31,26,24)],0,0,0,0]⟩]

theorem mini_ok : mini.broken = none := by decide +kernel

/-- A section under its framing. -/
def sectBytes (s : Sect) : List Byte := le 2 s.id ++ [1, BitVec.ofNat 8 s.param] ++ le 4 s.words.length ++ wordBytes s.words
/-- One entry of the section table, and the table. -/
def tabRow (i : Nat) (s : Sect) : List Byte :=
  le 2 s.id ++ [0, 0] ++ le 4 (8192 + 4096 * i) ++ le 4 (8 + 4 * s.words.length) ++
    le 4 (8 + 4 * s.words.length) ++ le 4 (crc32c (sectBytes s)) ++ List.replicate 12 255 ++ (sha512 (sectBytes s)).take 32
def tabOf (c : Cfg) : List Byte := (c.mapIdx tabRow).flatten
/-- Page 1 of a slot. -/
def tabPage (c : Cfg) : List Byte := tabOf c ++ List.replicate (4096 - 64 * c.length) 255

theorem be_length (n v : Nat) : (be n v).length = n := by
  induction n generalizing v with
  | zero => rfl
  | succ n ih => simp [be, ih]

theorem sha512_length (b : List Byte) : (sha512 b).length = 64 := by simp [sha512, be_length]

theorem tabRow_length (i : Nat) (s : Sect) : (tabRow i s).length = 64 := by simp [tabRow, le_length, sha512_length]

theorem tabOf_length (c : Cfg) : (tabOf c).length = 64 * c.length := by
  have : (c.mapIdx tabRow).map List.length = List.replicate c.length 64 := by
    refine List.ext_getElem (by simp) fun i h1 h2 => ?_
    simp [tabRow_length]
  simp [tabOf, List.length_flatten, this, List.sum_replicate, Nat.mul_comm]

theorem flatten_take (L : List (List Byte)) (h : ∀ b ∈ L, b.length = 64) (i o n : Nat) (hi : i < L.length) (ho : o + n ≤ 64) :
    (L.flatten.drop (64 * i + o)).take n = (L[i].drop o).take n := by
  induction L generalizing i with
  | nil => simp at hi
  | cons b r ih =>
    have hb := h b (by simp)
    cases i with
    | zero =>
      rw [List.flatten_cons, List.drop_append_of_le_length (by omega), List.take_append_of_le_length (by simp; omega)]
      simp
    | succ i =>
      rw [List.flatten_cons, show 64 * (i + 1) + o = b.length + (64 * i + o) by omega, List.drop_append]
      rw [List.drop_eq_nil_of_le (by omega), List.nil_append, show b.length + (64 * i + o) - b.length = 64 * i + o by omega,
        ih (fun x hx => h x (by simp [hx])) i (by simpa using hi)]
      simp

/-- A memory of runs of bytes. -/
def cellsOfRuns (d : Byte) (R : List (Nat × List Byte)) : List Host.Cell := R.flatMap fun r => cellsOf d r.1 r.2

/-- Runs one after another without overlapping. -/
def runsOk (R : List (Nat × List Byte)) : Prop := R.Pairwise fun x y => x.1 + x.2.length ≤ y.1

theorem runs_read {d : Byte} {R : List (Nat × List Byte)} (hR : runsOk R) {a n off : Nat} {bs : List Byte} (hm : (a, bs) ∈ R)
    (h : off + n ≤ bs.length) : memBytes d (cellsOfRuns d R) n (a + off) = (bs.drop off).take n := by
  obtain ⟨l, m, rfl⟩ := List.append_of_mem hm
  obtain ⟨-, h2, h3⟩ := List.pairwise_append.1 hR
  have e : cellsOfRuns d (l ++ (a, bs) :: m) = cellsOfRuns d l ++ (cellsOf d a bs ++ cellsOfRuns d m) := by simp [cellsOfRuns]
  rw [e]
  refine memBytes_run (fun c hc => ?_) (fun c hc => ?_) h
  · obtain ⟨x, hx, hc⟩ := List.mem_flatMap.1 hc
    have := h3 x hx (a, bs) (by simp)
    have := cellsOf_key hc
    simp only at *; omega
  · obtain ⟨x, hx, hc⟩ := List.mem_flatMap.1 hc
    have := (List.pairwise_cons.1 h2).1 x hx
    have := cellsOf_key hc
    simp only at *; omega

/-- First fields of a header: MAGIC, VERSION 1, 10 sections, GENERATION g, FW_PAGE 100. -/
def hdrPre (g : Nat) : List Byte := le 4 0x52505554 ++ le 2 1 ++ le 2 10 ++ le 4 g ++ le 4 0 ++ le 4 100
/-- The header page, the runs of a slot and the slot. -/
def hdrOf (g : Nat) (z com : List Byte) : List Byte := hdrPre g ++ (z ++ (le 4 (crc32c (hdrPre g ++ z)) ++ com))
def secRuns (c : Cfg) : List (Nat × List Byte) := c.mapIdx fun i s => (8192 + 4096 * i, sectBytes s)
def slotRuns (c : Cfg) (g : Nat) (z com : List Byte) : List (Nat × List Byte) := (0, hdrOf g z com) :: (4096, tabPage c) :: secRuns c
def slotOf (c : Cfg) (g : Nat) (z com : List Byte) : List Host.Cell := cellsOfRuns 0xFF (slotRuns c g z com)

theorem mapM_congr' {α β : Type} {f g : α → Option β} {l : List α} (h : ∀ x ∈ l, f x = g x) : l.mapM f = l.mapM g := by
  induction l with
  | nil => rfl
  | cons a r ih => rw [List.mapM_cons, List.mapM_cons, h a (by simp), ih fun x hx => h x (by simp [hx])]

/-- The entries of the slot. -/
def entriesOf (c : Cfg) : List SlotEntry :=
  c.mapIdx fun i s => ⟨s.id, 0, 8192 + 4096 * i, 8 + 4 * s.words.length, 8 + 4 * s.words.length, crc32c (sectBytes s), unle ((sha512 (sectBytes s)).take 32)⟩
def tabEntry (t : List Byte) (i : Nat) : SlotEntry :=
  let f (o n : Nat) : Nat := unle ((t.drop (64 * i + o)).take n)
  ⟨f 0 2, f 2 1, f 4 4, f 8 4, f 12 4, f 16 4, f 32 32⟩

/-- The neutral element's encoding. As a key it verifies the signature of itself and 0 for every message (RFC 8032, with cofactor),
which makes a slot without a secret key. -/
def ident : List Byte := le 32 1
def zero32 : List Byte := le 32 0
theorem ident_length : ident.length = 32 := le_length _ _

/-- Coordinates of the neutral element. -/
def EdUnit (p : EdPt) : Prop := p.x = 0 ∧ p.t = 0 ∧ p.y = p.z

theorem edUnit_add {p q : EdPt} (hp : EdUnit p) (hq : EdUnit q) : EdUnit (p.add q) := by
  obtain ⟨px, pt, py⟩ := hp
  obtain ⟨qx, qt, qy⟩ := hq
  have h : 0 < edP := by decide
  have e (x : Nat) : fsub x 0 = x % edP := by simp [fsub]
  have f (x : Nat) : fadd x 0 = x % edP := by simp [fadd]
  have k : fsub (fmul (p.z % edP) (q.z % edP)) (fmul (p.z % edP) (q.z % edP)) = 0 := by simp [fsub]
  have m : (p.z * q.z + p.z * q.z) % edP = (2 * p.z * q.z) % edP := by congr 1; ring
  have d : fadd (fmul (p.z % edP) (q.z % edP)) (fmul (p.z % edP) (q.z % edP)) = fmul (2 * p.z) q.z % edP := by
    rw [fadd, fmul, fmul, ← Nat.mul_mod, ← Nat.add_mod, m, Nat.mod_mod]
  have z (x : Nat) : fmul 0 x = 0 := by simp [fmul]
  refine ⟨?_, ?_, ?_⟩ <;> simp only [EdPt.add, px, qx, pt, qt, py, qy, e, f, k, d, z, Nat.mul_zero]

theorem edUnit_mul {p : EdPt} (l : List Bool) : ∀ v : EdPt, EdUnit v → (EdUnit p ∨ l.all (!·) = true) → EdUnit (p.mul l v) := by
  induction l with
  | nil => intro v hv _; rw [EdPt.mul]; exact hv
  | cons b r ih =>
    intro v hv h
    rw [EdPt.mul]
    have h2 := edUnit_add hv hv
    cases b with
    | true => exact ih _ (edUnit_add h2 (h.resolve_right (by simp))) (Or.inl (h.resolve_right (by simp)))
    | false => exact ih _ h2 (h.imp id fun h => by simpa using h)

theorem edUnit_zero : EdUnit .zero := ⟨rfl, rfl, rfl⟩
theorem edUnit_same {p q : EdPt} (hp : EdUnit p) (hq : EdUnit q) : p.same q = true := by
  obtain ⟨px, pt, py⟩ := hp
  obtain ⟨qx, qt, qy⟩ := hq
  simp [EdPt.same, fmul, px, qx, py, qy, Nat.mul_comm]

theorem ident_decodes : edDecode ident = some ⟨0, 1, 1, 0⟩ := by
  have h : (edDecode ident).map (fun p => (p.x, p.y, p.z, p.t)) = some (0, 1, 1, 0) := by decide +kernel
  cases hd : edDecode ident with
  | none => rw [hd] at h; cases h
  | some p =>
    rw [hd] at h
    obtain ⟨x, y, z, t⟩ := p
    simp only [Option.map_some, Option.some.injEq, Prod.mk.injEq] at h
    obtain ⟨rfl, rfl, rfl, rfl⟩ := h
    rfl

theorem ident_signs (msg : List Byte) : ed25519Ok ident msg (ident ++ zero32) = true := by
  have t : (ident ++ zero32).take 32 = ident := List.take_left' (le_length _ _)
  have d : unle ((ident ++ zero32).drop 32) = 0 := by decide +kernel
  have l : (0 : Nat) < edL := by decide
  have u : EdUnit ⟨0, 1, 1, 0⟩ := ⟨rfl, rfl, rfl⟩
  have b : EdUnit (EdPt.times 0 edB) := edUnit_mul _ _ edUnit_zero (Or.inr (by decide +kernel))
  have o (n : Nat) (p : EdPt) (hp : EdUnit p) : EdUnit (p.times n) := edUnit_mul _ _ edUnit_zero (Or.inl hp)
  simp only [ed25519Ok, t, d, ident_decodes, l, decide_true, Bool.true_and]
  exact edUnit_same (o _ _ b) (o _ _ (edUnit_add u (o _ _ u)))

section
variable (g : Nat) (z com : List Byte) (hz : z.length = 4068) (hc : com.length = 4)
include hz hc

theorem hdr_len : (hdrOf g z com).length = 4096 := by simp [hdrOf, hdrPre, le_length, hz, hc]

theorem mini_runs : runsOk (slotRuns mini g z com) := by
  have h : (∀ x ∈ secRuns mini, 8192 ≤ x.1) ∧ (secRuns mini).Pairwise (fun x y => x.1 + x.2.length ≤ y.1) := by decide +kernel
  have t : (tabPage mini).length = 4096 := by simp [tabPage, tabOf_length]; decide
  refine List.pairwise_cons.2 ⟨fun x hx => ?_, List.pairwise_cons.2 ⟨fun x hx => ?_, h.2⟩⟩
  · simp only [hdr_len g z com hz hc]
    rcases List.mem_cons.1 hx with rfl | hx
    · decide
    · have := h.1 x hx; omega
  · simp only [t]
    have := h.1 x hx; omega

theorem slot_hdr {n off : Nat} (h : off + n ≤ 4096) :
    memBytes 0xFF (slotOf mini g z com) n off = ((hdrOf g z com).drop off).take n := by
  have := runs_read (d := 0xFF) (mini_runs g z com hz hc) (a := 0) (bs := hdrOf g z com) (n := n) (off := off) (by simp [slotRuns])
    (by rw [hdr_len g z com hz hc]; exact h)
  rw [Nat.zero_add] at this
  exact this

theorem slot_pre {n off : Nat} (h : off + n ≤ 20) :
    slotField (slotOf mini g z com) off n = unle (((hdrPre g).drop off).take n) := by
  have hl : (hdrPre g).length = 20 := by simp [hdrPre, le_length]
  rw [slotField, slot_hdr g z com hz hc (by omega), hdrOf, List.drop_append_of_le_length (by omega),
    List.take_append_of_le_length (by simp; omega)]

theorem slot_headerOk : slotHeaderOk (slotOf mini g z com) = true := by
  have hl : (hdrPre g).length = 20 := by simp [hdrPre, le_length]
  have e : hdrOf g z com = (hdrPre g ++ z) ++ (le 4 (crc32c (hdrPre g ++ z)) ++ com) := by simp [hdrOf]
  have h1 : memBytes 0xFF (slotOf mini g z com) 4088 0 = hdrPre g ++ z := by
    rw [slot_hdr g z com hz hc (by omega), e, List.drop_zero, List.take_left' (by simp [hl, hz])]
  have h2 : slotField (slotOf mini g z com) 4088 4 = crc32c (hdrPre g ++ z) := by
    rw [slotField, slot_hdr g z com hz hc (by omega), e, List.drop_left' (by simp [hl, hz]), List.take_left' (le_length _ _), unle_crc]
  rw [slotHeaderOk, h1, h2, slot_pre g z com hz hc (by omega), slot_pre g z com hz hc (by omega)]
  simp [hdrPre, le, unle, tuprMagic]

theorem slot_entries : slotEntries (slotOf mini g z com) = entriesOf mini := by
  have hs : slotSections (slotOf mini g z com) = 10 := by
    rw [slotSections, slot_pre g z com hz hc (by omega)]; simp [hdrPre, le, unle]
  have t : (tabPage mini).length = 4096 := by simp [tabPage, tabOf_length]; decide
  have tl : (tabOf mini).length = 640 := by rw [tabOf_length]; decide
  have h : ∀ i < 10, slotEntry (slotOf mini g z com) i = tabEntry (tabOf mini) i := by
    intro i hi
    have f (o n : Nat) (h : o + n ≤ 64) :
        slotField (slotOf mini g z com) (4096 + 64 * i + o) n = unle (((tabOf mini).drop (64 * i + o)).take n) := by
      rw [slotField, slotOf, Nat.add_assoc, runs_read (mini_runs g z com hz hc) (a := 4096) (bs := tabPage mini) (by simp [slotRuns])
        (by omega), tabPage, List.drop_append_of_le_length (by omega), List.take_append_of_le_length (by simp; omega)]
    have f0 := f 0 2 (by omega)
    simp only [slotEntry, tabEntry, f 2 1 (by omega), f 4 4 (by omega), f 8 4 (by omega), f 12 4 (by omega), f 16 4 (by omega),
      f 32 32 (by omega)]
    rw [Nat.add_zero] at f0
    rw [f0]
  rw [slotEntries, hs, show min 64 10 = 10 from rfl,
    List.map_congr_left (g := tabEntry (tabOf mini)) fun i hi => h i (List.mem_range.1 hi)]
  refine List.ext_getElem (by decide) fun i h1 h2 => ?_
  have hi : i < mini.length := by simpa [entriesOf] using h2
  have q (o n : Nat) (h : o + n ≤ 64) : ((tabOf mini).drop (64 * i + o)).take n = ((tabRow i mini[i]).drop o).take n := by
    rw [tabOf, flatten_take _ (fun b hb => ?_) i o n (by simpa using hi) h]
    · simp
    · obtain ⟨j, hj, rfl⟩ := List.mem_mapIdx.1 hb
      exact tabRow_length _ _
  have b : ∀ s ∈ mini, s.id < 65536 ∧ s.words.length < 1024 := by decide
  have hb := b _ (List.getElem_mem hi)
  have w (n v : Nat) (h : v < 256 ^ n) : unle (le n v) = v := by rw [unle_le]; exact Nat.mod_eq_of_lt h
  simp only [List.getElem_map, List.getElem_range, tabEntry, entriesOf, List.getElem_mapIdx, q _ _ (show 0 + 2 ≤ 64 by omega),
    q _ _ (show 2 + 1 ≤ 64 by omega), q _ _ (show 4 + 4 ≤ 64 by omega), q _ _ (show 8 + 4 ≤ 64 by omega),
    q _ _ (show 12 + 4 ≤ 64 by omega), q _ _ (show 16 + 4 ≤ 64 by omega), q _ _ (show 32 + 32 ≤ 64 by omega)]
  generalize mini[i] = s at *
  have e1 : ((tabRow i s).drop 0).take 2 = le 2 s.id := by simp [tabRow, le]
  have e2 : ((tabRow i s).drop 2).take 1 = [0] := by simp [tabRow, le]
  have e3 : ((tabRow i s).drop 4).take 4 = le 4 (8192 + 4096 * i) := by simp [tabRow, le]
  have e4 : ((tabRow i s).drop 8).take 4 = le 4 (8 + 4 * s.words.length) := by simp [tabRow, le]
  have e5 : ((tabRow i s).drop 12).take 4 = le 4 (8 + 4 * s.words.length) := by simp [tabRow, le]
  have e6 : ((tabRow i s).drop 16).take 4 = le 4 (crc32c (sectBytes s)) := by simp [tabRow, le]
  have e7 : ((tabRow i s).drop 32).take 32 = (sha512 (sectBytes s)).take 32 := by
    have : tabRow i s = (le 2 s.id ++ [0, 0] ++ le 4 (8192 + 4096 * i) ++ le 4 (8 + 4 * s.words.length) ++
        le 4 (8 + 4 * s.words.length) ++ le 4 (crc32c (sectBytes s)) ++ List.replicate 12 255) ++ (sha512 (sectBytes s)).take 32 := rfl
    rw [this, List.drop_left' (by simp [le_length]), List.take_of_length_le (by simp)]
  have ml : mini.length = 10 := by decide
  have hi' : i < 10 := by omega
  rw [e1, e2, e3, e4, e5, e6, e7, w 2 s.id (by omega), w 4 (8192 + 4096 * i) (by omega), w 4 (8 + 4 * s.words.length) (by omega),
    unle_crc]
  rfl

theorem slot_bytes (x : SlotEntry) (hx : x ∈ entriesOf mini) :
    x.bytes (slotOf mini g z com) = ((mini.map sectBytes).getD ((x.offset - 8192) / 4096) []) := by
  have h : ∀ x ∈ entriesOf mini, (x.offset, (mini.map sectBytes).getD ((x.offset - 8192) / 4096) []) ∈ secRuns mini ∧
      ((mini.map sectBytes).getD ((x.offset - 8192) / 4096) []).length = x.stored := by decide +kernel
  obtain ⟨h1, h2⟩ := h x hx
  have := runs_read (d := 0xFF) (mini_runs g z com hz hc) (off := 0) (n := x.stored) (List.mem_cons_of_mem _ (List.mem_cons_of_mem _ h1)) (by omega)
  rw [Nat.add_zero] at this
  rw [SlotEntry.bytes, slotOf, this, List.drop_zero, List.take_of_length_le (by omega)]

theorem slot_intact : entriesIntact (slotOf mini g z com) = true := by
  rw [entriesIntact, slot_entries g z com hz hc, List.all_eq_true]
  intro y hy
  obtain ⟨i, hi, rfl⟩ := List.mem_mapIdx.1 hy
  have e := slot_bytes g z com hz hc _ (List.getElem_mem (l := entriesOf mini) (by simpa [entriesOf] using hi))
  simp only [entriesOf, List.getElem_mapIdx, show (8192 + 4096 * i - 8192) / 4096 = i by omega, List.getD_eq_getElem?_getD,
    List.getElem?_map, List.getElem?_eq_getElem hi, Option.map_some, Option.getD_some] at e
  simp only [SlotEntry.intact, e]
  simp

theorem slot_config : slotConfig (slotOf mini g z com) = some mini := by
  have hs : slotSections (slotOf mini g z com) = 10 := by
    rw [slotSections, slot_pre g z com hz hc (by omega)]; simp [hdrPre, le, unle]
  have hp : slotFwPage (slotOf mini g z com) = 100 := by
    rw [slotFwPage, slot_pre g z com hz hc (by omega)]; simp [hdrPre, le, unle]
  have hok : (entriesOf mini).all SlotEntry.ok = true ∧ entriesAscend (entriesOf mini) = true ∧
      requiredOk ((entriesOf mini).map (·.id)) = true ∧
      (entriesOf mini).all (fun x => decide (x.offset + x.stored ≤ 4096 * 100)) = true := by decide +kernel
  have hl : ∀ x ∈ entriesOf mini, SlotEntry.load (slotOf mini g z com) x =
      parseSection x.id ((mini.map sectBytes).getD ((x.offset - 8192) / 4096) []) := by
    have h : ∀ x ∈ entriesOf mini, x.flags = 0 ∧ ((mini.map sectBytes).getD ((x.offset - 8192) / 4096) []).length = x.loaded := by
      decide +kernel
    intro x hx
    have h := h x hx
    unfold SlotEntry.load
    rw [slot_bytes g z com hz hc x hx]
    simp only [h.1, show ¬ (0 = 1) by omega, if_false]
    exact if_pos h.2
  have hm : (entriesOf mini).mapM (fun x => parseSection x.id ((mini.map sectBytes).getD ((x.offset - 8192) / 4096) [])) = some mini := by
    decide +kernel
  simp only [slotConfig, hs, slot_entries g z com hz hc, hp]
  rw [if_pos ⟨by omega, by omega, hok⟩, ← hm]
  exact mapM_congr' hl

theorem slot_com : slotField (slotOf mini g z com) 4092 4 = unle com := by
  have e : hdrOf g z com = (hdrPre g ++ z ++ le 4 (crc32c (hdrPre g ++ z))) ++ com := by simp [hdrOf]
  have hl : (hdrPre g).length = 20 := by simp [hdrPre, le_length]
  rw [slotField, slot_hdr g z com hz hc (by omega), e, List.drop_left' (by simp [hl, hz, le_length]),
    List.take_of_length_le (by omega)]

theorem slot_z {n off : Nat} (h : off + n ≤ 4088) :
    memBytes 0xFF (slotOf mini g z com) n off = ((hdrPre g ++ z).drop off).take n := by
  have hl : (hdrPre g ++ z).length = 4088 := by simp [hdrPre, le_length, hz]
  have e : hdrOf g z com = (hdrPre g ++ z) ++ (le 4 (crc32c (hdrPre g ++ z)) ++ com) := by simp [hdrOf]
  rw [slot_hdr g z com hz hc (by omega), e, List.drop_append_of_le_length (by omega),
    List.take_append_of_le_length (by rw [List.length_drop]; omega)]

theorem slot_signed (h1 : ((hdrPre g ++ z).drop 40).take 32 = ident) (h2 : ((hdrPre g ++ z).drop 3960).take 64 = ident ++ zero32) :
    slotSigned (slotOf mini g z com) = true := by
  rw [slotSigned, slotSigner, slot_z g z com hz hc (n := 32) (by omega), slot_z g z com hz hc (n := 64) (by omega), h1, h2]
  exact ident_signs _

theorem slot_fw (h : (((hdrPre g ++ z).drop 20).take 4) = [0, 0, 0, 0]) (h' : unle (sha512 []) = unle (((hdrPre g ++ z).drop 72).take 64)) :
    slotFwIntact (slotOf mini g z com) = true := by
  have : slotFwPages (slotOf mini g z com) = 0 := by
    rw [slotFwPages, slotField, slot_z g z com hz hc (by omega), h]; decide
  simp only [slotFwIntact, this, slotFwDigest, slotField, slot_z g z com hz hc (show 72 + 64 ≤ 4088 by omega)]
  exact decide_eq_true h'

theorem slot_fault (h1 : slotSigned (slotOf mini g z com) = true) (h2 : slotFwIntact (slotOf mini g z com) = true)
    (ks : KeyStore) (hk : ks.hash = none) (wc : Bool) (h : wc = false ∨ com = le 4 commWord) :
    slotFault (slotOf mini g z com) ks ⟨true, 0⟩ wc = 0 := by
  have h3 : (wc && !slotCommitted (slotOf mini g z com)) = false := by
    rcases h with h | h
    · simp [h]
    · have : slotCommitted (slotOf mini g z com) = true := by
        rw [slotCommitted, slot_com g z com hz hc, h]; decide
      simp [this]
  simp [slotFault, slot_headerOk g z com hz hc, slot_intact g z com hz hc, h1, h2, h3, hk, slot_config g z com hz hc]

theorem slot_gen (hg : g < 2 ^ 32) : slotGeneration (slotOf mini g z com) = g := by
  rw [slotGeneration, slot_pre g z com hz hc (by omega)]
  have : ((hdrPre g).drop 8).take 4 = le 4 g := by simp [hdrPre, le]
  rw [this, unle_le]; exact Nat.mod_eq_of_lt (by omega)
end

/-- The least slot that breaks nothing in its first check. -/
def slotTiny : List Host.Cell := cellsOf 0xFF 0 (le 4 0x52505554 ++ [1, 0, 0, 0] ++ le 4 9)

/-- Bytes 20 to 4,087 of the header page: no firmware pages, the neutral key, the digest of no bytes, and the signature. -/
def zMini : List Byte :=
  List.replicate 20 0 ++ (ident ++ (sha512 [] ++ (List.replicate 3824 0 ++ ((ident ++ zero32) ++ List.replicate 64 0))))
theorem zMini_length : zMini.length = 4068 := by
  simp only [zMini, ident, zero32, List.length_append, List.length_replicate, le_length, sha512_length]

section
variable (g : Nat)

theorem hdrPre_length : (hdrPre g).length = 20 := by simp [hdrPre, le_length]
theorem zMini_drop (k : Nat) : (hdrPre g ++ zMini).drop (20 + k) = zMini.drop k := by
  rw [← List.drop_drop, List.drop_left' (hdrPre_length g)]
theorem zMini_key : ((hdrPre g ++ zMini).drop 40).take 32 = ident := by
  rw [show 40 = 20 + 20 from rfl, zMini_drop, zMini, List.drop_left' List.length_replicate, List.take_left' ident_length]
theorem zMini_fw : ((hdrPre g ++ zMini).drop 72).take 64 = sha512 [] := by
  rw [show 72 = 20 + (20 + 32) from rfl, zMini_drop, zMini, ← List.drop_drop, List.drop_left' List.length_replicate,
    List.drop_left' ident_length, List.take_left' (sha512_length _)]
theorem zMini_sig : ((hdrPre g ++ zMini).drop 3960).take 64 = ident ++ zero32 := by
  rw [show 3960 = 20 + (20 + (32 + (64 + 3824))) from rfl, zMini_drop, zMini, ← List.drop_drop, List.drop_left' List.length_replicate,
    ← List.drop_drop, List.drop_left' ident_length, ← List.drop_drop, List.drop_left' (sha512_length _),
    List.drop_left' List.length_replicate, List.take_left' (by simp [ident, zero32, le_length])]
theorem zMini_pages : ((hdrPre g ++ zMini).drop 20).take 4 = [0, 0, 0, 0] := by
  rw [show 20 = 20 + 0 from rfl, zMini_drop]; rfl

/-- A slot of the small configuration not yet committed, and committed. -/
def slotNew : List Host.Cell := slotOf mini g zMini (List.replicate 4 255)
def slotDone : List Host.Cell := slotOf mini g zMini (le 4 commWord)
def allOk : SlotVerdict := ⟨true, 0⟩

theorem slot_sound (com : List Byte) (hc : com.length = 4) : slotSigned (slotOf mini g zMini com) = true ∧ slotFwIntact (slotOf mini g zMini com) = true :=
  ⟨slot_signed g _ _ zMini_length hc (zMini_key g) (zMini_sig g),
   slot_fw g _ _ zMini_length hc (zMini_pages g) (by rw [zMini_fw])⟩

theorem slotNew_fault (ks : KeyStore) (hk : ks.hash = none) : slotFault (slotNew g) ks allOk false = 0 :=
  slot_fault g _ _ zMini_length List.length_replicate (slot_sound g _ List.length_replicate).1
    (slot_sound g _ List.length_replicate).2 ks hk _ (Or.inl rfl)
theorem slotNew_gen (h : g < 2 ^ 32) : slotGeneration (slotNew g) = g := slot_gen g _ _ zMini_length List.length_replicate h
theorem slotNew_config : slotConfig (slotNew g) = some mini := slot_config g _ _ zMini_length List.length_replicate
theorem slotNew_com : committedWord (slotNew g) = commWord := by
  rw [committedWord, slotNew, slot_com g _ _ zMini_length List.length_replicate]; decide
theorem slotDone_fault (ks : KeyStore) (hk : ks.hash = none) (wc : Bool) : slotFault (slotDone g) ks allOk wc = 0 :=
  slot_fault g _ _ zMini_length rfl (slot_sound g _ rfl).1 (slot_sound g _ rfl).2 ks hk _ (Or.inr rfl)
theorem slotDone_gen (h : g < 2 ^ 32) : slotGeneration (slotDone g) = g := slot_gen g _ _ zMini_length rfl h
theorem slotDone_config : slotConfig (slotDone g) = some mini := slot_config g _ _ zMini_length rfl
end

/-- A DRAM section with three regions: general store, layer-1 rows in bands of 8, and in blocks. -/
def regs4 (qx2 rt : Nat) : Sect :=
  ⟨4, 0, [mkWord [(31, 31, qx2), (30, 30, 1), (29, 22, 20), (21, 21, 1), (20, 20, 1)], 0,
    mkWord [(31, 31, 1), (27, 18, 64), (17, 8, 520)], mkWord [(31, 31, 1), (30, 30, 1), (17, 8, 672)],
    mkWord [(31, 31, 1), (29, 28, 2), (27, 18, 584), (17, 8, 88)]] ++
    List.replicate 24 (mkWord [(20, 9, 64), (8, 8, rt), (7, 2, 48 * (1 - rt))]) ++ [4]⟩

/-- A state changed as a whole, a rank, a position channel, a gated command staged by the UART. -/
def rank0 (r : Nat) (f : Rank → Rank) (e : Engine) : Engine := e.modRank r f
def chan0 (n : Nat) (f : PosChan → PosChan) (e : Engine) : Engine :=
  { e with pos := { e.pos with chans := vmod e.pos.chans n fun q => f { q with state := 1, started := true } } }
def staged0 (c : Gated) : Staged := ⟨c, .uart, 7, 0, true, 0, true⟩

/-- A command staged by the UART at once, waiting; and the presence input low since 1 ms after the staging. -/
def waiting0 (c : Gated) : Staged := { staged0 c with executing := false }
def pressing (l : List Sect) (c : Gated) (f : Engine → Engine) : State :=
  live l fun e =>
    { f e with
      sys := { (f e).sys with mode := .service }
      ctl := { (f e).ctl with staged := some (waiting0 c) }
      pins := { (f e).pins with presenceHigh := false, presenceSince := ms 1 } }

/-- The SECURITY sections with LAMP_EN and FRESET_EN. -/
def secur0 : List Sect := [sw 0xA0 1 [(0, [(31, 31, 1), (30, 30, 1), (29, 29, 1)])]]

/-- Such a slot holds no section of a position channel's, nor of branch 5's. -/
theorem slotDone_unit (g u : Nat) (h : ((entriesOf mini).filter fun x => (Cfg.unitSections u).contains x.id) = []) :
    unitSlot (slotDone g) u = some [] := by
  have e : slotEntries (slotDone g) = entriesOf mini := slot_entries g _ _ zMini_length rfl
  rw [unitSlot, e, h]; rfl

/-- Table 0 of such a slot reads as no words. -/
theorem slotDone_tables (g : Nat) (e : Engine) (f : Flash) (files : List CalFile) (r : Reload) (hr : r.mask = 1 ∧ r.cal = false)
    (ha : e.activeSlot f = slotDone g) (hn : e.now = 0) :
    e.reloadRead f files r = some [⟨0, Config.unstated 145 0 % 4294967296, []⟩] := by
  have h : slotEntries (slotDone g) = entriesOf mini := slot_entries g _ _ zMini_length rfl
  have n : (entriesOf mini).any (fun x => ([0x21] : List Nat).contains x.id && decide (crc32c (x.bytes (slotDone g)) ≠ x.crc)) = false := by
    rw [List.any_eq_false]
    have : ∀ x ∈ entriesOf mini, ([0x21] : List Nat).contains x.id = false := by decide +kernel
    intro x hx
    rw [this x hx]; simp
  have w : mini.tableWords 0 = [] := by decide +kernel
  have t : tablesOf 1 = [0] := by decide
  simp only [Engine.reloadRead, hr.1, hr.2, ha, h, hn]
  rw [if_neg (by decide), if_neg (by simpa using n), slotDone_config, Option.map_some, t, List.map_cons, List.map_nil, w]

/-- An engine in another phase, with units restarting, or with both power inputs qualified. -/
def at0 (p : Phase) (l : List Sect) (f : Engine → Engine) : State := live l fun e => f { e with sys := { e.sys with phase := p } }
def unit0 (u : Nat) (st : UnitStep) (e : Engine) : Engine :=
  { e with sys := { e.sys with units := [⟨u, st, some .uart, 7, 0, 0, false⟩], active := some false } }
def inputs0 (a b : Bool) (f : Power → Power) (e : Engine) : Engine :=
  { e with power := f { e.power with qualified := (Vector.replicate 2 a).set 1 b } }
def wStepTakesFront1 : State :=
  { State.reset with pending := [.bootRetry 0 true] }

/-- The hypotheses of StepTakesFront can be met, clause by clause. -/
theorem witness_StepTakesFront :
    (wStepTakesFront1.pending = (.bootRetry 0 true : Instr) :: ([] : List Instr)) :=
  by decide +kernel

def wEmptyQueueIdles1 : State :=
  State.reset

def wEmptyQueueIdles2 : State :=
  State.reset

/-- The hypotheses of EmptyQueueIdles can be met, clause by clause. -/
theorem witness_EmptyQueueIdles :
    (wEmptyQueueIdles1.pending = [] ∧
    wEmptyQueueIdles1.eng.dram.reqs = []) ∧
    (wEmptyQueueIdles2.pending = []) :=
  ⟨by decide +kernel,
   (by decide +kernel)⟩

def wRepeatedRequestAnsweredAgain1 : State :=
  live [] fun e => e.putClient { ClientState.fresh .uart 0 with
    kept := [⟨0x0402, 7, 0, ⟨.uart, false, 0x0402, 7, .ok, .none, []⟩⟩] }

/-- The hypotheses of RepeatedRequestAnsweredAgain can be met, clause by clause. -/
theorem witness_RepeatedRequestAnsweredAgain :
    ((((∃ src, (.counters 0 hU 0 : Instr) = .counters (0 : Nat) (hU : MsgHdr) src ∧ (0x0402 : Nat) = 0x0402) ∨ (∃ tg x, (.counters 0 hU 0 : Instr) = .tnrStrength (0 : Nat) (hU : MsgHdr) tg x ∧ (0x0402 : Nat) = 0x0205) ∨ (∃ m p, (.counters 0 hU 0 : Instr) = .modeSet (0 : Nat) (hU : MsgHdr) m p ∧ (0x0402 : Nat) = 0x0101) ∨ ∃ tg vols, (.counters 0 hU 0 : Instr) = .recordStart (0 : Nat) (hU : MsgHdr) ⟨tg, vols⟩ ∧ (0x0402 : Nat) = 0x0301)) ∧
    (wRepeatedRequestAnsweredAgain1.eng.at (0 : Nat)).answers (hU : MsgHdr).client = true ∧
    (wRepeatedRequestAnsweredAgain1.eng.at (0 : Nat)).kept? (hU : MsgHdr) (0x0402 : Nat) = some (⟨0x0402, 7, 0, ⟨.uart, false, 0x0402, 7, .ok, .none, []⟩⟩ : Kept)) :=
  ⟨Or.inl ⟨0, rfl, rfl⟩, by decide +kernel⟩

def wControlQueriesComplete1 : State :=
  live [] id

def wControlQueriesComplete2 : State :=
  live [] (·.bump .ctrlMalformed 0x0360)

def wControlQueriesComplete3 : State :=
  live [] (·.bump .ctrlMalformed 0x0360)

def wControlQueriesComplete4 : State :=
  live [] (·.bump .ctrlMalformed 0x0360)

def wControlQueriesComplete5 : State :=
  live [] fun e => { e with log := e.log.push ⟨0, 0, 0, 0x0355, .logEpoch, []⟩ }

def wControlQueriesComplete6 : State :=
  live [] id

/-- The hypotheses of ControlQueriesComplete can be met, clause by clause. -/
theorem witness_ControlQueriesComplete :
    (wControlQueriesComplete1.takes 0 hU 0x0106 ∧
    hU.client = .uart ∧
    4 ≤ 4 ∧
    0 < 3 ∧
    3 < 2 ^ 32) ∧
    (wControlQueriesComplete2.takes 0 hU 0x0104 ∧
    0x0360 < 0xFFFF) ∧
    (wControlQueriesComplete3.takes 0 hU 0x0104) ∧
    (wControlQueriesComplete4.takes 0 hU 0x0402 ∧
    0x0360 ≤ 0xFFFF) ∧
    (wControlQueriesComplete5.takes 0 hU 0x0403 ∧
    0 < 2045 ∧
    2045 ≤ 2045 ∧
    0 < 2 ^ 64) ∧
    (wControlQueriesComplete6.takes 0 hU 0x0401 ∧
    wControlQueriesComplete6.eng.sys.phase = .running ∧
    1 ≤ 0xFFFF ∧
    ((wControlQueriesComplete6.eng.at 0).received hU 0x0401).stsBlock wControlQueriesComplete6.flash wControlQueriesComplete6.ks 1 = some ((wControlQueriesComplete6.eng.received hU 0x0401).stsBlock Flash.reset KeyStore.reset 1 |>.getD [])) :=
  ⟨⟨show (wControlQueriesComplete1.eng.at 0).intake hU 0x0106 = Admit.go from by decide +kernel, by decide +kernel⟩,
   ⟨show (wControlQueriesComplete2.eng.at 0).intake hU 0x0104 = Admit.go from by decide +kernel, by decide +kernel⟩,
   show (wControlQueriesComplete3.eng.at 0).intake hU 0x0104 = Admit.go from by decide +kernel,
   ⟨show (wControlQueriesComplete4.eng.at 0).intake hU 0x0402 = Admit.go from by decide +kernel, by decide +kernel⟩,
   ⟨show (wControlQueriesComplete5.eng.at 0).intake hU 0x0403 = Admit.go from by decide +kernel, by decide +kernel⟩,
   ⟨show (wControlQueriesComplete6.eng.at 0).intake hU 0x0401 = Admit.go from by decide +kernel, by decide +kernel⟩⟩

def wDamagedAndDeniedMessagesCounted1 : State :=
  live [] id

def wDamagedAndDeniedMessagesCounted2 : State :=
  live [] id

def wDamagedAndDeniedMessagesCounted3 : State :=
  live [] id

def wDamagedAndDeniedMessagesCounted4 : State :=
  live [] id

def wDamagedAndDeniedMessagesCounted5 : State :=
  live [] id

def wDamagedAndDeniedMessagesCounted6 : State :=
  live [] fun e => { e with cfg := [sw 0xC0 7 [(0, [(30, 30, 1)]), (6, [(31, 26, 32)])]] }

def wDamagedAndDeniedMessagesCounted7 : State :=
  live [] fun e => { e with ctl := { e.ctl with frags := [(1, 0), (4, 9)] } }

def wDamagedAndDeniedMessagesCounted8 : State :=
  live [] fun e => { e with ctl := { e.ctl with frags := [(3, 0)] } }

def wDamagedAndDeniedMessagesCounted9 : State :=
  live [] (·.putClient { ClientState.fresh (.eth 1 2) 0 with sub := some (1, 0) })

/-- The hypotheses of DamagedAndDeniedMessagesCounted can be met, clause by clause. -/
theorem witness_DamagedAndDeniedMessagesCounted :
    ((wDamagedAndDeniedMessagesCounted1.eng.at 0).answers .uart = true) ∧
    ((Client.eth 0 9) ≠ .uart ∧
    (wDamagedAndDeniedMessagesCounted2.eng.at 0).answers (Client.eth 0 9) = true) ∧
    ((wDamagedAndDeniedMessagesCounted3.eng.at 0).answers (Client.eth 0 9) = true) ∧
    ((wDamagedAndDeniedMessagesCounted4.eng.at 0).answers Client.uart = true) ∧
    ((wDamagedAndDeniedMessagesCounted5.eng.at 0).answers .uart = true) ∧
    (wDamagedAndDeniedMessagesCounted6.eng.ethUp = true ∧
    wDamagedAndDeniedMessagesCounted6.eng.allowed 9 = false) ∧
    (wDamagedAndDeniedMessagesCounted7.eng.sys.phase = .running ∧
    wDamagedAndDeniedMessagesCounted7.eng.cb 0x00C0 0 30 = true ∧
    (wDamagedAndDeniedMessagesCounted7.eng.cw 0x00C0 1).toNat = 0) ∧
    (wDamagedAndDeniedMessagesCounted8.eng.ctl.frags = [(3, 0)]) ∧
    ((wDamagedAndDeniedMessagesCounted9.eng.at (secs 60)).client? (.eth 1 2) = some ({ ClientState.fresh (.eth 1 2) 0 with sub := some (1, 0) }) ∧
    ({ ClientState.fresh (.eth 1 2) 0 with sub := some (1, 0) }).lastHeard + secs 60 ≤ (wDamagedAndDeniedMessagesCounted9.eng.at (secs 60)).now) :=
  ⟨by decide +kernel,
   (by decide +kernel),
   by decide +kernel,
   (by decide +kernel),
   by decide +kernel,
   (by decide +kernel),
   by decide +kernel,
   (by decide +kernel),
   by decide +kernel⟩

def wLogStoresAndSuppresses1 : State :=
  live [] (·.emit 0x0355 .logEpoch [])

def wLogStoresAndSuppresses2 : State :=
  live [] fun e => { e with log := { e.log with rates := [⟨3, 0, 1, 1⟩] } }

/-- The hypotheses of LogStoresAndSuppresses can be met, clause by clause. -/
theorem witness_LogStoresAndSuppresses :
    (wLogStoresAndSuppresses1.eng.sys.phase.powered = true) ∧
    (wLogStoresAndSuppresses2.eng.sys.phase.powered = true) ∧
    ((Log.reset : Log).ring.length ≤ 32768 ∧
    (Log.reset : Log).nextSeq < 2 ^ 64) :=
  ⟨by decide +kernel,
   (by decide +kernel),
   by decide +kernel⟩

def wLaneBringUpSteps1 : State :=
  live [] fun e => { e with lanes := vmod e.lanes 43 fun q => { q with step := 1 } }

def wLaneBringUpSteps2 : State :=
  live [] fun e => { e with lanes := vmod e.lanes 0 fun q => { q with step := 2 } }

def wLaneBringUpSteps3 : State :=
  live [] fun e => { e with lanes := vmod e.lanes 0 fun q => { q with step := 3 } }

def wLaneBringUpSteps4 : State :=
  live [sw 3 62 [(0, [(27, 24, 2), (20, 20, 1), (19, 15, 21)])]] fun e => { (e.modPort 0 fun q => { q with link := .training }) with lanes := vmod e.lanes 0 fun q => { q with step := 3 } }

def wLaneBringUpSteps5 : State :=
  live [] fun e => { e with lanes := vmod e.lanes 0 fun q => { q with step := 3 } }

def wLaneBringUpSteps6 : State :=
  live [sw 3 62 [(36, [(27, 24, 2)])]] fun e => { e with lanes := vmod e.lanes 36 fun q => { q with step := 4 } }

def wLaneBringUpSteps7 : State :=
  live [sw 3 62 [(31, [(27, 24, 2)])]] fun e => { e with lanes := vmod e.lanes 31 fun q => { q with step := 5, linkUp := true } }

/-- The hypotheses of LaneBringUpSteps can be met, clause by clause. -/
theorem witness_LaneBringUpSteps :
    (wLaneBringUpSteps1.eng.sys.phase.powered = true) ∧
    (wLaneBringUpSteps2.eng.sys.phase.powered = true) ∧
    (wLaneBringUpSteps3.eng.sys.phase.powered = true ∧
    (((0 : Fin 62).val < 16 → (wLaneBringUpSteps3.eng.port (if wLaneBringUpSteps3.eng.cfg.split then (0 : Fin 62).val / 8 else 0)).link ≠ .training))) ∧
    (wLaneBringUpSteps4.eng.sys.phase.powered = true ∧
    (0 : Fin 62).val < 16 ∧
    (wLaneBringUpSteps4.eng.lane (0 : Fin 62)).step = 3 ∧
    (wLaneBringUpSteps4.eng.port (if wLaneBringUpSteps4.eng.cfg.split then (0 : Fin 62).val / 8 else 0)).link = .training) ∧
    (wLaneBringUpSteps5.eng.sys.phase.powered = true ∧
    (wLaneBringUpSteps5.eng.lane (0 : Fin 62)).step = 3) ∧
    (wLaneBringUpSteps6.eng.sys.phase.powered = true ∧
    36 ≤ (36 : Fin 62).val ∧
    (36 : Fin 62).val < 44 ∧
    (wLaneBringUpSteps6.eng.lane (36 : Fin 62)).test = false ∧
    (wLaneBringUpSteps6.eng.lane (36 : Fin 62)).linkUp = false ∧
    4 ≤ (wLaneBringUpSteps6.eng.lane (36 : Fin 62)).step ∧
    wLaneBringUpSteps6.eng.cfg.laneLink (36 : Fin 62) = [(36 : Fin 62).val]) ∧
    (wLaneBringUpSteps7.eng.sys.phase.powered = true ∧
    16 ≤ (31 : Fin 62).val ∧
    (31 : Fin 62).val < 32 ∧
    (wLaneBringUpSteps7.eng.lane (31 : Fin 62)).test = false ∧
    (wLaneBringUpSteps7.eng.lane (31 : Fin 62)).linkUp = true ∧
    4 ≤ (wLaneBringUpSteps7.eng.lane (31 : Fin 62)).step ∧
    1 ≤ 1 ∧
    1 ≤ wLaneBringUpSteps7.eng.cfg.lnRate (31 : Fin 62) ∧
    wLaneBringUpSteps7.eng.cfg.laneLink (31 : Fin 62) = [(31 : Fin 62).val]) :=
  ⟨by decide +kernel,
   (by decide +kernel),
   by decide +kernel,
   (by decide +kernel),
   by decide +kernel,
   (by decide +kernel),
   by decide +kernel⟩

def wLaneLossIsReported1 : State :=
  live [] fun e => { e with lanes := vmod e.lanes 43 fun q => { q with step := 5, linkUp := true } }

def wLaneLossIsReported2 : State :=
  live [] fun e => { e with lanes := vmod e.lanes 0 fun q => { q with step := 3, ebFill := 32 } }

def wLaneLossIsReported2b : State :=
  live [] fun e => { e with lanes := vmod e.lanes 43 fun q => { q with step := 3, ebFill := 22, ebCorr := 2 } }

def wLaneLossIsReported2c : State :=
  live [] fun e => { e with lanes := vmod e.lanes 0 fun q => { q with step := 3, ebFill := 39 } }

def wLaneLossIsReported3 : State :=
  live [] fun e => { e with lanes := vmod e.lanes 0 fun q => { q with step := 3, ebFill := 63, codeErrs := 4 } }

def wLaneLossIsReported4 : State :=
  live [] fun e => { e with lanes := vmod e.lanes 0 fun q => { q with step := 3 } }

/-- The hypotheses of LaneLossIsReported can be met, clause by clause. -/
theorem witness_LaneLossIsReported :
    (wLaneLossIsReported1.eng.sys.phase.powered = true ∧
    36 ≤ (43 : Fin 62).val ∧
    (43 : Fin 62).val < 44 ∧
    (wLaneLossIsReported1.eng.lane (43 : Fin 62)).linkUp = true ∧
    (true || true) = true) ∧
    (wLaneLossIsReported2.eng.sys.phase.powered = true ∧
    laneRx (0 : Fin 62) = true ∧
    (0 : Fin 62).val ≠ 52 ∧
    (0 : Fin 62).val ≠ 53 ∧
    3 ≤ (wLaneLossIsReported2.eng.lane (0 : Fin 62)).step ∧
    (LaneUnit.take = .take ∨ LaneUnit.take = .recv true false ∨ LaneUnit.take = .recv false false) ∧
    (wLaneLossIsReported2.eng.lane (0 : Fin 62)).ebNext LaneUnit.take = some 31) ∧
    (wLaneLossIsReported2b.eng.sys.phase.powered = true ∧
    laneRx (43 : Fin 62) = true ∧
    (43 : Fin 62).val ≠ 52 ∧
    (43 : Fin 62).val ≠ 53 ∧
    3 ≤ (wLaneLossIsReported2b.eng.lane (43 : Fin 62)).step ∧
    ((LaneUnit.recv true false) = .take ∨ (LaneUnit.recv true false) = .recv true false ∨ (LaneUnit.recv true false) = .recv false false) ∧
    (wLaneLossIsReported2b.eng.lane (43 : Fin 62)).ebNext (LaneUnit.recv true false) = some 24) ∧
    (wLaneLossIsReported2c.eng.sys.phase.powered = true ∧
    laneRx (0 : Fin 62) = true ∧
    (0 : Fin 62).val ≠ 52 ∧
    (0 : Fin 62).val ≠ 53 ∧
    3 ≤ (wLaneLossIsReported2c.eng.lane (0 : Fin 62)).step ∧
    ((LaneUnit.recv false false) = .take ∨ (LaneUnit.recv false false) = .recv true false ∨ (LaneUnit.recv false false) = .recv false false) ∧
    (wLaneLossIsReported2c.eng.lane (0 : Fin 62)).ebNext (LaneUnit.recv false false) = some 40) ∧
    (wLaneLossIsReported3.eng.sys.phase.powered = true ∧
    laneRx (0 : Fin 62) = true ∧
    (0 : Fin 62).val ≠ 52 ∧
    (0 : Fin 62).val ≠ 53 ∧
    3 ≤ (wLaneLossIsReported3.eng.lane (0 : Fin 62)).step ∧
    (wLaneLossIsReported3.eng.lane (0 : Fin 62)).codeErrAt = none ∧
    (wLaneLossIsReported3.eng.lane (0 : Fin 62)).ebFill < 64) ∧
    (wLaneLossIsReported4.eng.sys.phase.powered = true ∧
    (laneVideo (0 : Fin 62) && wLaneLossIsReported4.eng.clk.classV) = false ∧
    (wLaneLossIsReported4.eng.lane (0 : Fin 62)).step ≠ 0 ∧
    (wLaneLossIsReported4.eng.lane (0 : Fin 62)).linkUp = false) :=
  ⟨by decide +kernel,
   ⟨by decide +kernel, (by decide +kernel), by decide +kernel, (by decide +kernel), by decide +kernel, Or.inl rfl, by decide +kernel⟩,
   ⟨by decide +kernel, (by decide +kernel), by decide +kernel, (by decide +kernel), by decide +kernel, Or.inr (Or.inl rfl), by decide +kernel⟩,
   ⟨by decide +kernel, (by decide +kernel), by decide +kernel, (by decide +kernel), by decide +kernel, Or.inr (Or.inr rfl), by decide +kernel⟩,
   by decide +kernel,
   (by decide +kernel)⟩

def wElasticBufferRecentres1 : State :=
  live [] fun e => { e with lanes := vmod e.lanes 0 fun q => { q with step := 5, linkUp := true, ebFill := 64 } }

def wElasticBufferRecentres1b : State :=
  live [] fun e => { e with lanes := vmod e.lanes 43 fun q => { q with step := 3, ebFill := 0 } }

/-- The hypotheses of ElasticBufferRecentres can be met, clause by clause. -/
theorem witness_ElasticBufferRecentres :
    (wElasticBufferRecentres1.eng.sys.phase.powered = true ∧
    laneRx (0 : Fin 62) = true ∧
    (0 : Fin 62).val ≠ 52 ∧
    (0 : Fin 62).val ≠ 53 ∧
    3 ≤ (wElasticBufferRecentres1.eng.lane (0 : Fin 62)).step ∧
    (((LaneUnit.recv false false) = .take ∧ (wElasticBufferRecentres1.eng.lane (0 : Fin 62)).ebFill = 0) ∨ ((LaneUnit.recv false false) = .recv false false ∧ 64 ≤ (wElasticBufferRecentres1.eng.lane (0 : Fin 62)).ebFill))) ∧
    (wElasticBufferRecentres1b.eng.sys.phase.powered = true ∧
    laneRx (43 : Fin 62) = true ∧
    (43 : Fin 62).val ≠ 52 ∧
    (43 : Fin 62).val ≠ 53 ∧
    3 ≤ (wElasticBufferRecentres1b.eng.lane (43 : Fin 62)).step ∧
    ((LaneUnit.take = .take ∧ (wElasticBufferRecentres1b.eng.lane (43 : Fin 62)).ebFill = 0) ∨ (LaneUnit.take = .recv false false ∧ 64 ≤ (wElasticBufferRecentres1b.eng.lane (43 : Fin 62)).ebFill))) :=
  ⟨⟨by decide +kernel, (by decide +kernel), by decide +kernel, (by decide +kernel), by decide +kernel, Or.inr (by decide +kernel)⟩,
   ⟨by decide +kernel, (by decide +kernel), by decide +kernel, (by decide +kernel), by decide +kernel, Or.inl (by decide +kernel)⟩⟩

def wLaneTestRunsInService1 : State :=
  live [sw 3 62 [(36, [(27, 24, 2)])]] fun e => { e with sys := { e.sys with mode := .service } }

def wLaneTestRunsInService2 : State :=
  live [] id

/-- The hypotheses of LaneTestRunsInService can be met, clause by clause. -/
theorem witness_LaneTestRunsInService :
    (wLaneTestRunsInService1.takes 0 hU 0x0105 ∧
    wLaneTestRunsInService1.eng.sys.mode = .service ∧
    wLaneTestRunsInService1.eng.sys.pend = [] ∧
    wLaneTestRunsInService1.eng.sys.units = [] ∧
    36 ≤ (36 : Fin 62).val ∧
    (36 : Fin 62).val < 44 ∧
    wLaneTestRunsInService1.eng.cfg.lnRate (36 : Fin 62) ≠ 0 ∧
    1 ≤ 3 ∧
    4 ≤ 4) ∧
    (wLaneTestRunsInService2.takes 0 hU 0x0105 ∧
    wLaneTestRunsInService2.eng.sys.mode ≠ .service ∧
    43 < 62 ∧
    3 ≤ 3 ∧
    4 ≤ 4) :=
  ⟨⟨show (wLaneTestRunsInService1.eng.at 0).intake hU 0x0105 = Admit.go from by decide +kernel, by decide +kernel⟩,
   ⟨show (wLaneTestRunsInService2.eng.at 0).intake hU 0x0105 = Admit.go from by decide +kernel, by decide +kernel⟩⟩

def wSensorPacketsBuildFrame1 : State :=
  live [sen0] (up0 none)

def wSensorPacketsBuildFrame1b : State :=
  live [sen0] fun e => (up0 none e).modPort 0 fun q => { q with lastSfc := some 9, owed := [4] }

def wSensorPacketsBuildFrame2 : State :=
  live [sen0] (up0 (some fr0))

def wSensorPacketsBuildFrame3 : State :=
  live [sen0] (up0 (some { fr0 with cur := some ⟨0, [], []⟩, nextLine := 1 }))

def wSensorPacketsBuildFrame4 : State :=
  live [sen0] (up0 (some fr0))

def wSensorPacketsBuildFrame5 : State :=
  live [sen0] (up0 (some { fr0 with cur := some ⟨0, (List.range 8).map fun i => (i, 9), []⟩, nextLine := 1 }))

/-- The hypotheses of SensorPacketsBuildFrame can be met, clause by clause. -/
theorem witness_SensorPacketsBuildFrame :
    ((wSensorPacketsBuildFrame1.eng.at 0).goodPacket (0 : Fin 2) 1 (sopOf 1 0 0 0 0 0) (le 8 6) (crcOf (sopOf 1 0 0 0 0 0) (le 8 6)) ∧
    (wSensorPacketsBuildFrame1.eng.port (0 : Fin 2)).frame = none) ∧
    ((wSensorPacketsBuildFrame1b.eng.at 0).goodPacket (0 : Fin 2) 1 (sopOf 1 0 0 0 0 0) (le 8 6) (crcOf (sopOf 1 0 0 0 0 0) (le 8 6)) ∧
    (wSensorPacketsBuildFrame1b.eng.port (0 : Fin 2)).frame = none) ∧
    ((wSensorPacketsBuildFrame2.eng.at 0).goodPacket (0 : Fin 2) 2 (sopOf 2 0 0 0 0 0) [] (crcOf (sopOf 2 0 0 0 0 0) []) ∧
    (wSensorPacketsBuildFrame2.eng.port (0 : Fin 2)).frame = some fr0 ∧
    fr0.cur = none ∧
    fr0.nextLine < wSensorPacketsBuildFrame2.eng.cfg.lines (0 : Fin 2) ∧
    (pktHdr (sopOf 2 0 0 0 0 0)).line = fr0.nextLine) ∧
    ((wSensorPacketsBuildFrame3.eng.at 0).goodPacket (0 : Fin 2) 3 (sopOf 3 0 0 0 0 0) (le 16 0x123456789ABC) (crcOf (sopOf 3 0 0 0 0 0) (le 16 0x123456789ABC)) ∧
    (wSensorPacketsBuildFrame3.eng.port (0 : Fin 2)).frame = some ({ fr0 with cur := some ⟨0, [], []⟩, nextLine := 1 }) ∧
    ({ fr0 with cur := some ⟨0, [], []⟩, nextLine := 1 }).cur = some (LineBuf.mk 0 [] []) ∧
    (pktHdr (sopOf 3 0 0 0 0 0)).line = (LineBuf.mk 0 [] []).line ∧
    (LineBuf.mk 0 [] []).line < wSensorPacketsBuildFrame3.eng.cfg.lines (0 : Fin 2) ∧
    nextCol (if (pktHdr (sopOf 3 0 0 0 0 0)).conv = 0 then (LineBuf.mk 0 [] []).conv0 else (LineBuf.mk 0 [] []).conv1) ≤ (pktHdr (sopOf 3 0 0 0 0 0)).arg) ∧
    ((wSensorPacketsBuildFrame4.eng.at 0).goodPacket (0 : Fin 2) 4 (sopOf 4 0 0 0 0 0) (le 8 0x500000003) (crcOf (sopOf 4 0 0 0 0 0) (le 8 0x500000003)) ∧
    (wSensorPacketsBuildFrame4.eng.port (0 : Fin 2)).frame = some fr0) ∧
    ((wSensorPacketsBuildFrame5.eng.at 0).goodPacket (0 : Fin 2) 5 (sopOf 5 0 0 0 0 0) [] (crcOf (sopOf 5 0 0 0 0 0) []) ∧
    (wSensorPacketsBuildFrame5.eng.port (0 : Fin 2)).frame = some ({ fr0 with cur := some ⟨0, (List.range 8).map fun i => (i, 9), []⟩, nextLine := 1 }) ∧
    ({ fr0 with cur := some ⟨0, (List.range 8).map fun i => (i, 9), []⟩, nextLine := 1 }).cur = some (LineBuf.mk 0 ((List.range 8).map fun i => (i, 9)) []) ∧
    (pktHdr (sopOf 5 0 0 0 0 0)).line = (LineBuf.mk 0 ((List.range 8).map fun i => (i, 9)) []).line ∧
    wSensorPacketsBuildFrame5.eng.cfg.width (0 : Fin 2) ≤ (LineBuf.mk 0 ((List.range 8).map fun i => (i, 9)) []).conv0.length ∧
    ((wSensorPacketsBuildFrame5.eng.cfg.dualConv (0 : Fin 2) = true → wSensorPacketsBuildFrame5.eng.cfg.width (0 : Fin 2) ≤ (LineBuf.mk 0 ((List.range 8).map fun i => (i, 9)) []).conv1.length))) :=
  ⟨⟨by unfold Engine.goodPacket; decide +kernel, by decide +kernel⟩,
   ⟨by unfold Engine.goodPacket; decide +kernel, by decide +kernel⟩,
   ⟨by unfold Engine.goodPacket; decide +kernel, by decide +kernel⟩,
   ⟨by unfold Engine.goodPacket; decide +kernel, by decide +kernel⟩,
   ⟨by unfold Engine.goodPacket; decide +kernel, by decide +kernel⟩,
   ⟨by unfold Engine.goodPacket; decide +kernel, by decide +kernel⟩⟩

def wFrameEndProducesRecord1 : State :=
  live [sen0] (up0 (some fr0))

def wFrameEndProducesRecord2 : State :=
  live [sen0] fun e => (up0 (some { fr0 with cfn := some 4 }) e).modPort 0 fun q => { q with owed := [4, 5] }

def wFrameEndProducesRecord3 : State :=
  live [sen0] fun e => (up0 none e).modPort 0 fun q => { q with owed := [4, 5] }

/-- The hypotheses of FrameEndProducesRecord can be met, clause by clause. -/
theorem witness_FrameEndProducesRecord :
    ((wFrameEndProducesRecord1.eng.at 0).goodPacket (0 : Fin 2) 6 (sopOf 6 0 0 0 0 0) (le 8 6) (crcOf (sopOf 6 0 0 0 0 0) (le 8 6)) ∧
    (wFrameEndProducesRecord1.eng.port (0 : Fin 2)).frame = some fr0 ∧
    fr0.cur = none ∧
    fr0.cfn = none) ∧
    ((wFrameEndProducesRecord2.eng.at 0).goodPacket (0 : Fin 2) 6 (sopOf 6 0 0 0 0 0) (le 8 6) (crcOf (sopOf 6 0 0 0 0 0) (le 8 6)) ∧
    (wFrameEndProducesRecord2.eng.port (0 : Fin 2)).frame = some ({ fr0 with cfn := some 4 }) ∧
    ({ fr0 with cfn := some 4 }).cur = none ∧
    ({ fr0 with cfn := some 4 }).cfn = some 4) ∧
    (wFrameEndProducesRecord3.eng.sys.phase = .running ∧
    (wFrameEndProducesRecord3.eng.port (0 : Fin 2)).frame = none ∧
    ((wFrameEndProducesRecord3.eng.port (0 : Fin 2)).owed.find? fun x => decide ((wFrameEndProducesRecord3.eng.at (secs 1)).frameDeadline (0 : Fin 2) x ≤ (wFrameEndProducesRecord3.eng.at (secs 1)).now)) = some 4) :=
  ⟨⟨by unfold Engine.goodPacket; decide +kernel, by decide +kernel⟩,
   ⟨by unfold Engine.goodPacket; decide +kernel, by decide +kernel⟩,
   by decide +kernel⟩

def wSensorLinkTrains1 : State :=
  live [sen0] fun e => e.modPort 0 fun q => { q with link := .resetting, window := [(5, 0, 17, 18, false), (5, 0, 19, 20, false)] }

def wSensorLinkTrains2 : State :=
  live [sw 0x10 127 [(4, [(31, 24, 5), (23, 12, 7)])]] fun e => e.modPort 0 fun q => { q with link := .resetting, window := [(5, 0, 17, 18, false)] }

def wSensorLinkTrains3 : State :=
  live [sen0] fun e => e.modPort 0 fun q => { q with link := .resetting, window := [(5, 0, 17, 18, false)] }

def wSensorLinkTrains4 : State :=
  live [sen0, sw 3 63 [(0, [(27, 24, 2)]), (1, [(27, 24, 2)])]] fun e => { (e.modPort 0 fun q => { q with link := .training }) with lanes := e.lanes.map fun q => { q with step := 4, pllLock := true, cdrLock := true, pcsLock := true } }

def wSensorLinkTrains5 : State :=
  live [sen0] fun e => (up0 none e).modPort 0 fun q => { q with prevAlign := 255, alignErrs := 2 }

def wSensorLinkTrains6 : State :=
  live [sen0] (up0 none)

def wSensorLinkTrains7 : State :=
  live [sen0] fun e => e.modPort 0 fun q => { q with link := .training, trainTry := 3 }

def wSensorLinkTrains8 : State :=
  live [sen0] (up0 none)

/-- The hypotheses of SensorLinkTrains can be met, clause by clause. -/
theorem witness_SensorLinkTrains :
    (wSensorLinkTrains1.eng.sys.phase = .running ∧
    (wSensorLinkTrains1.eng.port (0 : Fin 2)).link = .resetting ∧
    (wSensorLinkTrains1.eng.at (secs 1)).rstWaited (0 : Fin 2) = true ∧
    (wSensorLinkTrains1.eng.port (0 : Fin 2)).window = (5, 0, 17, 18, false) :: ([(5, 0, 19, 20, false)])) ∧
    (wSensorLinkTrains2.eng.sys.phase = .running ∧
    (wSensorLinkTrains2.eng.port (0 : Fin 2)).link = .resetting ∧
    (wSensorLinkTrains2.eng.at 0).rstWaited (0 : Fin 2) = false) ∧
    (wSensorLinkTrains3.eng.sys.phase = .running ∧
    (wSensorLinkTrains3.eng.port (0 : Fin 2)).link = .resetting ∧
    (wSensorLinkTrains3.eng.at (secs 1)).rstWaited (0 : Fin 2) = true) ∧
    (wSensorLinkTrains4.eng.sys.phase = .running ∧
    (wSensorLinkTrains4.eng.port (0 : Fin 2)).link = .training ∧
    64 ≤ 64 ∧
    ([0, 0]) ≠ [] ∧
    wSensorLinkTrains4.eng.lanesReady (0 : Fin 2) = true ∧
    ((∀ x ∈ ([0, 0]), x = 0))) ∧
    (wSensorLinkTrains5.eng.sys.phase = .running ∧
    (wSensorLinkTrains5.eng.port (0 : Fin 2)).link = .up ∧
    64 ≤ 64 ∧
    ([0, 0]) ≠ [] ∧
    ((∀ x ∈ ([0, 0]), x = ((wSensorLinkTrains5.eng.port (0 : Fin 2)).prevAlign + 1) % 256)) ∧
    ([16383, 16383]).length = ([0, 0]).length ∧
    ((∀ x ∈ ([16383, 16383]), x = 16383))) ∧
    (wSensorLinkTrains6.eng.sys.phase = .running ∧
    (wSensorLinkTrains6.eng.port (0 : Fin 2)).link = .up ∧
    (wSensorLinkTrains6.eng.port (0 : Fin 2)).frame = none) ∧
    (wSensorLinkTrains7.eng.sys.phase = .running ∧
    (wSensorLinkTrains7.eng.port (0 : Fin 2)).link = .training ∧
    (wSensorLinkTrains7.eng.port (0 : Fin 2)).trainAt + ms (wSensorLinkTrains7.eng.cfg.trainMs (0 : Fin 2) + 2) ≤ (wSensorLinkTrains7.eng.at (secs 1)).now ∧
    wSensorLinkTrains7.eng.cfg.trainTries (0 : Fin 2) ≤ (wSensorLinkTrains7.eng.port (0 : Fin 2)).trainTry) ∧
    (wSensorLinkTrains8.eng.sys.phase = .running ∧
    wSensorLinkTrains8.eng.streaming (0 : Fin 2) = true ∧
    (wSensorLinkTrains8.eng.port (0 : Fin 2)).awaitFs = false) :=
  ⟨by decide +kernel,
   (by decide +kernel),
   by decide +kernel,
   (by decide +kernel),
   by decide +kernel,
   (by decide +kernel),
   by decide +kernel,
   (by decide +kernel)⟩

def wCaptureTimingAdvances1 : State :=
  live [sen0, { sw 0x13 3 [(0, [(0, 0, 1)])] with param := 2 }] fun e => { e with proj := { e.proj with started := true, slot := 1 } }

def wCaptureTimingAdvances2 : State :=
  live [sen0] fun e => { e.modPort 0 fun q => { q with joined := true } with
    proj := { e.proj with started := true, run := true, baseCfn := 7, nextCfn := 7 } }

def wCaptureTimingAdvances3 : State :=
  live [sen0] fun e => { e.modPort 1 fun q => { q with joined := true, nextTrig := 0xFFFFFFFF } with
    proj := { e.proj with started := true, run := true } }

def wCaptureTimingAdvances4 : State :=
  live [] id

/-- The hypotheses of CaptureTimingAdvances can be met, clause by clause. -/
theorem witness_CaptureTimingAdvances :
    (wCaptureTimingAdvances1.eng.sys.phase = .running ∧
    wCaptureTimingAdvances1.eng.proj.started = true ∧
    wCaptureTimingAdvances1.eng.proj.slot < wCaptureTimingAdvances1.eng.cfg.phases ∧
    wCaptureTimingAdvances1.eng.proj.run = false ∧
    ((∀ x, wCaptureTimingAdvances1.eng.rec_.play = some x → x.queue = []))) ∧
    (wCaptureTimingAdvances2.eng.sys.phase = .running ∧
    wCaptureTimingAdvances2.eng.proj.started = true ∧
    wCaptureTimingAdvances2.eng.proj.slot < wCaptureTimingAdvances2.eng.cfg.phases ∧
    wCaptureTimingAdvances2.eng.captured wCaptureTimingAdvances2.eng.proj.slot = true ∧
    (wCaptureTimingAdvances2.eng.port (0 : Fin 2)).joined = true ∧
    ((∀ x, wCaptureTimingAdvances2.eng.rec_.play = some x → x.queue = []))) ∧
    (wCaptureTimingAdvances3.eng.sys.phase = .running ∧
    wCaptureTimingAdvances3.eng.proj.run = true ∧
    (wCaptureTimingAdvances3.eng.port (1 : Fin 2)).joined = true ∧
    wCaptureTimingAdvances3.eng.clk.classV = false ∧
    (wCaptureTimingAdvances3.eng.at 0).lengthening = false) ∧
    (wCaptureTimingAdvances4.eng.sys.phase = .running ∧
    wCaptureTimingAdvances4.eng.sys.pend = [] ∧
    wCaptureTimingAdvances4.eng.proj.run = false ∧
    wCaptureTimingAdvances4.eng.sys.sensorsLive = false ∧
    wCaptureTimingAdvances4.eng.clk.classV = false ∧
    wCaptureTimingAdvances4.eng.rec_.takes = [] ∧
    wCaptureTimingAdvances4.eng.phaseIn.realign = false) :=
  ⟨⟨by decide +kernel, (by decide +kernel), by decide +kernel, (by decide +kernel), fun _ h => nomatch h⟩,
   ⟨by decide +kernel, (by decide +kernel), by decide +kernel, (by decide +kernel), by decide +kernel, fun _ h => nomatch h⟩,
   by decide +kernel,
   (by decide +kernel)⟩

def wModeChangesTakeEffectAtBoundary1 : State :=
  live [] id

def wModeChangesTakeEffectAtBoundary2 : State :=
  live [] fun e => { e with sys := { e.sys with lampOpen := true, mode := .service } }

def wModeChangesTakeEffectAtBoundary2b : State :=
  live [] id

def wModeChangesTakeEffectAtBoundary3 : State :=
  live [] fun e => { e with sys := { e.sys with autoDue := true } }

def wModeChangesTakeEffectAtBoundary4 : State :=
  live [] fun e => { e with sys := { e.sys with pend := [.mk .request .offload false (ms 2) none false none 0x0101 0 false [] 0 none true] } }

/-- The hypotheses of ModeChangesTakeEffectAtBoundary can be met, clause by clause. -/
theorem witness_ModeChangesTakeEffectAtBoundary :
    (wModeChangesTakeEffectAtBoundary1.takes 0 hU 0x0101 ∧
    modeOf 4 = some Mode.offload ∧
    wModeChangesTakeEffectAtBoundary1.eng.sys.lampOpen = false ∧
    modeAllowed wModeChangesTakeEffectAtBoundary1.eng.modeThen Mode.offload = true) ∧
    (wModeChangesTakeEffectAtBoundary2.takes 0 hU 0x0101 ∧
    modeOf 1 = some Mode.preview ∧
    (wModeChangesTakeEffectAtBoundary2.eng.sys.lampOpen = true ∨ modeAllowed wModeChangesTakeEffectAtBoundary2.eng.modeThen Mode.preview = false)) ∧
    (wModeChangesTakeEffectAtBoundary2b.takes 0 hU 0x0101 ∧
    modeOf 2 = some Mode.record ∧
    (wModeChangesTakeEffectAtBoundary2b.eng.sys.lampOpen = true ∨ modeAllowed wModeChangesTakeEffectAtBoundary2b.eng.modeThen Mode.record = false)) ∧
    (wModeChangesTakeEffectAtBoundary3.eng.sys.phase = .running ∧
    wModeChangesTakeEffectAtBoundary3.eng.sys.autoDue = true ∧
    (wModeChangesTakeEffectAtBoundary3.eng.at (secs 10)).autoMoment = true ∧
    wModeChangesTakeEffectAtBoundary3.eng.sys.lampOpen = false ∧
    modeAllowed wModeChangesTakeEffectAtBoundary3.eng.modeThen .preview = true) ∧
    (wModeChangesTakeEffectAtBoundary4.eng.sys.phase = .running ∧
    wModeChangesTakeEffectAtBoundary4.eng.sys.pend = [(PendMode.mk .request .offload false (ms 2) none false none 0x0101 0 false [] 0 none true)] ∧
    (PendMode.mk .request .offload false (ms 2) none false none 0x0101 0 false [] 0 none true).kind = .request ∧
    (PendMode.mk .request .offload false (ms 2) none false none 0x0101 0 false [] 0 none true).mode = .offload ∧
    (PendMode.mk .request .offload false (ms 2) none false none 0x0101 0 false [] 0 none true).preview = false ∧
    (PendMode.mk .request .offload false (ms 2) none false none 0x0101 0 false [] 0 none true).held = false ∧
    (PendMode.mk .request .offload false (ms 2) none false none 0x0101 0 false [] 0 none true).cfn = none ∧
    (PendMode.mk .request .offload false (ms 2) none false none 0x0101 0 false [] 0 none true).told = true ∧
    (PendMode.mk .request .offload false (ms 2) none false none 0x0101 0 false [] 0 none true).notBefore ≤ (wModeChangesTakeEffectAtBoundary4.eng.at (ms 2)).now ∧
    wModeChangesTakeEffectAtBoundary4.eng.sys.mode = .standby ∧
    wModeChangesTakeEffectAtBoundary4.eng.proj.run = false ∧
    wModeChangesTakeEffectAtBoundary4.eng.clk.classV = false ∧
    wModeChangesTakeEffectAtBoundary4.eng.rec_.takes = [] ∧
    wModeChangesTakeEffectAtBoundary4.eng.phaseIn.realign = false) :=
  ⟨⟨show (wModeChangesTakeEffectAtBoundary1.eng.at 0).intake hU 0x0101 = Admit.go from by decide +kernel, by decide +kernel⟩,
   ⟨show (wModeChangesTakeEffectAtBoundary2.eng.at 0).intake hU 0x0101 = Admit.go from by decide +kernel, by decide +kernel⟩,
   ⟨show (wModeChangesTakeEffectAtBoundary2b.eng.at 0).intake hU 0x0101 = Admit.go from by decide +kernel, by decide +kernel⟩,
   by decide +kernel,
   by decide +kernel⟩

def wRecordControlsPend1 : State :=
  live [sw 0x50 4 [(0, [(30, 30, 1), (29, 26, 1)])]] fun e => { e.modMedia 0 fun q => { q with state := .mounted, qual := some 4000, free := 1 } with
    sys := { e.sys with mode := .preview } }

def wRecordControlsPend2 : State :=
  live [sw 0x50 4 [(0, [(30, 30, 1), (29, 26, 1)])], sw 0x81 3 [(0, [(31, 31, 1)]), (1, [(31, 0, 5)])]] fun e =>
    { e.modMedia 0 fun q => { q with state := .mounted, qual := some 4000, free := 1 } with sys := { e.sys with mode := .preview } }

def wRecordControlsPend3 : State :=
  live [] fun e => { e with sys := { e.sys with mode := .record } }

def wRecordControlsPend4 : State :=
  live [sw 0x81 3 [(0, [(31, 31, 1)]), (1, [(31, 0, 5)])]] fun e => { e with sys := { e.sys with mode := .record } }

def wRecordControlsPend5 : State :=
  live [] fun e => { e with sys := { e.sys with mode := .preview } }

def wRecordControlsPend6 : State :=
  live [] fun e => { e with sys := { e.sys with mode := .preview } }

/-- The hypotheses of RecordControlsPend can be met, clause by clause. -/
theorem witness_RecordControlsPend :
    (wRecordControlsPend1.takes 0 hU 0x0301 ∧
    (Target.mk 0 true 0 0).asap = true ∧
    targetOk (Target.mk 0 true 0 0) false false = true ∧
    wRecordControlsPend1.eng.modeThen = .preview ∧
    wRecordControlsPend1.eng.proj.run = false ∧
    (((wRecordControlsPend1.eng.at 0).received hU 0x0301).readVolumes ([VolNow.mk 0 1 []])).recordRefusal wRecordControlsPend1.ks wRecordControlsPend1.eng.rec_.reel none = none) ∧
    (wRecordControlsPend2.takes 0 hU 0x0803 ∧
    wRecordControlsPend2.eng.cfg.arrayEn = true ∧
    wRecordControlsPend2.eng.cfg.sharedClip = false ∧
    wRecordControlsPend2.eng.cfg.arrayId = 5 ∧
    wRecordControlsPend2.eng.modeThen = .preview ∧
    wRecordControlsPend2.eng.proj.run = false ∧
    (((wRecordControlsPend2.eng.at 0).received hU 0x0803).readVolumes ([VolNow.mk 0 1 []])).recordRefusal wRecordControlsPend2.ks wRecordControlsPend2.eng.rec_.reel none = none) ∧
    (wRecordControlsPend3.takes 0 hU 0x0302 ∧
    (Target.mk 0 true 0 0).asap = true ∧
    targetOk (Target.mk 0 true 0 0) false false = true ∧
    wRecordControlsPend3.eng.modeThen = .record ∧
    wRecordControlsPend3.eng.proj.run = false) ∧
    (wRecordControlsPend4.takes 0 hU 0x0804 ∧
    wRecordControlsPend4.eng.cfg.arrayEn = true ∧
    wRecordControlsPend4.eng.cfg.arrayId = 5 ∧
    wRecordControlsPend4.eng.modeThen = .record ∧
    wRecordControlsPend4.eng.proj.run = false) ∧
    (wRecordControlsPend5.takes 0 hU 0x0301 ∧
    (Target.mk 9 false 0 0).asap = false ∧
    targetOk (Target.mk 9 false 0 0) false false = true ∧
    wRecordControlsPend5.eng.modeThen = .preview ∧
    wRecordControlsPend5.eng.proj.run = false) ∧
    (wRecordControlsPend6.takes 0 hU 0x0301 ∧
    (Target.mk 0 true 0 0).asap = true ∧
    targetOk (Target.mk 0 true 0 0) false false = true ∧
    wRecordControlsPend6.eng.modeThen = .preview ∧
    wRecordControlsPend6.eng.proj.run = false ∧
    (((wRecordControlsPend6.eng.at 0).received hU 0x0301).readVolumes ([])).recordRefusal wRecordControlsPend6.ks wRecordControlsPend6.eng.rec_.reel none = some 1) :=
  ⟨⟨show (wRecordControlsPend1.eng.at 0).intake hU 0x0301 = Admit.go from by decide +kernel, by decide +kernel⟩,
   ⟨show (wRecordControlsPend2.eng.at 0).intake hU 0x0803 = Admit.go from by decide +kernel, by decide +kernel⟩,
   ⟨show (wRecordControlsPend3.eng.at 0).intake hU 0x0302 = Admit.go from by decide +kernel, by decide +kernel⟩,
   ⟨show (wRecordControlsPend4.eng.at 0).intake hU 0x0804 = Admit.go from by decide +kernel, by decide +kernel⟩,
   ⟨show (wRecordControlsPend5.eng.at 0).intake hU 0x0301 = Admit.go from by decide +kernel, by decide +kernel⟩,
   ⟨show (wRecordControlsPend6.eng.at 0).intake hU 0x0301 = Admit.go from by decide +kernel, by decide +kernel⟩⟩

def wSensorSettingsScheduled1 : State :=
  live [sen0w] id

def wSensorSettingsScheduled2 : State :=
  live [sen0w] id

def wSensorSettingsScheduled3 : State :=
  live [sen0w] fun e => { e.modPort 0 fun q => { q with link := .up, joined := true } with proj := { e.proj with started := true, run := true } }

def wSensorSettingsScheduled4 : State :=
  live [sen0w] fun e => { e.modPort 0 fun q => { q with link := .up, joined := true, listOk := false } with proj := { e.proj with started := true, run := true } }

def wSensorSettingsScheduled5 : State :=
  live [sen0w] fun e => { e.modPort 0 fun q => { q with link := .up, joined := true } with proj := { e.proj with started := true, run := true } }

def wSensorSettingsScheduled6 : State :=
  live [] id

/-- The hypotheses of SensorSettingsScheduled can be met, clause by clause. -/
theorem witness_SensorSettingsScheduled :
    (wSensorSettingsScheduled1.takes 0 hU 0x0201 ∧
    targetOk (Target.mk 0 true 0 1) true true = true ∧
    1 ≤ 15 ∧
    (wSensorSettingsScheduled1.eng.at 0).settingsRefusal (Target.mk 0 true 0 1).port (Target.mk 0 true 0 1).phaseMask 1 0 0 = none ∧
    (wSensorSettingsScheduled1.eng.proj.run || (Target.mk 0 true 0 1).asap) = true) ∧
    (wSensorSettingsScheduled2.takes 0 hU 0x0201 ∧
    targetOk (Target.mk 9 false 0 1) true true = true ∧
    1 ≤ 15 ∧
    (wSensorSettingsScheduled2.eng.at 0).settingsRefusal (Target.mk 9 false 0 1).port (Target.mk 9 false 0 1).phaseMask 1 0 0 = none ∧
    wSensorSettingsScheduled2.eng.proj.run = false ∧
    (Target.mk 9 false 0 1).asap = false) ∧
    (wSensorSettingsScheduled3.eng.sys.phase = .running ∧
    wSensorSettingsScheduled3.eng.proj.run = true ∧
    (wSensorSettingsScheduled3.eng.port (0 : Fin 2)).joined = true ∧
    wSensorSettingsScheduled3.eng.cfg.winLen (0 : Fin 2) ≠ 0 ∧
    (wSensorSettingsScheduled3.eng.port (0 : Fin 2)).listOk = true) ∧
    (wSensorSettingsScheduled4.eng.sys.phase = .running ∧
    wSensorSettingsScheduled4.eng.proj.run = true ∧
    (wSensorSettingsScheduled4.eng.port (0 : Fin 2)).joined = true ∧
    wSensorSettingsScheduled4.eng.cfg.winLen (0 : Fin 2) ≠ 0 ∧
    (wSensorSettingsScheduled4.eng.port (0 : Fin 2)).listOk = false) ∧
    (wSensorSettingsScheduled5.eng.sys.phase = .running ∧
    wSensorSettingsScheduled5.eng.proj.run = true ∧
    (wSensorSettingsScheduled5.eng.port (0 : Fin 2)).joined = true ∧
    wSensorSettingsScheduled5.eng.cfg.winLen (0 : Fin 2) ≠ 0) ∧
    (wSensorSettingsScheduled6.eng.sys.phase = .running) :=
  ⟨⟨show (wSensorSettingsScheduled1.eng.at 0).intake hU 0x0201 = Admit.go from by decide +kernel, by decide +kernel⟩,
   ⟨show (wSensorSettingsScheduled2.eng.at 0).intake hU 0x0201 = Admit.go from by decide +kernel, by decide +kernel⟩,
   by decide +kernel,
   (by decide +kernel),
   by decide +kernel,
   (by decide +kernel)⟩

def wPhaseInFollowed1 : State :=
  live [{ sw 0x13 3 [(0, [(31, 24, 1), (2, 2, 1)])] with param := 2 }] fun e => { e with proj := { e.proj with started := true } }

def wPhaseInFollowed2 : State :=
  live [{ sw 0x13 3 [(0, [(23, 20, 2), (2, 2, 1)])] with param := 2 }] fun e => { e with proj := { e.proj with started := true }, phaseIn := { e.phaseIn with lock := true, misses := 1 } }

def wPhaseInFollowed2b : State :=
  live [{ sw 0x13 3 [(0, [(23, 20, 2), (2, 2, 1)])] with param := 2 }] fun e => { e with proj := { e.proj with started := true }, phaseIn := { e.phaseIn with lock := true, misses := 0 } }

/-- The hypotheses of PhaseInFollowed can be met, clause by clause. -/
theorem witness_PhaseInFollowed :
    (wPhaseInFollowed1.eng.sys.phase = .running ∧
    wPhaseInFollowed1.eng.has 0x0013 = true ∧
    wPhaseInFollowed1.eng.cfg.phaseSrc = true ∧
    wPhaseInFollowed1.eng.proj.started = true ∧
    wPhaseInFollowed1.eng.proj.run = false ∧
    (((wPhaseInFollowed1.eng.at (us 1)).now : Int) - (wPhaseInFollowed1.eng.at (us 1)).predictedStrobe).natAbs ≤ us wPhaseInFollowed1.eng.cfg.inTol) ∧
    (wPhaseInFollowed2.eng.sys.phase = .running ∧
    wPhaseInFollowed2.eng.has 0x0013 = true ∧
    wPhaseInFollowed2.eng.cfg.phaseSrc = true ∧
    wPhaseInFollowed2.eng.proj.started = true) ∧
    (wPhaseInFollowed2b.eng.sys.phase = .running ∧
    wPhaseInFollowed2b.eng.has 0x0013 = true ∧
    wPhaseInFollowed2b.eng.cfg.phaseSrc = true ∧
    wPhaseInFollowed2b.eng.proj.started = true) :=
  ⟨by decide +kernel,
   (by decide +kernel),
   by decide +kernel⟩

def wAuxiliaryCameraFrames1 : State :=
  live [sw 0x12 2 [(1, [(31, 24, 1)])]] fun e => { e with aux := { e.aux with lastVs := some 0, nextAfn := 0xFFFFFFFF } }

def wAuxiliaryCameraFrames2 : State :=
  live [sw 0x12 2 [(0, [(26, 26, 1)])]] id

def wAuxiliaryCameraFrames3 : State :=
  live [sw 0x12 2 [(1, [(31, 24, 1)])]] fun e => { e with aux := { e.aux with lastVs := some 0 } }

def wAuxiliaryCameraFrames4 : State :=
  live [sw 0x12 2 [(0, [(23, 12, 1), (11, 0, 0)])]] fun e => { e with aux := { e.aux with cur := some (4, -5) } }

def wAuxiliaryCameraFrames5 : State :=
  live [sw 0x12 2 []] id

def wAuxiliaryCameraFrames6 : State :=
  live [] fun e => { e with cluster := { e.cluster with cal := vmod e.cluster.cal 1 fun _ => some ⟨[7, 8], 1, 3, 3, 0, 1000, 0⟩ } }

/-- The hypotheses of AuxiliaryCameraFrames can be met, clause by clause. -/
theorem witness_AuxiliaryCameraFrames :
    (wAuxiliaryCameraFrames1.eng.sys.phase = .running ∧
    wAuxiliaryCameraFrames1.eng.auxOn = true ∧
    true ≠ wAuxiliaryCameraFrames1.eng.cfg.auxVsLow ∧
    ((∀ v, wAuxiliaryCameraFrames1.eng.aux.lastVs = some v → secs 1 ≤ ((wAuxiliaryCameraFrames1.eng.at (secs 1)).now - v) * wAuxiliaryCameraFrames1.eng.cfg.auxMaxRate))) ∧
    (true = wAuxiliaryCameraFrames2.eng.cfg.auxVsLow) ∧
    (wAuxiliaryCameraFrames3.eng.sys.phase = .running ∧
    wAuxiliaryCameraFrames3.eng.auxOn = true ∧
    true ≠ wAuxiliaryCameraFrames3.eng.cfg.auxVsLow ∧
    wAuxiliaryCameraFrames3.eng.aux.lastVs = some 0 ∧
    ((wAuxiliaryCameraFrames3.eng.at (ms 999)).now - 0) * wAuxiliaryCameraFrames3.eng.cfg.auxMaxRate < secs 1) ∧
    (wAuxiliaryCameraFrames4.eng.sys.phase = .running ∧
    wAuxiliaryCameraFrames4.eng.auxOn = true ∧
    wAuxiliaryCameraFrames4.eng.aux.cur = some (4, (-5)) ∧
    (wAuxiliaryCameraFrames4.eng.has 0x0022 && wAuxiliaryCameraFrames4.eng.cfg.statsAux) = false) ∧
    (wAuxiliaryCameraFrames5.eng.sys.phase = .running ∧
    wAuxiliaryCameraFrames5.eng.auxOn = true ∧
    wAuxiliaryCameraFrames5.eng.aux.stale = false ∧
    wAuxiliaryCameraFrames5.eng.aux.lastDone + ms 100 ≤ (wAuxiliaryCameraFrames5.eng.at (ms 100)).now) ∧
    (wAuxiliaryCameraFrames6.eng.sys.phase = .running ∧
    vget wAuxiliaryCameraFrames6.eng.cluster.cal (1 : Fin 2) none = some (CalCap.mk [7, 8] 1 3 3 0 1000 0) ∧
    wAuxiliaryCameraFrames6.eng.cfg.calFrames ≤ (CalCap.mk [7, 8] 1 3 3 0 1000 0).frames) :=
  ⟨⟨by decide +kernel, (by decide +kernel), by decide +kernel, fun v h => by cases (show some 0 = some v from h); decide +kernel⟩,
   by decide +kernel,
   by decide +kernel,
   (by decide +kernel),
   by decide +kernel,
   (by decide +kernel)⟩

def wSceneControlsLand1 : State :=
  live [sen0, colour0] id

def wSceneControlsLand2 : State :=
  live [sw 0x20 8 []] id

def wSceneControlsLand2b : State :=
  live [sw 0x20 8 []] fun e => { e with proj := { e.proj with started := true, run := true } }

def wSceneControlsLand3 : State :=
  live [sw 0x20 8 []] id

def wSceneControlsLand4 : State :=
  live [sw 0x36 12 []] id

def wSceneControlsLand4b : State :=
  live [sw 0x31 12 []] fun e => { e with colour := { e.colour with slots := vmod e.colour.slots 15 fun _ => some (0, ⟨1, 0, 0, []⟩) } }

def wSceneControlsLand5 : State :=
  live [sw 0x20 8 [], sw 0xD0 17 [(0, [(5, 0, 1)]), (5, [(7, 0, 128)])]] id

/-- The hypotheses of SceneControlsLand can be met, clause by clause. -/
theorem witness_SceneControlsLand :
    (wSceneControlsLand1.takes 0 hU 0x0202 ∧
    targetOk (Target.mk 0 true 0 0) true false = true ∧
    -128 ≤ (-128) ∧
    (-128) ≤ 127 ∧
    wSceneControlsLand1.eng.wbRefusal (Target.mk 0 true 0 0).port 4000 (-128) 800 = none ∧
    (wSceneControlsLand1.eng.proj.run || (Target.mk 0 true 0 0).asap) = true) ∧
    (wSceneControlsLand2.takes 0 hU 0x0205 ∧
    targetOk (Target.mk 0 true 0 0) false false = true ∧
    240 ≤ 240 ∧
    wSceneControlsLand2.eng.has 0x0020 = true ∧
    (wSceneControlsLand2.eng.proj.run || (Target.mk 0 true 0 0).asap) = true) ∧
    (wSceneControlsLand2b.takes 0 hU 0x0205 ∧
    targetOk (Target.mk 3 false 0 0) false false = true ∧
    0 ≤ 240 ∧
    wSceneControlsLand2b.eng.has 0x0020 = true ∧
    (wSceneControlsLand2b.eng.proj.run || (Target.mk 3 false 0 0).asap) = true) ∧
    (wSceneControlsLand3.takes 0 hU 0x0205 ∧
    targetOk (Target.mk 3 false 0 0) false false = true ∧
    240 ≤ 240 ∧
    wSceneControlsLand3.eng.has 0x0020 = true ∧
    wSceneControlsLand3.eng.proj.run = false ∧
    (Target.mk 3 false 0 0).asap = false) ∧
    (wSceneControlsLand4.takes 0 hU 0x0203 ∧
    (Target.mk 0 true 0 0).asap = true ∧
    targetOk (Target.mk 0 true 0 0) false false = true ∧
    ([31, 31, 31, 31, 31, 31]).length = 6 ∧
    ([31, 31, 31, 31, 31, 31]).all slotCode = true ∧
    wSceneControlsLand4.eng.selectRefusal (5 : Fin 6) (([31, 31, 31, 31, 31, 31]).getD (5 : Fin 6) 31) = none ∧
    wSceneControlsLand4.eng.proj.run = false) ∧
    (wSceneControlsLand4b.takes 0 hU 0x0203 ∧
    (Target.mk 0 true 0 0).asap = true ∧
    targetOk (Target.mk 0 true 0 0) false false = true ∧
    ([15, 31, 31, 31, 31, 31]).length = 6 ∧
    ([15, 31, 31, 31, 31, 31]).all slotCode = true ∧
    wSceneControlsLand4b.eng.selectRefusal (0 : Fin 6) (([15, 31, 31, 31, 31, 31]).getD (0 : Fin 6) 31) = none ∧
    wSceneControlsLand4b.eng.proj.run = false) ∧
    (wSceneControlsLand5.takes 0 hU 0x0204 ∧
    targetOk (Target.mk 0 true 0 1) false true = true ∧
    0 < wSceneControlsLand5.eng.cf 0x00D0 0 5 0 ∧
    (wSceneControlsLand5.eng.at 0).profileRefusal 0 (Target.mk 0 true 0 1).phaseMask = none ∧
    (wSceneControlsLand5.eng.proj.run || (Target.mk 0 true 0 1).asap) = true) :=
  ⟨⟨show (wSceneControlsLand1.eng.at 0).intake hU 0x0202 = Admit.go from by decide +kernel, by decide +kernel⟩,
   ⟨show (wSceneControlsLand2.eng.at 0).intake hU 0x0205 = Admit.go from by decide +kernel, by decide +kernel⟩,
   ⟨show (wSceneControlsLand2b.eng.at 0).intake hU 0x0205 = Admit.go from by decide +kernel, by decide +kernel⟩,
   ⟨show (wSceneControlsLand3.eng.at 0).intake hU 0x0205 = Admit.go from by decide +kernel, by decide +kernel⟩,
   ⟨show (wSceneControlsLand4.eng.at 0).intake hU 0x0203 = Admit.go from by decide +kernel, by decide +kernel⟩,
   ⟨show (wSceneControlsLand4b.eng.at 0).intake hU 0x0203 = Admit.go from by decide +kernel, by decide +kernel⟩,
   ⟨show (wSceneControlsLand5.eng.at 0).intake hU 0x0204 = Admit.go from by decide +kernel, by decide +kernel⟩⟩

def wSelectionDeadlinesSlip1 : State :=
  live [] fun e => { e with proj := { e.proj with run := true, nextCfn := 9 }, colour := { e.colour with
    ports := vmod e.colour.ports 1 fun q => { q with pend := [⟨9, 4000, 0, 800, .uart, 0x0202, 7⟩] } } }

def wSelectionDeadlinesSlip2 : State :=
  live [] fun e => { e with proj := { e.proj with run := true, nextCfn := 9 }, colour := { e.colour with
    branches := vmod e.colour.branches 2 fun q => { q with sels := [⟨31, some 9, 0, .uart, 0x0203, 7⟩] } } }

def wSelectionDeadlinesSlip3 : State :=
  live [sw 0xD0 17 [(0, [(5, 0, 1)]), (5, [(7, 0, 128)])]] fun e => { e with proj := { e.proj with run := true, nextCfn := 9 }, md := { e.md with profs := [⟨9, 0, .uart, 7⟩] } }

def wSelectionDeadlinesSlip4 : State :=
  live [] id

def wSelectionDeadlinesSlip5 : State :=
  live [] id

/-- The hypotheses of SelectionDeadlinesSlip can be met, clause by clause. -/
theorem witness_SelectionDeadlinesSlip :
    (wSelectionDeadlinesSlip1.eng.sys.phase = .running ∧
    wSelectionDeadlinesSlip1.eng.proj.run = true ∧
    (vget wSelectionDeadlinesSlip1.eng.colour.ports (1 : Fin 2) ColourPort.reset).pend = [(WbChange.mk 9 4000 0 800 .uart 0x0202 7)] ∧
    (WbChange.mk 9 4000 0 800 .uart 0x0202 7).cfn = wSelectionDeadlinesSlip1.eng.proj.nextCfn ∧
    (WbChange.mk 9 4000 0 800 .uart 0x0202 7).ty ≠ 0x0204) ∧
    (wSelectionDeadlinesSlip2.eng.sys.phase = .running ∧
    wSelectionDeadlinesSlip2.eng.proj.run = true ∧
    ((∀ j : Fin 6, (vget wSelectionDeadlinesSlip2.eng.colour.branches j Branch.reset).sels = if j = (2 : Fin 6) then [(LutSel.mk 31 (some 9) 0 .uart 0x0203 7)] else [])) ∧
    ((∀ y ∈ wSelectionDeadlinesSlip2.eng.md.profs, y.cfn ≠ wSelectionDeadlinesSlip2.eng.proj.nextCfn)) ∧
    (LutSel.mk 31 (some 9) 0 .uart 0x0203 7).cfn = some wSelectionDeadlinesSlip2.eng.proj.nextCfn ∧
    (LutSel.mk 31 (some 9) 0 .uart 0x0203 7).ty ≠ 0x0204) ∧
    (wSelectionDeadlinesSlip3.eng.sys.phase = .running ∧
    wSelectionDeadlinesSlip3.eng.proj.run = true ∧
    ((∀ j : Fin 6, (vget wSelectionDeadlinesSlip3.eng.colour.branches j Branch.reset).sels = [])) ∧
    wSelectionDeadlinesSlip3.eng.md.profs = [(ProfSel.mk 9 0 .uart 7)] ∧
    (ProfSel.mk 9 0 .uart 7).cfn = wSelectionDeadlinesSlip3.eng.proj.nextCfn) ∧
    (wSelectionDeadlinesSlip4.eng.sys.phase = .running) ∧
    (wSelectionDeadlinesSlip5.eng.sys.phase = .running) :=
  ⟨by decide +kernel,
   (by decide +kernel),
   by decide +kernel,
   (by decide +kernel),
   by decide +kernel⟩

def wLutLoadsRunToTheirEnd1 : State :=
  live [sw 0x31 12 []] id

def wLutLoadsRunToTheirEnd2 : State :=
  live [] fun e => { e with colour := { e.colour with loads := [⟨[(15, 1, some 0)], none, none, [], none, false, false, .uart, 7⟩] } }

def wLutLoadsRunToTheirEnd3 : State :=
  live [] fun e => { e with colour := { e.colour with loads := [⟨[(15, 1, some 0)], none, none, [], none, false, false, .uart, 7⟩] } }

def wLutLoadsRunToTheirEnd4 : State :=
  live [] fun e => { e with colour := { e.colour with loads := [⟨[(15, 0, some 0)], some 0, none, [], none, false, false, .uart, 7⟩] } }

/-- The hypotheses of LutLoadsRunToTheirEnd can be met, clause by clause. -/
theorem witness_LutLoadsRunToTheirEnd :
    (wLutLoadsRunToTheirEnd1.takes 0 hU 0x0206 ∧
    (Target.mk 0 true 0 0).asap = true ∧
    targetOk (Target.mk 0 true 0 0) false false = true ∧
    ([LutEntry.mk 15 0 []]) ≠ [] ∧
    ([LutEntry.mk 15 0 []]).length ≤ 16 ∧
    ((∀ x ∈ ([LutEntry.mk 15 0 []]), x.slot ≤ 15 ∧ x.source ≤ 2)) ∧
    wLutLoadsRunToTheirEnd1.eng.has 0x0031 = true ∧
    wLutLoadsRunToTheirEnd1.eng.placeLoads ([LutEntry.mk 15 0 []]) [] [] = .ok (([(15, 0, some 0)]), (([] : List Nat))) ∧
    ((∃ x ∈ ([(15, 0, some 0)]), x.2.2 ≠ none))) ∧
    (wLutLoadsRunToTheirEnd2.eng.sys.phase = .running ∧
    wLutLoadsRunToTheirEnd2.eng.colour.loads = [(LutPend.mk [(15, 1, some 0)] none none [] none false false .uart 7)] ∧
    (LutPend.mk [(15, 1, some 0)] none none [] none false false .uart 7).loadedAt = none ∧
    (LutPend.mk [(15, 1, some 0)] none none [] none false false .uart 7).own = false ∧
    ((∀ x ∈ (LutPend.mk [(15, 1, some 0)] none none [] none false false .uart 7).slots, x.2.2 ≠ none → ∃ d, (wLutLoadsRunToTheirEnd2.eng.at 0).lutRead wLutLoadsRunToTheirEnd2.flash ([LutFile.mk 15 lutFile0]) x.2.1 x.1 = .ok d))) ∧
    (wLutLoadsRunToTheirEnd3.eng.sys.phase = .running ∧
    wLutLoadsRunToTheirEnd3.eng.colour.loads = [(LutPend.mk [(15, 1, some 0)] none none [] none false false .uart 7)] ∧
    (LutPend.mk [(15, 1, some 0)] none none [] none false false .uart 7).loadedAt = none ∧
    (LutPend.mk [(15, 1, some 0)] none none [] none false false .uart 7).own = false ∧
    (LutPend.mk [(15, 1, some 0)] none none [] none false false .uart 7).slots = ((15, 1, some 0)) :: (([] : List (Nat × Nat × Option Nat))) ∧
    ((15, 1, some 0)).2.2 ≠ none ∧
    ((15, 1, some 0)).2.1 = 1) ∧
    (wLutLoadsRunToTheirEnd4.eng.sys.phase = .running ∧
    wLutLoadsRunToTheirEnd4.eng.colour.loads = [(LutPend.mk [(15, 0, some 0)] (some 0) none [] none false false .uart 7)] ∧
    (LutPend.mk [(15, 0, some 0)] (some 0) none [] none false false .uart 7).loadedAt = none ∧
    (LutPend.mk [(15, 0, some 0)] (some 0) none [] none false false .uart 7).target = some 0 ∧
    (LutPend.mk [(15, 0, some 0)] (some 0) none [] none false false .uart 7).overrun = false ∧
    (wLutLoadsRunToTheirEnd4.eng.at (secs 1)).slotBy 0 - (ms 2 : Nat) ≤ ((wLutLoadsRunToTheirEnd4.eng.at (secs 1)).now : Int)) ∧
    (([LutFile.mk 15 lutFile0]).find? (·.slot = 15) = some (LutFile.mk 15 lutFile0 : LutFile) ∧
    (LutFile.mk 15 lutFile0 : LutFile).bytes.length = 1647766 ∧
    lutCrcOk (LutFile.mk 15 lutFile0 : LutFile).bytes = true ∧
    lutRecOk (bytesWords 411942 ((LutFile.mk 15 lutFile0 : LutFile).bytes ++ [0, 0])) = true) :=
  ⟨⟨show (wLutLoadsRunToTheirEnd1.eng.at 0).intake hU 0x0206 = Admit.go from by decide +kernel, by decide +kernel⟩,
   ⟨by decide +kernel, (by decide +kernel), by decide +kernel, (by decide +kernel), fun x hx _ => by
        obtain rfl : x = (15, 1, some 0) := by simpa [wLutLoadsRunToTheirEnd2] using hx
        exact lutFile0_reads _ _⟩,
   by decide +kernel,
   (by decide +kernel),
   ⟨rfl, lutFile0_length, lutFile0_crc, lutFile0_rec⟩⟩

def wTableReloadsRunToTheirEnd1 : State :=
  live [sen0, { sen0 with id := 0x11 }, sw 0x20 8 []] id

def wTableReloadsRunToTheirEnd2 : State :=
  live [sen0, sw 0x20 8 []] fun e => { e with raw := { e.raw with reload := some ⟨1, none, none, [], none, .uart, 0x0207, 3, false, false, false, false⟩ } }

def wTableReloadsRunToTheirEnd3 : State :=
  { live [sen0, sw 0x20 8 []] (fun e => { e with sys := { e.sys with active := some false }, raw := { e.raw with reload := some ⟨1, none, none, [], none, .uart, 0x0207, 3, false, false, false, false⟩ } }) with flash := ⟨33554432, slotDone 8, []⟩ }

def wTableReloadsRunToTheirEnd4 : State :=
  live [sen0, sw 0x20 8 []] fun e => { e with raw := { e.raw with reload := some ⟨32, none, none, [], none, .uart, 0x0207, 3, false, false, false, false⟩ } }

def wTableReloadsRunToTheirEnd5 : State :=
  live [sen0, sw 0x20 8 []] fun e => { e with raw := { e.raw with reload := some ⟨32, some 0, none, [], none, .uart, 0x0207, 3, false, false, false, false⟩ } }

/-- The hypotheses of TableReloadsRunToTheirEnd can be met, clause by clause. -/
theorem witness_TableReloadsRunToTheirEnd :
    (wTableReloadsRunToTheirEnd1.takes 0 hU 0x0207 ∧
    (Target.mk 0 true 0 0).asap = true ∧
    targetOk (Target.mk 0 true 0 0) false false = true ∧
    0 < 63 ∧
    63 ≤ 63 ∧
    wTableReloadsRunToTheirEnd1.eng.has 0x0020 = true ∧
    ((∀ k ∈ tablesOf 63, k < 4 → wTableReloadsRunToTheirEnd1.eng.cfg.hasPort (k % 2) = true)) ∧
    wTableReloadsRunToTheirEnd1.eng.raw.reload = none) ∧
    (wTableReloadsRunToTheirEnd2.takes 0 hU 0x0207 ∧
    (Target.mk 0 true 0 0).asap = true ∧
    targetOk (Target.mk 0 true 0 0) false false = true ∧
    0 < 1 ∧
    1 ≤ 63 ∧
    wTableReloadsRunToTheirEnd2.eng.has 0x0020 = true ∧
    ((∀ k ∈ tablesOf 1, k < 4 → wTableReloadsRunToTheirEnd2.eng.cfg.hasPort (k % 2) = true)) ∧
    wTableReloadsRunToTheirEnd2.eng.raw.reload = some (Reload.mk 1 none none [] none .uart 0x0207 3 false false false false)) ∧
    (wTableReloadsRunToTheirEnd3.eng.sys.phase = .running ∧
    wTableReloadsRunToTheirEnd3.eng.raw.reload = some (Reload.mk 1 none none [] none .uart 0x0207 3 false false false false) ∧
    (Reload.mk 1 none none [] none .uart 0x0207 3 false false false false).loadedAt = none ∧
    (Reload.mk 1 none none [] none .uart 0x0207 3 false false false false).cal = false ∧
    (Reload.mk 1 none none [] none .uart 0x0207 3 false false false false).own = false ∧
    (Reload.mk 1 none none [] none .uart 0x0207 3 false false false false).target = none ∧
    (wTableReloadsRunToTheirEnd3.eng.at 0).reloadRead wTableReloadsRunToTheirEnd3.flash ((([] : List CalFile)) ++ (([] : List CalFile))) (Reload.mk 1 none none [] none .uart 0x0207 3 false false false false) = some ([TableLoad.mk 0 (Config.unstated 145 0 % 4294967296) []]) ∧
    ((∀ l ∈ ([TableLoad.mk 0 (Config.unstated 145 0 % 4294967296) []]), wTableReloadsRunToTheirEnd3.eng.cfg.tableOk l = true)) ∧
    wTableReloadsRunToTheirEnd3.eng.defectRoom ([TableLoad.mk 0 (Config.unstated 145 0 % 4294967296) []]) = true) ∧
    (wTableReloadsRunToTheirEnd4.eng.sys.phase = .running ∧
    wTableReloadsRunToTheirEnd4.eng.raw.reload = some (Reload.mk 32 none none [] none .uart 0x0207 3 false false false false) ∧
    (Reload.mk 32 none none [] none .uart 0x0207 3 false false false false).loadedAt = none ∧
    (Reload.mk 32 none none [] none .uart 0x0207 3 false false false false).cal = false ∧
    (Reload.mk 32 none none [] none .uart 0x0207 3 false false false false).own = false ∧
    (wTableReloadsRunToTheirEnd4.eng.at 0).reloadRead wTableReloadsRunToTheirEnd4.flash ((([] : List CalFile)) ++ (([] : List CalFile))) (Reload.mk 32 none none [] none .uart 0x0207 3 false false false false) = none) ∧
    (wTableReloadsRunToTheirEnd5.eng.sys.phase = .running ∧
    wTableReloadsRunToTheirEnd5.eng.raw.reload = some (Reload.mk 32 (some 0) none [] none .uart 0x0207 3 false false false false) ∧
    (Reload.mk 32 (some 0) none [] none .uart 0x0207 3 false false false false).target = some 0 ∧
    (Reload.mk 32 (some 0) none [] none .uart 0x0207 3 false false false false).loadedAt = none ∧
    (Reload.mk 32 (some 0) none [] none .uart 0x0207 3 false false false false).overrun = false ∧
    (wTableReloadsRunToTheirEnd5.eng.at (secs 1)).slotBy 0 - (ms 2 : Nat) ≤ ((wTableReloadsRunToTheirEnd5.eng.at (secs 1)).now : Int)) :=
  ⟨⟨show (wTableReloadsRunToTheirEnd1.eng.at 0).intake hU 0x0207 = Admit.go from by decide +kernel, by decide +kernel⟩,
   ⟨show (wTableReloadsRunToTheirEnd2.eng.at 0).intake hU 0x0207 = Admit.go from by decide +kernel, by decide +kernel⟩,
   ⟨by decide +kernel, (by decide +kernel), by decide +kernel, (by decide +kernel), by decide +kernel, (by decide +kernel), slotDone_tables 8 _ _ _ _ ⟨rfl, rfl⟩ rfl rfl, by decide +kernel⟩,
   by decide +kernel,
   by decide +kernel⟩

def wStatisticsRing1 : State :=
  live [sw 0x22 1 []] fun e => { e with raw := { e.raw with nextSeq := 0xFFFFFFFF, waiting := vmod e.raw.waiting 2 fun _ => [stat0, stat0] } }

def wStatisticsRing2 : State :=
  live [sw 0x22 1 []] fun e => { e with raw := { e.raw with ring := [(0, stat0)] } }

def wStatisticsRing3 : State :=
  live [sen0] fun e => { e with raw := { e.raw with dyn := [(0, 1, 2), (1, 3, 4), (0, 5, 6)] } }

/-- The hypotheses of StatisticsRing can be met, clause by clause. -/
theorem witness_StatisticsRing :
    (wStatisticsRing1.eng.sys.phase = .running ∧
    vget (wStatisticsRing1.eng.at 0).raw.waiting (2 : Fin 3) [] = stat0 :: ([stat0])) ∧
    (wStatisticsRing2.takes 0 hU 0x0404 ∧
    0 ≤ 255 ∧
    wStatisticsRing2.eng.has 0x0022 = true ∧
    0 < wStatisticsRing2.eng.cfg.ringSlots ∧
    (wStatisticsRing2.eng.raw.ring.find? fun x => x.1 = 0) = some ((0, stat0))) ∧
    (wStatisticsRing3.takes 0 hU 0x0405 ∧
    0 < 16000 ∧
    16000 ≤ 16000 ∧
    wStatisticsRing3.eng.cfg.hasPort (0 : Fin 2) = true) :=
  ⟨by decide +kernel,
   ⟨show (wStatisticsRing2.eng.at 0).intake hU 0x0404 = Admit.go from by decide +kernel, by decide +kernel⟩,
   ⟨show (wStatisticsRing3.eng.at 0).intake hU 0x0405 = Admit.go from by decide +kernel, by decide +kernel⟩⟩

def wLayerChangesGoToIdleSide1 : State :=
  live [sw 0x63 7 [(0, [(31, 31, 1)])]] id

def wLayerChangesGoToIdleSide2 : State :=
  live [sw 0x60 7 [(0, [(31, 31, 1)])]] id

def wLayerChangesGoToIdleSide3 : State :=
  live [sw 0x61 7 [(0, [(31, 31, 1)]), (6, [(31, 16, 2), (15, 0, 2)])]] fun e =>
    e.modHead 1 fun q => { q with surfaces := q.surfaces.set 0 [1, 2, 3, 4], due := q.due.set 1 (some 5) }

def wLayerChangesGoToIdleSide4 : State :=
  live [] id

/-- The hypotheses of LayerChangesGoToIdleSide can be met, clause by clause. -/
theorem witness_LayerChangesGoToIdleSide :
    (wLayerChangesGoToIdleSide1.takes 0 hU 0x0209 ∧
    63 < 64 ∧
    ([65, 66]).length < 256 ∧
    wLayerChangesGoToIdleSide1.eng.cfg.hdEn (3 : Fin 4) = true) ∧
    (wLayerChangesGoToIdleSide2.takes 0 hU 0x020A ∧
    255 < 256 ∧
    1 ≤ 8 ∧
    8 ≤ 8 ∧
    wLayerChangesGoToIdleSide2.eng.cfg.hdEn (0 : Fin 4) = true) ∧
    (wLayerChangesGoToIdleSide3.takes 0 hU 0x0208 ∧
    wLayerChangesGoToIdleSide3.eng.cfg.hdEn (1 : Fin 4) = true ∧
    ([4294967297]).length = 1 * 1 ∧
    1 + 1 ≤ wLayerChangesGoToIdleSide3.eng.cfg.l1W (1 : Fin 4) ∧
    1 + 1 ≤ wLayerChangesGoToIdleSide3.eng.cfg.l1H (1 : Fin 4)) ∧
    (wLayerChangesGoToIdleSide4.takes 0 hU 0x0209 ∧
    0 < 64 ∧
    (([] : List Nat)).length < 256 ∧
    wLayerChangesGoToIdleSide4.eng.cfg.hdEn (2 : Fin 4) = false) :=
  ⟨⟨show (wLayerChangesGoToIdleSide1.eng.at 0).intake hU 0x0209 = Admit.go from by decide +kernel, by decide +kernel⟩,
   ⟨show (wLayerChangesGoToIdleSide2.eng.at 0).intake hU 0x020A = Admit.go from by decide +kernel, by decide +kernel⟩,
   ⟨show (wLayerChangesGoToIdleSide3.eng.at 0).intake hU 0x0208 = Admit.go from by decide +kernel, by decide +kernel⟩,
   ⟨show (wLayerChangesGoToIdleSide4.eng.at 0).intake hU 0x0209 = Admit.go from by decide +kernel, by decide +kernel⟩⟩

def wHeadsFollowTheirFrames1 : State :=
  live [sw 0x62 7 [(0, [(31, 31, 1), (22, 19, 2)]), (1, [(31, 16, 2), (15, 0, 2)]), (2, [(31, 16, 4), (15, 0, 4)])]] fun e =>
    e.modHead 2 fun q => { q with state := 1, l2Idle := [(0, ⟨true, true, 0, 0, 0, 0, 0, [65]⟩)], due := q.due.set 1 (some 0) }

def wHeadsFollowTheirFrames1b : State :=
  live [sw 0x60 7 [(0, [(31, 31, 1), (22, 19, 2)]), (1, [(31, 16, 2), (15, 0, 2)]), (2, [(31, 16, 4), (15, 0, 4)])]] fun e =>
    e.modHead 0 fun q => { q with state := 1, slate := false, l2Idle := [(0, ⟨true, true, 0, 0, 0, 0, 0, [65]⟩)], due := q.due.set 1 (some 0), incoming := [⟨7, 0, 2, 2, [0, 0], [0, 0], [], 0, none⟩] }

def wHeadsFollowTheirFrames2 : State :=
  live [sw 0x63 7 [(0, [(31, 31, 1), (30, 30, 1), (26, 23, 5)]), (1, [(31, 16, 2), (15, 0, 2)])]] fun e => e.modHead 3 fun q => { q with state := 1 }

def wHeadsFollowTheirFrames3 : State :=
  live [] fun e => e.modHead 0 fun q => { q with state := 1, slate := false }

def wHeadsFollowTheirFrames4 : State :=
  live [] fun e => e.modHead 0 fun q => { q with state := 1 }

def wHeadsFollowTheirFrames5 : State :=
  live [] fun e => e.modHead 1 fun q => { q with state := 1, due := q.due.set 1 (some 5) }

/-- The hypotheses of HeadsFollowTheirFrames can be met, clause by clause. -/
theorem witness_HeadsFollowTheirFrames :
    (wHeadsFollowTheirFrames1.eng.sys.phase = .running ∧
    wHeadsFollowTheirFrames1.eng.cfg.hdLead (2 : Fin 4) = (2 : Fin 4).val ∧
    wHeadsFollowTheirFrames1.eng.cfg.hdSet (2 : Fin 4) = [(2 : Fin 4).val] ∧
    (wHeadsFollowTheirFrames1.eng.head (2 : Fin 4)).state = 1) ∧
    (wHeadsFollowTheirFrames1b.eng.sys.phase = .running ∧
    wHeadsFollowTheirFrames1b.eng.cfg.hdLead (0 : Fin 4) = (0 : Fin 4).val ∧
    wHeadsFollowTheirFrames1b.eng.cfg.hdSet (0 : Fin 4) = [(0 : Fin 4).val] ∧
    (wHeadsFollowTheirFrames1b.eng.head (0 : Fin 4)).state = 1) ∧
    (wHeadsFollowTheirFrames2.eng.sys.phase = .running ∧
    wHeadsFollowTheirFrames2.eng.cfg.hdLead (3 : Fin 4) = (3 : Fin 4).val ∧
    wHeadsFollowTheirFrames2.eng.cfg.hdSet (3 : Fin 4) = [(3 : Fin 4).val] ∧
    (wHeadsFollowTheirFrames2.eng.head (3 : Fin 4)).state = 1 ∧
    wHeadsFollowTheirFrames2.eng.cfg.hdSrc (3 : Fin 4) < 6 ∧
    wHeadsFollowTheirFrames2.eng.cfg.hdLocked (3 : Fin 4) = true) ∧
    (wHeadsFollowTheirFrames3.eng.sys.phase = .running ∧
    (wHeadsFollowTheirFrames3.eng.head (0 : Fin 4)).state = 1 ∧
    (wHeadsFollowTheirFrames3.eng.head (0 : Fin 4)).slate = false ∧
    (wHeadsFollowTheirFrames3.eng.head (0 : Fin 4)).lastAdmit + secs 1 ≤ (wHeadsFollowTheirFrames3.eng.at (secs 1)).now) ∧
    (wHeadsFollowTheirFrames4.eng.sys.phase = .running ∧
    (wHeadsFollowTheirFrames4.eng.head (0 : Fin 4)).slate = true) ∧
    (wHeadsFollowTheirFrames5.eng.sys.phase = .running ∧
    (wHeadsFollowTheirFrames5.eng.head (1 : Fin 4)).state = 1 ∧
    vget (wHeadsFollowTheirFrames5.eng.head (1 : Fin 4)).due 1 none = some 5 ∧
    5 ≤ (wHeadsFollowTheirFrames5.eng.at 5).now) :=
  ⟨by decide +kernel,
   (by decide +kernel),
   by decide +kernel,
   (by decide +kernel),
   by decide +kernel,
   (by decide +kernel)⟩

def wDisplayAndSdiLinksFollowTheirPartners1 : State :=
  live [sw 0x03 62 [(53, [(27, 24, 7)])]] id

def wDisplayAndSdiLinksFollowTheirPartners2 : State :=
  live [sw 0x03 62 [(52, [(27, 24, 7)])]] id

def wDisplayAndSdiLinksFollowTheirPartners2b : State :=
  live [sw 0x03 62 [(52, [(27, 24, 7)])]] id

def wDisplayAndSdiLinksFollowTheirPartners3 : State :=
  live [] fun e => e.modSdiIn 0 fun _ => ⟨1, 4, true⟩

def wDisplayAndSdiLinksFollowTheirPartners4 : State :=
  live [] fun e => e.modSdiIn 1 fun _ => ⟨2, 4, true⟩

def wDisplayAndSdiLinksFollowTheirPartners4b : State :=
  live [] fun e => (e.modSdiIn 0 fun _ => ⟨1, 4, true⟩).modLane 52 fun q => { q with step := 5, cdrLock := true, linkUp := true }

def wDisplayAndSdiLinksFollowTheirPartners5 : State :=
  live [sw 0x03 62 [(58, [(27, 24, 11)])], sw 0x69 2 [(1, [(31, 31, 1), (30, 29, 0)])], sw 0x60 7 [(0, [(31, 31, 1), (22, 19, 2)]), (2, [(31, 16, 4), (15, 0, 4)])]] id

def wDisplayAndSdiLinksFollowTheirPartners6 : State :=
  live [sw 0x69 2 [(0, [(31, 31, 1)])]] id

def wDisplayAndSdiLinksFollowTheirPartners7 : State :=
  live [sw 0x03 62 [(54, [(27, 24, 11)])], sw 0x69 2 [(0, [(31, 31, 1)])]] fun e =>
    { e.modLane 54 fun q => { q with step := 5 } with outs := { e.outs with dp := vmod e.outs.dp 0 fun _ => ⟨2, 1, 8, [1], 4, 11⟩ } }

def wDisplayAndSdiLinksFollowTheirPartners8 : State :=
  live [sw 0x03 62 [(54, [(27, 24, 11)])], sw 0x69 2 [(0, [(31, 31, 1)])]] fun e =>
    { e with outs := { e.outs with dp := vmod e.outs.dp 0 fun _ => ⟨2, 2, 9, [1], 4, 11⟩ } }

def wDisplayAndSdiLinksFollowTheirPartners9 : State :=
  live [] fun e => { e with outs := { e.outs with dp := vmod e.outs.dp 1 fun _ => ⟨2, 2, 9, [1, 2, 3], 4, 11⟩ } }

/-- The hypotheses of DisplayAndSdiLinksFollowTheirPartners can be met, clause by clause. -/
theorem witness_DisplayAndSdiLinksFollowTheirPartners :
    (wDisplayAndSdiLinksFollowTheirPartners1.eng.sys.phase = .running ∧
    wDisplayAndSdiLinksFollowTheirPartners1.eng.cfg.lnRate (52 + (1 : Fin 2).val) ≠ 0 ∧
    wDisplayAndSdiLinksFollowTheirPartners1.eng.unitHeld 0x0800 20 = false ∧
    (wDisplayAndSdiLinksFollowTheirPartners1.eng.lane (52 + (1 : Fin 2).val)).test = false ∧
    6 ≤ 10 ∧
    10 ≤ 10) ∧
    (wDisplayAndSdiLinksFollowTheirPartners2.eng.sys.phase = .running ∧
    wDisplayAndSdiLinksFollowTheirPartners2.eng.cfg.lnRate (52 + (0 : Fin 2).val) ≠ 0 ∧
    wDisplayAndSdiLinksFollowTheirPartners2.eng.unitHeld 0x0800 20 = false ∧
    (wDisplayAndSdiLinksFollowTheirPartners2.eng.lane (52 + (0 : Fin 2).val)).test = false ∧
    2 < 16 ∧
    ((true = false ∨ 2 < 6 ∨ 10 < 2))) ∧
    (wDisplayAndSdiLinksFollowTheirPartners2b.eng.sys.phase = .running ∧
    wDisplayAndSdiLinksFollowTheirPartners2b.eng.cfg.lnRate (52 + (0 : Fin 2).val) ≠ 0 ∧
    wDisplayAndSdiLinksFollowTheirPartners2b.eng.unitHeld 0x0800 20 = false ∧
    (wDisplayAndSdiLinksFollowTheirPartners2b.eng.lane (52 + (0 : Fin 2).val)).test = false ∧
    10 < 16 ∧
    ((false = false ∨ 10 < 6 ∨ 10 < 10))) ∧
    (wDisplayAndSdiLinksFollowTheirPartners3.eng.sys.phase = .running ∧
    vget wDisplayAndSdiLinksFollowTheirPartners3.eng.outs.sdiIn (0 : Fin 2) ⟨0, 0, false⟩ = (SdiIn.mk 1 4 true) ∧
    (SdiIn.mk 1 4 true).state = 1) ∧
    (wDisplayAndSdiLinksFollowTheirPartners4.eng.sys.phase = .running ∧
    vget wDisplayAndSdiLinksFollowTheirPartners4.eng.outs.sdiIn (1 : Fin 2) ⟨0, 0, false⟩ = (SdiIn.mk 2 4 true) ∧
    (SdiIn.mk 2 4 true).state ≠ 0 ∧
    wDisplayAndSdiLinksFollowTheirPartners4.eng.cfg.b 0x0080 1 27 = false ∧
    wDisplayAndSdiLinksFollowTheirPartners4.eng.clk.refin.eligible = false) ∧
    (wDisplayAndSdiLinksFollowTheirPartners4b.eng.sys.phase = .running ∧
    vget wDisplayAndSdiLinksFollowTheirPartners4b.eng.outs.sdiIn (0 : Fin 2) ⟨0, 0, false⟩ = (SdiIn.mk 1 4 true) ∧
    (SdiIn.mk 1 4 true).state ≠ 0 ∧
    wDisplayAndSdiLinksFollowTheirPartners4b.eng.cfg.b 0x0080 1 27 = false ∧
    wDisplayAndSdiLinksFollowTheirPartners4b.eng.clk.refin.eligible = false) ∧
    (wDisplayAndSdiLinksFollowTheirPartners5.eng.sys.phase = .running ∧
    wDisplayAndSdiLinksFollowTheirPartners5.eng.cfg.dpEn (1 : Fin 2) = true ∧
    ((∀ k : Fin 4, (wDisplayAndSdiLinksFollowTheirPartners5.eng.lane (54 + 4 * (1 : Fin 2).val + k.val)).test = false)) ∧
    wDisplayAndSdiLinksFollowTheirPartners5.eng.dpPick (1 : Fin 2) 4 11 = some (1, 8)) ∧
    (wDisplayAndSdiLinksFollowTheirPartners6.eng.sys.phase = .running ∧
    wDisplayAndSdiLinksFollowTheirPartners6.eng.cfg.dpEn (0 : Fin 2) = true ∧
    ((∀ k : Fin 4, (wDisplayAndSdiLinksFollowTheirPartners6.eng.lane (54 + 4 * (0 : Fin 2).val + k.val)).test = false)) ∧
    wDisplayAndSdiLinksFollowTheirPartners6.eng.dpPick (0 : Fin 2) 0 11 = none) ∧
    (wDisplayAndSdiLinksFollowTheirPartners7.eng.sys.phase = .running ∧
    wDisplayAndSdiLinksFollowTheirPartners7.eng.cfg.dpEn (0 : Fin 2) = true) ∧
    (wDisplayAndSdiLinksFollowTheirPartners8.eng.sys.phase = .running ∧
    wDisplayAndSdiLinksFollowTheirPartners8.eng.cfg.dpEn (0 : Fin 2) = true ∧
    vget wDisplayAndSdiLinksFollowTheirPartners8.eng.outs.dp (0 : Fin 2) ⟨0, 0, 0, [], 0, 0⟩ = (DpOut.mk 2 2 9 [1] 4 11) ∧
    ((DpOut.mk 2 2 9 [1] 4 11).link = 1 ∨ (DpOut.mk 2 2 9 [1] 4 11).link = 2) ∧
    ((∀ k : Fin 4, (wDisplayAndSdiLinksFollowTheirPartners8.eng.lane (54 + 4 * (0 : Fin 2).val + k.val)).test = false)) ∧
    wDisplayAndSdiLinksFollowTheirPartners8.eng.dpPick (0 : Fin 2) (DpOut.mk 2 2 9 [1] 4 11).maxLanes (DpOut.mk 2 2 9 [1] 4 11).maxRate = some (1, 8)) ∧
    (wDisplayAndSdiLinksFollowTheirPartners9.takes 0 hU 0x0406) :=
  ⟨by decide +kernel,
   ⟨by decide +kernel, (by decide +kernel), by decide +kernel, (by decide +kernel), by decide +kernel, Or.inr (Or.inl (by decide))⟩,
   ⟨by decide +kernel, (by decide +kernel), by decide +kernel, (by decide +kernel), by decide +kernel, Or.inl rfl⟩,
   by decide +kernel,
   by decide +kernel,
   (by decide +kernel),
   by decide +kernel,
   (by decide +kernel),
   by decide +kernel,
   ⟨by decide +kernel, (by decide +kernel), by decide +kernel, Or.inr rfl, by decide +kernel⟩,
   show (wDisplayAndSdiLinksFollowTheirPartners9.eng.at 0).intake hU 0x0406 = Admit.go from by decide +kernel⟩

def wNetworkVideoReceivers1 : State :=
  live [sw 0x6A 120 [(114, [(31, 31, 1), (30, 28, 5), (23, 22, 2)])]] id

def wNetworkVideoReceivers2 : State :=
  live [sw 0x6A 120 [(24, [(31, 31, 1), (30, 28, 5), (23, 22, 3)]), (29, [(31, 24, 1)])]] fun e =>
    { e with outs := { e.outs with streams := vmod e.outs.streams 0 fun x => { x with rx := ⟨[(7, 1, 0)], false⟩ } } }

def wNetworkVideoReceivers3 : State :=
  live [sw 0x6A 120 [(24, [(31, 31, 1), (30, 28, 5), (23, 22, 3)]), (29, [(31, 24, 1)])]] fun e =>
    { e with outs := { e.outs with streams := vmod e.outs.streams 0 fun x => { x with rx := ⟨[(7, 1, 0)], false⟩ } } }

def wNetworkVideoReceivers4 : State :=
  live [{ sw 0x03 63 [(41, [(27, 24, 1), (3, 0, 1)]), (62, [(11, 11, 1)])] with param := 0 }, sw 0x6A 120 [(15, [(31, 31, 1)]), (16, [(31, 0, 77)])]] fun e =>
    e.modLane 41 fun q => { q with step := 5, linkUp := true }

def wNetworkVideoReceivers4b : State :=
  live [sw 0x03 63 [(36, [(27, 24, 1)])], sw 0x6A 120 [(0, [(31, 31, 1)]), (1, [(31, 0, 78)])]] fun e =>
    e.modLane 36 fun q => { q with step := 5, linkUp := true }

def wNetworkVideoReceivers5 : State :=
  live [] id

def wNetworkVideoReceivers6 : State :=
  live [] id

def wNetworkVideoReceivers7 : State :=
  live [sw 0x6A 120 [(24, [(31, 31, 1), (30, 28, 5), (23, 22, 3)])]] id

/-- The hypotheses of NetworkVideoReceivers can be met, clause by clause. -/
theorem witness_NetworkVideoReceivers :
    (wNetworkVideoReceivers1.eng.sys.phase = .running ∧
    wNetworkVideoReceivers1.eng.cfg.nvValid (15 : Fin 16) = true ∧
    wNetworkVideoReceivers1.eng.cfg.nvKind (15 : Fin 16) = 5 ∧
    (wNetworkVideoReceivers1.eng.cfg.nvPaths (15 : Fin 16)).testBit (1 : Fin 2) = true ∧
    ((wNetworkVideoReceivers1.eng.cfg.nv (15 : Fin 16) 4 31 0 = 0 ∨ wNetworkVideoReceivers1.eng.cfg.nv (15 : Fin 16) 4 31 0 = 5)) ∧
    wNetworkVideoReceivers1.eng.netHeld (1 : Fin 2) = false ∧
    wNetworkVideoReceivers1.eng.clk.classV = false ∧
    (wNetworkVideoReceivers1.eng.netStream (15 : Fin 16)).rx.seen = []) ∧
    (wNetworkVideoReceivers2.eng.sys.phase = .running ∧
    wNetworkVideoReceivers2.eng.cfg.nvValid (0 : Fin 16) = true ∧
    wNetworkVideoReceivers2.eng.cfg.nvKind (0 : Fin 16) = 5 ∧
    (wNetworkVideoReceivers2.eng.cfg.nvPaths (0 : Fin 16)).testBit (1 : Fin 2) = true ∧
    ((wNetworkVideoReceivers2.eng.cfg.nv (0 : Fin 16) 4 31 0 = 0 ∨ wNetworkVideoReceivers2.eng.cfg.nv (0 : Fin 16) 4 31 0 = 0)) ∧
    wNetworkVideoReceivers2.eng.netHeld (1 : Fin 2) = false ∧
    wNetworkVideoReceivers2.eng.clk.classV = false ∧
    (wNetworkVideoReceivers2.eng.netStream (0 : Fin 16)).rx.seen = [(7, 1, 0)] ∧
    (wNetworkVideoReceivers2.eng.at 9).now < 0 + ms (wNetworkVideoReceivers2.eng.cfg.nvJitter (0 : Fin 16))) ∧
    (wNetworkVideoReceivers3.eng.sys.phase = .running ∧
    wNetworkVideoReceivers3.eng.cfg.nvValid (0 : Fin 16) = true ∧
    wNetworkVideoReceivers3.eng.cfg.nvKind (0 : Fin 16) = 5 ∧
    ((∀ x ∈ (wNetworkVideoReceivers3.eng.netStream (0 : Fin 16)).rx.seen, x.1 ≠ 8))) ∧
    (wNetworkVideoReceivers4.eng.sys.phase = .running ∧
    5 < 8 ∧
    wNetworkVideoReceivers4.eng.cfg.nlEn 5 = true ∧
    wNetworkVideoReceivers4.eng.netHeld (5 / 4) = false ∧
    wNetworkVideoReceivers4.eng.linkUp (5 / 4) (5 % 4) = true ∧
    (NetIn.echo = .arp ∨ NetIn.echo = .echo)) ∧
    (wNetworkVideoReceivers4b.eng.sys.phase = .running ∧
    0 < 8 ∧
    wNetworkVideoReceivers4b.eng.cfg.nlEn 0 = true ∧
    wNetworkVideoReceivers4b.eng.netHeld (0 / 4) = false ∧
    wNetworkVideoReceivers4b.eng.linkUp (0 / 4) (0 % 4) = true ∧
    (NetIn.arp = .arp ∨ NetIn.arp = .echo)) ∧
    (wNetworkVideoReceivers5.eng.sys.phase = .running ∧
    wNetworkVideoReceivers5.eng.cb 0x00C0 0 30 = true ∧
    (wNetworkVideoReceivers5.eng.cw 0x00C0 1).toNat = 0 ∧
    (NetIn.echo = .arp ∨ NetIn.echo = .echo)) ∧
    (wNetworkVideoReceivers6.takes 0 hU 0x0407 ∧
    wNetworkVideoReceivers6.eng.cfg.nvValid (3 : Fin 16) = false) ∧
    (wNetworkVideoReceivers7.takes 0 hU 0x0407 ∧
    wNetworkVideoReceivers7.eng.cfg.nvValid (0 : Fin 16) = true) :=
  ⟨by decide +kernel,
   (by decide +kernel),
   by decide +kernel,
   ⟨by decide +kernel, (by decide +kernel), by decide +kernel, (by decide +kernel), by decide +kernel, Or.inr rfl⟩,
   ⟨by decide +kernel, (by decide +kernel), by decide +kernel, (by decide +kernel), by decide +kernel, Or.inl rfl⟩,
   ⟨by decide +kernel, (by decide +kernel), by decide +kernel, Or.inr rfl⟩,
   ⟨show (wNetworkVideoReceivers6.eng.at 0).intake hU 0x0407 = Admit.go from by decide +kernel, by decide +kernel⟩,
   ⟨show (wNetworkVideoReceivers7.eng.at 0).intake hU 0x0407 = Admit.go from by decide +kernel, by decide +kernel⟩⟩

def wMetadataRecordsAreFilledAndSent1 : State :=
  live [] fun e => e.setFrozen 1 [⟨7, 0, [], 0, none⟩]

def wMetadataRecordsAreFilledAndSent2 : State :=
  live [] fun e => e.setFrozen 0 [⟨7, 0, [], 0, none⟩]

def wMetadataRecordsAreFilledAndSent3 : State :=
  live [] fun e => e.setFrozen 1 [⟨7, 0, [], 0, none⟩, ⟨8, 0, [], 0, none⟩]

/-- The hypotheses of MetadataRecordsAreFilledAndSent can be met, clause by clause. -/
theorem witness_MetadataRecordsAreFilledAndSent :
    (wMetadataRecordsAreFilledAndSent1.eng.sys.phase = .running ∧
    wMetadataRecordsAreFilledAndSent1.eng.frozenOf (1 : Fin 2) = [(FrozenRec.mk 7 0 [] 0 none)] ∧
    (FrozenRec.mk 7 0 [] 0 none).fw = none ∧
    (FrozenRec.mk 7 0 [] 0 none).due (wMetadataRecordsAreFilledAndSent1.eng.at (ms 2)).now = true) ∧
    (wMetadataRecordsAreFilledAndSent2.eng.sys.phase = .running ∧
    wMetadataRecordsAreFilledAndSent2.eng.frozenOf (0 : Fin 2) = [(FrozenRec.mk 7 0 [] 0 none)] ∧
    (FrozenRec.mk 7 0 [] 0 none).fw = none ∧
    (FrozenRec.mk 7 0 [] 0 none).due (wMetadataRecordsAreFilledAndSent2.eng.at (ms 2)).now = true) ∧
    (wMetadataRecordsAreFilledAndSent3.eng.sys.phase = .running ∧
    wMetadataRecordsAreFilledAndSent3.eng.frozenOf (1 : Fin 2) = (FrozenRec.mk 7 0 [] 0 none) :: ([FrozenRec.mk 8 0 [] 0 none]) ∧
    (FrozenRec.mk 7 0 [] 0 none).due (wMetadataRecordsAreFilledAndSent3.eng.at (ms 2)).now = true ∧
    wMetadataRecordsAreFilledAndSent3.eng.rec_.takes = []) :=
  ⟨by decide +kernel,
   (by decide +kernel),
   by decide +kernel⟩

def wDeflateBlocksChecked1 : State :=
  live [] id

def wDeflateBlocksChecked2 : State :=
  live [] id

def wDeflateBlocksChecked3 : State :=
  live [] fun e => { e with rec_ := { e.rec_ with takes := [{ take0 0 with clips := [{ clipRec0 with sides := [side0] }] }] } }

def wDeflateBlocksChecked4 : State :=
  live [] id

/-- The hypotheses of DeflateBlocksChecked can be met, clause by clause. -/
theorem witness_DeflateBlocksChecked :
    (wDeflateBlocksChecked1.eng.sys.phase = .running ∧
    vget wDeflateBlocksChecked1.eng.md.deflate 1 [] = [] ∧
    ([0]) ≠ [] ∧
    (lzToks (zeroWords ([0]) (([1, 2, 3] : List Byte))).length [] (zeroWords ([0]) (([1, 2, 3] : List Byte)))).length ≤ 16384) ∧
    (wDeflateBlocksChecked2.eng.sys.phase = .running ∧
    vget wDeflateBlocksChecked2.eng.md.deflate 1 [] = [] ∧
    (lzToks (([0] : List Byte)).length [] (([0] : List Byte))).length ≤ 16384 ∧
    takeDynamic ((bitsOf 92 0xbf53fb40000000001103800)) = some (lzToks (([0] : List Byte)).length [] (([0] : List Byte)), [])) ∧
    (wDeflateBlocksChecked3.eng.sys.phase = .running ∧
    wDeflateBlocksChecked3.eng.sideOf (0 : Fin 16) = some side0 ∧
    vget wDeflateBlocksChecked3.eng.md.deflate 0 [] = [] ∧
    (([0] : List Byte)) = side0.todo.take (([0] : List Byte)).length ∧
    (([0] : List Byte)).length ≤ side0.part_ ∧
    (side0.flushes (([0] : List Byte)).length || side0.ends (([0] : List Byte)).length) = true ∧
    (lzToks (([0] : List Byte)).length [] (([0] : List Byte))).length ≤ 16384 ∧
    takeDynamic ((bitsOf 92 0xbf53fb40000000001103800)) = some (lzToks (([0] : List Byte)).length [] (([0] : List Byte)), [])) ∧
    (wDeflateBlocksChecked4.eng.sys.phase = .running ∧
    wDeflateBlocksChecked4.eng.sideOf (0 : Fin 16) = none) :=
  ⟨by decide +kernel,
   (by decide +kernel),
   by decide +kernel,
   (by decide +kernel)⟩

def wFlowstonePicturesAreBuilt1 : State :=
  live [sen2, sw 0x40 17 [(14, [(31, 31, 1), (19, 18, 2), (14, 8, 2)])]] fun e => e.modStream 7 fun q => { q with pics := [fsPic0] }

def wFlowstonePicturesAreBuilt2 : State :=
  live [sen2, sw 0x40 17 [(0, [(31, 31, 1)])]] fun e => { e.modStream 0 fun q => { q with pics := [fsPic0] } with
      fsr := { (e.modStream 0 fun q => { q with pics := [fsPic0] }).fsr with inService := vmod e.fsr.inService 31 fun _ => true } }

def wFlowstonePicturesAreBuilt3 : State :=
  live [sen2, sw 0x40 17 [(2, [(31, 31, 1)])]] fun e =>
    { e.modStream 1 fun q => { q with pics := [fsPic0] } with
      fsr := { (e.modStream 1 fun q => { q with pics := [fsPic0] }).fsr with fails := vmod e.fsr.fails 31 fun _ => 1, inService := vmod e.fsr.inService 31 fun _ => true } }

def wFlowstonePicturesAreBuilt4 : State :=
  live [] fun e => { e with fsr := { e.fsr with inService := vmod e.fsr.inService 5 fun _ => false } }

def wFlowstonePicturesAreBuilt5 : State :=
  live [sen2, sw 0x40 17 [(4, [(31, 31, 1)])]] fun e => e.modStream 2 fun q => { q with pics := [fsPic0] }

def wFlowstonePicturesAreBuilt6 : State :=
  live [sen2, sw 0x40 17 [(6, [(31, 31, 1)])]] fun e => e.modStream 3 fun q => { q with pics := [{ fsPic0 with tiles := [fsTile0] }, fsPic0] }

def wFlowstonePicturesAreBuilt7 : State :=
  live [] fun e => { e with sys := { e.sys with mode := .review }, rec_ := { e.rec_ with play := some play0 } }

def wFlowstonePicturesAreBuilt8 : State :=
  live [] fun e => { e with sys := { e.sys with mode := .review }, rec_ := { e.rec_ with play := some play0 } }

def wFlowstonePicturesAreBuilt9 : State :=
  live [sen0, { sw 0x13 3 [(0, [(0, 0, 1)])] with param := 2 }] fun e =>
    { e with sys := { e.sys with mode := .review }, proj := { e.proj with started := true }, rec_ := { e.rec_ with
        play := some { play0 with queue := [⟨9, 0, 0, 0, 0, [], 0, 0, [1]⟩] } } }

/-- The hypotheses of FlowstonePicturesAreBuilt can be met, clause by clause. -/
theorem witness_FlowstonePicturesAreBuilt :
    (wFlowstonePicturesAreBuilt1.eng.sys.phase = .running ∧
    wFlowstonePicturesAreBuilt1.eng.cfg.fsMode (7 : Fin 8) = 2 ∧
    (wFlowstonePicturesAreBuilt1.eng.stream (7 : Fin 8)).pics = [fsPic0] ∧
    fsPic0.bands.length = 0 ∧
    0 < wFlowstonePicturesAreBuilt1.eng.cfg.fsBands (7 : Fin 8) ∧
    ((∀ j < 0 - 1, fsPic0.bandDone (wFlowstonePicturesAreBuilt1.eng.cfg.tileCols (7 : Fin 8)) j = true)) ∧
    fsPic0.bandDone (wFlowstonePicturesAreBuilt1.eng.cfg.tileCols (7 : Fin 8)) 0 = false) ∧
    (wFlowstonePicturesAreBuilt2.eng.sys.phase = .running ∧
    wFlowstonePicturesAreBuilt2.eng.cfg.fsMode (0 : Fin 8) = 0 ∧
    (wFlowstonePicturesAreBuilt2.eng.stream (0 : Fin 8)).pics = [fsPic0] ∧
    fsPic0.bands = [] ∧
    wFlowstonePicturesAreBuilt2.eng.fsWaiting (0 : Fin 8) 0 0 false fsPic0 = true ∧
    wFlowstonePicturesAreBuilt2.eng.fsTile (0 : Fin 8) fsPic0 0 0 = (wFlowstonePicturesAreBuilt2.eng.fsTile 0 fsPic0 0 0) ∧
    vget wFlowstonePicturesAreBuilt2.eng.fsr.inService (31 : Fin 32) false = true ∧
    (checkedTile (wFlowstonePicturesAreBuilt2.eng.fsTile 0 fsPic0 0 0) (wFlowstonePicturesAreBuilt2.eng.cfg.codeTile (0 : Fin 8) 0 0 (wFlowstonePicturesAreBuilt2.eng.fsTile 0 fsPic0 0 0) none) none [] []).2 = 0) ∧
    (wFlowstonePicturesAreBuilt3.eng.sys.phase = .running ∧
    wFlowstonePicturesAreBuilt3.eng.cfg.fsMode (1 : Fin 8) = 0 ∧
    (wFlowstonePicturesAreBuilt3.eng.stream (1 : Fin 8)).pics = [fsPic0] ∧
    fsPic0.bands = [] ∧
    wFlowstonePicturesAreBuilt3.eng.fsWaiting (1 : Fin 8) 0 0 false fsPic0 = true ∧
    wFlowstonePicturesAreBuilt3.eng.fsTile (1 : Fin 8) fsPic0 0 0 = (wFlowstonePicturesAreBuilt3.eng.fsTile 1 fsPic0 0 0) ∧
    vget wFlowstonePicturesAreBuilt3.eng.fsr.inService (31 : Fin 32) false = true ∧
    (checkedTile (wFlowstonePicturesAreBuilt3.eng.fsTile 1 fsPic0 0 0) (wFlowstonePicturesAreBuilt3.eng.cfg.codeTile (1 : Fin 8) 0 0 (wFlowstonePicturesAreBuilt3.eng.fsTile 1 fsPic0 0 0) none) none ([(40, (255 : Byte))]) ([(40, (255 : Byte))])).2 = 2) ∧
    (wFlowstonePicturesAreBuilt4.eng.sys.phase = .running ∧
    vget wFlowstonePicturesAreBuilt4.eng.fsr.inService (5 : Fin 32) false = false) ∧
    (wFlowstonePicturesAreBuilt5.eng.sys.phase = .running ∧
    (wFlowstonePicturesAreBuilt5.eng.stream (2 : Fin 8)).pics = [fsPic0] ∧
    fsPic0.bands = [] ∧
    wFlowstonePicturesAreBuilt5.eng.fsWaiting (2 : Fin 8) 0 0 true fsPic0 = true ∧
    (wFlowstonePicturesAreBuilt5.eng.at 0).tileOverdue (2 : Fin 8) 0 fsPic0 = true) ∧
    (wFlowstonePicturesAreBuilt6.eng.sys.phase = .running ∧
    (wFlowstonePicturesAreBuilt6.eng.stream (3 : Fin 8)).pics = (({ fsPic0 with tiles := [fsTile0] } : FsrPic)) :: ([fsPic0]) ∧
    (({ fsPic0 with tiles := [fsTile0] } : FsrPic)).whole (wFlowstonePicturesAreBuilt6.eng.cfg.tileCols (3 : Fin 8)) (wFlowstonePicturesAreBuilt6.eng.cfg.fsBands (3 : Fin 8)) = true ∧
    (({ fsPic0 with tiles := [fsTile0] } : FsrPic)).mism = 0 ∧
    (({ fsPic0 with tiles := [fsTile0] } : FsrPic)).flags &&& picRcEmergency = 0 ∧
    wFlowstonePicturesAreBuilt6.eng.rec_.takes = []) ∧
    (wFlowstonePicturesAreBuilt7.eng.sys.phase = .running ∧
    wFlowstonePicturesAreBuilt7.eng.sys.mode = .review ∧
    wFlowstonePicturesAreBuilt7.eng.rec_.play = some play0 ∧
    play0.proxy = false ∧
    decodePicture fsFile0 (([] : List Byte)) = some (Played.mk 9 0 0 0 0 [] 0 0 [])) ∧
    (wFlowstonePicturesAreBuilt8.eng.sys.phase = .running ∧
    wFlowstonePicturesAreBuilt8.eng.sys.mode = .review ∧
    wFlowstonePicturesAreBuilt8.eng.rec_.play = some play0 ∧
    play0.proxy = false ∧
    decodePicture (([] : List Byte)) (([1] : List Byte)) = none) ∧
    (wFlowstonePicturesAreBuilt9.eng.sys.phase = .running ∧
    wFlowstonePicturesAreBuilt9.eng.proj.started = true ∧
    wFlowstonePicturesAreBuilt9.eng.proj.slot < wFlowstonePicturesAreBuilt9.eng.cfg.phases ∧
    wFlowstonePicturesAreBuilt9.eng.proj.run = false ∧
    wFlowstonePicturesAreBuilt9.eng.rec_.play = some ({ play0 with queue := [⟨9, 0, 0, 0, 0, [], 0, 0, [1]⟩] }) ∧
    ({ play0 with queue := [⟨9, 0, 0, 0, 0, [], 0, 0, [1]⟩] }).queue = (Played.mk 9 0 0 0 0 [] 0 0 [1]) :: (([] : List Played)) ∧
    wFlowstonePicturesAreBuilt9.eng.sys.units = [] ∧
    wFlowstonePicturesAreBuilt9.eng.sys.failed = []) :=
  ⟨by decide +kernel,
   ⟨by decide +kernel, (by decide +kernel), by decide +kernel, (by decide +kernel), by decide +kernel, rfl, by decide +kernel⟩,
   ⟨by decide +kernel, (by decide +kernel), by decide +kernel, (by decide +kernel), by decide +kernel, rfl, by decide +kernel⟩,
   by decide +kernel,
   by decide +kernel,
   (by decide +kernel),
   ⟨by decide +kernel, (by decide +kernel), by decide +kernel, (by decide +kernel), fsFile0_decodes⟩,
   by decide +kernel,
   by decide +kernel⟩

def wHevcPicturesAreCoded1 : State :=
  live [br0, sw 0x41 34 [(30, [(31, 31, 1), (16, 14, 1)]), (32, [(19, 10, 10)])]] fun e =>
    { e.modHst 7 fun q => { q with state := 1, frames := 4 } with colour := { e.colour with branches := vmod e.colour.branches 0 fun q => { q with state := .running, out := some outPic0 } } }

def wHevcPicturesAreCoded2 : State :=
  live [br0, sw 0x41 34 [(2, [(31, 31, 1)]), (4, [(19, 10, 10)])]] fun e =>
    { e.modHst 0 fun q => { q with state := 2, begun := true, pics := [hvPic0, hvPic0] } with colour := { e.colour with branches := vmod e.colour.branches 0 fun q => { q with state := .running, out := some outPic0 } } }

def wHevcPicturesAreCoded3 : State :=
  live [br0, sw 0x41 34 [(2, [(31, 31, 1)]), (4, [(19, 10, 10)])]] fun e =>
    e.modHst 0 fun q => { q with state := 2, begun := true, lastSrc := some outPic0 }

def wHevcPicturesAreCoded4 : State :=
  live [br0, sw 0x41 34 [(2, [(31, 31, 1)])]] fun e => e.modHst 0 fun q => { q with state := 2, fill := 80000, pics := [hvPic0, hvPic0] }

def wHevcPicturesAreCoded5 : State :=
  live [br0, sw 0x41 34 [(2, [(31, 31, 1)])]] fun e => e.modHst 0 fun q => { q with state := 2, pics := [{ hvPic0 with rows := [hvRow0] }] }

def wHevcPicturesAreCoded6 : State :=
  live [br0, sw 0x41 34 [(2, [(31, 31, 1)])]] fun e => e.modHst 0 fun q => { q with state := 2, pics := [{ hvPic0 with rows := [hvRow0] }] }

def wHevcPicturesAreCoded7 : State :=
  live [br0, sw 0x41 34 [(2, [(31, 31, 1)])]] fun e => e.modHst 0 fun q => { q with state := 2, pics := [{ hvPic0 with rows := [hvRow0] }] }

def wHevcPicturesAreCoded8 : State :=
  live [br0, sw 0x41 34 [(6, [(31, 31, 1), (13, 12, 1)])]] fun e => e.modHst 1 fun q => { q with state := 2, pics := [{ hvPic0 with idr := true, rows := [{ hvRow0 with ctus := 2 }] }] }

/-- The hypotheses of HevcPicturesAreCoded can be met, clause by clause. -/
theorem witness_HevcPicturesAreCoded :
    (wHevcPicturesAreCoded1.eng.sys.phase = .running ∧
    (wHevcPicturesAreCoded1.eng.hst (7 : Fin 8)).state ≠ 0 ∧
    wHevcPicturesAreCoded1.eng.clk.classV = false ∧
    wHevcPicturesAreCoded1.eng.cfg.hvSrc (7 : Fin 8) ≠ 6 ∧
    (wHevcPicturesAreCoded1.eng.hst (7 : Fin 8)).frames % wHevcPicturesAreCoded1.eng.cfg.hvDiv (7 : Fin 8) = 0 ∧
    wHevcPicturesAreCoded1.eng.hevcSource (7 : Fin 8) = some outPic0 ∧
    ((wHevcPicturesAreCoded1.eng.hst (7 : Fin 8)).pics.filter (·.buf)).length < 2) ∧
    (wHevcPicturesAreCoded2.eng.sys.phase = .running ∧
    (wHevcPicturesAreCoded2.eng.hst (0 : Fin 8)).state ≠ 0 ∧
    wHevcPicturesAreCoded2.eng.clk.classV = false ∧
    wHevcPicturesAreCoded2.eng.cfg.hvSrc (0 : Fin 8) ≠ 6 ∧
    (wHevcPicturesAreCoded2.eng.hst (0 : Fin 8)).frames % wHevcPicturesAreCoded2.eng.cfg.hvDiv (0 : Fin 8) = 0 ∧
    wHevcPicturesAreCoded2.eng.hevcSource (0 : Fin 8) = some outPic0 ∧
    2 ≤ ((wHevcPicturesAreCoded2.eng.hst (0 : Fin 8)).pics.filter (·.buf)).length) ∧
    (wHevcPicturesAreCoded3.eng.sys.phase = .running ∧
    (wHevcPicturesAreCoded3.eng.hst (0 : Fin 8)).state ≠ 0 ∧
    wHevcPicturesAreCoded3.eng.clk.classV = false ∧
    wHevcPicturesAreCoded3.eng.cfg.hvSrc (0 : Fin 8) ≠ 6 ∧
    (wHevcPicturesAreCoded3.eng.hst (0 : Fin 8)).frames % wHevcPicturesAreCoded3.eng.cfg.hvDiv (0 : Fin 8) = 0 ∧
    wHevcPicturesAreCoded3.eng.hevcSource (0 : Fin 8) = none ∧
    (wHevcPicturesAreCoded3.eng.hst (0 : Fin 8)).lastSrc = some outPic0) ∧
    (wHevcPicturesAreCoded4.eng.sys.phase = .running ∧
    (wHevcPicturesAreCoded4.eng.hst (0 : Fin 8)).pics = hvPic0 :: ([hvPic0]) ∧
    hvPic0.rows = [] ∧
    hvPic0.idr = false ∧
    hvPic0.first = false ∧
    wHevcPicturesAreCoded4.eng.hevcTurn = some (0 : Fin 8).val ∧
    wHevcPicturesAreCoded4.eng.rowsInFlight < 4) ∧
    (wHevcPicturesAreCoded5.eng.sys.phase = .running ∧
    (wHevcPicturesAreCoded5.eng.hst (0 : Fin 8)).pics = (({ hvPic0 with rows := [hvRow0] } : HevcPic)) :: (([] : List HevcPic)) ∧
    (({ hvPic0 with rows := [hvRow0] } : HevcPic)).rows[0]? = some hvRow0 ∧
    hvRow0.ctus + 1 < wHevcPicturesAreCoded5.eng.cfg.hvCols (0 : Fin 8) ∧
    hvRow0.bound = false ∧
    wHevcPicturesAreCoded5.eng.hevcChoose (0 : Fin 8) (({ hvPic0 with rows := [hvRow0] } : HevcPic)) 0 hvRow0.ctus false ([HevcCand.mk 9 1 [], HevcCand.mk 5 488 [⟨0, 0, 64, .intra⟩], HevcCand.mk 5 1 [⟨0, 0, 64, .intra⟩]]) = some (HevcCand.mk 5 488 [⟨0, 0, 64, .intra⟩]) ∧
    hvRow0.bytes + (HevcCand.mk 5 488 [⟨0, 0, 64, .intra⟩]).bytes + wHevcPicturesAreCoded5.eng.cfg.emergBound (0 : Fin 8) (({ hvPic0 with rows := [hvRow0] } : HevcPic)) (hvRow0.ctus + 1) ≤ hvRow0.alloc) ∧
    (wHevcPicturesAreCoded6.eng.sys.phase = .running ∧
    (wHevcPicturesAreCoded6.eng.hst (0 : Fin 8)).pics = (({ hvPic0 with rows := [hvRow0] } : HevcPic)) :: (([] : List HevcPic)) ∧
    (({ hvPic0 with rows := [hvRow0] } : HevcPic)).rows[0]? = some hvRow0 ∧
    hvRow0.ctus + 1 < wHevcPicturesAreCoded6.eng.cfg.hvCols (0 : Fin 8) ∧
    hvRow0.emerg = false ∧
    ((hvRow0.bound = true ∨ ∃ x, wHevcPicturesAreCoded6.eng.hevcChoose (0 : Fin 8) (({ hvPic0 with rows := [hvRow0] } : HevcPic)) 0 hvRow0.ctus false ([HevcCand.mk 5 489 [⟨0, 0, 64, .intra⟩]]) = some x ∧ hvRow0.alloc < hvRow0.bytes + x.bytes + wHevcPicturesAreCoded6.eng.cfg.emergBound (0 : Fin 8) (({ hvPic0 with rows := [hvRow0] } : HevcPic)) (hvRow0.ctus + 1)))) ∧
    (wHevcPicturesAreCoded7.eng.sys.phase = .running ∧
    (wHevcPicturesAreCoded7.eng.hst (0 : Fin 8)).pics = (({ hvPic0 with rows := [hvRow0] } : HevcPic)) :: (([] : List HevcPic)) ∧
    (({ hvPic0 with rows := [hvRow0] } : HevcPic)).rows[0]? = some hvRow0 ∧
    hvRow0.ctus + 1 < wHevcPicturesAreCoded7.eng.cfg.hvCols (0 : Fin 8) ∧
    hvRow0.bound = false ∧
    (({ hvPic0 with rows := [hvRow0] } : HevcPic)).poison = false) ∧
    (wHevcPicturesAreCoded8.eng.sys.phase = .running ∧
    (wHevcPicturesAreCoded8.eng.hst (1 : Fin 8)).pics = (({ hvPic0 with idr := true, rows := [{ hvRow0 with ctus := 2 }] } : HevcPic)) :: (([] : List HevcPic)) ∧
    wHevcPicturesAreCoded8.eng.cfg.hevcWhole (1 : Fin 8) (({ hvPic0 with idr := true, rows := [{ hvRow0 with ctus := 2 }] } : HevcPic)) = true ∧
    wHevcPicturesAreCoded8.eng.cfg.hvMode (1 : Fin 8) ≠ 0 ∧
    wHevcPicturesAreCoded8.eng.hevcSenders (1 : Fin 8) = [] ∧
    wHevcPicturesAreCoded8.eng.rec_.takes = [] ∧
    (({ hvPic0 with idr := true, rows := [{ hvRow0 with ctus := 2 }] } : HevcPic)).rows.any (·.emerg) = false ∧
    (({ hvPic0 with idr := true, rows := [{ hvRow0 with ctus := 2 }] } : HevcPic)).skip = false) :=
  ⟨by decide +kernel,
   (by decide +kernel),
   by decide +kernel,
   (by decide +kernel),
   by decide +kernel,
   ⟨by decide +kernel, (by decide +kernel), by decide +kernel, (by decide +kernel), by decide +kernel, Or.inr ⟨⟨5, 489, [⟨0, 0, 64, .intra⟩]⟩, by decide +kernel, by decide +kernel⟩⟩,
   by decide +kernel,
   (by decide +kernel)⟩

def wHevcPicturesAreDecoded1 : State :=
  live [sw 0x6A 120 [(114, [(31, 31, 1), (30, 28, 5), (27, 24, 3)])]] id

def wHevcPicturesAreDecoded2 : State :=
  live [sw 0x41 34 [(0, [(31, 16, 64), (15, 0, 64)]), (1, [(4, 0, 1)])]] fun e =>
    { e.modDec 0 fun q => { q with state := 1 } with hevc := { (e.modDec 0 fun q => { q with state := 1 }).hevc with
      pool := vmod e.hevc.pool 31 fun x => { x with owner := 8 } } }

def wHevcPicturesAreDecoded3 : State :=
  live [] fun e => e.modDec 1 fun q => { q with state := 2, queue := [{ au0 with profileOk := false }] }

def wHevcPicturesAreDecoded3b : State :=
  live [sw 0x41 34 [(0, [(31, 16, 64), (15, 0, 64)]), (1, [(9, 5, 1)])]] fun e => e.modDec 1 fun q => { q with state := 1, queue := [{ au0 with width := 65 }] }

def wHevcPicturesAreDecoded4 : State :=
  live [] fun e => e.modDec 2 fun q => { q with state := 2, last := some ⟨5, 0, 8, outPic0⟩ }

/-- The hypotheses of HevcPicturesAreDecoded can be met, clause by clause. -/
theorem witness_HevcPicturesAreDecoded :
    (wHevcPicturesAreDecoded1.eng.sys.phase = .running ∧
    wHevcPicturesAreDecoded1.eng.cfg.decRx (3 : Fin 4) = true ∧
    (wHevcPicturesAreDecoded1.eng.dec (3 : Fin 4)).media = false ∧
    wHevcPicturesAreDecoded1.eng.clk.classV = false) ∧
    (wHevcPicturesAreDecoded2.eng.sys.phase = .running ∧
    ((wHevcPicturesAreDecoded2.eng.dec (0 : Fin 4)).state = 1 ∨ (wHevcPicturesAreDecoded2.eng.dec (0 : Fin 4)).state = 2) ∧
    (wHevcPicturesAreDecoded2.eng.dec (0 : Fin 4)).media = false ∧
    wHevcPicturesAreDecoded2.eng.cfg.decFits (0 : Fin 4) au0 = true ∧
    au0.idr = true ∧
    au0.irap = true ∧
    au0.rasl = false ∧
    au0.nalErrs = 0 ∧
    au0.sliceErrs = 0 ∧
    au0.lost = [] ∧
    au0.hashOk ≠ some false ∧
    au0.poison = [] ∧
    (wHevcPicturesAreDecoded2.eng.dec (0 : Fin 4)).concealing = false ∧
    (wHevcPicturesAreDecoded2.eng.freeBuf (8 + (0 : Fin 4).val)).isSome = true) ∧
    (wHevcPicturesAreDecoded3.eng.sys.phase = .running ∧
    ((wHevcPicturesAreDecoded3.eng.dec (1 : Fin 4)).state = 1 ∨ (wHevcPicturesAreDecoded3.eng.dec (1 : Fin 4)).state = 2) ∧
    (wHevcPicturesAreDecoded3.eng.dec (1 : Fin 4)).media = false ∧
    wHevcPicturesAreDecoded3.eng.cfg.decFits (1 : Fin 4) (({ au0 with profileOk := false } : AccessUnit)) = false ∧
    (wHevcPicturesAreDecoded3.eng.dec (1 : Fin 4)).last = none) ∧
    (wHevcPicturesAreDecoded3b.eng.sys.phase = .running ∧
    ((wHevcPicturesAreDecoded3b.eng.dec (1 : Fin 4)).state = 1 ∨ (wHevcPicturesAreDecoded3b.eng.dec (1 : Fin 4)).state = 2) ∧
    (wHevcPicturesAreDecoded3b.eng.dec (1 : Fin 4)).media = false ∧
    wHevcPicturesAreDecoded3b.eng.cfg.decFits (1 : Fin 4) (({ au0 with width := 65 } : AccessUnit)) = false ∧
    (wHevcPicturesAreDecoded3b.eng.dec (1 : Fin 4)).last = none) ∧
    (wHevcPicturesAreDecoded4.eng.sys.phase = .running ∧
    (wHevcPicturesAreDecoded4.eng.dec (2 : Fin 4)).state ≠ 0 ∧
    (wHevcPicturesAreDecoded4.eng.dec (2 : Fin 4)).last = some (DecOut.mk 5 0 8 outPic0) ∧
    (DecOut.mk 5 0 8 outPic0).flags = 0 ∧
    (wHevcPicturesAreDecoded4.eng.dec (2 : Fin 4)).concealing = false) :=
  ⟨by decide +kernel,
   ⟨by decide +kernel, Or.inl (by decide +kernel), by decide +kernel⟩,
   ⟨by decide +kernel, Or.inr (by decide +kernel), by decide +kernel⟩,
   ⟨by decide +kernel, Or.inl (by decide +kernel), by decide +kernel⟩,
   by decide +kernel⟩

def wDrivesComeAndGo1 : State :=
  live [sw 0x51 5 [(3, [(31, 31, 1)])]] id

def wDrivesComeAndGo1b : State :=
  live [sw 0x51 5 [(0, [(31, 31, 1)])]] id

def wDrivesComeAndGo2 : State :=
  live [] (withDrive 0 .linking id)

def wDrivesComeAndGo3 : State :=
  live [] (withDrive 1 .linking id)

def wDrivesComeAndGo4 : State :=
  live [] (withDrive 2 .recovering fun q => { q with cmds := [{ cmd0 with use := .flush }], mounting := some { vol0 with open_ := [⟨[65], []⟩] } })

def wDrivesComeAndGo5 : State :=
  live [] (withDrive 1 .linking id)

def wDrivesComeAndGo5b : State :=
  live [] (withDrive 1 .linking id)

def wDrivesComeAndGo6 : State :=
  live [] fun e => { withDrive 2 .mounted id e with pins := { e.pins with pwren := e.pins.pwren.set 2 true } }

def wDrivesComeAndGo6b : State :=
  live [] fun e => { withDrive 2 .mounted id e with sys := { e.sys with phase := .halt 4 } }

def wDrivesComeAndGo7 : State :=
  live [] (withDrive 3 .mounted fun q => { q with resetting := true, cmds := [cmd0] })

def wDrivesComeAndGo7b : State :=
  live [] (withDrive 3 .linking id)

def wDrivesComeAndGo8 : State :=
  live [] (withDrive 0 .mounted id)

def wDrivesComeAndGo8b : State :=
  live [] (withDrive 0 .mounted id)

/-- The hypotheses of DrivesComeAndGo can be met, clause by clause. -/
theorem witness_DrivesComeAndGo :
    (wDrivesComeAndGo1.eng.sys.phase = .running ∧
    (wDrivesComeAndGo1.eng.mport (3 : Fin 4)).drive = none ∧
    drive0.present = true ∧
    wDrivesComeAndGo1.eng.cfg.mediaEn (3 : Fin 4) = true) ∧
    (wDrivesComeAndGo1b.eng.sys.phase = .running ∧
    (wDrivesComeAndGo1b.eng.mport (0 : Fin 4)).drive = none ∧
    (({ drive0 with lbaMeta := 8 } : DriveInfo)).present = true ∧
    wDrivesComeAndGo1b.eng.cfg.mediaEn (0 : Fin 4) = true) ∧
    (wDrivesComeAndGo2.eng.sys.phase = .running ∧
    (wDrivesComeAndGo2.eng.mport (0 : Fin 4)).drive = some drive0 ∧
    (wDrivesComeAndGo2.eng.mport (0 : Fin 4)).state = .linking ∧
    wDrivesComeAndGo2.eng.sys.mode ≠ .offload ∧
    wDrivesComeAndGo2.eng.unitHeld (0x0500 + (0 : Fin 4).val) (13 + (0 : Fin 4).val) = false ∧
    mountVolume vol0 = some volInfo0 ∧
    volumeOk volInfo0 = true ∧
    vol0.open_ = []) ∧
    (wDrivesComeAndGo3.eng.sys.phase = .running ∧
    (wDrivesComeAndGo3.eng.mport (1 : Fin 4)).drive = some drive0 ∧
    (wDrivesComeAndGo3.eng.mport (1 : Fin 4)).state = .linking ∧
    wDrivesComeAndGo3.eng.sys.mode ≠ .offload ∧
    wDrivesComeAndGo3.eng.unitHeld (0x0500 + (1 : Fin 4).val) (13 + (1 : Fin 4).val) = false ∧
    mountVolume (({ vol0 with open_ := [⟨[65], []⟩] } : MountInfo)) = some volInfo0 ∧
    volumeOk volInfo0 = true ∧
    (({ vol0 with open_ := [⟨[65], []⟩] } : MountInfo)).open_ ≠ []) ∧
    (wDrivesComeAndGo4.eng.sys.phase.powered = true ∧
    (wDrivesComeAndGo4.eng.mport (2 : Fin 4)).cmds.find? (·.cid = 9) = some (({ cmd0 with use := .flush } : MediaCmd)) ∧
    (({ cmd0 with use := .flush } : MediaCmd)).use = .flush ∧
    (wDrivesComeAndGo4.eng.mport (2 : Fin 4)).mounting = some (({ vol0 with open_ := [⟨[65], []⟩] } : MountInfo)) ∧
    (wDrivesComeAndGo4.eng.mport (2 : Fin 4)).drive = some drive0 ∧
    wDrivesComeAndGo4.eng.rec_.takes = []) ∧
    (wDrivesComeAndGo5.eng.sys.phase = .running ∧
    (wDrivesComeAndGo5.eng.mport (1 : Fin 4)).drive = some drive0 ∧
    (wDrivesComeAndGo5.eng.mport (1 : Fin 4)).state = .linking ∧
    wDrivesComeAndGo5.eng.sys.mode ≠ .offload ∧
    wDrivesComeAndGo5.eng.unitHeld (0x0500 + (1 : Fin 4).val) (13 + (1 : Fin 4).val) = false ∧
    (mountVolume (({ vol0 with inTable := some { volInfo0 with bootOk := false } } : MountInfo))).all (fun v => !volumeOk v) = true) ∧
    (wDrivesComeAndGo5b.eng.sys.phase = .running ∧
    (wDrivesComeAndGo5b.eng.mport (1 : Fin 4)).drive = some drive0 ∧
    (wDrivesComeAndGo5b.eng.mport (1 : Fin 4)).state = .linking ∧
    wDrivesComeAndGo5b.eng.sys.mode ≠ .offload ∧
    wDrivesComeAndGo5b.eng.unitHeld (0x0500 + (1 : Fin 4).val) (13 + (1 : Fin 4).val) = false ∧
    (mountVolume (({ vol0 with inTable := none } : MountInfo))).all (fun v => !volumeOk v) = true) ∧
    (wDrivesComeAndGo6.eng.sys.phase.powered = true ∧
    (wDrivesComeAndGo6.eng.mport (2 : Fin 4)).state ≠ .empty ∧
    wDrivesComeAndGo6.eng.driveIdle (2 : Fin 4)) ∧
    (wDrivesComeAndGo6b.eng.sys.phase.powered = true ∧
    (wDrivesComeAndGo6b.eng.mport (2 : Fin 4)).state ≠ .empty ∧
    wDrivesComeAndGo6b.eng.driveIdle (2 : Fin 4)) ∧
    (wDrivesComeAndGo7.eng.sys.phase = .running ∧
    (wDrivesComeAndGo7.eng.mport (3 : Fin 4)).state ≠ .empty ∧
    (wDrivesComeAndGo7.eng.mport (3 : Fin 4)).state ≠ .failed ∧
    wDrivesComeAndGo7.eng.driveIdle (3 : Fin 4) ∧
    ((Instr.mediaResetTimeout 0 3) = Instr.mediaLinkDownTimeout 0 (3 : Fin 4) ∨ ((Instr.mediaResetTimeout 0 3) = .mediaResetTimeout 0 (3 : Fin 4) ∧ (wDrivesComeAndGo7.eng.mport (3 : Fin 4)).resetting = true))) ∧
    (wDrivesComeAndGo7b.eng.sys.phase = .running ∧
    (wDrivesComeAndGo7b.eng.mport (3 : Fin 4)).state ≠ .empty ∧
    (wDrivesComeAndGo7b.eng.mport (3 : Fin 4)).state ≠ .failed ∧
    wDrivesComeAndGo7b.eng.driveIdle (3 : Fin 4) ∧
    ((Instr.mediaLinkDownTimeout 0 3) = Instr.mediaLinkDownTimeout 0 (3 : Fin 4) ∨ ((Instr.mediaLinkDownTimeout 0 3) = .mediaResetTimeout 0 (3 : Fin 4) ∧ (wDrivesComeAndGo7b.eng.mport (3 : Fin 4)).resetting = true))) ∧
    (wDrivesComeAndGo8.eng.sys.phase = .running ∧
    (wDrivesComeAndGo8.eng.mport (0 : Fin 4)).state ≠ .empty ∧
    (wDrivesComeAndGo8.eng.mport (0 : Fin 4)).state ≠ .failed ∧
    wDrivesComeAndGo8.eng.driveIdle (0 : Fin 4) ∧
    ((8)) ≠ 0 ∧
    (wDrivesComeAndGo8.eng.mport (0 : Fin 4)).healthWarn = false) ∧
    (wDrivesComeAndGo8b.eng.sys.phase = .running ∧
    (wDrivesComeAndGo8b.eng.mport (0 : Fin 4)).state ≠ .empty ∧
    (wDrivesComeAndGo8b.eng.mport (0 : Fin 4)).state ≠ .failed ∧
    wDrivesComeAndGo8b.eng.driveIdle (0 : Fin 4) ∧
    ((1)) ≠ 0 ∧
    (wDrivesComeAndGo8b.eng.mport (0 : Fin 4)).healthWarn = false) :=
  ⟨by decide +kernel,
   (by decide +kernel),
   by decide +kernel,
   (by decide +kernel),
   by decide +kernel,
   (by decide +kernel),
   by decide +kernel,
   ⟨by decide +kernel, (by decide +kernel), by unfold Engine.driveIdle; decide +kernel⟩,
   ⟨by decide +kernel, (by decide +kernel), by unfold Engine.driveIdle; decide +kernel⟩,
   ⟨by decide +kernel, (by decide +kernel), by decide +kernel, by unfold Engine.driveIdle; decide +kernel, Or.inr ⟨rfl, rfl⟩⟩,
   ⟨by decide +kernel, (by decide +kernel), by decide +kernel, by unfold Engine.driveIdle; decide +kernel, Or.inl rfl⟩,
   ⟨by decide +kernel, (by decide +kernel), by decide +kernel, by unfold Engine.driveIdle; decide +kernel, by decide +kernel⟩,
   ⟨by decide +kernel, (by decide +kernel), by decide +kernel, by unfold Engine.driveIdle; decide +kernel, by decide +kernel⟩⟩

def wDriveCommandsRetried1 : State :=
  live [] fun e => { withDrive 0 .mounted (fun q => { q with cmds := [cmd0] }) e with
    rec_ := { (withDrive 0 .mounted (fun q => { q with cmds := [cmd0] }) e).rec_ with chunks := [chunk0 0, { chunk0 0 with id := 6 }] } }

def wDriveCommandsRetried2 : State :=
  live [] fun e => { withDrive 1 .mounted (fun q => { q with cmds := [{ cmd0 with use := .body 5 0 }], resetting := true }) e with
    rec_ := { (withDrive 1 .mounted (fun q => { q with cmds := [{ cmd0 with use := .body 5 0 }], resetting := true }) e).rec_ with chunks := [chunk0 1] } }

def wDriveCommandsRetried3 : State :=
  live [] (withDrive 1 .mounted fun q => { q with cmds := [cmd0], resetting := true })

def wDriveCommandsRetried4 : State :=
  live [] (withDrive 1 .mounted fun q => { q with cmds := [{ cmd0 with retried := true }] })

def wDriveCommandsRetried5 : State :=
  live [] (withDrive 2 .mounted fun q => { q with cmds := [cmd0] })

def wDriveCommandsRetried6 : State :=
  live [] (withDrive 2 .mounted fun q => { q with cmds := [{ cmd0 with use := .asyncEvent }] })

def wDriveCommandsRetried7 : State :=
  live [] (withDrive 3 .mounted fun q => { q with queues := 2, cmds := [{ cmd0 with aborted := true }, ⟨10, .abort 9, 0, false, false, []⟩, ⟨11, .flush, 2, true, false, [4]⟩] })

/-- The hypotheses of DriveCommandsRetried can be met, clause by clause. -/
theorem witness_DriveCommandsRetried :
    (wDriveCommandsRetried1.eng.sys.phase.powered = true ∧
    (wDriveCommandsRetried1.eng.mport (0 : Fin 4)).cmds.find? (·.cid = 9) = some cmd0 ∧
    cmd0.use = .header 5 ∧
    wDriveCommandsRetried1.eng.rec_.takes = []) ∧
    (wDriveCommandsRetried2.eng.sys.phase.powered = true ∧
    (wDriveCommandsRetried2.eng.mport (1 : Fin 4)).cmds.find? (·.cid = 9) = some (({ cmd0 with use := .body 5 0 } : MediaCmd)) ∧
    (({ cmd0 with use := .body 5 0 } : MediaCmd)).use = .body 5 0 ∧
    wDriveCommandsRetried2.eng.rec_.takes = []) ∧
    (wDriveCommandsRetried3.eng.sys.phase.powered = true ∧
    (wDriveCommandsRetried3.eng.mport (1 : Fin 4)).cmds.find? (·.cid = 9) = some cmd0 ∧
    cmd0.retried = false ∧
    129 ≠ 0) ∧
    (wDriveCommandsRetried4.eng.sys.phase.powered = true ∧
    (wDriveCommandsRetried4.eng.mport (1 : Fin 4)).cmds.find? (·.cid = 9) = some (({ cmd0 with retried := true } : MediaCmd)) ∧
    (({ cmd0 with retried := true } : MediaCmd)).retried = true ∧
    129 ≠ 0 ∧
    ((∀ q k, (({ cmd0 with retried := true } : MediaCmd)).use ≠ .host q k)) ∧
    (wDriveCommandsRetried4.eng.mport (1 : Fin 4)).state ≠ .empty ∧
    (wDriveCommandsRetried4.eng.mport (1 : Fin 4)).state ≠ .failed ∧
    wDriveCommandsRetried4.eng.driveIdle (1 : Fin 4)) ∧
    (wDriveCommandsRetried5.eng.sys.phase = .running ∧
    ((∃ c ∈ (wDriveCommandsRetried5.eng.mport (2 : Fin 4)).cmds, c.cid = 9 ∧ c.aborted = false ∧ c.use ≠ .asyncEvent))) ∧
    (wDriveCommandsRetried6.eng.sys.phase = .running ∧
    ((∀ c ∈ (wDriveCommandsRetried6.eng.mport (2 : Fin 4)).cmds, c.cid = 9 → c.use = .asyncEvent))) ∧
    (wDriveCommandsRetried7.eng.sys.phase = .running ∧
    ((∃ c ∈ (wDriveCommandsRetried7.eng.mport (3 : Fin 4)).cmds, c.cid = 9 ∧ c.aborted = true)) ∧
    wDriveCommandsRetried7.eng.inClip (3 : Fin 4) = false ∧
    (wDriveCommandsRetried7.eng.mport (3 : Fin 4)).resetAt = none) :=
  ⟨by decide +kernel,
   (by decide +kernel),
   by decide +kernel,
   ⟨by decide +kernel, (by decide +kernel), by decide +kernel, (by decide +kernel), (fun q k h => by cases h), by decide +kernel, by decide +kernel, by unfold Engine.driveIdle; decide +kernel⟩,
   by decide +kernel,
   (by decide +kernel),
   by decide +kernel⟩

def wMediaRequestsServed1 : State :=
  live [] id

def wMediaRequestsServed2 : State :=
  live [] fun e => { withDrive 2 .mounted (fun q => { q with volume := some ⟨1048576, 4000000000, 22, []⟩ }) e with sys := { e.sys with mode := .review } }

def wMediaRequestsServed3 : State :=
  live [] fun e => { withDrive 2 .playing id e with sys := { e.sys with mode := .review }, rec_ := { (withDrive 2 .playing id e).rec_ with play := some { play0 with ports := [2] } } }

def wMediaRequestsServed4 : State :=
  live [] (withDrive 0 .foreign fun q => { q with qual := some 3 })

def wMediaRequestsServed5 : State :=
  live [] id

def wMediaRequestsServed6 : State :=
  live [] (withDrive 3 .formatting id)

def wMediaRequestsServed7 : State :=
  live [] (withDrive 0 .mounted fun q => { q with free := 68719476736 })

def wMediaRequestsServed8 : State :=
  live [] (withDrive 0 .qualifying fun q => { q with qualifier := some (.uart, 4) })

/-- The hypotheses of MediaRequestsServed can be met, clause by clause. -/
theorem witness_MediaRequestsServed :
    (wMediaRequestsServed1.takes 0 hU 0x0303 ∧
    1 ≤ 999 ∧
    999 ≤ 999) ∧
    (wMediaRequestsServed2.takes 0 hU 0x0304 ∧
    ([65, 48, 48, 49, 67, 48, 48, 48, 50, 95, 48, 48, 48, 0, 0, 0]).length = 16 ∧
    (([65, 48, 48, 49, 67, 48, 48, 48, 50, 95, 48, 48, 48, 0, 0, 0]).drop 13).all (· = 0) = true ∧
    wMediaRequestsServed2.eng.sys.mode = .review ∧
    wMediaRequestsServed2.eng.rec_.play = none ∧
    parseClip ([65, 48, 48, 49, 67, 48, 48, 48, 50, 95, 48, 48, 48, 0, 0, 0]) = some (ClipFolder.mk 65 1 0 2) ∧
    ((∃ m : Fin 4, ((wMediaRequestsServed2.eng.readVolumes ([VolNow.mk 2 1 [⟨65, 1, 0, 2⟩]])).mport m).state = .mounted ∧ (ClipFolder.mk 65 1 0 2) ∈ ((wMediaRequestsServed2.eng.readVolumes ([VolNow.mk 2 1 [⟨65, 1, 0, 2⟩]])).mport m).folders))) ∧
    (wMediaRequestsServed3.takes 0 hU 0x0305 ∧
    wMediaRequestsServed3.eng.sys.mode = .review ∧
    wMediaRequestsServed3.eng.rec_.play = some ({ play0 with ports := [2] }) ∧
    ({ play0 with ports := [2] }).proxy = false) ∧
    (wMediaRequestsServed4.takes 0 hU 0x0306 ∧
    wMediaRequestsServed4.eng.mediaRefusal (0 : Fin 4) = none) ∧
    (wMediaRequestsServed5.takes 0 hU 0x0306 ∧
    wMediaRequestsServed5.eng.mediaRefusal (1 : Fin 4) = some (Status.notFound, Reason.none)) ∧
    (wMediaRequestsServed6.eng.sys.phase = .running ∧
    (wMediaRequestsServed6.eng.mport (3 : Fin 4)).state = .formatting ∧
    (wMediaRequestsServed6.eng.mport (3 : Fin 4)).drive = some drive0) ∧
    (wMediaRequestsServed7.takes 0 hU 0x0307 ∧
    wMediaRequestsServed7.eng.mediaRefusal (0 : Fin 4) = none ∧
    (wMediaRequestsServed7.eng.mport (0 : Fin 4)).state = .mounted ∧
    68719476736 ≤ (wMediaRequestsServed7.eng.mport (0 : Fin 4)).free) ∧
    (wMediaRequestsServed8.eng.sys.phase = .running ∧
    (wMediaRequestsServed8.eng.mport (0 : Fin 4)).state = .qualifying ∧
    (wMediaRequestsServed8.eng.mport (0 : Fin 4)).drive = some drive0 ∧
    (wMediaRequestsServed8.eng.mport (0 : Fin 4)).qualifier = some (Client.uart, 4) ∧
    11 ≤ ((List.range 60)).length) :=
  ⟨⟨show (wMediaRequestsServed1.eng.at 0).intake hU 0x0303 = Admit.go from by decide +kernel, by decide +kernel⟩,
   ⟨show (wMediaRequestsServed2.eng.at 0).intake hU 0x0304 = Admit.go from by decide +kernel, by decide +kernel⟩,
   ⟨show (wMediaRequestsServed3.eng.at 0).intake hU 0x0305 = Admit.go from by decide +kernel, by decide +kernel⟩,
   ⟨show (wMediaRequestsServed4.eng.at 0).intake hU 0x0306 = Admit.go from by decide +kernel, by decide +kernel⟩,
   ⟨show (wMediaRequestsServed5.eng.at 0).intake hU 0x0306 = Admit.go from by decide +kernel, by decide +kernel⟩,
   by decide +kernel,
   ⟨show (wMediaRequestsServed7.eng.at 0).intake hU 0x0307 = Admit.go from by decide +kernel, by decide +kernel⟩,
   by decide +kernel⟩

def wRecordedChunksAndClosings1 : State :=
  live [] fun e => { withDrive 2 .recording id e with rec_ := { (withDrive 2 .recording id e).rec_ with takes := [take0 2], chunks := [{ chunk0 2 with written := true }] } }

def wRecordedChunksAndClosings2 : State :=
  live [] fun e => { e with rec_ := { e.rec_ with chunks := [{ chunk0 1 with written := true }] } }

def wRecordedChunksAndClosings3 : State :=
  live [] fun e => { withDrive 3 .recording id e with rec_ := { (withDrive 3 .recording id e).rec_ with takes := [{ take0 3 with last := some 9, closing := true, clips := [clipRec0] }] } }

/-- The hypotheses of RecordedChunksAndClosings can be met, clause by clause. -/
theorem witness_RecordedChunksAndClosings :
    (wRecordedChunksAndClosings1.eng.sys.phase = .running ∧
    wRecordedChunksAndClosings1.eng.rec_.flushStop = false ∧
    wRecordedChunksAndClosings1.eng.rec_.takes = [(take0 2)] ∧
    (take0 2).drives = [⟨0, (2 : Fin 4), false⟩]) ∧
    (wRecordedChunksAndClosings2.eng.sys.phase = .running ∧
    wRecordedChunksAndClosings2.eng.rec_.takes = [] ∧
    ((∃ x ∈ wRecordedChunksAndClosings2.eng.rec_.chunks, x.id = 5 ∧ x.port = (1 : Fin 4).val ∧ x.written = true))) ∧
    (wRecordedChunksAndClosings3.eng.sys.phase = .running ∧
    wRecordedChunksAndClosings3.eng.rec_.takes = [(({ take0 3 with last := some 9, closing := true, clips := [clipRec0] } : Take))] ∧
    wRecordedChunksAndClosings3.eng.recClosed (({ take0 3 with last := some 9, closing := true, clips := [clipRec0] } : Take)) = true ∧
    (({ take0 3 with last := some 9, closing := true, clips := [clipRec0] } : Take)).clips = [clipRec0]) :=
  ⟨by decide +kernel,
   (by decide +kernel),
   by decide +kernel⟩

def wEndpointLinkAndQueues1 : State :=
  live [ept0] id

def wEndpointLinkAndQueues2 : State :=
  live [ept0] fun e => e.modEp fun p => { p with link := .up }

def wEndpointLinkAndQueues3 : State :=
  live [ept0] (epOn fun p => { p with fetched := [epFx 1 7], cmds := [epCmd0 5], dirty := [⟨1, 0, [1], false⟩], feats := [(1, 0, 2)] })

def wEndpointLinkAndQueues3b : State :=
  live [ept0] (epOn fun p => { p with fetched := [epFx 1 7], cmds := [epCmd0 5], dirty := [⟨1, 0, [1], false⟩], feats := [(1, 0, 2)] })

def wEndpointLinkAndQueues4 : State :=
  live [ept0] fun e => (epOn (fun p => { p with fetched := [epFx 1 7], cmds := [epCmd0 5], dirty := [⟨1, 0, [1], false⟩], gen := 4, width := 4 }) e).modLane 33 fun q => { q with loopback := 4 }

def wEndpointLinkAndQueues5 : State :=
  live [ept0] (epOn fun p => { p with regs := [(0x2410, 8)] })

def wEndpointLinkAndQueues5b : State :=
  live [ept0] (epOn fun p => { p with regs := [(0, 8)] })

def wEndpointLinkAndQueues6 : State :=
  live [ept0] (epOn id)

def wEndpointLinkAndQueues7 : State :=
  live [ept0] (epOn fun p => { p with msix := p.msix.set 0 ⟨5, 6, true, true⟩ })

def wEndpointLinkAndQueues8 : State :=
  live [ept0, sw 0x03 62 [(32, [(27, 24, 2)])]] (epOn id)

def wEndpointLinkAndQueues9 : State :=
  live [ept0] (epOn id)

def wEndpointLinkAndQueues9b : State :=
  live [ept0] (epOn id)

def wEndpointLinkAndQueues10 : State :=
  live [ept0] (epOn id)

def wEndpointLinkAndQueues11 : State :=
  live [ept0] (epOn id)

def wEndpointLinkAndQueues11b : State :=
  live [ept0] (epOn id)

/-- The hypotheses of EndpointLinkAndQueues can be met, clause by clause. -/
theorem witness_EndpointLinkAndQueues :
    (wEndpointLinkAndQueues1.eng.sys.phase = .running ∧
    wEndpointLinkAndQueues1.eng.has 0x0052 = true ∧
    wEndpointLinkAndQueues1.eng.ep.link = .down) ∧
    (wEndpointLinkAndQueues2.eng.sys.phase = .running ∧
    wEndpointLinkAndQueues2.eng.ep.link = .up ∧
    wEndpointLinkAndQueues2.eng.ep.ccEn = false ∧
    2 ≤ 2 ∧
    2 ≤ 4096 ∧
    2 ≤ 4096 ∧
    4096 ≤ 4096) ∧
    (wEndpointLinkAndQueues3.eng.sys.phase = .running ∧
    (((Instr.epControllerReset 0 false) = Instr.epFlr 0 ∧ wEndpointLinkAndQueues3.eng.ep.link = .up) ∨ ((Instr.epControllerReset 0 false) = Instr.epControllerReset 0 false ∧ wEndpointLinkAndQueues3.eng.ep.ccEn = true))) ∧
    (wEndpointLinkAndQueues3b.eng.sys.phase = .running ∧
    (((Instr.epFlr 0) = Instr.epFlr 0 ∧ wEndpointLinkAndQueues3b.eng.ep.link = .up) ∨ ((Instr.epFlr 0) = Instr.epControllerReset 0 false ∧ wEndpointLinkAndQueues3b.eng.ep.ccEn = true))) ∧
    (wEndpointLinkAndQueues4.eng.sys.phase = .running ∧
    wEndpointLinkAndQueues4.eng.has 0x0052 = true ∧
    wEndpointLinkAndQueues4.eng.ep.link = .up) ∧
    (wEndpointLinkAndQueues5.eng.sys.phase = .running ∧
    wEndpointLinkAndQueues5.eng.ep.link = .up ∧
    (0x2410 < 0x2000 ∨ 0x2410 ≤ 0x2410)) ∧
    (wEndpointLinkAndQueues5b.eng.sys.phase = .running ∧
    wEndpointLinkAndQueues5b.eng.ep.link = .up ∧
    (0 < 0x2000 ∨ 0x2410 ≤ 0)) ∧
    (wEndpointLinkAndQueues6.eng.sys.phase = .running ∧
    wEndpointLinkAndQueues6.eng.ep.link = .up ∧
    1 < 3) ∧
    (wEndpointLinkAndQueues7.eng.sys.phase = .running ∧
    wEndpointLinkAndQueues7.eng.ep.link = .up) ∧
    (wEndpointLinkAndQueues8.eng.sys.phase = .running ∧
    wEndpointLinkAndQueues8.eng.ep.link = .up) ∧
    (wEndpointLinkAndQueues9.eng.sys.phase = .running ∧
    wEndpointLinkAndQueues9.eng.ep.sqs.find? (·.qid = 1) = some (epSq0 1) ∧
    15 < (epSq0 1).size ∧
    wEndpointLinkAndQueues9.eng.ep.ccEn = true ∧
    wEndpointLinkAndQueues9.eng.ep.stopped = false) ∧
    (wEndpointLinkAndQueues9b.eng.sys.phase = .running ∧
    wEndpointLinkAndQueues9b.eng.ep.sqs.find? (·.qid = 1) = some (epSq0 1) ∧
    4 < (epSq0 1).size ∧
    wEndpointLinkAndQueues9b.eng.ep.ccEn = true ∧
    wEndpointLinkAndQueues9b.eng.ep.stopped = false) ∧
    (wEndpointLinkAndQueues10.eng.sys.phase = .running ∧
    (wEndpointLinkAndQueues10.eng.at 0).ep.cqs.find? (·.qid = 2) = some (epCq0 2) ∧
    15 < (epCq0 2).size ∧
    (epCq0 2).waiting = []) ∧
    (wEndpointLinkAndQueues11.eng.sys.phase = .running ∧
    wEndpointLinkAndQueues11.eng.ep.ccEn = true ∧
    (((Instr.nvmeCqDoorbell 0 9 3) = Instr.nvmeCqDoorbell 0 9 3 ∧ wEndpointLinkAndQueues11.eng.ep.cqs.all (·.qid ≠ 9) = true) ∨ (∃ cids, (Instr.nvmeCqDoorbell 0 9 3) = Instr.nvmeSqDoorbell 0 9 3 cids ∧ wEndpointLinkAndQueues11.eng.ep.sqs.all (·.qid ≠ 9) = true))) ∧
    (wEndpointLinkAndQueues11b.eng.sys.phase = .running ∧
    wEndpointLinkAndQueues11b.eng.ep.ccEn = true ∧
    (((Instr.nvmeSqDoorbell 0 9 3 []) = Instr.nvmeCqDoorbell 0 9 3 ∧ wEndpointLinkAndQueues11b.eng.ep.cqs.all (·.qid ≠ 9) = true) ∨ (∃ cids, (Instr.nvmeSqDoorbell 0 9 3 []) = Instr.nvmeSqDoorbell 0 9 3 cids ∧ wEndpointLinkAndQueues11b.eng.ep.sqs.all (·.qid ≠ 9) = true))) :=
  ⟨by decide +kernel,
   (by decide +kernel),
   ⟨by decide +kernel, Or.inr ⟨rfl, by decide +kernel⟩⟩,
   ⟨by decide +kernel, Or.inl ⟨rfl, by decide +kernel⟩⟩,
   by decide +kernel,
   ⟨by decide +kernel, (by decide +kernel), Or.inr (by decide +kernel)⟩,
   ⟨by decide +kernel, (by decide +kernel), Or.inl (by decide +kernel)⟩,
   by decide +kernel,
   by decide +kernel,
   (by decide +kernel),
   by decide +kernel,
   (by decide +kernel),
   by decide +kernel,
   ⟨by decide +kernel, (by decide +kernel), Or.inl ⟨rfl, by decide +kernel⟩⟩,
   ⟨by decide +kernel, (by decide +kernel), Or.inr ⟨[], rfl, by decide +kernel⟩⟩⟩

def wAdminCommandsComplete1 : State :=
  live [ept0] (epOn fun p => { p with fetched := [epFx 0 7] })

def wAdminCommandsComplete2 : State :=
  live [ept0] (epOn fun p => { p with fetched := [epFx 0 7] })

def wAdminCommandsComplete2b : State :=
  live [ept0] fun e => withDrive 0 .mounted id (epOn (fun p => { p with fetched := [epFx 0 7] }) e)

def wAdminCommandsComplete3 : State :=
  live [ept0] (epOn fun p => { p with fetched := [epFx 0 7] })

def wAdminCommandsComplete4 : State :=
  live [ept0] (epOn fun p => { p with fetched := [epFx 0 7] })

def wAdminCommandsComplete5 : State :=
  live [ept0] (epOn fun p => { p with fetched := [epFx 0 7] })

def wAdminCommandsComplete6 : State :=
  live [ept0] (epOn fun p => { p with fetched := [epFx 0 7], sqs := [⟨3, 4, 1, 0, 0⟩, epSq0 0], cqs := [epCq0 0, epCq0 1, epCq0 3] })

def wAdminCommandsComplete7 : State :=
  live [ept0] (epOn fun p => { p with fetched := [epFx 0 7] })

def wAdminCommandsComplete7b : State :=
  live [ept0] (epOn fun p => { p with fetched := [epFx 0 7] })

def wAdminCommandsComplete8 : State :=
  live [ept0] (epOn fun p => { p with fetched := [epFx 0 7] })

def wAdminCommandsComplete9 : State :=
  live [ept0] (epOn fun p => { p with fetched := [epFx 0 7], changed := [1, 5], masked := [4] })

def wAdminCommandsComplete10 : State :=
  live [ept0] (epOn fun p => { p with fetched := [epFx 0 7] })

def wAdminCommandsComplete11 : State :=
  live [ept0] (epOn fun p => { p with fetched := [epFx 0 7, epFx 0 8] })

def wAdminCommandsComplete12 : State :=
  live [ept0] (epOn fun p => { p with fetched := [epFx 0 7] })

def wAdminCommandsComplete13 : State :=
  live [ept0] (epOn fun p => { p with fetched := [epFx 0 7], aers := [1, 2, 3] })

def wAdminCommandsComplete14 : State :=
  live [ept0] (epOn fun p => { p with fetched := [epFx 0 7], events := [(2, 0, 4), (1, 2, 3)] })

def wAdminCommandsComplete15 : State :=
  live [ept0] (epOn fun p => { p with fetched := [epFx 0 7] })

def wAdminCommandsComplete16 : State :=
  live [ept0] (epOn fun p => { p with fetched := [epFx 2 7] })

/-- The hypotheses of AdminCommandsComplete can be met, clause by clause. -/
theorem witness_AdminCommandsComplete :
    (wAdminCommandsComplete1.eng.sys.phase = .running ∧
    (wAdminCommandsComplete1.eng.at 0).fetchedFor 0 7 (epFx 0 7)) ∧
    (wAdminCommandsComplete2.eng.sys.phase = .running ∧
    (wAdminCommandsComplete2.eng.at 0).fetchedFor 0 7 (epFx 0 7) ∧
    1 ≤ 5 ∧
    5 ≤ 5) ∧
    (wAdminCommandsComplete2b.eng.sys.phase = .running ∧
    (wAdminCommandsComplete2b.eng.at 0).fetchedFor 0 7 (epFx 0 7) ∧
    1 ≤ 1 ∧
    1 ≤ 5) ∧
    (wAdminCommandsComplete3.eng.sys.phase = .running ∧
    (wAdminCommandsComplete3.eng.at 0).fetchedFor 0 7 (epFx 0 7) ∧
    1 ≤ 64 ∧
    64 ≤ 64 ∧
    2 ≤ 1024 ∧
    1024 ≤ 1024 ∧
    64 ≤ 64 ∧
    wAdminCommandsComplete3.eng.ep.cqs.any (·.qid = 64) = false) ∧
    (wAdminCommandsComplete4.eng.sys.phase = .running ∧
    (wAdminCommandsComplete4.eng.at 0).fetchedFor 0 7 (epFx 0 7) ∧
    1 ≤ 64 ∧
    64 ≤ 64 ∧
    2 ≤ 2 ∧
    2 ≤ 1024 ∧
    2 ≠ 0 ∧
    wAdminCommandsComplete4.eng.ep.cqs.any (·.qid = 2) = true ∧
    wAdminCommandsComplete4.eng.ep.sqs.any (·.qid = 64) = false) ∧
    (wAdminCommandsComplete5.eng.sys.phase = .running ∧
    (wAdminCommandsComplete5.eng.at 0).fetchedFor 0 7 (epFx 0 7) ∧
    2 ≠ 0 ∧
    wAdminCommandsComplete5.eng.ep.sqs.any (·.qid = 2) = true ∧
    wAdminCommandsComplete5.eng.ep.cmds = [] ∧
    ((∀ y ∈ wAdminCommandsComplete5.eng.ep.fetched, y.q ≠ 2))) ∧
    (wAdminCommandsComplete6.eng.sys.phase = .running ∧
    (wAdminCommandsComplete6.eng.at 0).fetchedFor 0 7 (epFx 0 7) ∧
    3 ≠ 0 ∧
    wAdminCommandsComplete6.eng.ep.sqs.any (·.qid = 3) = true ∧
    wAdminCommandsComplete6.eng.ep.sqs.any (·.cq = 3) = false) ∧
    (wAdminCommandsComplete7.eng.sys.phase = .running ∧
    (wAdminCommandsComplete7.eng.at 0).fetchedFor 0 7 (epFx 0 7) ∧
    (0x0B = 0x01 ∨ 0x0B = 0x08 ∨ 0x0B = 0x0B)) ∧
    (wAdminCommandsComplete7b.eng.sys.phase = .running ∧
    (wAdminCommandsComplete7b.eng.at 0).fetchedFor 0 7 (epFx 0 7) ∧
    (1 = 0x01 ∨ 1 = 0x08 ∨ 1 = 0x0B)) ∧
    (wAdminCommandsComplete8.eng.sys.phase = .running ∧
    (wAdminCommandsComplete8.eng.at 0).fetchedFor 0 7 (epFx 0 7) ∧
    7 ∈ epFeatures ∧
    7 ≠ 0x0E) ∧
    (wAdminCommandsComplete9.eng.sys.phase = .running ∧
    (wAdminCommandsComplete9.eng.at 0).fetchedFor 0 7 (epFx 0 7)) ∧
    (wAdminCommandsComplete10.eng.sys.phase = .running ∧
    (wAdminCommandsComplete10.eng.at 0).fetchedFor 0 7 (epFx 0 7)) ∧
    (wAdminCommandsComplete11.eng.sys.phase = .running ∧
    (wAdminCommandsComplete11.eng.at 0).fetchedFor 0 7 (epFx 0 7) ∧
    8 ≠ 7 ∧
    ((∃ y ∈ wAdminCommandsComplete11.eng.ep.fetched, y.q = 0 ∧ y.cid = 8))) ∧
    (wAdminCommandsComplete12.eng.sys.phase = .running ∧
    (wAdminCommandsComplete12.eng.at 0).fetchedFor 0 7 (epFx 0 7) ∧
    wAdminCommandsComplete12.eng.ep.fetched = [(epFx 0 7)] ∧
    8 ≠ 7 ∧
    wAdminCommandsComplete12.eng.ep.cmds = [] ∧
    wAdminCommandsComplete12.eng.ep.ctrls = []) ∧
    (wAdminCommandsComplete13.eng.sys.phase = .running ∧
    (wAdminCommandsComplete13.eng.at 0).fetchedFor 0 7 (epFx 0 7) ∧
    (wAdminCommandsComplete13.eng.at 0).ep.events = [] ∧
    (wAdminCommandsComplete13.eng.at 0).ep.aers.length < 4) ∧
    (wAdminCommandsComplete14.eng.sys.phase = .running ∧
    (wAdminCommandsComplete14.eng.at 0).fetchedFor 0 7 (epFx 0 7) ∧
    (wAdminCommandsComplete14.eng.at 0).ep.events = (2, 0, 4) :: ([(1, 2, 3)])) ∧
    (wAdminCommandsComplete15.eng.sys.phase = .running ∧
    (wAdminCommandsComplete15.eng.at 0).fetchedFor 0 7 (epFx 0 7) ∧
    wAdminCommandsComplete15.eng.ctrlEn = true ∧
    0 < 1 ∧
    1 ≤ 65535 ∧
    65535 ≤ 65535) ∧
    (wAdminCommandsComplete16.eng.sys.phase = .running ∧
    (wAdminCommandsComplete16.eng.at 0).fetchedFor 2 7 (epFx 2 7)) :=
  ⟨⟨by decide +kernel, ⟨by decide +kernel, epSq0 0, epCq0 0, by decide +kernel, by decide +kernel, by decide +kernel⟩⟩,
   ⟨by decide +kernel, ⟨by decide +kernel, epSq0 0, epCq0 0, by decide +kernel, by decide +kernel, by decide +kernel⟩, by decide +kernel⟩,
   ⟨by decide +kernel, ⟨by decide +kernel, epSq0 0, epCq0 0, by decide +kernel, by decide +kernel, by decide +kernel⟩, by decide +kernel⟩,
   ⟨by decide +kernel, ⟨by decide +kernel, epSq0 0, epCq0 0, by decide +kernel, by decide +kernel, by decide +kernel⟩, by decide +kernel⟩,
   ⟨by decide +kernel, ⟨by decide +kernel, epSq0 0, epCq0 0, by decide +kernel, by decide +kernel, by decide +kernel⟩, by decide +kernel⟩,
   ⟨by decide +kernel, ⟨by decide +kernel, epSq0 0, epCq0 0, by decide +kernel, by decide +kernel, by decide +kernel⟩, by decide +kernel⟩,
   ⟨by decide +kernel, ⟨by decide +kernel, epSq0 0, epCq0 0, by decide +kernel, by decide +kernel, by decide +kernel⟩, by decide +kernel⟩,
   ⟨by decide +kernel, ⟨by decide +kernel, epSq0 0, epCq0 0, by decide +kernel, by decide +kernel, by decide +kernel⟩, Or.inr (Or.inr rfl)⟩,
   ⟨by decide +kernel, ⟨by decide +kernel, epSq0 0, epCq0 0, by decide +kernel, by decide +kernel, by decide +kernel⟩, Or.inl rfl⟩,
   ⟨by decide +kernel, ⟨by decide +kernel, epSq0 0, epCq0 0, by decide +kernel, by decide +kernel, by decide +kernel⟩, by decide +kernel⟩,
   ⟨by decide +kernel, ⟨by decide +kernel, epSq0 0, epCq0 0, by decide +kernel, by decide +kernel, by decide +kernel⟩⟩,
   ⟨by decide +kernel, ⟨by decide +kernel, epSq0 0, epCq0 0, by decide +kernel, by decide +kernel, by decide +kernel⟩⟩,
   ⟨by decide +kernel, ⟨by decide +kernel, epSq0 0, epCq0 0, by decide +kernel, by decide +kernel, by decide +kernel⟩, by decide +kernel⟩,
   ⟨by decide +kernel, ⟨by decide +kernel, epSq0 0, epCq0 0, by decide +kernel, by decide +kernel, by decide +kernel⟩, by decide +kernel⟩,
   ⟨by decide +kernel, ⟨by decide +kernel, epSq0 0, epCq0 0, by decide +kernel, by decide +kernel, by decide +kernel⟩, by decide +kernel⟩,
   ⟨by decide +kernel, ⟨by decide +kernel, epSq0 0, epCq0 0, by decide +kernel, by decide +kernel, by decide +kernel⟩, by decide +kernel⟩,
   ⟨by decide +kernel, ⟨by decide +kernel, epSq0 0, epCq0 0, by decide +kernel, by decide +kernel, by decide +kernel⟩, by decide +kernel⟩,
   ⟨by decide +kernel, ⟨by decide +kernel, epSq0 2, epCq0 2, by decide +kernel, by decide +kernel, by decide +kernel⟩⟩⟩

def wNamespaceCommandsComplete1 : State :=
  live [ept0] fun e => withDrive 1 .mounted id (epOn (fun p => { p with fetched := [epFx 1 7] }) e)

def wNamespaceCommandsComplete2 : State :=
  live [ept0] fun e => withDrive 0 .mounted id (epOn (fun p => { p with fetched := [epFx 1 7] }) e)

def wNamespaceCommandsComplete3 : State :=
  live [ept0] (epOn fun p => { p with fetched := [epFx 1 7], ns5 := [(1073737728, 5)] })

def wNamespaceCommandsComplete4 : State :=
  live [ept0] (epOn fun p => { p with fetched := [epFx 1 7] })

def wNamespaceCommandsComplete5 : State :=
  live [ept0] (epOn fun p => { p with fetched := [epFx 1 7], dirty := [⟨1, 0, [1], false⟩] })

def wNamespaceCommandsComplete6 : State :=
  live [ept0] (epOn fun p => { p with fetched := [epFx 1 7] })

def wNamespaceCommandsComplete7 : State :=
  live [ept0] fun e => withDrive 0 .mounted (fun q => { q with queues := 2 }) (epOn (fun p => { p with fetched := [epFx 1 7] }) e)

def wNamespaceCommandsComplete7b : State :=
  live [ept0] fun e => withDrive 3 .mounted id (epOn (fun p => { p with fetched := [epFx 1 7] }) e)

def wNamespaceCommandsComplete8 : State :=
  live [ept0] fun e => withDrive 0 .mounted (fun q => { q with cmds := [⟨4, .host 1 7, 1, false, false, []⟩] }) (epOn (fun p => { p with cmds := [{ epCmd0 1 with op := .writeZeroes, pieces := [], passed := true }] }) e)

def wNamespaceCommandsComplete9 : State :=
  live [ept0] fun e => withDrive 1 .mounted id (epOn (fun p => { p with fetched := [epFx 1 7] }) e)

/-- The hypotheses of NamespaceCommandsComplete can be met, clause by clause. -/
theorem witness_NamespaceCommandsComplete :
    (wNamespaceCommandsComplete1.eng.sys.phase = .running ∧
    (wNamespaceCommandsComplete1.eng.at 0).fetchedFor 1 7 (epFx 1 7) ∧
    1 ≤ 2 ∧
    2 ≤ 4 ∧
    wNamespaceCommandsComplete1.eng.cmdAccess (epFx 1 7) 2 ≠ .notReady ∧
    (wNamespaceCommandsComplete1.eng.mport (2 - 1)).drive = some drive0 ∧
    999998 + 1 + 1 ≤ drive0.blocks ∧
    (1 + 1) * 2 ^ drive0.lbaLog2 ≤ 1048576 ∧
    wNamespaceCommandsComplete1.eng.ep.cmds = [] ∧
    wNamespaceCommandsComplete1.eng.ep.dirty = [] ∧
    ((wNamespaceCommandsComplete1.eng.mport (2 - 1)).state ≠ .recording ∨ vget wNamespaceCommandsComplete1.eng.ep.readUntil (2 - 1) 0 ≤ (wNamespaceCommandsComplete1.eng.at 0).now)) ∧
    (wNamespaceCommandsComplete2.eng.sys.phase = .running ∧
    (wNamespaceCommandsComplete2.eng.at 0).fetchedFor 1 7 (epFx 1 7) ∧
    1 ≤ 1 ∧
    1 ≤ 4 ∧
    wNamespaceCommandsComplete2.eng.cmdAccess (epFx 1 7) 1 = .readWrite ∧
    (wNamespaceCommandsComplete2.eng.mport (1 - 1)).drive = some drive0 ∧
    999744 + 255 + 1 ≤ drive0.blocks ∧
    (255 + 1) * 2 ^ drive0.lbaLog2 ≤ 1048576 ∧
    wNamespaceCommandsComplete2.eng.driveIdle (1 - 1) ∧
    (wNamespaceCommandsComplete2.eng.mport (1 - 1)).state = .mounted ∧
    0xFFFF ≠ 0) ∧
    (wNamespaceCommandsComplete3.eng.sys.phase = .running ∧
    (wNamespaceCommandsComplete3.eng.at 0).fetchedFor 1 7 (epFx 1 7) ∧
    wNamespaceCommandsComplete3.eng.cb 0x0052 3 31 = true ∧
    262143 + 0 + 1 ≤ 262144 ∧
    0 < 256 ∧
    wNamespaceCommandsComplete3.eng.ep.cmds = []) ∧
    (wNamespaceCommandsComplete4.eng.sys.phase = .running ∧
    (wNamespaceCommandsComplete4.eng.at 0).fetchedFor 1 7 (epFx 1 7) ∧
    wNamespaceCommandsComplete4.eng.cb 0x0052 3 31 = true ∧
    262142 + 1 + 1 ≤ 262144 ∧
    1 < 256 ∧
    wNamespaceCommandsComplete4.eng.ep.cmds = []) ∧
    (wNamespaceCommandsComplete5.eng.sys.phase = .running ∧
    (wNamespaceCommandsComplete5.eng.at 0).fetchedFor 1 7 (epFx 1 7)) ∧
    (wNamespaceCommandsComplete6.eng.sys.phase = .running ∧
    (wNamespaceCommandsComplete6.eng.at 0).fetchedFor 1 7 (epFx 1 7) ∧
    wNamespaceCommandsComplete6.eng.cb 0x0052 3 31 = true ∧
    3 + 0 + 1 ≤ 262144 ∧
    wNamespaceCommandsComplete6.eng.ep.cmds = []) ∧
    (wNamespaceCommandsComplete7.eng.sys.phase = .running ∧
    (wNamespaceCommandsComplete7.eng.at 0).fetchedFor 1 7 (epFx 1 7) ∧
    wNamespaceCommandsComplete7.eng.cmdAccess (epFx 1 7) ((0 : Fin 4) + 1) = .readWrite ∧
    (wNamespaceCommandsComplete7.eng.mport (0 : Fin 4)).drive = some drive0 ∧
    ((∀ r ∈ ([(999999, 1)]), r.1 + r.2 ≤ drive0.blocks)) ∧
    wNamespaceCommandsComplete7.eng.ep.cmds = [] ∧
    wNamespaceCommandsComplete7.eng.ep.dirty = [] ∧
    ((∀ k : Fin 4, (wNamespaceCommandsComplete7.eng.mport k).owed = [])) ∧
    ((Instr.nvmeDatasetManagement 0 1 7 1 [(999999, 1)] true) = Instr.nvmeDatasetManagement 0 1 7 ((0 : Fin 4) + 1) ([(999999, 1)]) true ∨ ((Instr.nvmeDatasetManagement 0 1 7 1 [(999999, 1)] true) = .nvmeWriteZeroes 0 1 7 ((0 : Fin 4) + 1) 0 0 ∧ ([(999999, 1)]) = [(0, 0 + 1)]))) ∧
    (wNamespaceCommandsComplete7b.eng.sys.phase = .running ∧
    (wNamespaceCommandsComplete7b.eng.at 0).fetchedFor 1 7 (epFx 1 7) ∧
    wNamespaceCommandsComplete7b.eng.cmdAccess (epFx 1 7) ((3 : Fin 4) + 1) = .readWrite ∧
    (wNamespaceCommandsComplete7b.eng.mport (3 : Fin 4)).drive = some drive0 ∧
    ((∀ r ∈ ([(999999, 1)]), r.1 + r.2 ≤ drive0.blocks)) ∧
    wNamespaceCommandsComplete7b.eng.ep.cmds = [] ∧
    wNamespaceCommandsComplete7b.eng.ep.dirty = [] ∧
    ((∀ k : Fin 4, (wNamespaceCommandsComplete7b.eng.mport k).owed = [])) ∧
    ((Instr.nvmeWriteZeroes 0 1 7 4 999999 0) = Instr.nvmeDatasetManagement 0 1 7 ((3 : Fin 4) + 1) ([(999999, 1)]) true ∨ ((Instr.nvmeWriteZeroes 0 1 7 4 999999 0) = .nvmeWriteZeroes 0 1 7 ((3 : Fin 4) + 1) 999999 0 ∧ ([(999999, 1)]) = [(999999, 0 + 1)]))) ∧
    (wNamespaceCommandsComplete8.eng.sys.phase.powered = true ∧
    (wNamespaceCommandsComplete8.eng.mport (0 : Fin 4)).cmds.find? (·.cid = 4) = some (MediaCmd.mk 4 (.host 1 7) 1 false false []) ∧
    (MediaCmd.mk 4 (.host 1 7) 1 false false []).use = .host (({ epCmd0 1 with op := .writeZeroes, pieces := [], passed := true } : EpCmd)).q (({ epCmd0 1 with op := .writeZeroes, pieces := [], passed := true } : EpCmd)).cid ∧
    wNamespaceCommandsComplete8.eng.ep.cmds = [(({ epCmd0 1 with op := .writeZeroes, pieces := [], passed := true } : EpCmd))] ∧
    (({ epCmd0 1 with op := .writeZeroes, pieces := [], passed := true } : EpCmd)).passed = true ∧
    (wNamespaceCommandsComplete8.eng.at 0).canPost (({ epCmd0 1 with op := .writeZeroes, pieces := [], passed := true } : EpCmd)).q ∧
    wNamespaceCommandsComplete8.eng.ep.dirty = [] ∧
    wNamespaceCommandsComplete8.eng.rec_.takes = [] ∧
    ((∀ j : Fin 4, (wNamespaceCommandsComplete8.eng.mport j).owed = []))) ∧
    (wNamespaceCommandsComplete9.eng.sys.phase = .running ∧
    (wNamespaceCommandsComplete9.eng.at 0).fetchedFor 1 7 (epFx 1 7) ∧
    1 ≤ 2 ∧
    2 ≤ 4 ∧
    wNamespaceCommandsComplete9.eng.cmdAccess (epFx 1 7) 2 = .readOnly) :=
  ⟨⟨by decide +kernel, ⟨by decide +kernel, epSq0 1, epCq0 1, by decide +kernel, by decide +kernel, by decide +kernel⟩, by decide +kernel, (by decide +kernel), by decide +kernel, (by decide +kernel), by decide +kernel, (by decide +kernel), by decide +kernel, (by decide +kernel), Or.inl (by decide +kernel)⟩,
   ⟨by decide +kernel, ⟨by decide +kernel, epSq0 1, epCq0 1, by decide +kernel, by decide +kernel, by decide +kernel⟩, by decide +kernel, (by decide +kernel), by decide +kernel, (by decide +kernel), by decide +kernel, (by decide +kernel), by unfold Engine.driveIdle; decide +kernel, by decide +kernel⟩,
   ⟨by decide +kernel, ⟨by decide +kernel, epSq0 1, epCq0 1, by decide +kernel, by decide +kernel, by decide +kernel⟩, by decide +kernel⟩,
   ⟨by decide +kernel, ⟨by decide +kernel, epSq0 1, epCq0 1, by decide +kernel, by decide +kernel, by decide +kernel⟩, by decide +kernel⟩,
   ⟨by decide +kernel, ⟨by decide +kernel, epSq0 1, epCq0 1, by decide +kernel, by decide +kernel, by decide +kernel⟩⟩,
   ⟨by decide +kernel, ⟨by decide +kernel, epSq0 1, epCq0 1, by decide +kernel, by decide +kernel, by decide +kernel⟩, by decide +kernel⟩,
   ⟨by decide +kernel, ⟨by decide +kernel, epSq0 1, epCq0 1, by decide +kernel, by decide +kernel, by decide +kernel⟩, by decide +kernel, (by decide +kernel), by decide +kernel, (by decide +kernel), by decide +kernel, (by decide +kernel), Or.inl rfl⟩,
   ⟨by decide +kernel, ⟨by decide +kernel, epSq0 1, epCq0 1, by decide +kernel, by decide +kernel, by decide +kernel⟩, by decide +kernel, (by decide +kernel), by decide +kernel, (by decide +kernel), by decide +kernel, (by decide +kernel), Or.inr ⟨rfl, rfl⟩⟩,
   ⟨by decide +kernel, (by decide +kernel), by decide +kernel, (by decide +kernel), by decide +kernel, ⟨epSq0 1, epCq0 1, by decide +kernel, by decide +kernel, by decide +kernel⟩, by decide +kernel⟩,
   ⟨by decide +kernel, ⟨by decide +kernel, epSq0 1, epCq0 1, by decide +kernel, by decide +kernel, by decide +kernel⟩, by decide +kernel⟩⟩

def wWriteBufferCommitsAndDrains1 : State :=
  live [ept0] (epOn fun p => { p with cmds := [epCmd0 5] })

def wWriteBufferCommitsAndDrains2 : State :=
  live [ept0] fun e => withDrive 0 .mounted (fun q => { q with qual := some 4000 }) (epOn (fun p => { p with cmds := [epCmd0 1] }) e)

def wWriteBufferCommitsAndDrains3 : State :=
  live [ept0] (epOn fun p => { p with cmds := [epCmd0 1] })

def wWriteBufferCommitsAndDrains4 : State :=
  live [ept0] fun e => withDrive 1 .mounted (fun q => { q with cmds := [⟨4, .drain, 1, false, false, []⟩] }) (epOn (fun p => { p with dirty := [⟨1, 0, [1], false⟩, ⟨2, 0, [1], false⟩, ⟨2, 512, [2], false⟩] }) e)

def wWriteBufferCommitsAndDrains5 : State :=
  live [ept0] fun e => { epOn (fun p => { p with cmds := [epCmd0 1, { epCmd0 2 with op := .deallocate }] }) e with power := { e.power with t0 := some 3 } }

def wWriteBufferCommitsAndDrains6 : State :=
  live [ept0] fun e => { withDrive 1 .mounted (fun q => { q with cmds := [⟨4, .drain, 1, false, false, []⟩] }) (epOn (fun p => { p with stopped := true, drained := p.drained.set 1 5, dirty := [⟨1, 0, [1], false⟩] }) e) with power := { e.power with t0 := some 3 } }

/-- The hypotheses of WriteBufferCommitsAndDrains can be met, clause by clause. -/
theorem witness_WriteBufferCommitsAndDrains :
    (wWriteBufferCommitsAndDrains1.eng.sys.phase = .running ∧
    wWriteBufferCommitsAndDrains1.eng.ep.cmds = [(epCmd0 5)] ∧
    (epCmd0 5).started = true ∧
    (epCmd0 5).op = .write ∧
    (epCmd0 5).ns = 5 ∧
    (epCmd0 5).pieces = [(EpPiece.mk 4096 2 none false)] ∧
    (EpPiece.mk 4096 2 none false).committed = false ∧
    (EpPiece.mk 4096 2 none false).data = none ∧
    (wWriteBufferCommitsAndDrains1.eng.at 0).canPost (epCmd0 5).q) ∧
    (wWriteBufferCommitsAndDrains2.eng.sys.phase = .running ∧
    wWriteBufferCommitsAndDrains2.eng.ep.cmds = [(epCmd0 1)] ∧
    (epCmd0 1).started = true ∧
    (epCmd0 1).op = .write ∧
    (epCmd0 1).ns ≠ 5 ∧
    (epCmd0 1).pieces = [(EpPiece.mk 4096 2 none false)] ∧
    (EpPiece.mk 4096 2 none false).committed = false ∧
    (EpPiece.mk 4096 2 none false).data = none ∧
    (wWriteBufferCommitsAndDrains2.eng.at 0).canPost (epCmd0 1).q ∧
    ((∀ d ∈ wWriteBufferCommitsAndDrains2.eng.ep.dirty, d.poison = false)) ∧
    wWriteBufferCommitsAndDrains2.eng.epRoom (epCmd0 1).ns (EpPiece.mk 4096 2 none false).len = true) ∧
    (wWriteBufferCommitsAndDrains3.eng.sys.phase = .running ∧
    wWriteBufferCommitsAndDrains3.eng.ep.cmds = [(epCmd0 1)] ∧
    (epCmd0 1).started = true ∧
    (epCmd0 1).op = .write ∧
    (epCmd0 1).ns ≠ 5 ∧
    (epCmd0 1).pieces = [(EpPiece.mk 4096 2 none false)] ∧
    (EpPiece.mk 4096 2 none false).committed = false ∧
    (EpPiece.mk 4096 2 none false).data = none ∧
    (epCmd0 1).waited = false ∧
    wWriteBufferCommitsAndDrains3.eng.epRoom (epCmd0 1).ns (EpPiece.mk 4096 2 none false).len = false) ∧
    (wWriteBufferCommitsAndDrains4.eng.sys.phase = .running ∧
    wWriteBufferCommitsAndDrains4.eng.ep.dirty.find? (fun y => y.ns = (1 : Fin 4).val + 1 && !y.poison) = some (EpDirty.mk 2 0 [1] false) ∧
    wWriteBufferCommitsAndDrains4.eng.ep.cmds = [] ∧
    wWriteBufferCommitsAndDrains4.eng.rec_.takes = [] ∧
    wWriteBufferCommitsAndDrains4.eng.ep.stopped = false ∧
    wWriteBufferCommitsAndDrains4.eng.sys.restartDue = false) ∧
    (wWriteBufferCommitsAndDrains5.eng.sys.phase.powered = true ∧
    wWriteBufferCommitsAndDrains5.eng.power.t0 = some 3 ∧
    3 + ms 1 ≤ (wWriteBufferCommitsAndDrains5.eng.at (3 + ms 1)).now) ∧
    (wWriteBufferCommitsAndDrains6.eng.sys.phase.powered = true ∧
    wWriteBufferCommitsAndDrains6.eng.ep.stopped = true ∧
    wWriteBufferCommitsAndDrains6.eng.power.t0 = some 3 ∧
    3 + ms 130 ≤ (wWriteBufferCommitsAndDrains6.eng.at (3 + ms 130)).now) :=
  ⟨⟨by decide +kernel, (by decide +kernel), by decide +kernel, (by decide +kernel), by decide +kernel, (by decide +kernel), by decide +kernel, (by decide +kernel), ⟨epSq0 1, epCq0 1, by decide +kernel, by decide +kernel, by decide +kernel⟩⟩,
   ⟨by decide +kernel, (by decide +kernel), by decide +kernel, (by decide +kernel), by decide +kernel, (by decide +kernel), by decide +kernel, (by decide +kernel), ⟨epSq0 1, epCq0 1, by decide +kernel, by decide +kernel, by decide +kernel⟩, by decide +kernel⟩,
   by decide +kernel,
   (by decide +kernel),
   by decide +kernel,
   (by decide +kernel)⟩

def wAudioPortsFollowTheirInputs1 : State :=
  live [sw 0x70 100 [(5, [(29, 29, 1), (28, 28, 1)])]] fun e => { e with aud := { e.aud with running := true, play := [[(1, true)]], outs := vmod e.aud.outs 5 fun q => { q with pos := 191 } } }

def wAudioPortsFollowTheirInputs2 : State :=
  live [sw 0x70 100 [(0, [(31, 31, 1)])]] id

def wAudioPortsFollowTheirInputs3 : State :=
  live [] fun e => { e with aud := { e.aud with coast := true }, clk := { e.clk with root := .locked } }

def wAudioPortsFollowTheirInputs4 : State :=
  live [sw 0x70 100 [(5, [(31, 31, 1)])]] id

def wAudioPortsFollowTheirInputs4b : State :=
  live [sw 0x70 100 [(5, [(30, 30, 1)])]] fun e => { e with aud := { e.aud with running := true, srcs := vmod e.aud.srcs 4 fun q => { q with primed := true } } }

def wAudioPortsFollowTheirInputs5 : State :=
  live [sw 0x70 100 [(5, [(31, 31, 1)])]] fun e => { e with aud := { e.aud with running := true, srcs := vmod e.aud.srcs 5 fun q => { q with locked := true } } }

def wAudioPortsFollowTheirInputs6 : State :=
  live [sw 0x70 100 [(52, [(31, 31, 1), (30, 30, 1)])]] id

def wAudioPortsFollowTheirInputs7 : State :=
  live [sw 0x70 100 [(5, [(30, 30, 1)])]] fun e => { e with aud := { e.aud with running := true, srcs := vmod e.aud.srcs 4 fun q => { q with locked := true, fifo := List.replicate 31 (0, []) } } }

def wAudioPortsFollowTheirInputs7b : State :=
  live [sw 0x70 100 [(5, [(31, 31, 1)])]] fun e => { e with aud := { e.aud with running := true, srcs := vmod e.aud.srcs 5 fun q => { q with locked := true, fifo := List.replicate 32 (0, []) } } }

def wAudioPortsFollowTheirInputs8 : State :=
  live [sw 0x70 100 [(5, [(30, 30, 1)])]] fun e => { e with aud := { e.aud with running := true, srcs := vmod e.aud.srcs 4 fun q => { q with locked := true } } }

def wAudioPortsFollowTheirInputs8b : State :=
  live [sw 0x70 100 [(5, [(31, 31, 1)])]] fun e => { e with aud := { e.aud with running := true, srcs := vmod e.aud.srcs 5 fun q => { q with locked := true } } }

def wAudioPortsFollowTheirInputs8c : State :=
  live [sw 0x70 100 [(5, [(31, 31, 1)])]] fun e => { e with aud := { e.aud with running := true, srcs := vmod e.aud.srcs 5 fun q => { q with locked := true } } }

def wAudioPortsFollowTheirInputs9 : State :=
  live [sw 0x70 100 [(52, [(31, 31, 1), (30, 30, 1), (29, 28, 2), (22, 17, 1)]), (57, [(31, 24, 8)])]] fun e => { e with aud := { e.aud with running := true, n := 5 } }

def wAudioPortsFollowTheirInputs10 : State :=
  live [sw 0x70 100 [(10, [(31, 31, 1), (30, 30, 1), (29, 28, 3), (22, 17, 1)]), (15, [(31, 24, 8)])]] fun e => { e with aud := { e.aud with running := true, rx := vmod e.aud.rx 0 fun _ => ⟨[(9, 2, 0)], false⟩ } }

def wAudioPortsFollowTheirInputs11 : State :=
  live [sw 0x70 100 [(28, [(31, 31, 1), (23, 23, 1)])]] fun e => { e with aud := { e.aud with running := true, outs := vmod e.aud.outs 9 fun q => { q with buf := List.replicate 7 [(1, false)], bufN := 4294967295, seq := 65535 } } }

/-- The hypotheses of AudioPortsFollowTheirInputs can be met, clause by clause. -/
theorem witness_AudioPortsFollowTheirInputs :
    (wAudioPortsFollowTheirInputs1.eng.sys.phase = .running ∧
    wAudioPortsFollowTheirInputs1.eng.has 0x0070 = true ∧
    wAudioPortsFollowTheirInputs1.eng.aud.running = true) ∧
    (wAudioPortsFollowTheirInputs2.eng.sys.phase = .running ∧
    wAudioPortsFollowTheirInputs2.eng.has 0x0070 = true ∧
    wAudioPortsFollowTheirInputs2.eng.aud.running = false ∧
    0 ≤ (wAudioPortsFollowTheirInputs2.eng.at (us 125)).dtb) ∧
    (wAudioPortsFollowTheirInputs3.eng.sys.phase = .running ∧
    wAudioPortsFollowTheirInputs3.eng.aud.coast = true ∧
    wAudioPortsFollowTheirInputs3.eng.clk.root = .locked) ∧
    (wAudioPortsFollowTheirInputs4.eng.sys.phase = .running ∧
    wAudioPortsFollowTheirInputs4.eng.cfg.aesIn (1 : Fin 2) = true ∧
    (wAudioPortsFollowTheirInputs4.eng.asrc (4 + (1 : Fin 2).val)).stopped = false ∧
    ((wAudioPortsFollowTheirInputs4.eng.asrc (4 + (1 : Fin 2).val)).locked = false ∨ (wAudioPortsFollowTheirInputs4.eng.asrc (4 + (1 : Fin 2).val)).lost = true)) ∧
    (wAudioPortsFollowTheirInputs4b.eng.sys.phase = .running ∧
    wAudioPortsFollowTheirInputs4b.eng.cfg.aesIn (0 : Fin 2) = true ∧
    (wAudioPortsFollowTheirInputs4b.eng.asrc (4 + (0 : Fin 2).val)).stopped = false ∧
    ((wAudioPortsFollowTheirInputs4b.eng.asrc (4 + (0 : Fin 2).val)).locked = false ∨ (wAudioPortsFollowTheirInputs4b.eng.asrc (4 + (0 : Fin 2).val)).lost = true)) ∧
    (wAudioPortsFollowTheirInputs5.eng.sys.phase = .running ∧
    (wAudioPortsFollowTheirInputs5.eng.asrc (4 + (1 : Fin 2).val)).locked = true) ∧
    (wAudioPortsFollowTheirInputs6.eng.sys.phase = .running ∧
    wAudioPortsFollowTheirInputs6.eng.cfg.srcUsed (13 : Fin 14) = true ∧
    wAudioPortsFollowTheirInputs6.eng.cfg.srcFifo (13 : Fin 14) = true ∧
    (wAudioPortsFollowTheirInputs6.eng.asrc (13 : Fin 14)).lost = false) ∧
    (wAudioPortsFollowTheirInputs7.eng.sys.phase = .running ∧
    (4 : Fin 14).val = 4 + (0 : Fin 2).val ∧
    wAudioPortsFollowTheirInputs7.eng.cfg.aesIn (0 : Fin 2) = true ∧
    (wAudioPortsFollowTheirInputs7.eng.asrc (4 : Fin 14)).stopped = false ∧
    (wAudioPortsFollowTheirInputs7.eng.asrc (4 : Fin 14)).locked = true ∧
    (wAudioPortsFollowTheirInputs7.eng.asrc (4 : Fin 14)).lost = false) ∧
    (wAudioPortsFollowTheirInputs7b.eng.sys.phase = .running ∧
    (5 : Fin 14).val = 4 + (1 : Fin 2).val ∧
    wAudioPortsFollowTheirInputs7b.eng.cfg.aesIn (1 : Fin 2) = true ∧
    (wAudioPortsFollowTheirInputs7b.eng.asrc (5 : Fin 14)).stopped = false ∧
    (wAudioPortsFollowTheirInputs7b.eng.asrc (5 : Fin 14)).locked = true ∧
    (wAudioPortsFollowTheirInputs7b.eng.asrc (5 : Fin 14)).lost = false) ∧
    (((true :: List.replicate 183 false ++ aesCrcc (true :: List.replicate 191 false))) = ((true :: List.replicate 183 false)) ++ ((aesCrcc (true :: List.replicate 191 false))) ∧
    wAudioPortsFollowTheirInputs8.eng.sys.phase = .running ∧
    wAudioPortsFollowTheirInputs8.eng.cfg.aesIn (0 : Fin 2) = true ∧
    (wAudioPortsFollowTheirInputs8.eng.asrc (4 + (0 : Fin 2).val)).locked = true ∧
    (wAudioPortsFollowTheirInputs8.eng.asrc (4 + (0 : Fin 2).val)).stopped = false) ∧
    (((List.replicate 192 true)) = ((List.replicate 184 true)) ++ ((List.replicate 8 true)) ∧
    wAudioPortsFollowTheirInputs8b.eng.sys.phase = .running ∧
    wAudioPortsFollowTheirInputs8b.eng.cfg.aesIn (1 : Fin 2) = true ∧
    (wAudioPortsFollowTheirInputs8b.eng.asrc (4 + (1 : Fin 2).val)).locked = true ∧
    (wAudioPortsFollowTheirInputs8b.eng.asrc (4 + (1 : Fin 2).val)).stopped = false) ∧
    (((List.replicate 191 false)) = ((List.replicate 184 false)) ++ ((List.replicate 7 false)) ∧
    wAudioPortsFollowTheirInputs8c.eng.sys.phase = .running ∧
    wAudioPortsFollowTheirInputs8c.eng.cfg.aesIn (1 : Fin 2) = true ∧
    (wAudioPortsFollowTheirInputs8c.eng.asrc (4 + (1 : Fin 2).val)).locked = true ∧
    (wAudioPortsFollowTheirInputs8c.eng.asrc (4 + (1 : Fin 2).val)).stopped = false) ∧
    (wAudioPortsFollowTheirInputs9.eng.sys.phase = .running ∧
    wAudioPortsFollowTheirInputs9.eng.cfg.stRx (7 : Fin 8) = true ∧
    (wAudioPortsFollowTheirInputs9.eng.cfg.stPaths (7 : Fin 8)).testBit (1 : Fin 2) = true ∧
    (wAudioPortsFollowTheirInputs9.eng.cfg.audSt (7 : Fin 8) 4 31 0 = 0 ∨ wAudioPortsFollowTheirInputs9.eng.cfg.audSt (7 : Fin 8) 4 31 0 = 4294967295) ∧
    wAudioPortsFollowTheirInputs9.eng.netHeld (1 : Fin 2) = false ∧
    (wAudioPortsFollowTheirInputs9.eng.asrc (6 + (7 : Fin 8).val)).stopped = false ∧
    (wAudioPortsFollowTheirInputs9.eng.asrc (6 + (7 : Fin 8).val)).lost = false ∧
    wAudioPortsFollowTheirInputs9.eng.aud.running = true ∧
    (vget wAudioPortsFollowTheirInputs9.eng.aud.rx (7 : Fin 8) RtpRx.reset).seen = [] ∧
    (wAudioPortsFollowTheirInputs9.eng.asrc (6 + (7 : Fin 8).val)).fifo = [] ∧
    (wAudioPortsFollowTheirInputs9.eng.asrc (6 + (7 : Fin 8).val)).readTs ≤ ((8 : Nat) : Int) ∧
    wAudioPortsFollowTheirInputs9.eng.aud.n ≤ (8 : Nat) ∧
    (8 : Nat) < wAudioPortsFollowTheirInputs9.eng.aud.n + 2147483648) ∧
    (wAudioPortsFollowTheirInputs10.eng.sys.phase = .running ∧
    wAudioPortsFollowTheirInputs10.eng.cfg.stRx (0 : Fin 8) = true ∧
    (wAudioPortsFollowTheirInputs10.eng.cfg.stPaths (0 : Fin 8)).testBit (0 : Fin 2) = true ∧
    (wAudioPortsFollowTheirInputs10.eng.cfg.audSt (0 : Fin 8) 4 31 0 = 0 ∨ wAudioPortsFollowTheirInputs10.eng.cfg.audSt (0 : Fin 8) 4 31 0 = 5) ∧
    wAudioPortsFollowTheirInputs10.eng.netHeld (0 : Fin 2) = false ∧
    (wAudioPortsFollowTheirInputs10.eng.asrc (6 + (0 : Fin 8).val)).stopped = false ∧
    wAudioPortsFollowTheirInputs10.eng.aud.running = true ∧
    (vget wAudioPortsFollowTheirInputs10.eng.aud.rx (0 : Fin 8) RtpRx.reset).seen = [(9, 2, 0)] ∧
    (wAudioPortsFollowTheirInputs10.eng.at 0).now < 0 + us 125 * wAudioPortsFollowTheirInputs10.eng.cfg.stPlayout (0 : Fin 8)) ∧
    (wAudioPortsFollowTheirInputs11.eng.sys.phase = .running ∧
    wAudioPortsFollowTheirInputs11.eng.cfg.stTx (3 : Fin 8) = true ∧
    (wAudioPortsFollowTheirInputs11.eng.aout (6 + (3 : Fin 8).val)).stopped = false ∧
    wAudioPortsFollowTheirInputs11.eng.cfg.stTicks (3 : Fin 8) ≤ (wAudioPortsFollowTheirInputs11.eng.aout (6 + (3 : Fin 8).val)).buf.length) :=
  ⟨by decide +kernel,
   (by decide +kernel),
   by decide +kernel,
   (by decide +kernel),
   by decide +kernel,
   (by decide +kernel),
   by decide +kernel,
   (by decide +kernel),
   by decide +kernel,
   (by decide +kernel),
   by decide +kernel,
   (by decide +kernel),
   by decide +kernel,
   (by decide +kernel),
   by decide +kernel⟩

def wTimeStepsAndServoChoice1 : State :=
  live [time0] fun e => { e with time := { e.time with window := true } }

def wTimeStepsAndServoChoice2 : State :=
  live [time0] id

def wTimeStepsAndServoChoice3 : State :=
  live [time0] fun e => { e with time := { e.time with stepDue := some (-9), stepUses := true, window := true } }

def wTimeStepsAndServoChoice4 : State :=
  live [time0] fun e => { e with time := { e.time with stepDue := some (-9), window := true }, proj := { e.proj with started := true } }

def wTimeStepsAndServoChoice5 : State :=
  live [time0] fun e => servo 1 (fun q => { q with state := .tracking, goodSince := some 0 }) e

def wTimeStepsAndServoChoice5b : State :=
  live [time0] fun e => servo 0 (fun q => { q with state := .tracking, goodSince := some 0 }) { servo 1 (fun q => { q with state := .tracking, goodSince := some 0 }) e with time := { (servo 1 (fun q => { q with state := .tracking, goodSince := some 0 }) e).time with follow := 2 } }

def wTimeStepsAndServoChoice6 : State :=
  live [time0] fun e => servo 0 (fun q => { q with state := .tracking, goodSince := some 0 }) { servo 1 (fun q => { q with state := .tracking, goodSince := some 0 }) e with time := { (servo 1 (fun q => { q with state := .tracking, goodSince := some 0 }) e).time with follow := 2 } }

def wTimeStepsAndServoChoice7 : State :=
  live [] fun e => e.modSdiIn 0 fun _ => ⟨1, 4, true⟩

def wTimeStepsAndServoChoice8 : State :=
  live [arr0] id

def wTimeStepsAndServoChoice9 : State :=
  live [arr0] id

def wTimeStepsAndServoChoice10 : State :=
  live [arr0] fun e => { e with time := { e.time with peers := [⟨9, 0, false, false⟩, ⟨8, 0, false, false⟩] } }

/-- The hypotheses of TimeStepsAndServoChoice can be met, clause by clause. -/
theorem witness_TimeStepsAndServoChoice :
    (wTimeStepsAndServoChoice1.takes 0 hU 0x0801 ∧
    999999999 < 1000000000 ∧
    65535 < 65536 ∧
    18446744073709551615 < 2 ^ 64 ∧
    wTimeStepsAndServoChoice1.eng.time.window = true ∧
    wTimeStepsAndServoChoice1.eng.time.valid = false ∧
    wTimeStepsAndServoChoice1.eng.time.stepDue = none) ∧
    (wTimeStepsAndServoChoice2.takes 0 hU 0x0801 ∧
    0 < 1000000000 ∧
    0 < 65536 ∧
    1 < 2 ^ 64 ∧
    wTimeStepsAndServoChoice2.eng.time.window = false) ∧
    (wTimeStepsAndServoChoice3.eng.sys.phase = .running ∧
    wTimeStepsAndServoChoice3.eng.time.stepDue = some (-9) ∧
    wTimeStepsAndServoChoice3.eng.proj.started = false ∧
    wTimeStepsAndServoChoice3.eng.aud.running = false) ∧
    (wTimeStepsAndServoChoice4.eng.sys.phase = .running ∧
    wTimeStepsAndServoChoice4.eng.time.stepDue = some (-9) ∧
    wTimeStepsAndServoChoice4.eng.proj.started = true ∧
    wTimeStepsAndServoChoice4.eng.time.alignNow = false ∧
    wTimeStepsAndServoChoice4.eng.aud.running = false) ∧
    (wTimeStepsAndServoChoice5.takes 0 hU 0x0802 ∧
    wTimeStepsAndServoChoice5.eng.cfg.servoEn (1 : Fin 2) = true ∧
    (wTimeStepsAndServoChoice5.eng.servo (1 : Fin 2)).good = true ∧
    wTimeStepsAndServoChoice5.eng.clk.tcxo.eligible = wTimeStepsAndServoChoice5.eng.clk.ptp.eligible) ∧
    (wTimeStepsAndServoChoice5b.takes 0 hU 0x0802 ∧
    wTimeStepsAndServoChoice5b.eng.cfg.servoEn (0 : Fin 2) = true ∧
    (wTimeStepsAndServoChoice5b.eng.servo (0 : Fin 2)).good = true ∧
    wTimeStepsAndServoChoice5b.eng.clk.tcxo.eligible = wTimeStepsAndServoChoice5b.eng.clk.ptp.eligible) ∧
    (wTimeStepsAndServoChoice6.eng.sys.phase = .running ∧
    wTimeStepsAndServoChoice6.eng.followed = some 1 ∧
    1 ≠ wTimeStepsAndServoChoice6.eng.cfg.prefServo ∧
    (wTimeStepsAndServoChoice6.eng.servo 1).good = true ∧
    wTimeStepsAndServoChoice6.eng.time.chosen = false ∧
    (wTimeStepsAndServoChoice6.eng.at (secs 1)).prefHeld = true ∧
    (wTimeStepsAndServoChoice6.eng.servo wTimeStepsAndServoChoice6.eng.cfg.prefServo).good = true ∧
    wTimeStepsAndServoChoice6.eng.clk.tcxo.eligible = wTimeStepsAndServoChoice6.eng.clk.ptp.eligible) ∧
    (wTimeStepsAndServoChoice7.eng.sys.phase = .running ∧
    (vget wTimeStepsAndServoChoice7.eng.outs.sdiIn 0 ⟨0, 0, false⟩).state = 1 ∧
    wTimeStepsAndServoChoice7.eng.cfg.alignRefin = false) ∧
    (wTimeStepsAndServoChoice8.eng.sys.phase = .running ∧
    wTimeStepsAndServoChoice8.eng.cfg.beaconEn = true) ∧
    (wTimeStepsAndServoChoice9.eng.sys.phase = .running ∧
    wTimeStepsAndServoChoice9.eng.cfg.beaconEn = true ∧
    beacon0.length = 64 ∧
    field beacon0 0 4 = 0x42415851 ∧
    field beacon0 8 4 = wTimeStepsAndServoChoice9.eng.cfg.arrayId ∧
    field beacon0 60 4 = crc32c (beacon0.take 60) ∧
    field beacon0 6 2 % 4096 = 9 ∧
    9 ≠ wTimeStepsAndServoChoice9.eng.deviceId ∧
    field beacon0 12 4 = wTimeStepsAndServoChoice9.eng.cfg.sharedCrc ∧
    wTimeStepsAndServoChoice9.eng.followState ≠ .locked) ∧
    (wTimeStepsAndServoChoice10.eng.sys.phase = .running) :=
  ⟨⟨show (wTimeStepsAndServoChoice1.eng.at 0).intake hU 0x0801 = Admit.go from by decide +kernel, by decide +kernel⟩,
   ⟨show (wTimeStepsAndServoChoice2.eng.at 0).intake hU 0x0801 = Admit.go from by decide +kernel, by decide +kernel⟩,
   by decide +kernel,
   (by decide +kernel),
   ⟨show (wTimeStepsAndServoChoice5.eng.at 0).intake hU 0x0802 = Admit.go from by decide +kernel, by decide +kernel⟩,
   ⟨show (wTimeStepsAndServoChoice5b.eng.at 0).intake hU 0x0802 = Admit.go from by decide +kernel, by decide +kernel⟩,
   by decide +kernel,
   (by decide +kernel),
   by decide +kernel,
   (by decide +kernel),
   by decide +kernel⟩

def wPtpServosExchangeMessages1 : State :=
  live [time0] (servo 1 fun q => { q with state := .listening })

def wPtpServosExchangeMessages2 : State :=
  live [time0] (servo 0 fun q => { q with state := .listening, foreign := [(0, ann0)] })

def wPtpServosExchangeMessages3 : State :=
  live [time0] (servo 1 fun q => { q with state := .listening, master := some 3 })

def wPtpServosExchangeMessages3b : State :=
  live [{ time0 with words := time0.words.set 4 (mkWord [(31, 16, 65535)]) }] (servo 0 fun q => { q with state := .listening, master := some 3 })

def wPtpServosExchangeMessages4 : State :=
  live [time0] (servo 1 fun q => { q with state := .listening, sync := some ⟨3, 7, 1000, 400, 20, false⟩ })

def wPtpServosExchangeMessages5 : State :=
  live [time0] (servo 0 fun q => { q with state := .locked, master := some 3 })

def wPtpServosExchangeMessages5b : State :=
  live [time0] (servo 0 fun q => { q with state := .locked, master := some 3, lastReq := some 0 })

def wPtpServosExchangeMessages6 : State :=
  live [time0] (servo 1 fun q => { q with state := .listening, master := some 3, sync := some ⟨3, 7, 1000, 400, 20, true⟩, req := some (7, 70) })

def wPtpServosExchangeMessages7 : State :=
  live [time0] (servo 0 fun q => { q with state := .tracking, master := some 3, sync := some ⟨3, 7, 1000, 400, 20, true⟩, req := some (7, 70), hist := List.replicate 8 (0, 900000000) })

def wPtpServosExchangeMessages8 : State :=
  live [time0] (servo 1 fun q => { q with state := .listening, lastExch := some 0, run := 3 })

def wPtpServosExchangeMessages9 : State :=
  live [time0] (servo 1 fun q => { q with state := .listening, master := some 3, lastAnn := some 0, foreign := [(0, ann0)], run := 2 })

def wPtpServosExchangeMessages10 : State :=
  live [time0] fun e => servo 0 (fun q => { q with state := .tracking, goodSince := some 0 }) { e with time := { e.time with follow := 1 } }

/-- The hypotheses of PtpServosExchangeMessages can be met, clause by clause. -/
theorem witness_PtpServosExchangeMessages :
    (wPtpServosExchangeMessages1.eng.sys.phase = .running ∧
    wPtpServosExchangeMessages1.eng.ptpDeaf (1 : Fin 2) (2 : Fin 3) = false ∧
    (wPtpServosExchangeMessages1.eng.servo (1 : Fin 2)).foreign = [] ∧
    wPtpServosExchangeMessages1.eng.time.follow = 0) ∧
    (wPtpServosExchangeMessages2.eng.sys.phase = .running ∧
    wPtpServosExchangeMessages2.eng.ptpDeaf (0 : Fin 2) (1 : Fin 3) = false ∧
    (wPtpServosExchangeMessages2.eng.servo (0 : Fin 2)).foreign = [(0, ann0)] ∧
    (wPtpServosExchangeMessages2.eng.at 3).now < 0 + announceWindow ann0 ∧
    (wPtpServosExchangeMessages2.eng.servo (0 : Fin 2)).master = none ∧
    (wPtpServosExchangeMessages2.eng.servo (0 : Fin 2)).gm = 0 ∧
    ann0.gm ≠ 0 ∧
    wPtpServosExchangeMessages2.eng.time.follow = 0) ∧
    (wPtpServosExchangeMessages3.eng.sys.phase = .running ∧
    wPtpServosExchangeMessages3.eng.ptpDeaf (1 : Fin 2) (2 : Fin 3) = false ∧
    (wPtpServosExchangeMessages3.eng.servo (1 : Fin 2)).master = some 3) ∧
    (wPtpServosExchangeMessages3b.eng.sys.phase = .running ∧
    wPtpServosExchangeMessages3b.eng.ptpDeaf (0 : Fin 2) (0 : Fin 3) = false ∧
    (wPtpServosExchangeMessages3b.eng.servo (0 : Fin 2)).master = some 3) ∧
    (wPtpServosExchangeMessages4.eng.sys.phase = .running ∧
    wPtpServosExchangeMessages4.eng.ptpDeaf (1 : Fin 2) (0 : Fin 3) = false ∧
    (wPtpServosExchangeMessages4.eng.servo (1 : Fin 2)).sync = some ((SyncInfo.mk 3 7 1000 400 20 false)) ∧
    ((SyncInfo.mk 3 7 1000 400 20 false)).complete = false ∧
    ((SyncInfo.mk 3 7 1000 400 20 false)).master = 3 ∧
    ((SyncInfo.mk 3 7 1000 400 20 false)).seq = 7) ∧
    (wPtpServosExchangeMessages5.eng.sys.phase = .running ∧
    wPtpServosExchangeMessages5.eng.ptpDeaf (0 : Fin 2) (1 : Fin 3) = false ∧
    (wPtpServosExchangeMessages5.eng.servo (0 : Fin 2)).master = some 3 ∧
    ((∀ t0, (wPtpServosExchangeMessages5.eng.servo (0 : Fin 2)).lastReq = some t0 → t0 + secs 1 / 16 ≤ (wPtpServosExchangeMessages5.eng.at 0).now))) ∧
    (wPtpServosExchangeMessages5b.eng.sys.phase = .running ∧
    wPtpServosExchangeMessages5b.eng.ptpDeaf (0 : Fin 2) (1 : Fin 3) = false ∧
    (wPtpServosExchangeMessages5b.eng.servo (0 : Fin 2)).master = some 3 ∧
    ((∀ t0, (wPtpServosExchangeMessages5b.eng.servo (0 : Fin 2)).lastReq = some t0 → t0 + secs 1 / 16 ≤ (wPtpServosExchangeMessages5b.eng.at (secs 1 / 16)).now))) ∧
    (wPtpServosExchangeMessages6.eng.sys.phase = .running ∧
    wPtpServosExchangeMessages6.eng.ptpDeaf (1 : Fin 2) (2 : Fin 3) = false ∧
    (wPtpServosExchangeMessages6.eng.servo (1 : Fin 2)).state = .listening ∧
    (wPtpServosExchangeMessages6.eng.servo (1 : Fin 2)).sync = some ((SyncInfo.mk 3 7 1000 400 20 true)) ∧
    ((SyncInfo.mk 3 7 1000 400 20 true)).complete = true ∧
    ((SyncInfo.mk 3 7 1000 400 20 true)).master = 3 ∧
    (wPtpServosExchangeMessages6.eng.servo (1 : Fin 2)).master = some 3 ∧
    (wPtpServosExchangeMessages6.eng.servo (1 : Fin 2)).req = some (7, 70) ∧
    (wPtpServosExchangeMessages6.eng.servo (1 : Fin 2)).hist = [] ∧
    (wPtpServosExchangeMessages6.eng.servo (1 : Fin 2)).run = 0 ∧
    wPtpServosExchangeMessages6.eng.time.follow = 0 ∧
    (wPtpServosExchangeMessages6.eng.servo (1 - (1 : Fin 2).val)).good = false ∧
    wPtpServosExchangeMessages6.eng.clk.ptp.eligible = false) ∧
    (wPtpServosExchangeMessages7.eng.sys.phase = .running ∧
    wPtpServosExchangeMessages7.eng.ptpDeaf (0 : Fin 2) (1 : Fin 3) = false ∧
    (wPtpServosExchangeMessages7.eng.servo (0 : Fin 2)).sync = some ((SyncInfo.mk 3 7 1000 400 20 true)) ∧
    ((SyncInfo.mk 3 7 1000 400 20 true)).complete = true ∧
    ((SyncInfo.mk 3 7 1000 400 20 true)).master = 3 ∧
    (wPtpServosExchangeMessages7.eng.servo (0 : Fin 2)).master = some 3 ∧
    (wPtpServosExchangeMessages7.eng.servo (0 : Fin 2)).req = some (7, 70) ∧
    outlier ((wPtpServosExchangeMessages7.eng.servo (0 : Fin 2)).hist.map (·.2)) ((((SyncInfo.mk 3 7 1000 400 20 true)).rx - ((SyncInfo.mk 3 7 1000 400 20 true)).origin) - ((((SyncInfo.mk 3 7 1000 400 20 true)).rx - ((SyncInfo.mk 3 7 1000 400 20 true)).origin) + ((SyncInfo.mk 3 7 1000 400 20 true)).asym + (((5 : Nat) : Int) * 65536 - (-6) - 70)) / 2) = true) ∧
    (wPtpServosExchangeMessages8.eng.sys.phase = .running ∧
    (wPtpServosExchangeMessages8.eng.servo (1 : Fin 2)).state = .listening ∧
    (wPtpServosExchangeMessages8.eng.servo (1 : Fin 2)).lastExch = some 0 ∧
    0 + secs wPtpServosExchangeMessages8.eng.cfg.syncTo ≤ (wPtpServosExchangeMessages8.eng.at (secs 3)).now) ∧
    (wPtpServosExchangeMessages9.eng.sys.phase = .running ∧
    (wPtpServosExchangeMessages9.eng.servo (1 : Fin 2)).state = .listening ∧
    (wPtpServosExchangeMessages9.eng.at (secs 100)).annExpired (1 : Fin 2) = true) ∧
    (wPtpServosExchangeMessages10.eng.sys.phase = .running ∧
    wPtpServosExchangeMessages10.eng.followed = some (0 : Fin 2).val ∧
    (wPtpServosExchangeMessages10.eng.servo (0 : Fin 2)).good = true ∧
    (wPtpServosExchangeMessages10.eng.servo (0 : Fin 2)).stalled = false) :=
  ⟨by decide +kernel,
   (by decide +kernel),
   by decide +kernel,
   (by decide +kernel),
   by decide +kernel,
   ⟨by decide +kernel, (by decide +kernel), by decide +kernel, fun _ h => nomatch h⟩,
   ⟨by decide +kernel, (by decide +kernel), by decide +kernel, fun v h => by cases (show some 0 = some v from h); decide +kernel⟩,
   by decide +kernel,
   by decide +kernel,
   (by decide +kernel),
   by decide +kernel,
   (by decide +kernel)⟩

def wClockSourcesQualifiedAndLost1 : State :=
  live [sw 0x02 1 [(0, [(31, 30, 1), (29, 28, 0), (27, 27, 1), (26, 19, 2), (18, 11, 1), (10, 7, 4), (6, 3, 2)])]] id

def wClockSourcesQualifiedAndLost1b : State :=
  live [sw 0x02 1 [(0, [(31, 30, 1), (29, 28, 0), (27, 27, 1), (26, 19, 2), (18, 11, 1), (10, 7, 4), (6, 3, 2)])]] fun e => { e with sys := { e.sys with phase := .starting 4 } }

def wClockSourcesQualifiedAndLost2 : State :=
  live [sw 0x02 1 [(0, [(31, 30, 1), (29, 28, 0), (27, 27, 1), (26, 19, 2), (18, 11, 1), (10, 7, 4), (6, 3, 2)])]] fun e => { e with clk := { e.clk with selected := some .tcxo, root := .locked, refin := elig e.clk.refin, tcxo := elig e.clk.tcxo } }

def wClockSourcesQualifiedAndLost3 : State :=
  live [sw 0x02 1 [(0, [(31, 30, 1), (29, 28, 0), (27, 27, 1), (26, 19, 2), (18, 11, 1), (10, 7, 4), (6, 3, 2)])]] fun e => { e with clk := { e.clk with selected := some .tcxo, root := .locked, refin := elig e.clk.refin, tcxo := elig e.clk.tcxo } }

def wClockSourcesQualifiedAndLost4 : State :=
  live [sw 0x02 1 [(0, [(31, 30, 1), (29, 28, 0), (27, 27, 1), (26, 19, 2), (18, 11, 1), (10, 7, 4), (6, 3, 2)])]] fun e => { e with clk := { e.clk with selected := some .refin, root := .locked, refin := elig e.clk.refin, tcxo := elig e.clk.tcxo } }

def wClockSourcesQualifiedAndLost5 : State :=
  live [sw 0x02 1 [(0, [(31, 30, 1), (29, 28, 0), (27, 27, 1), (26, 19, 2), (18, 11, 1), (10, 7, 4), (6, 3, 2)])]] fun e => { e with clk := { e.clk with selected := some .tcxo, root := .locked, tcxo := elig e.clk.tcxo } }

def wClockSourcesQualifiedAndLost6 : State :=
  live [sw 0x02 1 [(0, [(31, 30, 1), (29, 28, 0), (27, 27, 1), (26, 19, 2), (18, 11, 1), (10, 7, 4), (6, 3, 2)])]] fun e => { e with clk := { e.clk with selected := some .tcxo, root := .acquiring } }

def wClockSourcesQualifiedAndLost6b : State :=
  live [sw 0x02 1 [(0, [(31, 30, 1), (29, 28, 0), (27, 27, 1), (26, 19, 2), (18, 11, 1), (10, 7, 4), (6, 3, 2)])]] fun e => { e with clk := { e.clk with selected := some .refin, root := .holdover, revert := some .tcxo } }

def wClockSourcesQualifiedAndLost7 : State :=
  live [sw 0x02 1 [(0, [(31, 30, 1), (29, 28, 0), (27, 27, 1), (26, 19, 2), (18, 11, 1), (10, 7, 4), (6, 3, 2)])]] fun e => { e with clk := { e.clk with selected := some .tcxo, root := .locked, tcxo := elig e.clk.tcxo, refin := elig e.clk.refin } }

def wClockSourcesQualifiedAndLost8 : State :=
  live [sw 0x02 1 [(0, [(31, 30, 1), (29, 28, 0), (27, 27, 1), (26, 19, 2), (18, 11, 1), (10, 7, 4), (6, 3, 2)])]] id

def wClockSourcesQualifiedAndLost9 : State :=
  live [sw 0x02 1 [(0, [(31, 30, 1), (29, 28, 0), (27, 27, 1), (26, 19, 2), (18, 11, 1), (10, 7, 4), (6, 3, 2)])]] fun e => { e with sys := { e.sys with phase := .starting 4 } }

def wClockSourcesQualifiedAndLost10 : State :=
  live [sw 0x02 1 [(0, [(31, 30, 1), (29, 28, 0), (27, 27, 1), (26, 19, 2), (18, 11, 1), (10, 7, 4), (6, 3, 2)])]] fun e => { e with clk := { e.clk with parents := vmod e.clk.parents 4 fun _ => true } }

def wClockSourcesQualifiedAndLost11 : State :=
  live [sw 0x02 1 [(0, [(31, 30, 1), (29, 28, 0), (27, 27, 1), (26, 19, 2), (18, 11, 1), (10, 7, 4), (6, 3, 2)])]] fun e => { e with clk := { e.clk with leaves := vmod e.clk.leaves 0 fun _ => [3, 9] } }

/-- The hypotheses of ClockSourcesQualifiedAndLost can be met, clause by clause. -/
theorem witness_ClockSourcesQualifiedAndLost :
    (wClockSourcesQualifiedAndLost1.eng.sys.phase.firmware = true ∧
    wClockSourcesQualifiedAndLost1.eng.clk.tcxo.eligible = false ∧
    wClockSourcesQualifiedAndLost1.eng.clk.refin.eligible = false ∧
    wClockSourcesQualifiedAndLost1.eng.clk.ptp.eligible = false ∧
    wClockSourcesQualifiedAndLost1.eng.clk.selected = none ∧
    wClockSourcesQualifiedAndLost1.eng.cfg.qualMs ≤ (wClockSourcesQualifiedAndLost1.eng.clk.tcxo.window 30000000 30000000).good ∧
    wClockSourcesQualifiedAndLost1.eng.time.follow = 0) ∧
    (wClockSourcesQualifiedAndLost1b.eng.sys.phase.firmware = true ∧
    wClockSourcesQualifiedAndLost1b.eng.clk.tcxo.eligible = false ∧
    wClockSourcesQualifiedAndLost1b.eng.clk.refin.eligible = false ∧
    wClockSourcesQualifiedAndLost1b.eng.clk.ptp.eligible = false ∧
    wClockSourcesQualifiedAndLost1b.eng.clk.selected = none ∧
    wClockSourcesQualifiedAndLost1b.eng.cfg.qualMs ≤ (wClockSourcesQualifiedAndLost1b.eng.clk.tcxo.window 30000000 (-5)).good ∧
    wClockSourcesQualifiedAndLost1b.eng.time.follow = 0) ∧
    (wClockSourcesQualifiedAndLost2.eng.sys.phase.firmware = true ∧
    wClockSourcesQualifiedAndLost2.eng.clk.refin.eligible = true ∧
    100000 < (100001 - wClockSourcesQualifiedAndLost2.eng.clk.refin.fRef).natAbs ∧
    wClockSourcesQualifiedAndLost2.eng.clk.selected = some .tcxo ∧
    wClockSourcesQualifiedAndLost2.eng.clk.tcxo.eligible = true) ∧
    (wClockSourcesQualifiedAndLost3.eng.sys.phase.powered = true ∧
    wClockSourcesQualifiedAndLost3.eng.clk.refin.eligible = true ∧
    wClockSourcesQualifiedAndLost3.eng.clk.selected = some .tcxo ∧
    wClockSourcesQualifiedAndLost3.eng.clk.tcxo.eligible = true) ∧
    (wClockSourcesQualifiedAndLost4.eng.sys.phase.powered = true ∧
    wClockSourcesQualifiedAndLost4.eng.clk.refin.eligible = true ∧
    wClockSourcesQualifiedAndLost4.eng.clk.selected = some .refin ∧
    wClockSourcesQualifiedAndLost4.eng.clk.tcxo.eligible = true ∧
    wClockSourcesQualifiedAndLost4.eng.clk.ptp.eligible = false ∧
    wClockSourcesQualifiedAndLost4.eng.clk.revert = none ∧
    5 * wClockSourcesQualifiedAndLost4.eng.cfg.phHit < 21) ∧
    (wClockSourcesQualifiedAndLost5.eng.sys.phase.powered = true ∧
    wClockSourcesQualifiedAndLost5.eng.clk.tcxo.eligible = true ∧
    wClockSourcesQualifiedAndLost5.eng.clk.refin.eligible = false ∧
    wClockSourcesQualifiedAndLost5.eng.clk.ptp.eligible = false ∧
    wClockSourcesQualifiedAndLost5.eng.clk.selected = some .tcxo ∧
    wClockSourcesQualifiedAndLost5.eng.clk.revert = none ∧
    wClockSourcesQualifiedAndLost5.eng.clk.classV = false) ∧
    (wClockSourcesQualifiedAndLost6.eng.sys.phase.powered = true ∧
    (wClockSourcesQualifiedAndLost6.eng.clk.root = .acquiring ∨ wClockSourcesQualifiedAndLost6.eng.clk.root = .holdover) ∧
    wClockSourcesQualifiedAndLost6.eng.clk.selected = some .tcxo) ∧
    (wClockSourcesQualifiedAndLost6b.eng.sys.phase.powered = true ∧
    (wClockSourcesQualifiedAndLost6b.eng.clk.root = .acquiring ∨ wClockSourcesQualifiedAndLost6b.eng.clk.root = .holdover) ∧
    wClockSourcesQualifiedAndLost6b.eng.clk.selected = some .refin) ∧
    (wClockSourcesQualifiedAndLost7.eng.sys.phase.powered = true ∧
    wClockSourcesQualifiedAndLost7.eng.cfg.clkRevert = true ∧
    wClockSourcesQualifiedAndLost7.eng.clk.selected = some .tcxo ∧
    wClockSourcesQualifiedAndLost7.eng.cfg.clkRank = [.refin, .tcxo] ∧
    wClockSourcesQualifiedAndLost7.eng.clk.refin.eligible = true ∧
    wClockSourcesQualifiedAndLost7.eng.clk.refin.since + secs wClockSourcesQualifiedAndLost7.eng.cfg.clkRevertS ≤ (wClockSourcesQualifiedAndLost7.eng.at (secs 2)).now) ∧
    (wClockSourcesQualifiedAndLost8.eng.sys.phase.powered = true) ∧
    (wClockSourcesQualifiedAndLost9.eng.sys.phase = .starting 4 ∧
    wClockSourcesQualifiedAndLost9.eng.bestSource = none ∧
    wClockSourcesQualifiedAndLost9.eng.sys.step4At + secs 3 ≤ (wClockSourcesQualifiedAndLost9.eng.at (secs 3)).now) ∧
    (wClockSourcesQualifiedAndLost10.eng.sys.phase.powered = true ∧
    vget wClockSourcesQualifiedAndLost10.eng.clk.leaves (4 : Fin 5) [] = []) ∧
    (wClockSourcesQualifiedAndLost11.eng.sys.phase.powered = true ∧
    vget wClockSourcesQualifiedAndLost11.eng.clk.leaves (0 : Fin 5) [] = 3 :: ([9])) :=
  ⟨by decide +kernel,
   (by decide +kernel),
   by decide +kernel,
   (by decide +kernel),
   by decide +kernel,
   (by decide +kernel),
   ⟨by decide +kernel, Or.inl (by decide +kernel), by decide +kernel⟩,
   ⟨by decide +kernel, Or.inr (by decide +kernel), by decide +kernel⟩,
   by decide +kernel,
   (by decide +kernel),
   by decide +kernel,
   (by decide +kernel),
   by decide +kernel⟩

def wDramWordsKeepAndReturnData1 : State :=
  live [regs4 0 0] fun e => rank0 31 (fun q => { q with pos := 3 }) { e with dram := { e.dram with mem := [(dramKey 31 (32 * 8388615 + 31), 5)] } }

def wDramWordsKeepAndReturnData1b : State :=
  live [regs4 0 0] (rank0 0 fun q => { q with state := .powerdown })

def wDramWordsKeepAndReturnData2 : State :=
  live [regs4 0 0] fun e => rank0 3 (fun q => { q with pos := 3 }) { e with dram := { e.dram with siphon := some ⟨1, 2, 0, 0, 0⟩ } }

def wDramWordsKeepAndReturnData3 : State :=
  live [regs4 0 0] fun e => rank0 4 (fun q => { q with layer := 1 }) { e with dram := { e.dram with mem := [(dramKey 4 (32 * 7 + 31), 5)] } }

def wDramWordsKeepAndReturnData4 : State :=
  live [regs4 0 0] fun e => { e with dram := { e.dram with busy := vmod e.dram.busy 0 fun _ => 5 } }

def wDramWordsKeepAndReturnData5 : State :=
  live [sw 0x04 37 [(0, [(30, 30, 1), (29, 22, 20), (21, 21, 1), (20, 20, 1)])]] id

def wDramWordsKeepAndReturnData6 : State :=
  live [regs4 1 1] id

def wDramWordsKeepAndReturnData7 : State :=
  live [sw 0x04 37 [(0, [(30, 30, 1), (29, 22, 20), (21, 21, 1), (20, 20, 1)])]] fun e => { e with dram := { { e.dram with siphon := some ⟨1, 31, 4096, 0, 0⟩ } with mem := [(dramKey 1 69633, 7), (dramKey 31 69634, 9)] } }

def wDramWordsKeepAndReturnData8 : State :=
  live [] id

def wDramWordsKeepAndReturnData8b : State :=
  live [] id

def wDramWordsKeepAndReturnData9 : State :=
  live [] id

def wDramWordsKeepAndReturnData9b : State :=
  live [] id

/-- The hypotheses of DramWordsKeepAndReturnData can be met, clause by clause. -/
theorem witness_DramWordsKeepAndReturnData :
    (wDramWordsKeepAndReturnData1.eng.sys.phase = .running ∧
    wDramWordsKeepAndReturnData1.eng.dram.reqs = [] ∧
    ((23 : Fin 24).val ≠ 22 ∨ wDramWordsKeepAndReturnData1.eng.cfg.qx2 = false) ∧
    wDramWordsKeepAndReturnData1.eng.cfg.dramPlace (1 : Fin 4) 31 = some (0, 3, 8388615) ∧
    wDramWordsKeepAndReturnData1.eng.rankAt 0 3 = some 31 ∧
    vget wDramWordsKeepAndReturnData1.eng.dram.busy (31 / 2) 0 ≤ (wDramWordsKeepAndReturnData1.eng.at 0).now ∧
    1 ≤ 1 ∧
    8388615 ∉ (wDramWordsKeepAndReturnData1.eng.rank 31).poisoned) ∧
    (wDramWordsKeepAndReturnData1b.eng.sys.phase = .running ∧
    wDramWordsKeepAndReturnData1b.eng.dram.reqs = [] ∧
    ((0 : Fin 24).val ≠ 22 ∨ wDramWordsKeepAndReturnData1b.eng.cfg.qx2 = false) ∧
    wDramWordsKeepAndReturnData1b.eng.cfg.dramPlace (3 : Fin 4) 0 = some (0, 0, 76546048) ∧
    wDramWordsKeepAndReturnData1b.eng.rankAt 0 0 = some 0 ∧
    vget wDramWordsKeepAndReturnData1b.eng.dram.busy (0 / 2) 0 ≤ (wDramWordsKeepAndReturnData1b.eng.at 0).now ∧
    0 ≤ 1 ∧
    76546048 ∉ (wDramWordsKeepAndReturnData1b.eng.rank 0).poisoned) ∧
    (wDramWordsKeepAndReturnData2.eng.sys.phase = .running ∧
    wDramWordsKeepAndReturnData2.eng.dram.reqs = [] ∧
    wDramWordsKeepAndReturnData2.eng.cfg.dramPlace (1 : Fin 4) 24 = some (0, 3, 8388608) ∧
    wDramWordsKeepAndReturnData2.eng.rankAt 0 3 = some 3 ∧
    vget wDramWordsKeepAndReturnData2.eng.dram.busy (3 / 2) 0 ≤ (wDramWordsKeepAndReturnData2.eng.at 0).now ∧
    2 ≤ 2 ∧
    wDramWordsKeepAndReturnData2.eng.dram.siphon = some (Migration.mk 1 2 0 0 0) ∧
    3 ≠ (Migration.mk 1 2 0 0 0).source ∧
    3 ≠ (Migration.mk 1 2 0 0 0).target ∧
    3 ∉ wDramWordsKeepAndReturnData2.eng.dram.queue ∧
    (wDramWordsKeepAndReturnData2.eng.rank 3).pos ≠ 31) ∧
    (wDramWordsKeepAndReturnData3.eng.sys.phase = .running ∧
    wDramWordsKeepAndReturnData3.eng.dram.reqs = [] ∧
    ((5 : Fin 24).val ≠ 22 ∨ wDramWordsKeepAndReturnData3.eng.cfg.qx2 = false) ∧
    wDramWordsKeepAndReturnData3.eng.cfg.dramPlace (2 : Fin 4) 7 = some (1, 0, 7) ∧
    wDramWordsKeepAndReturnData3.eng.rankAt 1 0 = some 4 ∧
    vget wDramWordsKeepAndReturnData3.eng.dram.busy (4 / 2) 0 ≤ (wDramWordsKeepAndReturnData3.eng.at 0).now ∧
    ((List.replicate 31 (9 : Byte) ++ [0]) : List Byte).length = 32 ∧
    wDramWordsKeepAndReturnData3.eng.dram.siphon = none) ∧
    (wDramWordsKeepAndReturnData4.eng.sys.phase = .running ∧
    wDramWordsKeepAndReturnData4.eng.dram.reqs = [] ∧
    wDramWordsKeepAndReturnData4.eng.cfg.dramPlace (1 : Fin 4) 7 = some (0, 0, 8388615) ∧
    wDramWordsKeepAndReturnData4.eng.rankAt 0 0 = some 0 ∧
    (wDramWordsKeepAndReturnData4.eng.at 0).now < vget wDramWordsKeepAndReturnData4.eng.dram.busy (0 / 2) 0) ∧
    (wDramWordsKeepAndReturnData5.eng.sys.phase = .running ∧
    88080383 < rankWords ∧
    wDramWordsKeepAndReturnData5.eng.cfg.scrubEn = true ∧
    (wDramWordsKeepAndReturnData5.eng.rank (31 : Fin 32)).state ≠ .retired) ∧
    (wDramWordsKeepAndReturnData6.eng.sys.phase.powered = true ∧
    wDramWordsKeepAndReturnData6.eng.anyPanic = true) ∧
    (wDramWordsKeepAndReturnData7.eng.sys.phase.powered = true ∧
    wDramWordsKeepAndReturnData7.eng.anyPanic = false ∧
    wDramWordsKeepAndReturnData7.eng.dram.siphon = some (Migration.mk 1 31 4096 0 0) ∧
    (Migration.mk 1 31 4096 0 0).p + 2048 < rawBytes ∧
    rowData ((Migration.mk 1 31 4096 0 0).p / 2048) = some 69632 ∧
    (Migration.mk 1 31 4096 0 0).source < 32 ∧
    (Migration.mk 1 31 4096 0 0).target < 32) ∧
    (wDramWordsKeepAndReturnData8.eng.sys.phase = .running ∧
    33554431 < grottoWords ∧
    ((Instr.grottoScrub 0 33554431 1) = Instr.grottoRead 0 33554431 1 ∨ (Instr.grottoScrub 0 33554431 1) = Instr.grottoScrub 0 33554431 1)) ∧
    (wDramWordsKeepAndReturnData8b.eng.sys.phase = .running ∧
    0 < grottoWords ∧
    ((Instr.grottoRead 0 0 1) = Instr.grottoRead 0 0 1 ∨ (Instr.grottoRead 0 0 1) = Instr.grottoScrub 0 0 1)) ∧
    (wDramWordsKeepAndReturnData9.eng.sys.phase = .running ∧
    31719424 < grottoWords ∧
    253755392 ≤ 8 * 31719424 ∧
    2 ≤ 2 ∧
    ((Instr.grottoRead 0 31719424 2) = Instr.grottoRead 0 31719424 2 ∨ (Instr.grottoRead 0 31719424 2) = Instr.grottoScrub 0 31719424 2) ∧
    (8 * 31719424 / 4096 % 2, 8 * 31719424 / 8192) ∉ wDramWordsKeepAndReturnData9.eng.grotto.badRows) ∧
    (wDramWordsKeepAndReturnData9b.eng.sys.phase = .running ∧
    33554431 < grottoWords ∧
    253755392 ≤ 8 * 33554431 ∧
    2 ≤ 9 ∧
    ((Instr.grottoScrub 0 33554431 9) = Instr.grottoRead 0 33554431 9 ∨ (Instr.grottoScrub 0 33554431 9) = Instr.grottoScrub 0 33554431 9) ∧
    (8 * 33554431 / 4096 % 2, 8 * 33554431 / 8192) ∉ wDramWordsKeepAndReturnData9b.eng.grotto.badRows) :=
  ⟨by decide +kernel,
   ⟨by decide +kernel, (by decide +kernel), Or.inl (by decide), by decide +kernel⟩,
   by decide +kernel,
   (by decide +kernel),
   by decide +kernel,
   (by decide +kernel),
   by decide +kernel,
   (by decide +kernel),
   ⟨by decide +kernel, (by decide +kernel), Or.inr rfl⟩,
   ⟨by decide +kernel, (by decide +kernel), Or.inl rfl⟩,
   ⟨by decide +kernel, (by decide +kernel), by decide +kernel, (by decide +kernel), Or.inl rfl, by decide +kernel⟩,
   ⟨by decide +kernel, (by decide +kernel), by decide +kernel, (by decide +kernel), Or.inr rfl, by decide +kernel⟩⟩

def wRanksAreKeptInService1 : State :=
  live [sw 0x04 37 [(0, [(30, 30, 1), (29, 22, 20), (21, 21, 1), (20, 20, 1)])]] (rank0 31 fun q => { q with fails := 1 })

def wRanksAreKeptInService2 : State :=
  live [sw 0x04 37 [(0, [(30, 30, 1), (29, 22, 20), (21, 21, 1), (20, 20, 1)])]] id

def wRanksAreKeptInService2b : State :=
  live [sw 0x04 37 [(0, [(30, 30, 1), (29, 22, 20), (21, 21, 1), (20, 20, 1)])]] id

def wRanksAreKeptInService3 : State :=
  live [sw 0x04 37 [(0, [(30, 30, 1), (29, 22, 20), (21, 21, 1), (20, 20, 1)])]] id

def wRanksAreKeptInService3b : State :=
  live [sw 0x04 37 [(0, [(30, 30, 1), (29, 22, 20), (21, 21, 1), (20, 20, 1)])]] (rank0 4 fun q => { q with hot := true })

def wRanksAreKeptInService4 : State :=
  live [sw 0x04 37 [(0, [(30, 30, 1), (29, 22, 20), (21, 21, 1), (20, 20, 1)])]] id

def wRanksAreKeptInService5 : State :=
  live [sw 0x04 37 [(0, [(30, 30, 1), (29, 22, 20), (21, 21, 1), (20, 20, 1)])]] fun e => rank0 1 (fun q => { q with state := .source, pos := 3 }) (rank0 31 (fun q => { q with state := .target }) { e with dram := { e.dram with siphon := some ⟨1, 31, 3221223424, 0, 0⟩ } })

/-- The hypotheses of RanksAreKeptInService can be met, clause by clause. -/
theorem witness_RanksAreKeptInService :
    (wRanksAreKeptInService1.eng.sys.phase = .running ∧
    (wRanksAreKeptInService1.eng.rank (31 : Fin 32)).state ≠ .source ∧
    (wRanksAreKeptInService1.eng.rank (31 : Fin 32)).state ≠ .retired ∧
    24 ≤ 24) ∧
    (wRanksAreKeptInService2.eng.sys.phase = .running ∧
    (wRanksAreKeptInService2.eng.rank (0 : Fin 32)).state ≠ .source ∧
    (wRanksAreKeptInService2.eng.rank (0 : Fin 32)).state ≠ .retired ∧
    (true = false ∨ 23 < 24) ∧
    (wRanksAreKeptInService2.eng.rank (0 : Fin 32)).fails = 0) ∧
    (wRanksAreKeptInService2b.eng.sys.phase = .running ∧
    (wRanksAreKeptInService2b.eng.rank (0 : Fin 32)).state ≠ .source ∧
    (wRanksAreKeptInService2b.eng.rank (0 : Fin 32)).state ≠ .retired ∧
    (false = false ∨ 30 < 24) ∧
    (wRanksAreKeptInService2b.eng.rank (0 : Fin 32)).fails = 0) ∧
    (wRanksAreKeptInService3.eng.sys.phase = .running) ∧
    (wRanksAreKeptInService3b.eng.sys.phase = .running) ∧
    (wRanksAreKeptInService4.eng.sys.phase = .running ∧
    wRanksAreKeptInService4.eng.cfg.pdEn = true ∧
    (wRanksAreKeptInService4.eng.rank (9 : Fin 32)).state = .active ∧
    (wRanksAreKeptInService4.eng.rank (9 : Fin 32)).lastReq + us wRanksAreKeptInService4.eng.cfg.pdUs ≤ (wRanksAreKeptInService4.eng.at (us 20)).now) ∧
    (wRanksAreKeptInService5.eng.sys.phase.powered = true ∧
    wRanksAreKeptInService5.eng.anyPanic = false ∧
    wRanksAreKeptInService5.eng.dram.siphon = some (Migration.mk 1 31 3221223424 0 0) ∧
    rawBytes ≤ (Migration.mk 1 31 3221223424 0 0).p + 2048 ∧
    wRanksAreKeptInService5.eng.dram.queue = [] ∧
    (Migration.mk 1 31 3221223424 0 0).source < 32 ∧
    (Migration.mk 1 31 3221223424 0 0).target < 32 ∧
    (Migration.mk 1 31 3221223424 0 0).source ≠ (Migration.mk 1 31 3221223424 0 0).target) :=
  ⟨by decide +kernel,
   ⟨by decide +kernel, (by decide +kernel), by decide +kernel, Or.inr (by decide +kernel), by decide +kernel⟩,
   ⟨by decide +kernel, (by decide +kernel), by decide +kernel, Or.inl rfl, by decide +kernel⟩,
   by decide +kernel,
   by decide +kernel,
   (by decide +kernel),
   by decide +kernel⟩

def wPositionChannelsCountAndSample1 : State :=
  live [sw 0x90 48 [(42, [(31, 31, 1), (28, 28, 1)])]] (chan0 7 id)

def wPositionChannelsCountAndSample1b : State :=
  live [sw 0x90 48 [(0, [(31, 31, 1)])]] (chan0 0 id)

def wPositionChannelsCountAndSample2 : State :=
  live [sw 0x90 48 [(36, [(31, 31, 1), (30, 29, 2)]), (37, [(31, 26, 12), (24, 24, 1)])]] (chan0 6 fun q => { q with ssiErrs := 3 })

def wPositionChannelsCountAndSample3 : State :=
  live [sw 0x90 48 [(36, [(31, 31, 1), (30, 29, 2)]), (37, [(31, 26, 12), (24, 24, 1)])]] (chan0 6 fun q => { q with ssiErrs := 7 })

def wPositionChannelsCountAndSample3b : State :=
  live [sw 0x90 48 [(0, [(31, 31, 1), (30, 29, 2)])]] (chan0 0 fun q => { q with ssiErrs := 6 })

def wPositionChannelsCountAndSample4 : State :=
  live [sw 0x90 48 [(0, [(31, 31, 1), (21, 19, 1)])]] (chan0 0 fun q => { q with pos := -9, hist := [3, 4] })

def wPositionChannelsCountAndSample5 : State :=
  live [sw 0x90 48 [(0, [(31, 31, 1), (21, 19, 1)])]] fun e => chan0 0 (fun q => { q with pos := -9, flags := vmod q.flags 1 fun _ => 2 }) { e.modPort 1 (fun q => { q with joined := true }) with proj := { e.proj with run := true } }

def wPositionChannelsCountAndSample6 : State :=
  live [sw 0x90 48 [(36, [(31, 31, 1), (30, 29, 2)]), (37, [(31, 26, 12)])]] fun e => { chan0 6 (fun q => { q with reads := [(100, -7)] }) e with pos := { (chan0 6 (fun q => { q with reads := [(100, -7)] }) e).pos with waits := [⟨1, 5, 6, 100⟩] } }

/-- The hypotheses of PositionChannelsCountAndSample can be met, clause by clause. -/
theorem witness_PositionChannelsCountAndSample :
    (wPositionChannelsCountAndSample1.eng.sys.phase = .running ∧
    (wPositionChannelsCountAndSample1.eng.chan (7 : Fin 8)).state ≠ 0 ∧
    wPositionChannelsCountAndSample1.eng.cfg.posMode (7 : Fin 8) = 0 ∧
    ((∀ v, wPositionChannelsCountAndSample1.eng.cfg.limited (7 : Fin 8) v = v)) ∧
    (wPositionChannelsCountAndSample1.eng.chan (7 : Fin 8)).held = false) ∧
    (wPositionChannelsCountAndSample1b.eng.sys.phase = .running ∧
    (wPositionChannelsCountAndSample1b.eng.chan (0 : Fin 8)).state ≠ 0 ∧
    wPositionChannelsCountAndSample1b.eng.cfg.posMode (0 : Fin 8) = 0 ∧
    ((∀ v, wPositionChannelsCountAndSample1b.eng.cfg.limited (0 : Fin 8) v = v)) ∧
    (wPositionChannelsCountAndSample1b.eng.chan (0 : Fin 8)).held = false) ∧
    (wPositionChannelsCountAndSample2.eng.sys.phase = .running ∧
    (wPositionChannelsCountAndSample2.eng.chan (6 : Fin 8)).state = 1 ∧
    wPositionChannelsCountAndSample2.eng.cfg.posMode (6 : Fin 8) = 2 ∧
    wPositionChannelsCountAndSample2.eng.cfg.ssiGray (6 : Fin 8) = false ∧
    wPositionChannelsCountAndSample2.eng.cfg.dirInv (6 : Fin 8) = false ∧
    ((wPositionChannelsCountAndSample2.eng.cfg.ssiDbl (6 : Fin 8) = true → 8191 = 8191)) ∧
    ((∀ u, wPositionChannelsCountAndSample2.eng.cfg.limited (6 : Fin 8) u = u)) ∧
    wPositionChannelsCountAndSample2.eng.pos.waits = []) ∧
    (wPositionChannelsCountAndSample3.eng.sys.phase = .running ∧
    (wPositionChannelsCountAndSample3.eng.chan (6 : Fin 8)).state = 1 ∧
    wPositionChannelsCountAndSample3.eng.cfg.posMode (6 : Fin 8) = 2) ∧
    (wPositionChannelsCountAndSample3b.eng.sys.phase = .running ∧
    (wPositionChannelsCountAndSample3b.eng.chan (0 : Fin 8)).state = 1 ∧
    wPositionChannelsCountAndSample3b.eng.cfg.posMode (0 : Fin 8) = 2) ∧
    (wPositionChannelsCountAndSample4.eng.sys.phase = .running) ∧
    (wPositionChannelsCountAndSample5.eng.sys.phase = .running ∧
    wPositionChannelsCountAndSample5.eng.proj.run = true ∧
    (wPositionChannelsCountAndSample5.eng.port (1 : Fin 2)).joined = true ∧
    ((∀ n : Fin 8, wPositionChannelsCountAndSample5.eng.cfg.posMode n ≠ 2))) ∧
    (wPositionChannelsCountAndSample6.eng.sys.phase = .running ∧
    wPositionChannelsCountAndSample6.eng.pos.waits = [(PosWait.mk 1 5 6 100)] ∧
    (PosWait.mk 1 5 6 100).port = (1 : Fin 2).val ∧
    (PosWait.mk 1 5 6 100).ch = (6 : Fin 8).val ∧
    (wPositionChannelsCountAndSample6.eng.chan (6 : Fin 8)).reads = [((100, -7))] ∧
    (PosWait.mk 1 5 6 100).tm + ns (2 * wPositionChannelsCountAndSample6.eng.cfg.ssiPeriod (6 : Fin 8)) ≤ (wPositionChannelsCountAndSample6.eng.at (secs 1)).now ∧
    (nsBetween ((100, -7)).1 (PosWait.mk 1 5 6 100).tm).natAbs ≤ 2 * wPositionChannelsCountAndSample6.eng.cfg.ssiPeriod (6 : Fin 8) ∧
    (wPositionChannelsCountAndSample6.eng.cfg.limited (6 : Fin 8) ((100, -7)).2 = ((100, -7)).2)) :=
  ⟨⟨by decide +kernel, (by decide +kernel), by decide +kernel, fun _ => rfl, by decide +kernel⟩,
   ⟨by decide +kernel, (by decide +kernel), by decide +kernel, fun _ => rfl, by decide +kernel⟩,
   ⟨by decide +kernel, (by decide +kernel), by decide +kernel, (by decide +kernel), by decide +kernel, (by decide +kernel), fun _ => rfl, by decide +kernel⟩,
   by decide +kernel,
   by decide +kernel,
   (by decide +kernel),
   by decide +kernel,
   (by decide +kernel)⟩

def wImagesAreTransferredAndCommitted1 : State :=
  { live [] (fun e => { e with sys := { e.sys with active := some false }, ctl := { e.ctl with complete := [true] } }) with flash := ⟨33554432, [(1, 2)], [(3, 4)]⟩ }

def wImagesAreTransferredAndCommitted2 : State :=
  { live [] (fun e => { e with ctl := { e.ctl with xfer := some ⟨.uart, 4096, 9, true, [], 5, 6, none⟩ }, sys := { e.sys with active := some false } }) with flash := Flash.reset }

def wImagesAreTransferredAndCommitted3 : State :=
  { live [] (fun e => { e with ctl := { e.ctl with xfer := some ⟨.uart, 4096, 9, false, [0, 2], 5, 6, none⟩ }, sys := { e.sys with active := some false } }) with flash := ⟨33554432, [(1, 2)], [(256, 4), (512, 6)]⟩ }

def wImagesAreTransferredAndCommitted4 : State :=
  { live [] (fun e => { e with ctl := { e.ctl with xfer := some ⟨.uart, 4096, 9, false, [0, 2], 5, 6, none⟩ }, sys := { e.sys with active := some false } }) with flash := ⟨33554432, [(1, 2)], [(256, 4), (512, 6)]⟩ }

def wImagesAreTransferredAndCommitted5 : State :=
  { live [] (fun e => { e with ctl := { e.ctl with xfer := some ⟨.uart, 4096, 9, false, [], 5, 6, none⟩ }, sys := { e.sys with active := some false } }) with flash := Flash.reset }

def wImagesAreTransferredAndCommitted6 : State :=
  { live [] (fun e => { e with ctl := { e.ctl with xfer := some ⟨.uart, 4096, 9, false, List.range 16, 5, 6, some (4096, crc32c (memBytes 0xFF slotTiny 4096 0))⟩ }, sys := { e.sys with active := some false } }) with flash := ⟨33554432, [], slotTiny⟩ }

def wImagesAreTransferredAndCommitted7 : State :=
  { live [] (fun e => { e with ctl := { e.ctl with xfer := some ⟨.uart, 4096, 9, false, [], 5, 6, some (0, 3)⟩ }, sys := { e.sys with active := some false } }) with flash := Flash.reset }

def wImagesAreTransferredAndCommitted7b : State :=
  { live [] (fun e => { e with ctl := { e.ctl with xfer := some ⟨.uart, 4096, 9, false, [], 5, 6, some (4096, 3)⟩ }, sys := { e.sys with active := some false } }) with flash := ⟨33554432, [], slotTiny⟩ }

def wImagesAreTransferredAndCommitted8 : State :=
  { live [] (fun e => { e with ctl := { e.ctl with xfer := some ⟨.uart, 4096, 9, false, [], 5, 6, none⟩ }, sys := { e.sys with active := some false } }) with flash := Flash.reset }

def wImagesAreTransferredAndCommitted9 : State :=
  { live [] (fun e => { e with ctl := { e.ctl with xfer := some ⟨.uart, 4096, 9, false, [], 5, 6, none⟩ }, sys := { e.sys with active := some false } }) with flash := Flash.reset }

def wImagesAreTransferredAndCommitted10 : State :=
  { live [] (fun e => { e with ctl := { e.ctl with staged := some (staged0 (.imageCommit 1)), complete := [true, false] }, sys := { e.sys with active := some false, generation := 8, committing := true } }) with flash := ⟨33554432, slotDone 8, slotNew 9⟩ }

def wImagesAreTransferredAndCommitted11 : State :=
  { live [] (fun e => { e with ctl := { e.ctl with staged := some (staged0 (.imageCommit 0)), complete := [true, false] }, sys := { e.sys with active := none, generation := 0, committing := true } }) with flash := Flash.reset }

def wImagesAreTransferredAndCommitted11b : State :=
  { live [] (fun e => { e with ctl := { e.ctl with staged := some (staged0 (.imageCommit 0)), complete := [true, false] }, sys := { e.sys with active := some true, generation := 9, committing := true } }) with flash := ⟨33554432, slotNew 9, []⟩ }

/-- The hypotheses of ImagesAreTransferredAndCommitted can be met, clause by clause. -/
theorem witness_ImagesAreTransferredAndCommitted :
    (wImagesAreTransferredAndCommitted1.takes 0 hU 0x0601 ∧
    33554432 % 4096 = 0 ∧
    33554432 < 2 ^ 32 ∧
    4294967295 < 2 ^ 32 ∧
    33554432 ≤ wImagesAreTransferredAndCommitted1.flash.slotBytes ∧
    wImagesAreTransferredAndCommitted1.eng.sys.committing = false ∧
    wImagesAreTransferredAndCommitted1.eng.ctl.xfer = none) ∧
    (wImagesAreTransferredAndCommitted2.eng.ctl.xfer = some (Xfer.mk .uart 4096 9 true ([] : List Nat) 5 6 none) ∧
    (Xfer.mk .uart 4096 9 true ([] : List Nat) 5 6 none).erasing = true) ∧
    (wImagesAreTransferredAndCommitted3.takes 0 hU 0x0602 ∧
    256 % 256 = 0 ∧
    ((List.replicate 256 (1 : Byte)) : List Byte).length % 256 = 0 ∧
    256 ≤ ((List.replicate 256 (1 : Byte)) : List Byte).length ∧
    ((List.replicate 256 (1 : Byte)) : List Byte).length ≤ 32768 ∧
    256 < 2 ^ 32 ∧
    wImagesAreTransferredAndCommitted3.eng.sys.committing = false ∧
    wImagesAreTransferredAndCommitted3.eng.ctl.xfer = some (Xfer.mk .uart 4096 9 false ([0, 2]) 5 6 none) ∧
    (Xfer.mk .uart 4096 9 false ([0, 2]) 5 6 none).owner = hU.client ∧
    (Xfer.mk .uart 4096 9 false ([0, 2]) 5 6 none).erasing = false ∧
    (Xfer.mk .uart 4096 9 false ([0, 2]) 5 6 none).checking = none ∧
    256 + ((List.replicate 256 (1 : Byte)) : List Byte).length ≤ (Xfer.mk .uart 4096 9 false ([0, 2]) 5 6 none).total ∧
    ((∀ k ∈ (Xfer.mk .uart 4096 9 false ([0, 2]) 5 6 none).written, k < 256 / 256 ∨ 256 / 256 + ((List.replicate 256 (1 : Byte)) : List Byte).length / 256 ≤ k))) ∧
    (wImagesAreTransferredAndCommitted4.takes 0 hU 0x0602 ∧
    256 % 256 = 0 ∧
    ((List.replicate 512 (1 : Byte)) : List Byte).length % 256 = 0 ∧
    256 ≤ ((List.replicate 512 (1 : Byte)) : List Byte).length ∧
    ((List.replicate 512 (1 : Byte)) : List Byte).length ≤ 32768 ∧
    256 < 2 ^ 32 ∧
    wImagesAreTransferredAndCommitted4.eng.sys.committing = false ∧
    wImagesAreTransferredAndCommitted4.eng.ctl.xfer = some (Xfer.mk .uart 4096 9 false ([0, 2]) 5 6 none) ∧
    (Xfer.mk .uart 4096 9 false ([0, 2]) 5 6 none).owner = hU.client ∧
    (Xfer.mk .uart 4096 9 false ([0, 2]) 5 6 none).erasing = false ∧
    (Xfer.mk .uart 4096 9 false ([0, 2]) 5 6 none).checking = none ∧
    2 ∈ (Xfer.mk .uart 4096 9 false ([0, 2]) 5 6 none).written ∧
    256 / 256 ≤ 2 ∧
    2 < 256 / 256 + ((List.replicate 512 (1 : Byte)) : List Byte).length / 256) ∧
    (wImagesAreTransferredAndCommitted5.takes 0 hU 0x0603 ∧
    4096 < 2 ^ 32 ∧
    4294967295 < 2 ^ 32 ∧
    wImagesAreTransferredAndCommitted5.eng.sys.committing = false ∧
    wImagesAreTransferredAndCommitted5.eng.ctl.xfer = some (Xfer.mk .uart 4096 9 false ([] : List Nat) 5 6 none) ∧
    (Xfer.mk .uart 4096 9 false ([] : List Nat) 5 6 none).owner = hU.client ∧
    (Xfer.mk .uart 4096 9 false ([] : List Nat) 5 6 none).erasing = false ∧
    (Xfer.mk .uart 4096 9 false ([] : List Nat) 5 6 none).checking = none) ∧
    (wImagesAreTransferredAndCommitted6.eng.ctl.xfer = some (Xfer.mk .uart 4096 9 false (List.range 16) 5 6 (some (4096, crc32c (memBytes 0xFF slotTiny 4096 0)))) ∧
    (Xfer.mk .uart 4096 9 false (List.range 16) 5 6 (some (4096, crc32c (memBytes 0xFF slotTiny 4096 0)))).checking = some ((Xfer.mk .uart 4096 9 false (List.range 16) 5 6 (some (4096, crc32c (memBytes 0xFF slotTiny 4096 0)))).total, (crc32c (memBytes 0xFF slotTiny 4096 0))) ∧
    slotTiny = wImagesAreTransferredAndCommitted6.flash.slot wImagesAreTransferredAndCommitted6.eng.sys.inactive ∧
    crc32c (memBytes 0xFF slotTiny (Xfer.mk .uart 4096 9 false (List.range 16) 5 6 (some (4096, crc32c (memBytes 0xFF slotTiny 4096 0)))).total 0) = (crc32c (memBytes 0xFF slotTiny 4096 0)) ∧
    ((∀ k < (Xfer.mk .uart 4096 9 false (List.range 16) 5 6 (some (4096, crc32c (memBytes 0xFF slotTiny 4096 0)))).total / 256, k ∈ (Xfer.mk .uart 4096 9 false (List.range 16) 5 6 (some (4096, crc32c (memBytes 0xFF slotTiny 4096 0)))).written)) ∧
    memBytes 0xFF slotTiny 4 0 = le 4 0x52505554 ∧
    slotField slotTiny 8 4 = (Xfer.mk .uart 4096 9 false (List.range 16) 5 6 (some (4096, crc32c (memBytes 0xFF slotTiny 4096 0)))).generation) ∧
    (wImagesAreTransferredAndCommitted7.eng.ctl.xfer = some (Xfer.mk .uart 4096 9 false ([] : List Nat) 5 6 (some (0, 3))) ∧
    (Xfer.mk .uart 4096 9 false ([] : List Nat) 5 6 (some (0, 3))).checking = some (0, 3) ∧
    (([] : List Host.Cell)) = wImagesAreTransferredAndCommitted7.flash.slot wImagesAreTransferredAndCommitted7.eng.sys.inactive ∧
    ((0 ≠ (Xfer.mk .uart 4096 9 false ([] : List Nat) 5 6 (some (0, 3))).total ∨ crc32c (memBytes 0xFF (([] : List Host.Cell)) 0 0) ≠ 3 ∨ (∃ k < (Xfer.mk .uart 4096 9 false ([] : List Nat) 5 6 (some (0, 3))).total / 256, k ∉ (Xfer.mk .uart 4096 9 false ([] : List Nat) 5 6 (some (0, 3))).written) ∨ slotField (([] : List Host.Cell)) 8 4 ≠ (Xfer.mk .uart 4096 9 false ([] : List Nat) 5 6 (some (0, 3))).generation))) ∧
    (wImagesAreTransferredAndCommitted7b.eng.ctl.xfer = some (Xfer.mk .uart 4096 9 false ([] : List Nat) 5 6 (some (4096, 3))) ∧
    (Xfer.mk .uart 4096 9 false ([] : List Nat) 5 6 (some (4096, 3))).checking = some (4096, 3) ∧
    slotTiny = wImagesAreTransferredAndCommitted7b.flash.slot wImagesAreTransferredAndCommitted7b.eng.sys.inactive ∧
    ((4096 ≠ (Xfer.mk .uart 4096 9 false ([] : List Nat) 5 6 (some (4096, 3))).total ∨ crc32c (memBytes 0xFF slotTiny 4096 0) ≠ 3 ∨ (∃ k < (Xfer.mk .uart 4096 9 false ([] : List Nat) 5 6 (some (4096, 3))).total / 256, k ∉ (Xfer.mk .uart 4096 9 false ([] : List Nat) 5 6 (some (4096, 3))).written) ∨ slotField slotTiny 8 4 ≠ (Xfer.mk .uart 4096 9 false ([] : List Nat) 5 6 (some (4096, 3))).generation))) ∧
    (wImagesAreTransferredAndCommitted8.takes 0 hU 0x0604 ∧
    wImagesAreTransferredAndCommitted8.eng.sys.committing = false ∧
    wImagesAreTransferredAndCommitted8.eng.ctl.xfer = some (Xfer.mk .uart 4096 9 false ([] : List Nat) 5 6 none) ∧
    (Xfer.mk .uart 4096 9 false ([] : List Nat) 5 6 none).owner = hU.client) ∧
    (wImagesAreTransferredAndCommitted9.eng.ctl.xfer = some (Xfer.mk .uart 4096 9 false ([] : List Nat) 5 6 none) ∧
    (Xfer.mk .uart 4096 9 false ([] : List Nat) 5 6 none).lastReq + secs 60 ≤ (wImagesAreTransferredAndCommitted9.eng.at (secs 60 + 5)).now) ∧
    (wImagesAreTransferredAndCommitted10.eng.sys.phase = .running ∧
    wImagesAreTransferredAndCommitted10.eng.sys.committing = true ∧
    wImagesAreTransferredAndCommitted10.eng.ctl.staged = some (staged0 (.imageCommit 1)) ∧
    (staged0 (.imageCommit 1)).cmd = .imageCommit 1 ∧
    (slotNew 9) = wImagesAreTransferredAndCommitted10.flash.slot (decide (1 = 1)) ∧
    slotFault (slotNew 9) wImagesAreTransferredAndCommitted10.ks allOk false = 0 ∧
    ((wImagesAreTransferredAndCommitted10.eng.sys.active = none ∨ wImagesAreTransferredAndCommitted10.eng.sys.generation < slotGeneration (slotNew 9))) ∧
    slotConfig (slotNew 9) = some mini ∧
    mini.broken = none ∧
    committedWord (slotNew 9) = commWord) ∧
    (wImagesAreTransferredAndCommitted11.eng.sys.phase = .running ∧
    wImagesAreTransferredAndCommitted11.eng.sys.committing = true ∧
    wImagesAreTransferredAndCommitted11.eng.ctl.staged = some (staged0 (.imageCommit 0)) ∧
    (staged0 (.imageCommit 0)).cmd = .imageCommit 0 ∧
    (([] : List Host.Cell)) = wImagesAreTransferredAndCommitted11.flash.slot (decide (0 = 1)) ∧
    (((1 = 1 ∧ slotFault (([] : List Host.Cell)) wImagesAreTransferredAndCommitted11.ks allOk false ≠ 0) ∨ (1 = 2 ∧ slotFault (([] : List Host.Cell)) wImagesAreTransferredAndCommitted11.ks allOk false = 0 ∧ wImagesAreTransferredAndCommitted11.eng.sys.active.isSome = true ∧ slotGeneration (([] : List Host.Cell)) ≤ wImagesAreTransferredAndCommitted11.eng.sys.generation)))) ∧
    (wImagesAreTransferredAndCommitted11b.eng.sys.phase = .running ∧
    wImagesAreTransferredAndCommitted11b.eng.sys.committing = true ∧
    wImagesAreTransferredAndCommitted11b.eng.ctl.staged = some (staged0 (.imageCommit 0)) ∧
    (staged0 (.imageCommit 0)).cmd = .imageCommit 0 ∧
    (slotNew 9) = wImagesAreTransferredAndCommitted11b.flash.slot (decide (0 = 1)) ∧
    (((2 = 1 ∧ slotFault (slotNew 9) wImagesAreTransferredAndCommitted11b.ks allOk false ≠ 0) ∨ (2 = 2 ∧ slotFault (slotNew 9) wImagesAreTransferredAndCommitted11b.ks allOk false = 0 ∧ wImagesAreTransferredAndCommitted11b.eng.sys.active.isSome = true ∧ slotGeneration (slotNew 9) ≤ wImagesAreTransferredAndCommitted11b.eng.sys.generation)))) :=
  ⟨⟨show (wImagesAreTransferredAndCommitted1.eng.at 0).intake hU 0x0601 = Admit.go from by decide +kernel, by decide +kernel⟩,
   by decide +kernel,
   ⟨show (wImagesAreTransferredAndCommitted3.eng.at 0).intake hU 0x0602 = Admit.go from by decide +kernel, by decide +kernel⟩,
   ⟨show (wImagesAreTransferredAndCommitted4.eng.at 0).intake hU 0x0602 = Admit.go from by decide +kernel, by decide +kernel⟩,
   ⟨show (wImagesAreTransferredAndCommitted5.eng.at 0).intake hU 0x0603 = Admit.go from by decide +kernel, by decide +kernel⟩,
   ⟨rfl, rfl, rfl, rfl, fun k hk => List.mem_range.2 hk, by decide +kernel⟩,
   ⟨by decide +kernel, (by decide +kernel), by decide +kernel, Or.inl (by decide)⟩,
   ⟨by decide +kernel, (by decide +kernel), by decide +kernel, Or.inr (Or.inr (Or.inl ⟨15, by decide, by decide⟩))⟩,
   ⟨show (wImagesAreTransferredAndCommitted8.eng.at 0).intake hU 0x0604 = Admit.go from by decide +kernel, by decide +kernel⟩,
   by decide +kernel,
   ⟨by decide +kernel, (by decide +kernel), by decide +kernel, (by decide +kernel), rfl, slotNew_fault 9 _ rfl, Or.inr (by rw [slotNew_gen 9 (by decide)]; decide), slotNew_config 9, mini_ok, slotNew_com 9⟩,
   ⟨by decide +kernel, (by decide +kernel), by decide +kernel, (by decide +kernel), by decide +kernel, Or.inl ⟨rfl, by decide +kernel⟩⟩,
   ⟨by decide +kernel, (by decide +kernel), by decide +kernel, (by decide +kernel), rfl, Or.inr ⟨rfl, slotNew_fault 9 _ rfl, rfl, by rw [slotNew_gen 9 (by decide)]; decide⟩⟩⟩

def wGatedCommandsAreStagedAndEnd1 : State :=
  live [] (fun e => { e with sys := { e.sys with mode := .service }, ctl := { e.ctl with complete := [true] } })

def wGatedCommandsAreStagedAndEnd1b : State :=
  live [] (fun e => { e with sys := { e.sys with mode := .service } })

def wGatedCommandsAreStagedAndEnd1c : State :=
  live secur0 (fun e => { e with sys := { e.sys with mode := .service } })

def wGatedCommandsAreStagedAndEnd1d : State :=
  { live [] (fun e => { e with sys := { e.sys with mode := .service } }) with ks := { KeyStore.reset with pkey := some ⟨List.replicate 32 0, 5⟩, pkeyWrites := 1 } }

def wGatedCommandsAreStagedAndEnd1e : State :=
  live secur0 (fun e => { e with sys := { e.sys with mode := .service } })

def wGatedCommandsAreStagedAndEnd1f : State :=
  live [] (fun e => { e with sys := { e.sys with mode := .service } })

def wGatedCommandsAreStagedAndEnd1g : State :=
  live [sw 0x20 20 []] (fun e => { e with sys := { e.sys with mode := .service } })

def wGatedCommandsAreStagedAndEnd1h : State :=
  live secur0 (fun e => { e with sys := { e.sys with mode := .service } })

def wGatedCommandsAreStagedAndEnd2 : State :=
  live [] (fun e => { e with sys := { e.sys with mode := .service } })

def wGatedCommandsAreStagedAndEnd3 : State :=
  live secur0 (fun e => e)

def wGatedCommandsAreStagedAndEnd3b : State :=
  live secur0 (fun e => { e with sys := { e.sys with mode := .service }, ctl := { e.ctl with staged := some (waiting0 .lampOpen) } })

def wGatedCommandsAreStagedAndEnd4 : State :=
  live secur0 (fun e => { e with sys := { e.sys with mode := .service }, ctl := { e.ctl with staged := some (waiting0 .lampOpen) } })

def wGatedCommandsAreStagedAndEnd5 : State :=
  live secur0 (fun e => { e with sys := { e.sys with mode := .service }, ctl := { e.ctl with staged := some (waiting0 .lampOpen) } })

def wGatedCommandsAreStagedAndEnd6 : State :=
  live [] (fun e => e)

def wGatedCommandsAreStagedAndEnd7 : State :=
  live [] (fun e => { e with pins := { e.pins with sealWatch := true } })

def wGatedCommandsAreStagedAndEnd8 : State :=
  { live [] (fun e => { e with pins := { e.pins with sealWatch := true } }) with ks := { KeyStore.reset with sealFirst := some 77 } }

/-- The hypotheses of GatedCommandsAreStagedAndEnd can be met, clause by clause. -/
theorem witness_GatedCommandsAreStagedAndEnd :
    (wGatedCommandsAreStagedAndEnd1.takes 0 hU (Gated.imageCommit 1 : Gated).ty ∧
    wGatedCommandsAreStagedAndEnd1.eng.sys.phase = .running ∧
    wGatedCommandsAreStagedAndEnd1.eng.sys.mode = .service ∧
    wGatedCommandsAreStagedAndEnd1.eng.ctl.staged = none ∧
    ((match (Gated.imageCommit 1 : Gated) with | .imageCommit n => n ≤ 1 ∧ decide (n = 1) ∈ wGatedCommandsAreStagedAndEnd1.eng.ctl.complete ∧ wGatedCommandsAreStagedAndEnd1.eng.sys.units = [] | .keyLoad kind id v check => v.length = 32 ∧ id < 2 ^ 32 ∧ wGatedCommandsAreStagedAndEnd1.eng.sys.lampOpen = false ∧ check = (sha512 (le 4 id ++ v)).take 8 ∧ (hU.client.isEth = true → wGatedCommandsAreStagedAndEnd1.eng.cb 0x00A0 0 29 = true) ∧ ((kind = 0 ∧ wGatedCommandsAreStagedAndEnd1.ks.hash = none ∧ v = (sha512 (slotSigner (wGatedCommandsAreStagedAndEnd1.eng.activeSlot wGatedCommandsAreStagedAndEnd1.flash))).take 32) ∨ (kind = 1 ∧ id ≠ 0)) | .keyErase m => m ≤ 3 ∧ ((m.testBit 0 = true ∧ wGatedCommandsAreStagedAndEnd1.ks.hash ≠ none) ∨ (m.testBit 1 = true ∧ wGatedCommandsAreStagedAndEnd1.ks.pkey ≠ none)) | .lampOpen => wGatedCommandsAreStagedAndEnd1.eng.cb 0x00A0 0 31 = true ∧ wGatedCommandsAreStagedAndEnd1.eng.sys.lampOpen = false | .timeStep o => -(2 : Int) ^ 63 ≤ o ∧ o < (2 : Int) ^ 63 | .calCommit tables fold found => tables ≤ 63 ∧ (tables = 0 → fold = true) ∧ (∀ k ∈ tablesOf tables, found.testBit k = true ∧ ∀ p, tablePort k = some p → wGatedCommandsAreStagedAndEnd1.eng.cfg.hasPort p = true) ∧ wGatedCommandsAreStagedAndEnd1.eng.has 0x0020 = true ∧ wGatedCommandsAreStagedAndEnd1.eng.raw.reload = none | .factoryReset confirm => wGatedCommandsAreStagedAndEnd1.eng.cfg.fresetEn = true ∧ confirm = 0x54535246))) ∧
    (wGatedCommandsAreStagedAndEnd1b.takes 0 hU (Gated.keyLoad 0 0 ((sha512 (slotSigner [])).take 32) ((sha512 (le 4 0 ++ ((sha512 (slotSigner [])).take 32))).take 8) : Gated).ty ∧
    wGatedCommandsAreStagedAndEnd1b.eng.sys.phase = .running ∧
    wGatedCommandsAreStagedAndEnd1b.eng.sys.mode = .service ∧
    wGatedCommandsAreStagedAndEnd1b.eng.ctl.staged = none ∧
    ((match (Gated.keyLoad 0 0 ((sha512 (slotSigner [])).take 32) ((sha512 (le 4 0 ++ ((sha512 (slotSigner [])).take 32))).take 8) : Gated) with | .imageCommit n => n ≤ 1 ∧ decide (n = 1) ∈ wGatedCommandsAreStagedAndEnd1b.eng.ctl.complete ∧ wGatedCommandsAreStagedAndEnd1b.eng.sys.units = [] | .keyLoad kind id v check => v.length = 32 ∧ id < 2 ^ 32 ∧ wGatedCommandsAreStagedAndEnd1b.eng.sys.lampOpen = false ∧ check = (sha512 (le 4 id ++ v)).take 8 ∧ (hU.client.isEth = true → wGatedCommandsAreStagedAndEnd1b.eng.cb 0x00A0 0 29 = true) ∧ ((kind = 0 ∧ wGatedCommandsAreStagedAndEnd1b.ks.hash = none ∧ v = (sha512 (slotSigner (wGatedCommandsAreStagedAndEnd1b.eng.activeSlot wGatedCommandsAreStagedAndEnd1b.flash))).take 32) ∨ (kind = 1 ∧ id ≠ 0)) | .keyErase m => m ≤ 3 ∧ ((m.testBit 0 = true ∧ wGatedCommandsAreStagedAndEnd1b.ks.hash ≠ none) ∨ (m.testBit 1 = true ∧ wGatedCommandsAreStagedAndEnd1b.ks.pkey ≠ none)) | .lampOpen => wGatedCommandsAreStagedAndEnd1b.eng.cb 0x00A0 0 31 = true ∧ wGatedCommandsAreStagedAndEnd1b.eng.sys.lampOpen = false | .timeStep o => -(2 : Int) ^ 63 ≤ o ∧ o < (2 : Int) ^ 63 | .calCommit tables fold found => tables ≤ 63 ∧ (tables = 0 → fold = true) ∧ (∀ k ∈ tablesOf tables, found.testBit k = true ∧ ∀ p, tablePort k = some p → wGatedCommandsAreStagedAndEnd1b.eng.cfg.hasPort p = true) ∧ wGatedCommandsAreStagedAndEnd1b.eng.has 0x0020 = true ∧ wGatedCommandsAreStagedAndEnd1b.eng.raw.reload = none | .factoryReset confirm => wGatedCommandsAreStagedAndEnd1b.eng.cfg.fresetEn = true ∧ confirm = 0x54535246))) ∧
    (wGatedCommandsAreStagedAndEnd1c.takes 0 ((MsgHdr.mk (.eth 77 5000) 3)) (Gated.keyLoad 1 5 (List.replicate 32 (0 : Byte)) ((sha512 (le 4 5 ++ (List.replicate 32 (0 : Byte)))).take 8) : Gated).ty ∧
    wGatedCommandsAreStagedAndEnd1c.eng.sys.phase = .running ∧
    wGatedCommandsAreStagedAndEnd1c.eng.sys.mode = .service ∧
    wGatedCommandsAreStagedAndEnd1c.eng.ctl.staged = none ∧
    ((match (Gated.keyLoad 1 5 (List.replicate 32 (0 : Byte)) ((sha512 (le 4 5 ++ (List.replicate 32 (0 : Byte)))).take 8) : Gated) with | .imageCommit n => n ≤ 1 ∧ decide (n = 1) ∈ wGatedCommandsAreStagedAndEnd1c.eng.ctl.complete ∧ wGatedCommandsAreStagedAndEnd1c.eng.sys.units = [] | .keyLoad kind id v check => v.length = 32 ∧ id < 2 ^ 32 ∧ wGatedCommandsAreStagedAndEnd1c.eng.sys.lampOpen = false ∧ check = (sha512 (le 4 id ++ v)).take 8 ∧ (((MsgHdr.mk (.eth 77 5000) 3)).client.isEth = true → wGatedCommandsAreStagedAndEnd1c.eng.cb 0x00A0 0 29 = true) ∧ ((kind = 0 ∧ wGatedCommandsAreStagedAndEnd1c.ks.hash = none ∧ v = (sha512 (slotSigner (wGatedCommandsAreStagedAndEnd1c.eng.activeSlot wGatedCommandsAreStagedAndEnd1c.flash))).take 32) ∨ (kind = 1 ∧ id ≠ 0)) | .keyErase m => m ≤ 3 ∧ ((m.testBit 0 = true ∧ wGatedCommandsAreStagedAndEnd1c.ks.hash ≠ none) ∨ (m.testBit 1 = true ∧ wGatedCommandsAreStagedAndEnd1c.ks.pkey ≠ none)) | .lampOpen => wGatedCommandsAreStagedAndEnd1c.eng.cb 0x00A0 0 31 = true ∧ wGatedCommandsAreStagedAndEnd1c.eng.sys.lampOpen = false | .timeStep o => -(2 : Int) ^ 63 ≤ o ∧ o < (2 : Int) ^ 63 | .calCommit tables fold found => tables ≤ 63 ∧ (tables = 0 → fold = true) ∧ (∀ k ∈ tablesOf tables, found.testBit k = true ∧ ∀ p, tablePort k = some p → wGatedCommandsAreStagedAndEnd1c.eng.cfg.hasPort p = true) ∧ wGatedCommandsAreStagedAndEnd1c.eng.has 0x0020 = true ∧ wGatedCommandsAreStagedAndEnd1c.eng.raw.reload = none | .factoryReset confirm => wGatedCommandsAreStagedAndEnd1c.eng.cfg.fresetEn = true ∧ confirm = 0x54535246))) ∧
    (wGatedCommandsAreStagedAndEnd1d.takes 0 hU (Gated.keyErase 3 : Gated).ty ∧
    wGatedCommandsAreStagedAndEnd1d.eng.sys.phase = .running ∧
    wGatedCommandsAreStagedAndEnd1d.eng.sys.mode = .service ∧
    wGatedCommandsAreStagedAndEnd1d.eng.ctl.staged = none ∧
    ((match (Gated.keyErase 3 : Gated) with | .imageCommit n => n ≤ 1 ∧ decide (n = 1) ∈ wGatedCommandsAreStagedAndEnd1d.eng.ctl.complete ∧ wGatedCommandsAreStagedAndEnd1d.eng.sys.units = [] | .keyLoad kind id v check => v.length = 32 ∧ id < 2 ^ 32 ∧ wGatedCommandsAreStagedAndEnd1d.eng.sys.lampOpen = false ∧ check = (sha512 (le 4 id ++ v)).take 8 ∧ (hU.client.isEth = true → wGatedCommandsAreStagedAndEnd1d.eng.cb 0x00A0 0 29 = true) ∧ ((kind = 0 ∧ wGatedCommandsAreStagedAndEnd1d.ks.hash = none ∧ v = (sha512 (slotSigner (wGatedCommandsAreStagedAndEnd1d.eng.activeSlot wGatedCommandsAreStagedAndEnd1d.flash))).take 32) ∨ (kind = 1 ∧ id ≠ 0)) | .keyErase m => m ≤ 3 ∧ ((m.testBit 0 = true ∧ wGatedCommandsAreStagedAndEnd1d.ks.hash ≠ none) ∨ (m.testBit 1 = true ∧ wGatedCommandsAreStagedAndEnd1d.ks.pkey ≠ none)) | .lampOpen => wGatedCommandsAreStagedAndEnd1d.eng.cb 0x00A0 0 31 = true ∧ wGatedCommandsAreStagedAndEnd1d.eng.sys.lampOpen = false | .timeStep o => -(2 : Int) ^ 63 ≤ o ∧ o < (2 : Int) ^ 63 | .calCommit tables fold found => tables ≤ 63 ∧ (tables = 0 → fold = true) ∧ (∀ k ∈ tablesOf tables, found.testBit k = true ∧ ∀ p, tablePort k = some p → wGatedCommandsAreStagedAndEnd1d.eng.cfg.hasPort p = true) ∧ wGatedCommandsAreStagedAndEnd1d.eng.has 0x0020 = true ∧ wGatedCommandsAreStagedAndEnd1d.eng.raw.reload = none | .factoryReset confirm => wGatedCommandsAreStagedAndEnd1d.eng.cfg.fresetEn = true ∧ confirm = 0x54535246))) ∧
    (wGatedCommandsAreStagedAndEnd1e.takes 0 hU (Gated.lampOpen : Gated).ty ∧
    wGatedCommandsAreStagedAndEnd1e.eng.sys.phase = .running ∧
    wGatedCommandsAreStagedAndEnd1e.eng.sys.mode = .service ∧
    wGatedCommandsAreStagedAndEnd1e.eng.ctl.staged = none ∧
    ((match (Gated.lampOpen : Gated) with | .imageCommit n => n ≤ 1 ∧ decide (n = 1) ∈ wGatedCommandsAreStagedAndEnd1e.eng.ctl.complete ∧ wGatedCommandsAreStagedAndEnd1e.eng.sys.units = [] | .keyLoad kind id v check => v.length = 32 ∧ id < 2 ^ 32 ∧ wGatedCommandsAreStagedAndEnd1e.eng.sys.lampOpen = false ∧ check = (sha512 (le 4 id ++ v)).take 8 ∧ (hU.client.isEth = true → wGatedCommandsAreStagedAndEnd1e.eng.cb 0x00A0 0 29 = true) ∧ ((kind = 0 ∧ wGatedCommandsAreStagedAndEnd1e.ks.hash = none ∧ v = (sha512 (slotSigner (wGatedCommandsAreStagedAndEnd1e.eng.activeSlot wGatedCommandsAreStagedAndEnd1e.flash))).take 32) ∨ (kind = 1 ∧ id ≠ 0)) | .keyErase m => m ≤ 3 ∧ ((m.testBit 0 = true ∧ wGatedCommandsAreStagedAndEnd1e.ks.hash ≠ none) ∨ (m.testBit 1 = true ∧ wGatedCommandsAreStagedAndEnd1e.ks.pkey ≠ none)) | .lampOpen => wGatedCommandsAreStagedAndEnd1e.eng.cb 0x00A0 0 31 = true ∧ wGatedCommandsAreStagedAndEnd1e.eng.sys.lampOpen = false | .timeStep o => -(2 : Int) ^ 63 ≤ o ∧ o < (2 : Int) ^ 63 | .calCommit tables fold found => tables ≤ 63 ∧ (tables = 0 → fold = true) ∧ (∀ k ∈ tablesOf tables, found.testBit k = true ∧ ∀ p, tablePort k = some p → wGatedCommandsAreStagedAndEnd1e.eng.cfg.hasPort p = true) ∧ wGatedCommandsAreStagedAndEnd1e.eng.has 0x0020 = true ∧ wGatedCommandsAreStagedAndEnd1e.eng.raw.reload = none | .factoryReset confirm => wGatedCommandsAreStagedAndEnd1e.eng.cfg.fresetEn = true ∧ confirm = 0x54535246))) ∧
    (wGatedCommandsAreStagedAndEnd1f.takes 0 hU (Gated.timeStep (-(2 : Int) ^ 63) : Gated).ty ∧
    wGatedCommandsAreStagedAndEnd1f.eng.sys.phase = .running ∧
    wGatedCommandsAreStagedAndEnd1f.eng.sys.mode = .service ∧
    wGatedCommandsAreStagedAndEnd1f.eng.ctl.staged = none ∧
    ((match (Gated.timeStep (-(2 : Int) ^ 63) : Gated) with | .imageCommit n => n ≤ 1 ∧ decide (n = 1) ∈ wGatedCommandsAreStagedAndEnd1f.eng.ctl.complete ∧ wGatedCommandsAreStagedAndEnd1f.eng.sys.units = [] | .keyLoad kind id v check => v.length = 32 ∧ id < 2 ^ 32 ∧ wGatedCommandsAreStagedAndEnd1f.eng.sys.lampOpen = false ∧ check = (sha512 (le 4 id ++ v)).take 8 ∧ (hU.client.isEth = true → wGatedCommandsAreStagedAndEnd1f.eng.cb 0x00A0 0 29 = true) ∧ ((kind = 0 ∧ wGatedCommandsAreStagedAndEnd1f.ks.hash = none ∧ v = (sha512 (slotSigner (wGatedCommandsAreStagedAndEnd1f.eng.activeSlot wGatedCommandsAreStagedAndEnd1f.flash))).take 32) ∨ (kind = 1 ∧ id ≠ 0)) | .keyErase m => m ≤ 3 ∧ ((m.testBit 0 = true ∧ wGatedCommandsAreStagedAndEnd1f.ks.hash ≠ none) ∨ (m.testBit 1 = true ∧ wGatedCommandsAreStagedAndEnd1f.ks.pkey ≠ none)) | .lampOpen => wGatedCommandsAreStagedAndEnd1f.eng.cb 0x00A0 0 31 = true ∧ wGatedCommandsAreStagedAndEnd1f.eng.sys.lampOpen = false | .timeStep o => -(2 : Int) ^ 63 ≤ o ∧ o < (2 : Int) ^ 63 | .calCommit tables fold found => tables ≤ 63 ∧ (tables = 0 → fold = true) ∧ (∀ k ∈ tablesOf tables, found.testBit k = true ∧ ∀ p, tablePort k = some p → wGatedCommandsAreStagedAndEnd1f.eng.cfg.hasPort p = true) ∧ wGatedCommandsAreStagedAndEnd1f.eng.has 0x0020 = true ∧ wGatedCommandsAreStagedAndEnd1f.eng.raw.reload = none | .factoryReset confirm => wGatedCommandsAreStagedAndEnd1f.eng.cfg.fresetEn = true ∧ confirm = 0x54535246))) ∧
    (wGatedCommandsAreStagedAndEnd1g.takes 0 hU (Gated.calCommit 0 true 0 : Gated).ty ∧
    wGatedCommandsAreStagedAndEnd1g.eng.sys.phase = .running ∧
    wGatedCommandsAreStagedAndEnd1g.eng.sys.mode = .service ∧
    wGatedCommandsAreStagedAndEnd1g.eng.ctl.staged = none ∧
    ((match (Gated.calCommit 0 true 0 : Gated) with | .imageCommit n => n ≤ 1 ∧ decide (n = 1) ∈ wGatedCommandsAreStagedAndEnd1g.eng.ctl.complete ∧ wGatedCommandsAreStagedAndEnd1g.eng.sys.units = [] | .keyLoad kind id v check => v.length = 32 ∧ id < 2 ^ 32 ∧ wGatedCommandsAreStagedAndEnd1g.eng.sys.lampOpen = false ∧ check = (sha512 (le 4 id ++ v)).take 8 ∧ (hU.client.isEth = true → wGatedCommandsAreStagedAndEnd1g.eng.cb 0x00A0 0 29 = true) ∧ ((kind = 0 ∧ wGatedCommandsAreStagedAndEnd1g.ks.hash = none ∧ v = (sha512 (slotSigner (wGatedCommandsAreStagedAndEnd1g.eng.activeSlot wGatedCommandsAreStagedAndEnd1g.flash))).take 32) ∨ (kind = 1 ∧ id ≠ 0)) | .keyErase m => m ≤ 3 ∧ ((m.testBit 0 = true ∧ wGatedCommandsAreStagedAndEnd1g.ks.hash ≠ none) ∨ (m.testBit 1 = true ∧ wGatedCommandsAreStagedAndEnd1g.ks.pkey ≠ none)) | .lampOpen => wGatedCommandsAreStagedAndEnd1g.eng.cb 0x00A0 0 31 = true ∧ wGatedCommandsAreStagedAndEnd1g.eng.sys.lampOpen = false | .timeStep o => -(2 : Int) ^ 63 ≤ o ∧ o < (2 : Int) ^ 63 | .calCommit tables fold found => tables ≤ 63 ∧ (tables = 0 → fold = true) ∧ (∀ k ∈ tablesOf tables, found.testBit k = true ∧ ∀ p, tablePort k = some p → wGatedCommandsAreStagedAndEnd1g.eng.cfg.hasPort p = true) ∧ wGatedCommandsAreStagedAndEnd1g.eng.has 0x0020 = true ∧ wGatedCommandsAreStagedAndEnd1g.eng.raw.reload = none | .factoryReset confirm => wGatedCommandsAreStagedAndEnd1g.eng.cfg.fresetEn = true ∧ confirm = 0x54535246))) ∧
    (wGatedCommandsAreStagedAndEnd1h.takes 0 hU (Gated.factoryReset 0x54535246 : Gated).ty ∧
    wGatedCommandsAreStagedAndEnd1h.eng.sys.phase = .running ∧
    wGatedCommandsAreStagedAndEnd1h.eng.sys.mode = .service ∧
    wGatedCommandsAreStagedAndEnd1h.eng.ctl.staged = none ∧
    ((match (Gated.factoryReset 0x54535246 : Gated) with | .imageCommit n => n ≤ 1 ∧ decide (n = 1) ∈ wGatedCommandsAreStagedAndEnd1h.eng.ctl.complete ∧ wGatedCommandsAreStagedAndEnd1h.eng.sys.units = [] | .keyLoad kind id v check => v.length = 32 ∧ id < 2 ^ 32 ∧ wGatedCommandsAreStagedAndEnd1h.eng.sys.lampOpen = false ∧ check = (sha512 (le 4 id ++ v)).take 8 ∧ (hU.client.isEth = true → wGatedCommandsAreStagedAndEnd1h.eng.cb 0x00A0 0 29 = true) ∧ ((kind = 0 ∧ wGatedCommandsAreStagedAndEnd1h.ks.hash = none ∧ v = (sha512 (slotSigner (wGatedCommandsAreStagedAndEnd1h.eng.activeSlot wGatedCommandsAreStagedAndEnd1h.flash))).take 32) ∨ (kind = 1 ∧ id ≠ 0)) | .keyErase m => m ≤ 3 ∧ ((m.testBit 0 = true ∧ wGatedCommandsAreStagedAndEnd1h.ks.hash ≠ none) ∨ (m.testBit 1 = true ∧ wGatedCommandsAreStagedAndEnd1h.ks.pkey ≠ none)) | .lampOpen => wGatedCommandsAreStagedAndEnd1h.eng.cb 0x00A0 0 31 = true ∧ wGatedCommandsAreStagedAndEnd1h.eng.sys.lampOpen = false | .timeStep o => -(2 : Int) ^ 63 ≤ o ∧ o < (2 : Int) ^ 63 | .calCommit tables fold found => tables ≤ 63 ∧ (tables = 0 → fold = true) ∧ (∀ k ∈ tablesOf tables, found.testBit k = true ∧ ∀ p, tablePort k = some p → wGatedCommandsAreStagedAndEnd1h.eng.cfg.hasPort p = true) ∧ wGatedCommandsAreStagedAndEnd1h.eng.has 0x0020 = true ∧ wGatedCommandsAreStagedAndEnd1h.eng.raw.reload = none | .factoryReset confirm => wGatedCommandsAreStagedAndEnd1h.eng.cfg.fresetEn = true ∧ confirm = 0x54535246))) ∧
    (wGatedCommandsAreStagedAndEnd2.takes 0 hU 0x0702 ∧
    wGatedCommandsAreStagedAndEnd2.eng.sys.phase = .running ∧
    wGatedCommandsAreStagedAndEnd2.eng.sys.mode = .service ∧
    wGatedCommandsAreStagedAndEnd2.eng.ctl.staged = none ∧
    1 ≤ 1 ∧
    5 < 2 ^ 32 ∧
    (List.replicate 32 7 : List Byte).length = 32 ∧
    ((List.replicate 4 0 : List Byte) ++ (List.replicate 4 0 : List Byte)).length = 8 ∧
    wGatedCommandsAreStagedAndEnd2.eng.sys.lampOpen = false ∧
    ((hU.client.isEth = true → wGatedCommandsAreStagedAndEnd2.eng.cb 0x00A0 0 29 = true)) ∧
    (List.replicate 4 0 : List Byte) ++ (List.replicate 4 0 : List Byte) ≠ (sha512 (le 4 5 ++ (List.replicate 32 7 : List Byte))).take 8) ∧
    (wGatedCommandsAreStagedAndEnd3.takes 0 hU (Gated.lampOpen : Gated).ty ∧
    (Gated.lampOpen : Gated).malformed = false ∧
    wGatedCommandsAreStagedAndEnd3.eng.sys.phase = .running ∧
    ((wGatedCommandsAreStagedAndEnd3.eng.sys.mode ≠ .service ∨ wGatedCommandsAreStagedAndEnd3.eng.ctl.staged ≠ none))) ∧
    (wGatedCommandsAreStagedAndEnd3b.takes 0 hU (Gated.timeStep 5 : Gated).ty ∧
    (Gated.timeStep 5 : Gated).malformed = false ∧
    wGatedCommandsAreStagedAndEnd3b.eng.sys.phase = .running ∧
    ((wGatedCommandsAreStagedAndEnd3b.eng.sys.mode ≠ .service ∨ wGatedCommandsAreStagedAndEnd3b.eng.ctl.staged ≠ none))) ∧
    (wGatedCommandsAreStagedAndEnd4.takes 0 hU 0x0708 ∧
    wGatedCommandsAreStagedAndEnd4.eng.ctl.staged = some (waiting0 .lampOpen) ∧
    (waiting0 .lampOpen).executing = false) ∧
    (wGatedCommandsAreStagedAndEnd5.eng.sys.phase.powered = true ∧
    wGatedCommandsAreStagedAndEnd5.eng.cfg.presenceMode = 0 ∧
    wGatedCommandsAreStagedAndEnd5.eng.ctl.staged = some (waiting0 .lampOpen) ∧
    (waiting0 .lampOpen).executing = false ∧
    (waiting0 .lampOpen).at_ + secs 30 ≤ (wGatedCommandsAreStagedAndEnd5.eng.at (secs 30)).now) ∧
    (wGatedCommandsAreStagedAndEnd7.eng.pins.sealWatch = true ∧
    wGatedCommandsAreStagedAndEnd7.ks.sealFirst = none) ∧
    (wGatedCommandsAreStagedAndEnd8.eng.pins.sealWatch = true ∧
    wGatedCommandsAreStagedAndEnd8.ks.sealFirst = some 77) :=
  ⟨⟨show (wGatedCommandsAreStagedAndEnd1.eng.at 0).intake hU (Gated.imageCommit 1 : Gated).ty = Admit.go from by decide +kernel, by decide +kernel⟩,
   ⟨show (wGatedCommandsAreStagedAndEnd1b.eng.at 0).intake hU (Gated.keyLoad 0 0 ((sha512 (slotSigner [])).take 32) ((sha512 (le 4 0 ++ ((sha512 (slotSigner [])).take 32))).take 8) : Gated).ty = Admit.go from by decide +kernel, by decide +kernel, by decide +kernel, (by decide +kernel), ⟨by decide +kernel, by decide, by decide, rfl, by decide, Or.inl ⟨rfl, rfl, rfl⟩⟩⟩,
   ⟨show (wGatedCommandsAreStagedAndEnd1c.eng.at 0).intake ((MsgHdr.mk (.eth 77 5000) 3)) (Gated.keyLoad 1 5 (List.replicate 32 (0 : Byte)) ((sha512 (le 4 5 ++ (List.replicate 32 (0 : Byte)))).take 8) : Gated).ty = Admit.go from by decide +kernel, by decide +kernel, by decide +kernel, (by decide +kernel), ⟨by decide, by decide, by decide, rfl, (by decide +kernel), Or.inr ⟨rfl, by decide⟩⟩⟩,
   ⟨show (wGatedCommandsAreStagedAndEnd1d.eng.at 0).intake hU (Gated.keyErase 3 : Gated).ty = Admit.go from by decide +kernel, by decide +kernel, by decide +kernel, (by decide +kernel), ⟨by decide, Or.inr ⟨by decide, by decide⟩⟩⟩,
   ⟨show (wGatedCommandsAreStagedAndEnd1e.eng.at 0).intake hU (Gated.lampOpen : Gated).ty = Admit.go from by decide +kernel, by decide +kernel⟩,
   ⟨show (wGatedCommandsAreStagedAndEnd1f.eng.at 0).intake hU (Gated.timeStep (-(2 : Int) ^ 63) : Gated).ty = Admit.go from by decide +kernel, by decide +kernel, by decide +kernel, (by decide +kernel), by decide⟩,
   ⟨show (wGatedCommandsAreStagedAndEnd1g.eng.at 0).intake hU (Gated.calCommit 0 true 0 : Gated).ty = Admit.go from by decide +kernel, by decide +kernel, by decide +kernel, (by decide +kernel), ⟨by decide, by decide, by decide, by decide +kernel, rfl⟩⟩,
   ⟨show (wGatedCommandsAreStagedAndEnd1h.eng.at 0).intake hU (Gated.factoryReset 0x54535246 : Gated).ty = Admit.go from by decide +kernel, by decide +kernel⟩,
   ⟨show (wGatedCommandsAreStagedAndEnd2.eng.at 0).intake hU 0x0702 = Admit.go from by decide +kernel, by decide +kernel⟩,
   ⟨show (wGatedCommandsAreStagedAndEnd3.eng.at 0).intake hU (Gated.lampOpen : Gated).ty = Admit.go from by decide +kernel, by decide +kernel⟩,
   ⟨show (wGatedCommandsAreStagedAndEnd3b.eng.at 0).intake hU (Gated.timeStep 5 : Gated).ty = Admit.go from by decide +kernel, by decide +kernel⟩,
   ⟨show (wGatedCommandsAreStagedAndEnd4.eng.at 0).intake hU 0x0708 = Admit.go from by decide +kernel, by decide +kernel⟩,
   by decide +kernel,
   (by decide +kernel),
   by decide +kernel⟩

def wPresenceExecutesGatedCommands1 : State :=
  { pressing [] (.keyLoad 1 5 (List.replicate 32 (7 : Byte)) ((sha512 (le 4 5 ++ (List.replicate 32 (7 : Byte)))).take 8)) (fun e => e) with ks := { KeyStore.reset with pkeyWrites := 9999 } }

def wPresenceExecutesGatedCommands2 : State :=
  pressing [] (.keyLoad 1 5 (List.replicate 32 (7 : Byte)) ((sha512 (le 4 5 ++ (List.replicate 32 (7 : Byte)))).take 8)) (fun e => e)

def wPresenceExecutesGatedCommands3 : State :=
  { pressing [] (.keyErase 3) (fun e => e) with ks := { KeyStore.reset with pkey := some ⟨List.replicate 32 0, 5⟩, pkeyWrites := 1 } }

def wPresenceExecutesGatedCommands4 : State :=
  pressing secur0 .lampOpen (fun e => e)

def wPresenceExecutesGatedCommands5 : State :=
  pressing [] (.timeStep (-7)) (fun e => e)

def wPresenceExecutesGatedCommands6 : State :=
  pressing [] (.imageCommit 1) (fun e => { e with ctl := { e.ctl with complete := [true] } })

def wPresenceExecutesGatedCommands7 : State :=
  pressing [sw 0x20 20 []] (.calCommit 0 true 0) (fun e => e)

def wPresenceExecutesGatedCommands8 : State :=
  pressing secur0 (.factoryReset 0x54535246) (fun e => e)

def wPresenceExecutesGatedCommands9 : State :=
  live [sw 0xA1 1 [(0, [(31, 30, 1)])]] (fun e => { e with sys := { e.sys with mode := .service }, ctl := { e.ctl with staged := some { waiting0 (.timeStep 12) with at_ := ms 50 } }, pins := { e.pins with presenceHigh := false } })

def wPresenceExecutesGatedCommands10 : State :=
  live [sw 0xA1 1 [(0, [(31, 30, 1)])]] (fun e => { e with sys := { e.sys with mode := .service }, ctl := { e.ctl with staged := some { waiting0 (.timeStep 12) with at_ := ms 50 } }, pins := { e.pins with presenceHigh := true } })

def wPresenceExecutesGatedCommands11 : State :=
  live secur0 (fun e => { e with sys := { e.sys with lampOpen := true } })

/-- The hypotheses of PresenceExecutesGatedCommands can be met, clause by clause. -/
theorem witness_PresenceExecutesGatedCommands :
    (wPresenceExecutesGatedCommands1.pressed (ms 51) (waiting0 (.keyLoad 1 5 (List.replicate 32 (7 : Byte)) ((sha512 (le 4 5 ++ (List.replicate 32 (7 : Byte)))).take 8))) ∧
    (waiting0 (.keyLoad 1 5 (List.replicate 32 (7 : Byte)) ((sha512 (le 4 5 ++ (List.replicate 32 (7 : Byte)))).take 8))).cmd = .keyLoad 1 5 (List.replicate 32 7) ((sha512 (le 4 5 ++ (List.replicate 32 7))).take 8) ∧
    5 ≠ 0 ∧
    wPresenceExecutesGatedCommands1.eng.sys.lampOpen = false ∧
    (((waiting0 (.keyLoad 1 5 (List.replicate 32 (7 : Byte)) ((sha512 (le 4 5 ++ (List.replicate 32 (7 : Byte)))).take 8))).client.isEth = true → wPresenceExecutesGatedCommands1.eng.cb 0x00A0 0 29 = true)) ∧
    wPresenceExecutesGatedCommands1.ks.pkeyWrites < 10000) ∧
    (wPresenceExecutesGatedCommands2.pressed (secs 30) (waiting0 (.keyLoad 1 5 (List.replicate 32 (7 : Byte)) ((sha512 (le 4 5 ++ (List.replicate 32 (7 : Byte)))).take 8))) ∧
    (waiting0 (.keyLoad 1 5 (List.replicate 32 (7 : Byte)) ((sha512 (le 4 5 ++ (List.replicate 32 (7 : Byte)))).take 8))).cmd = .keyLoad 1 5 (List.replicate 32 7) ((sha512 (le 4 5 ++ (List.replicate 32 7))).take 8) ∧
    5 ≠ 0 ∧
    wPresenceExecutesGatedCommands2.eng.sys.lampOpen = false ∧
    (((waiting0 (.keyLoad 1 5 (List.replicate 32 (7 : Byte)) ((sha512 (le 4 5 ++ (List.replicate 32 (7 : Byte)))).take 8))).client.isEth = true → wPresenceExecutesGatedCommands2.eng.cb 0x00A0 0 29 = true)) ∧
    wPresenceExecutesGatedCommands2.ks.pkeyWrites < 10000) ∧
    (wPresenceExecutesGatedCommands3.pressed (ms 51) (waiting0 (.keyErase 3)) ∧
    (waiting0 (.keyErase 3)).cmd = .keyErase 3 ∧
    (wPresenceExecutesGatedCommands3.ks.hash ≠ none ∨ wPresenceExecutesGatedCommands3.ks.pkey ≠ none) ∧
    wPresenceExecutesGatedCommands3.ks.hashWrites < 10000 ∧
    wPresenceExecutesGatedCommands3.ks.pkeyWrites < 10000) ∧
    (wPresenceExecutesGatedCommands4.pressed (ms 51) (waiting0 .lampOpen) ∧
    (waiting0 .lampOpen).cmd = .lampOpen ∧
    wPresenceExecutesGatedCommands4.eng.cb 0x00A0 0 31 = true ∧
    wPresenceExecutesGatedCommands4.eng.sys.lampOpen = false ∧
    wPresenceExecutesGatedCommands4.ks.hashWrites < 10000 ∧
    wPresenceExecutesGatedCommands4.ks.pkeyWrites < 10000) ∧
    (wPresenceExecutesGatedCommands5.pressed (ms 51) (waiting0 (.timeStep (-7))) ∧
    (waiting0 (.timeStep (-7))).cmd = .timeStep (-7)) ∧
    (wPresenceExecutesGatedCommands6.pressed (ms 51) (waiting0 (.imageCommit 1)) ∧
    (waiting0 (.imageCommit 1)).cmd = .imageCommit 1 ∧
    decide (1 = 1) ∈ wPresenceExecutesGatedCommands6.eng.ctl.complete ∧
    wPresenceExecutesGatedCommands6.eng.sys.units = []) ∧
    (wPresenceExecutesGatedCommands7.pressed (ms 51) (waiting0 (.calCommit 0 true 0)) ∧
    (waiting0 (.calCommit 0 true 0)).cmd = .calCommit 0 true ((0 : Nat)) ∧
    ((∀ k ∈ tablesOf 0, ((0 : Nat)).testBit k = true ∧ ∀ p, tablePort k = some p → wPresenceExecutesGatedCommands7.eng.cfg.hasPort p = true)) ∧
    wPresenceExecutesGatedCommands7.eng.has 0x0020 = true ∧
    wPresenceExecutesGatedCommands7.eng.raw.reload = none) ∧
    (wPresenceExecutesGatedCommands8.pressed (ms 51) (waiting0 (.factoryReset 0x54535246)) ∧
    (waiting0 (.factoryReset 0x54535246)).cmd = .factoryReset 0x54535246 ∧
    wPresenceExecutesGatedCommands8.eng.cfg.fresetEn = true ∧
    wPresenceExecutesGatedCommands8.ks.hashWrites < 10000 ∧
    wPresenceExecutesGatedCommands8.ks.pkeyWrites < 10000 ∧
    wPresenceExecutesGatedCommands8.eng.ep.dirty = [] ∧
    wPresenceExecutesGatedCommands8.eng.sys.fatalAt = none) ∧
    (wPresenceExecutesGatedCommands9.eng.sys.phase = .running ∧
    wPresenceExecutesGatedCommands9.eng.sys.mode = .service ∧
    wPresenceExecutesGatedCommands9.eng.ctl.staged = some ({ waiting0 (.timeStep 12) with at_ := ms 50 }) ∧
    ({ waiting0 (.timeStep 12) with at_ := ms 50 }).executing = false ∧
    ({ waiting0 (.timeStep 12) with at_ := ms 50 }).cmd = .timeStep 12 ∧
    ({ waiting0 (.timeStep 12) with at_ := ms 50 }).at_ + ms 50 ≤ (wPresenceExecutesGatedCommands9.eng.at (ms 100)).now ∧
    ((wPresenceExecutesGatedCommands9.eng.cfg.presenceMode = 1 ∧ wPresenceExecutesGatedCommands9.eng.pins.presenceHigh = false ∨ wPresenceExecutesGatedCommands9.eng.cfg.presenceMode = 2 ∧ wPresenceExecutesGatedCommands9.eng.pins.presenceHigh = true)) ∧
    wPresenceExecutesGatedCommands9.eng.pins.presenceSince + ms 50 ≤ ({ waiting0 (.timeStep 12) with at_ := ms 50 }).at_) ∧
    (wPresenceExecutesGatedCommands10.eng.sys.phase = .running ∧
    wPresenceExecutesGatedCommands10.eng.sys.mode = .service ∧
    wPresenceExecutesGatedCommands10.eng.ctl.staged = some ({ waiting0 (.timeStep 12) with at_ := ms 50 }) ∧
    ({ waiting0 (.timeStep 12) with at_ := ms 50 }).executing = false ∧
    ({ waiting0 (.timeStep 12) with at_ := ms 50 }).at_ + ms 50 ≤ (wPresenceExecutesGatedCommands10.eng.at (ms 100)).now ∧
    ((wPresenceExecutesGatedCommands10.eng.cfg.presenceMode = 1 ∧ wPresenceExecutesGatedCommands10.eng.pins.presenceHigh = true ∨ wPresenceExecutesGatedCommands10.eng.cfg.presenceMode = 2 ∧ wPresenceExecutesGatedCommands10.eng.pins.presenceHigh = false ∨ wPresenceExecutesGatedCommands10.eng.cfg.presenceMode ≠ 0 ∧ ({ waiting0 (.timeStep 12) with at_ := ms 50 }).at_ < wPresenceExecutesGatedCommands10.eng.pins.presenceSince + ms 50))) ∧
    (wPresenceExecutesGatedCommands11.takes 0 hU 0x0107 ∧
    wPresenceExecutesGatedCommands11.eng.sys.lampOpen = true ∧
    (0x177F = 0xFFFF ∨ 0x177F ≤ 0x177F)) :=
  ⟨⟨by unfold State.pressed; decide +kernel, by decide +kernel⟩,
   ⟨by unfold State.pressed; decide +kernel, by decide +kernel⟩,
   ⟨by unfold State.pressed; decide +kernel, by decide +kernel⟩,
   ⟨by unfold State.pressed; decide +kernel, by decide +kernel⟩,
   ⟨by unfold State.pressed; decide +kernel, by decide +kernel⟩,
   ⟨by unfold State.pressed; decide +kernel, by decide +kernel⟩,
   ⟨by unfold State.pressed; decide +kernel, by decide +kernel, by decide, by decide +kernel⟩,
   ⟨by unfold State.pressed; decide +kernel, by decide +kernel⟩,
   by decide +kernel,
   (by decide +kernel),
   ⟨show (wPresenceExecutesGatedCommands11.eng.at 0).intake hU 0x0107 = Admit.go from by decide +kernel, by decide +kernel⟩⟩

def wUnitsRestartAlone1 : State :=
  live [] (fun e => e)

def wUnitsRestartAlone1b : State :=
  live [] (fun e => { e with sys := { e.sys with mode := .preview } })

def wUnitsRestartAlone2 : State :=
  live [] (fun e => e)

def wUnitsRestartAlone2b : State :=
  live [] (fun e => e)

def wUnitsRestartAlone3 : State :=
  live [] (fun e => unit0 0x0D07 .stopped e)

def wUnitsRestartAlone3b : State :=
  live [] (fun e => { e with sys := { e.sys with committing := true } })

def wUnitsRestartAlone4 : State :=
  live [sw 0x41 34 [(2, [(31, 31, 1), (7, 7, 1)])]] (fun e => { e with sys := { e.sys with mode := .record } })

def wUnitsRestartAlone5 : State :=
  { live [] (fun e => { unit0 0x0D00 .verifying e with cfg := mini }) with flash := ⟨33554432, slotDone 8, []⟩ }

def wUnitsRestartAlone6 : State :=
  { live [] (unit0 0x0D00 .verifying) with flash := ⟨33554432, [(4096, 0x90), (4097, 0), (4104, 1), (4105, 0), (4106, 0), (4107, 0)], []⟩ }

def wUnitsRestartAlone7 : State :=
  { live [] (unit0 0x0D07 .verified) with flash := ⟨33554432, slotDone 8, []⟩ }

def wUnitsRestartAlone8 : State :=
  { live [] (unit0 0x0205 .verified) with flash := ⟨33554432, slotDone 8, []⟩ }

def wUnitsRestartAlone9 : State :=
  live [] (unit0 0x0205 .stopped)

def wUnitsRestartAlone10 : State :=
  live [] (unit0 0x0D05 .stopped)

def wUnitsRestartAlone11 : State :=
  live [] (unit0 0x0200 .stopped)

/-- The hypotheses of UnitsRestartAlone can be met, clause by clause. -/
theorem witness_UnitsRestartAlone :
    (wUnitsRestartAlone1.takes 0 hU 0x0102 ∧
    0x0901 ≤ 65535 ∧
    unitOrdinal 0x0901 = some 22 ∧
    ((9 ≤ 0x0901 / 256 ∨ (0x0901 / 256 = 2 ∧ Mode.record ∉ wUnitsRestartAlone1.eng.modesMet))) ∧
    wUnitsRestartAlone1.eng.unitRun 0x0901 = none ∧
    wUnitsRestartAlone1.eng.sys.committing = false) ∧
    (wUnitsRestartAlone1b.takes 0 hU 0x0102 ∧
    0x0205 ≤ 65535 ∧
    unitOrdinal 0x0205 = some 9 ∧
    ((9 ≤ 0x0205 / 256 ∨ (0x0205 / 256 = 2 ∧ Mode.record ∉ wUnitsRestartAlone1b.eng.modesMet))) ∧
    wUnitsRestartAlone1b.eng.unitRun 0x0205 = none ∧
    wUnitsRestartAlone1b.eng.sys.committing = false) ∧
    (wUnitsRestartAlone2.takes 0 hU 0x0102 ∧
    0x0206 ≤ 65535 ∧
    unitOrdinal 0x0206 = none) ∧
    (wUnitsRestartAlone2b.takes 0 hU 0x0102 ∧
    0xFFFF ≤ 65535 ∧
    unitOrdinal 0xFFFF = none) ∧
    (wUnitsRestartAlone3.takes 0 hU 0x0102 ∧
    0x0D07 ≤ 65535 ∧
    unitOrdinal 0x0D07 = some 44 ∧
    ((wUnitsRestartAlone3.eng.unitRun 0x0D07 ≠ none ∨ wUnitsRestartAlone3.eng.sys.committing = true))) ∧
    (wUnitsRestartAlone3b.takes 0 hU 0x0102 ∧
    0x0D07 ≤ 65535 ∧
    unitOrdinal 0x0D07 = some 44 ∧
    ((wUnitsRestartAlone3b.eng.unitRun 0x0D07 ≠ none ∨ wUnitsRestartAlone3b.eng.sys.committing = true))) ∧
    (wUnitsRestartAlone4.takes 0 hU 0x0102 ∧
    wUnitsRestartAlone4.eng.unitRun (0x0200 + ((0 : Fin 6) : Fin 6)) = none ∧
    wUnitsRestartAlone4.eng.sys.committing = false ∧
    Mode.record ∈ wUnitsRestartAlone4.eng.modesMet ∧
    wUnitsRestartAlone4.eng.cfg.feedsProxy ((0 : Fin 6) : Fin 6) = true) ∧
    (wUnitsRestartAlone5.eng.sys.phase = .running ∧
    0x0D00 = 256 * 13 + 0 ∧
    wUnitsRestartAlone5.eng.unitRun 0x0D00 = some (UnitRun.mk 0x0D00 .verifying (some .uart) 7 0 0 false) ∧
    (UnitRun.mk 0x0D00 .verifying (some .uart) 7 0 0 false).step = .verifying ∧
    unitSlot (wUnitsRestartAlone5.eng.activeSlot wUnitsRestartAlone5.flash) 0x0D00 = some (([] : Cfg)) ∧
    ((0x0D00 / 256 ≠ 2 ∧ (wUnitsRestartAlone5.eng.cfg.takeUnit (([] : Cfg)) 0x0D00).broken = none) ∨ (0x0D00 / 256 = 2 ∧ wUnitsRestartAlone5.eng.cfg.branchKept (wUnitsRestartAlone5.eng.cfg.takeUnit (([] : Cfg)) 0x0D00) (0x0D00 % 256) = true ∧ (wUnitsRestartAlone5.eng.cfg.takeUnit (([] : Cfg)) 0x0D00).broken (fun c b k => if 0x0D00 = 0x0200 + b then wUnitsRestartAlone5.eng.storeFits c b k else c.lutFits b k) = none))) ∧
    (wUnitsRestartAlone6.eng.sys.phase = .running ∧
    0x0D00 = 256 * 13 + 0 ∧
    wUnitsRestartAlone6.eng.unitRun 0x0D00 = some (UnitRun.mk 0x0D00 .verifying (some .uart) 7 0 0 false) ∧
    (UnitRun.mk 0x0D00 .verifying (some .uart) 7 0 0 false).step = .verifying ∧
    ((unitSlot (wUnitsRestartAlone6.eng.activeSlot wUnitsRestartAlone6.flash) 0x0D00 = none ∨ ∃ slot, unitSlot (wUnitsRestartAlone6.eng.activeSlot wUnitsRestartAlone6.flash) 0x0D00 = some slot ∧ ((0x0D00 / 256 ≠ 2 ∧ (wUnitsRestartAlone6.eng.cfg.takeUnit slot 0x0D00).broken ≠ none) ∨ (0x0D00 / 256 = 2 ∧ wUnitsRestartAlone6.eng.cfg.branchKept (wUnitsRestartAlone6.eng.cfg.takeUnit slot 0x0D00) (0x0D00 % 256) = false))))) ∧
    (wUnitsRestartAlone7.eng.sys.phase = .running ∧
    wUnitsRestartAlone7.eng.unitRun (0x0D00 + ((7 : Fin 8) : Fin 8)) = some (UnitRun.mk 0x0D07 .verified (some .uart) 7 0 0 false) ∧
    (UnitRun.mk 0x0D07 .verified (some .uart) 7 0 0 false).step = .verified ∧
    unitSlot (wUnitsRestartAlone7.eng.activeSlot wUnitsRestartAlone7.flash) (0x0D00 + ((7 : Fin 8) : Fin 8)) = some (([] : Cfg))) ∧
    (wUnitsRestartAlone8.eng.sys.phase = .running ∧
    wUnitsRestartAlone8.eng.unitRun (0x0200 + ((5 : Fin 6) : Fin 6)) = some (UnitRun.mk 0x0205 .verified (some .uart) 7 0 0 false) ∧
    (UnitRun.mk 0x0205 .verified (some .uart) 7 0 0 false).step = .verified ∧
    unitSlot (wUnitsRestartAlone8.eng.activeSlot wUnitsRestartAlone8.flash) (0x0200 + ((5 : Fin 6) : Fin 6)) = some (([] : Cfg))) ∧
    (wUnitsRestartAlone9.eng.sys.phase = .running ∧
    wUnitsRestartAlone9.eng.unitRun (0x0200 + ((5 : Fin 6) : Fin 6)) = some (UnitRun.mk 0x0205 .stopped (some .uart) 7 0 0 false) ∧
    (UnitRun.mk 0x0205 .stopped (some .uart) 7 0 0 false).step = .stopped) ∧
    (wUnitsRestartAlone10.eng.sys.phase = .running ∧
    wUnitsRestartAlone10.eng.unitRun (0x0D00 + ((5 : Fin 8) : Fin 8)) = some (UnitRun.mk 0x0D05 .stopped (some .uart) 7 0 0 false) ∧
    (UnitRun.mk 0x0D05 .stopped (some .uart) 7 0 0 false).step = .stopped) ∧
    (wUnitsRestartAlone11.eng.sys.phase = .running ∧
    wUnitsRestartAlone11.eng.unitRun (0x0200 + ((0 : Fin 6) : Fin 6)) = some (UnitRun.mk 0x0200 .stopped (some .uart) 7 0 0 false) ∧
    (UnitRun.mk 0x0200 .stopped (some .uart) 7 0 0 false).step = .stopped) :=
  ⟨⟨show (wUnitsRestartAlone1.eng.at 0).intake hU 0x0102 = Admit.go from by decide +kernel, by decide +kernel⟩,
   ⟨show (wUnitsRestartAlone1b.eng.at 0).intake hU 0x0102 = Admit.go from by decide +kernel, by decide +kernel⟩,
   ⟨show (wUnitsRestartAlone2.eng.at 0).intake hU 0x0102 = Admit.go from by decide +kernel, by decide +kernel⟩,
   ⟨show (wUnitsRestartAlone2b.eng.at 0).intake hU 0x0102 = Admit.go from by decide +kernel, by decide +kernel⟩,
   ⟨show (wUnitsRestartAlone3.eng.at 0).intake hU 0x0102 = Admit.go from by decide +kernel, by decide +kernel⟩,
   ⟨show (wUnitsRestartAlone3b.eng.at 0).intake hU 0x0102 = Admit.go from by decide +kernel, by decide +kernel⟩,
   ⟨show (wUnitsRestartAlone4.eng.at 0).intake hU 0x0102 = Admit.go from by decide +kernel, by decide +kernel⟩,
   ⟨by decide +kernel, (by decide +kernel), by decide +kernel, (by decide +kernel), slotDone_unit 8 _ (by decide +kernel), Or.inl ⟨by decide, by decide +kernel⟩⟩,
   ⟨by decide +kernel, (by decide +kernel), by decide +kernel, (by decide +kernel), Or.inl (by decide +kernel)⟩,
   ⟨by decide +kernel, (by decide +kernel), by decide +kernel, slotDone_unit 8 _ (by decide +kernel)⟩,
   ⟨by decide +kernel, (by decide +kernel), by decide +kernel, slotDone_unit 8 _ (by decide +kernel)⟩,
   by decide +kernel,
   by decide +kernel,
   (by decide +kernel)⟩

def wStartUpRunsItsSteps1 : State :=
  at0 (.starting 1) [] (fun e => e)

def wStartUpRunsItsSteps2 : State :=
  at0 (.starting 2) [] (fun e => e)

def wStartUpRunsItsSteps3 : State :=
  at0 (.starting 2) [] (fun e => e)

def wStartUpRunsItsSteps4 : State :=
  at0 (.starting 2) [] (fun e => { e with sys := { e.sys with bootFailed := true } })

def wStartUpRunsItsSteps5 : State :=
  { at0 (.starting 3) [] (fun e => e) with flash := ⟨33554432, slotDone 9, slotDone 9⟩ }

def wStartUpRunsItsSteps5b : State :=
  { at0 (.starting 3) [] (fun e => e) with flash := ⟨33554432, [], slotDone 9⟩ }

def wStartUpRunsItsSteps6 : State :=
  at0 (.starting 3) [] (fun e => e)

def wStartUpRunsItsSteps7 : State :=
  at0 (.starting 4) [] (fun e => { e with clk := { e.clk with root := .locked } })

def wStartUpRunsItsSteps8 : State :=
  at0 (.starting 5) [] (fun e => e)

def wStartUpRunsItsSteps9 : State :=
  at0 (.starting 5) [] (fun e => e)

def wStartUpRunsItsSteps10 : State :=
  at0 (.starting 6) [] (fun e => e)

def wStartUpRunsItsSteps11 : State :=
  at0 (.starting 6) [] (fun e => e)

def wStartUpRunsItsSteps12 : State :=
  at0 (.starting 7) [] (fun e => { e with cfg := mini })

def wStartUpRunsItsSteps13 : State :=
  at0 (.starting 7) [] (fun e => { e with cfg := mini.map (fun x => if x.id = 0xA1 then { x with words := [mkWord [(31, 30, 2)]] } else x) })

def wStartUpRunsItsSteps14 : State :=
  at0 (.starting 7) [] (fun e => { e with cfg := mini ++ [sw 0x10 127 []], sys := { e.sys with active := some true } })

def wStartUpRunsItsSteps15 : State :=
  live [] (fun e => e)

def wStartUpRunsItsSteps16 : State :=
  live [] (fun e => { e with ep := { e.ep with dirty := [⟨1, 4096, [1, 2], false⟩] } })

def wStartUpRunsItsSteps17 : State :=
  live [] (fun e => { e with sys := { e.sys with mode := .preview } })

/-- The hypotheses of StartUpRunsItsSteps can be met, clause by clause. -/
theorem witness_StartUpRunsItsSteps :
    (wStartUpRunsItsSteps1.eng.sys.phase = .starting 1) ∧
    (wStartUpRunsItsSteps2.eng.sys.phase = .starting 2 ∧
    wStartUpRunsItsSteps2.eng.sys.bootFailed = false) ∧
    (wStartUpRunsItsSteps3.eng.sys.phase = .starting 2 ∧
    wStartUpRunsItsSteps3.eng.sys.bootFailed = false) ∧
    (wStartUpRunsItsSteps4.eng.sys.phase = .starting 2 ∧
    wStartUpRunsItsSteps4.eng.sys.bootFailed = true) ∧
    (wStartUpRunsItsSteps5.eng.sys.phase = .starting 3 ∧
    wStartUpRunsItsSteps5.eng.sys.rejected = [] ∧
    allOk = (if (false : Bool) then allOk else allOk) ∧
    (slotDone 9) = wStartUpRunsItsSteps5.flash.slot (false : Bool) ∧
    slotFault (slotDone 9) wStartUpRunsItsSteps5.ks allOk true = 0 ∧
    slotConfig (slotDone 9) = some mini ∧
    ((slotFault (wStartUpRunsItsSteps5.flash.slot (!(false : Bool))) wStartUpRunsItsSteps5.ks (if (false : Bool) then allOk else allOk) true ≠ 0 ∨ slotGeneration (wStartUpRunsItsSteps5.flash.slot (!(false : Bool))) < slotGeneration (slotDone 9) ∨ ((false : Bool) = false ∧ slotGeneration (wStartUpRunsItsSteps5.flash.slot (!(false : Bool))) = slotGeneration (slotDone 9))))) ∧
    (wStartUpRunsItsSteps5b.eng.sys.phase = .starting 3 ∧
    wStartUpRunsItsSteps5b.eng.sys.rejected = [] ∧
    allOk = (if (true : Bool) then allOk else allOk) ∧
    (slotDone 9) = wStartUpRunsItsSteps5b.flash.slot (true : Bool) ∧
    slotFault (slotDone 9) wStartUpRunsItsSteps5b.ks allOk true = 0 ∧
    slotConfig (slotDone 9) = some mini ∧
    ((slotFault (wStartUpRunsItsSteps5b.flash.slot (!(true : Bool))) wStartUpRunsItsSteps5b.ks (if (true : Bool) then allOk else allOk) true ≠ 0 ∨ slotGeneration (wStartUpRunsItsSteps5b.flash.slot (!(true : Bool))) < slotGeneration (slotDone 9) ∨ ((true : Bool) = false ∧ slotGeneration (wStartUpRunsItsSteps5b.flash.slot (!(true : Bool))) = slotGeneration (slotDone 9))))) ∧
    (wStartUpRunsItsSteps6.eng.sys.phase = .starting 3 ∧
    slotFault wStartUpRunsItsSteps6.flash.slotA wStartUpRunsItsSteps6.ks allOk true ≠ 0 ∧
    slotFault wStartUpRunsItsSteps6.flash.slotB wStartUpRunsItsSteps6.ks allOk true ≠ 0) ∧
    (wStartUpRunsItsSteps7.eng.sys.phase = .starting 4) ∧
    (wStartUpRunsItsSteps8.eng.sys.phase = .starting 5 ∧
    wStartUpRunsItsSteps8.eng.dram.retired = []) ∧
    (wStartUpRunsItsSteps9.eng.sys.phase = .starting 5 ∧
    wStartUpRunsItsSteps9.eng.dram.retired = [] ∧
    ((0 : Fin 32) : Fin 32) ≠ ((30 : Fin 32) : Fin 32) ∧
    ((0 : Fin 32) : Fin 32) ≠ ((28 : Fin 32) : Fin 32) ∧
    ((30 : Fin 32) : Fin 32) ≠ ((28 : Fin 32) : Fin 32) ∧
    ((0 : Fin 32) : Fin 32) ≠ 29 ∧
    ((0 : Fin 32) : Fin 32) ≠ 31 ∧
    ((30 : Fin 32) : Fin 32) ≠ 29 ∧
    ((30 : Fin 32) : Fin 32) ≠ 31 ∧
    ((28 : Fin 32) : Fin 32) ≠ 29 ∧
    ((28 : Fin 32) : Fin 32) ≠ 31) ∧
    (wStartUpRunsItsSteps10.eng.sys.phase = .starting 6) ∧
    (wStartUpRunsItsSteps11.eng.sys.phase = .starting 6) ∧
    (wStartUpRunsItsSteps12.eng.sys.phase = .starting 7 ∧
    wStartUpRunsItsSteps12.eng.cfg.broken = none ∧
    wStartUpRunsItsSteps12.eng.cfg.presenceMode ≠ 2) ∧
    (wStartUpRunsItsSteps13.eng.sys.phase = .starting 7 ∧
    wStartUpRunsItsSteps13.eng.cfg.broken = none ∧
    wStartUpRunsItsSteps13.eng.cfg.presenceMode = 2 ∧
    wStartUpRunsItsSteps13.eng.pins.presenceHigh = true ∧
    wStartUpRunsItsSteps13.ks.sealFirst = none) ∧
    (wStartUpRunsItsSteps14.eng.sys.phase = .starting 7 ∧
    wStartUpRunsItsSteps14.eng.cfg.broken = some (0x10, 62) ∧
    wStartUpRunsItsSteps14.eng.sys.active = some true) ∧
    (wStartUpRunsItsSteps15.takes 0 hU 0x0103 ∧
    wStartUpRunsItsSteps15.eng.sys.phase = .running ∧
    wStartUpRunsItsSteps15.eng.sys.mode = .standby ∧
    wStartUpRunsItsSteps15.eng.sys.fatalAt = none ∧
    wStartUpRunsItsSteps15.eng.ep.dirty = []) ∧
    (wStartUpRunsItsSteps16.takes 0 hU 0x0103 ∧
    wStartUpRunsItsSteps16.eng.sys.phase = .running ∧
    wStartUpRunsItsSteps16.eng.sys.mode = .standby ∧
    wStartUpRunsItsSteps16.eng.sys.fatalAt = none ∧
    (EpDirty.mk 1 4096 [1, 2] false) ∈ wStartUpRunsItsSteps16.eng.ep.dirty ∧
    (EpDirty.mk 1 4096 [1, 2] false).poison = false) ∧
    (wStartUpRunsItsSteps17.takes 0 hU 0x0103 ∧
    wStartUpRunsItsSteps17.eng.sys.mode ≠ .standby ∧
    wStartUpRunsItsSteps17.eng.sys.mode ≠ .service) :=
  ⟨by decide +kernel,
   (by decide +kernel),
   by decide +kernel,
   (by decide +kernel),
   ⟨by decide +kernel, (by decide +kernel), rfl, rfl, slotDone_fault 9 _ rfl _, slotDone_config 9, Or.inr (Or.inr ⟨rfl, rfl⟩)⟩,
   ⟨by decide +kernel, (by decide +kernel), rfl, rfl, slotDone_fault 9 _ rfl _, slotDone_config 9, Or.inl (by decide +kernel)⟩,
   by decide +kernel,
   (by decide +kernel),
   by decide +kernel,
   (by decide +kernel),
   by decide +kernel,
   (by decide +kernel),
   by decide +kernel,
   (by decide +kernel),
   by decide +kernel,
   ⟨show (wStartUpRunsItsSteps15.eng.at 0).intake hU 0x0103 = Admit.go from by decide +kernel, by decide +kernel⟩,
   ⟨show (wStartUpRunsItsSteps16.eng.at 0).intake hU 0x0103 = Admit.go from by decide +kernel, by decide +kernel⟩,
   ⟨show (wStartUpRunsItsSteps17.eng.at 0).intake hU 0x0103 = Admit.go from by decide +kernel, by decide +kernel⟩⟩

def wCoresAndLinksAreWatched1 : State :=
  live [sw 1 10 [(0, [(30, 28, 3)])]] (fun e => { e with cluster := { e.cluster with cores := vmod e.cluster.cores 3 fun q => { q with resetsAt := [5, 0], resets := 2, lastCode := 4 } } })

def wCoresAndLinksAreWatched2 : State :=
  live [] (fun e => e)

def wCoresAndLinksAreWatched3 : State :=
  live [sw 1 10 [(0, [(27, 20, 90)])]] (fun e => e)

def wCoresAndLinksAreWatched4 : State :=
  live [] (fun e => e)

def wCoresAndLinksAreWatched5 : State :=
  live [] (fun e => { e with rec_ := { e.rec_ with takes := [take0 0] } })

def wCoresAndLinksAreWatched6 : State :=
  live [] (fun e => { e with power := { e.power with t0 := some 0 }, rec_ := { e.rec_ with takes := [take0 0] } })

def wCoresAndLinksAreWatched7 : State :=
  live [] (fun e => { e with sys := { e.sys with fatalAt := some 0, restartDue := true } })

/-- The hypotheses of CoresAndLinksAreWatched can be met, clause by clause. -/
theorem witness_CoresAndLinksAreWatched :
    (wCoresAndLinksAreWatched1.eng.sys.phase.firmware = true ∧
    1 + ((vget wCoresAndLinksAreWatched1.eng.cluster.cores ((3 : Fin 4) : Fin 4) Core.reset).resetsAt.filter fun x => decide ((wCoresAndLinksAreWatched1.eng.at (secs 30)).now < x + secs 60)).length ≤ wCoresAndLinksAreWatched1.eng.cf 1 0 30 28) ∧
    (wCoresAndLinksAreWatched2.eng.sys.phase = .running ∧
    wCoresAndLinksAreWatched2.eng.cf 1 0 30 28 < 1 + ((vget wCoresAndLinksAreWatched2.eng.cluster.cores ((1 : Fin 4) : Fin 4) Core.reset).resetsAt.filter fun x => decide ((wCoresAndLinksAreWatched2.eng.at 0).now < x + secs 60)).length ∧
    wCoresAndLinksAreWatched2.eng.closing = false ∧
    wCoresAndLinksAreWatched2.eng.rec_.takes = [] ∧
    wCoresAndLinksAreWatched2.eng.ep.dirty = []) ∧
    (wCoresAndLinksAreWatched3.eng.sys.phase.firmware = true ∧
    10 * wCoresAndLinksAreWatched3.eng.cf 1 0 27 20 < ([0, 950, 900, 0] : List Nat).getD ((1 : Fin 4) : Fin 4) 0 ∧
    ((∀ j : Fin 4, j ≠ ((1 : Fin 4) : Fin 4) → ([0, 950, 900, 0] : List Nat).getD j 0 ≤ 10 * wCoresAndLinksAreWatched3.eng.cf 1 0 27 20)) ∧
    (vget wCoresAndLinksAreWatched3.eng.cluster.cores ((1 : Fin 4) : Fin 4) Core.reset).high = false) ∧
    (wCoresAndLinksAreWatched4.eng.sys.phase.firmware = true ∧
    16 ≤ 16) ∧
    (wCoresAndLinksAreWatched5.eng.sys.phase = .running ∧
    16 < 17 ∧
    wCoresAndLinksAreWatched5.eng.closing = false ∧
    wCoresAndLinksAreWatched5.eng.rec_.takes ≠ []) ∧
    (wCoresAndLinksAreWatched6.eng.sys.phase.powered = true ∧
    wCoresAndLinksAreWatched6.eng.power.t0 = some 0 ∧
    0 + ms 100 ≤ (wCoresAndLinksAreWatched6.eng.at (ms 100)).now ∧
    wCoresAndLinksAreWatched6.eng.rec_.flushStop = false ∧
    wCoresAndLinksAreWatched6.eng.sys.restartDue = false) ∧
    (wCoresAndLinksAreWatched7.eng.sys.phase = .running ∧
    wCoresAndLinksAreWatched7.eng.power.t0 = none ∧
    wCoresAndLinksAreWatched7.eng.power.trip = none ∧
    wCoresAndLinksAreWatched7.eng.sys.fatalAt = some 0 ∧
    wCoresAndLinksAreWatched7.eng.sys.restartDue = true ∧
    0 + ms 100 ≤ (wCoresAndLinksAreWatched7.eng.at (ms 100)).now ∧
    wCoresAndLinksAreWatched7.eng.rec_.flushStop = false ∧
    wCoresAndLinksAreWatched7.eng.ep.dirty = []) :=
  ⟨by decide +kernel,
   (by decide +kernel),
   by decide +kernel,
   (by decide +kernel),
   by decide +kernel,
   (by decide +kernel),
   by decide +kernel⟩

def wPowerInputsAndHoldup1 : State :=
  at0 .off [] (fun e => e)

def wPowerInputsAndHoldup1b : State :=
  at0 .off [] (fun e => e)

def wPowerInputsAndHoldup2 : State :=
  live [] (inputs0 false true fun p => { p with inUse := some 1, lost := (Vector.replicate 2 false).set 0 true })

def wPowerInputsAndHoldup3 : State :=
  live [] (inputs0 true true fun p => { p with inUse := some 0 })

def wPowerInputsAndHoldup4 : State :=
  live [] (inputs0 true true fun p => { p with inUse := some 1 })

def wPowerInputsAndHoldup4b : State :=
  live [] (inputs0 true true fun p => { p with inUse := some 0 })

def wPowerInputsAndHoldup5 : State :=
  live [] (inputs0 true false fun p => { p with inUse := some 0 })

def wPowerInputsAndHoldup6 : State :=
  live [] (inputs0 false false fun p => { p with t0 := some 0 })

def wPowerInputsAndHoldup7 : State :=
  live [] (inputs0 false false fun p => { p with t0 := some 0 })

def wPowerInputsAndHoldup8 : State :=
  live [] (inputs0 false false fun p => { p with t0 := some 0 })

def wPowerInputsAndHoldup8b : State :=
  at0 .thermalHalt [] (inputs0 false false fun p => { p with t0 := some 0 })

def wPowerInputsAndHoldup9 : State :=
  live [] (inputs0 false true fun p => { p with t0 := some 0, plate := 0 })

def wPowerInputsAndHoldup10 : State :=
  live [] (fun e => e)

def wPowerInputsAndHoldup11 : State :=
  live [] (inputs0 true true fun p => { p with holdup := { p.holdup with present := true } })

def wPowerInputsAndHoldup12 : State :=
  live [] (inputs0 true true fun p => { p with holdup := { p.holdup with present := true, idValid := true, health := some 280 } })

def wPowerInputsAndHoldup13 : State :=
  live [] (inputs0 true true fun p => { p with holdup := { p.holdup with present := true, idValid := true, charged := true, ready := true, health := some 300 } })

def wPowerInputsAndHoldup14 : State :=
  live [] (inputs0 true true fun p => { p with holdup := { p.holdup with present := true, idValid := true, charged := true, ready := true, health := some 300 } })

def wPowerInputsAndHoldup15 : State :=
  live [] (fun e => { e with sys := { e.sys with mode := .record } })

def wPowerInputsAndHoldup16 : State :=
  live [] (inputs0 true true fun p => { p with holdup := { p.holdup with present := true, idValid := true, charged := true, ready := true } })

/-- The hypotheses of PowerInputsAndHoldup can be met, clause by clause. -/
theorem witness_PowerInputsAndHoldup :
    (wPowerInputsAndHoldup1.eng.sys.phase = .off ∧
    vget wPowerInputsAndHoldup1.eng.power.qualified ((1 : Fin 2) : Fin 2) false = false) ∧
    (wPowerInputsAndHoldup1b.eng.sys.phase = .off ∧
    vget wPowerInputsAndHoldup1b.eng.power.qualified ((0 : Fin 2) : Fin 2) false = false) ∧
    (wPowerInputsAndHoldup2.eng.sys.phase = .running ∧
    vget wPowerInputsAndHoldup2.eng.power.qualified 0 false = false ∧
    wPowerInputsAndHoldup2.eng.power.inUse = some 1 ∧
    wPowerInputsAndHoldup2.eng.power.t0 = none ∧
    vget wPowerInputsAndHoldup2.eng.power.lost 0 false = true) ∧
    (wPowerInputsAndHoldup3.eng.sys.phase.powered = true ∧
    wPowerInputsAndHoldup3.eng.power.inUse = some 0) ∧
    (wPowerInputsAndHoldup4.eng.sys.phase.powered = true ∧
    vget wPowerInputsAndHoldup4.eng.power.qualified ((1 : Fin 2) : Fin 2) false = true ∧
    vget wPowerInputsAndHoldup4.eng.power.qualified (1 - ((1 : Fin 2) : Fin 2).val) false = true ∧
    wPowerInputsAndHoldup4.eng.power.inUse = some ((1 : Fin 2) : Fin 2).val) ∧
    (wPowerInputsAndHoldup4b.eng.sys.phase.powered = true ∧
    vget wPowerInputsAndHoldup4b.eng.power.qualified ((0 : Fin 2) : Fin 2) false = true ∧
    vget wPowerInputsAndHoldup4b.eng.power.qualified (1 - ((0 : Fin 2) : Fin 2).val) false = true ∧
    wPowerInputsAndHoldup4b.eng.power.inUse = some ((0 : Fin 2) : Fin 2).val) ∧
    (wPowerInputsAndHoldup5.eng.sys.phase.powered = true ∧
    vget wPowerInputsAndHoldup5.eng.power.qualified ((0 : Fin 2) : Fin 2) false = true ∧
    vget wPowerInputsAndHoldup5.eng.power.qualified (1 - ((0 : Fin 2) : Fin 2).val) false = false ∧
    wPowerInputsAndHoldup5.eng.power.inUse = some ((0 : Fin 2) : Fin 2).val) ∧
    (wPowerInputsAndHoldup6.eng.sys.phase = .running ∧
    wPowerInputsAndHoldup6.eng.power.t0 = some 0 ∧
    0 + ms 150 ≤ (wPowerInputsAndHoldup6.eng.at (ms 150)).now) ∧
    (wPowerInputsAndHoldup7.eng.sys.phase.powered = true ∧
    wPowerInputsAndHoldup7.eng.power.t0 = some 0 ∧
    0 + ms 200 ≤ (wPowerInputsAndHoldup7.eng.at (ms 200)).now) ∧
    (wPowerInputsAndHoldup8.eng.power.t0 = some 0 ∧
    (0 + ms 210 ≤ (wPowerInputsAndHoldup8.eng.at (ms 210)).now ∨ 0 + ms 10 ≤ (wPowerInputsAndHoldup8.eng.at (ms 210)).now ∧ (0 < wPowerInputsAndHoldup8.eng.sys.step8At ∨ wPowerInputsAndHoldup8.eng.sys.phase = .thermalHalt)) ∧
    ((∀ j : Fin 2, vget wPowerInputsAndHoldup8.eng.power.qualified j false = false))) ∧
    (wPowerInputsAndHoldup8b.eng.power.t0 = some 0 ∧
    (0 + ms 210 ≤ (wPowerInputsAndHoldup8b.eng.at (ms 10)).now ∨ 0 + ms 10 ≤ (wPowerInputsAndHoldup8b.eng.at (ms 10)).now ∧ (0 < wPowerInputsAndHoldup8b.eng.sys.step8At ∨ wPowerInputsAndHoldup8b.eng.sys.phase = .thermalHalt)) ∧
    ((∀ j : Fin 2, vget wPowerInputsAndHoldup8b.eng.power.qualified j false = false))) ∧
    (wPowerInputsAndHoldup9.eng.power.t0 = some 0 ∧
    0 + ms 210 ≤ (wPowerInputsAndHoldup9.eng.at (ms 210)).now ∧
    vget wPowerInputsAndHoldup9.eng.power.qualified ((1 : Fin 2) : Fin 2) false = true ∧
    wPowerInputsAndHoldup9.eng.modId.lowerLimit ≤ wPowerInputsAndHoldup9.eng.power.plate) ∧
    (wPowerInputsAndHoldup10.eng.power.holdup.present = false) ∧
    (wPowerInputsAndHoldup11.eng.sys.phase.powered = true ∧
    wPowerInputsAndHoldup11.eng.power.holdup.present = true) ∧
    (wPowerInputsAndHoldup12.eng.sys.phase.powered = true ∧
    wPowerInputsAndHoldup12.eng.power.holdup.present = true ∧
    wPowerInputsAndHoldup12.eng.power.holdup.idValid = true ∧
    wPowerInputsAndHoldup12.eng.power.holdup.fault = false ∧
    wPowerInputsAndHoldup12.eng.power.holdup.health = some 280 ∧
    280 ≤ 280 ∧
    wPowerInputsAndHoldup12.eng.power.holdup.ready = false) ∧
    (wPowerInputsAndHoldup13.eng.sys.phase = .running ∧
    wPowerInputsAndHoldup13.eng.sys.mode ≠ .record ∧
    wPowerInputsAndHoldup13.eng.power.t0 = none ∧
    wPowerInputsAndHoldup13.eng.power.holdup.due (wPowerInputsAndHoldup13.eng.at 0).now = true ∧
    wPowerInputsAndHoldup13.eng.power.holdup.idValid = true ∧
    wPowerInputsAndHoldup13.eng.power.holdup.fault = false ∧
    wPowerInputsAndHoldup13.eng.power.holdup.ready = true ∧
    280 ≤ 280) ∧
    (wPowerInputsAndHoldup14.eng.sys.phase = .running ∧
    wPowerInputsAndHoldup14.eng.sys.mode ≠ .record ∧
    wPowerInputsAndHoldup14.eng.power.t0 = none ∧
    wPowerInputsAndHoldup14.eng.power.holdup.due (wPowerInputsAndHoldup14.eng.at 0).now = true ∧
    279 < 280) ∧
    (wPowerInputsAndHoldup15.eng.sys.phase = .running ∧
    ((wPowerInputsAndHoldup15.eng.sys.mode = .record ∨ wPowerInputsAndHoldup15.eng.power.t0.isSome = true ∨ wPowerInputsAndHoldup15.eng.power.holdup.due (wPowerInputsAndHoldup15.eng.at 0).now = false))) ∧
    (wPowerInputsAndHoldup16.eng.sys.phase.powered = true ∧
    wPowerInputsAndHoldup16.eng.power.holdup.present = true) :=
  ⟨by decide +kernel,
   (by decide +kernel),
   by decide +kernel,
   (by decide +kernel),
   by decide +kernel,
   (by decide +kernel),
   by decide +kernel,
   (by decide +kernel),
   by decide +kernel,
   ⟨by decide +kernel, Or.inl (by decide), by decide +kernel⟩,
   ⟨by decide +kernel, Or.inr (by decide +kernel), by decide +kernel⟩,
   by decide +kernel,
   by decide +kernel,
   (by decide +kernel),
   by decide +kernel,
   (by decide +kernel),
   by decide +kernel,
   (by decide +kernel),
   by decide +kernel⟩

def wHeatAndBankVoltages1 : State :=
  live [] (fun e => e)

def wHeatAndBankVoltages1b : State :=
  live [] (inputs0 true true fun p => { p with hot := true })

def wHeatAndBankVoltages2 : State :=
  live [] (fun e => e)

def wHeatAndBankVoltages3 : State :=
  live [] (inputs0 true true fun p => { p with hot := true })

def wHeatAndBankVoltages3b : State :=
  live [] (fun e => e)

def wHeatAndBankVoltages4 : State :=
  live [] (inputs0 true true fun p => { p with hot := true })

def wHeatAndBankVoltages5 : State :=
  live [] (fun e => e)

def wHeatAndBankVoltages5b : State :=
  live [] (fun e => e)

def wHeatAndBankVoltages6 : State :=
  live [] (inputs0 false false fun p => { p with t0 := some 0 })

def wHeatAndBankVoltages7 : State :=
  live [] (inputs0 true true fun p => { p with trip := some 0 })

def wHeatAndBankVoltages8 : State :=
  at0 .thermalHalt [] (inputs0 true true fun p => { p with trip := some 0 })

def wHeatAndBankVoltages8b : State :=
  at0 .thermalHalt [] (inputs0 true true fun p => { p with trip := some 0, coldTrip := true })

def wHeatAndBankVoltages9 : State :=
  at0 .thermalHalt [] (inputs0 true true fun p => { p with trip := some 0 })

def wHeatAndBankVoltages10 : State :=
  at0 .coldHold [] (inputs0 true true fun p => { p with plate := -5 })

def wHeatAndBankVoltages11 : State :=
  at0 .off [] (fun e => e)

/-- The hypotheses of HeatAndBankVoltages can be met, clause by clause. -/
theorem witness_HeatAndBankVoltages :
    (wHeatAndBankVoltages1.eng.sys.phase = .running ∧
    (550 < 551 ∨ 1050 < 900) ∧
    wHeatAndBankVoltages1.eng.modId.lowerLimit ≤ 551 ∧
    (wHeatAndBankVoltages1.eng.power.hot = false ∨ wHeatAndBankVoltages1.eng.power.hotAt + secs 60 ≤ (wHeatAndBankVoltages1.eng.at 0).now)) ∧
    (wHeatAndBankVoltages1b.eng.sys.phase = .running ∧
    (550 < 0 ∨ 1050 < 1051) ∧
    wHeatAndBankVoltages1b.eng.modId.lowerLimit ≤ 0 ∧
    (wHeatAndBankVoltages1b.eng.power.hot = false ∨ wHeatAndBankVoltages1b.eng.power.hotAt + secs 60 ≤ (wHeatAndBankVoltages1b.eng.at (secs 60)).now)) ∧
    (wHeatAndBankVoltages2.eng.sys.phase = .running ∧
    (-1) < wHeatAndBankVoltages2.eng.modId.lowerLimit ∧
    1050 ≤ 1050 ∧
    (wHeatAndBankVoltages2.eng.power.cold = false ∨ wHeatAndBankVoltages2.eng.power.coldAt + secs 60 ≤ (wHeatAndBankVoltages2.eng.at 0).now)) ∧
    (wHeatAndBankVoltages3.eng.sys.phase = .running ∧
    ((550 < 600 ∨ 1050 < 900 → wHeatAndBankVoltages3.eng.power.hot = true ∧ (wHeatAndBankVoltages3.eng.at (secs 59)).now < wHeatAndBankVoltages3.eng.power.hotAt + secs 60)) ∧
    ((600 < wHeatAndBankVoltages3.eng.modId.lowerLimit → wHeatAndBankVoltages3.eng.power.cold = true ∧ (wHeatAndBankVoltages3.eng.at (secs 59)).now < wHeatAndBankVoltages3.eng.power.coldAt + secs 60))) ∧
    (wHeatAndBankVoltages3b.eng.sys.phase = .running ∧
    ((550 < 200 ∨ 1050 < 900 → wHeatAndBankVoltages3b.eng.power.hot = true ∧ (wHeatAndBankVoltages3b.eng.at 0).now < wHeatAndBankVoltages3b.eng.power.hotAt + secs 60)) ∧
    ((200 < wHeatAndBankVoltages3b.eng.modId.lowerLimit → wHeatAndBankVoltages3b.eng.power.cold = true ∧ (wHeatAndBankVoltages3b.eng.at 0).now < wHeatAndBankVoltages3b.eng.power.coldAt + secs 60))) ∧
    (wHeatAndBankVoltages4.eng.sys.phase = .running) ∧
    (wHeatAndBankVoltages5.eng.sys.phase = .running ∧
    wHeatAndBankVoltages5.eng.power.t0 = none ∧
    wHeatAndBankVoltages5.eng.power.trip = none ∧
    (wHeatAndBankVoltages5.eng.modId.deratedLimit < 651 ∨ 1150 ≤ 900 ∨ 651 < wHeatAndBankVoltages5.eng.modId.lowerLimit - 100)) ∧
    (wHeatAndBankVoltages5b.eng.sys.phase = .running ∧
    wHeatAndBankVoltages5b.eng.power.t0 = none ∧
    wHeatAndBankVoltages5b.eng.power.trip = none ∧
    (wHeatAndBankVoltages5b.eng.modId.deratedLimit < (-101) ∨ 1150 ≤ 900 ∨ (-101) < wHeatAndBankVoltages5b.eng.modId.lowerLimit - 100)) ∧
    (wHeatAndBankVoltages6.eng.sys.phase = .running ∧
    wHeatAndBankVoltages6.eng.power.t0.isSome = true) ∧
    (wHeatAndBankVoltages7.eng.sys.phase = .running ∧
    wHeatAndBankVoltages7.eng.power.t0 = none ∧
    wHeatAndBankVoltages7.eng.power.trip = some 0 ∧
    0 + ms 150 ≤ (wHeatAndBankVoltages7.eng.at (ms 150)).now) ∧
    (wHeatAndBankVoltages8.eng.sys.phase = .thermalHalt ∧
    wHeatAndBankVoltages8.eng.power.t0 = none ∧
    (if wHeatAndBankVoltages8.eng.power.coldTrip then wHeatAndBankVoltages8.eng.modId.lowerLimit ≤ 550 else 550 ≤ wHeatAndBankVoltages8.eng.modId.deratedLimit - 100 ∧ 850 ≤ 850)) ∧
    (wHeatAndBankVoltages8b.eng.sys.phase = .thermalHalt ∧
    wHeatAndBankVoltages8b.eng.power.t0 = none ∧
    (if wHeatAndBankVoltages8b.eng.power.coldTrip then wHeatAndBankVoltages8b.eng.modId.lowerLimit ≤ 0 else 0 ≤ wHeatAndBankVoltages8b.eng.modId.deratedLimit - 100 ∧ 850 ≤ 850)) ∧
    (wHeatAndBankVoltages9.eng.sys.phase = .thermalHalt ∧
    wHeatAndBankVoltages9.eng.power.coldTrip = false ∧
    ((wHeatAndBankVoltages9.eng.modId.deratedLimit - 100 < 551 ∨ 850 < 850))) ∧
    (wHeatAndBankVoltages10.eng.sys.phase = .coldHold ∧
    wHeatAndBankVoltages10.eng.power.t0 = none ∧
    wHeatAndBankVoltages10.eng.modId.lowerLimit ≤ 0) :=
  ⟨by decide +kernel,
   (by decide +kernel),
   by decide +kernel,
   (by decide +kernel),
   by decide +kernel,
   (by decide +kernel),
   by decide +kernel,
   (by decide +kernel),
   by decide +kernel,
   (by decide +kernel),
   by decide +kernel,
   (by decide +kernel),
   by decide +kernel,
   (by decide +kernel)⟩

def wPermanent : State :=
  { at0 (.starting 2) [] (fun e => { e with sys := { e.sys with bootFailed := true } }) with pending := [.bootRetry 5 true] }

/-- The hypotheses of PermanentStateKeptByEveryStep can be met. -/
theorem witness_PermanentStateKeptByEveryStep : ∃ s', wPermanent.keepsRules ∧ step wPermanent = .next s' :=
  ⟨_, by unfold State.keepsRules; decide +kernel, rfl⟩

end Sys2Proof.Tests
end

section
/-! The queries and small requests of the control transports (O5), and the block at reset (O59). -/

namespace Sys2Proof.Machine

/-! Requests: the completion of one that reads flash and key store, and the frame of a request. -/

/-- A request whose rules read the flash and the key store has, once admitted, its body's effect. -/
theorem Does.of_requestWith {i : Instr} {t : Nat} {s : State} {P : Engine → Engine → Prop} (h : MsgHdr) (ty : Nat)
    (body : Flash → KeyStore → Engine → Engine)
    (hx : exec i s = s.runWith t fun f ks e => e.request h ty (body f ks)) (hg : s.takes t h ty)
    (hp : P (s.eng.at t) (body s.flash s.ks ((s.eng.at t).received h ty))) : Does i t s P :=
  ⟨_, hx, by dsimp only; rw [Engine.request_go _ _ _ _ hg]; exact hp⟩

/-- The frame of a request's body is the frame of the whole request: hearing the client changes no other part. -/
theorem Engine.received_then_only {a b : Engine} (h : MsgHdr) (ty : Nat)
    (hb : Engine.changesOnly [.ctl, .ep, .counters] (a.received h ty) b) :
    Engine.changesOnly [.ctl, .ep, .counters] a b :=
  Engine.changesOnly_trans (Engine.changesOnly_mono (a.received_only h ty) (by decide)) hb

theorem Engine.setCounters_only (e : Engine) (l : List CtrCell) :
    Engine.changesOnly [.counters] e { e with counters := l } := by
  intro p hp
  cases p with
  | counters => exact absurd (by decide) hp
  | _ => rfl

/-! SUBSCRIBE (R463). -/

/-- SUBSCRIBE by the UART with operands in range and a MASK that is not empty is accepted: only Ethernet clients are limited. -/
theorem Engine.subscribe_uart (e : Engine) {h : MsgHdr} {mask sev : Nat} (hu : h.client = .uart) (hs : sev ≤ 4)
    (h0 : 0 < mask) (hm : mask < 2 ^ 32) :
    e.subscribe h mask sev =
      (e.putClient { e.clientD h.client with sub := some (mask, sev), nseq := 0, queue := [] }).ok h 0x0106 := by
  have range : (decide (4 < sev) || decide (2 ^ 32 ≤ mask)) = false := by
    simp only [Bool.or_eq_false_iff, decide_eq_false_iff_not]; omega
  have mask0 : mask ≠ 0 := by omega
  rw [Engine.subscribe, range, if_neg Bool.false_ne_true]
  simp [mask0, hu, Client.isEth]

/-- What was put for a client as its subscription is its subscription once the request is answered. -/
theorem Engine.sub_ok_putClient (e : Engine) (h : MsgHdr) (ty : Nat) (x : ClientState) (hx : x.client = h.client) :
    (((e.putClient x).ok h ty).clientD h.client).sub = x.sub := by
  rw [Engine.ok, Engine.reply_sub _ _ _ _ _ _ (by decide), Engine.clientD_putClient _ _ _ hx]

/-! CLEAR_COUNTERS and COUNTERS (R8, R539). -/

theorem Engine.clearCounters_inRange (e : Engine) (h : MsgHdr) {source : Nat} (hs : source ≤ 0xFFFF) :
    e.clearCounters h source =
      ({ e with counters := if source = 0xFFFF then [] else e.counters.filter (·.src ≠ source) } : Engine).ok h 0x0104 := by
  rw [Engine.clearCounters, if_neg (by omega)]

theorem Engine.clearCounters_only (e : Engine) (h : MsgHdr) {source : Nat} (hs : source ≤ 0xFFFF) :
    Engine.changesOnly [.ctl, .ep, .counters] e (e.clearCounters h source) := by
  rw [e.clearCounters_inRange h hs]
  exact Engine.changesOnly_trans (Engine.changesOnly_mono (e.setCounters_only _) (by decide)) (Engine.ok_only _ _ _)

theorem Engine.countersRead_inRange (e : Engine) (h : MsgHdr) {source : Nat} (hs : source ≤ 0xFFFF) :
    e.countersRead h source = e.reply h 0x0402 .ok .none
      (le 4 (e.counterValues source).length ++ (e.counterValues source).flatMap (le 4)) := by
  rw [Engine.countersRead, if_neg (by omega)]

/-- The values of a source are read from the counters alone. -/
theorem Engine.counterValues_congr {a b : Engine} (hc : a.counters = b.counters) (source : Nat) :
    a.counterValues source = b.counterValues source := by
  have ctr (c : Ctr) (i : Nat) : a.ctr c source i = b.ctr c source i := by rw [Engine.ctr, Engine.ctr, hc]
  simp only [Engine.counterValues, ctr, funext (ctr .fwOverrun)]

/-! LOG_READ (R498) and STATUS (R468). -/

theorem Engine.logRead_inRange (e : Engine) (h : MsgHdr) {from_ n first : Nat} {rs : List EventRec} (h0 : 0 < n)
    (hn : n ≤ 2045) (hf : from_ < 2 ^ 64) (hfirst : first = min e.log.nextSeq (max from_ e.log.oldest))
    (hrs : rs = (e.log.ring.drop (first - e.log.oldest)).take n) :
    e.logRead h from_ n = e.reply h 0x0403 .ok .none
      (le 8 (first + rs.length) ++ le 2 rs.length ++ List.replicate 6 0 ++ rs.flatMap EventRec.bytes) := by
  rw [Engine.logRead, if_neg (by omega), hrs, hfirst]
  rfl

theorem Engine.statusRead_running (e : Engine) (h : MsgHdr) {sect : Nat} {f : Flash} {ks : KeyStore} {ws : List Word}
    (hp : e.sys.phase = .running) (hs : sect ≤ 0xFFFF) (hw : e.stsBlock f ks sect = some ws) :
    e.statusRead h sect f ks = e.reply h 0x0401 .ok .none (le 4 ws.length ++ ws.flatMap fun w => le 4 w.toNat) := by
  rw [Engine.statusRead, if_neg (by omega), if_neg (by simp [hp, Phase.sysOnly]), hw]

/-! What each of these requests completes with, once it reaches its rules. -/

section
variable {t : Nat} {h : MsgHdr} {s : State}

theorem does_subscribe_uart {mask sev : Nat} (hg : s.takes t h 0x0106) (hu : h.client = .uart) (hs : sev ≤ 4)
    (h0 : 0 < mask) (hm : mask < 2 ^ 32) :
    Does (.subscribe t h mask sev) t s fun a b => b.replied h 0x0106 .ok .none [] ∧
      (b.clientD h.client).sub = some (mask, sev) ∧ Engine.changesOnly [.ctl, .ep, .counters] a b := by
  refine Does.of_request h 0x0106 (·.subscribe h mask sev) rfl hg ?_
  rw [Engine.subscribe_uart _ hu hs h0 hm]
  refine ⟨Engine.replied_ok _ _ _, Engine.sub_ok_putClient _ _ _ _ (Engine.clientD_client _ _),
    Engine.received_then_only h 0x0106 ?_⟩
  exact Engine.changesOnly_trans (Engine.changesOnly_mono (Engine.putClient_only _ _) (by decide)) (Engine.ok_only _ _ _)

theorem does_clearCounters {source : Nat} (hg : s.takes t h 0x0104) (hs : source ≤ 0xFFFF) :
    Does (.clearCounters t h source) t s fun a b => b.replied h 0x0104 .ok .none [] ∧
      b.counters = (if source = 0xFFFF then [] else a.counters.filter (·.src ≠ source)) ∧
      Engine.changesOnly [.ctl, .ep, .counters] a b := by
  refine Does.of_request h 0x0104 (·.clearCounters h source) rfl hg
    ⟨?_, ?_, Engine.received_then_only h 0x0104 (Engine.clearCounters_only _ h hs)⟩
  · rw [Engine.clearCounters_inRange _ h hs]
    exact Engine.replied_ok _ _ _
  · rw [Engine.clearCounters_inRange _ h hs, Engine.ok_counters, Engine.received_counters]

theorem does_counters {source : Nat} (hg : s.takes t h 0x0402) (hs : source ≤ 0xFFFF) :
    Does (.counters t h source) t s fun a b =>
      b.replied h 0x0402 .ok .none
        (le 4 (a.counterValues source).length ++ (a.counterValues source).flatMap (le 4)) ∧
      Engine.changesOnly [.ctl, .ep, .counters] a b := by
  refine Does.of_request h 0x0402 (·.countersRead h source) rfl hg ?_
  rw [Engine.countersRead_inRange _ h hs, Engine.counterValues_congr (Engine.received_counters _ _ _)]
  exact ⟨Engine.replied_reply _ _ _ _ _ _, Engine.received_then_only h 0x0402 (Engine.reply_only _ _ _ _ _ _)⟩

theorem does_logRead {from_ n : Nat} (hg : s.takes t h 0x0403) (h0 : 0 < n) (hn : n ≤ 2045) (hf : from_ < 2 ^ 64) :
    Does (.logRead t h from_ n) t s fun a b =>
      (∃ first rs, first = min a.log.nextSeq (max from_ (a.log.nextSeq - a.log.ring.length)) ∧
        rs = (a.log.ring.drop (first - (a.log.nextSeq - a.log.ring.length))).take n ∧
        b.replied h 0x0403 .ok .none
          (le 8 (first + rs.length) ++ le 2 rs.length ++ List.replicate 6 0 ++ rs.flatMap EventRec.bytes)) ∧
      Engine.changesOnly [.ctl, .ep, .counters] a b := by
  refine Does.of_request h 0x0403 (·.logRead h from_ n) rfl hg ?_
  have log := Engine.received_log (s.eng.at t) h 0x0403
  rw [Engine.logRead_inRange _ h h0 hn hf rfl rfl, log]
  exact ⟨⟨_, _, rfl, rfl, Engine.replied_reply _ _ _ _ _ _⟩,
    Engine.received_then_only h 0x0403 (Engine.reply_only _ _ _ _ _ _)⟩

theorem does_status {sect : Nat} {ws : List Word} (hg : s.takes t h 0x0401) (hp : s.eng.sys.phase = .running)
    (hs : sect ≤ 0xFFFF) (hw : ((s.eng.at t).received h 0x0401).stsBlock s.flash s.ks sect = some ws) :
    Does (.status t h sect) t s fun a b =>
      b.replied h 0x0401 .ok .none (le 4 ws.length ++ ws.flatMap fun w => le 4 w.toNat) ∧
      Engine.changesOnly [.ctl, .ep, .counters] a b := by
  refine Does.of_requestWith h 0x0401 (fun f ks e => e.statusRead h sect f ks) rfl hg ?_
  have running : ((s.eng.at t).received h 0x0401).sys.phase = .running := by simpa using hp
  rw [Engine.statusRead_running _ h running hs hw]
  exact ⟨Engine.replied_reply _ _ _ _ _ _, Engine.received_then_only h 0x0401 (Engine.reply_only _ _ _ _ _ _)⟩

end

/-- Settles O5: each request, once admitted, is the equation of its rules with operands in range. -/
theorem controlQueriesComplete : Obligations.ControlQueriesComplete := by
  unfold Obligations.ControlQueriesComplete
  refine ⟨fun _ _ _ _ _ => does_subscribe_uart, fun t h source s hg hs => ?one, fun t h s hg => ?all,
    fun _ _ _ _ => does_counters, fun _ _ _ _ _ => does_logRead, fun _ _ _ _ _ => does_status⟩
  case one => simpa only [if_neg (Nat.ne_of_lt hs)] using does_clearCounters hg (Nat.le_of_lt hs)
  case all => simpa only [if_true] using does_clearCounters hg (Nat.le_refl 0xFFFF)

/-! The block at reset. -/

/-- Before anything counts, every counter reads 0 (R8). -/
theorem Engine.reset_ctr (c : Ctr) (src i : Nat) : Engine.reset.ctr c src i = 0 := rfl

/-- Every LAMP pin is low at reset: a probe is selected on none. -/
theorem Sys.reset_lampPins (p : Fin 16) : vget Sys.reset.lampPins p none = none := by
  simp [vget, Sys.reset]

/-- The blank flash and the empty key store keep the rules of the permanent state (R435, R478, R484). -/
theorem State.reset_keepsRules : State.reset.keepsRules := by
  have size : Flash.reset.slotBytes ≤ 268435456 := by decide
  exact ⟨rfl, rfl, size, Nat.zero_le _, Nat.zero_le _, fun _ => rfl, fun _ => rfl, rfl⟩

/-- Settles O59: each part of the reset state as it is written, and the rules of the permanent state. -/
theorem resetIsThePoweredOffBlock : Obligations.ResetIsThePoweredOffBlock :=
  ⟨rfl, rfl, rfl, Engine.reset_ctr, rfl, rfl, rfl, Sys.reset_lampPins, rfl, rfl, rfl, rfl, rfl, State.reset_keepsRules⟩

end Sys2Proof.Machine
end

section
/-! Frames of the plain updates and of the operations that several commands share: which parts of the engine each changes. -/

namespace Sys2Proof.Machine
set_option Elab.async false

/-! A numbered unit after a change of one of them. -/

theorem vget_vmod_same {α : Type} {n : Nat} (v : Vector α n) {i : Nat} (h : i < n) (f : α → α) (d : α) :
    vget (vmod v i f) i d = f (vget v i d) := by
  simp [vget, vmod, h]

theorem vget_vmod_ne {α : Type} {n : Nat} (v : Vector α n) {i j : Nat} (h : i ≠ j) (f : α → α) (d : α) :
    vget (vmod v i f) j d = vget v j d := by
  unfold vget vmod
  split
  · split
    · rw [Vector.getElem_set_ne _ _ h]
    · rfl
  · rfl

/-- What every change keeps of a unit, a change of one unit keeps of each. -/
theorem vget_vmod_keeps {α β : Type} {n : Nat} (g : α → β) (v : Vector α n) (i j : Nat) (f : α → α) (d : α)
    (h : ∀ x, g (f x) = g x) : g (vget (vmod v i f) j d) = g (vget v j d) := by
  by_cases hij : i = j
  · subst hij
    by_cases hi : i < n
    · rw [vget_vmod_same v hi, h]
    · rw [vmod, dif_neg hi]
  · rw [vget_vmod_ne v hij]

theorem vget_map {α : Type} {n : Nat} (v : Vector α n) {i : Nat} (h : i < n) (f : α → α) (d : α) :
    vget (v.map f) i d = f (vget v i d) := by
  simp [vget, h]

/-! Changes one after the other, and within wider lists. -/

/-- Two changes one after the other stay within the parts of both. -/
theorem Engine.changesOnly.andThen {ps qs : List Part} {a b c : Engine} (h : Engine.changesOnly ps a b)
    (h' : Engine.changesOnly qs b c) : Engine.changesOnly (ps ++ qs) a c :=
  Engine.changesOnly_trans (Engine.changesOnly_mono h fun _ => List.mem_append_left _)
    (Engine.changesOnly_mono h' fun _ => List.mem_append_right _)

/-- A change stays within any wider list of parts. -/
theorem Engine.changesOnly.within {ps qs : List Part} {a b : Engine} (h : Engine.changesOnly ps a b)
    (hs : ∀ p ∈ ps, p ∈ qs := by decide) : Engine.changesOnly qs a b := Engine.changesOnly_mono h hs

/-! A part outside the list reads as before. -/

section
variable {ps : List Part} {a b : Engine} (h : Engine.changesOnly ps a b)
include h

theorem Engine.changesOnly.now_eq (out : decide (Part.now ∈ ps) = false := by rfl) : b.now = a.now :=
  (Engine.changesOnly_get h .now out).symm
theorem Engine.changesOnly.cfg_eq (out : decide (Part.cfg ∈ ps) = false := by rfl) : b.cfg = a.cfg :=
  (Engine.changesOnly_get h .cfg out).symm
theorem Engine.changesOnly.counters_eq (out : decide (Part.counters ∈ ps) = false := by rfl) : b.counters = a.counters :=
  (Engine.changesOnly_get h .counters out).symm
theorem Engine.changesOnly.log_eq (out : decide (Part.log ∈ ps) = false := by rfl) : b.log = a.log :=
  (Engine.changesOnly_get h .log out).symm
theorem Engine.changesOnly.ctl_eq (out : decide (Part.ctl ∈ ps) = false := by rfl) : b.ctl = a.ctl :=
  (Engine.changesOnly_get h .ctl out).symm
theorem Engine.changesOnly.sys_eq (out : decide (Part.sys ∈ ps) = false := by rfl) : b.sys = a.sys :=
  (Engine.changesOnly_get h .sys out).symm
theorem Engine.changesOnly.power_eq (out : decide (Part.power ∈ ps) = false := by rfl) : b.power = a.power :=
  (Engine.changesOnly_get h .power out).symm
theorem Engine.changesOnly.pins_eq (out : decide (Part.pins ∈ ps) = false := by rfl) : b.pins = a.pins :=
  (Engine.changesOnly_get h .pins out).symm
theorem Engine.changesOnly.cluster_eq (out : decide (Part.cluster ∈ ps) = false := by rfl) : b.cluster = a.cluster :=
  (Engine.changesOnly_get h .cluster out).symm
theorem Engine.changesOnly.ports_eq (out : decide (Part.ports ∈ ps) = false := by rfl) : b.ports = a.ports :=
  (Engine.changesOnly_get h .ports out).symm
theorem Engine.changesOnly.proj_eq (out : decide (Part.proj ∈ ps) = false := by rfl) : b.proj = a.proj :=
  (Engine.changesOnly_get h .proj out).symm
theorem Engine.changesOnly.time_eq (out : decide (Part.time ∈ ps) = false := by rfl) : b.time = a.time :=
  (Engine.changesOnly_get h .time out).symm
theorem Engine.changesOnly.clk_eq (out : decide (Part.clk ∈ ps) = false := by rfl) : b.clk = a.clk :=
  (Engine.changesOnly_get h .clk out).symm
theorem Engine.changesOnly.colour_eq (out : decide (Part.colour ∈ ps) = false := by rfl) : b.colour = a.colour :=
  (Engine.changesOnly_get h .colour out).symm
theorem Engine.changesOnly.pos_eq (out : decide (Part.pos ∈ ps) = false := by rfl) : b.pos = a.pos :=
  (Engine.changesOnly_get h .pos out).symm
theorem Engine.changesOnly.md_eq (out : decide (Part.md ∈ ps) = false := by rfl) : b.md = a.md :=
  (Engine.changesOnly_get h .md out).symm
theorem Engine.changesOnly.rec_eq (out : decide (Part.recorder ∈ ps) = false := by rfl) : b.rec_ = a.rec_ :=
  (Engine.changesOnly_get h .recorder out).symm
theorem Engine.changesOnly.ep_eq (out : decide (Part.ep ∈ ps) = false := by rfl) : b.ep = a.ep :=
  (Engine.changesOnly_get h .ep out).symm
theorem Engine.changesOnly.dram_eq (out : decide (Part.dram ∈ ps) = false := by rfl) : b.dram = a.dram :=
  (Engine.changesOnly_get h .dram out).symm

end

section
variable (e : Engine)

theorem Engine.modPower_only (f : Power → Power) : Engine.changesOnly [.power] e (e.modPower f) := by
  intro p hp
  cases p with
  | power => exact absurd (by decide) hp
  | _ => rfl

theorem Engine.modPort_only (p : Nat) (f : Port → Port) : Engine.changesOnly [.ports] e (e.modPort p f) := by
  intro q hq
  cases q with
  | ports => exact absurd (by decide) hq
  | _ => rfl

theorem Engine.setColour_only (x : Colour) : Engine.changesOnly [.colour] e { e with colour := x } := by
  intro p hp
  cases p with
  | colour => exact absurd (by decide) hp
  | _ => rfl

theorem Engine.setCluster_only (x : Cluster) : Engine.changesOnly [.cluster] e { e with cluster := x } := by
  intro p hp
  cases p with
  | cluster => exact absurd (by decide) hp
  | _ => rfl

theorem Engine.setSys_only (x : Sys) : Engine.changesOnly [.sys] e { e with sys := x } := by
  intro p hp
  cases p with
  | sys => exact absurd (by decide) hp
  | _ => rfl

theorem Engine.modRec_only (f : Recorder → Recorder) : Engine.changesOnly [.recorder] e (e.modRec f) := by
  intro p hp
  cases p with
  | recorder => exact absurd (by decide) hp
  | _ => rfl

end

/-- What the merger holds at the start is all that the new events depend on. -/
theorem Engine.newEvents_congr {a a' : Engine} (h : a.log = a'.log) (b : Engine) :
    Engine.newEvents a b = Engine.newEvents a' b := by rw [Engine.newEvents, Engine.newEvents, h]

/-- Data of an event made from values fit the event (R495). -/
theorem evData_take (l : List (Nat × Nat)) : (evData l).take 14 = evData l := by
  have fits (d : List Byte) (hd : d.length ≤ 14) :
      (l.foldl (fun d v => if 14 < d.length + v.1 then d else d ++ le v.1 v.2) d).length ≤ 14 := by
    induction l generalizing d with
    | nil => exact hd
    | cons v r ih =>
      refine ih _ ?_
      dsimp only
      split
      · exact hd
      · rw [List.length_append, Laws.le_length]
        omega
  exact List.take_of_length_le (fits [] (by decide))

/-- Two values that fit are the data, one after the other. -/
theorem evData_two (m u n v : Nat) (h : m + n ≤ 14) : evData [(m, u), (n, v)] = le m u ++ le n v := by
  have hm : ¬ 14 < m := by omega
  have hn : ¬ 14 < m + n := by omega
  simp [evData, Laws.le_length, hm, hn]

/-- An event with such data, as the merger then holds it. -/
theorem Engine.newEvents_emit_data {a e : Engine} (src : Nat) (ev : Ev) (l : List (Nat × Nat)) (h : e.log = a.log) :
    Engine.newEvents a (e.emit src ev (evData l)) = [(src, ev, evData l)] := by
  rw [Engine.newEvents_emit _ _ _ _ _ h, evData_take]

/-- What happens after an event leaves the log as it is. -/
theorem Engine.newEvents_of_log {a b : Engine} (c : Engine) (h : c.log = b.log) :
    Engine.newEvents a c = Engine.newEvents a b := by
  rw [Engine.newEvents, Engine.newEvents, h]

/-- An effect of a unit while the engine runs. -/
theorem Does.of_live {i : Instr} {t : Nat} {s : State} {P : Engine → Engine → Prop} (f : Engine → Engine)
    (hx : exec i s = s.run t fun e => e.whenLive f) (hr : s.eng.sys.phase = .running)
    (hp : P (s.eng.at t) (f (s.eng.at t))) : Does i t s P := by
  refine Does.of_run _ hx ?_
  rwa [Engine.whenLive_run _ _ (by simpa using hr)]

/-- The same where the effect reads the flash and the key store. -/
theorem Does.of_liveWith {i : Instr} {t : Nat} {s : State} {P : Engine → Engine → Prop}
    (f : Flash → KeyStore → Engine → Engine) (hx : exec i s = s.runWith t fun fl ks e => e.whenLive (f fl ks))
    (hr : s.eng.sys.phase = .running) (hp : P (s.eng.at t) (f s.flash s.ks (s.eng.at t))) : Does i t s P := by
  refine ⟨_, hx, ?_⟩
  dsimp only
  rwa [Engine.whenLive_run _ _ (by simpa using hr)]

end Sys2Proof.Machine
end


section
/-! Notifications, the log and the full restart: what each keeps of the messages sent, the write buffer and the rest (R27, R512). -/

namespace Sys2Proof.Machine
set_option Elab.async false

/-- What every step of a run over a list keeps, the whole run keeps. -/
theorem Engine.foldl_keeps {α β : Type} (g : Engine → β) (f : Engine → α → Engine) (h : ∀ e x, g (f e x) = g e)
    (l : List α) (e : Engine) : g (l.foldl f e) = g e := by
  induction l generalizing e with
  | nil => rfl
  | cons x r ih => exact (ih (f e x)).trans (h e x)

/-! A notification changes the queues of clients, and of the endpoint what carries messages to the host. -/

/-- The control state without what is kept for each client. -/
def Control.sansClients (c : Control) : Control := { c with clients := [] }

theorem Engine.queueTo_sansClients (e : Engine) (c : Client) (ty : Nat) (d : List Byte) :
    (e.queueTo c ty d).ctl.sansClients = e.ctl.sansClients := by
  unfold Engine.queueTo
  dsimp only
  rw [Engine.bumpN_ctl]
  split
  · rw [Engine.epEvent_ctl]; rfl
  · rfl

theorem Engine.notifySev_sansClients (e : Engine) (ty sev : Nat) (o : Option Client) (d : List Byte) :
    (e.notifySev ty sev o d).ctl.sansClients = e.ctl.sansClients :=
  Engine.foldl_keeps (·.ctl.sansClients) _ (fun e c => e.queueTo_sansClients c ty d) _ e

theorem Engine.notify_sansClients (e : Engine) (ty : Nat) (o : Option Client) (d : List Byte) :
    (e.notify ty o d).ctl.sansClients = e.ctl.sansClients := e.notifySev_sansClients ty 0 o d

/-- A notification that is queued has not been sent. -/
theorem Engine.notify_sent (e : Engine) (ty : Nat) (o : Option Client) (d : List Byte) :
    (e.notify ty o d).ctl.sent = e.ctl.sent := by
  have same := congrArg Control.sent (e.notify_sansClients ty o d)
  exact same

theorem Ep.send_dirty (p : Ep) (v : Nat) : (p.send v).dirty = p.dirty := by
  unfold Ep.send
  dsimp only
  split
  · rfl
  · rfl

theorem Ep.complete_dirty (p : Ep) (x : Completion) : (p.complete x).dirty = p.dirty := by
  unfold Ep.complete
  split
  · rfl
  · split
    · rfl
    · unfold Ep.posted
      dsimp only
      split
      · rw [Ep.send_dirty]
      · rfl

theorem Engine.epOk_dirty (e : Engine) (q cid dw : Nat) (d : List Byte) : (e.epOk q cid dw d).ep.dirty = e.ep.dirty :=
  e.ep.complete_dirty _

theorem Engine.epEvent_dirty (e : Engine) (ty info page : Nat) : (e.epEvent ty info page).ep.dirty = e.ep.dirty := by
  unfold Engine.epEvent
  split
  · rfl
  · dsimp only
    split
    · exact Engine.epOk_dirty _ _ _ _ _
    · rfl

theorem Engine.queueTo_dirty (e : Engine) (c : Client) (ty : Nat) (d : List Byte) :
    (e.queueTo c ty d).ep.dirty = e.ep.dirty := by
  unfold Engine.queueTo
  dsimp only
  rw [Engine.bumpN_ep]
  split
  · rw [Engine.epEvent_dirty]; rfl
  · rfl

theorem Engine.notifySev_dirty (e : Engine) (ty sev : Nat) (o : Option Client) (d : List Byte) :
    (e.notifySev ty sev o d).ep.dirty = e.ep.dirty :=
  Engine.foldl_keeps (·.ep.dirty) _ (fun e c => e.queueTo_dirty c ty d) _ e

theorem Engine.notify_dirty (e : Engine) (ty : Nat) (o : Option Client) (d : List Byte) :
    (e.notify ty o d).ep.dirty = e.ep.dirty := e.notifySev_dirty ty 0 o d

/-- The write buffer is as it was when a command's instant has come. -/
theorem Engine.at_dirty (e : Engine) (t : Nat) : (e.at t).ep.dirty = e.ep.dirty := by
  unfold Engine.at
  split
  · exact Engine.foldl_keeps (·.ep.dirty) _ (fun e n => e.notify_dirty 0x0502 none n) _ _
  · rfl

theorem Engine.received_dirty (e : Engine) (h : MsgHdr) (ty : Nat) : (e.received h ty).ep.dirty = e.ep.dirty := by
  unfold Engine.received Engine.takeControl
  split
  · rw [Engine.modEp_ep, Engine.heard_ep]
  · exact congrArg Ep.dirty (Engine.heard_ep e h.client)

theorem Engine.transmit_dirty (e : Engine) (m : OutMsg) : (e.transmit m).ep.dirty = e.ep.dirty := by
  unfold Engine.transmit Engine.answerControl
  dsimp only
  split
  · split
    · rfl
    · exact Engine.epOk_dirty _ _ _ _ _
  · rfl

theorem Engine.reply_dirty (e : Engine) (h : MsgHdr) (ty : Nat) (st : Status) (rs : Reason) (d : List Byte) :
    (e.reply h ty st rs d).ep.dirty = e.ep.dirty := by
  unfold Engine.reply
  dsimp only
  split
  · rw [Engine.bump_ep, Engine.transmit_dirty]
  · exact Engine.transmit_dirty _ _

/-! The log. -/

theorem Engine.setLog_only (e : Engine) (l : Log) : Engine.changesOnly [.log] e { e with log := l } := by
  intro p hp
  cases p with
  | log => exact absurd (by decide) hp
  | _ => rfl

theorem Engine.store_only (e : Engine) (r : EventRec) : Engine.changesOnly [.log, .ctl, .ep, .counters] e (e.store r) :=
  ((e.setLog_only _).andThen (Engine.notifySev_only _ _ _ _ _)).within

theorem Engine.releaseOne_only (e : Engine) (r : EventRec) :
    Engine.changesOnly [.log, .ctl, .ep, .counters] e (e.releaseOne r) := by
  unfold Engine.releaseOne
  dsimp only
  split_ifs
  · exact Engine.changesOnly_refl _ e
  · exact ((e.setLog_only _).andThen (Engine.store_only _ r)).within
  · exact ((e.setLog_only _).andThen (Engine.bump_only _ _ _)).within

theorem Engine.closeEpoch_only (e : Engine) : Engine.changesOnly [.log, .ctl, .ep, .counters] e e.closeEpoch := by
  unfold Engine.closeEpoch
  have run := Engine.changesOnly_foldl (fun e (x : HeldRec) => e.releaseOne x.record) (fun e x => e.releaseOne_only x.record)
    (e.log.held.foldl (fun l x => insertRec x l) []) { e with log := { e.log with held := [] } }
  exact (((e.setLog_only _).andThen run).andThen (Engine.setLog_only _ _)).within

theorem Engine.openEpoch_only (e : Engine) : Engine.changesOnly [.log, .ctl, .ep, .counters] e e.openEpoch := by
  unfold Engine.openEpoch
  exact ((e.setLog_only _).andThen (Engine.store_only _ _)).within

theorem Engine.store_sansClients (e : Engine) (r : EventRec) : (e.store r).ctl.sansClients = e.ctl.sansClients :=
  Engine.notifySev_sansClients _ _ _ _ _

theorem Engine.releaseOne_sansClients (e : Engine) (r : EventRec) :
    (e.releaseOne r).ctl.sansClients = e.ctl.sansClients := by
  unfold Engine.releaseOne
  dsimp only
  split_ifs
  · rfl
  · exact Engine.store_sansClients _ r
  · rw [Engine.bump_ctl]

theorem Engine.closeEpoch_sansClients (e : Engine) : e.closeEpoch.ctl.sansClients = e.ctl.sansClients :=
  Engine.foldl_keeps (·.ctl.sansClients) _ (fun e (x : HeldRec) => e.releaseOne_sansClients x.record) _
    { e with log := { e.log with held := [] } }

theorem Engine.openEpoch_sansClients (e : Engine) : e.openEpoch.ctl.sansClients = e.ctl.sansClients :=
  Engine.store_sansClients _ _

/-! The full restart, part after part. -/

/-- The wait since an instant is over. -/
theorem Engine.since_due (e : Engine) {n x : Nat} (h : x + ms n ≤ e.now) : e.since n (some x) = true := by
  rw [Engine.since, Option.any_some, decide_eq_true h]

/-- What a full restart ends of the control state: the staged command and the transfer (R471, R472). -/
def Control.dropped (c : Control) : Control := { c.sansClients with staged := none, xfer := none }

theorem Engine.setCtl_only (e : Engine) (c : Control) : Engine.changesOnly [.ctl] e { e with ctl := c } := by
  intro p hp
  cases p with
  | ctl => exact absurd (by decide) hp
  | _ => rfl

theorem Engine.gatedCancelled_only (e : Engine) : Engine.changesOnly [.ctl, .ep, .counters, .log] e e.gatedCancelled := by
  unfold Engine.gatedCancelled
  split
  · exact Engine.changesOnly_refl _ e
  · split
    · exact Engine.changesOnly_refl _ e
    · exact (((e.setCtl_only _).andThen (Engine.notify_only _ _ _ _)).andThen (Engine.emit_only _ _ _ _)).within

theorem Engine.xferAbandon_only (e : Engine) (cause : Nat) : Engine.changesOnly [.ctl, .log] e (e.xferAbandon cause) := by
  unfold Engine.xferAbandon
  split
  · exact Engine.changesOnly_refl _ e
  · exact ((e.setCtl_only _).andThen (Engine.emit_only _ _ _ _)).within

theorem Engine.restartDrops_only (e : Engine) : Engine.changesOnly [.ctl, .ep, .counters, .log] e e.restartDrops :=
  (((e.setCtl_only _).andThen (Engine.gatedCancelled_only _)).andThen (Engine.xferAbandon_only _ 2)).within

/-- A staged command that does not execute is staged no longer. -/
theorem Engine.gatedCancelled_sansClients (e : Engine) (h : ∀ g, e.ctl.staged = some g → g.executing = false) :
    e.gatedCancelled.ctl.sansClients = { e.ctl.sansClients with staged := none } := by
  unfold Engine.gatedCancelled
  split
  · next h0 => simp [Control.sansClients, h0]
  · next g hg =>
    rw [if_neg (by simp [h g hg])]
    exact Engine.notify_sansClients _ _ _ _

theorem Engine.xferAbandon_sansClients (e : Engine) (cause : Nat) :
    (e.xferAbandon cause).ctl.sansClients = { e.ctl.sansClients with xfer := none } := by
  unfold Engine.xferAbandon
  split
  · next h0 => simp [Control.sansClients, h0]
  · rfl

theorem Engine.restartDrops_sansClients (e : Engine) : e.restartDrops.ctl.sansClients = e.ctl.dropped := by
  unfold Engine.restartDrops
  rw [Engine.xferAbandon_sansClients, Engine.gatedCancelled_sansClients]
  · rfl
  · intro g hg
    obtain ⟨g', -, rfl⟩ := Option.map_eq_some_iff.1 hg
    rfl

theorem Engine.epLinkDown_only (e : Engine) : Engine.changesOnly [.lanes, .ep, .log] e e.epLinkDown := by
  have loop : Engine.changesOnly [.lanes] e e.epLoopEnd := by
    intro p hp
    cases p with
    | lanes => exact absurd (by decide) hp
    | _ => rfl
  unfold Engine.epLinkDown
  dsimp only
  split
  · exact ((loop.andThen (Engine.modEp_only _ _)).andThen (Engine.emit_only _ _ _ _)).within
  · exact (loop.andThen (Engine.modEp_only _ _)).within

/-- The parts that stopping every unit leaves alone. -/
theorem Engine.unitsStop_only (e : Engine) (k : Bool) :
    Engine.changesOnly [.sys, .pins, .cluster, .lanes, .ports, .proj, .phaseIn, .aux, .raw, .colour, .fsr, .pos, .aud, .hevc,
      .md, .recorder, .ep, .outs, .log] e (e.unitsStop k) := by
  refine (e.epLinkDown_only.andThen (qs := [.sys, .pins, .cluster, .lanes, .ports, .proj, .phaseIn, .aux, .raw, .colour, .fsr,
    .pos, .aud, .hevc, .md, .recorder, .ep, .outs]) (c := e.unitsStop k) ?_).within
  intro p hp
  cases p with
  | now | free | cfg | counters | log | ctl | modId | power | time | clk | dram | grotto => rfl
  | _ => exact absurd (by decide) hp

theorem Engine.unitsStop_sys (e : Engine) (k : Bool) : (e.unitsStop k).sys = { e.sys with
    mode := .standby, preview := false, pend := [], units := [], failed := [], autoDue := false, committing := false } := by
  have keeps : e.sys = e.epLinkDown.sys := e.epLinkDown_only.sys_eq.symm
  rw [keeps]
  rfl

theorem Engine.unitsStop_cores (e : Engine) (k : Bool) : (e.unitsStop k).cluster.cores = e.cluster.cores := by
  have keeps : e.cluster = e.epLinkDown.cluster := e.epLinkDown_only.cluster_eq.symm
  rw [keeps]
  rfl

theorem Engine.setSysTimeClk_only (e : Engine) (x : Sys) (y : TimeBase) (z : Clk) :
    Engine.changesOnly [.sys, .time, .clk] e { e with sys := x, time := y, clk := z } := by
  intro p hp
  cases p with
  | sys | time | clk => exact absurd (by decide) hp
  | _ => rfl

theorem Engine.stepTwo_only (e : Engine) :
    Engine.changesOnly [.sys, .time, .clk, .log, .ctl, .ep, .counters] e e.stepTwo :=
  ((e.closeEpoch_only.andThen (Engine.setSysTimeClk_only _ _ _ _)).andThen (Engine.openEpoch_only _)).within

theorem Engine.stepTwo_sys (e : Engine) : e.stepTwo.sys = { e.sys with
    phase := .starting 2, bootFailed := false, rejected := [], restartDue := false, fatalAt := none } := by
  unfold Engine.stepTwo
  dsimp only
  rw [(Engine.openEpoch_only _).sys_eq,
    e.closeEpoch_only.sys_eq]

theorem Engine.stepTwo_origin (e : Engine) : e.stepTwo.time.origin = e.now := by
  unfold Engine.stepTwo
  dsimp only
  rw [(Engine.openEpoch_only _).time_eq,
    e.closeEpoch_only.now_eq]

theorem Engine.stepTwo_sansClients (e : Engine) : e.stepTwo.ctl.sansClients = e.ctl.sansClients :=
  (Engine.openEpoch_sansClients _).trans e.closeEpoch_sansClients

/-- The parts that a full restart leaves alone. -/
theorem Engine.restartNow_only (e : Engine) :
    Engine.changesOnly [.sys, .pins, .cluster, .lanes, .ports, .proj, .phaseIn, .aux, .raw, .colour, .fsr, .pos, .aud, .hevc,
      .md, .recorder, .ep, .outs, .log, .time, .clk, .ctl, .counters] e e.restartNow :=
  ((e.restartDrops_only.andThen (Engine.unitsStop_only _ false)).andThen (Engine.stepTwo_only _)).within

/-- Modes and restarts as a full restart leaves them. -/
theorem Engine.restartNow_sys (e : Engine) : e.restartNow.sys = { e.sys with
    phase := .starting 2, bootFailed := false, rejected := [], restartDue := false, fatalAt := none
    mode := .standby, preview := false, pend := [], units := [], failed := [], autoDue := false, committing := false } := by
  have keeps : e.sys = e.restartDrops.sys := e.restartDrops_only.sys_eq.symm
  rw [Engine.restartNow, Engine.stepTwo_sys, Engine.unitsStop_sys, ← keeps]

theorem Engine.restartNow_origin (e : Engine) : e.restartNow.time.origin = e.now := by
  have now : e.now = (e.restartDrops.unitsStop false).now :=
    (e.restartDrops_only.andThen (Engine.unitsStop_only _ false)).now_eq.symm
  rw [Engine.restartNow, Engine.stepTwo_origin, now]

theorem Engine.restartNow_sansClients (e : Engine) : e.restartNow.ctl.sansClients = e.ctl.dropped := by
  have stop : e.restartDrops.ctl = (e.restartDrops.unitsStop false).ctl :=
    (Engine.unitsStop_only _ false).ctl_eq.symm
  rw [Engine.restartNow, Engine.stepTwo_sansClients, ← stop, Engine.restartDrops_sansClients]

theorem Engine.restartNow_cores (e : Engine) : e.restartNow.cluster.cores = e.cluster.cores := by
  have step : (e.restartDrops.unitsStop false).cluster = e.restartNow.cluster :=
    (Engine.stepTwo_only _).cluster_eq.symm
  have drops : e.cluster = e.restartDrops.cluster := e.restartDrops_only.cluster_eq.symm
  rw [← step, Engine.unitsStop_cores, drops]

end Sys2Proof.Machine
end

section
/-! Heat and bank voltages (O58): what the readings of R528 and R529 log, count and set. -/

namespace Sys2Proof.Machine
set_option Elab.async false

/-- A derating condition holds already: of R529 when cold, otherwise of R528. -/
def Power.derating (cold : Bool) (p : Power) : Bool := if cold then p.cold else p.hot

/-- The instant at which the condition was last logged. -/
def Power.derateAt (cold : Bool) (p : Power) : Nat := if cold then p.coldAt else p.hotAt

/-- The condition holds and has been logged at an instant. -/
def Power.derated (cold : Bool) (now : Nat) (p : Power) : Power :=
  if cold then { p with cold := true, coldAt := now } else { p with hot := true, hotAt := now }

section
variable (e : Engine) (cold : Bool) (d : List Byte)

/-- A condition that does not hold does nothing. -/
theorem Engine.thermalCond_false : e.thermalCond cold false d = e := rfl

/-- A condition that does not hold, or was logged within the last minute, does nothing. -/
theorem Engine.thermalCond_quiet {holds : Bool}
    (h : holds = true → e.power.derating cold = true ∧ e.now < e.power.derateAt cold + secs 60) :
    e.thermalCond cold holds d = e := by
  cases holds with
  | false => rfl
  | true =>
    obtain ⟨was, recent⟩ := h rfl
    rw [Power.derating] at was
    rw [Power.derateAt] at recent
    simp [Engine.thermalCond, was, recent]

/-- A condition that begins, or was last logged a minute ago, is logged now, and counted when it begins. -/
theorem Engine.thermalCond_due (h : e.power.derating cold = false ∨ e.power.derateAt cold + secs 60 ≤ e.now) :
    e.thermalCond cold true d =
      (if e.power.derating cold then e.modPower (·.derated cold e.now)
        else (e.modPower (·.derated cold e.now)).bump .thermalDerate 0x0043).emit 0x0043 .thermalDerate d := by
  have due : (e.power.derating cold && decide (e.now < e.power.derateAt cold + secs 60)) = false := by
    rcases h with h | h
    · rw [h, Bool.false_and]
    · rw [decide_eq_false (Nat.not_lt.2 h), Bool.and_false]
  rw [Power.derating, Power.derateAt] at due
  rw [Engine.thermalCond, due, if_neg (by decide), Power.derating]
  rfl

/-- What a condition that is due changes, counts and logs. -/
theorem Engine.thermalCond_effect (h : e.power.derating cold = false ∨ e.power.derateAt cold + secs 60 ≤ e.now) :
    Engine.changesOnly [.power, .counters, .log] e (e.thermalCond cold true d) ∧
      (e.thermalCond cold true d).power = e.power.derated cold e.now ∧
      (e.power.derating cold = true → (e.thermalCond cold true d).counters = e.counters) ∧
      (e.power.derating cold = false → Engine.counted .thermalDerate 0x0043 e (e.thermalCond cold true d)) ∧
      Engine.newEvents e (e.thermalCond cold true d) = [(0x0043, .thermalDerate, d.take 14)] := by
  rw [e.thermalCond_due cold d h]
  have set := e.modPower_only (·.derated cold e.now)
  cases e.power.derating cold with
  | true =>
    rw [if_pos rfl]
    exact ⟨(set.andThen (Engine.emit_only _ _ _ _)).within, rfl, fun _ => rfl, nofun,
      Engine.newEvents_emit _ _ _ _ _ rfl⟩
  | false =>
    rw [if_neg Bool.false_ne_true]
    refine ⟨((set.andThen (Engine.bump_only _ _ _)).andThen (Engine.emit_only _ _ _ _)).within, by simp, nofun,
      fun _ => ?_, Engine.newEvents_emit _ _ _ _ _ (by simp)⟩
    exact Engine.counted_of_counters (Engine.counted_bump (e.modPower (·.derated cold e.now)) _ _) rfl rfl

end

/-- The six bytes of thermal data fit an event. -/
theorem thermalData_take (plate junction : Int) (die : Nat) (cold : Bool) :
    (thermalData plate junction die cold).take 14 = thermalData plate junction die cold :=
  List.take_of_length_le (by simp [thermalData, leInt, Laws.le_length])

/-- A trip in operation: it is counted and logged, clips close and the endpoint drains (R528). -/
theorem Engine.trip_effect (e : Engine) (cold : Bool) (d : List Byte) (hr : e.sys.phase = .running) :
    Engine.changesOnly [.power, .recorder, .ep, .counters, .log] e (e.trip cold d) ∧
      (e.trip cold d).power = { e.power with trip := some e.now, coldTrip := cold } ∧
      (e.trip cold d).rec_ = { e.rec_ with powerStop := true } ∧
      (e.trip cold d).ep = { e.ep with stopped := true, drained := Vector.replicate 4 0 } ∧
      Engine.counted .thermalTrip 0x0043 e (e.trip cold d) ∧
      Engine.newEvents e (e.trip cold d) = [(0x0043, .thermalTrip, d.take 14)] := by
  have eq : e.trip cold d =
      ((((e.bump .thermalTrip 0x0043).emit 0x0043 .thermalTrip d).modPower fun p =>
        { p with trip := some e.now, coldTrip := cold }).modRec fun r => { r with powerStop := true }).modEp fun p =>
          { p with stopped := true, drained := Vector.replicate 4 0 } := by
    simp [Engine.trip, hr]
  rw [eq]
  refine ⟨?_, by simp, by simp, by simp, Engine.counted_of_counters (e.counted_bump _ _) rfl rfl, ?_⟩
  · exact (((((e.bump_only _ _).andThen (Engine.emit_only _ _ _ _)).andThen (Engine.modPower_only _ _)).andThen
      (Engine.modRec_only _ _)).andThen (Engine.modEp_only _ _)).within
  · exact Engine.newEvents_emit _ _ _ _ _ (by simp)

/-- Beyond one of the limits, with no input loss or trip under way, a reading trips. -/
theorem Engine.thermalTrip_beyond (e : Engine) (plate junction : Int) (die : Nat) (input : e.power.t0 = none)
    (fresh : e.power.trip = none)
    (limit : e.modId.deratedLimit < plate ∨ 1150 ≤ junction ∨ plate < e.modId.lowerLimit - 100) :
    let cold := !(decide (e.modId.deratedLimit < plate) || decide (1150 ≤ junction))
    e.thermalTrip plate junction die = (e.thermalRead plate junction).trip cold (thermalData plate junction die cold) := by
  have act : ¬(e.power.t0.isSome || e.power.trip.isSome || !(decide (e.modId.deratedLimit < plate) ||
      decide (1150 ≤ junction) || decide (plate < e.modId.lowerLimit - 100))) = true := by
    simpa [input, fresh, ← or_assoc, imp_iff_not_or, not_and_or, lt_sub_iff_add_lt] using limit
  exact if_neg act

/-- Bit 0 of the last byte of a trip: 0 for a hot one. -/
theorem bit_not_hot (p q : Prop) [Decidable p] [Decidable q] :
    bit (!(decide p || decide q)) = if p ∨ q then 0 else 1 := by
  rw [← Bool.decide_or]
  by_cases h : p ∨ q
  · rw [decide_eq_true h, if_pos h]; rfl
  · rw [decide_eq_false h, if_neg h]; rfl

/-- A command of the sensors acts once the rails are on, as they are while the engine runs or stands in the thermal halt. -/
theorem Does.of_rails {i : Instr} {t : Nat} {s : State} {P : Engine → Engine → Prop} (f : Engine → Engine)
    (hx : exec i s = s.run t fun e => e.whenRails f) (hr : s.eng.sys.phase = .running ∨ s.eng.sys.phase = .thermalHalt)
    (hp : P (s.eng.at t) (f (s.eng.at t))) : Does i t s P := by
  refine Does.of_run _ hx ?_
  rcases hr with hr | hr
  all_goals simpa [Engine.whenRails, hr] using hp

/-- The lower limit of either grade lies far below the hot limit (Table 0.1). -/
theorem ModuleId.lowerLimit_le (m : ModuleId) : m.lowerLimit ≤ 0 := by
  unfold ModuleId.lowerLimit
  split
  · decide
  · decide

section
variable (e : Engine) {plate junction : Int} (die : Nat)

/-- At or above the lower limit only the hot condition is looked at. -/
theorem Engine.thermalDerate_hot (hot : 550 < plate ∨ 1050 < junction) (warm : e.modId.lowerLimit ≤ plate) :
    e.thermalDerate plate junction die =
      (e.thermalRead plate junction).thermalCond false true (thermalData plate junction die false) := by
  have notCold : ¬ plate < (e.thermalRead plate junction).modId.lowerLimit := not_lt.2 warm
  rw [Engine.thermalDerate, decide_eq_false notCold, Engine.thermalCond_false,
    show (decide (550 < plate) || decide (1050 < junction)) = true by simpa using hot]

/-- Below the lower limit with a cool junction only the cold condition holds: the limit lies below 55 degrees C. -/
theorem Engine.thermalDerate_cold (low : plate < e.modId.lowerLimit) (cool : junction ≤ 1050) :
    e.thermalDerate plate junction die =
      (e.thermalRead plate junction).thermalCond true true (thermalData plate junction die true) := by
  have limit := e.modId.lowerLimit_le
  have notHot : (decide (550 < plate) || decide (1050 < junction)) = false := by
    rw [Bool.or_eq_false_iff, decide_eq_false_iff_not, decide_eq_false_iff_not]
    omega
  have isCold : plate < (e.thermalRead plate junction).modId.lowerLimit := low
  rw [Engine.thermalDerate, notHot, Engine.thermalCond_false, decide_eq_true isCold]

/-- A reading whose conditions were all logged within the last minute is only kept. -/
theorem Engine.thermalDerate_recent
    (hot : 550 < plate ∨ 1050 < junction → e.power.hot = true ∧ e.now < e.power.hotAt + secs 60)
    (cold : plate < e.modId.lowerLimit → e.power.cold = true ∧ e.now < e.power.coldAt + secs 60) :
    e.thermalDerate plate junction die = e.thermalRead plate junction := by
  rw [Engine.thermalDerate, Engine.thermalCond_quiet (e.thermalRead plate junction) false _ fun h => hot (by simpa using h)]
  exact Engine.thermalCond_quiet (e.thermalRead plate junction) true _ fun h => cold (of_decide_eq_true h)

end

/-- A reading followed by a condition that is due: what it changes, counts and logs. -/
theorem Engine.thermalRead_cond_effect (e : Engine) (cold : Bool) (plate junction : Int) (die : Nat)
    (h : e.power.derating cold = false ∨ e.power.derateAt cold + secs 60 ≤ e.now) :
    let b := (e.thermalRead plate junction).thermalCond cold true (thermalData plate junction die cold)
    Engine.changesOnly [.power, .counters, .log] e b ∧
      b.power = ({ e.power with plate := plate, junction := junction } : Power).derated cold e.now ∧
      (e.power.derating cold = true → b.counters = e.counters) ∧
      (e.power.derating cold = false → Engine.counted .thermalDerate 0x0043 e b) ∧
      Engine.newEvents e b = [(0x0043, .thermalDerate, thermalData plate junction die cold)] := by
  obtain ⟨only, power, counters, counted, events⟩ :=
    (e.thermalRead plate junction).thermalCond_effect cold (thermalData plate junction die cold) h
  rw [thermalData_take] at events
  exact ⟨((e.modPower_only _).andThen only).within, power, counters, counted, events⟩

section
variable {t : Nat} {s : State} {plate junction : Int} {die : Fin 8}

theorem does_thermalDerate_hot (hr : s.eng.sys.phase = .running) (hot : 550 < plate ∨ 1050 < junction)
    (warm : s.eng.modId.lowerLimit ≤ plate)
    (due : s.eng.power.hot = false ∨ s.eng.power.hotAt + secs 60 ≤ (s.eng.at t).now) :
    Does (.thermalDerate t plate junction die) t s fun a b => Engine.changesOnly [.power, .counters, .log] a b ∧
      b.power = { a.power with plate := plate, junction := junction, hot := true, hotAt := a.now } ∧
      (s.eng.power.hot = true → b.counters = a.counters) ∧
      (s.eng.power.hot = false → Engine.counted .thermalDerate 0x0043 a b) ∧
      Engine.newEvents a b = [(0x0043, .thermalDerate, leInt 2 plate ++ leInt 2 junction ++ le 1 die ++ le 1 0)] := by
  refine Does.of_rails (·.thermalDerate plate junction die) rfl (.inl hr) ?_
  dsimp only
  rw [Engine.thermalDerate_hot _ _ hot (by simpa using warm)]
  simpa [Power.derating, Power.derated, thermalData, bit] using (s.eng.at t).thermalRead_cond_effect false plate junction die
    (by simpa [Power.derating, Power.derateAt] using due)

theorem does_thermalDerate_cold (hr : s.eng.sys.phase = .running) (low : plate < s.eng.modId.lowerLimit)
    (cool : junction ≤ 1050) (due : s.eng.power.cold = false ∨ s.eng.power.coldAt + secs 60 ≤ (s.eng.at t).now) :
    Does (.thermalDerate t plate junction die) t s fun a b => Engine.changesOnly [.power, .counters, .log] a b ∧
      b.power = { a.power with plate := plate, junction := junction, cold := true, coldAt := a.now } ∧
      (s.eng.power.cold = true → b.counters = a.counters) ∧
      (s.eng.power.cold = false → Engine.counted .thermalDerate 0x0043 a b) ∧
      Engine.newEvents a b = [(0x0043, .thermalDerate, leInt 2 plate ++ leInt 2 junction ++ le 1 die ++ le 1 1)] := by
  refine Does.of_rails (·.thermalDerate plate junction die) rfl (.inl hr) ?_
  dsimp only
  rw [Engine.thermalDerate_cold _ _ (by simpa using low) cool]
  simpa [Power.derating, Power.derated, thermalData, bit] using (s.eng.at t).thermalRead_cond_effect true plate junction die
    (by simpa [Power.derating, Power.derateAt] using due)

theorem does_thermalDerate_recent (hr : s.eng.sys.phase = .running)
    (hot : 550 < plate ∨ 1050 < junction → s.eng.power.hot = true ∧ (s.eng.at t).now < s.eng.power.hotAt + secs 60)
    (cold : plate < s.eng.modId.lowerLimit → s.eng.power.cold = true ∧ (s.eng.at t).now < s.eng.power.coldAt + secs 60) :
    Does (.thermalDerate t plate junction die) t s fun a b => Engine.changesOnly [.power] a b ∧
      b.power = { a.power with plate := plate, junction := junction } := by
  refine Does.of_rails (·.thermalDerate plate junction die) rfl (.inl hr) ?_
  dsimp only
  rw [Engine.thermalDerate_recent _ _ (by simpa using hot) (by simpa using cold)]
  exact ⟨Engine.modPower_only _ _, rfl⟩

theorem does_thermalDerateClear (hr : s.eng.sys.phase = .running) :
    Does (.thermalDerateClear t plate junction) t s fun a b => Engine.changesOnly [.power] a b ∧
      b.power.plate = plate ∧ b.power.junction = junction ∧
      (b.power.hot = true ↔ a.power.hot = true ∧ (530 ≤ plate ∨ 1000 ≤ junction)) ∧
      (b.power.cold = true ↔ a.power.cold = true ∧ plate < s.eng.modId.lowerLimit + 20) := by
  refine Does.of_rails (·.thermalClear plate junction) rfl (.inl hr) ⟨?_, rfl, rfl, ?_, ?_⟩
  · unfold Engine.thermalClear Engine.thermalRead
    exact Engine.changesOnly_trans (Engine.modPower_only _ _) (Engine.modPower_only _ _)
  · simp only [Engine.thermalClear, Engine.thermalRead, Engine.modPower_power, Bool.and_eq_true, Bool.not_eq_true',
      Bool.and_eq_false_iff, decide_eq_false_iff_not, not_lt]
  · simp [Engine.thermalClear, Engine.thermalRead]

theorem does_thermalTrip (hr : s.eng.sys.phase = .running) (input : s.eng.power.t0 = none) (fresh : s.eng.power.trip = none)
    (limit : s.eng.modId.deratedLimit < plate ∨ 1150 ≤ junction ∨ plate < s.eng.modId.lowerLimit - 100) :
    Does (.thermalTrip t plate junction die) t s fun a b =>
      Engine.changesOnly [.power, .recorder, .ep, .counters, .log] a b ∧
      b.power.trip = some a.now ∧ b.rec_ = { a.rec_ with powerStop := true } ∧
      b.ep = { a.ep with stopped := true, drained := Vector.replicate 4 0 } ∧
      Engine.counted .thermalTrip 0x0043 a b ∧
      Engine.newEvents a b = [(0x0043, .thermalTrip, leInt 2 plate ++ leInt 2 junction ++ le 1 die ++
        le 1 (if s.eng.modId.deratedLimit < plate ∨ 1150 ≤ junction then 0 else 1))] := by
  refine Does.of_rails (·.thermalTrip plate junction die) rfl (.inl hr) ?_
  dsimp only
  rw [Engine.thermalTrip_beyond _ _ _ _ (by simpa using input) (by simpa using fresh) (by simpa using limit)]
  obtain ⟨only, power, recorder, endpoint, counted, events⟩ := ((s.eng.at t).thermalRead plate junction).trip_effect
    (!(decide (s.eng.modId.deratedLimit < plate) || decide (1150 ≤ junction)))
    (thermalData plate junction die (!(decide (s.eng.modId.deratedLimit < plate) || decide (1150 ≤ junction))))
    (by simpa [Engine.thermalRead] using hr)
  rw [thermalData_take] at events
  rw [Engine.at_modId]
  refine ⟨((Engine.modPower_only _ _).andThen only).within, by rw [power]; rfl, recorder, endpoint, counted, ?_⟩
  refine events.trans ?_
  rw [thermalData, bit_not_hot]

theorem does_thermalTrip_inputLost (hr : s.eng.sys.phase = .running) (lost : s.eng.power.t0.isSome = true) :
    Does (.thermalTrip t plate junction die) t s fun a b => Engine.changesOnly [.power] a b ∧
      b.power = { a.power with plate := plate, junction := junction } := by
  refine Does.of_rails (·.thermalTrip plate junction die) rfl (.inl hr) ?_
  have lostNow : ((s.eng.at t).thermalRead plate junction).power.t0.isSome = true := by simpa [Engine.thermalRead] using lost
  dsimp only
  rw [Engine.thermalTrip, lostNow, Bool.true_or, Bool.true_or, if_pos rfl]
  exact ⟨Engine.modPower_only _ _, rfl⟩

theorem does_powerFailUnitsStop_trip {x : Nat} (hr : s.eng.sys.phase = .running) (input : s.eng.power.t0 = none)
    (trip : s.eng.power.trip = some x) (due : x + ms 150 ≤ (s.eng.at t).now) :
    Does (.powerFailUnitsStop t) t s fun a b =>
      b.sys.phase = .thermalHalt ∧ b.pins.pwren = Vector.replicate 4 false ∧ b.rec_.takes = [] ∧ b.power = a.power ∧
      b.sys.restartDue = false := by
  have stop : (s.eng.at t).powerUnitsStop = { (s.eng.at t).unitsStop false with
      sys := { ((s.eng.at t).unitsStop false).sys with phase := .thermalHalt, restartDue := false, fatalAt := none } } := by
    rw [Engine.powerUnitsStop, if_neg (by simp [Engine.live, hr]), if_neg (by simp [input]),
      if_pos (by rw [Engine.at_power, trip, Engine.since_due _ due])]
  refine Does.of_run (·.powerUnitsStop) rfl ?_
  rw [stop]
  exact ⟨rfl, rfl, rfl, (Engine.unitsStop_only _ false).power_eq, rfl⟩

/-- The halt ends once its temperatures have come down: a full restart, with the trip forgotten. -/
theorem does_thermalHaltEnd (hr : s.eng.sys.phase = .thermalHalt) (input : s.eng.power.t0 = none)
    (down : if s.eng.power.coldTrip then s.eng.modId.lowerLimit ≤ plate
      else plate ≤ s.eng.modId.deratedLimit - 100 ∧ junction ≤ 850) :
    Does (.thermalHaltEnd t plate junction) t s fun a b => b.sys.phase = .starting 2 ∧ b.time.origin = a.now ∧
      b.power = { a.power with plate := plate, junction := junction, trip := none, coldTrip := false } := by
  have ended : (s.eng.at t).thermalHaltEnd plate junction =
      (((s.eng.at t).thermalRead plate junction).modPower fun p => { p with trip := none, coldTrip := false }).restartNow := by
    refine if_pos ?_
    split at down
    · next cold => simp [Engine.thermalRead, hr, input, cold, down]
    · next hot => simp [Engine.thermalRead, hr, input, hot, down]
  refine Does.of_rails (·.thermalHaltEnd plate junction) rfl (.inr hr) ?_
  dsimp only
  rw [ended, Engine.restartNow_sys, Engine.restartNow_origin]
  exact ⟨rfl, rfl, (Engine.restartNow_only _).power_eq⟩

theorem does_thermalHaltEnd_stillHot (hr : s.eng.sys.phase = .thermalHalt) (kind : s.eng.power.coldTrip = false)
    (hot : s.eng.modId.deratedLimit - 100 < plate ∨ 850 < junction) :
    Does (.thermalHaltEnd t plate junction) t s fun a b =>
      Engine.changesOnly [.power] a b ∧ b.power = { a.power with plate := plate, junction := junction } := by
  have stays : (s.eng.at t).thermalHaltEnd plate junction = (s.eng.at t).thermalRead plate junction := by
    refine if_neg ?_
    rw [← not_le, ← not_le, ← not_and_or] at hot
    simp only [Engine.thermalRead, Engine.modPower_power, Engine.at_power, kind, Bool.false_eq_true, if_false,
      ← Bool.decide_and, Engine.modPower_modId, Engine.at_modId, decide_eq_false hot, Bool.and_false, not_false_eq_true]
  refine Does.of_rails (·.thermalHaltEnd plate junction) rfl (.inr hr) ?_
  dsimp only
  rw [stays]
  exact ⟨Engine.modPower_only _ _, rfl⟩

theorem does_coldHoldRelease (hr : s.eng.sys.phase = .coldHold) (input : s.eng.power.t0 = none)
    (warm : s.eng.modId.lowerLimit ≤ plate) :
    Does (.coldHoldRelease t plate) t s fun a b => Engine.changesOnly [.power, .pins, .sys] a b ∧
      b.sys = { a.sys with phase := .starting 1 } ∧ b.pins = { a.pins with pwrfailN := true } ∧
      b.power = { a.power with plate := plate } := by
  refine Does.of_run (·.coldHoldRelease plate) rfl ?_
  dsimp only
  rw [Engine.coldHoldRelease, if_pos (by simp [hr, input, warm])]
  refine ⟨fun p hp => ?_, rfl, rfl, rfl⟩
  cases p with
  | power | pins | sys => exact absurd (by decide) hp
  | _ => rfl

theorem does_vioChange (bank : Fin 7) (range : Fin 3) :
    Does (.vioChange t bank range) t s fun a b => Engine.changesOnly [.power] a b ∧
      b.power = { a.power with vio := vmod a.power.vio bank fun _ => range } :=
  Does.of_run (·.modPower fun p => { p with vio := vmod p.vio bank fun _ => range }) rfl ⟨Engine.modPower_only _ _, rfl⟩

end

/-- Settles O58: each command of the sensors, by its lemma. -/
theorem heatAndBankVoltages : Obligations.HeatAndBankVoltages := by
  unfold Obligations.HeatAndBankVoltages
  exact ⟨fun _ _ _ _ _ => does_thermalDerate_hot, fun _ _ _ _ _ => does_thermalDerate_cold,
    fun _ _ _ _ _ => does_thermalDerate_recent, fun _ _ _ _ => does_thermalDerateClear, fun _ _ _ _ _ => does_thermalTrip,
    fun _ _ _ _ _ => does_thermalTrip_inputLost, fun _ _ _ => does_powerFailUnitsStop_trip,
    fun _ _ _ _ => does_thermalHaltEnd, fun _ _ _ _ => does_thermalHaltEnd_stillHot, fun _ _ _ => does_coldHoldRelease,
    fun _ bank range _ => does_vioChange bank range⟩

end Sys2Proof.Machine
end

section
/-! What goes on by itself at a boundary: the endpoint's commands, drains, LUT swaps and the aux consumers, each with its parts. -/

namespace Sys2Proof.Machine
set_option Elab.async false

section
variable (e : Engine)

theorem Engine.modMedia_only (m : Nat) (f : MediaPort → MediaPort) : Engine.changesOnly [.recorder] e (e.modMedia m f) := by
  intro p hp
  cases p with
  | recorder => exact absurd (by decide) hp
  | _ => rfl

theorem Engine.putCmds_only (m : Nat) (us : List CmdUse) (covers : List Nat) :
    Engine.changesOnly [.recorder] e (e.putCmds m us covers) := e.modMedia_only m _

theorem Engine.drainIssue_only (m : Nat) : Engine.changesOnly [.recorder] e (e.drainIssue m) := by
  unfold Engine.drainIssue
  dsimp only
  split_ifs
  · exact Engine.changesOnly_refl _ e
  · exact e.putCmds_only _ _ _
  · exact Engine.changesOnly_refl _ e
  · exact Engine.changesOnly_trans (e.putCmds_only _ _ _) (Engine.modMedia_only _ _ _)

theorem Engine.epCommit_only (c : EpCmd) (k : Nat) (d : List Byte) : Engine.changesOnly [.ep] e (e.epCommit c k d) := by
  unfold Engine.epCommit
  split
  · exact Engine.changesOnly_refl _ e
  · dsimp only
    split
    · exact Engine.changesOnly_trans (e.modEp_only _) (Engine.modEp_only _ _)
    · exact Engine.changesOnly_trans (e.modEp_only _) (Engine.modEp_only _ _)

theorem Engine.epFit_only (w : EpCmd × Nat × List Byte) : Engine.changesOnly [.ep] e (e.epFit w) := by
  unfold Engine.epFit
  split
  · split
    · exact e.epCommit_only _ _ _
    · exact Engine.changesOnly_refl _ e
  · exact Engine.changesOnly_refl _ e

theorem Engine.epZeroPass_only (c : EpCmd) : Engine.changesOnly [.ep, .recorder] e (e.epZeroPass c) := by
  unfold Engine.epZeroPass
  split
  · exact ((e.modEp_only _).andThen (Engine.putCmds_only _ _ _ _)).within
  · exact Engine.changesOnly_refl _ e

theorem Engine.epWriteDone_only (c : EpCmd) : Engine.changesOnly [.ep] e (e.epWriteDone c) := by
  unfold Engine.epWriteDone
  split
  · exact Engine.changesOnly_trans (e.modEp_only _) (Engine.epOk_only _ _ _ _ _)
  · exact Engine.changesOnly_refl _ e

theorem Engine.readPace_only (c : EpCmd) : Engine.changesOnly [.ep] e (e.readPace c) := by
  unfold Engine.readPace
  split
  · exact e.modEp_only _
  · exact Engine.changesOnly_refl _ e

theorem Engine.epStart_only (c : EpCmd) : Engine.changesOnly [.ep, .recorder, .counters] e (e.epStart c) := by
  unfold Engine.epStart
  split
  · dsimp only
    split_ifs
    · exact (((e.bumpN_only _ _ _ _).andThen (Engine.modEp_only _ _)).andThen (Engine.epOk_only _ _ _ _ _)).within
    · exact (((e.bumpN_only _ _ _ _).andThen (Engine.modEp_only _ _)).andThen (Engine.epStatus_only _ _ _ _ _ _ _ _)).within
  · exact (e.modEp_only _).within
  · split
    · exact ((e.modEp_only _).andThen (Engine.epOk_only _ _ _ _ _)).within
    · exact ((e.modEp_only _).andThen (Engine.epZeroPass_only _ _)).within

theorem Engine.epStarts_only (n : Nat) : Engine.changesOnly [.ep, .recorder, .counters] e (e.epStarts n) := by
  induction n generalizing e with
  | zero => exact Engine.changesOnly_refl _ e
  | succ n ih =>
    unfold Engine.epStarts
    split
    · exact Engine.changesOnly_refl _ e
    · exact (((e.readPace_only _).andThen (Engine.epStart_only _ _)).andThen (ih _)).within

theorem Engine.epPump_only : Engine.changesOnly [.ep, .recorder, .counters] e e.epPump := by
  unfold Engine.epPump
  have fit := Engine.changesOnly_foldl Engine.epFit Engine.epFit_only e.ep.waitingPieces e
  have pass := fun e : Engine => Engine.changesOnly_foldl (fun e c => e.epZeroPass c) Engine.epZeroPass_only e.ep.cmds e
  have done := fun e : Engine => Engine.changesOnly_foldl (fun e c => e.epWriteDone c) Engine.epWriteDone_only e.ep.cmds e
  have drain := fun e => Engine.changesOnly_foldl Engine.drainIssue Engine.drainIssue_only [0, 1, 2, 3] e
  exact ((((fit.andThen (pass _)).andThen (done _)).andThen (Engine.epStarts_only _ _)).andThen (drain _)).within

theorem Engine.epSyncOne_only (m : Nat) : Engine.changesOnly [.ep] e (e.epSyncOne m) := by
  unfold Engine.epSyncOne
  dsimp only
  split
  · exact Engine.changesOnly_refl _ e
  · exact Engine.changesOnly_trans (e.modEp_only _) (Engine.epEvent_only _ _ _ _)

theorem Engine.epSync_only : Engine.changesOnly [.ep] e e.epSync :=
  Engine.changesOnly_foldl Engine.epSyncOne Engine.epSyncOne_only [0, 1, 2, 3] e

theorem Engine.lutSwap_only (l : LutPend) (c : Nat) : Engine.changesOnly [.colour, .counters, .log] e (e.lutSwap l c) :=
  (((e.setColour_only _).andThen (Engine.bump_only _ _ _)).andThen (Engine.emit_only _ _ _ _)).within

theorem Engine.lutSwaps_only (c : Option Nat) (x : Int) : Engine.changesOnly [.colour, .counters, .log] e (e.lutSwaps c x) :=
  Engine.changesOnly_foldl _ (fun e l => e.lutSwap_only l _) _ e

theorem Engine.setAux_only (x : Aux) : Engine.changesOnly [.aux] e { e with aux := x } := by
  intro p hp
  cases p with
  | aux => exact absurd (by decide) hp
  | _ => rfl

theorem Engine.setPins_only (x : Pins) : Engine.changesOnly [.pins] e { e with pins := x } := by
  intro p hp
  cases p with
  | pins => exact absurd (by decide) hp
  | _ => rfl

/-- What the aux consumers take, once the trigger has been given. -/
theorem Engine.auxTake_only : Engine.changesOnly [.pins, .aux, .counters] e e.auxTake := by
  unfold Engine.auxTake
  split
  · exact Engine.changesOnly_refl _ e
  · extract_lets _ pulsed put
    have pulse : Engine.changesOnly [.pins] e pulsed := by
      unfold pulsed
      split
      · exact e.setPins_only _
      · exact Engine.changesOnly_refl _ e
    split
    · exact (pulse.andThen (Engine.setAux_only _ _)).within
    · exact ((pulse.andThen (Engine.setAux_only _ _)).andThen (Engine.bump_only _ _ _)).within
    · exact pulse.within

theorem Engine.audFrameEnd_only (c : Nat) : Engine.changesOnly [.aud] e (e.audFrameEnd c) := by
  intro p hp
  cases p with
  | aud => exact absurd (by decide) hp
  | _ => rfl

theorem Engine.selsAtBoundary_only : Engine.changesOnly [.colour] e e.selsAtBoundary := e.setColour_only _

theorem Engine.capStates_only : Engine.changesOnly [.ports] e e.capStates :=
  Engine.changesOnly_trans (e.modPort_only _ _) (Engine.modPort_only _ _ _)

end

end Sys2Proof.Machine
end

section
/-! Mode requests and the boundary at which they take effect (O16; R15 to R21, R511). -/

namespace Sys2Proof.Machine
set_option Elab.async false

section
variable (e : Engine)

theorem Engine.addPend_only (p : PendMode) : Engine.changesOnly [.sys] e (e.addPend p) := e.setSys_only _

/-- What has been sent is all that a reply is judged by. -/
theorem Engine.replied_congr {h : MsgHdr} {ty : Nat} {st : Status} {rs : Reason} {d : List Byte} {a b : Engine}
    (hr : a.replied h ty st rs d) (hs : b.ctl.sent = a.ctl.sent) : b.replied h ty st rs d := by
  rw [Engine.replied, hs]; exact hr

/-- The mode that pending changes lead to is read from modes alone. -/
theorem Engine.modeThen_congr {a b : Engine} (h : a.sys = b.sys) : a.modeThen = b.modeThen := by
  rw [Engine.modeThen, Engine.modeThen, h]

theorem Engine.modeSet_allowed {h : MsgHdr} {mode : Nat} {m : Mode} {preview : Bool} (hm : modeOf mode = some m)
    (shut : e.sys.lampOpen = false) (ok : modeAllowed e.modeThen m = true) :
    e.modeSet h mode preview = (e.ok h 0x0101).pendRequest m preview (some h.client) h.seq := by
  rw [Engine.modeSet, hm]
  simp [shut, ok]

theorem Engine.modeSet_refused {h : MsgHdr} {mode : Nat} {m : Mode} {preview : Bool} (hm : modeOf mode = some m)
    (no : e.sys.lampOpen = true ∨ modeAllowed e.modeThen m = false) :
    e.modeSet h mode preview = e.refuse h 0x0101 .state .none := by
  rw [Engine.modeSet, hm]
  simpa using fun lamp ok => by simp [lamp, ok] at no

end

section
variable {t : Nat} {h : MsgHdr} {s : State} {mode : Nat} {m : Mode} {preview : Bool}

theorem does_modeSet (hg : s.takes t h 0x0101) (hm : modeOf mode = some m) (shut : s.eng.sys.lampOpen = false)
    (ok : modeAllowed s.eng.modeThen m = true) :
    Does (.modeSet t h mode preview) t s fun a b =>
      b.replied h 0x0101 .ok .none [] ∧ Engine.changesOnly [.sys, .ctl, .ep, .counters] a b ∧
      b.sys = { a.sys with pend := a.sys.pend ++ [⟨.request, m, preview && (m = .review || m = .offload || m = .service),
        a.now + ms 2, none, false, some h.client, 0x0101, h.seq, false, [], 0, none, true⟩] } := by
  refine Does.of_request h 0x0101 (·.modeSet h mode preview) rfl hg ?_
  have then_ : ((s.eng.at t).received h 0x0101).modeThen = s.eng.modeThen := Engine.modeThen_congr (by simp)
  rw [Engine.modeSet_allowed _ hm (by simpa using shut) (by rwa [then_])]
  refine ⟨Engine.replied_ok ((s.eng.at t).received h 0x0101) h 0x0101, ?_, ?_⟩
  · exact (((Engine.received_only _ _ _).andThen (Engine.ok_only _ _ _)).andThen (Engine.addPend_only _ _)).within
  · simp [Engine.pendRequest, Engine.addPend]

theorem does_modeSet_refused (hg : s.takes t h 0x0101) (hm : modeOf mode = some m)
    (no : s.eng.sys.lampOpen = true ∨ modeAllowed s.eng.modeThen m = false) :
    Does (.modeSet t h mode preview) t s fun a b => b.replied h 0x0101 .state .none [] ∧
      Engine.changesOnly [.ctl, .ep, .counters] a b := by
  refine Does.of_request h 0x0101 (·.modeSet h mode preview) rfl hg ?_
  have then_ : ((s.eng.at t).received h 0x0101).modeThen = s.eng.modeThen := Engine.modeThen_congr (by simp)
  rw [Engine.modeSet_refused _ hm (by simpa [then_] using no)]
  exact ⟨Engine.replied_refuse _ _ _ _ _, Engine.received_then_only h 0x0101 (Engine.refuse_only _ _ _ _ _)⟩

theorem does_autoPreview (hr : s.eng.sys.phase = .running) (due : s.eng.sys.autoDue = true)
    (moment : (s.eng.at t).autoMoment = true) (shut : s.eng.sys.lampOpen = false)
    (ok : modeAllowed s.eng.modeThen .preview = true) :
    Does (.autoPreview t) t s fun a b => Engine.changesOnly [.sys] a b ∧
      b.sys = { a.sys with autoDue := false, pend := a.sys.pend ++ [⟨.request, .preview, false, a.now + ms 2, none, false, none,
        0x0101, 0, false, [], 0, none, true⟩] } := by
  have accepted : (s.eng.at t).autoPreview =
      Engine.pendRequest .preview false none 0
        { s.eng.at t with sys := { (s.eng.at t).sys with autoDue := false } } := by
    have then_ : Engine.modeThen { s.eng.at t with sys := { (s.eng.at t).sys with autoDue := false } } = s.eng.modeThen := by
      simp [Engine.modeThen]
    unfold Engine.autoPreview
    dsimp only
    rw [if_neg (by simp [due, moment]), then_, if_neg (by simp [shut, ok])]
  refine Does.of_live (·.autoPreview) rfl hr ?_
  dsimp only
  rw [accepted]
  exact ⟨Engine.changesOnly_trans (Engine.setSys_only _ _) (Engine.addPend_only _ _), rfl⟩

end

/-! The boundary. -/

section
variable (e : Engine)

theorem Engine.classVRelease_off (h : e.clk.classV = false) : e.classVRelease = e := by
  unfold Engine.classVRelease
  split
  · rfl
  · rw [if_pos (by simp [h])]

theorem Engine.frameBegin_only : Engine.changesOnly [.proj, .phaseIn] e e.frameBegin := by
  intro p hp
  cases p with
  | proj | phaseIn => exact absurd (by decide) hp
  | _ => rfl

/-- Where no sensor is live no run starts (R89). -/
theorem Engine.canStart_not_live (h : e.sys.sensorsLive = false) : e.canStart = false := by
  simp [Engine.canStart, h]

/-- A mode that keeps no sensors live is entered from STANDBY: the start-up window closes, and MODE_CHANGED is sent (R18, R368). -/
theorem Engine.modeEnter_from_standby {m : Mode} (preview : Bool) (owner : Option Client) (hm : e.sys.mode = .standby)
    (hs : m ≠ .service) :
    Engine.changesOnly [.time, .sys, .ctl, .ep, .counters] e (e.modeEnter m preview owner) ∧
      (e.modeEnter m preview owner).sys = { e.sys with mode := m, preview := preview } := by
  have left : e.modeLeave = e.modTime fun b => { b with window := false } := by rw [Engine.modeLeave, hm]
  have time : Engine.changesOnly [.time] e (e.modTime fun b => { b with window := false }) := by
    intro p hp
    cases p with
    | time => exact absurd (by decide) hp
    | _ => rfl
  have notCal : (decide (m = .service) && preview) = false := by simp [hs]
  unfold Engine.modeEnter
  dsimp only
  rw [left, notCal, if_neg Bool.false_ne_true]
  exact ⟨((time.andThen (Engine.setSys_only _ _)).andThen (Engine.notify_only _ _ _ _)).within, Engine.notify_sys _ _ _ _⟩

/-- A mode request whose instant has come takes effect, alone (R18, R19). -/
theorem Engine.boundaryMode_request (ks : KeyStore) {p : PendMode} (pend : e.sys.pend = [p]) (kind : p.kind = .request)
    (free : p.held = false) (timed : p.cfn = none) (told : p.told = true) (due : p.notBefore ≤ e.now) :
    e.boundaryMode ks = Engine.modeEnter p.mode p.preview p.client { e with sys := { e.sys with pend := [] } } := by
  have isDue : e.pendDue p = true := by
    rw [Engine.pendDue, free, if_neg Bool.false_ne_true, timed]
    exact decide_eq_true due
  unfold Engine.boundaryMode
  rw [pend]
  dsimp only
  rw [isDue, free, if_pos (by decide), Engine.pendApply, Engine.tellLanded, told, kind]

/-- With nothing recorded the recorder has nothing to go on with. -/
theorem Engine.recPump_idle (h : e.rec_.takes = []) : e.recPump = e := by
  rw [Engine.recPump, h]
  rfl

/-- What a boundary does of itself, up to the recorder and the endpoint. -/
theorem Engine.boundaryRest_only (c : Nat) (x : Int) :
    let y := (e.capStates.auxTake.audFrameEnd c).selsAtBoundary
    Engine.changesOnly [.ports, .pins, .aux, .counters, .aud, .colour, .log] e (if y.proj.run then y else y.lutSwaps none x) := by
  have taken := ((e.capStates_only.andThen (Engine.auxTake_only _)).andThen (Engine.audFrameEnd_only _ c)).andThen
    (Engine.selsAtBoundary_only _)
  dsimp only
  split
  · exact taken.within
  · exact (taken.andThen (Engine.lutSwaps_only _ _ _)).within

/-- Where no run goes on, none can start and no mode change is due, the runs of a boundary change nothing. -/
theorem Engine.boundaryRun_idle (ks : KeyStore) (still : e.proj.run = false) (no : e.canStart = false) :
    e.boundaryRun ks = e := by
  rw [Engine.boundaryRun, still, no]
  rfl

/-- A boundary in STANDBY whose one due request leads to a mode without live sensors: that mode is all that changes of the modes. -/
theorem Engine.projectFrameBoundary_request (ks : KeyStore) {p : PendMode} (pend : e.sys.pend = [p]) (kind : p.kind = .request)
    (free : p.held = false) (timed : p.cfn = none) (told : p.told = true) (due : p.notBefore ≤ e.now)
    (standby : e.sys.mode = .standby) (dark : Sys.sensorsLive { e.sys with mode := p.mode, preview := p.preview } = false)
    (other : p.mode ≠ .service) (still : e.proj.run = false) (awake : e.clk.classV = false) (idle : e.rec_.takes = [])
    (aligned : e.phaseIn.realign = false) :
    (e.projectFrameBoundary ks).sys = { e.sys with mode := p.mode, preview := p.preview, pend := [] } := by
  have begun := e.frameBegin_only
  have sys : e.sys = e.frameBegin.sys := begun.sys_eq.symm
  have now : e.now = e.frameBegin.now := begun.now_eq.symm
  obtain ⟨entered, modes⟩ := Engine.modeEnter_from_standby { e.frameBegin with sys := { e.frameBegin.sys with pend := [] } }
    p.preview p.client (by rwa [← sys]) other
  unfold Engine.projectFrameBoundary
  dsimp only
  rw [e.classVRelease_off awake, aligned, Bool.false_and, if_neg Bool.false_ne_true,
    e.frameBegin.boundaryMode_request ks (by rwa [← sys]) kind free timed told (by rwa [← now])]
  generalize Engine.modeEnter p.mode p.preview p.client _ = b at entered modes
  have run : b.proj.run = false := by rw [entered.proj_eq]; exact still
  have takes : b.rec_.takes = [] := by rw [entered.rec_eq]; exact idle
  have no : b.canStart = false := b.canStart_not_live (by rw [modes]; exact dark)
  rw [no, Bool.and_false, if_neg Bool.false_ne_true, b.boundaryRun_idle ks run no]
  have rest := b.boundaryRest_only b.proj.baseCfn (b.capStates.auxTake.audFrameEnd b.proj.baseCfn).selsAtBoundary.now
  dsimp only at rest
  rw [Engine.recPump_idle _ (by rw [rest.rec_eq]; exact takes),
    (rest.andThen (Engine.epPump_only _)).sys_eq, modes, sys]

end

theorem does_projectFrameBoundary_offload {t : Nat} {p : PendMode} {s : State} (hr : s.eng.sys.phase = .running)
    (pend : s.eng.sys.pend = [p]) (kind : p.kind = .request) (mode : p.mode = .offload) (flag : p.preview = false)
    (free : p.held = false) (timed : p.cfn = none) (told : p.told = true) (due : p.notBefore ≤ (s.eng.at t).now)
    (standby : s.eng.sys.mode = .standby) (still : s.eng.proj.run = false) (awake : s.eng.clk.classV = false)
    (idle : s.eng.rec_.takes = []) (aligned : s.eng.phaseIn.realign = false) :
    Does (.projectFrameBoundary t) t s fun a b => b.sys = { a.sys with mode := .offload, preview := false, pend := [] } := by
  refine Does.of_liveWith (fun _ ks e => e.projectFrameBoundary ks) rfl hr ?_
  dsimp only
  rw [(s.eng.at t).projectFrameBoundary_request s.ks (by simpa using pend) kind free timed told due (by simpa using standby)
    (by rw [mode, flag]; rfl) (by simp [mode]) (by simpa using still) (by simpa using awake) (by simpa using idle)
    (by simpa using aligned), mode, flag]

/-- Settles O16: the requests, the moment of R511, and the boundary. -/
theorem modeChangesTakeEffectAtBoundary : Obligations.ModeChangesTakeEffectAtBoundary := by
  unfold Obligations.ModeChangesTakeEffectAtBoundary
  exact ⟨fun _ _ _ _ _ _ => does_modeSet, fun _ _ _ _ _ _ => does_modeSet_refused, fun _ _ => does_autoPreview,
    fun _ _ _ => does_projectFrameBoundary_offload⟩

end Sys2Proof.Machine
end

section
/-! Record controls outside a run (O17; R18, R258, R381, R465). -/

namespace Sys2Proof.Machine
set_option Elab.async false

section
variable (e : Engine)

/-! What reading the volumes and hearing a client leave of the recording set. -/

theorem Engine.readVolumes_only (vols : List VolNow) : Engine.changesOnly [.recorder] e (e.readVolumes vols) := by
  refine Engine.changesOnly_foldl _ (fun e v => ?_) vols e
  split
  · exact e.modMedia_only _ _
  · exact Engine.changesOnly_refl _ e

/-- A property of drives that a change of one drive keeps, and all of the recorder but its drives, is as it was. -/
theorem Engine.modMedia_mport_keeps {β : Type} (g : MediaPort → β) (m k : Nat) (f : MediaPort → MediaPort)
    (h : ∀ q, g (f q) = g q) : g ((e.modMedia m f).mport k) = g (e.mport k) :=
  vget_vmod_keeps g e.rec_.ports m k f MediaPort.reset h

/-- Reading the volumes changes the free space and the folders of drives, nothing else that a set is chosen by. -/
theorem Engine.readVolumes_mport (vols : List VolNow) (k : Nat) :
    (((e.readVolumes vols).mport k).state, ((e.readVolumes vols).mport k).qual) = ((e.mport k).state, (e.mport k).qual) := by
  refine Engine.foldl_keeps (fun e => ((e.mport k).state, (e.mport k).qual)) _ (fun e v => ?_) vols e
  split
  · exact e.modMedia_mport_keeps (fun q => (q.state, q.qual)) _ k _ fun _ => rfl
  · rfl

theorem Engine.readVolumes_takes (vols : List VolNow) : (e.readVolumes vols).rec_.takes = e.rec_.takes := by
  refine Engine.foldl_keeps (·.rec_.takes) _ (fun e v => ?_) vols e
  split
  · rfl
  · rfl

theorem Engine.readVolumes_reel (vols : List VolNow) : (e.readVolumes vols).rec_.reel = e.rec_.reel := by
  refine Engine.foldl_keeps (·.rec_.reel) _ (fun e v => ?_) vols e
  split
  · rfl
  · rfl

/-- A recording set is chosen by the drives' states and qualifications, the clips, the pending changes and the configuration. -/
theorem Engine.recSet_congr {a b : Engine} (hq : ∀ k, ((a.mport k).state, (a.mport k).qual) = ((b.mport k).state, (b.mport k).qual))
    (ht : a.rec_.takes = b.rec_.takes) (hs : a.sys = b.sys) (hc : a.cfg = b.cfg) : a.recSet = b.recSet := by
  have same (k : Nat) : a.eligible k = b.eligible k := by
    obtain ⟨state, qual⟩ := Prod.mk.inj (hq k)
    simp only [Engine.eligible, Engine.inClosing, Engine.inSet, state, qual, ht, hs, hc]
  simp only [Engine.recSet, funext same]

/-- With the volumes read, the recording set is the one before. -/
theorem Engine.readVolumes_recSet (vols : List VolNow) : (e.readVolumes vols).recSet = e.recSet :=
  Engine.recSet_congr (e.readVolumes_mport vols) (e.readVolumes_takes vols)
    (e.readVolumes_only vols).sys_eq
    (e.readVolumes_only vols).cfg_eq

theorem Engine.received_recSet (h : MsgHdr) (ty : Nat) : (e.received h ty).recSet = e.recSet :=
  Engine.recSet_congr (fun k => by simp [Engine.mport]) (by simp) (by simp) (by simp)

/-! Acceptance. -/

/-- A control accepted outside a run is answered, and pends for the next run (R465). -/
theorem Engine.recAccept_idle (h : MsgHdr) (ty : Nat) (p : PendMode) (target : Option Nat) (still : e.proj.run = false) :
    Engine.changesOnly [.sys, .ctl, .ep, .counters] e (e.recAccept h ty p target) ∧
      (e.recAccept h ty p target).replied h ty .ok .none [] ∧
      (e.recAccept h ty p target).sys.pend = e.sys.pend ++ [{ p with held := true, told := e.sys.pend.isEmpty }] := by
  have answered := e.replied_ok h ty
  have pends := (e.ok_only h ty).andThen (Engine.addPend_only _ { p with held := true, told := e.sys.pend.isEmpty })
  unfold Engine.recAccept
  rw [still, if_neg Bool.false_ne_true]
  dsimp only
  split
  · refine ⟨(pends.andThen (Engine.landed_only _ _ _ _ _ _ _ _)).within, ?_, ?_⟩
    · exact Engine.replied_congr answered (Engine.notify_sent _ _ _ _)
    · rw [Engine.landed_sys, Engine.addPend, Engine.ok_sys]
  · refine ⟨pends.within, answered, ?_⟩
    rw [Engine.addPend, Engine.ok_sys]

/-- The drives of a set become RECORDING (R258, R287). -/
theorem Engine.setRecording_only (set : List Nat) : Engine.changesOnly [.recorder] e
    (set.foldl (fun e m => e.modMedia m fun q => { q with state := .recording }) e) :=
  Engine.changesOnly_foldl _ (fun e m => e.modMedia_only m _) set e

theorem Engine.setRecording_state {set : List Nat} {m : Nat} (hm : m < 4) (h : m ∈ set ∨ (e.mport m).state = .recording) :
    ((set.foldl (fun e m => e.modMedia m fun q => { q with state := .recording }) e).mport m).state = .recording := by
  induction set generalizing e with
  | nil => exact h.resolve_left List.not_mem_nil
  | cons k r ih =>
    refine ih _ ?_
    by_cases hk : m = k
    · subst hk
      exact .inr (congrArg MediaPort.state (vget_vmod_same e.rec_.ports hm _ _))
    · refine h.imp (fun hmem => List.mem_of_ne_of_mem hk hmem) fun hs => ?_
      exact (congrArg MediaPort.state (vget_vmod_ne e.rec_.ports (Ne.symm hk) _ _)).trans hs

/-- A record start that its rules allow, outside a run: what it answers, the change that pends, and the drives of its set. -/
theorem Engine.recStartAccept_idle (h : MsgHdr) (ty reel : Nat) (clip target : Option Nat) (still : e.proj.run = false) :
    (e.recStartAccept h ty reel clip target).replied h ty .ok .none [] ∧
      (∃ p : PendMode, (e.recStartAccept h ty reel clip target).sys.pend = e.sys.pend ++ [p] ∧ p.kind = .recStart ∧ p.mode = .record ∧
        p.held = true ∧ p.set = e.recSet ∧ p.reel = reel ∧ p.clip = clip) ∧
      (∀ m ∈ e.recSet, m < 4 → ((e.recStartAccept h ty reel clip target).mport m).state = .recording) ∧
      Engine.changesOnly [.sys, .ctl, .ep, .counters, .recorder] e (e.recStartAccept h ty reel clip target) := by
  have set := e.setRecording_only e.recSet
  have drives := fun m (hm : m ∈ e.recSet) (h4 : m < 4) => e.setRecording_state h4 (.inl hm)
  unfold Engine.recStartAccept
  extract_lets chosen p b
  have run : b.proj.run = false := by rwa [set.proj_eq]
  have sys : e.sys = b.sys := set.sys_eq.symm
  obtain ⟨only, replied, pend⟩ := b.recAccept_idle h ty p target run
  have sync := Engine.epSync_only (b.recAccept h ty p target)
  rw [← sys] at pend
  have pends := (congrArg Sys.pend sync.sys_eq).trans pend
  refine ⟨?_, ⟨_, pends, rfl, rfl, rfl, rfl, rfl, rfl⟩, fun m hm h4 => ?_, ((set.andThen only).andThen sync).within⟩
  · exact Engine.replied_congr replied (congrArg Control.sent sync.ctl_eq)
  · have recorder : b.rec_ = (b.recAccept h ty p target).epSync.rec_ :=
      (only.andThen sync).rec_eq.symm
    rw [Engine.mport, ← recorder]
    exact drives m hm h4

/-- A record stop outside a run is answered, and pends for the next run (R465). -/
theorem Engine.recStopAccept_idle (h : MsgHdr) (ty : Nat) (target : Option Nat) (still : e.proj.run = false) :
    (e.recStopAccept h ty target).replied h ty .ok .none [] ∧
      (∃ p : PendMode, (e.recStopAccept h ty target).sys.pend = e.sys.pend ++ [p] ∧ p.kind = .recStop ∧ p.mode = .preview ∧
        p.held = true) ∧
      Engine.changesOnly [.sys, .ctl, .ep, .counters] e (e.recStopAccept h ty target) := by
  obtain ⟨only, replied, pend⟩ := e.recAccept_idle h ty
    ⟨.recStop, .preview, false, e.now, none, false, some h.client, ty, h.seq, false, [], 0, none, false⟩ target still
  exact ⟨replied, ⟨_, pend, rfl, rfl, rfl⟩, only⟩

/-- The same for a record start of an array member whose clip is its own (R381). -/
theorem Engine.arrayRecordStart_idle (ks : KeyStore) (h : MsgHdr) (pfi : Nat) (vols : List VolNow) (member : e.cfg.arrayEn = true)
    (own : e.cfg.sharedClip = false) (mode : e.modeThen = .preview)
    (ok : (e.readVolumes vols).recordRefusal ks e.rec_.reel none = none) :
    e.arrayRecordStart ks h pfi true 0 0 e.cfg.arrayId vols =
      (e.readVolumes vols).recStartAccept h 0x0803 e.rec_.reel none none := by
  have mine : e.arrayRefusal pfi true e.cfg.arrayId .preview = none := by simp [Engine.arrayRefusal, member, mode]
  unfold Engine.arrayRecordStart
  dsimp only
  rw [if_neg (by simp [own]), mine]
  dsimp only
  simp only [own, Bool.false_eq_true, if_false, ok, Bool.false_and]
  rfl

theorem Engine.arrayRecordStop_idle (h : MsgHdr) (pfi : Nat) (member : e.cfg.arrayEn = true) (mode : e.modeThen = .record) :
    e.arrayRecordStop h pfi true e.cfg.arrayId = e.recStopAccept h 0x0804 none := by
  have mine : e.arrayRefusal pfi true e.cfg.arrayId .record = none := by simp [Engine.arrayRefusal, member, mode]
  rw [Engine.arrayRecordStop, mine]
  rfl

/-- A record start reaches R258 in PREVIEW, with a target that it may have (R18, R465), and is accepted. -/
theorem Engine.recordStart_accepted (ks : KeyStore) (h : MsgHdr) {tg : Target} (vols : List VolNow) (asap : tg.asap = true)
    (okTg : targetOk tg false false = true) (mode : e.modeThen = .preview)
    (ok : (e.readVolumes vols).recordRefusal ks e.rec_.reel none = none) :
    e.recordStart ks h tg vols = (e.readVolumes vols).recStartAccept h 0x0301 e.rec_.reel none none := by
  rw [Engine.recordStart, okTg, asap]
  simp [mode, e.readVolumes_reel, ok]

/-- The same where a bullet of R258 refuses it. -/
theorem Engine.recordStart_refused (ks : KeyStore) (h : MsgHdr) {tg : Target} (vols : List VolNow) {n : Nat}
    (asap : tg.asap = true) (okTg : targetOk tg false false = true) (mode : e.modeThen = .preview)
    (no : (e.readVolumes vols).recordRefusal ks e.rec_.reel none = some n) :
    e.recordStart ks h tg vols = (e.readVolumes vols).recRefuse h 0x0301 (.recordBullet n) := by
  rw [Engine.recordStart, okTg, asap]
  simp [mode, e.readVolumes_reel, no]

/-- Outside a run a record start cannot have a target (R465). -/
theorem Engine.recordStart_targeted (ks : KeyStore) (h : MsgHdr) {tg : Target} (vols : List VolNow) (asap : tg.asap = false)
    (okTg : targetOk tg false false = true) (mode : e.modeThen = .preview) (still : e.proj.run = false) :
    e.recordStart ks h tg vols = e.refuse h 0x0301 .state .noRun := by
  rw [Engine.recordStart, okTg, asap]
  simp [mode, still]

theorem Engine.recordStop_accepted (h : MsgHdr) {tg : Target} (asap : tg.asap = true) (okTg : targetOk tg false false = true)
    (mode : e.modeThen = .record) : e.recordStop h tg = e.recStopAccept h 0x0302 none := by
  rw [Engine.recordStop, okTg, asap]
  simp [mode]

/-- A record start that R258 refuses is answered REFUSED, and counted. -/
theorem Engine.recRefuse_effect (h : MsgHdr) (ty : Nat) (rs : Reason) :
    Engine.changesOnly [.ctl, .ep, .counters] e (e.recRefuse h ty rs) ∧ (e.recRefuse h ty rs).replied h ty .refused rs [] ∧
      Engine.counted .recStartRefused 0x0200 e (e.recRefuse h ty rs) := by
  refine ⟨((e.refuse_only _ _ _ _).andThen (Engine.bump_only _ _ _)).within, ?_, ?_⟩
  · exact Engine.replied_congr (e.replied_refuse h ty _ rs) (by rw [Engine.recRefuse, Engine.bump_ctl])
  · exact Engine.counted_of_counters (Engine.counted_bump _ _ _) (e.reply_counters h ty _ rs [] (by decide)).symm rfl

/-- A record start that is received, its volumes read, and accepted outside a run, against the engine that received it. -/
theorem Engine.recStart_received (h : MsgHdr) (ty : Nat) (vols : List VolNow) {b : Engine} (still : e.proj.run = false)
    (hb : ((e.received h ty).readVolumes vols).recStartAccept h ty (e.received h ty).rec_.reel none none = b) :
    b.replied h ty .ok .none [] ∧
      (∃ p : PendMode, b.sys.pend = e.sys.pend ++ [p] ∧ p.kind = .recStart ∧ p.mode = .record ∧ p.held = true ∧ p.set = e.recSet ∧
        p.reel = e.rec_.reel ∧ p.clip = none) ∧
      (∀ m ∈ e.recSet, m < 4 → (b.mport m).state = .recording) ∧
      Engine.changesOnly [.sys, .ctl, .ep, .counters, .recorder] e b := by
  have heard := (e.received_only h ty).andThen (Engine.readVolumes_only _ vols)
  have set : ((e.received h ty).readVolumes vols).recSet = e.recSet :=
    (Engine.readVolumes_recSet _ vols).trans (e.received_recSet h ty)
  have sys : e.sys = ((e.received h ty).readVolumes vols).sys := heard.sys_eq.symm
  have run : ((e.received h ty).readVolumes vols).proj.run = false := (congrArg Proj.run heard.proj_eq).trans still
  obtain ⟨replied, pend, drives, only⟩ := Engine.recStartAccept_idle ((e.received h ty).readVolumes vols) h ty
    (e.received h ty).rec_.reel none none run
  rw [hb, set] at drives
  rw [hb, set, ← sys, Engine.received_rec] at pend
  rw [hb] at replied only
  exact ⟨replied, pend, drives, (heard.andThen only).within⟩

/-- A record stop that is received and accepted outside a run. -/
theorem Engine.recStop_received (h : MsgHdr) (ty : Nat) {b : Engine} (still : e.proj.run = false)
    (hb : (e.received h ty).recStopAccept h ty none = b) :
    b.replied h ty .ok .none [] ∧
      (∃ p : PendMode, b.sys.pend = e.sys.pend ++ [p] ∧ p.kind = .recStop ∧ p.mode = .preview ∧ p.held = true) ∧
      Engine.changesOnly [.sys, .ctl, .ep, .counters] e b := by
  obtain ⟨replied, pend, only⟩ := (e.received h ty).recStopAccept_idle h ty none (by simpa using still)
  rw [hb, Engine.received_sys] at pend
  rw [hb] at replied only
  exact ⟨replied, pend, ((e.received_only h ty).andThen only).within⟩

end

section
variable {t : Nat} {h : MsgHdr} {s : State} {tg : Target} {vols : List VolNow}

/-- The mode that pending changes lead to is the same once a request has been received. -/
theorem received_modeThen (ty : Nat) : ((s.eng.at t).received h ty).modeThen = s.eng.modeThen :=
  Engine.modeThen_congr (by simp)

theorem does_recordStart (hg : s.takes t h 0x0301) (asap : tg.asap = true) (okTg : targetOk tg false false = true)
    (mode : s.eng.modeThen = .preview) (still : s.eng.proj.run = false)
    (ok : (((s.eng.at t).received h 0x0301).readVolumes vols).recordRefusal s.ks s.eng.rec_.reel none = none) :
    Does (.recordStart t h ⟨tg, vols⟩) t s fun a b => b.replied h 0x0301 .ok .none [] ∧
      (∃ p : PendMode, b.sys.pend = a.sys.pend ++ [p] ∧ p.kind = .recStart ∧ p.mode = .record ∧ p.held = true ∧ p.set = a.recSet ∧
        p.reel = a.rec_.reel ∧ p.clip = none) ∧ (∀ m ∈ a.recSet, m < 4 → (b.mport m).state = .recording) ∧
      Engine.changesOnly [.sys, .ctl, .ep, .counters, .recorder] a b := by
  refine Does.of_requestWith h 0x0301 (fun _ ks e => e.recordStart ks h tg vols) rfl hg ?_
  rw [Engine.recordStart_accepted _ s.ks h vols asap okTg ((received_modeThen _).trans mode) (by simpa using ok)]
  exact (s.eng.at t).recStart_received h 0x0301 vols (by simpa using still) rfl

theorem does_arrayRecordStart {pfi i : Nat} (hg : s.takes t h 0x0803) (member : s.eng.cfg.arrayEn = true)
    (own : s.eng.cfg.sharedClip = false) (mine : s.eng.cfg.arrayId = i) (mode : s.eng.modeThen = .preview)
    (still : s.eng.proj.run = false)
    (ok : (((s.eng.at t).received h 0x0803).readVolumes vols).recordRefusal s.ks s.eng.rec_.reel none = none) :
    Does (.arrayRecordStart t h pfi true 0 ⟨0, vols⟩ i) t s fun a b => b.replied h 0x0803 .ok .none [] ∧
      (∃ p : PendMode, b.sys.pend = a.sys.pend ++ [p] ∧ p.kind = .recStart ∧ p.set = a.recSet ∧ p.reel = a.rec_.reel) ∧
      Engine.changesOnly [.sys, .ctl, .ep, .counters, .recorder] a b := by
  refine Does.of_requestWith h 0x0803 (fun _ ks e => e.arrayRecordStart ks h pfi true 0 0 i vols) rfl hg ?_
  have cfg : ((s.eng.at t).received h 0x0803).cfg = s.eng.cfg := by simp
  rw [← mine, ← cfg, Engine.arrayRecordStart_idle _ s.ks h pfi vols (by rwa [cfg]) (by rwa [cfg])
    ((received_modeThen _).trans mode) (by simpa using ok)]
  obtain ⟨replied, ⟨p, pend, kind, -, -, set, reel, -⟩, -, only⟩ :=
    (s.eng.at t).recStart_received h 0x0803 vols (by simpa using still) rfl
  exact ⟨replied, ⟨p, pend, kind, set, reel⟩, only⟩

theorem does_recordStop (hg : s.takes t h 0x0302) (asap : tg.asap = true) (okTg : targetOk tg false false = true)
    (mode : s.eng.modeThen = .record) (still : s.eng.proj.run = false) :
    Does (.recordStop t h tg) t s fun a b => b.replied h 0x0302 .ok .none [] ∧
      (∃ p : PendMode, b.sys.pend = a.sys.pend ++ [p] ∧ p.kind = .recStop ∧ p.mode = .preview ∧ p.held = true) ∧
      Engine.changesOnly [.sys, .ctl, .ep, .counters] a b := by
  refine Does.of_request h 0x0302 (·.recordStop h tg) rfl hg ?_
  rw [Engine.recordStop_accepted _ h asap okTg ((received_modeThen _).trans mode)]
  exact (s.eng.at t).recStop_received h 0x0302 (by simpa using still) rfl

theorem does_arrayRecordStop {pfi i : Nat} (hg : s.takes t h 0x0804) (member : s.eng.cfg.arrayEn = true)
    (mine : s.eng.cfg.arrayId = i) (mode : s.eng.modeThen = .record) (still : s.eng.proj.run = false) :
    Does (.arrayRecordStop t h pfi true i) t s fun a b => b.replied h 0x0804 .ok .none [] ∧
      (∃ p : PendMode, b.sys.pend = a.sys.pend ++ [p] ∧ p.kind = .recStop ∧ p.mode = .preview) ∧
      Engine.changesOnly [.sys, .ctl, .ep, .counters] a b := by
  refine Does.of_request h 0x0804 (·.arrayRecordStop h pfi true i) rfl hg ?_
  have cfg : ((s.eng.at t).received h 0x0804).cfg = s.eng.cfg := by simp
  rw [← mine, ← cfg, Engine.arrayRecordStop_idle _ h pfi (by rwa [cfg]) ((received_modeThen _).trans mode)]
  obtain ⟨replied, ⟨p, pend, kind, mode, -⟩, only⟩ :=
    (s.eng.at t).recStop_received h 0x0804 (by simpa using still) rfl
  exact ⟨replied, ⟨p, pend, kind, mode⟩, only⟩

theorem does_recordStart_targeted (hg : s.takes t h 0x0301) (asap : tg.asap = false) (okTg : targetOk tg false false = true)
    (mode : s.eng.modeThen = .preview) (still : s.eng.proj.run = false) :
    Does (.recordStart t h ⟨tg, vols⟩) t s fun a b => b.replied h 0x0301 .state .noRun [] ∧
      Engine.changesOnly [.ctl, .ep, .counters] a b := by
  refine Does.of_requestWith h 0x0301 (fun _ ks e => e.recordStart ks h tg vols) rfl hg ?_
  rw [Engine.recordStart_targeted _ s.ks h vols asap okTg ((received_modeThen _).trans mode) (by simpa using still)]
  exact ⟨Engine.replied_refuse _ _ _ _ _, Engine.received_then_only h 0x0301 (Engine.refuse_only _ _ _ _ _)⟩

theorem does_recordStart_refused {n : Nat} (hg : s.takes t h 0x0301) (asap : tg.asap = true)
    (okTg : targetOk tg false false = true) (mode : s.eng.modeThen = .preview)
    (no : (((s.eng.at t).received h 0x0301).readVolumes vols).recordRefusal s.ks s.eng.rec_.reel none = some n) :
    Does (.recordStart t h ⟨tg, vols⟩) t s fun a b => b.replied h 0x0301 .refused (.recordBullet n) [] ∧
      Engine.counted .recStartRefused 0x0200 a b ∧ Engine.changesOnly [.ctl, .ep, .counters, .recorder] a b := by
  refine Does.of_requestWith h 0x0301 (fun _ ks e => e.recordStart ks h tg vols) rfl hg ?_
  rw [Engine.recordStart_refused _ s.ks h vols asap okTg ((received_modeThen _).trans mode) (by simpa using no)]
  have heard := ((s.eng.at t).received_only h 0x0301).andThen (Engine.readVolumes_only _ vols)
  obtain ⟨only, replied, counted⟩ :=
    Engine.recRefuse_effect (((s.eng.at t).received h 0x0301).readVolumes vols) h 0x0301 (.recordBullet n)
  exact ⟨replied, Engine.counted_of_counters counted (heard.counters_eq.symm) rfl,
    (heard.andThen only).within⟩

end

/-- Settles O17: starts, stops, and the two refusals. -/
theorem recordControlsPend : Obligations.RecordControlsPend := by
  unfold Obligations.RecordControlsPend
  exact ⟨fun _ _ _ _ _ => does_recordStart, fun _ _ _ _ _ _ => does_arrayRecordStart, fun _ _ _ _ => does_recordStop,
    fun _ _ _ _ _ => does_arrayRecordStop, fun _ _ _ _ _ => does_recordStart_targeted,
    fun _ _ _ _ _ _ hg asap okTg mode _ => does_recordStart_refused hg asap okTg mode⟩

end Sys2Proof.Machine
end

section
/-! Deadlines 2 and 3 of R11 missed (O22; R161, R451, R453): a matrix, a selection or a profile slips by one frame. -/

namespace Sys2Proof.Machine
set_option Elab.async false

section
variable (e : Engine)

/-! What a missed deadline marks and logs. -/

theorem Engine.incomplete_only (p c : Nat) : Engine.changesOnly [.ports] e (e.incomplete p c) := e.modPort_only _ _

/-- The frame of the port is among those that are late. -/
theorem Engine.incomplete_lateCfns {p : Nat} (hp : p < 2) (c : Nat) : c ∈ ((e.incomplete p c).port p).lateCfns := by
  have late := congrArg Port.lateCfns (vget_vmod_same e.ports hp (fun q => { q with lateCfns := q.lateCfns ++ [c] }) Port.reset)
  exact late ▸ List.mem_append_right _ (List.mem_singleton.2 rfl)

/-- A frame that is late stays late when another one is. -/
theorem Engine.incomplete_keeps {p q c d : Nat} (h : c ∈ (e.port q).lateCfns) : c ∈ ((e.incomplete p d).port q).lateCfns := by
  by_cases hq : p = q
  · subst hq
    by_cases hp : p < 2
    · have late := congrArg Port.lateCfns
        (vget_vmod_same e.ports hp (fun q => { q with lateCfns := q.lateCfns ++ [d] }) Port.reset)
      exact late ▸ List.mem_append_left _ h
    · have same : (e.incomplete p d).ports = e.ports := dif_neg hp
      rwa [Engine.port, same]
  · have same : (e.incomplete p d).port q = e.port q := vget_vmod_ne e.ports hq _ _
    rwa [same]

theorem Engine.fwOverrun_only (src code core num unit : Nat) :
    Engine.changesOnly [.counters, .cluster, .log] e (e.fwOverrun src code core num unit) :=
  (((e.bumpN_only _ _ _ _).andThen (Engine.setCluster_only _ _)).andThen (Engine.emit_only _ _ _ _)).within

/-- FW_OVERRUN is the one event, with its code, core, frame and unit. -/
theorem Engine.fwOverrun_events {a : Engine} (h : e.log = a.log) (src code core num unit : Nat) :
    Engine.newEvents a (e.fwOverrun src code core num unit) =
      [(src, .fwOverrun, le 1 code ++ le 1 core ++ le 4 num ++ le 1 unit)] := by
  have fits : (le 1 code ++ le 1 core ++ le 4 num ++ le 1 unit).take 14 = le 1 code ++ le 1 core ++ le 4 num ++ le 1 unit :=
    List.take_of_length_le (by simp [Laws.le_length])
  unfold Engine.fwOverrun
  rw [Engine.newEvents_emit _ _ _ _ _ (by simpa using h), fits]

theorem Engine.moveProfile_only (cl : Client) (seq c : Nat) :
    Engine.changesOnly [.ports, .raw, .md, .colour] e (e.moveProfile cl seq c) := by
  intro p hp
  cases p with
  | ports | raw | md | colour => exact absurd (by decide) hp
  | _ => rfl

/-! MATRIX_DEADLINE (R161). -/

/-- One white balance change of the port is due: the frame is late, and the change moves to the frame after. -/
theorem Engine.matrixDeadline_due {p : Nat} {x : WbChange} (run : e.proj.run = true)
    (pend : (vget e.colour.ports p ColourPort.reset).pend = [x]) (due : x.cfn = e.proj.nextCfn) (own : x.ty ≠ 0x0204) :
    let m := (e.incomplete p e.proj.nextCfn).fwOverrun (0x0148 + p) 2 1 e.proj.nextCfn p
    e.matrixDeadline p false = Engine.landed x.client x.ty x.seq (cfnAdd e.proj.nextCfn 1) p false true
      { m with colour := { m.colour with ports := vmod m.colour.ports p fun q => { q with
          pend := q.pend.map fun y => if y = x then { y with cfn := cfnAdd e.proj.nextCfn 1 } else y } } } := by
  unfold Engine.matrixDeadline
  simp [pend, due, run, own]

end

section
variable {t : Nat} {s : State}

theorem does_matrixDeadline_missed {p : Fin 2} {x : WbChange} (hr : s.eng.sys.phase = .running) (run : s.eng.proj.run = true)
    (pend : (vget s.eng.colour.ports p ColourPort.reset).pend = [x]) (due : x.cfn = s.eng.proj.nextCfn) (own : x.ty ≠ 0x0204) :
    Does (.matrixDeadline t p false) t s fun a b =>
      (vget b.colour.ports p ColourPort.reset).pend = [{ x with cfn := cfnAdd a.proj.nextCfn 1 }] ∧
      a.proj.nextCfn ∈ (b.port p).lateCfns ∧
      Engine.newEvents a b = [(0x0148 + p.val, .fwOverrun, le 1 2 ++ le 1 1 ++ le 4 a.proj.nextCfn ++ le 1 p)] ∧
      Engine.changesOnly [.colour, .ports, .cluster, .log, .ctl, .ep, .counters] a b := by
  refine Does.of_live (·.matrixDeadline p false) rfl hr ?_
  rw [Engine.matrixDeadline_due (s.eng.at t) (by simpa using run) (by simpa using pend) (by simpa using due) own]
  have late := (s.eng.at t).incomplete_only p (s.eng.at t).proj.nextCfn
  have logged := ((s.eng.at t).incomplete p (s.eng.at t).proj.nextCfn).fwOverrun_only (0x0148 + p) 2 1
    (s.eng.at t).proj.nextCfn p
  refine ⟨?_, ?_, ?_, (((late.andThen logged).andThen (Engine.setColour_only _ _)).andThen
    (Engine.landed_only _ _ _ _ _ _ _ _)).within⟩
  · rw [Engine.landed_colour]
    dsimp only
    rw [(late.andThen logged).colour_eq, Engine.at_colour, vget_vmod_same _ p.isLt, pend]
    exact congrArg (· :: []) (if_pos rfl)
  · rw [Engine.port, Engine.landed_ports]
    dsimp only
    rw [logged.ports_eq]
    exact (s.eng.at t).incomplete_lateCfns p.isLt _
  · rw [Engine.newEvents_of_log _ (Engine.landed_log _ _ _ _ _ _ _ _)]
    exact Engine.fwOverrun_events _ late.log_eq _ _ _ _ _

theorem does_matrixDeadline_ready {p : Fin 2} (hr : s.eng.sys.phase = .running) :
    Does (.matrixDeadline t p true) t s fun a b => b = a :=
  Does.of_live (·.matrixDeadline p true) rfl hr rfl

theorem does_selectionDeadline_ready (hr : s.eng.sys.phase = .running) :
    Does (.selectionDeadline t true) t s fun a b => b = a := by
  refine Does.of_live (·.selectionDeadline true) rfl hr ?_
  rw [Engine.selectionDeadline, Bool.true_or, Bool.true_or, if_pos rfl]

end

/-! SELECTION_DEADLINE (R453). -/

section
variable (e : Engine)

/-- The selections that are due on a frame, with their branches. -/
def Engine.selsDue (c : Nat) (e : Engine) : List (Nat × LutSel) :=
  (List.range 6).flatMap fun b => ((vget e.colour.branches b Branch.reset).sels.filter (·.cfn = some c)).map fun x => (b, x)

/-- A selection of a client's own moves from frame c to the next. -/
def LutSel.slipped (c : Nat) (x : LutSel) : LutSel :=
  if x.cfn = some c ∧ x.ty ≠ 0x0204 then { x with cfn := some (cfnAdd c 1) } else x

/-- The selections of every branch after a missed deadline. -/
def Engine.selsSlip (c : Nat) (e : Engine) : Engine :=
  { e with colour := { e.colour with branches := e.colour.branches.map fun q => { q with sels := q.sels.map (·.slipped c) } } }

theorem Engine.selsSlip_only (c : Nat) : Engine.changesOnly [.colour] e (e.selsSlip c) := e.setColour_only _

/-- With no selections anywhere but those given on one branch, the due ones are those. -/
theorem Engine.selsDue_one {k : Fin 6} {x : LutSel} {c : Nat}
    (h : ∀ j : Fin 6, (vget e.colour.branches j Branch.reset).sels = if j = k then [x] else []) (due : x.cfn = some c) :
    e.selsDue c = [(k.val, x)] := by
  have each : ∀ b ∈ List.range 6, ((vget e.colour.branches b Branch.reset).sels.filter (·.cfn = some c)).map (fun x => (b, x)) =
      if b = k.val then [(k.val, x)] else [] := by
    intro b hb
    have sels := h ⟨b, List.mem_range.1 hb⟩
    dsimp only at sels
    rw [sels]
    by_cases hk : b = k.val
    · rw [if_pos (Fin.ext hk), if_pos hk, List.filter_singleton, decide_eq_true due, hk]
      rfl
    · rw [if_neg (fun h => hk (congrArg Fin.val h)), if_neg hk]
      rfl
  rw [Engine.selsDue, List.flatMap_congr each]
  fin_cases k <;> rfl

theorem Engine.selsDue_none {c : Nat} (h : ∀ j : Fin 6, (vget e.colour.branches j Branch.reset).sels = []) :
    e.selsDue c = [] := by
  refine List.flatMap_eq_nil_iff.2 fun b hb => ?_
  rw [h ⟨b, List.mem_range.1 hb⟩]
  rfl

theorem Engine.selectionDeadline_sels {k : Nat} {x : LutSel} (run : e.proj.run = true)
    (due : e.selsDue e.proj.nextCfn = [(k, x)]) (own : x.ty ≠ 0x0204) (bare : ∀ y ∈ e.md.profs, y.cfn ≠ e.proj.nextCfn) :
    e.selectionDeadline false = Engine.landed x.client x.ty x.seq (cfnAdd e.proj.nextCfn 1) 0 false true
      (((e.incomplete (e.cfg.brSrc k) e.proj.nextCfn).fwOverrun (0x0150 + k) 3 1 e.proj.nextCfn k).selsSlip
        e.proj.nextCfn) := by
  have others : e.md.profs.filter (fun y => y.cfn = e.proj.nextCfn &&
      !([(k, x)].any fun q => q.2.ty = 0x0204 && q.2.client = y.client && q.2.seq = y.seq)) = [] := by
    refine List.filter_eq_nil_iff.2 fun y hy => ?_
    rw [decide_eq_false (bare y hy), Bool.false_and]
    exact Bool.false_ne_true
  unfold Engine.selsDue at due
  unfold Engine.selectionDeadline
  dsimp only
  rw [due, others, run]
  simp [nubList, own, Engine.selsSlip, LutSel.slipped]

theorem Engine.selectionDeadline_profile {x : ProfSel} (run : e.proj.run = true) (none : e.selsDue e.proj.nextCfn = [])
    (bare : e.md.profs = [x]) (due : x.cfn = e.proj.nextCfn) :
    e.selectionDeadline false = Engine.selsSlip e.proj.nextCfn (Engine.landed x.client 0x0204 x.seq
      (cfnAdd e.proj.nextCfn 1) 0 false true (e.profileMissed e.proj.nextCfn x)) := by
  unfold Engine.selsDue at none
  unfold Engine.selectionDeadline
  dsimp only
  rw [none, bare, run]
  simp [nubList, due, Engine.selsSlip, LutSel.slipped]

end

section
variable {t : Nat} {s : State}

theorem does_selectionDeadline_sels {k : Fin 6} {x : LutSel} (hr : s.eng.sys.phase = .running) (run : s.eng.proj.run = true)
    (one : ∀ j : Fin 6, (vget s.eng.colour.branches j Branch.reset).sels = if j = k then [x] else [])
    (bare : ∀ y ∈ s.eng.md.profs, y.cfn ≠ s.eng.proj.nextCfn) (due : x.cfn = some s.eng.proj.nextCfn) (own : x.ty ≠ 0x0204) :
    Does (.selectionDeadline t false) t s fun a b =>
      (vget b.colour.branches k Branch.reset).sels = [{ x with cfn := some (cfnAdd a.proj.nextCfn 1) }] ∧
      Engine.newEvents a b = [(0x0150 + k.val, .fwOverrun, le 1 3 ++ le 1 1 ++ le 4 a.proj.nextCfn ++ le 1 k)] ∧
      Engine.changesOnly [.colour, .ports, .cluster, .log, .ctl, .ep, .counters] a b := by
  refine Does.of_live (·.selectionDeadline false) rfl hr ?_
  rw [Engine.selectionDeadline_sels (s.eng.at t) (by simpa using run)
    ((s.eng.at t).selsDue_one (by simpa using one) (by simpa using due)) own (by simpa using bare)]
  have late := (s.eng.at t).incomplete_only ((s.eng.at t).cfg.brSrc k) (s.eng.at t).proj.nextCfn
  have logged := ((s.eng.at t).incomplete ((s.eng.at t).cfg.brSrc k) (s.eng.at t).proj.nextCfn).fwOverrun_only (0x0150 + k) 3 1
    (s.eng.at t).proj.nextCfn k
  refine ⟨?_, ?_, (((late.andThen logged).andThen (Engine.selsSlip_only _ _)).andThen
    (Engine.landed_only _ _ _ _ _ _ _ _)).within⟩
  · have slips : x.slipped (s.eng.at t).proj.nextCfn = { x with cfn := some (cfnAdd (s.eng.at t).proj.nextCfn 1) } :=
      if_pos ⟨by simpa using due, own⟩
    rw [Engine.landed_colour, Engine.selsSlip]
    dsimp only
    rw [(late.andThen logged).colour_eq, Engine.at_colour, vget_map _ k.isLt, one k, if_pos rfl, List.map_singleton, slips]
  · rw [Engine.newEvents_of_log _ (Engine.landed_log _ _ _ _ _ _ _ _)]
    exact Engine.fwOverrun_events _ late.log_eq _ _ _ _ _

/-- Every port that a profile has a part for is late. -/
theorem Engine.incomplete_all (e : Engine) (ps : List Nat) (c : Nat) {q : Nat} (hq : q < 2)
    (h : q ∈ ps ∨ c ∈ (e.port q).lateCfns) : c ∈ ((ps.foldl (fun e p => e.incomplete p c) e).port q).lateCfns := by
  induction ps generalizing e with
  | nil => exact h.resolve_left List.not_mem_nil
  | cons p r ih =>
    refine ih _ ?_
    by_cases hp : q = p
    · subst hp
      exact .inr (e.incomplete_lateCfns hq c)
    · exact h.imp (List.mem_of_ne_of_mem hp) e.incomplete_keeps

/-- A profile's miss: the frames of its ports are late and it is logged once, before its parts move. -/
theorem Engine.profileMissed_marks (e : Engine) (c : Nat) (x : ProfSel) :
    ∃ m, e.profileMissed c x = m.moveProfile x.client x.seq c ∧ Engine.changesOnly [.ports, .counters, .cluster, .log] e m ∧
      (∀ p ∈ e.cfg.profPorts x.profile, p < 2 ∧ c ∈ (m.port p).lateCfns) ∧
      Engine.newEvents e m = [(0x0350, .fwOverrun, le 1 3 ++ le 1 1 ++ le 4 c ++ le 1 0)] := by
  have late := Engine.changesOnly_foldl _ (fun e p => e.incomplete_only p c) (e.cfg.profPorts x.profile) e
  have logged := Engine.fwOverrun_only ((e.cfg.profPorts x.profile).foldl (fun e p => e.incomplete p c) e) 0x0350 3 1 c 0
  refine ⟨_, rfl, (late.andThen logged).within, fun p hp => ?_, Engine.fwOverrun_events _ late.log_eq _ _ _ _ _⟩
  have hp2 : p < 2 := by
    have : p ∈ [0, 1] := (List.mem_filter.1 hp).1
    simp only [List.mem_cons, List.not_mem_nil, or_false] at this
    omega
  rw [Engine.port, logged.ports_eq]
  exact ⟨hp2, e.incomplete_all _ _ hp2 (.inl hp)⟩

/-- Moving a profile's parts leaves alone which frames are late. -/
theorem Engine.moveProfile_lateCfns (e : Engine) (cl : Client) (seq c : Nat) {p : Nat} (hp : p < 2) :
    ((e.moveProfile cl seq c).port p).lateCfns = (e.port p).lateCfns := by
  unfold Engine.moveProfile Engine.port
  dsimp only
  rw [vget_map _ hp]

/-- The profile itself moves to the frame after. -/
theorem Engine.moveProfile_md (e : Engine) {x : ProfSel} (one : e.md.profs = [x]) :
    (e.moveProfile x.client x.seq x.cfn).md = { e.md with profs := [{ x with cfn := cfnAdd x.cfn 1 }] } := by
  unfold Engine.moveProfile
  dsimp only
  rw [one, List.map_singleton, if_pos ⟨rfl, rfl, rfl⟩]

theorem does_selectionDeadline_profile {x : ProfSel} (hr : s.eng.sys.phase = .running) (run : s.eng.proj.run = true)
    (none : ∀ j : Fin 6, (vget s.eng.colour.branches j Branch.reset).sels = []) (bare : s.eng.md.profs = [x])
    (due : x.cfn = s.eng.proj.nextCfn) :
    Does (.selectionDeadline t false) t s fun a b =>
      b.md = { a.md with profs := [{ x with cfn := cfnAdd x.cfn 1 }] } ∧
      (∀ p ∈ a.cfg.profPorts x.profile, x.cfn ∈ (b.port p).lateCfns) ∧
      Engine.newEvents a b = [(0x0350, .fwOverrun, le 1 3 ++ le 1 1 ++ le 4 x.cfn ++ le 1 0)] ∧
      Engine.changesOnly [.colour, .raw, .md, .ports, .cluster, .log, .ctl, .ep, .counters] a b := by
  refine Does.of_live (·.selectionDeadline false) rfl hr ?_
  have now : x.cfn = (s.eng.at t).proj.nextCfn := by simpa using due
  obtain ⟨m, missed, marked, frames, events⟩ := (s.eng.at t).profileMissed_marks x.cfn x
  rw [Engine.selectionDeadline_profile (s.eng.at t) (by simpa using run)
    ((s.eng.at t).selsDue_none (by simpa using none)) (by simpa using bare) now, ← now, missed]
  have told := Engine.landed_only (m.moveProfile x.client x.seq x.cfn) x.client 0x0204 x.seq (cfnAdd x.cfn 1) 0 false true
  have slip := told.andThen (Engine.selsSlip_only _ x.cfn)
  refine ⟨?_, fun p hp => ?_, ?_, ((marked.andThen (m.moveProfile_only _ _ _)).andThen slip).within⟩
  · exact slip.md_eq.trans ((m.moveProfile_md (by rw [marked.md_eq]; simpa using bare)).trans (by rw [marked.md_eq]))
  · obtain ⟨hp2, late⟩ := frames p hp
    rw [← m.moveProfile_lateCfns x.client x.seq x.cfn hp2, Engine.port, ← slip.ports_eq] at late
    exact late
  · rw [Engine.newEvents_of_log _ (slip.log_eq.trans (m.moveProfile_only _ _ _).log_eq)]
    exact events

end

/-- Settles O22: the two deadlines, missed and met. -/
theorem selectionDeadlinesSlip : Obligations.SelectionDeadlinesSlip := by
  unfold Obligations.SelectionDeadlinesSlip
  exact ⟨fun _ _ _ _ => does_matrixDeadline_missed, fun _ _ _ _ => does_selectionDeadline_sels,
    fun _ _ _ => does_selectionDeadline_profile, fun _ _ _ => does_matrixDeadline_ready,
    fun _ _ => does_selectionDeadline_ready⟩

end Sys2Proof.Machine
end

section
/-! Section restarts (O54; R22 to R26, R432, R449, R450): a unit is asked for, verified, stopped, resumed or failed. -/

namespace Sys2Proof.Machine
set_option Elab.async false

/-! What a reply and a notification leave of the counters. -/

/-- A reply that is not MALFORMED changes the control state and the endpoint alone. -/
theorem Engine.reply_within (e : Engine) (h : MsgHdr) (ty : Nat) {st : Status} (rs : Reason) (d : List Byte)
    (hs : st ≠ .malformed) : Engine.changesOnly [.ctl, .ep] e (e.reply h ty st rs d) := by
  unfold Engine.reply
  dsimp only
  rw [if_neg hs]
  exact ((e.transmit_only _).andThen (Engine.putClient_only _ _)).within

theorem Engine.ok_within (e : Engine) (h : MsgHdr) (ty : Nat) : Engine.changesOnly [.ctl, .ep] e (e.ok h ty) :=
  e.reply_within h ty _ _ (by decide)

theorem Engine.bumpN_ctr_ne (e : Engine) {c c' : Ctr} (hc : c ≠ c') (src src' i i' n : Nat) :
    (e.bumpN c src i n).ctr c' src' i' = e.ctr c' src' i' := by
  unfold Engine.bumpN
  split
  · rfl
  · exact ctrVal_ctrAdd_ne _ _ _ _ _ _ _ _ fun h => hc h.1

/-- A notification moves no counter but those of dropped notifications. -/
theorem Engine.notify_ctr (e : Engine) (ty : Nat) (o : Option Client) (d : List Byte) {c : Ctr} (hep : .epNotifyDrop ≠ c)
    (hctl : .ctrlNotifyDrop ≠ c) (src i : Nat) : (e.notify ty o d).ctr c src i = e.ctr c src i := by
  refine Engine.foldl_keeps (·.ctr c src i) (fun e x => e.queueTo x ty d) (fun e x => ?_) _ e
  unfold Engine.queueTo
  dsimp only
  rw [Engine.bumpN_ctr_ne _ (by split; exacts [hep, hctl]), Engine.ctr]
  split
  · rw [Engine.epEvent_counters]; rfl
  · rfl

section
variable (e : Engine)

/-! UNIT_RESTART (R22, R23). -/

theorem Engine.unitRun_congr {a b : Engine} (h : a.sys = b.sys) (u : Nat) : a.unitRun u = b.unitRun u := by
  rw [Engine.unitRun, Engine.unitRun, h]

theorem Engine.modesMet_congr {a b : Engine} (h : a.sys = b.sys) : a.modesMet = b.modesMet := by
  rw [Engine.modesMet, Engine.modesMet, h]

theorem Engine.modUnits_only (f : List UnitRun → List UnitRun) : Engine.changesOnly [.sys] e (e.modUnits f) := e.setSys_only _

variable {e}

theorem Engine.unitRestart_notFound {f : Flash} {h : MsgHdr} {u : Nat} (hu : u ≤ 65535) (ho : unitOrdinal u = none) :
    e.unitRestart f h u = e.refuse h 0x0102 .notFound .none := by
  rw [Engine.unitRestart, if_neg (by omega), ho]
  rfl

theorem Engine.unitRestart_busy {f : Flash} {h : MsgHdr} {u k : Nat} (hu : u ≤ 65535) (ho : unitOrdinal u = some k)
    (busy : e.unitRun u ≠ none ∨ e.sys.committing = true) : e.unitRestart f h u = e.refuse h 0x0102 .busy .none := by
  rw [Engine.unitRestart, if_neg (by omega), ho, if_neg (by simp), if_pos]
  simpa [Option.isSome_iff_ne_none] using busy

/-- A unit that may be asked for now: only the column Refused when of Table 1.5 is left. -/
theorem Engine.unitRestart_free {f : Flash} {h : MsgHdr} {u k : Nat} (hu : u ≤ 65535) (ho : unitOrdinal u = some k)
    (free : e.unitRun u = none) (open_ : e.sys.committing = false) :
    e.unitRestart f h u = (e.unitRefusal ((unitSlot (e.activeSlot f) u).getD []) u).elim
      ((e.unitBegin u (some h.client) h.seq).ok h 0x0102) fun x => e.refuse h 0x0102 x.1 x.2 := by
  rw [Engine.unitRestart, if_neg (by omega), ho, if_neg (by simp), if_neg (by simp [free, open_])]
  cases e.unitRefusal ((unitSlot (e.activeSlot f) u).getD []) u with
  | none => rfl
  | some x => rfl

/-- Table 1.5 refuses no audio and no position unit. -/
theorem Engine.unitRefusal_audio_pos {slot : Cfg} {u : Nat} (hk : 9 ≤ u / 256) : e.unitRefusal slot u = none := by
  obtain ⟨k, hk⟩ : ∃ k, u / 256 = k + 9 := ⟨u / 256 - 9, by omega⟩
  unfold Engine.unitRefusal
  rw [hk]
  rfl

/-- It refuses a branch that feeds the proxy while RECORD is in effect or pending. -/
theorem Engine.unitRefusal_branch {slot : Cfg} {u : Nat} (hk : u / 256 = 2) :
    e.unitRefusal slot u =
      if e.modesMet.contains .record && e.cfg.feedsProxy (u % 256) then some (.state, .none) else none := by
  unfold Engine.unitRefusal
  rw [hk]
  rfl

end

/-- A unit's number is its kind and its index (Table 1.5): branches and position channels. -/
theorem branch_unit (n : Fin 6) : (0x0200 + n.val) / 256 = 2 ∧ (0x0200 + n.val) % 256 = n := by omega

theorem pos_unit (n : Fin 8) : (0x0D00 + n.val) / 256 = 13 ∧ (0x0D00 + n.val) % 256 = n := by omega

theorem unitOrdinal_branch : ∀ n : Fin 6, unitOrdinal (0x0200 + n) = some (4 + n.val) := by decide

theorem unitOrdinal_pos : ∀ n : Fin 8, unitOrdinal (0x0D00 + n) = some (37 + n.val) := by decide

section
variable {t : Nat} {h : MsgHdr} {s : State} {u k : Nat}

theorem received_unitRun (ty u : Nat) : ((s.eng.at t).received h ty).unitRun u = s.eng.unitRun u :=
  Engine.unitRun_congr (by simp) u

/-- A request that the rules refuse changes nothing but what answers it. -/
theorem Engine.refused_received (e : Engine) (h : MsgHdr) (ty : Nat) {st : Status} (rs : Reason) (hs : st ≠ .malformed) :
    Engine.changesOnly [.ctl, .ep] e ((e.received h ty).refuse h ty st rs) ∧
      ((e.received h ty).refuse h ty st rs).replied h ty st rs [] :=
  ⟨((e.received_only h ty).andThen (Engine.reply_within _ _ _ _ _ hs)).within, Engine.replied_refuse _ _ _ _ _⟩

theorem does_unitRestart (hg : s.takes t h 0x0102) (hu : u ≤ 65535) (ho : unitOrdinal u = some k)
    (kind : 9 ≤ u / 256 ∨ (u / 256 = 2 ∧ Mode.record ∉ s.eng.modesMet)) (free : s.eng.unitRun u = none)
    (open_ : s.eng.sys.committing = false) :
    Does (.unitRestart t h u) t s fun a b => Engine.changesOnly [.sys, .ctl, .ep] a b ∧ b.replied h 0x0102 .ok .none [] ∧
      b.sys = { a.sys with units := a.sys.units ++ [⟨u, .verifying, some h.client, h.seq, a.now, 0, false⟩] } := by
  refine Does.of_requestWith h 0x0102 (fun f _ e => e.unitRestart f h u) rfl hg ?_
  have met : ((s.eng.at t).received h 0x0102).modesMet = s.eng.modesMet := Engine.modesMet_congr (by simp)
  have passes : ((s.eng.at t).received h 0x0102).unitRefusal
      ((unitSlot (((s.eng.at t).received h 0x0102).activeSlot s.flash) u).getD []) u = none := by
    rcases kind with kind | ⟨kind, calm⟩
    · exact Engine.unitRefusal_audio_pos kind
    · rw [Engine.unitRefusal_branch kind, met, if_neg (by simp [calm])]
  rw [Engine.unitRestart_free hu ho ((received_unitRun _ u).trans free) (by simpa using open_), passes]
  refine ⟨(((Engine.received_only _ _ _).andThen (Engine.modUnits_only _ _)).andThen (Engine.ok_within _ _ _)).within,
    Engine.replied_ok _ _ _, ?_⟩
  simp [Engine.unitBegin]

theorem does_unitRestart_notFound (hg : s.takes t h 0x0102) (hu : u ≤ 65535) (ho : unitOrdinal u = none) :
    Does (.unitRestart t h u) t s fun a b => Engine.changesOnly [.ctl, .ep] a b ∧ b.replied h 0x0102 .notFound .none [] := by
  refine Does.of_requestWith h 0x0102 (fun f _ e => e.unitRestart f h u) rfl hg ?_
  rw [Engine.unitRestart_notFound hu ho]
  exact Engine.refused_received _ h _ _ (by decide)

theorem does_unitRestart_busy (hg : s.takes t h 0x0102) (hu : u ≤ 65535) (ho : unitOrdinal u = some k)
    (busy : s.eng.unitRun u ≠ none ∨ s.eng.sys.committing = true) :
    Does (.unitRestart t h u) t s fun a b => Engine.changesOnly [.ctl, .ep] a b ∧ b.replied h 0x0102 .busy .none [] := by
  refine Does.of_requestWith h 0x0102 (fun f _ e => e.unitRestart f h u) rfl hg ?_
  rw [Engine.unitRestart_busy hu ho (by simpa [received_unitRun] using busy)]
  exact Engine.refused_received _ h _ _ (by decide)

theorem does_unitRestart_proxy {n : Fin 6} (hg : s.takes t h 0x0102) (free : s.eng.unitRun (0x0200 + n) = none)
    (open_ : s.eng.sys.committing = false) (recording : Mode.record ∈ s.eng.modesMet) (feeds : s.eng.cfg.feedsProxy n = true) :
    Does (.unitRestart t h (0x0200 + n)) t s fun a b =>
      Engine.changesOnly [.ctl, .ep] a b ∧ b.replied h 0x0102 .state .none [] := by
  refine Does.of_requestWith h 0x0102 (fun f _ e => e.unitRestart f h (0x0200 + n)) rfl hg ?_
  have met : ((s.eng.at t).received h 0x0102).modesMet = s.eng.modesMet := Engine.modesMet_congr (by simp)
  obtain ⟨kind, index⟩ := branch_unit n
  rw [Engine.unitRestart_free (by omega) (unitOrdinal_branch n) ((received_unitRun _ _).trans free) (by simpa using open_),
    Engine.unitRefusal_branch kind, met, index, if_pos (by simpa [recording] using feeds)]
  exact Engine.refused_received _ h _ _ (by decide)

end

/-! RESTART_VERIFY_DONE (R23 steps 2 and 3). -/

section
variable {fits fits' : Cfg → Nat → Nat → Bool}

/-- The rules of a configuration look at the LUT store for its six branches alone. -/
theorem Cfg.limBranch_congr (c : Cfg) (b : Nat) (h : ∀ k, fits c b k = fits' c b k) :
    Cfg.limBranch fits c b = Cfg.limBranch fits' c b := by
  unfold Cfg.limBranch
  dsimp only
  rw [h]

theorem Cfg.limits_congr (c : Cfg) (h : ∀ b < 6, ∀ k, fits c b k = fits' c b k) (id : Nat) :
    Cfg.limits fits c id = Cfg.limits fits' c id := by
  simp only [Cfg.limits, c.limBranch_congr 0 (h 0 (by decide)), c.limBranch_congr 1 (h 1 (by decide)),
    c.limBranch_congr 2 (h 2 (by decide)), c.limBranch_congr 3 (h 3 (by decide)), c.limBranch_congr 4 (h 4 (by decide)),
    c.limBranch_congr 5 (h 5 (by decide))]

theorem Cfg.broken_congr (c : Cfg) (h : ∀ b < 6, ∀ k, fits c b k = fits' c b k) : c.broken fits = c.broken fits' := by
  simp only [Cfg.broken, c.limits_congr h]

end

section
variable {e : Engine} {f : Flash} {u : Nat} {slot : Cfg}

/-- The check of a unit that is not a branch: the configuration that results keeps every rule. -/
theorem Engine.unitPasses_other (hs : unitSlot (e.activeSlot f) u = some slot) (hu : u / 256 ≠ 2) :
    e.unitPasses f u = (e.cfg.takeUnit slot u).broken.isNone := by
  have own : (e.cfg.takeUnit slot u).broken (fun c b k => if u = 0x0200 + b then e.storeFits c b k else c.lutFits b k) =
      (e.cfg.takeUnit slot u).broken := by
    refine Cfg.broken_congr _ fun b hb k => ?_
    rw [if_neg (by omega)]
  unfold Engine.unitPasses
  rw [hs]
  dsimp only
  rw [own, decide_eq_true hu, Bool.true_or, Bool.and_true]

/-- The check of a branch: it meets the LUT store as it is, and keeps what its streams hold fixed (R165, R220). -/
theorem Engine.unitPasses_branch (hs : unitSlot (e.activeSlot f) u = some slot) (hu : u / 256 = 2) :
    e.unitPasses f u =
      (((e.cfg.takeUnit slot u).broken (fun c b k => if u = 0x0200 + b then e.storeFits c b k else c.lutFits b k)).isNone &&
        e.cfg.branchKept (e.cfg.takeUnit slot u) (u % 256)) := by
  unfold Engine.unitPasses
  rw [hs]
  dsimp only
  rw [decide_eq_false (not_not.2 hu), Bool.false_or]

theorem Engine.unitPasses_noSlot (hs : unitSlot (e.activeSlot f) u = none) : e.unitPasses f u = false := by
  unfold Engine.unitPasses
  rw [hs]

/-- A unit whose sections do not hold, or whose configuration breaks a rule, does not go on. -/
theorem Engine.unitPasses_false (h : unitSlot (e.activeSlot f) u = none ∨ ∃ slot, unitSlot (e.activeSlot f) u = some slot ∧
    ((u / 256 ≠ 2 ∧ (e.cfg.takeUnit slot u).broken ≠ none) ∨
      (u / 256 = 2 ∧ e.cfg.branchKept (e.cfg.takeUnit slot u) (u % 256) = false))) : e.unitPasses f u = false := by
  rcases h with h | ⟨slot, hs, ⟨hu, bad⟩ | ⟨hu, bad⟩⟩
  · exact Engine.unitPasses_noSlot h
  · rw [Engine.unitPasses_other hs hu, Option.isNone_eq_false_iff, Option.isSome_iff_ne_none]
    exact bad
  · rw [Engine.unitPasses_branch hs hu, bad, Bool.and_false]

theorem Engine.activeSlot_congr {a b : Engine} (h : a.sys = b.sys) (f : Flash) : a.activeSlot f = b.activeSlot f := by
  rw [Engine.activeSlot, Engine.activeSlot, h]

theorem Engine.storeFits_congr {a b : Engine} (h : a.colour = b.colour) : a.storeFits = b.storeFits := by
  funext c b k
  rw [Engine.storeFits, Engine.storeFits, h]

/-- The check depends on the modes, the configuration in effect and the LUT store alone. -/
theorem Engine.unitPasses_congr {a b : Engine} (hs : a.sys = b.sys) (hc : a.cfg = b.cfg) (hl : a.colour = b.colour)
    (f : Flash) (u : Nat) : a.unitPasses f u = b.unitPasses f u := by
  unfold Engine.unitPasses
  rw [Engine.activeSlot_congr hs, Engine.storeFits_congr hl, hc]

end

section
variable {t kind i u : Nat} {r : UnitRun} {s : State}

theorem at_unitRun (u : Nat) : (s.eng.at t).unitRun u = s.eng.unitRun u := Engine.unitRun_congr (by simp) u

theorem at_unitPasses (u : Nat) : (s.eng.at t).unitPasses s.flash u = s.eng.unitPasses s.flash u :=
  Engine.unitPasses_congr (by simp) (by simp) (by simp) _ _

theorem does_restartVerifyDone {slot : Cfg} (hr : s.eng.sys.phase = .running) (hu : u = 256 * kind + i)
    (run : s.eng.unitRun u = some r) (step : r.step = .verifying) (hs : unitSlot (s.eng.activeSlot s.flash) u = some slot)
    (holds : (u / 256 ≠ 2 ∧ (s.eng.cfg.takeUnit slot u).broken = none) ∨
      (u / 256 = 2 ∧ s.eng.cfg.branchKept (s.eng.cfg.takeUnit slot u) (u % 256) = true ∧
        (s.eng.cfg.takeUnit slot u).broken (fun c b k => if u = 0x0200 + b then s.eng.storeFits c b k else c.lutFits b k) =
          none)) :
    Does (.restartVerifyDone t kind i) t s fun a b => Engine.changesOnly [.sys] a b ∧
      b.sys = { a.sys with units := a.sys.units.map fun x => if x.unit = u then { x with step := .verified } else x } := by
  have passes : s.eng.unitPasses s.flash u = true := by
    rcases holds with ⟨other, keeps⟩ | ⟨branch, kept, keeps⟩
    · rw [Engine.unitPasses_other hs other, keeps]; rfl
    · rw [Engine.unitPasses_branch hs branch, kept, keeps]; rfl
  refine Does.of_liveWith (fun f _ e => e.restartVerifyDone f (256 * kind + i)) rfl hr ?_
  rw [← hu, Engine.restartVerifyDone, at_unitRun, run]
  dsimp only
  rw [if_neg (not_not.2 step), at_unitPasses, if_pos passes]
  exact ⟨Engine.modUnits_only _ _, rfl⟩

/-- A unit's restart ends: its event, and UNIT_STATE to those who asked (R24). -/
theorem Engine.unitEnd_only (e : Engine) (ev : Ev) (d : List Byte) (r : UnitRun) (st v : Nat) :
    Engine.changesOnly [.log, .ctl, .ep, .counters] e ((e.emit 0x0350 ev d).unitState r st v) :=
  ((e.emit_only _ _ _).andThen (Engine.notify_only _ _ _ _)).within

theorem Engine.unitEnd_events {a e : Engine} (ev : Ev) (l : List (Nat × Nat)) (r : UnitRun) (st v : Nat) (h : e.log = a.log) :
    Engine.newEvents a ((e.emit 0x0350 ev (evData l)).unitState r st v) = [(0x0350, ev, evData l)] := by
  rw [Engine.unitState, Engine.newEvents_of_log _ (Engine.notify_log _ _ _ _), Engine.newEvents_emit_data _ _ _ h]

theorem does_restartVerifyDone_rejected (hr : s.eng.sys.phase = .running) (hu : u = 256 * kind + i)
    (run : s.eng.unitRun u = some r) (step : r.step = .verifying)
    (fails : unitSlot (s.eng.activeSlot s.flash) u = none ∨ ∃ slot, unitSlot (s.eng.activeSlot s.flash) u = some slot ∧
      ((u / 256 ≠ 2 ∧ (s.eng.cfg.takeUnit slot u).broken ≠ none) ∨
        (u / 256 = 2 ∧ s.eng.cfg.branchKept (s.eng.cfg.takeUnit slot u) (u % 256) = false))) :
    Does (.restartVerifyDone t kind i) t s fun a b => Engine.changesOnly [.sys, .ctl, .ep, .counters, .log] a b ∧
      b.sys = { a.sys with units := a.sys.units.filter fun x => x.unit ≠ u } ∧
      b.ctr .restartRejected 0x0350 0 = satNat 0xFFFFFFFF (a.ctr .restartRejected 0x0350 0 + 1) ∧
      Engine.newEvents a b = [(0x0350, .restartRejected, le 2 u ++ le 2 6)] := by
  refine Does.of_liveWith (fun f _ e => e.restartVerifyDone f (256 * kind + i)) rfl hr ?_
  rw [← hu, Engine.restartVerifyDone, at_unitRun, run]
  dsimp only
  rw [if_neg (not_not.2 step), at_unitPasses, Engine.unitPasses_false fails, if_neg Bool.false_ne_true]
  have dropped := (s.eng.at t).modUnits_only fun l => l.filter (·.unit ≠ u)
  have counted := dropped.andThen (Engine.bump_only _ .restartRejected 0x0350)
  refine ⟨(counted.andThen (Engine.unitEnd_only _ _ _ _ _ _)).within, ?_, ?_, ?_⟩
  · rw [(Engine.unitEnd_only _ _ _ _ _ _).sys_eq, Engine.bump_sys]
    rfl
  · rw [Engine.unitState, Engine.notify_ctr _ _ _ _ (by decide) (by decide)]
    exact Engine.counted_bump ((s.eng.at t).modUnits _) .restartRejected 0x0350
  · rw [Engine.unitEnd_events _ _ _ _ _ counted.log_eq, evData_two _ _ _ _ (by decide)]
    rfl

end

/-! RESTART_UNIT_STOP (R23 steps 4 and 5). -/

/-- The restarts in progress once one of them has stopped its unit. -/
def UnitRun.stops (u now : Nat) (pair : Bool) (x : UnitRun) : UnitRun :=
  if x.unit = u then { x with step := .stopped, stoppedAt := now, pair := pair } else x

section
variable {e : Engine} {f : Flash} {u : Nat} {slot : Cfg} {r : UnitRun}

/-- A unit once its hardware has stopped, with the old configuration still in effect. -/
def Engine.unitHalted (e : Engine) (slot : Cfg) (u : Nat) : Engine :=
  let heads := Cfg.unitHeads e.cfg slot (u % 256)
  Engine.unitStop heads u (e.modUnits (·.map (UnitRun.stops u e.now (decide (1 < heads.length)))))

/-- A verified unit stops with the old configuration in effect, takes its parts of the slot, and is set up. -/
theorem Engine.restartUnitStop_verified (run : e.unitRun u = some r) (step : r.step = .verified)
    (hs : unitSlot (e.activeSlot f) u = some slot) :
    ∃ d, e.restartUnitStop f u = Engine.unitSetUp e.cfg (Cfg.unitLanes e.cfg slot u) u { e.unitHalted slot u with
      cfg := e.cfg.takeUnit slot u
      sys := { (e.unitHalted slot u).sys with
        digests := d
        failed := (e.unitHalted slot u).sys.failed.filter fun k => unitOrdinal u ≠ some k } } := by
  refine ⟨(e.unitHalted slot u).sys.takeDigests (slotDigests (e.activeSlot f)) (wholeIds (Cfg.unitParts e.cfg slot u)), ?_⟩
  unfold Engine.restartUnitStop
  rw [run]
  dsimp only
  rw [if_neg (not_not.2 step), hs]
  rfl

theorem Engine.setCfgSys_only (e : Engine) (c : Cfg) (x : Sys) :
    Engine.changesOnly [.cfg, .sys] e { e with cfg := c, sys := x } := by
  intro p hp
  cases p with
  | cfg | sys => exact absurd (by decide) hp
  | _ => rfl

theorem Engine.modClk_only (e : Engine) (g : Clk → Clk) : Engine.changesOnly [.clk] e (e.modClk g) := by
  intro p hp
  cases p with
  | clk => exact absurd (by decide) hp
  | _ => rfl

theorem Engine.modChan_only (e : Engine) (n : Nat) (g : PosChan → PosChan) : Engine.changesOnly [.pos] e (e.modChan n g) := by
  intro p hp
  cases p with
  | pos => exact absurd (by decide) hp
  | _ => rfl

/-- A position channel has no lanes, and nothing of it stops before its configuration is in effect (R432). -/
theorem Engine.restartUnitStop_pos (n : Fin 8) (run : e.unitRun (0x0D00 + n) = some r) (step : r.step = .verified)
    (hs : unitSlot (e.activeSlot f) (0x0D00 + n) = some slot) :
    ∃ pair d, e.restartUnitStop f (0x0D00 + n) = Engine.posStop e.cfg n (Engine.gatesFollow { e with
      cfg := e.cfg.takeUnit slot (0x0D00 + n)
      sys := { e.sys with
        units := e.sys.units.map (UnitRun.stops (0x0D00 + n) e.now pair)
        digests := d
        failed := e.sys.failed.filter fun k => unitOrdinal (0x0D00 + n) ≠ some k } }) := by
  obtain ⟨d, stop⟩ := Engine.restartUnitStop_verified run step hs
  obtain ⟨kind, index⟩ := pos_unit n
  have lanes : Cfg.unitLanes e.cfg slot (0x0D00 + n) = [] := by
    rw [Cfg.unitLanes, Cfg.unitParts, kind]
    rfl
  refine ⟨decide (1 < (Cfg.unitHeads e.cfg slot n).length), d, stop.trans ?_⟩
  rw [lanes, Engine.unitHalted, Engine.unitStop, Engine.unitSetUp, kind, index]
  rfl

/-- A branch has no lanes of its own either: its hardware stops. -/
theorem Engine.restartUnitStop_branch (n : Fin 6) (run : e.unitRun (0x0200 + n) = some r) (step : r.step = .verified)
    (hs : unitSlot (e.activeSlot f) (0x0200 + n) = some slot) :
    ∃ pair d, e.restartUnitStop f (0x0200 + n) = Engine.gatesFollow { e with
      cfg := e.cfg.takeUnit slot (0x0200 + n)
      colour := { e.colour with branches := vmod e.colour.branches n fun q => { q with state := .stopped } }
      sys := { e.sys with
        units := e.sys.units.map (UnitRun.stops (0x0200 + n) e.now pair)
        digests := d
        failed := e.sys.failed.filter fun k => unitOrdinal (0x0200 + n) ≠ some k } } := by
  obtain ⟨d, stop⟩ := Engine.restartUnitStop_verified run step hs
  obtain ⟨kind, index⟩ := branch_unit n
  have lanes : Cfg.unitLanes e.cfg slot (0x0200 + n) = [] := by
    rw [Cfg.unitLanes, Cfg.unitParts, kind]
    rfl
  refine ⟨decide (1 < (Cfg.unitHeads e.cfg slot n).length), d, stop.trans ?_⟩
  rw [lanes, Engine.unitHalted, Engine.unitStop, Engine.unitSetUp, kind, index]
  rfl

end

section
variable {t : Nat} {r : UnitRun} {slot : Cfg} {s : State}

/-- Of a unit's ordinal the FAILED list loses that one. -/
theorem filter_ordinal {u k : Nat} (h : unitOrdinal u = some k) (l : List Nat) :
    l.filter (fun x => unitOrdinal u ≠ some x) = l.filter (· ≠ k) := by
  refine List.filter_congr fun x _ => ?_
  simp [h, eq_comm]

theorem at_unitSlot (u : Nat) : unitSlot ((s.eng.at t).activeSlot s.flash) u = unitSlot (s.eng.activeSlot s.flash) u := by
  rw [Engine.activeSlot_congr (b := s.eng) (by simp)]

/-- What R432 leaves of a channel that stops: all of it, or what a channel starts with. -/
theorem PosChan.stopped_eq (q : PosChan) (kept : Bool) :
    { (if (kept && q.state ≠ 0) = true then q else PosChan.reset) with state := 2, keeps := kept && q.state ≠ 0 } =
      if kept = true ∧ q.state ≠ 0 then { q with state := 2, keeps := true } else { PosChan.reset with state := 2 } := by
  by_cases keeps : kept = true ∧ q.state ≠ 0
  · rw [if_pos keeps]
    simp [keeps]
  · rw [if_neg keeps]
    have lost : (kept && decide (q.state ≠ 0)) = false := by simpa using keeps
    rw [lost]
    rfl

theorem does_restartUnitStop_pos {n : Fin 8} (hr : s.eng.sys.phase = .running) (run : s.eng.unitRun (0x0D00 + n) = some r)
    (step : r.step = .verified) (hs : unitSlot (s.eng.activeSlot s.flash) (0x0D00 + n) = some slot) :
    Does (.restartUnitStop t (0x0D00 + n)) t s fun a b =>
      Engine.changesOnly [.sys, .cfg, .pos, .clk] a b ∧ b.cfg = a.cfg.takeUnit slot (0x0D00 + n) ∧
      (∀ k : Fin 8, k ≠ n → b.chan k = a.chan k) ∧ b.chan n = (if a.cfg.posKept b.cfg n = true ∧ (a.chan n).state ≠ 0 then
        { a.chan n with state := 2, keeps := true } else { PosChan.reset with state := 2 }) ∧
      b.sys.mode = a.sys.mode ∧ b.sys.failed = a.sys.failed.filter (· ≠ 37 + n.val) ∧
      ∃ p, b.sys.units = a.sys.units.map fun x =>
        if x.unit = 0x0D00 + n.val then { x with step := .stopped, stoppedAt := a.now, pair := p } else x := by
  refine Does.of_liveWith (fun f _ e => e.restartUnitStop f (0x0D00 + n)) rfl hr ?_
  obtain ⟨pair, d, stop⟩ := Engine.restartUnitStop_pos (e := s.eng.at t) n ((at_unitRun _).trans run) step
    ((at_unitSlot _).trans hs)
  rw [stop]
  refine ⟨(((Engine.setCfgSys_only _ _ _).andThen (Engine.modClk_only _ _)).andThen (Engine.modChan_only _ _ _)).within, rfl,
    fun k hk => ?_, ?_, rfl, filter_ordinal (unitOrdinal_pos n) _, pair, rfl⟩
  · exact vget_vmod_ne _ (fun h => hk (Fin.ext h.symm)) _ _
  · exact (vget_vmod_same _ n.isLt _ _).trans (PosChan.stopped_eq _ _)

theorem does_restartUnitStop_branch {n : Fin 6} (hr : s.eng.sys.phase = .running)
    (run : s.eng.unitRun (0x0200 + n) = some r) (step : r.step = .verified)
    (hs : unitSlot (s.eng.activeSlot s.flash) (0x0200 + n) = some slot) :
    Does (.restartUnitStop t (0x0200 + n)) t s fun a b =>
      Engine.changesOnly [.sys, .cfg, .colour, .clk] a b ∧ b.cfg = a.cfg.takeUnit slot (0x0200 + n) ∧
      b.colour = { a.colour with branches := vmod a.colour.branches n fun q => { q with state := .stopped } } ∧
      b.sys.mode = a.sys.mode ∧ b.sys.failed = a.sys.failed.filter (· ≠ 4 + n.val) := by
  refine Does.of_liveWith (fun f _ e => e.restartUnitStop f (0x0200 + n)) rfl hr ?_
  obtain ⟨pair, d, stop⟩ := Engine.restartUnitStop_branch (e := s.eng.at t) n ((at_unitRun _).trans run) step
    ((at_unitSlot _).trans hs)
  rw [stop]
  refine ⟨fun p hp => ?_, rfl, rfl, rfl, filter_ordinal (unitOrdinal_branch n) _⟩
  cases p with
  | sys | cfg | colour | clk => exact absurd (by decide) hp
  | _ => rfl

end

/-! RESTART_DONE and RESTART_FAILED (R23 step 6, R24). -/

section
variable {e : Engine} {u : Nat} {r : UnitRun}

/-- The unit's restart is over: it is no longer in the list of those in progress. -/
def Engine.unitDropped (e : Engine) (u : Nat) : Engine := e.modUnits fun l => l.filter (·.unit ≠ u)

theorem Engine.restartDone_stopped (run : e.unitRun u = some r) (step : r.step = .stopped) :
    e.restartDone u = (((e.unitDropped u).unitResume r.pair u).emit 0x0350 .restartDone
      (evData [(2, u), (4, (e.now - r.stoppedAt) / us 1)])).unitState r 0 ((e.now - r.stoppedAt) / us 1) := by
  rw [Engine.restartDone, run]
  dsimp only
  rw [if_neg (not_not.2 step)]
  rfl

theorem Engine.restartFailed_stopped {k : Nat} (run : e.unitRun u = some r) (step : r.step = .stopped)
    (ho : unitOrdinal u = some k) : ∃ out, e.restartFailed u =
      ((Engine.unitFail u { e.unitDropped u with sys := { (e.unitDropped u).sys with failed := e.sys.failed ++ [k] } }).emit
        0x0350 .restartFailed (evData [(2, u)])).unitState r 2 out := by
  refine ⟨(e.now - r.stoppedAt) / us 1, ?_⟩
  rw [Engine.restartFailed, run, ho]
  dsimp only
  rw [if_neg (not_not.2 step)]
  rfl

theorem Engine.unitResume_branch (e : Engine) (pair : Bool) (n : Fin 6) : e.unitResume pair (0x0200 + n) =
    { e with colour := { e.colour with branches := vmod e.colour.branches n fun q =>
      { q with state := if e.cfg.hasBranch n then .running else .off } } } := by
  obtain ⟨kind, index⟩ := branch_unit n
  rw [Engine.unitResume, kind, index]
  rfl

theorem Engine.unitResume_branch_only (e : Engine) (pair : Bool) (n : Fin 6) :
    Engine.changesOnly [.colour] e (e.unitResume pair (0x0200 + n)) := by
  rw [Engine.unitResume_branch]
  exact Engine.setColour_only _ _

theorem Engine.unitResume_pos (e : Engine) (pair : Bool) (n : Fin 8) : e.unitResume pair (0x0D00 + n) = e.posResume n := by
  obtain ⟨kind, index⟩ := pos_unit n
  rw [Engine.unitResume, kind, index]
  rfl

theorem Engine.unitResume_pos_only (e : Engine) (pair : Bool) (n : Fin 8) :
    Engine.changesOnly [.pos] e (e.unitResume pair (0x0D00 + n)) := by
  rw [Engine.unitResume_pos]
  exact Engine.modChan_only _ _ _

theorem Engine.unitFail_branch (e : Engine) (n : Fin 6) : e.unitFail (0x0200 + n) =
    { e with colour := { e.colour with branches := vmod e.colour.branches n fun q => { q with state := .failed } } } := by
  obtain ⟨kind, index⟩ := branch_unit n
  rw [Engine.unitFail, kind, index]
  rfl

theorem Engine.unitFail_branch_only (e : Engine) (n : Fin 6) : Engine.changesOnly [.colour] e (e.unitFail (0x0200 + n)) := by
  rw [Engine.unitFail_branch]
  exact Engine.setColour_only _ _

theorem Engine.unitDropped_only (e : Engine) (u : Nat) : Engine.changesOnly [.sys] e (e.unitDropped u) :=
  e.modUnits_only _

end

section
variable {t : Nat} {r : UnitRun} {s : State}

theorem does_restartDone_branch {n : Fin 6} (hr : s.eng.sys.phase = .running) (run : s.eng.unitRun (0x0200 + n) = some r)
    (step : r.step = .stopped) : Does (.restartDone t (0x0200 + n)) t s fun a b =>
      Engine.changesOnly [.sys, .colour, .ctl, .ep, .counters, .log] a b ∧
      b.sys = { a.sys with units := a.sys.units.filter fun x => x.unit ≠ 0x0200 + n } ∧
      b.colour = { a.colour with branches := vmod a.colour.branches n fun q =>
        { q with state := if s.eng.cfg.hasBranch n then .running else .off } } ∧
      Engine.newEvents a b = [(0x0350, .restartDone, le 2 (0x0200 + n) ++ le 4 ((a.now - r.stoppedAt) / us 1))] := by
  refine Does.of_live (fun e => e.restartDone (0x0200 + n)) rfl hr ?_
  rw [Engine.restartDone_stopped ((at_unitRun _).trans run) step]
  have resumed := ((s.eng.at t).unitDropped_only (0x0200 + n)).andThen (Engine.unitResume_branch_only _ r.pair n)
  refine ⟨(resumed.andThen (Engine.unitEnd_only _ _ _ _ _ _)).within, ?_, ?_, ?_⟩
  · rw [(Engine.unitEnd_only _ _ _ _ _ _).sys_eq, (Engine.unitResume_branch_only _ _ _).sys_eq]
    rfl
  · rw [(Engine.unitEnd_only _ _ _ _ _ _).colour_eq, Engine.unitResume_branch]
    simp [Engine.unitDropped, Engine.modUnits]
  · rw [Engine.unitEnd_events _ _ _ _ _ resumed.log_eq, evData_two _ _ _ _ (by decide)]

theorem does_restartDone_pos {n : Fin 8} (hr : s.eng.sys.phase = .running) (run : s.eng.unitRun (0x0D00 + n) = some r)
    (step : r.step = .stopped) : Does (.restartDone t (0x0D00 + n)) t s fun a b =>
      Engine.changesOnly [.sys, .pos, .ctl, .ep, .counters, .log] a b ∧
      b.pos = { a.pos with chans := vmod a.pos.chans n fun q =>
        { q with state := if s.eng.cfg.posEn n then 1 else 0, keeps := false } } ∧
      Engine.newEvents a b = [(0x0350, .restartDone, le 2 (0x0D00 + n) ++ le 4 ((a.now - r.stoppedAt) / us 1))] := by
  refine Does.of_live (fun e => e.restartDone (0x0D00 + n)) rfl hr ?_
  rw [Engine.restartDone_stopped ((at_unitRun _).trans run) step]
  have resumed := ((s.eng.at t).unitDropped_only (0x0D00 + n)).andThen (Engine.unitResume_pos_only _ r.pair n)
  refine ⟨(resumed.andThen (Engine.unitEnd_only _ _ _ _ _ _)).within, ?_, ?_⟩
  · rw [(Engine.unitEnd_only _ _ _ _ _ _).pos_eq, Engine.unitResume_pos]
    simp [Engine.unitDropped, Engine.modUnits, Engine.posResume, Engine.modChan]
  · rw [Engine.unitEnd_events _ _ _ _ _ resumed.log_eq, evData_two _ _ _ _ (by decide)]

theorem does_restartFailed_branch {n : Fin 6} (hr : s.eng.sys.phase = .running)
    (run : s.eng.unitRun (0x0200 + n) = some r) (step : r.step = .stopped) :
    Does (.restartFailed t (0x0200 + n)) t s fun a b =>
      Engine.changesOnly [.sys, .colour, .ctl, .ep, .counters, .log] a b ∧
      b.sys = { a.sys with
        units := a.sys.units.filter fun x => x.unit ≠ 0x0200 + n
        failed := a.sys.failed ++ [4 + n.val] } ∧
      b.colour = { a.colour with branches := vmod a.colour.branches n fun q => { q with state := .failed } } ∧
      Engine.newEvents a b = [(0x0350, .restartFailed, le 2 (0x0200 + n))] := by
  refine Does.of_live (fun e => e.restartFailed (0x0200 + n)) rfl hr ?_
  obtain ⟨out, ended⟩ := Engine.restartFailed_stopped (e := s.eng.at t) ((at_unitRun _).trans run) step (unitOrdinal_branch n)
  rw [ended]
  have failed := ((Engine.unitDropped_only (s.eng.at t) (0x0200 + n)).andThen (Engine.setSys_only _
    { (Engine.unitDropped (s.eng.at t) (0x0200 + n)).sys with failed := (s.eng.at t).sys.failed ++ [4 + n.val] })).andThen
    (Engine.unitFail_branch_only _ n)
  refine ⟨(failed.andThen (Engine.unitEnd_only _ _ _ _ _ _)).within, ?_, ?_, ?_⟩
  · rw [(Engine.unitEnd_only _ _ _ _ _ _).sys_eq, (Engine.unitFail_branch_only _ _).sys_eq]
    rfl
  · rw [(Engine.unitEnd_only _ _ _ _ _ _).colour_eq, Engine.unitFail_branch]
    rfl
  · rw [Engine.unitEnd_events _ _ _ _ _ failed.log_eq]
    rfl

end

/-- Settles O54, clause by clause: each effect of a section restart is one branch of the model's rule for it. -/
theorem unitsRestartAlone : Obligations.UnitsRestartAlone := by
  unfold Obligations.UnitsRestartAlone
  refine ⟨?_, ?_, ?_, ?_, ?_, ?_, ?_, ?_, ?_, ?_, ?_⟩
  · exact fun t h u k s hg hu ho kind free open_ => does_unitRestart hg hu ho kind free open_
  · exact fun t h u s hg hu ho => does_unitRestart_notFound hg hu ho
  · exact fun t h u k s hg hu ho busy => does_unitRestart_busy hg hu ho busy
  · exact fun t h n s hg free open_ recording feeds => does_unitRestart_proxy hg free open_ recording feeds
  · exact fun t kind i u r slot s hr hu run step hs holds => does_restartVerifyDone hr hu run step hs holds
  · exact fun t kind i u r s hr hu run step fails => does_restartVerifyDone_rejected hr hu run step fails
  · exact fun t n r slot s hr run step hs => does_restartUnitStop_pos hr run step hs
  · exact fun t n r slot s hr run step hs => does_restartUnitStop_branch hr run step hs
  · exact fun t n r s hr run step => does_restartDone_branch hr run step
  · exact fun t n r s hr run step => does_restartDone_pos hr run step
  · exact fun t n r s hr run step => does_restartFailed_branch hr run step

end Sys2Proof.Machine
end

section
/-! Start-up (O55; R27, R446, R447, R497, R503 to R512): each step with the facts it found, and the full restart. -/

namespace Sys2Proof.Machine
set_option Elab.async false

/-! Records of the log at an epoch's end and beginning. -/

section
variable (e : Engine)

/-- With nothing held, an epoch's end leaves the log but for the rates of what was released. -/
theorem Engine.closeEpoch_idle (h : e.log.held = []) : e.closeEpoch = { e with log := { e.log with rates := [] } } := by
  unfold Engine.closeEpoch
  dsimp only
  rw [h]
  rfl

/-- An epoch begins with a record of its own. -/
theorem Engine.openEpoch_log : ∃ (r : EventRec) (n : Nat), r.ev = .logEpoch ∧
    e.openEpoch.log = ({ e.log with opened := true, epoch := n } : Log).push r := by
  refine ⟨_, _, ?_, (Engine.notifySev_only _ _ _ _ _).log_eq⟩
  rfl

/-- The empty log at the first step 2 takes the record of its epoch alone. -/
theorem Engine.stepTwo_empty_log : (e.logEmpty.stepTwo).log.held = [] ∧ (e.logEmpty.stepTwo).log.nextSeq = 1 ∧
    (e.logEmpty.stepTwo).log.ring.map (·.ev) = [.logEpoch] := by
  unfold Engine.stepTwo
  rw [Engine.closeEpoch_idle _ rfl]
  dsimp only
  obtain ⟨r, n, hev, hlog⟩ := Engine.openEpoch_log _
  rw [hlog]
  exact ⟨rfl, rfl, by simp [Log.push, Engine.logEmpty, Log.reset, hev]⟩

theorem Engine.stepTwo_now : e.stepTwo.now = e.now := e.stepTwo_only.now_eq

theorem Engine.logEmpty_only : Engine.changesOnly [.log] e e.logEmpty := e.setLog_only _

end

/-! STARTUP_STEP_DONE with the facts of the step that runs. -/

section
variable {s : State}

theorem State.stepDone_rails (h : s.eng.sys.phase = .starting 1) :
    s.stepDone .rails = { s with eng := s.eng.logEmpty.stepTwo } := by
  unfold State.stepDone
  dsimp only
  rw [h]
  rfl

theorem State.stepDone_rom_ok {n : Nat} (h : s.eng.sys.phase = .starting 2) (hb : s.eng.sys.bootFailed = false) :
    s.stepDone (.rom true n) = { s with
      flash := { s.flash with slotBytes := min (n / 2) 268435456 }
      eng := { s.eng with sys := { s.eng.sys with phase := .starting 3 } } } := by
  unfold State.stepDone
  dsimp only
  rw [h, hb]
  rfl

theorem State.stepDone_rom_failed {n : Nat} (h : s.eng.sys.phase = .starting 2) (hb : s.eng.sys.bootFailed = false) :
    s.stepDone (.rom false n) = { s with eng := { s.eng with sys := { s.eng.sys with bootFailed := true } } } := by
  unfold State.stepDone
  dsimp only
  rw [h, hb]
  rfl

theorem State.stepDone_slots {a b : SlotVerdict} (h : s.eng.sys.phase = .starting 3) :
    s.stepDone (.slots a b) = { s with eng := s.eng.stepThree s.flash s.ks a b } := by
  unfold State.stepDone
  dsimp only
  rw [h]
  rfl

theorem State.stepDone_rootLocked (h : s.eng.sys.phase = .starting 4) : s.stepDone .rootLocked =
    { s with eng := { s.eng with sys := { s.eng.sys with
      phase := .starting (if s.eng.clk.root = .locked then 5 else 4) } } } := by
  have branch : s.stepDone .rootLocked = if s.eng.clk.root = .locked then
      { s with eng := { s.eng with sys := { s.eng.sys with phase := .starting 5 } } } else s := by
    unfold State.stepDone
    dsimp only
    rw [h]
    rfl
  rw [branch]
  by_cases locked : s.eng.clk.root = .locked
  · rw [if_pos locked, if_pos locked]
  · rw [if_neg locked, if_neg locked, ← h]

theorem State.stepDone_dram {failed : List (Fin 32)} {eyes : List Nat} (h : s.eng.sys.phase = .starting 5) :
    s.stepDone (.dram failed eyes) = { s with eng := s.eng.stepFive (failed.map (·.val)) eyes } := by
  unfold State.stepDone
  dsimp only
  rw [h]
  rfl

theorem State.stepDone_links {failed : Option Nat} (h : s.eng.sys.phase = .starting 6) :
    s.stepDone (.links failed) = { s with eng := s.eng.stepSix failed } := by
  unfold State.stepDone
  dsimp only
  rw [h]
  rfl

theorem State.stepDone_configured (h : s.eng.sys.phase = .starting 7) :
    s.stepDone .configured = { s with ks := (stepSeven s.ks s.eng).1, eng := (stepSeven s.ks s.eng).2 } := by
  unfold State.stepDone
  dsimp only
  rw [h]
  rfl

/-- What a step does to the engine alone is what the command does. -/
theorem Does.of_stepDone {t : Nat} {facts : StepFacts} {P : Engine → Engine → Prop} {b : Engine}
    (h : State.stepDone facts { s with eng := s.eng.at t } = { s with eng := b }) (hp : P (s.eng.at t) b) :
    Does (.startupStepDone t facts) t s P := by
  refine ⟨b, ?_, hp⟩
  change State.runAll t (State.stepDone facts) s = _
  rw [State.runAll, h]

end

section
variable {t : Nat} {s : State}

theorem at_phase {p : Phase} (h : s.eng.sys.phase = p) : (s.eng.at t).sys.phase = p := by simpa using h

theorem at_bootFailed {v : Bool} (h : s.eng.sys.bootFailed = v) : (s.eng.at t).sys.bootFailed = v := by simpa using h

/-! Steps 1 and 2 (R497, R508). -/

theorem does_startup_rails (h : s.eng.sys.phase = .starting 1) : Does (.startupStepDone t .rails) t s fun a b =>
    Engine.changesOnly [.sys, .time, .clk, .log, .ctl, .ep, .counters] a b ∧ b.sys.phase = .starting 2 ∧
    b.time.origin = a.now ∧ b.dtb = 0 ∧ b.log.held = [] ∧ b.log.nextSeq = 1 ∧ b.log.ring.map (·.ev) = [.logEpoch] ∧ b.sys.bootFailed = false ∧
    b.sys.rejected = [] := by
  refine Does.of_stepDone (State.stepDone_rails (at_phase h)) ?_
  obtain ⟨held, seq, ring⟩ := (s.eng.at t).stepTwo_empty_log
  have sys := (s.eng.at t).logEmpty.stepTwo_sys
  have origin := (s.eng.at t).logEmpty.stepTwo_origin
  refine ⟨((Engine.logEmpty_only _).andThen (Engine.stepTwo_only _)).within, by rw [sys], origin, ?_, held, seq, ring,
    by rw [sys], by rw [sys]⟩
  rw [Engine.dtb, origin, Engine.stepTwo_now, sub_self]

theorem does_startup_rom_failed {n : Nat} (h : s.eng.sys.phase = .starting 2) (hb : s.eng.sys.bootFailed = false) :
    Does (.startupStepDone t (.rom false n)) t s fun a b =>
      Engine.changesOnly [.sys] a b ∧ b.sys = { a.sys with bootFailed := true } :=
  Does.of_stepDone (State.stepDone_rom_failed (at_phase h) (at_bootFailed hb)) ⟨Engine.setSys_only _ _, rfl⟩

theorem exec_startup_rom_ok {n : Nat} (h : s.eng.sys.phase = .starting 2) (hb : s.eng.sys.bootFailed = false) :
    ∃ b, exec (.startupStepDone t (.rom true n)) s = .next { s with
        eng := b, flash := { s.flash with slotBytes := min (n / 2) 268435456 } } ∧
      Engine.changesOnly [.sys] (s.eng.at t) b ∧ b.sys = { (s.eng.at t).sys with phase := .starting 3 } := by
  refine ⟨_, ?_, Engine.setSys_only (s.eng.at t) _, rfl⟩
  change State.runAll t (State.stepDone (.rom true n)) s = _
  rw [State.runAll, State.stepDone_rom_ok (at_phase h) (at_bootFailed hb)]

theorem does_bootRetry {ok : Bool} (h : s.eng.sys.phase = .starting 2) (hb : s.eng.sys.bootFailed = true) :
    Does (.bootRetry t ok) t s fun a b => Engine.changesOnly [.sys] a b ∧ b.sys = { a.sys with bootFailed := !ok } := by
  refine Does.of_run (Engine.bootRetry ok) rfl ?_
  rw [Engine.bootRetry, if_pos (by simp [h, hb])]
  exact ⟨Engine.setSys_only _ _, rfl⟩

end

/-! Step 3 (R446, R447, R505). -/

section
variable {e : Engine} {f : Flash} {ks : KeyStore} {a b : SlotVerdict}

/-- The fault that step 3 finds in a slot, with what its check found. -/
def stepFault (f : Flash) (ks : KeyStore) (a b : SlotVerdict) (x : Bool) : Nat :=
  slotFault (f.slot x) ks (if x then b else a) true

theorem Engine.slotWalk_only (fault : Bool → Nat) (l : List Bool) (e : Engine) :
    Engine.changesOnly [.counters, .log] e (e.slotWalk fault l).2 := by
  induction l generalizing e with
  | nil => exact Engine.changesOnly_refl _ e
  | cons x r ih =>
    rw [Engine.slotWalk]
    split_ifs
    · exact Engine.changesOnly_refl _ e
    · exact (((e.bump_only _ _).andThen (Engine.emit_only _ _ _ _)).andThen (ih _)).within

/-- No slot is chosen when each one is at fault. -/
theorem Engine.slotWalk_none {fault : Bool → Nat} {l : List Bool} (h : ∀ x, fault x ≠ 0) (e : Engine) :
    (e.slotWalk fault l).1 = none := by
  induction l generalizing e with
  | nil => rfl
  | cons x r ih =>
    rw [Engine.slotWalk, if_neg (h x)]
    exact ih _

/-- A slot that holds is chosen when it comes first, or when the other is at fault. -/
theorem Engine.slotWalk_some {fault : Bool → Nat} {l : List Bool} {x : Bool} (hx : fault x = 0)
    (hl : (∃ r, l = x :: r) ∨ ∃ y r, l = y :: x :: r ∧ fault y ≠ 0) (e : Engine) : (e.slotWalk fault l).1 = some x := by
  rcases hl with ⟨r, rfl⟩ | ⟨y, r, rfl, hy⟩
  · rw [Engine.slotWalk, if_pos hx]
  · rw [Engine.slotWalk, if_neg hy, Engine.slotWalk, if_pos hx]

/-- With none marked invalid, the slot of the higher generation comes first, A on a tie. -/
theorem slotOrder_all (x : Bool) (h : slotGeneration (f.slot (!x)) < slotGeneration (f.slot x) ∨
    (x = false ∧ slotGeneration (f.slot (!x)) = slotGeneration (f.slot x))) : slotOrder f [] = [x, !x] := by
  cases x with
  | false =>
    have first : ¬ slotGeneration f.slotA < slotGeneration f.slotB := by
      rcases h with h | ⟨-, h⟩
      · exact Nat.not_lt.2 (Nat.le_of_lt h)
      · exact Nat.not_lt.2 (Nat.le_of_eq h)
    rw [slotOrder, if_neg first]
    rfl
  | true =>
    have first : slotGeneration f.slotA < slotGeneration f.slotB := by
      rcases h with h | ⟨h, -⟩
      · exact h
      · exact absurd h (by decide)
    rw [slotOrder, if_pos first]
    rfl

theorem slotOrder_mem (x : Bool) : slotOrder f [] = [x, !x] ∨ slotOrder f [] = [!x, x] := by
  unfold slotOrder
  cases x with
  | false => split_ifs; exacts [.inr rfl, .inl rfl]
  | true => split_ifs; exacts [.inl rfl, .inr rfl]

/-- The engine at the end of step 3, with the slot it chose or without one, and the slots that hold a transfer. -/
def Engine.slotTaken (f : Flash) (a b : SlotVerdict) (l : List Bool) (e : Engine) : Option Bool → Engine
  | some x => { e with
      ctl := { e.ctl with complete := l }
      cfg := (slotConfig (f.slot x)).getD []
      sys := { e.sys with
        active := some x, generation := slotGeneration (f.slot x), fwBuild := (if x then b else a).fwBuild
        digests := slotDigests (f.slot x), phase := .starting (if e.clk.root = .locked then 5 else 4)
        step4At := e.now } }
  | none => { e with
      ctl := { e.ctl with complete := l }
      cfg := []
      sys := { e.sys with active := none, generation := 0, fwBuild := 0, digests := [], phase := .halt 3 } }

theorem Engine.stepThree_found {found : Option Bool}
    (h : (e.slotWalk (stepFault f ks a b) (slotOrder f e.sys.rejected)).1 = found) : ∃ l, e.stepThree f ks a b =
      Engine.slotTaken f a b l (e.slotWalk (stepFault f ks a b) (slotOrder f e.sys.rejected)).2 found := by
  unfold Engine.stepThree
  dsimp only
  rw [show (fun x => slotFault (f.slot x) ks (if x = true then b else a) true) = stepFault f ks a b from rfl]
  generalize e.slotWalk (stepFault f ks a b) (slotOrder f e.sys.rejected) = r at h ⊢
  obtain ⟨x, walked⟩ := r
  dsimp only at h
  subst h
  cases x with
  | none => exact ⟨_, rfl⟩
  | some x => exact ⟨_, rfl⟩

theorem Engine.setCtlCfgSys_only (e : Engine) (c : Control) (g : Cfg) (x : Sys) :
    Engine.changesOnly [.ctl, .cfg, .sys] e { e with ctl := c, cfg := g, sys := x } := by
  intro p hp
  cases p with
  | ctl | cfg | sys => exact absurd (by decide) hp
  | _ => rfl

end

section
variable {t : Nat} {va vb : SlotVerdict} {s : State}

theorem does_startup_slot {x : Bool} {v : SlotVerdict} {m : List Host.Cell} {c : Cfg} (h : s.eng.sys.phase = .starting 3)
    (fresh : s.eng.sys.rejected = []) (hv : v = if x then vb else va) (hm : m = s.flash.slot x) (ok : slotFault m s.ks v true = 0)
    (hc : slotConfig m = some c)
    (best : slotFault (s.flash.slot (!x)) s.ks (if x then va else vb) true ≠ 0 ∨
      slotGeneration (s.flash.slot (!x)) < slotGeneration m ∨
      (x = false ∧ slotGeneration (s.flash.slot (!x)) = slotGeneration m)) :
    Does (.startupStepDone t (.slots va vb)) t s fun a b => Engine.changesOnly [.cfg, .sys, .ctl, .counters, .log] a b ∧
      b.cfg = c ∧ b.sys = { a.sys with
        active := some x
        generation := slotGeneration m
        fwBuild := v.fwBuild
        digests := slotDigests m
        phase := .starting (if s.eng.clk.root = .locked then 5 else 4)
        step4At := a.now } := by
  refine Does.of_stepDone (State.stepDone_slots (at_phase h)) ?_
  subst hv hm
  have order : slotOrder s.flash (s.eng.at t).sys.rejected = slotOrder s.flash [] := by simp [fresh]
  have first : (∃ r, slotOrder s.flash [] = x :: r) ∨
      ∃ y r, slotOrder s.flash [] = y :: x :: r ∧ stepFault s.flash s.ks va vb y ≠ 0 := by
    rcases best with bad | best
    · rcases slotOrder_mem (f := s.flash) x with l | l
      · exact .inl ⟨_, l⟩
      · refine .inr ⟨_, _, l, ?_⟩
        rw [stepFault]
        cases x <;> exact bad
    · exact .inl ⟨_, slotOrder_all x best⟩
  rw [← order] at first
  have walk := (s.eng.at t).slotWalk_only (stepFault s.flash s.ks va vb) (slotOrder s.flash (s.eng.at t).sys.rejected)
  have whole : stepFault s.flash s.ks va vb x = 0 := ok
  obtain ⟨l, taken⟩ := Engine.stepThree_found (f := s.flash) (Engine.slotWalk_some whole first (s.eng.at t))
  rw [taken]
  refine ⟨(walk.andThen (Engine.setCtlCfgSys_only _ _ _ _)).within, ?_, ?_⟩
  · rw [Engine.slotTaken, hc]
    rfl
  · rw [Engine.slotTaken, walk.sys_eq, walk.now_eq, walk.clk_eq, Engine.at_clk]

theorem does_startup_noSlot (h : s.eng.sys.phase = .starting 3) (ha : slotFault s.flash.slotA s.ks va true ≠ 0)
    (hb : slotFault s.flash.slotB s.ks vb true ≠ 0) : Does (.startupStepDone t (.slots va vb)) t s fun a b =>
      Engine.changesOnly [.cfg, .sys, .ctl, .counters, .log] a b ∧ b.cfg = [] ∧ b.sys.phase = .halt 3 ∧
      b.sys.active = none := by
  refine Does.of_stepDone (State.stepDone_slots (at_phase h)) ?_
  have bad (x : Bool) : stepFault s.flash s.ks va vb x ≠ 0 := by
    cases x with
    | false => exact ha
    | true => exact hb
  obtain ⟨l, halted⟩ := Engine.stepThree_found (f := s.flash) (Engine.slotWalk_none bad (s.eng.at t))
  rw [halted]
  exact ⟨((Engine.slotWalk_only _ _ _).andThen (Engine.setCtlCfgSys_only _ _ _ _)).within, rfl, rfl, rfl⟩

/-! Steps 4 to 6 (R508, R512). -/

theorem does_startup_rootLocked (h : s.eng.sys.phase = .starting 4) : Does (.startupStepDone t .rootLocked) t s fun a b =>
    Engine.changesOnly [.sys] a b ∧
    b.sys = { a.sys with phase := .starting (if s.eng.clk.root = .locked then 5 else 4) } := by
  refine Does.of_stepDone (State.stepDone_rootLocked (at_phase h)) ⟨Engine.setSys_only _ _, ?_⟩
  dsimp only
  rw [Engine.at_clk]

theorem does_startup_links_none (h : s.eng.sys.phase = .starting 6) : Does (.startupStepDone t (.links none)) t s fun a b =>
    Engine.changesOnly [.sys] a b ∧ b.sys = { a.sys with phase := .starting 7 } :=
  Does.of_stepDone (State.stepDone_links (at_phase h)) ⟨Engine.setSys_only _ _, rfl⟩

theorem does_startup_links_some {l : Nat} (h : s.eng.sys.phase = .starting 6) :
    Does (.startupStepDone t (.links (some l))) t s fun a b => Engine.changesOnly [.sys, .counters, .log] a b ∧
      b.sys = { a.sys with phase := .halt 6 } ∧ Engine.newEvents a b = [(0x0010, .dieLinkFatal, le 1 6 ++ le 1 l)] := by
  refine Does.of_stepDone (State.stepDone_links (at_phase h)) ?_
  rw [Engine.stepSix]
  have counted := (s.eng.at t).bumpN_only .dieLinkRetry 0x0010 0 16
  have halted := counted.andThen (Engine.setSys_only _
    { ((s.eng.at t).bumpN .dieLinkRetry 0x0010 0 16).sys with phase := .halt 6 })
  refine ⟨(halted.andThen (Engine.emit_only _ _ _ _)).within, ?_, ?_⟩
  · rw [Engine.emit_sys]
    dsimp only
    rw [counted.sys_eq]
  · rw [Engine.newEvents_emit_data _ _ _ halted.log_eq, evData_two _ _ _ _ (by decide)]

end

/-! Step 5 (R399, R409): every position keeps its rank, or more of them are without a rank than there are spares. -/

/-- Each rank but 29 and 31 has a position. -/
theorem positions_home :
    ∀ r : Fin 32, (r = 29 ∨ r = 31) ↔ positions.find? (fun x => homeRank x.1 x.2 = r) = none := by decide

/-- A rank that keeps its place: ACTIVE at its position, or SPARE without one. -/
def Rank.home (eyes : List Nat) (r : Nat) : Rank :=
  let base : Rank := { Rank.reset with eye := eyes.getD r 0, pos := 31, lastReq := 0 }
  match positions.find? fun x => homeRank x.1 x.2 = r with
  | some x => { base with state := .active, layer := x.1, pos := x.2 }
  | none => { base with state := .spare }

theorem Rank.home_state (eyes : List Nat) (r : Fin 32) :
    (Rank.home eyes r).state = if r = 29 ∨ r = 31 then .spare else .active := by
  have placed := positions_home r
  unfold Rank.home
  dsimp only
  cases hr : positions.find? fun x => homeRank x.1 x.2 = r with
  | none => rw [if_pos (placed.2 hr)]
  | some x => rw [if_neg fun h => by simp [placed.1 h] at hr]

theorem Rank.home_eye (eyes : List Nat) (r : Nat) : (Rank.home eyes r).eye = eyes.getD r 0 := by
  unfold Rank.home
  dsimp only
  split <;> rfl

theorem trainRanks_whole (eyes : List Nat) :
    trainRanks [] [] eyes = some (Vector.ofFn fun (r : Fin 32) => Rank.home eyes r) := by
  unfold trainRanks
  simp only [List.contains_nil, Bool.or_false, List.filter_false, List.zip_nil_left, List.find?_nil, List.length_nil]
  rw [if_neg (by decide)]
  rfl

theorem trainRanks_short {failed : List Nat} {eyes : List Nat} (h29 : 29 ∉ failed) (h31 : 31 ∉ failed)
    (distinct : failed.Nodup) (inside : ∀ r ∈ failed, r < 32) (three : 3 ≤ failed.length) : trainRanks failed [] eyes = none := by
  have moved : failed ⊆ (positions.filter fun x => failed.contains (homeRank x.1 x.2)).map fun x => homeRank x.1 x.2 := by
    intro r hr
    have placed : positions.find? (fun x => homeRank x.1 x.2 = r) ≠ none := by
      refine fun h => ?_
      rcases (positions_home ⟨r, inside r hr⟩).2 h with h | h
      · obtain rfl : r = 29 := congrArg Fin.val h
        exact h29 hr
      · obtain rfl : r = 31 := congrArg Fin.val h
        exact h31 hr
    obtain ⟨x, hx⟩ := Option.ne_none_iff_exists'.1 placed
    have home := List.find?_some hx
    refine List.mem_map.2 ⟨x, List.mem_filter.2 ⟨List.mem_of_find?_eq_some hx, ?_⟩, of_decide_eq_true home⟩
    rw [of_decide_eq_true home]
    simpa using hr
  have short := (distinct.subperm moved).length_le
  rw [List.length_map] at short
  have spares : ([29, 31].filter fun r => !failed.contains r).length = 2 := by simp [h29, h31]
  unfold trainRanks
  simp only [List.contains_nil, Bool.or_false]
  rw [if_pos (by omega)]

section
variable {t : Nat} {s : State}

theorem Engine.setDramSys_only (e : Engine) (d : Dram) (x : Sys) :
    Engine.changesOnly [.dram, .sys] e { e with dram := d, sys := x } := by
  intro p hp
  cases p with
  | dram | sys => exact absurd (by decide) hp
  | _ => rfl

theorem does_startup_dram {eyes : List Nat} (h : s.eng.sys.phase = .starting 5) (hret : s.eng.dram.retired = []) :
    Does (.startupStepDone t (.dram [] eyes)) t s fun a b =>
      Engine.changesOnly [.dram, .sys] a b ∧ b.sys = { a.sys with phase := .starting 6 } ∧
      ∀ r : Fin 32, (b.rank r).state = (if r = 29 ∨ r = 31 then .spare else .active) ∧ (b.rank r).eye = eyes.getD r 0 := by
  refine Does.of_stepDone (State.stepDone_dram (at_phase h)) ?_
  have retired : (s.eng.at t).dram.retired = [] := by simpa using hret
  rw [Engine.stepFive, List.map_nil, List.foldl_nil, retired, trainRanks_whole]
  refine ⟨Engine.setDramSys_only _ _ _, rfl, fun r => ?_⟩
  have rank : vget (Vector.ofFn fun (r : Fin 32) => Rank.home eyes r) r Rank.reset = Rank.home eyes r := by simp [vget]
  rw [Engine.rank, rank]
  exact ⟨Rank.home_state eyes r, Rank.home_eye eyes r⟩

/-- Ranks that fail their training are logged, each by itself. -/
def Engine.ranksFailed (e : Engine) (failed : List Nat) : Engine :=
  failed.foldl (fun e r => e.emit (rankSrc r) .dramTrainFail []) e

theorem Engine.ranksFailed_only (e : Engine) (failed : List Nat) : Engine.changesOnly [.log] e (e.ranksFailed failed) :=
  Engine.changesOnly_foldl _ (fun e _ => e.emit_only _ _ _) failed e

/-- An event after others comes after them. -/
theorem Engine.newEvents_emit_next {a b : Engine} (src : Nat) (ev : Ev) (d : List Byte)
    (grows : a.log.held.length ≤ b.log.held.length) :
    Engine.newEvents a (b.emit src ev d) = Engine.newEvents a b ++ [(src, ev, d.take 14)] := by
  simp [Engine.newEvents, Engine.emit, List.drop_append_of_le_length grows]

theorem Engine.ranksFailed_events (e : Engine) (failed : List Nat) :
    (e.ranksFailed failed).log.held.length = e.log.held.length + failed.length ∧
      Engine.newEvents e (e.ranksFailed failed) = failed.map fun r => (rankSrc r, .dramTrainFail, []) := by
  induction failed using List.reverseRecOn with
  | nil => exact ⟨rfl, Engine.newEvents_same _ _ rfl⟩
  | append_singleton l r ih =>
    obtain ⟨count, events⟩ := ih
    have last : e.ranksFailed (l ++ [r]) = (e.ranksFailed l).emit (rankSrc r) .dramTrainFail [] := by
      simp [Engine.ranksFailed]
    rw [last, Engine.newEvents_emit_next _ _ _ (by omega), events, List.map_append]
    refine ⟨?_, rfl⟩
    rw [Engine.emit, List.length_append, List.length_append, count, Nat.add_assoc]
    rfl

/-- More ranks without training than spares: the failures are logged, then the halt with all of them. -/
theorem Engine.stepFive_short {e : Engine} {failed eyes : List Nat} (h : trainRanks failed e.dram.retired eyes = none) :
    Engine.changesOnly [.sys, .log] e (e.stepFive failed eyes) ∧
      (e.stepFive failed eyes).sys = { e.sys with phase := .halt 5 } ∧
      Engine.newEvents e (e.stepFive failed eyes) = (failed.map fun r => (rankSrc r, .dramTrainFail, [])) ++
        [(0x0320, .dramNoSpare, le 1 5 ++ le 4 (sumNat (failed.map fun r => 2 ^ r)))] := by
  have logged := e.ranksFailed_only failed
  have step : e.stepFive failed eyes =
      ({ e.ranksFailed failed with sys := { (e.ranksFailed failed).sys with phase := .halt 5 } } : Engine).emit 0x0320
        .dramNoSpare (evData [(1, 5), (4, sumNat (failed.map fun r => 2 ^ r))]) := by
    rw [← logged.dram_eq, Engine.ranksFailed] at h
    unfold Engine.stepFive
    dsimp only
    rw [h]
    rfl
  obtain ⟨count, events⟩ := e.ranksFailed_events failed
  rw [step]
  refine ⟨((logged.andThen (Engine.setSys_only _ _)).andThen (Engine.emit_only _ _ _ _)).within, ?_, ?_⟩
  · rw [Engine.emit_sys]
    dsimp only
    rw [logged.sys_eq]
  · rw [Engine.newEvents_emit_next _ _ _ (by dsimp only; omega), evData_take, evData_two _ _ _ _ (by decide)]
    exact congrArg (· ++ _) events

theorem does_startup_dram_short {eyes : List Nat} {x y z : Fin 32} (h : s.eng.sys.phase = .starting 5)
    (hret : s.eng.dram.retired = []) (hxy : x ≠ y) (hxz : x ≠ z) (hyz : y ≠ z) (hx : x ≠ 29) (hx' : x ≠ 31) (hy : y ≠ 29)
    (hy' : y ≠ 31) (hz : z ≠ 29) (hz' : z ≠ 31) : Does (.startupStepDone t (.dram [x, y, z] eyes)) t s fun a b =>
      Engine.changesOnly [.sys, .log] a b ∧ b.sys = { a.sys with phase := .halt 5 } ∧
      Engine.newEvents a b = [(0x0300 + x.val, .dramTrainFail, []), (0x0300 + y.val, .dramTrainFail, []),
        (0x0300 + z.val, .dramTrainFail, []), (0x0320, .dramNoSpare, le 1 5 ++ le 4 (2 ^ x.val + 2 ^ y.val + 2 ^ z.val))] := by
  refine Does.of_stepDone (State.stepDone_dram (at_phase h)) ?_
  have short : trainRanks ([x, y, z].map (·.val)) [] eyes = none := by
    refine trainRanks_short ?_ ?_ ?_ ?_ (by simp)
    · simp
      omega
    · simp
      omega
    · simp
      omega
    · simp
  obtain ⟨only, sys, events⟩ := Engine.stepFive_short (e := s.eng.at t) (by simpa [hret] using short)
  exact ⟨only, sys, by simpa [rankSrc, sumNat] using events⟩

end

end Sys2Proof.Machine
end

section
/-! Step 7 (R447, R506, R511): the units start from the configuration, which stays as it is. -/

namespace Sys2Proof.Machine
set_option Elab.async false

section
variable {e : Engine}

/-- What the start of the units leaves alone: the configuration, the modes, the instant, the DTB's origin and the loop's level. -/
def Engine.startBase (e : Engine) : Cfg × Sys × Nat × Int × Bool := (e.cfg, e.sys, e.now, e.time.origin, e.pins.presenceHigh)

theorem Engine.changesOnly.startBase {ps : List Part} {a b : Engine} (h : Engine.changesOnly ps a b)
    (hs : ∀ p ∈ ps, p ∉ [Part.cfg, .sys, .now, .time, .pins] := by decide) : b.startBase = a.startBase := by
  have same (p : Part) (hp : p ∈ [Part.cfg, .sys, .now, .time, .pins]) : p.same a b := h p fun hm => hs p hm hp
  have cfg : a.cfg = b.cfg := same .cfg (by decide)
  have sys : a.sys = b.sys := same .sys (by decide)
  have now : a.now = b.now := same .now (by decide)
  have time : a.time = b.time := same .time (by decide)
  have pins : a.pins = b.pins := same .pins (by decide)
  rw [Engine.startBase, Engine.startBase, cfg, sys, now, time, pins]

theorem Engine.pictureStart_only (e : Engine) : Engine.changesOnly [.raw, .colour, .fsr] e e.pictureStart := by
  intro p hp
  cases p with
  | raw | colour | fsr => exact absurd (by decide) hp
  | _ => rfl

theorem Engine.modLane_only (e : Engine) (l : Nat) (f : Lane → Lane) : Engine.changesOnly [.lanes] e (e.modLane l f) := by
  intro p hp
  cases p with
  | lanes => exact absurd (by decide) hp
  | _ => rfl

theorem Engine.setOuts_only (e : Engine) (o : Outs) : Engine.changesOnly [.outs] e { e with outs := o } := by
  intro p hp
  cases p with
  | outs => exact absurd (by decide) hp
  | _ => rfl

theorem Engine.setHevc_only (e : Engine) (v : Hevc) : Engine.changesOnly [.hevc] e { e with hevc := v } := by
  intro p hp
  cases p with
  | hevc => exact absurd (by decide) hp
  | _ => rfl

theorem Engine.hevcStart_only (e : Engine) : Engine.changesOnly [.hevc] e e.hevcStart := by
  unfold Engine.hevcStart
  split
  · exact e.setHevc_only _
  · exact e.setHevc_only _

theorem Engine.sdiSync_only (e : Engine) : Engine.changesOnly [.outs] e e.sdiSync := e.setOuts_only _

theorem Engine.outsStart_only (e : Engine) : Engine.changesOnly [.outs] e e.outsStart := by
  have heads := fun e : Engine => Engine.changesOnly_foldl (ps := [.outs]) (fun e h => e.headStart h)
    (fun e _ => e.setOuts_only _) (List.range 4) e
  have nets := fun e : Engine => Engine.changesOnly_foldl (ps := [.outs])
    (fun e n => e.modNet n fun q => { q with state := bit (e.cfg.nvValid n) }) (fun e _ => e.setOuts_only _) (List.range 16) e
  exact ((((e.setOuts_only _).andThen (heads _)).andThen (nets _)).andThen (Engine.sdiSync_only _)).within

theorem Engine.netRun_only (e : Engine) (on : Bool) : Engine.changesOnly [.outs] e (e.netRun on) := by
  refine Engine.changesOnly_foldl _ (fun e n => ?_) _ e
  split
  · exact e.setOuts_only _
  · exact Engine.changesOnly_refl _ e

theorem Engine.outsHold_only (e : Engine) : Engine.changesOnly [.outs] e e.outsHold := by
  have heads := fun e : Engine => Engine.changesOnly_foldl (ps := [.outs]) (fun e h => e.headHold h)
    (fun e _ => e.setOuts_only _) (List.range 4) e
  exact (((heads e).andThen (Engine.netRun_only _ false)).andThen (Engine.sdiSync_only _)).within

theorem Engine.driveStart_base (e : Engine) (m : Nat) : (e.driveStart m).startBase = e.startBase := by
  unfold Engine.driveStart
  split
  · exact (e.modMedia_only _ _).startBase
  · next d hd =>
    refine (Engine.epSync_only _).startBase.trans ?_
    split
    · exact (Engine.putCmds_only _ _ _ _).startBase.trans (Engine.modMedia_only _ _ _).startBase
    · exact (Engine.modMedia_only _ _ _).startBase

theorem Engine.lanesTrain_only (e : Engine) (p : Nat) (again : Bool) :
    Engine.changesOnly [.lanes, .counters] e (e.lanesTrain p again) := by
  refine Engine.changesOnly_foldl _ (fun e l => ?_) _ e
  split
  · exact ((e.bump_only _ _).andThen (Engine.modLane_only _ _ _)).within
  · exact (e.modLane_only _ _).within

theorem Engine.startTraining_base (e : Engine) (p : Nat) (again : Bool) : (e.startTraining p again).startBase = e.startBase := by
  rw [← (e.lanesTrain_only p again).startBase]
  rfl

theorem Engine.servosStart_base (e : Engine) : e.servosStart.startBase = e.startBase := rfl

theorem Engine.ns5Make_base (e : Engine) : e.ns5Make.startBase = e.startBase := rfl

theorem Engine.gatesStart_base (e : Engine) : e.gatesStart.startBase = e.startBase := rfl

theorem Engine.modRec_base (e : Engine) (f : Recorder → Recorder) : (e.modRec f).startBase = e.startBase := rfl

theorem Engine.setRefclk_base (e : Engine) (r : Vector Bool 4) :
    ({ e with pins := { e.pins with refclk := r } } : Engine).startBase = e.startBase := rfl

theorem Engine.epTrain_only (e : Engine) : Engine.changesOnly [.ep] e e.epTrain := by
  unfold Engine.epTrain
  split
  · exact e.modEp_only _
  · exact Engine.changesOnly_refl _ e

/-- The units as step 7 configures them, in its order, before step 8 is entered. -/
def Engine.unitsConfigured (e : Engine) : Engine :=
  let e := (List.range 62).foldl (fun e l => e.laneConfigure l) e.pictureStart
  let refclk : Vector Bool 4 := Vector.ofFn fun (m : Fin 4) => e.cb 0x0003 62 (2 + m.val)
  let e : Engine := { e with pins := { e.pins with refclk := refclk } }
  let e := (List.range 4).foldl (fun e m => e.driveStart m) e
  let e := e.modRec fun r => { r with reel := e.cfg.reelInit }
  let e := (List.range 8).foldl (fun e n => e.posStart n) e.hevcStart
  let e := e.outsStart
  (if e.clk.classV then e.outsHold else e).gatesStart.servosStart.ns5Make

/-- Step 8 is entered (R511). -/
def Engine.enterStepEight (e : Engine) : Engine :=
  let lamp := e.sys.lampOpen
  { e with sys := { e.sys with
    phase := .running, step8At := e.now, mode := if lamp then .service else .standby, preview := false
    autoDue := e.cb 1 0 31 && !lamp } }

theorem Engine.enterStepEight_eq (e : Engine) : e.enterStepEight = { e with sys := { e.sys with
    phase := .running, step8At := e.now, mode := if e.sys.lampOpen then .service else .standby, preview := false
    autoDue := e.cb 1 0 31 && !e.sys.lampOpen } } := rfl

theorem Engine.configureAll_eq (e : Engine) : e.configureAll =
    ([0, 1].filter e.unitsConfigured.enterStepEight.epTrain.cfg.hasPort).foldl (fun e p => e.startTraining p false)
      e.unitsConfigured.enterStepEight.epTrain := by
  rw [(Engine.epTrain_only _).cfg_eq]
  rfl

theorem Engine.unitsConfigured_base (e : Engine) : e.unitsConfigured.startBase = e.startBase := by
  have lanes := Engine.foldl_keeps (·.startBase) (fun e l => Engine.laneConfigure l e)
    (fun e l => (e.modLane_only _ _).startBase) (List.range 62) e.pictureStart
  have drives := Engine.foldl_keeps (·.startBase) (fun e m => Engine.driveStart m e)
    (fun e m => e.driveStart_base m) (List.range 4)
  have chans := Engine.foldl_keeps (·.startBase) (fun e n => Engine.posStart n e) (fun e n => (e.modChan_only _ _).startBase)
    (List.range 8)
  have held (e : Engine) : (if e.clk.classV then e.outsHold else e).startBase = e.startBase := by
    split
    · exact e.outsHold_only.startBase
    · rfl
  unfold Engine.unitsConfigured
  dsimp only at chans drives lanes ⊢
  rw [Engine.ns5Make_base, Engine.servosStart_base, Engine.gatesStart_base, held, (Engine.outsStart_only _).startBase, chans,
    (Engine.hevcStart_only _).startBase, Engine.modRec_base, drives, Engine.setRefclk_base, lanes, e.pictureStart_only.startBase]

theorem Engine.configureAll_base (e : Engine) : e.configureAll.startBase = e.unitsConfigured.enterStepEight.startBase := by
  rw [Engine.configureAll_eq, Engine.foldl_keeps (·.startBase) _ (fun e p => e.startTraining_base p false),
    (Engine.epTrain_only _).startBase]

theorem Engine.startBase_iff {a b : Engine} : a.startBase = b.startBase ↔
    a.cfg = b.cfg ∧ a.sys = b.sys ∧ a.now = b.now ∧ a.time.origin = b.time.origin ∧
      a.pins.presenceHigh = b.pins.presenceHigh := by
  simp [Engine.startBase]

/-- STANDBY, or SERVICE with LAMP open, from the instant of step 8 (R511), and the rest as step 7 found it. -/
theorem Engine.configureAll_effect (e : Engine) : e.configureAll.cfg = e.cfg ∧ e.configureAll.sys = { e.sys with
    phase := .running, step8At := e.now, mode := if e.sys.lampOpen then .service else .standby, preview := false
    autoDue := e.cb 1 0 31 && !e.sys.lampOpen } ∧ e.configureAll.dtb = e.dtb ∧
      e.configureAll.pins.presenceHigh = e.pins.presenceHigh := by
  obtain ⟨cfg, sys, now, origin, high⟩ := Engine.startBase_iff.1 e.unitsConfigured_base
  obtain ⟨cfg', sys', now', origin', high'⟩ := Engine.startBase_iff.1 e.configureAll_base
  rw [Engine.enterStepEight_eq] at cfg' sys' now' origin' high'
  dsimp only at cfg' now' origin' high'
  refine ⟨cfg'.trans cfg, sys'.trans ?_, ?_, high'.trans high⟩
  · dsimp only
    rw [Engine.cb, Engine.cb, cfg, sys, now]
  · rw [Engine.dtb, Engine.dtb, now', origin', now, origin]

/-! SEAL mode finds its loop open or closed as PRESENCE is configured (R476). -/

theorem sealFound_other {ks : KeyStore} (h : e.cfg.presenceMode ≠ 2) : sealFound ks e = (ks, e) := by
  unfold sealFound
  exact if_pos h

theorem sealFound_open {ks : KeyStore} (h : e.cfg.presenceMode = 2) (high : e.pins.presenceHigh = true)
    (first : ks.sealFirst = none) : sealFound ks e = ({ ks with sealFirst := some (dtbSec e.dtb) },
      ({ e with pins := { e.pins with sealWatch := true } } : Engine).emit 0x0381 .sealFirst []) := by
  have mode : e.cf 0x00A1 0 31 30 = 2 := h
  unfold sealFound
  rw [if_neg (not_not.2 mode)]
  dsimp only
  rw [high, first]
  rfl

theorem stepSeven_whole {ks : KeyStore} (h : e.cfg.broken = none) : stepSeven ks e = sealFound ks e.configureAll := by
  unfold stepSeven
  rw [h]

/-- A rejected section marks the slot invalid, and step 3 runs again. -/
theorem stepSeven_rejected {ks : KeyStore} {id r : Nat} {x : Bool} (h : e.cfg.broken = some (id, r))
    (active : e.sys.active = some x) : stepSeven ks e = (ks, ({ e with
      cfg := []
      sys := { e.sys with
        active := none, generation := 0, fwBuild := 0, digests := [], rejected := x :: e.sys.rejected
        phase := .starting 3 } } : Engine).emit 0x0358 .imageRejected (evData [(2, id), (2, 6)])) := by
  unfold stepSeven
  rw [h]
  dsimp only
  rw [active]
  rfl

end

section
variable {t : Nat} {s : State}

theorem does_startup_configured (h : s.eng.sys.phase = .starting 7) (whole : s.eng.cfg.broken = none)
    (mode : s.eng.cfg.presenceMode ≠ 2) : Does (.startupStepDone t .configured) t s fun a b =>
      b.cfg = a.cfg ∧ b.sys.phase = .running ∧ b.sys.step8At = a.now ∧
      b.sys.mode = (if s.eng.sys.lampOpen then .service else .standby) ∧ b.sys.preview = false ∧
      b.sys.autoDue = (s.eng.cb 1 0 31 && !s.eng.sys.lampOpen) := by
  obtain ⟨cfg, sys, -, -⟩ := (s.eng.at t).configureAll_effect
  have step : stepSeven s.ks (s.eng.at t) = (s.ks, (s.eng.at t).configureAll) := by
    rw [stepSeven_whole (by simpa using whole), sealFound_other (by rw [cfg]; simpa using mode)]
  refine Does.of_stepDone (b := (s.eng.at t).configureAll) ?_ ?_
  · rw [State.stepDone_configured (at_phase h), step]
  · rw [sys]
    refine ⟨cfg, rfl, rfl, ?_, rfl, ?_⟩
    · simp
    · simp [Engine.cb]

theorem exec_startup_configured_sealOpen (h : s.eng.sys.phase = .starting 7) (whole : s.eng.cfg.broken = none)
    (mode : s.eng.cfg.presenceMode = 2) (high : s.eng.pins.presenceHigh = true) (first : s.ks.sealFirst = none) :
    ∃ b, exec (.startupStepDone t .configured) s = .next { s with
        eng := b, ks := { s.ks with sealFirst := some (dtbSec (s.eng.at t).dtb) } } ∧
      b.sys.phase = .running ∧ b.pins.sealWatch = true := by
  obtain ⟨cfg, sys, dtb, level⟩ := (s.eng.at t).configureAll_effect
  have step := sealFound_open (e := (s.eng.at t).configureAll) (by rw [cfg]; simpa using mode)
    (by rw [level]; simpa using high) first
  rw [← stepSeven_whole (by simpa using whole), dtb] at step
  refine ⟨(stepSeven s.ks (s.eng.at t)).2, ?_, ?_, ?_⟩
  · change State.runAll t (State.stepDone .configured) s = _
    rw [State.runAll, State.stepDone_configured (at_phase h), step]
  · rw [step, Engine.emit_sys]
    dsimp only
    rw [sys]
  · rw [step, Engine.emit_pins]

theorem Engine.setCfgSys_emit_only (e : Engine) (c : Cfg) (x : Sys) (src : Nat) (ev : Ev) (d : List Byte) :
    Engine.changesOnly [.cfg, .sys, .log] e (Engine.emit src ev d { e with cfg := c, sys := x }) :=
  (e.setCfgSys_only c x).andThen (Engine.emit_only _ _ _ _)

theorem does_startup_rejected {id r : Nat} {x : Bool} (h : s.eng.sys.phase = .starting 7)
    (bad : s.eng.cfg.broken = some (id, r)) (active : s.eng.sys.active = some x) :
    Does (.startupStepDone t .configured) t s fun a b => Engine.changesOnly [.cfg, .sys, .log] a b ∧ b.cfg = [] ∧
      b.sys = { a.sys with
        active := none
        generation := 0
        fwBuild := 0
        digests := []
        rejected := x :: a.sys.rejected
        phase := .starting 3 } ∧
      Engine.newEvents a b = [(0x0358, .imageRejected, le 2 id ++ le 2 6)] := by
  have step := stepSeven_rejected (e := s.eng.at t) (ks := s.ks) (r := r) (id := id) (by simpa using bad) (by simpa using active)
  refine Does.of_stepDone (b := (stepSeven s.ks (s.eng.at t)).2) ?_ ?_
  · rw [State.stepDone_configured (at_phase h), step]
  · rw [step]
    refine ⟨Engine.setCfgSys_emit_only _ _ _ _ _ _, rfl, rfl, ?_⟩
    have named : evData [(2, id), (2, 6)] = le 2 id ++ le 2 6 := evData_two _ _ _ _ (by decide)
    rw [← named]
    exact Engine.newEvents_emit_data _ _ _ rfl

end

/-! The full restart (R27, R297, R512). -/

section
variable {e : Engine}

/-- A restart with nothing left to close or to drain begins. -/
theorem Engine.restartAsk_drained (hr : e.sys.phase = .running) (calm : e.sys.fatalAt = none) (drained : e.ep.dirty = []) :
    e.restartAsk = ({ e with sys := { e.sys with restartDue := true } } : Engine).restartNow := by
  unfold Engine.restartAsk Engine.restartWhenDone
  simp [Engine.live, hr, calm, drained]

/-- A restart waits while a dirty block is still to be written (R297). -/
theorem Engine.restartAsk_waits {x : EpDirty} (hr : e.sys.phase = .running) (calm : e.sys.fatalAt = none)
    (held : x ∈ e.ep.dirty) (whole : x.poison = false) :
    e.restartAsk = { e with sys := { e.sys with restartDue := true } } := by
  have wait : e.ep.dirty.any (!·.poison) = true := List.any_eq_true.2 ⟨x, held, by simp [whole]⟩
  unfold Engine.restartAsk Engine.restartWhenDone
  simp [Engine.live, hr, calm, wait]

theorem Engine.fullRestart_accepted {h : MsgHdr} (mode : e.sys.mode = .standby) :
    e.fullRestart h = (e.ok h 0x0103).restartAsk := by
  rw [Engine.fullRestart, if_pos (by simp [mode])]

theorem Engine.fullRestart_refused {h : MsgHdr} (standby : e.sys.mode ≠ .standby) (service : e.sys.mode ≠ .service) :
    e.fullRestart h = e.refuse h 0x0103 .state .none := by
  rw [Engine.fullRestart, if_neg (by simp [standby, service])]

end

section
variable {t : Nat} {h : MsgHdr} {s : State}

/-- What FULL_RESTART's acceptance leaves of the parts that decide when the restart begins. -/
theorem accepted_fullRestart (e : Engine) (h : MsgHdr) :
    ((e.received h 0x0103).ok h 0x0103).sys = e.sys ∧ ((e.received h 0x0103).ok h 0x0103).ep.dirty = e.ep.dirty := by
  constructor
  · rw [((Engine.received_only _ _ _).andThen (Engine.ok_within _ _ _)).sys_eq]
  · rw [Engine.ok, Engine.reply_dirty, Engine.received_dirty]

/-- A full restart drops the staged command and a transfer, and takes back nothing of what was sent. -/
theorem Engine.restartNow_ctl (e : Engine) :
    e.restartNow.ctl.staged = none ∧ e.restartNow.ctl.xfer = none ∧ e.restartNow.ctl.sent = e.ctl.sent := by
  have ctl := e.restartNow_sansClients
  exact ⟨congrArg (·.staged) ctl, congrArg (·.xfer) ctl, congrArg (·.sent) ctl⟩

theorem does_fullRestart (hg : s.takes t h 0x0103) (hr : s.eng.sys.phase = .running) (mode : s.eng.sys.mode = .standby)
    (calm : s.eng.sys.fatalAt = none) (drained : s.eng.ep.dirty = []) : Does (.fullRestart t h) t s fun a b =>
      b.sys.phase = .starting 2 ∧ b.sys.mode = .standby ∧ b.time.origin = a.now ∧ b.ctl.staged = none ∧ b.ctl.xfer = none ∧
      b.replied h 0x0103 .ok .none [] ∧ b.dram = a.dram ∧ b.power = a.power ∧ b.sys.lampOpen = a.sys.lampOpen := by
  refine Does.of_request h 0x0103 (fun e => e.fullRestart h) rfl hg ?_
  obtain ⟨sys, dirty⟩ := accepted_fullRestart (s.eng.at t) h
  rw [Engine.fullRestart_accepted (by simpa using mode), Engine.restartAsk_drained (by rw [sys]; simpa using hr)
    (by rw [sys]; simpa using calm) (by rw [dirty, Engine.at_dirty, drained])]
  have asked := ((Engine.received_only (s.eng.at t) h 0x0103).andThen (Engine.ok_within _ h 0x0103)).andThen
    (Engine.setSys_only _ { (((s.eng.at t).received h 0x0103).ok h 0x0103).sys with restartDue := true })
  obtain ⟨staged, xfer, sent⟩ := Engine.restartNow_ctl
    { ((s.eng.at t).received h 0x0103).ok h 0x0103 with
      sys := { (((s.eng.at t).received h 0x0103).ok h 0x0103).sys with restartDue := true } }
  refine ⟨?_, ?_, ?_, staged, xfer, Engine.replied_congr (Engine.replied_ok _ h 0x0103) sent, ?_, ?_, ?_⟩
  · rw [Engine.restartNow_sys]
  · rw [Engine.restartNow_sys]
  · rw [Engine.restartNow_origin, asked.now_eq]
  · rw [(Engine.restartNow_only _).dram_eq, asked.dram_eq]
  · rw [(Engine.restartNow_only _).power_eq, asked.power_eq]
  · rw [Engine.restartNow_sys]
    dsimp only
    rw [sys]

theorem does_fullRestart_waits {x : EpDirty} (hg : s.takes t h 0x0103) (hr : s.eng.sys.phase = .running)
    (mode : s.eng.sys.mode = .standby) (calm : s.eng.sys.fatalAt = none) (held : x ∈ s.eng.ep.dirty)
    (whole : x.poison = false) : Does (.fullRestart t h) t s fun a b => Engine.changesOnly [.sys, .ctl, .ep] a b ∧
      b.sys = { a.sys with restartDue := true } ∧ b.replied h 0x0103 .ok .none [] := by
  refine Does.of_request h 0x0103 (fun e => e.fullRestart h) rfl hg ?_
  obtain ⟨sys, dirty⟩ := accepted_fullRestart (s.eng.at t) h
  rw [Engine.fullRestart_accepted (by simpa using mode), Engine.restartAsk_waits (x := x) (by rw [sys]; simpa using hr)
    (by rw [sys]; simpa using calm) (by rw [dirty, Engine.at_dirty]; exact held) whole]
  refine ⟨(((Engine.received_only _ _ _).andThen (Engine.ok_within _ _ _)).andThen (Engine.setSys_only _ _)).within, ?_,
    Engine.replied_ok _ _ _⟩
  dsimp only
  rw [sys]

theorem does_fullRestart_refused (hg : s.takes t h 0x0103) (standby : s.eng.sys.mode ≠ .standby)
    (service : s.eng.sys.mode ≠ .service) : Does (.fullRestart t h) t s fun a b =>
      Engine.changesOnly [.ctl, .ep] a b ∧ b.replied h 0x0103 .state .none [] := by
  refine Does.of_request h 0x0103 (fun e => e.fullRestart h) rfl hg ?_
  rw [Engine.fullRestart_refused (by simpa using standby) (by simpa using service)]
  exact Engine.refused_received _ h _ _ (by decide)

end

/-- Settles O55, step by step: each clause is the step's own branch with the facts it found. -/
theorem startUpRunsItsSteps : Obligations.StartUpRunsItsSteps := by
  unfold Obligations.StartUpRunsItsSteps
  refine ⟨?_, ?_, ?_, ?_, ?_, ?_, ?_, ?_, ?_, ?_, ?_, ?_, ?_, ?_, ?_, ?_, ?_⟩
  · exact fun t s h => does_startup_rails h
  · exact fun t n s h hb => exec_startup_rom_ok h hb
  · exact fun t n s h hb => does_startup_rom_failed h hb
  · exact fun t ok s h hb => does_bootRetry h hb
  · exact fun t va vb x v m c s h fresh hv hm ok hc best => does_startup_slot h fresh hv hm ok hc best
  · exact fun t va vb s h ha hb => does_startup_noSlot h ha hb
  · exact fun t s h => does_startup_rootLocked h
  · exact fun t eyes s h hret => does_startup_dram h hret
  · exact fun t eyes x y z s h hret hxy hxz hyz hx hx' hy hy' hz hz' =>
      does_startup_dram_short h hret hxy hxz hyz hx hx' hy hy' hz hz'
  · exact fun t s h => does_startup_links_none h
  · exact fun t l s h => does_startup_links_some h
  · exact fun t s h whole mode => does_startup_configured h whole mode
  · exact fun t s h whole mode high first => exec_startup_configured_sealOpen h whole mode high first
  · exact fun t id r x s h bad active => does_startup_rejected h bad active
  · exact fun t h s hg hr mode calm drained => does_fullRestart hg hr mode calm drained
  · exact fun t h x s hg hr mode calm held whole => does_fullRestart_waits hg hr mode calm held whole
  · exact fun t h s hg standby service => does_fullRestart_refused hg standby service

end Sys2Proof.Machine
end

section
/-! Cores, die links and the closing of clips (O56; R9, R273, R452, R455). -/

namespace Sys2Proof.Machine
set_option Elab.async false

section
variable {i : Instr} {t : Nat} {s : State} {P : Engine → Engine → Prop}

/-- An effect that firmware has. -/
theorem Does.of_firmware (f : Engine → Engine) (hx : exec i s = s.run t fun e => if e.sys.phase.firmware then f e else e)
    (hf : s.eng.sys.phase.firmware = true) (hp : P (s.eng.at t) (f (s.eng.at t))) : Does i t s P := by
  refine Does.of_run _ hx ?_
  rwa [if_pos (by simpa using hf)]

/-- An effect that needs power. -/
theorem Does.of_powered (f : Engine → Engine) (hx : exec i s = s.run t fun e => e.whenPowered f)
    (hf : s.eng.sys.phase.powered = true) (hp : P (s.eng.at t) (f (s.eng.at t))) : Does i t s P := by
  refine Does.of_run _ hx ?_
  rwa [Engine.whenPowered, if_pos (by simpa using hf)]

end

/-! A restart that is due (R9 step 3, R297). -/

section
variable (e : Engine)

theorem Engine.videoIdle_only : Engine.changesOnly [.lanes] e e.videoIdle := by
  refine Engine.changesOnly_foldl _ (fun e l => ?_) _ e
  split
  · exact e.modLane_only _ _
  · exact Engine.changesOnly_refl _ e

variable {e}

theorem Engine.restartWhenDone_notDue (h : e.sys.restartDue = false) : e.restartWhenDone = e := by
  rw [Engine.restartWhenDone, h]
  simp

/-- After a fatal fault the restart waits until the clips are closed. -/
theorem Engine.restartWhenDone_closing (h : e.sys.fatalAt.isSome = true) (clips : e.rec_.takes ≠ []) :
    e.restartWhenDone = e := by
  rw [Engine.restartWhenDone, if_pos (by simp [h, clips])]

/-- With the clips closed and nothing to drain, the video lanes go idle and the restart begins. -/
theorem Engine.restartWhenDone_fatal (hr : e.sys.phase = .running) (due : e.sys.restartDue = true)
    (h : e.sys.fatalAt.isSome = true) (clips : e.rec_.takes = []) (drained : e.ep.dirty = []) :
    e.restartWhenDone = e.videoIdle.restartNow := by
  have idle : e.videoIdle.ep.dirty = [] := by rw [e.videoIdle_only.ep_eq, drained]
  unfold Engine.restartWhenDone
  simp [Engine.live, hr, due, h, clips, idle]

end

/-! A fatal fault in operation (R9, R452). -/

section
variable (e : Engine) (src : Nat) (ev : Ev) (d : List Byte)

/-- The engine as a fatal fault leaves it: the fault logged, clips closing, the restart due. -/
def Engine.faulted : Engine :=
  { (e.emit src ev d).modRec fun r => { r with powerStop := true } with
    sys := { e.sys with fatalAt := some e.now, restartDue := true } }

theorem Engine.fatal_running {e : Engine} (hr : e.sys.phase = .running) (open_ : e.closing = false) :
    e.fatal src ev d = (e.faulted src ev d).restartWhenDone := by
  have still : (e.emit src ev d).closing = false := open_
  have running : (e.emit src ev d).sys.phase = .running := hr
  unfold Engine.fatal
  dsimp only
  rw [still, if_neg Bool.false_ne_true, running]
  rfl

theorem Engine.setSysRec_only (e : Engine) (x : Sys) (r : Recorder) :
    Engine.changesOnly [.sys, .recorder] e { e with sys := x, rec_ := r } := by
  intro p hp
  cases p with
  | sys | recorder => exact absurd (by decide) hp
  | _ => rfl

theorem Engine.faulted_only : Engine.changesOnly [.log, .recorder, .sys] e (e.faulted src ev d) :=
  ((e.emit_only src ev d).andThen (Engine.setSysRec_only _ _ _)).within

theorem Engine.faulted_events : Engine.newEvents e (e.faulted src ev d) = [(src, ev, d.take 14)] :=
  Engine.newEvents_emit e e src ev d rfl

end

/-! CORE_WATCHDOG (R452). -/

section
variable {t : Nat} {c : Fin 4} {s : State}

theorem vget_mem {α : Type} {n : Nat} (v : Vector α n) {i : Nat} (h : i < n) (d : α) : vget v i d ∈ v := by
  rw [vget, dif_pos h]
  exact Vector.getElem_mem h

/-- The instants of the resets of a core within the last 60 s, with the one now. -/
def Core.recent (q : Core) (now : Nat) : List Nat := now :: q.resetsAt.filter fun x => decide (now < x + secs 60)

/-- A core's reset, counted and logged. -/
def Engine.coreReset (e : Engine) (c : Nat) : Engine :=
  let q := vget e.cluster.cores c Core.reset
  let cores := vmod e.cluster.cores c fun x => { x with resetsAt := q.recent e.now, resets := min 63 (x.resets + 1) }
  (({ e with cluster := { e.cluster with cores := cores } } : Engine).bump .fwCoreReset (0x0351 + c)).emit (0x0351 + c)
    .fwCoreReset (evData [(1, c), (1, q.lastCode)])

theorem Engine.coreReset_only (e : Engine) (c : Nat) : Engine.changesOnly [.cluster, .counters, .log] e (e.coreReset c) :=
  (((e.setCluster_only _).andThen (Engine.bump_only _ _ _)).andThen (Engine.emit_only _ _ _ _)).within

theorem Engine.coreReset_cores (e : Engine) (c : Nat) : (e.coreReset c).cluster.cores = vmod e.cluster.cores c fun x =>
    { x with resetsAt := (vget e.cluster.cores c Core.reset).recent e.now, resets := min 63 (x.resets + 1) } := by
  simp [Engine.coreReset]

theorem Engine.coreWatchdog_eq (e : Engine) (c : Nat) : e.coreWatchdog c =
    if e.cf 1 0 30 28 < ((vget e.cluster.cores c Core.reset).recent e.now).length then
      (e.coreReset c).fatal (0x0351 + c) .fwCoreFatal [] else e.coreReset c := by
  have cf : (e.coreReset c).cf 1 0 30 28 = e.cf 1 0 30 28 := by rw [Engine.cf, Engine.cf, (e.coreReset_only c).cfg_eq]
  rw [← cf]
  rfl

theorem does_coreWatchdog (hf : s.eng.sys.phase.firmware = true)
    (few : 1 + ((vget s.eng.cluster.cores c Core.reset).resetsAt.filter fun x => decide ((s.eng.at t).now < x + secs 60)).length ≤
      s.eng.cf 1 0 30 28) : Does (.coreWatchdog t c) t s fun a b => Engine.changesOnly [.cluster, .counters, .log] a b ∧
      (vget b.cluster.cores c Core.reset).resets = min 63 ((vget a.cluster.cores c Core.reset).resets + 1) ∧
      (∀ k : Fin 4, k ≠ c → vget b.cluster.cores k Core.reset = vget a.cluster.cores k Core.reset) ∧
      Engine.counted .fwCoreReset (0x0351 + c.val) a b ∧
      Engine.newEvents a b = [(0x0351 + c.val, .fwCoreReset, le 1 c ++ le 1 (vget a.cluster.cores c Core.reset).lastCode)] := by
  refine Does.of_firmware (Engine.coreWatchdog c.val) rfl hf ?_
  have calm : ¬ (s.eng.at t).cf 1 0 30 28 < ((vget (s.eng.at t).cluster.cores c Core.reset).recent (s.eng.at t).now).length := by
    rw [Core.recent, List.length_cons, Engine.cf, Engine.at_cfg, Engine.at_cluster]
    rw [Engine.cf] at few
    omega
  rw [Engine.coreWatchdog_eq, if_neg calm]
  refine ⟨Engine.coreReset_only _ _, ?_, fun k hk => ?_, ?_, ?_⟩
  · rw [Engine.coreReset_cores, vget_vmod_same _ c.isLt]
  · rw [Engine.coreReset_cores, vget_vmod_ne _ fun h => hk (Fin.ext h.symm)]
  · exact Engine.counted_bump (s.eng.at t) .fwCoreReset (0x0351 + c.val)
  · rw [Engine.coreReset, Engine.newEvents_emit_data _ _ _ (by simp), evData_two _ _ _ _ (by decide)]

theorem does_coreWatchdog_fatal (hr : s.eng.sys.phase = .running)
    (many : s.eng.cf 1 0 30 28 < 1 + ((vget s.eng.cluster.cores c Core.reset).resetsAt.filter fun x =>
      decide ((s.eng.at t).now < x + secs 60)).length) (open_ : s.eng.closing = false) (clips : s.eng.rec_.takes = [])
    (drained : s.eng.ep.dirty = []) : Does (.coreWatchdog t c) t s fun a b => b.sys.phase = .starting 2 ∧
      b.time.origin = a.now ∧ b.power = a.power ∧ ∃ x ∈ b.cluster.cores, x.resetsAt.head? = some a.now := by
  refine Does.of_firmware (Engine.coreWatchdog c.val) rfl (by rw [hr]; rfl) ?_
  have beyond : (s.eng.at t).cf 1 0 30 28 < ((vget (s.eng.at t).cluster.cores c Core.reset).recent (s.eng.at t).now).length := by
    rw [Core.recent, List.length_cons, Engine.cf, Engine.at_cfg, Engine.at_cluster]
    rw [Engine.cf] at many
    omega
  have reset := (s.eng.at t).coreReset_only c
  have fault := ((s.eng.at t).coreReset c).faulted_only (0x0351 + c) .fwCoreFatal []
  have idle := (((s.eng.at t).coreReset c).faulted (0x0351 + c) .fwCoreFatal []).videoIdle_only
  have all := (reset.andThen fault).andThen idle
  have calm : ((s.eng.at t).coreReset c).closing = false := by
    rw [Engine.closing, reset.power_eq, reset.sys_eq]
    simpa [Engine.closing] using open_
  rw [Engine.coreWatchdog_eq, if_pos beyond, Engine.fatal_running _ _ _ (by rw [reset.sys_eq]; simpa using hr) calm,
    Engine.restartWhenDone_fatal ?_ rfl rfl ?_ ?_]
  · refine ⟨by rw [Engine.restartNow_sys], by rw [Engine.restartNow_origin, all.now_eq],
      by rw [(Engine.restartNow_only _).power_eq, all.power_eq], _, vget_mem _ c.isLt Core.reset, ?_⟩
    rw [Engine.restartNow_cores, (fault.andThen idle).cluster_eq, Engine.coreReset_cores, vget_vmod_same _ c.isLt]
    rfl
  · have running : (s.eng.at t).sys.phase = .running := by simpa using hr
    exact (congrArg Sys.phase reset.sys_eq).trans running
  · have none : (s.eng.at t).rec_.takes = [] := by simpa using clips
    exact (congrArg Recorder.takes reset.rec_eq).trans none
  · rw [(reset.andThen fault).ep_eq, Engine.at_dirty, drained]

end

/-! LOAD_SECOND (R455). -/

section
variable {t : Nat} {s : State}

/-- A core's load words of the last second. -/
def Core.loaded (q : Core) (warn load peak : Nat) : Core :=
  { q with load1s := load, loadMax := peak, high := decide (warn < load) }

/-- Of four cores one passes the limit for the first time. -/
theorem range_filter_one (p : Nat → Bool) (k : Fin 4) (hk : p k = true) (h : ∀ j : Fin 4, j ≠ k → p j = false) :
    (List.range 4).filter p = [k.val] := by
  have alone : ∀ k : Fin 4, (List.range 4).filter (fun i => decide (i = k.val)) = [k.val] := by decide
  rw [← alone k]
  refine List.filter_congr fun i hi => ?_
  by_cases hik : i = k.val
  · rw [hik, hk, decide_eq_true rfl]
  · rw [h ⟨i, List.mem_range.1 hi⟩ (fun h => hik (congrArg Fin.val h)), decide_eq_false hik]

/-- The load words land; the cores that pass LOAD_WARN for the first time are logged. -/
theorem Engine.loadSecond_one (e : Engine) (loads peaks slacks : List Nat) (k : Fin 4)
    (high : 10 * e.cf 1 0 27 20 < loads.getD k 0)
    (low : ∀ j : Fin 4, j ≠ k → loads.getD j 0 ≤ 10 * e.cf 1 0 27 20)
    (fresh : (vget e.cluster.cores k Core.reset).high = false) : e.loadSecond loads peaks slacks =
      ({ e with cluster := { e.cluster with
        cores := Vector.ofFn fun (i : Fin 4) =>
          e.cluster.cores[i].loaded (10 * e.cf 1 0 27 20) (loads.getD i 0) (peaks.getD i 0)
        slack := Vector.ofFn fun (i : Fin 8) => satNat 0xFFFF (slacks.getD i 0) } } : Engine).emit (0x0351 + k)
        .fwLoadHigh [] := by
  unfold Engine.loadSecond
  dsimp only
  rw [range_filter_one _ k (by rw [decide_eq_true high, fresh]; rfl) fun j hj => by
    rw [decide_eq_false (Nat.not_lt.2 (low j hj)), Bool.false_and]]
  rfl

theorem does_loadSecond {loads peaks slacks : List Nat} {k : Fin 4} (hf : s.eng.sys.phase.firmware = true)
    (high : 10 * s.eng.cf 1 0 27 20 < loads.getD k 0)
    (low : ∀ j : Fin 4, j ≠ k → loads.getD j 0 ≤ 10 * s.eng.cf 1 0 27 20)
    (fresh : (vget s.eng.cluster.cores k Core.reset).high = false) :
    Does (.loadSecond t loads peaks slacks) t s fun a b => Engine.changesOnly [.cluster, .log] a b ∧
      (∀ j : Fin 4, (vget b.cluster.cores j Core.reset).load1s = loads.getD j 0 ∧
        (vget b.cluster.cores j Core.reset).loadMax = peaks.getD j 0 ∧
        (vget b.cluster.cores j Core.reset).resets = (vget a.cluster.cores j Core.reset).resets) ∧
      (∀ j : Fin 8, vget b.cluster.slack j 0 = satNat 0xFFFF (slacks.getD j 0)) ∧
      Engine.newEvents a b = [(0x0351 + k.val, .fwLoadHigh, [])] := by
  refine Does.of_firmware (Engine.loadSecond loads peaks slacks) rfl hf ?_
  have cf : (s.eng.at t).cf 1 0 27 20 = s.eng.cf 1 0 27 20 := by simp [Engine.cf]
  rw [Engine.loadSecond_one _ loads peaks slacks k (by rwa [cf]) (fun j hj => by rw [cf]; exact low j hj) (by simpa using fresh)]
  refine ⟨((Engine.setCluster_only _ _).andThen (Engine.emit_only _ _ _ _)).within, fun j => ?_, fun j => ?_, ?_⟩
  · rw [Engine.emit_cluster]
    simp [vget, Core.loaded]
  · rw [Engine.emit_cluster]
    simp [vget]
  · exact Engine.newEvents_emit (s.eng.at t) _ _ _ _ rfl

end

/-! DIE_LINK_ERROR (R9). -/

section
variable {t l n : Nat} {s : State}

/-- A counter reads within its 32 bits. -/
theorem ctrVal_le (cells : List CtrCell) (c : Ctr) (src i : Nat) : ctrVal cells c src i ≤ 0xFFFFFFFF := by
  induction cells with
  | nil => exact Nat.zero_le _
  | cons x r ih =>
    rw [ctrVal]
    split
    · exact Nat.le_of_lt_succ x.val.isLt
    · exact ih

theorem Engine.bumpN_ctr (e : Engine) (c : Ctr) (src i n : Nat) :
    (e.bumpN c src i n).ctr c src i = satNat 0xFFFFFFFF (e.ctr c src i + n) := by
  unfold Engine.bumpN
  split
  · next none =>
    have low : e.ctr c src i ≤ 0xFFFFFFFF := ctrVal_le e.counters c src i
    rw [none, Nat.add_zero, satNat, if_neg (Nat.not_lt.2 low)]
  · exact ctrVal_ctrAdd _ _ _ _ _

theorem does_dieLinkError_retried (hf : s.eng.sys.phase.firmware = true) (few : n ≤ 16) :
    Does (.dieLinkError t l n) t s fun a b => Engine.changesOnly [.counters] a b ∧
      b.ctr .dieLinkRetry 0x0010 0 = satNat 0xFFFFFFFF (a.ctr .dieLinkRetry 0x0010 0 + n) := by
  refine Does.of_firmware (Engine.dieLinkError n) rfl hf ?_
  rw [Engine.dieLinkError, if_pos few, Nat.min_eq_left few]
  exact ⟨Engine.bumpN_only _ _ _ _ _, Engine.bumpN_ctr _ _ _ _ _⟩

theorem does_dieLinkError_fatal (hr : s.eng.sys.phase = .running) (many : 16 < n) (open_ : s.eng.closing = false)
    (clips : s.eng.rec_.takes ≠ []) : Does (.dieLinkError t l n) t s fun a b =>
      Engine.changesOnly [.counters, .log, .recorder, .sys] a b ∧
      b.sys = { a.sys with fatalAt := some a.now, restartDue := true } ∧ b.rec_ = { a.rec_ with powerStop := true } ∧
      Engine.newEvents a b = [(0x0010, .dieLinkFatal, [])] := by
  refine Does.of_firmware (Engine.dieLinkError n) rfl (by rw [hr]; rfl) ?_
  have counted := (s.eng.at t).bumpN_only .dieLinkRetry 0x0010 0 (min n 16)
  have calm : ((s.eng.at t).bumpN .dieLinkRetry 0x0010 0 (min n 16)).closing = false := by
    rw [Engine.closing, counted.power_eq, counted.sys_eq]
    simpa [Engine.closing] using open_
  rw [Engine.dieLinkError, if_neg (by omega), Engine.fatal_running _ _ _ (by simpa using hr) calm,
    Engine.restartWhenDone_closing rfl ?_]
  · refine ⟨(counted.andThen (Engine.faulted_only _ _ _ _)).within, ?_, ?_, ?_⟩
    · simp [Engine.faulted]
    · simp [Engine.faulted]
    · rw [Engine.newEvents_congr counted.log_eq.symm, Engine.faulted_events]
      rfl
  · simpa [Engine.faulted] using clips

end

/-! POWER_FAIL_FLUSH (R273): every clip is ended at its last picture, and nothing is left to record. -/

/-- What the end of a clip keeps: that the flush has begun, and the endpoint's dirty blocks. -/
def Engine.flushBase (e : Engine) : Bool × List EpDirty := (e.rec_.flushStop, e.ep.dirty)

/-- A step of the flush: it stays within the recorder and what logs, counts and notifies, and keeps the above. -/
def Engine.flushes (a b : Engine) : Prop :=
  Engine.changesOnly [.recorder, .log, .ctl, .ep, .counters] a b ∧ b.flushBase = a.flushBase

section
variable (e : Engine)

theorem Engine.flushes_refl : Engine.flushes e e := ⟨Engine.changesOnly_refl _ e, rfl⟩

variable {e}

theorem Engine.flushes.trans {a b c : Engine} (h : Engine.flushes a b) (h' : Engine.flushes b c) : Engine.flushes a c :=
  ⟨Engine.changesOnly_trans h.1 h'.1, h'.2.trans h.2⟩

theorem Engine.flushes_foldl {α : Type} (f : Engine → α → Engine) (h : ∀ e x, Engine.flushes e (f e x))
    (l : List α) (e : Engine) :
    Engine.flushes e (l.foldl f e) :=
  ⟨Engine.changesOnly_foldl f (fun e x => (h e x).1) l e, Engine.foldl_keeps (·.flushBase) f (fun e x => (h e x).2) l e⟩

variable (e)

theorem Engine.modRec_flushes {f : Recorder → Recorder} (h : ∀ r, (f r).flushStop = r.flushStop) :
    Engine.flushes e (e.modRec f) :=
  ⟨(e.modRec_only f).within, congrArg (·, e.ep.dirty) (h e.rec_)⟩

theorem Engine.modTake_flushes (id : Nat) (f : Take → Take) : Engine.flushes e (e.modTake id f) := e.modRec_flushes fun _ => rfl

theorem Engine.modMedia_flushes (m : Nat) (f : MediaPort → MediaPort) : Engine.flushes e (e.modMedia m f) :=
  ⟨(e.modMedia_only m f).within, rfl⟩

theorem Engine.recFlush_flushes (m : Nat) : Engine.flushes e (e.recFlush m) := e.modMedia_flushes m _

theorem Engine.recEnd_flushes (id last how : Nat) : Engine.flushes e (e.recEnd id last how) := by
  unfold Engine.recEnd
  dsimp only
  refine (e.modTake_flushes id _).trans (Engine.modRec_flushes _ ?_)
  exact fun _ => rfl

theorem Engine.layChunk_flushes (k n pos port ty flags cfn picNum mask count audio : Nat) (body : List Byte) :
    Engine.flushes e (e.layChunk k n pos port ty flags cfn picNum mask count audio body) := by
  unfold Engine.layChunk
  split
  · exact e.flushes_refl
  · refine ((e.modTake_flushes k _).trans (Engine.modRec_flushes _ ?_)).trans (Engine.modMedia_flushes _ port _)
    exact fun _ => rfl

theorem Engine.layFinals_flushes (id : Nat) (d : TakeDrive) : Engine.flushes e (e.layFinals id d) := by
  unfold Engine.layFinals
  split
  · exact e.flushes_refl
  · refine Engine.flushes_foldl _ (fun e c => ?_) _ e
    split
    · exact e.flushes_refl
    · split
      · exact e.flushes_refl
      · exact e.layChunk_flushes _ _ _ _ _ _ _ _ _ _ _ _

theorem Engine.setFile_flushes (m : Nat) (path : List Byte) (n : Nat) : Engine.flushes e (e.setFile m path n) :=
  e.modMedia_flushes m _

theorem Engine.fileEnd_flushes (x : Chunk) : Engine.flushes e (e.fileEnd x) := by
  unfold Engine.fileEnd
  split
  · exact e.flushes_refl
  · next k hk =>
    refine (e.setFile_flushes x.port (e.stripePath x.stream k.reel k.clip x.pos)
      (4096 * (x.page + 1 + x.body.length / 4096))).trans ?_
    have proxy (e : Engine) (c : Bool) (path : List Byte) :
        Engine.flushes e (if c then e.setFile x.port path k.proxy.bytes else e) := by
      split
      · exact e.setFile_flushes _ _ _
      · exact e.flushes_refl
    split
    · exact Engine.flushes_refl _
    · dsimp only
      split
      · exact (Engine.setFile_flushes _ _ _ _).trans (proxy _ _ _)
      · exact proxy _ _ _

theorem Engine.emit_flushes (src : Nat) (ev : Ev) (d : List Byte) : Engine.flushes e (e.emit src ev d) :=
  ⟨(e.emit_only src ev d).within, rfl⟩

theorem Engine.bumpN_flushes (c : Ctr) (src i n : Nat) : Engine.flushes e (e.bumpN c src i n) := by
  refine ⟨(e.bumpN_only c src i n).within, ?_⟩
  rw [Engine.flushBase, Engine.bumpN_rec, Engine.bumpN_ep]
  rfl

theorem Engine.notify_flushes (ty : Nat) (o : Option Client) (d : List Byte) : Engine.flushes e (e.notify ty o d) := by
  refine ⟨(e.notify_only ty o d).within, ?_⟩
  rw [Engine.flushBase, Engine.notify_dirty, (e.notify_only ty o d).rec_eq]
  rfl

theorem Engine.clipNotes_flushes (k : Take) (last how : Nat) : Engine.flushes e (e.clipNotes k last how) :=
  Engine.flushes_foldl _ (fun e _ => e.notify_flushes _ _ _) _ e

/-- A record start ends at the last picture that was written. -/
def Engine.flushTake (e : Engine) (t : Take) : Engine :=
  let l := e.lastWritten t
  let last := match t.last with
    | some x => if cfnDiff l x < 0 then l else x
    | none => l
  let lost := ((t.entered.map (·.2)).dedup.filter fun c => decide (0 < cfnDiff c last)).length
  let e := e.recEnd t.id last 3
  let e := t.live.foldl (fun e d => e.layFinals t.id d) e
  let e := (e.rec_.chunks.filter fun x => x.take = t.id && x.ty = 3).foldl (fun e x => e.fileEnd x) e
  let e := t.clips.foldl (fun e _ => e.emit 0x0200 .clipPowerClose (evData [(4, last)])) e
  (e.bumpN .recFramesLost 0x0200 0 lost).clipNotes t last 3

theorem Engine.flushTake_flushes (k : Take) : Engine.flushes e (e.flushTake k) := by
  have finals := Engine.flushes_foldl (fun e d => Engine.layFinals k.id d e) (fun e d => e.layFinals_flushes k.id d) k.live
  have files := Engine.flushes_foldl (fun e x => Engine.fileEnd x e) (fun e x => e.fileEnd_flushes x)
  have logged := fun n => Engine.flushes_foldl (fun e (_ : ClipRec) => e.emit 0x0200 .clipPowerClose (evData [(4, n)]))
    (fun e _ => e.emit_flushes _ _ _) k.clips
  exact (((((e.recEnd_flushes _ _ _).trans (finals _)).trans (files _ _)).trans (logged _ _)).trans
    (Engine.bumpN_flushes _ _ _ _ _)).trans (Engine.clipNotes_flushes _ _ _ _)

/-- The flush begins on every drive of the recording set. -/
def Engine.flushBegin (e : Engine) : Engine :=
  [0, 1, 2, 3].foldl (fun e m => if e.inSet m || e.inClosing m then e.recFlush m else e)
    (e.modRec fun r => { r with flushStop := true })

/-- With each record start ended, nothing is left to record. -/
def Engine.flushed (e : Engine) : Engine :=
  (e.flushBegin.rec_.takes.foldl Engine.flushTake e.flushBegin).modRec fun r =>
    { r with takes := [], buffer := [], chunks := [], moves := [] }

theorem Engine.powerFailFlush_due {e : Engine} (fresh : e.rec_.flushStop = false)
    (due : (e.since 100 e.power.t0 || e.since 100 e.power.trip || e.since 100 e.sys.fatalAt) = true) :
    e.powerFailFlush = e.flushed := by
  unfold Engine.powerFailFlush
  rw [if_neg (by rw [fresh, due]; decide)]
  rfl

theorem Engine.flushed_effect :
    Engine.changesOnly [.recorder, .log, .ctl, .ep, .counters] e e.flushed ∧ e.flushed.rec_.takes = [] ∧
      e.flushed.rec_.chunks = [] ∧ e.flushed.rec_.buffer = [] ∧ e.flushed.rec_.flushStop = true ∧
      e.flushed.ep.dirty = e.ep.dirty := by
  have begun : Engine.flushes (e.modRec fun r => { r with flushStop := true }) e.flushBegin := by
    refine Engine.flushes_foldl _ (fun e m => ?_) _ _
    split
    · exact e.recFlush_flushes m
    · exact e.flushes_refl
  obtain ⟨only, base⟩ := begun.trans
    (Engine.flushes_foldl Engine.flushTake (fun e k => e.flushTake_flushes k) e.flushBegin.rec_.takes _)
  refine ⟨((e.modRec_only _).andThen only).andThen (Engine.modRec_only _ _) |>.within, rfl, rfl, rfl, ?_, ?_⟩
  · exact congrArg Prod.fst base
  · exact congrArg Prod.snd base

end

section
variable {t : Nat} {s : State}

theorem does_powerFailFlush_inputLost {t0 : Nat} (hp : s.eng.sys.phase.powered = true) (lost : s.eng.power.t0 = some t0)
    (due : t0 + ms 100 ≤ (s.eng.at t).now) (fresh : s.eng.rec_.flushStop = false) (none : s.eng.sys.restartDue = false) :
    Does (.powerFailFlush t) t s fun a b => b.rec_.takes = [] ∧ b.rec_.chunks = [] ∧ b.rec_.buffer = [] ∧
      b.rec_.flushStop = true ∧ b.sys = a.sys ∧ b.power = a.power ∧ b.pins = a.pins ∧ b.cfg = a.cfg := by
  refine Does.of_powered (fun e => e.powerFailFlush.restartWhenDone) rfl hp ?_
  obtain ⟨only, takes, chunks, buffer, stop, -⟩ := (s.eng.at t).flushed_effect
  have begins : (s.eng.at t).powerFailFlush = (s.eng.at t).flushed := by
    refine Engine.powerFailFlush_due (by simpa using fresh) ?_
    rw [Engine.at_power, lost, Engine.since_due _ due, Bool.true_or, Bool.true_or]
  rw [begins, Engine.restartWhenDone_notDue (by rw [only.sys_eq]; simpa using none)]
  exact ⟨takes, chunks, buffer, stop, only.sys_eq, only.power_eq, only.pins_eq, only.cfg_eq⟩

theorem does_powerFailFlush_fatal {x : Nat} (hr : s.eng.sys.phase = .running) (fault : s.eng.sys.fatalAt = some x)
    (restart : s.eng.sys.restartDue = true) (due : x + ms 100 ≤ (s.eng.at t).now) (fresh : s.eng.rec_.flushStop = false)
    (drained : s.eng.ep.dirty = []) : Does (.powerFailFlush t) t s fun a b =>
      b.sys.phase = .starting 2 ∧ b.sys.fatalAt = none ∧ b.sys.restartDue = false ∧ b.time.origin = a.now := by
  refine Does.of_powered (fun e => e.powerFailFlush.restartWhenDone) rfl (by rw [hr]; rfl) ?_
  obtain ⟨only, takes, -, -, -, dirty⟩ := (s.eng.at t).flushed_effect
  have begins : (s.eng.at t).powerFailFlush = (s.eng.at t).flushed := by
    refine Engine.powerFailFlush_due (by simpa using fresh) ?_
    rw [Engine.at_sys, fault, Engine.since_due _ due, Bool.or_true]
  have sys : (s.eng.at t).flushed.sys = s.eng.sys := by rw [only.sys_eq, Engine.at_sys]
  rw [begins, Engine.restartWhenDone_fatal (by rw [sys, hr]) (by rw [sys, restart]) (by rw [sys, fault]; rfl) takes
    (by rw [dirty, Engine.at_dirty, drained]), Engine.restartNow_sys]
  refine ⟨rfl, rfl, rfl, ?_⟩
  rw [Engine.restartNow_origin, (only.andThen (Engine.videoIdle_only _)).now_eq]

end

/-- Settles O56, clause by clause, from the lemmas on a fatal fault, on the restart that waits, and on the flush of the clips. -/
theorem coresAndLinksAreWatched : Obligations.CoresAndLinksAreWatched := by
  unfold Obligations.CoresAndLinksAreWatched
  refine ⟨?_, ?_, ?_, ?_, ?_, ?_, ?_⟩
  · exact fun t c s hf few => does_coreWatchdog hf few
  · exact fun t c s hr many open_ clips drained => does_coreWatchdog_fatal hr many open_ clips drained
  · exact fun t loads peaks slacks k s hf high low fresh => does_loadSecond hf high low fresh
  · exact fun t l n s hf few => does_dieLinkError_retried hf few
  · exact fun t l n s hr many open_ clips => does_dieLinkError_fatal hr many open_ clips
  · exact fun t t0 s hp lost due fresh none => does_powerFailFlush_inputLost hp lost due fresh none
  · exact fun t x s hr _ _ fault restart due fresh drained => does_powerFailFlush_fatal hr fault restart due fresh drained

end Sys2Proof.Machine
end

section
/-! Lanes (O8 to O11): bring-up and loss of lock (R52, R53), the elastic buffer (R48, R50, R54), and lane tests (R55). -/

namespace Sys2Proof.Machine
set_option Elab.async false

/-! A lane after changes of one lane. -/

/-- Two changes of a unit are one change. -/
theorem vmod_vmod {α : Type} {n : Nat} (v : Vector α n) (i : Nat) (f g : α → α) :
    vmod (vmod v i f) i g = vmod v i fun x => g (f x) := by
  unfold vmod
  split
  · rw [Vector.set_set, Vector.getElem_set_self]
  · rfl

/-- A change of a unit is what it makes of the unit as it stands. -/
theorem vmod_congr {α : Type} {n : Nat} (v : Vector α n) (i : Nat) (d : α) {f g : α → α}
    (h : f (vget v i d) = g (vget v i d)) : vmod v i f = vmod v i g := by
  unfold vmod
  split
  · next hi => rw [vget, dif_pos hi] at h; rw [h]
  · rfl

theorem Engine.changesOnly.lanes_eq {ps : List Part} {a b : Engine} (h : Engine.changesOnly ps a b)
    (out : decide (Part.lanes ∈ ps) = false := by rfl) : b.lanes = a.lanes :=
  (Engine.changesOnly_get h .lanes out).symm

/-- A lane reads as the lanes stand. -/
theorem Engine.lane_congr {a b : Engine} (h : a.lanes = b.lanes) (l : Nat) : a.lane l = b.lane l := by
  rw [Engine.lane, Engine.lane, h]

section
variable (e : Engine)

@[simp] theorem Engine.at_lane (t l : Nat) : (e.at t).lane l = e.lane l := Engine.lane_congr (e.at_lanes t) l
@[simp] theorem Engine.at_port (t p : Nat) : (e.at t).port p = e.port p := by rw [Engine.port, Engine.at_ports, Engine.port]
@[simp] theorem Engine.at_cf (t id i hi lo : Nat) : (e.at t).cf id i hi lo = e.cf id i hi lo := by
  rw [Engine.cf, Engine.at_cfg, Engine.cf]
@[simp] theorem Engine.at_cb (t id i b : Nat) : (e.at t).cb id i b = e.cb id i b := by
  rw [Engine.cb, Engine.at_cfg, Engine.cb]

theorem Engine.modLane_lane {l : Nat} (h : l < 62) (f : Lane → Lane) : (e.modLane l f).lane l = f (e.lane l) :=
  vget_vmod_same e.lanes h f _

/-- One counter and one event, reported together. -/
theorem Engine.bump_emit_effect (c : Ctr) (src : Nat) (ev : Ev) (d : List Byte) :
    Engine.changesOnly [.counters, .log] e ((e.bump c src).emit src ev d) ∧
      Engine.counted c src e ((e.bump c src).emit src ev d) ∧
      Engine.newEvents e ((e.bump c src).emit src ev d) = [(src, ev, d.take 14)] :=
  ⟨((e.bump_only c src).andThen (Engine.emit_only _ _ _ _)).within,
    Engine.counted_of_counters (e.counted_bump c src) rfl rfl, Engine.newEvents_emit _ _ _ _ _ (e.bump_log c src)⟩

/-- Counting on another counter leaves what this one has counted. -/
theorem Engine.counted.then_bump {c c' : Ctr} {src : Nat} {a b : Engine} (h : Engine.counted c src a b) (hc : c' ≠ c)
    (src' : Nat) : Engine.counted c src a (b.bump c' src') := by
  rw [Engine.counted, Engine.bump, Engine.bumpN_ctr_ne b hc]
  exact h

/-- Counting once more where nothing has counted before. -/
theorem Engine.counted_bump_of_ctr {c : Ctr} {src : Nat} {a b : Engine} (h : b.ctr c src 0 = a.ctr c src 0) :
    Engine.counted c src a (b.bump c src) := by
  rw [Engine.counted, b.counted_bump c src, h]

/-! Bring-up (R52). -/

/-- A step of bring-up: it changes the lane when that is in the step before, and otherwise leaves all as it is. -/
theorem Engine.laneStep_effect (l k : Nat) (f : Lane → Lane) :
    Engine.changesOnly [.lanes] e (if (e.lane l).step ≠ k then e else e.modLane l f) ∧
      (if (e.lane l).step ≠ k then e else e.modLane l f).lanes =
        if (e.lane l).step = k then vmod e.lanes l f else e.lanes := by
  by_cases h : (e.lane l).step = k
  · rw [if_neg (not_not.2 h), if_pos h]
    exact ⟨e.modLane_only l f, rfl⟩
  · rw [if_pos h, if_neg h]
    exact ⟨Engine.changesOnly_refl _ e, rfl⟩

theorem Engine.cf_lt (id i hi lo : Nat) : e.cf id i hi lo < 2 ^ (hi + 1 - lo) := Nat.mod_lt _ (Nat.two_pow_pos _)

/-- The CTLE setting of a receive lane: CTLE_GAIN with EQ_FIXED, and otherwise a free one. -/
theorem Engine.ctle_effect {l : Nat} (rx : laneRx l = true) :
    Engine.changesOnly [.lanes, .free] e (e.ctle l) ∧
      ∃ v < 32, (e.cb 0x0003 l 20 = true → v = e.cf 0x0003 l 19 15) ∧
        (e.ctle l).lanes = vmod e.lanes l fun q => { q with ctleNow := v } := by
  have draw : Engine.changesOnly [.free] e e.draw.2 := by
    intro p hp
    cases p with
    | free => exact absurd (by decide) hp
    | _ => rfl
  rw [Engine.ctle, rx, Bool.not_true, if_neg Bool.false_ne_true]
  cases fixed : e.cb 0x0003 l 20 with
  | true => exact ⟨(e.modLane_only l _).within, _, e.cf_lt 0x0003 l 19 15, fun _ => rfl, rfl⟩
  | false =>
    exact ⟨(draw.andThen (Engine.modLane_only _ _ _)).within, _, Nat.mod_lt _ (by decide), nofun, rfl⟩

/-- Where no sensor port trains, PCS lock is a step like the others. -/
theorem Engine.lanePcsLock_plain {l : Nat} (h : l < 16 → (e.port (if e.cfg.split then l / 8 else 0)).link ≠ .training) :
    e.lanePcsLock l =
      if (e.lane l).step ≠ 3 then e else e.modLane l fun q => { q with pcsLock := true, step := 4 } := by
  have plain : ¬ (decide (l < 16) && decide ((e.port (if e.cfg.split then l / 8 else 0)).link = .training)) = true := by
    simpa using h
  exact ite_congr rfl (fun _ => rfl) fun _ => if_neg plain

theorem Engine.lanePcsLock_training {l : Nat} (sensor : l < 16) (step : (e.lane l).step = 3)
    (h : (e.port (if e.cfg.split then l / 8 else 0)).link = .training) :
    e.lanePcsLock l = ((e.modLane l fun q => { q with pcsLock := true, step := 4 }).modLane l fun q =>
      { q with eqDone := true }).ctle l := by
  have training : (decide (l < 16) && decide ((e.port (if e.cfg.split then l / 8 else 0)).link = .training)) = true := by
    simp [sensor, h]
  rw [Engine.lanePcsLock, if_neg (not_not.2 step)]
  exact if_pos training

end

section
variable {t : Nat} {l : Fin 62} {s : State}

theorem does_lanePllLock (hp : s.eng.sys.phase.powered = true) : Does (.lanePllLock t l) t s fun a b =>
    Engine.changesOnly [.lanes] a b ∧
      b.lanes = (if (a.lane l).step = 1 then vmod a.lanes l fun q => { q with
        pllLock := true, step := if laneRx l then 2 else 4, classVIdle := q.classVIdle && a.clk.classV } else a.lanes) :=
  Does.of_powered (·.lanePllLock l) rfl hp (Engine.laneStep_effect _ _ _ _)

theorem does_laneCdrLock (hp : s.eng.sys.phase.powered = true) : Does (.laneCdrLock t l) t s fun a b =>
    Engine.changesOnly [.lanes] a b ∧
      b.lanes = (if (a.lane l).step = 2 then vmod a.lanes l fun q => { q with cdrLock := true, step := 3 } else a.lanes) :=
  Does.of_powered (·.laneCdrLock l) rfl hp (Engine.laneStep_effect _ _ _ _)

theorem does_lanePcsLock_plain (hp : s.eng.sys.phase.powered = true)
    (h : l.val < 16 → (s.eng.port (if s.eng.cfg.split then l.val / 8 else 0)).link ≠ .training) :
    Does (.lanePcsLock t l) t s fun a b => Engine.changesOnly [.lanes] a b ∧
      b.lanes = (if (a.lane l).step = 3 then vmod a.lanes l fun q => { q with pcsLock := true, step := 4 } else a.lanes) := by
  refine Does.of_powered (·.lanePcsLock l) rfl hp ?_
  rw [Engine.lanePcsLock_plain _ (by simpa using h)]
  exact Engine.laneStep_effect _ _ _ _

theorem does_lanePcsLock_training (hp : s.eng.sys.phase.powered = true) (sensor : l.val < 16)
    (step : (s.eng.lane l).step = 3) (h : (s.eng.port (if s.eng.cfg.split then l.val / 8 else 0)).link = .training) :
    Does (.lanePcsLock t l) t s fun a b => Engine.changesOnly [.lanes, .free] a b ∧
      ∃ v < 32, (s.eng.cb 0x0003 l 20 = true → v = s.eng.cf 0x0003 l 19 15) ∧
        b.lanes = (vmod a.lanes l fun q => { q with pcsLock := true, step := 4, eqDone := true, ctleNow := v }) := by
  refine Does.of_powered (·.lanePcsLock l) rfl hp ?_
  rw [Engine.lanePcsLock_training _ sensor (by simpa using step) (by simpa using h)]
  have rx : laneRx l = true := by simp [laneRx]; omega
  obtain ⟨only, v, small, fixed, lanes⟩ := (((s.eng.at t).modLane l fun q => { q with pcsLock := true, step := 4 }).modLane l
    fun q => { q with eqDone := true }).ctle_effect rx
  refine ⟨(((Engine.modLane_only _ _ _).andThen (Engine.modLane_only _ _ _)).andThen only).within, v, small, ?_, ?_⟩
  · rw [← Engine.at_cb (t := t), ← Engine.at_cf (t := t)]
    exact fixed
  · rw [lanes, Engine.modLane_lanes, Engine.modLane_lanes, vmod_vmod, vmod_vmod]

theorem does_laneLockFail (hp : s.eng.sys.phase.powered = true) (step : (s.eng.lane l).step = 3) :
    Does (.laneLockFail t l) t s fun a b => Engine.changesOnly [.lanes, .counters, .log] a b ∧
      b.lanes = (vmod a.lanes l fun q => { q with cdrLock := false, step := 2 }) ∧
      Engine.counted .laneLockFail (laneSrc l) a b ∧ Engine.newEvents a b = [(laneSrc l, .laneLockFail, [])] := by
  refine Does.of_powered (·.laneLockFail l) rfl hp ?_
  rw [Engine.laneLockFail, if_neg (not_not.2 (by simpa using step))]
  obtain ⟨only, counted, events⟩ := ((s.eng.at t).modLane l fun q => { q with cdrLock := false, step := 2 }).bump_emit_effect
    .laneLockFail (laneSrc l) .laneLockFail []
  exact ⟨((Engine.modLane_only _ _ _).andThen only).within, only.lanes_eq, counted, events⟩

end

/-! LANE_UP of a lane that is a link of its own. -/

section
variable (e : Engine) {l rate width pm : Nat}

/-- A network lane comes up at its configured rate. -/
theorem Engine.laneUp_network (lo : 36 ≤ l) (hi : l < 44) (test : (e.lane l).test = false) (down : (e.lane l).linkUp = false)
    (step : 4 ≤ (e.lane l).step) (link : e.cfg.laneLink l = [l]) :
    e.laneUp l (e.cfg.lnRate l) width pm =
      (e.laneRise (e.cfg.lnRate l) l).emit (laneSrc l) .laneUp (evData [(4, e.cfg.lnRate l), (4, 1)]) := by
  have media : ¬ (16 ≤ l ∧ l < 36) := by omega
  have sensor : ¬ l < 16 := by omega
  have video : ¬ 54 ≤ l := by omega
  simpa [Engine.laneUp, Cfg.laneRates, link, test, down, step, media, sensor, video] using
    fun _ endpoint => absurd endpoint (by omega)

/-- A media lane that is up enters the power states of a PCIe link state. -/
theorem Engine.laneUp_power (lo : 16 ≤ l) (hi : l < 36) (test : (e.lane l).test = false) (up : (e.lane l).linkUp = true)
    (step : 4 ≤ (e.lane l).step) (low : 1 ≤ rate) (high : rate ≤ e.cfg.lnRate l) (link : e.cfg.laneLink l = [l]) :
    e.laneUp l rate width pm = e.modLane l (Lane.pm pm) := by
  have sensor : ¬ l < 16 := by omega
  simp [Engine.laneUp, Cfg.laneRates, link, test, up, step, lo, hi, low, high, sensor]

end

section
variable {t : Nat} {l : Fin 62} {s : State} {width : Nat} {pm : Fin 5}

theorem does_laneUp_network (hp : s.eng.sys.phase.powered = true) (lo : 36 ≤ l.val) (hi : l.val < 44)
    (test : (s.eng.lane l).test = false) (down : (s.eng.lane l).linkUp = false) (step : 4 ≤ (s.eng.lane l).step)
    (link : s.eng.cfg.laneLink l = [l.val]) : Does (.laneUp t l (s.eng.cfg.lnRate l) ⟨width, pm⟩) t s fun a b =>
      Engine.changesOnly [.lanes, .log, .free] a b ∧
      (∃ v < 32, (s.eng.cb 0x0003 l 20 = true → v = s.eng.cf 0x0003 l 19 15) ∧
        b.lanes = (vmod a.lanes l fun q => { q with
          step := 5, linkUp := true, eqDone := true, rateNow := a.cfg.lnRate l, ctleNow := v })) ∧
      Engine.newEvents a b = [(laneSrc l, .laneUp, le 4 (a.cfg.lnRate l) ++ le 4 1)] := by
  refine Does.of_powered (·.laneUp l (s.eng.cfg.lnRate l) width pm) rfl hp ?_
  rw [← Engine.at_cfg (t := t), Engine.laneUp_network _ lo hi (by simpa using test) (by simpa using down)
    (by simpa using step) (by simpa using link)]
  have rx : laneRx l = true := by simp [laneRx, hi]
  obtain ⟨only, v, small, fixed, lanes⟩ := ((s.eng.at t).modLane l fun q =>
    { q with step := 5, linkUp := true, eqDone := true, rateNow := (s.eng.at t).cfg.lnRate l }).ctle_effect rx
  refine ⟨(((Engine.modLane_only _ _ _).andThen only).andThen (Engine.emit_only _ _ _ _)).within, ⟨v, small, ?_, ?_⟩, ?_⟩
  · rw [← Engine.at_cb (t := t), ← Engine.at_cf (t := t)]
    exact fixed
  · exact lanes.trans ((congrArg (vmod · l.val _) (Engine.modLane_lanes _ _ _)).trans (vmod_vmod _ _ _ _))
  · rw [← evData_two _ _ _ _ (by decide)]
    exact Engine.newEvents_emit_data _ _ _ only.log_eq

theorem does_laneUp_power {rate : Nat} (hp : s.eng.sys.phase.powered = true) (lo : 16 ≤ l.val) (hi : l.val < 32)
    (test : (s.eng.lane l).test = false) (up : (s.eng.lane l).linkUp = true) (step : 4 ≤ (s.eng.lane l).step)
    (low : 1 ≤ rate) (high : rate ≤ s.eng.cfg.lnRate l) (link : s.eng.cfg.laneLink l = [l.val]) :
    Does (.laneUp t l rate ⟨width, pm⟩) t s fun a b =>
      Engine.changesOnly [.lanes] a b ∧ b.lanes = (vmod a.lanes l fun q => { q with
        txPs := if pm.val = 4 then 2 else if pm.val = 1 ∨ pm.val = 3 then 1 else 0
        rxPs := if pm.val = 4 then 2 else if pm.val = 2 ∨ pm.val = 3 then 1 else 0 }) := by
  refine Does.of_powered (·.laneUp l rate width pm) rfl hp ?_
  rw [Engine.laneUp_power _ lo (by omega) (by simpa using test) (by simpa using up) (by simpa using step) low
    (by simpa using high) (by simpa using link)]
  exact ⟨Engine.modLane_only _ _ _, rfl⟩

end

/-- Settles O8: each step of Table 3.6 by its lemma. -/
theorem laneBringUpSteps : Obligations.LaneBringUpSteps := by
  unfold Obligations.LaneBringUpSteps
  exact ⟨fun _ _ _ => does_lanePllLock, fun _ _ _ => does_laneCdrLock, fun _ _ _ => does_lanePcsLock_plain,
    fun _ _ _ => does_lanePcsLock_training, fun _ _ _ => does_laneLockFail, fun _ _ _ _ _ => does_laneUp_network,
    fun _ _ _ _ _ _ => does_laneUp_power⟩

/-! A lane that loses a lock (R53). -/

section
variable (e : Engine) {l : Nat}

/-- A network lane that loses CDR or PCS is reported, goes down to step 2, and its retraining is counted (R60). -/
theorem Engine.laneLost_network {why : Nat} (lo : 36 ≤ l) (hi : l < 44) (pll : why ≠ 1) : e.laneLost l why =
    (((e.bump .laneDown (laneSrc l)).emit (laneSrc l) .laneDown (evData [(1, why)])).modLane l fun q => { q with
      linkUp := false, eqDone := false, rateNow := 0, pcsLock := false, cdrLock := q.cdrLock && decide (why = 3)
      pllLock := true, prbsLock := false, step := 2 }).bump .laneRetrain (laneSrc l) := by
  have media : ¬ (16 ≤ l ∧ l < 36) := by omega
  have sensor : ¬ l < 16 := by omega
  have endpoint : ¬ (32 ≤ l ∧ l < 36) := by omega
  have network : 36 ≤ l ∧ l < 44 := ⟨lo, hi⟩
  simp only [Engine.laneLost, Cfg.laneRetrains, Engine.laneProtocol, Engine.countRetrain, if_neg media, if_pos network,
    if_neg sensor, if_neg endpoint, if_neg pll, decide_eq_true pll, List.foldl_cons, List.foldl_nil]

/-- LANE_DOWN of a network lane without the loss of its PLL. -/
theorem Engine.laneDown_network {cdr pcs : Bool} (lo : 36 ≤ l) (hi : l < 44) (up : (e.lane l).linkUp = true)
    (lost : (cdr || pcs) = true) : e.laneDown l false cdr pcs = e.laneLost l (if cdr then 2 else 3) := by
  have notSdi : l ≠ 52 ∧ l ≠ 53 := by omega
  rw [Engine.laneDown, up, Bool.false_or, lost, if_neg (by decide)]
  dsimp only
  rw [if_neg Bool.false_ne_true, if_neg Bool.false_ne_true]
  cases cdr with
  | true => rw [if_pos rfl, Engine.cdrLost, if_pos notSdi]
  | false => exact if_neg Bool.false_ne_true

/-- LANE_PLL_UNLOCK of a lane in bring-up: reported unless Class V excuses it, and back to step 1 (R46). -/
theorem Engine.lanePllUnlock_bringUp (video : (laneVideo l && e.clk.classV) = false) (step : (e.lane l).step ≠ 0)
    (down : (e.lane l).linkUp = false) : e.lanePllUnlock l =
      ((e.bump .lanePllFail (laneSrc l)).emit (laneSrc l) .lanePllUnlock []).modLane l fun q => { q with
        pllLock := false, cdrLock := false, pcsLock := false, linkUp := false, eqDone := false, rateNow := 0, step := 1 } := by
  rw [Engine.lanePllUnlock, if_neg step, Engine.pllLost, video, if_neg Bool.false_ne_true]
  dsimp only
  rw [down, if_neg Bool.false_ne_true]

end

section
variable {t : Nat} {l : Fin 62} {s : State}

theorem does_laneDown_network {cdr pcs : Bool} (hp : s.eng.sys.phase.powered = true) (lo : 36 ≤ l.val) (hi : l.val < 44)
    (up : (s.eng.lane l).linkUp = true) (lost : (cdr || pcs) = true) :
    Does (.laneDown t l false cdr pcs) t s fun a b => Engine.changesOnly [.lanes, .counters, .log] a b ∧
      b.lanes = (vmod a.lanes l fun q => { q with
        linkUp := false, eqDone := false, rateNow := 0, pcsLock := false, cdrLock := q.cdrLock && !cdr, pllLock := true,
        prbsLock := false, step := 2 }) ∧
      Engine.counted .laneDown (laneSrc l) a b ∧ Engine.counted .laneRetrain (laneSrc l) a b ∧
      Engine.newEvents a b = [(laneSrc l, .laneDown, le 1 (if cdr then 2 else 3))] := by
  have notPll : (if cdr then 2 else 3) ≠ 1 := by cases cdr <;> decide
  have pcsOnly : decide ((if cdr then 2 else 3) = 3) = !cdr := by cases cdr <;> decide
  refine Does.of_powered (·.laneDown l false cdr pcs) rfl hp ?_
  rw [Engine.laneDown_network _ lo hi (by simpa using up) lost, Engine.laneLost_network _ lo hi notPll, pcsOnly]
  obtain ⟨only, counted, events⟩ := (s.eng.at t).bump_emit_effect .laneDown (laneSrc l) .laneDown
    (evData [(1, if cdr then 2 else 3)])
  rw [evData_take] at events
  refine ⟨((only.andThen (Engine.modLane_only _ _ _)).andThen (Engine.bump_only _ _ _)).within, ?_,
    Engine.counted.then_bump counted (by decide) _, Engine.counted_bump_of_ctr ?_, events⟩
  · rw [(Engine.bump_only _ _ _).lanes_eq, Engine.modLane_lanes, only.lanes_eq]
  · exact Engine.bumpN_ctr_ne _ (by decide) _ _ _ _ _

theorem does_lanePllUnlock (hp : s.eng.sys.phase.powered = true) (video : (laneVideo l && s.eng.clk.classV) = false)
    (step : (s.eng.lane l).step ≠ 0) (down : (s.eng.lane l).linkUp = false) :
    Does (.lanePllUnlock t l) t s fun a b => Engine.changesOnly [.lanes, .counters, .log] a b ∧
      b.lanes = (vmod a.lanes l fun q => { q with
        pllLock := false, cdrLock := false, pcsLock := false, linkUp := false, eqDone := false, rateNow := 0, step := 1 }) ∧
      Engine.counted .lanePllFail (laneSrc l) a b ∧ Engine.newEvents a b = [(laneSrc l, .lanePllUnlock, [])] := by
  refine Does.of_powered (·.lanePllUnlock l) rfl hp ?_
  rw [Engine.lanePllUnlock_bringUp _ (by simpa using video) (by simpa using step) (by simpa using down)]
  obtain ⟨only, counted, events⟩ := (s.eng.at t).bump_emit_effect .lanePllFail (laneSrc l) .lanePllUnlock []
  refine ⟨(only.andThen (Engine.modLane_only _ _ _)).within, ?_, counted, events⟩
  rw [Engine.modLane_lanes, only.lanes_eq]

end

/-! The elastic buffer (R48, R50, R54). -/

/-- A unit taken leaves one less. -/
theorem Lane.ebNext_take {q : Lane} {n : Nat} (h : q.ebNext .take = some n) : n + 1 = q.ebFill := by
  rw [Lane.ebNext] at h
  split at h
  · cases h
  · next filled =>
    cases h
    omega

/-- A unit received adds one; a filler unit adds none where one is deleted, and two where one is inserted. -/
theorem Lane.ebNext_recv {q : Lane} {filler bad : Bool} {n : Nat} (h : q.ebNext (.recv filler bad) = some n) :
    n = q.ebFill + (if filler && !bad && q.ebCorr = 1 then 0 else if filler && !bad && q.ebCorr = 2 then 2 else 1) := by
  rcases ite_eq_iff.1 h with ⟨-, slips⟩ | ⟨-, fits⟩
  · cases slips
  · exact (Option.some.inj fits).symm

section
variable (e : Engine) {l : Nat} {u : LaneUnit}

/-- A single unit at a receive lane that has locked to its signal. -/
theorem Engine.laneEbSlip_one (rx : laneRx l = true) (step : 3 ≤ (e.lane l).step) :
    e.laneEbSlip l [u] = e.laneUnit l u := by
  have locked : ¬ (!laneRx l || decide ((e.lane l).step < 3)) = true := by simp [rx, step]
  exact if_neg locked

/-- A unit without error goes to the buffer alone. -/
theorem Engine.laneUnit_clean (h52 : l ≠ 52) (h53 : l ≠ 53) (clean : u = .take ∨ u = .recv true false ∨ u = .recv false false) :
    e.laneUnit l u = e.laneBuffer l u := by
  have notSdi : ¬ (l = 52 ∨ l = 53) := by omega
  rcases clean with rfl | rfl | rfl
  all_goals exact if_neg notSdi

theorem Engine.laneUnit_bad {filler : Bool} (h52 : l ≠ 52) (h53 : l ≠ 53) :
    e.laneUnit l (.recv filler true) = (e.laneCodeErr l).laneBuffer l (.recv filler true) :=
  if_neg (by omega)

theorem Engine.laneBuffer_some {n : Nat} (h : (e.lane l).ebNext u = some n) :
    e.laneBuffer l u = e.modLane l fun q => { q with ebFill := n, ebCorr := ebCorrAt q.ebCorr n } := by
  rw [Engine.laneBuffer, h]

theorem Engine.laneBuffer_none (h : (e.lane l).ebNext u = none) : e.laneBuffer l u =
    ((e.modLane l fun q => { q with ebFill := 32, ebCorr := 0 }).bump .laneEbSlip (laneSrc l)).emit (laneSrc l)
      .laneEbSlip [] := by
  rw [Engine.laneBuffer, h]

/-- A code error as it is counted, before any event (R54). -/
def Engine.codeErrCounted (l : Nat) (e : Engine) : Engine :=
  (e.bump .laneCodeErr (laneSrc l)).modLane l fun q => { q with codeErrs := q.codeErrs + 1 }

theorem Engine.codeErrCounted_lane (hl : l < 62) :
    (e.codeErrCounted l).lane l = { e.lane l with codeErrs := (e.lane l).codeErrs + 1 } := by
  rw [Engine.codeErrCounted, Engine.modLane_lane _ hl, Engine.lane_congr (e.bump_lanes _ _)]

theorem Engine.laneCodeErr_fresh (hl : l < 62) (fresh : (e.lane l).codeErrAt = none) : e.laneCodeErr l =
    ((e.codeErrCounted l).emit (laneSrc l) .laneCodeErr (le 4 ((e.lane l).codeErrs + 1))).modLane l fun q =>
      { q with codeErrs := 0, codeErrAt := some (e.codeErrCounted l).now } := by
  have counts := e.codeErrCounted_lane hl
  rw [Engine.codeErrCounted] at counts ⊢
  rw [Engine.laneCodeErr, counts, fresh]
  exact if_pos rfl

/-- The first code error of a lane is counted and logged at once (R54). -/
theorem Engine.laneCodeErr_first (hl : l < 62) (fresh : (e.lane l).codeErrAt = none) :
    Engine.changesOnly [.lanes, .counters, .log] e (e.laneCodeErr l) ∧
      Engine.counted .laneCodeErr (laneSrc l) e (e.laneCodeErr l) ∧
      Engine.newEvents e (e.laneCodeErr l) = [(laneSrc l, .laneCodeErr, le 4 ((e.lane l).codeErrs + 1))] ∧
      (e.laneCodeErr l).lane l = { e.lane l with codeErrs := 0, codeErrAt := some e.now } := by
  have only : Engine.changesOnly [.counters, .lanes] e (e.codeErrCounted l) :=
    (e.bump_only _ _).andThen (Engine.modLane_only _ _ _)
  have fits : (le 4 ((e.lane l).codeErrs + 1)).take 14 = le 4 ((e.lane l).codeErrs + 1) :=
    List.take_of_length_le (by rw [Laws.le_length]; decide)
  rw [e.laneCodeErr_fresh hl fresh, only.now_eq]
  refine ⟨((only.andThen (Engine.emit_only _ _ _ _)).andThen (Engine.modLane_only _ _ _)).within,
    Engine.counted_of_counters (e.counted_bump _ _) rfl rfl, ?_, ?_⟩
  · rw [← fits]
    exact Engine.newEvents_emit e (e.codeErrCounted l) _ _ _ only.log_eq
  · rw [Engine.modLane_lane _ hl, Engine.lane_congr (Engine.emit_only _ _ _ _).lanes_eq, e.codeErrCounted_lane hl]

end

section
variable {t : Nat} {l : Fin 62} {s : State} {u : LaneUnit}

theorem does_laneEbSlip_fill {n : Nat} (hp : s.eng.sys.phase.powered = true) (rx : laneRx l = true) (h52 : l.val ≠ 52)
    (h53 : l.val ≠ 53) (step : 3 ≤ (s.eng.lane l).step)
    (clean : u = .take ∨ u = .recv true false ∨ u = .recv false false) (next : (s.eng.lane l).ebNext u = some n) :
    Does (.laneEbSlip t ⟨l, [u]⟩) t s fun a b => Engine.changesOnly [.lanes] a b ∧
      b.lanes = (vmod a.lanes l fun q => { q with
        ebFill := n, ebCorr := if n = 32 then 0 else if 40 ≤ n then 1 else if n ≤ 24 then 2 else q.ebCorr }) ∧
      (u = .take → n + 1 = (a.lane l).ebFill) ∧
      (u = .recv true false → n = (a.lane l).ebFill + if (a.lane l).ebCorr = 1 then 0 else if (a.lane l).ebCorr = 2 then 2 else 1) ∧
      (u = .recv false false → n = (a.lane l).ebFill + 1) := by
  refine Does.of_powered (·.laneEbSlip l [u]) rfl hp ?_
  rw [Engine.laneEbSlip_one _ rx (by simpa using step), Engine.laneUnit_clean _ h52 h53 clean,
    Engine.laneBuffer_some _ (by simpa using next)]
  refine ⟨Engine.modLane_only _ _ _, rfl, ?_⟩
  simp only [Engine.at_lane]
  refine ⟨?_, ?_, ?_⟩
  · rintro rfl
    exact Lane.ebNext_take next
  · rintro rfl
    simpa using Lane.ebNext_recv next
  · rintro rfl
    simpa using Lane.ebNext_recv next

theorem does_laneEbSlip_bad (hp : s.eng.sys.phase.powered = true) (rx : laneRx l = true) (h52 : l.val ≠ 52)
    (h53 : l.val ≠ 53) (step : 3 ≤ (s.eng.lane l).step) (fresh : (s.eng.lane l).codeErrAt = none)
    (room : (s.eng.lane l).ebFill < 64) : Does (.laneEbSlip t ⟨l, [.recv false true]⟩) t s fun a b =>
      Engine.changesOnly [.lanes, .counters, .log] a b ∧ Engine.counted .laneCodeErr (laneSrc l) a b ∧
      Engine.newEvents a b = [(laneSrc l, .laneCodeErr, le 4 ((a.lane l).codeErrs + 1))] ∧
      (b.lane l).ebFill = (a.lane l).ebFill + 1 ∧ (b.lane l).codeErrs = 0 ∧ (b.lane l).codeErrAt = some a.now := by
  refine Does.of_powered (·.laneEbSlip l [.recv false true]) rfl hp ?_
  obtain ⟨only, counted, events, lane⟩ := (s.eng.at t).laneCodeErr_first l.isLt (by simpa using fresh)
  have next : (((s.eng.at t).laneCodeErr l).lane l).ebNext (.recv false true) = some ((s.eng.lane l).ebFill + 1) := by
    rw [lane, Engine.at_lane]
    exact if_neg (by simp; omega)
  rw [Engine.laneEbSlip_one _ rx (by simpa using step), Engine.laneUnit_bad _ h52 h53, Engine.laneBuffer_some _ next,
    Engine.modLane_lane _ l.isLt, lane]
  exact ⟨(only.andThen (Engine.modLane_only _ _ _)).within, counted, events, by simp, rfl, rfl⟩

theorem does_laneEbSlip_slip (hp : s.eng.sys.phase.powered = true) (rx : laneRx l = true) (h52 : l.val ≠ 52)
    (h53 : l.val ≠ 53) (step : 3 ≤ (s.eng.lane l).step)
    (slips : (u = .take ∧ (s.eng.lane l).ebFill = 0) ∨ (u = .recv false false ∧ 64 ≤ (s.eng.lane l).ebFill)) :
    Does (.laneEbSlip t ⟨l, [u]⟩) t s fun a b =>
      Engine.changesOnly [.lanes, .counters, .log] a b ∧ b.lanes = (vmod a.lanes l fun q => { q with ebFill := 32, ebCorr := 0 }) ∧
      (b.lane l).ebFill = 32 ∧ (b.lane l).linkUp = (a.lane l).linkUp ∧
      Engine.counted .laneEbSlip (laneSrc l) a b ∧ Engine.newEvents a b = [(laneSrc l, .laneEbSlip, [])] := by
  have clean : u = .take ∨ u = .recv true false ∨ u = .recv false false := slips.imp And.left fun h => .inr h.1
  have next : (s.eng.lane l).ebNext u = none := by
    rcases slips with ⟨rfl, empty⟩ | ⟨rfl, full⟩
    · exact if_pos empty
    · exact if_pos (by simp; omega)
  refine Does.of_powered (·.laneEbSlip l [u]) rfl hp ?_
  rw [Engine.laneEbSlip_one _ rx (by simpa using step), Engine.laneUnit_clean _ h52 h53 clean,
    Engine.laneBuffer_none _ (by simpa using next)]
  obtain ⟨only, counted, events⟩ := ((s.eng.at t).modLane l fun q => { q with ebFill := 32, ebCorr := 0 }).bump_emit_effect
    .laneEbSlip (laneSrc l) .laneEbSlip []
  refine ⟨((Engine.modLane_only _ _ _).andThen only).within, only.lanes_eq, ?_, ?_, counted, events⟩
  · rw [Engine.lane_congr only.lanes_eq, Engine.modLane_lane _ l.isLt]
  · rw [Engine.lane_congr only.lanes_eq, Engine.modLane_lane _ l.isLt]

end

/-- Settles O9: the losses and the units that the buffer takes, each by its lemma. -/
theorem laneLossIsReported : Obligations.LaneLossIsReported := by
  unfold Obligations.LaneLossIsReported
  exact ⟨fun _ _ _ _ _ => does_laneDown_network, fun _ _ _ _ _ => does_laneEbSlip_fill, fun _ _ _ => does_laneEbSlip_bad,
    fun _ _ _ => does_lanePllUnlock⟩

/-- Settles O10: an overflow at 64 and an underflow at 0 both leave the buffer no next fill. -/
theorem elasticBufferRecentres : Obligations.ElasticBufferRecentres := by
  unfold Obligations.ElasticBufferRecentres
  exact fun _ _ _ _ => does_laneEbSlip_slip

/-! LANE_TEST (R55). -/

section
variable (e : Engine) {h : MsgHdr} {l loopback pattern : Nat}

/-- The lane under test: its functions are down, and the checker locks where its own pattern comes back (Table 3.7). -/
def Lane.underTest (loopback pattern : Nat) (q : Lane) : Lane :=
  { q with
    test := true, loopback := loopback, pattern := pattern, linkUp := false, rateNow := 0, eqDone := false
    prbsLock := decide (0 < pattern) && (loopback = 1 || loopback = 2) }

theorem Engine.laneTest_network (service : e.sys.mode = .service) (calm : e.sys.pend = []) (whole : e.sys.units = [])
    (lo : 36 ≤ l) (hi : l < 44) (rate : e.cfg.lnRate l ≠ 0) (loop : loopback ≤ 3) (pat : pattern ≤ 4) :
    e.laneTest h l loopback pattern = (e.modLane l (Lane.underTest loopback pattern)).ok h 0x0105 := by
  have range : ¬ (decide (62 ≤ l) || decide (3 < loopback) || decide (4 < pattern)) = true := by simp; omega
  have mode : ¬ (decide (e.sys.mode ≠ .service) || decide (e.modeThen ≠ .service)) = true := by
    simp [Engine.modeThen, service, calm]
  have endpoint : ¬ (32 ≤ l ∧ l < 36) := by omega
  have loops : laneLoops l loopback = true := by simp [laneLoops]; omega
  have leaves : e.laneLeaves l = e := by
    rw [Engine.laneLeaves, if_neg (by omega), if_neg (by omega), if_neg (by omega), if_neg (by omega)]
  rw [Engine.laneTest, if_neg range, if_neg mode, if_neg endpoint, whole, List.any_nil, if_neg Bool.false_ne_true,
    if_neg rate, loops, leaves]
  rfl

theorem Engine.laneTest_elsewhere (mode : e.sys.mode ≠ .service) (lane : l < 62) (loop : loopback ≤ 3) (pat : pattern ≤ 4) :
    e.laneTest h l loopback pattern = e.refuse h 0x0105 .state .none := by
  have range : ¬ (decide (62 ≤ l) || decide (3 < loopback) || decide (4 < pattern)) = true := by simp; omega
  rw [Engine.laneTest, if_neg range]
  exact if_pos (by simp [mode])

end

section
variable {t : Nat} {h : MsgHdr} {s : State} {loopback pattern : Nat}

theorem does_laneTest {l : Fin 62} (hg : s.takes t h 0x0105) (service : s.eng.sys.mode = .service)
    (calm : s.eng.sys.pend = []) (whole : s.eng.sys.units = []) (lo : 36 ≤ l.val) (hi : l.val < 44)
    (rate : s.eng.cfg.lnRate l ≠ 0) (loop : loopback ≤ 3) (pat : pattern ≤ 4) :
    Does (.laneTest t h l loopback pattern) t s fun a b => b.replied h 0x0105 .ok .none [] ∧
      Engine.changesOnly [.lanes, .ctl, .ep, .counters] a b ∧
      b.lanes = vmod a.lanes l (Lane.underTest loopback pattern) := by
  refine Does.of_request h 0x0105 (·.laneTest h l loopback pattern) rfl hg ?_
  rw [Engine.laneTest_network _ (by simpa using service) (by simpa using calm) (by simpa using whole) lo hi
    (by simpa using rate) loop pat]
  refine ⟨Engine.replied_ok _ _ _, (((Engine.received_only _ h 0x0105).andThen (Engine.modLane_only _ _ _)).andThen
    (Engine.ok_only _ _ _)).within, ?_⟩
  rw [(Engine.ok_only _ _ _).lanes_eq, Engine.modLane_lanes, Engine.received_lanes]

theorem does_laneTest_elsewhere {l : Nat} (hg : s.takes t h 0x0105) (mode : s.eng.sys.mode ≠ .service) (lane : l < 62)
    (loop : loopback ≤ 3) (pat : pattern ≤ 4) :
    Does (.laneTest t h l loopback pattern) t s fun a b => b.replied h 0x0105 .state .none [] ∧
      Engine.changesOnly [.ctl, .ep, .counters] a b := by
  refine Does.of_request h 0x0105 (·.laneTest h l loopback pattern) rfl hg ?_
  rw [Engine.laneTest_elsewhere _ (by simpa using mode) lane loop pat]
  obtain ⟨only, replied⟩ := (s.eng.at t).refused_received h 0x0105 .none (st := .state) (by decide)
  exact ⟨replied, only.within⟩

end

/-- Settles O11: in SERVICE on a network lane, and in any other mode. -/
theorem laneTestRunsInService : Obligations.LaneTestRunsInService := by
  unfold Obligations.LaneTestRunsInService
  exact ⟨fun _ _ _ _ _ _ => does_laneTest, fun _ _ _ _ _ _ => does_laneTest_elsewhere⟩

end Sys2Proof.Machine
end

section
/-! The endpoint's link, resets, registers and doorbells (O40; R56, R278, R281, R282, R289, R294). -/

namespace Sys2Proof.Machine
set_option Elab.async false

/-! Numbered units changed one after another. -/

/-- Each unit of a list changed once: the others are as they were. -/
theorem vget_foldl_vmod {α : Type} {n : Nat} (f : Nat → α → α) (d : α) {i : Nat} (hi : i < n) (ls : List Nat)
    (once : ls.Nodup) (v : Vector α n) :
    vget (ls.foldl (fun v k => vmod v k (f k)) v) i d = if i ∈ ls then f i (vget v i d) else vget v i d := by
  induction ls generalizing v with
  | nil => simp
  | cons k r ih =>
    obtain ⟨fresh, once⟩ := List.nodup_cons.1 once
    rw [List.foldl_cons, ih once]
    by_cases hk : k = i
    · subst hk
      simp [fresh, vget_vmod_same v hi]
    · simp [vget_vmod_ne v hk, Ne.symm hk]

/-- A change of the EL lanes, lane by lane. -/
theorem Engine.lane_of_elLanes {a b : Engine} (f : Nat → Lane → Lane)
    (h : b.lanes = [32, 33, 34, 35].foldl (fun v k => vmod v k (f k)) a.lanes) (l : Fin 62) :
    b.lane l = if 32 ≤ l.val ∧ l.val < 36 then f l (a.lane l) else a.lane l := by
  have el : l.val ∈ [32, 33, 34, 35] ↔ 32 ≤ l.val ∧ l.val < 36 := by simp; omega
  rw [Engine.lane, h, vget_foldl_vmod f _ l.isLt _ (by decide), Engine.lane]
  simp only [el]

theorem Engine.setLanes_only (e : Engine) (v : Vector Lane 62) : Engine.changesOnly [.lanes] e { e with lanes := v } := by
  intro p hp
  cases p with
  | lanes => exact absurd (by decide) hp
  | _ => rfl

/-! What a command finds of the endpoint at its instant: notifications that leave before it touch only what carries them. -/

/-- What completions and events keep of the endpoint, the passing of time keeps. -/
theorem Engine.at_ep_keeps {β : Type} (g : Ep → β) (complete : ∀ p x, g (p.complete x) = g p)
    (event : ∀ (p : Ep) m a v, g { p with masked := m, aers := a, events := v } = g p) (e : Engine) (t : Nat) :
    g (e.at t).ep = g e.ep := by
  have epEvent (e : Engine) (ty info page : Nat) : g (e.epEvent ty info page).ep = g e.ep := by
    unfold Engine.epEvent
    split
    · rfl
    · dsimp only
      split
      · next cid r _ => exact (complete _ _).trans (event e.ep (page :: e.ep.masked) r e.ep.events)
      · exact event e.ep (page :: e.ep.masked) e.ep.aers _
  have queueTo (e : Engine) (c : Client) (ty : Nat) (d : List Byte) : g (e.queueTo c ty d).ep = g e.ep := by
    unfold Engine.queueTo
    dsimp only
    rw [Engine.bumpN_ep]
    split
    · rw [epEvent]; rfl
    · rfl
  have notify (e : Engine) (n : List Byte) : g (e.notify 0x0502 none n).ep = g e.ep :=
    Engine.foldl_keeps (fun e => g e.ep) _ (fun e c => queueTo e c 0x0502 n) _ e
  unfold Engine.at
  split
  · exact Engine.foldl_keeps (fun e => g e.ep) _ (fun e n => notify e n) _ _
  · rfl

/-- Link, enable, stop and queues of the endpoint: what completions and events leave. -/
def Ep.setup (p : Ep) : EpLink × Bool × Bool × List EpSq × List Nat := (p.link, p.ccEn, p.stopped, p.sqs, p.cqs.map (·.qid))

theorem Ep.send_setup (p : Ep) (v : Nat) : (p.send v).setup = p.setup := by
  unfold Ep.send
  dsimp only
  split
  · rfl
  · rfl

theorem Ep.posted_setup (p : Ep) (c : EpCq) (xs : List Completion) : (p.posted c xs).setup = p.setup := by
  unfold Ep.posted
  dsimp only
  split
  · exact Ep.send_setup _ _
  · rfl

theorem EpCq.post_qid (c : EpCq) (x : Completion) : (c.post x).1.qid = c.qid := by
  unfold EpCq.post
  split
  · rfl
  · rfl

/-- Replacing a completion queue by one of its name leaves the names. -/
theorem map_qid_replace (l : List EpCq) (q : Nat) (c : EpCq) (h : c.qid = q) :
    (l.map fun y => if y.qid = q then c else y).map (·.qid) = l.map (·.qid) := by
  rw [List.map_map]
  refine List.map_congr_left fun y _ => ?_
  by_cases hy : y.qid = q
  · simp [hy, h]
  · simp [hy]

theorem Ep.complete_setup (p : Ep) (x : Completion) : (p.complete x).setup = p.setup := by
  unfold Ep.complete
  split
  · rfl
  · split
    · rfl
    · next c _ =>
      rw [Ep.posted_setup, Ep.setup, Ep.setup]
      dsimp only
      rw [map_qid_replace _ _ _ (c.post_qid x)]

section
variable (e : Engine) (t : Nat)

theorem Engine.at_setup : (e.at t).ep.setup = e.ep.setup :=
  Engine.at_ep_keeps Ep.setup Ep.complete_setup (fun _ _ _ _ => rfl) e t

@[simp] theorem Engine.at_ep_link : (e.at t).ep.link = e.ep.link := congrArg (·.1) (e.at_setup t)
@[simp] theorem Engine.at_ep_ccEn : (e.at t).ep.ccEn = e.ep.ccEn := congrArg (·.2.1) (e.at_setup t)
@[simp] theorem Engine.at_ep_stopped : (e.at t).ep.stopped = e.ep.stopped := congrArg (·.2.2.1) (e.at_setup t)
@[simp] theorem Engine.at_ep_sqs : (e.at t).ep.sqs = e.ep.sqs := congrArg (·.2.2.2.1) (e.at_setup t)
theorem Engine.at_ep_qids : (e.at t).ep.cqs.map (·.qid) = e.ep.cqs.map (·.qid) := congrArg (·.2.2.2.2) (e.at_setup t)
@[simp] theorem Engine.at_has (id : Nat) : (e.at t).has id = e.has id := by rw [Engine.has, Engine.at_cfg, Engine.has]

end

/-! The link, resets and the loopback (R56, R281, R294). -/

section
variable (e : Engine)

theorem Engine.epPerstRelease_down (hr : e.sys.phase = .running) (conf : e.has 0x0052 = true) (down : e.ep.link = .down) :
    e.epPerstRelease = (e.modEp fun p => { p with perst := false }).modEp fun p => { p with link := .training } := by
  have conf' : (e.modEp fun p => { p with perst := false }).has 0x0052 = true := conf
  exact if_pos (by simp [conf', Engine.live, hr, down])

theorem Engine.epEnable_valid {asqs acqs : Nat} (up : e.ep.link = .up) (off : e.ep.ccEn = false) (s2 : 2 ≤ asqs)
    (s4096 : asqs ≤ 4096) (c2 : 2 ≤ acqs) (c4096 : acqs ≤ 4096) : e.epEnable asqs acqs = e.modEp fun p => { p with
      ccEn := true, ready := true, sqs := [⟨0, asqs, 0, 0, 0⟩], cqs := [⟨0, acqs, 0, true, 0, 0, []⟩] } :=
  if_neg (by simp [up, off]; omega)

/-- A reset disables the controller, and is counted and logged. -/
theorem Engine.epReset_effect : Engine.changesOnly [.ep, .counters, .log] e e.epReset ∧ e.epReset.ep = e.ep.disabled ∧
    Engine.counted .epCtrlReset 0x0240 e e.epReset ∧ Engine.newEvents e e.epReset = [(0x0240, .epCtrlReset, [])] := by
  obtain ⟨only, counted, events⟩ := (e.modEp (·.disabled)).bump_emit_effect .epCtrlReset epSrc .epCtrlReset []
  exact ⟨((e.modEp_only _).andThen only).within, only.ep_eq, counted, events⟩

theorem Engine.epReset_grows : e.log.held.length ≤ e.epReset.log.held.length := by
  rw [Engine.epReset, Engine.emit_held, Engine.bump_log, List.length_append]
  exact Nat.le_add_right _ _

theorem Engine.epLoopEnd_lane (l : Fin 62) : e.epLoopEnd.lane l =
    if 32 ≤ l.val ∧ l.val < 36 ∧ (e.lane l).loopback = 4 then { e.lane l with loopback := 0 } else e.lane l := by
  rw [Engine.lane_of_elLanes (a := e) (fun _ q => if q.loopback = 4 then { q with loopback := 0 } else q) rfl]
  simp only [← and_assoc, ite_and]

/-- A link that was up goes down, which is logged: with it the controller, and the loopback that the EL lanes show. -/
theorem Engine.epLinkDown_effect (up : e.ep.link = .up) :
    e.epLinkDown.ep = { e.ep.disabled with link := .down, gen := 0, width := 0 } ∧ e.epLinkDown.lanes = e.epLoopEnd.lanes ∧
      ∀ a : Engine, a.log.held.length ≤ e.log.held.length →
        Engine.newEvents a e.epLinkDown = Engine.newEvents a e ++ [(0x0240, .epLinkDown, [])] := by
  have down : e.epLinkDown =
      (e.epLoopEnd.modEp fun p => { p.disabled with link := .down, gen := 0, width := 0 }).emit epSrc .epLinkDown [] :=
    if_pos (by simp [up])
  rw [down]
  exact ⟨rfl, rfl, fun a grows => Engine.newEvents_emit_next (a := a)
    (b := e.epLoopEnd.modEp fun p => { p.disabled with link := .down, gen := 0, width := 0 }) _ _ _ grows⟩

/-- EP_PERST_N asserted with the link up. -/
theorem Engine.epControllerReset_perst (hr : e.sys.phase = .running) (conf : e.has 0x0052 = true) :
    e.epControllerReset true = (e.modEp fun p => { p.pciReset with perst := true }).epReset.epLinkDown := by
  have conf' : (e.modEp fun p => { p.pciReset with perst := true }).has 0x0052 = true := conf
  rw [Engine.epControllerReset, if_pos rfl]
  exact if_pos (by simp [conf', Engine.live, hr])

theorem Engine.epControllerReset_enabled (hr : e.sys.phase = .running) (on : e.ep.ccEn = true) :
    e.epControllerReset false = e.epReset := by
  rw [Engine.epControllerReset, if_neg Bool.false_ne_true]
  exact if_pos (by simp [Engine.live, hr, on])

theorem Engine.epFlr_up (up : e.ep.link = .up) : e.epFlr = e.epReset.modEp (·.pciReset) := if_pos up

theorem Engine.epLoopback_up (up : e.ep.link = .up) : e.epLoopback =
    { e.modEp (fun p => { p with link := .loopback }) with
      lanes := [32, 33, 34, 35].foldl (fun v l => vmod v l fun q =>
        if 0 < e.cf 0x0003 l 27 24 then { q with loopback := 4 } else q) e.lanes } := by
  have notDown : e.ep.link ≠ .down := by rw [up]; decide
  exact if_neg notDown

end

section
variable {t : Nat} {s : State}

theorem does_epPerstRelease (hr : s.eng.sys.phase = .running) (conf : s.eng.has 0x0052 = true)
    (down : s.eng.ep.link = .down) : Does (.epPerstRelease t) t s fun a b =>
    Engine.changesOnly [.ep] a b ∧ b.ep = { a.ep with perst := false, link := .training } := by
  refine Does.of_run (·.epPerstRelease) rfl ?_
  rw [Engine.epPerstRelease_down _ (by simpa using hr) (by simpa using conf) (by simpa using down)]
  exact ⟨((Engine.modEp_only _ _).andThen (Engine.modEp_only _ _)).within, rfl⟩

theorem does_epControllerEnable {asqs acqs : Nat} (hr : s.eng.sys.phase = .running) (up : s.eng.ep.link = .up)
    (off : s.eng.ep.ccEn = false) (s2 : 2 ≤ asqs) (s4096 : asqs ≤ 4096) (c2 : 2 ≤ acqs) (c4096 : acqs ≤ 4096) :
    Does (.epControllerEnable t asqs acqs) t s fun a b => Engine.changesOnly [.ep] a b ∧
      b.ep = { a.ep with
        ccEn := true
        ready := true
        sqs := [⟨0, asqs, 0, 0, 0⟩]
        cqs := [⟨0, acqs, 0, true, 0, 0, []⟩] } := by
  refine Does.of_live (·.epEnable asqs acqs) rfl hr ?_
  rw [Engine.epEnable_valid _ (by simpa using up) (by simpa using off) s2 s4096 c2 c4096]
  exact ⟨Engine.modEp_only _ _, rfl⟩

theorem does_epReset {i : Instr} (hr : s.eng.sys.phase = .running) (cause : (i = Instr.epFlr t ∧ s.eng.ep.link = .up) ∨
    (i = Instr.epControllerReset t false ∧ s.eng.ep.ccEn = true)) : Does i t s fun a b =>
      Engine.changesOnly [.ep, .counters, .log] a b ∧ b.ep.ccEn = false ∧ b.ep.ready = false ∧ b.ep.sqs = [] ∧ b.ep.cqs = [] ∧
      b.ep.cmds = [] ∧ b.ep.fetched = [] ∧ b.ep.feats = [] ∧ b.ep.dirty = a.ep.dirty ∧ b.ep.ns5 = a.ep.ns5 ∧
      b.ep.link = a.ep.link ∧ (i = .epFlr t → b.ep.regs = [] ∧ b.ep.msix = Vector.replicate 65 MsixVector.reset) ∧
      Engine.counted .epCtrlReset 0x0240 a b ∧ Engine.newEvents a b = [(0x0240, .epCtrlReset, [])] := by
  obtain ⟨only, ep, counted, events⟩ := (s.eng.at t).epReset_effect
  rcases cause with ⟨rfl, up⟩ | ⟨rfl, on⟩
  · refine Does.of_live (·.epFlr) rfl hr ?_
    rw [Engine.epFlr_up _ (by simpa using up), Engine.modEp_ep, ep]
    exact ⟨(only.andThen (Engine.modEp_only _ _)).within, rfl, rfl, rfl, rfl, rfl, rfl, rfl, rfl, rfl, rfl,
      fun _ => ⟨rfl, rfl⟩, counted, events⟩
  · refine Does.of_run (·.epControllerReset false) rfl ?_
    rw [Engine.epControllerReset_enabled _ (by simpa using hr) (by simpa using on), ep]
    exact ⟨only, rfl, rfl, rfl, rfl, rfl, rfl, rfl, rfl, rfl, rfl, nofun, counted, events⟩

theorem does_epControllerReset_perst (hr : s.eng.sys.phase = .running) (conf : s.eng.has 0x0052 = true)
    (up : s.eng.ep.link = .up) : Does (.epControllerReset t true) t s fun a b =>
    Engine.changesOnly [.ep, .lanes, .counters, .log] a b ∧ b.ep.perst = true ∧ b.ep.link = .down ∧ b.ep.gen = 0 ∧ b.ep.width = 0 ∧
    b.ep.sqs = [] ∧ b.ep.cmds = [] ∧ b.ep.dirty = a.ep.dirty ∧ b.ep.ns5 = a.ep.ns5 ∧
    (∀ l : Fin 62, b.lane l = if 32 ≤ l.val ∧ l.val < 36 ∧ (a.lane l).loopback = 4 then { a.lane l with loopback := 0 } else a.lane l) ∧
    Engine.newEvents a b = [(0x0240, .epCtrlReset, []), (0x0240, .epLinkDown, [])] := by
  refine Does.of_run (·.epControllerReset true) rfl ?_
  rw [Engine.epControllerReset_perst _ (by simpa using hr) (by simpa using conf)]
  obtain ⟨only, ep, -, events⟩ := ((s.eng.at t).modEp fun p => { p.pciReset with perst := true }).epReset_effect
  have still : ((s.eng.at t).modEp fun p => { p.pciReset with perst := true }).epReset.ep.link = .up := by
    rw [ep]
    exact (Engine.at_ep_link s.eng t).trans up
  obtain ⟨epDown, lanes, logs⟩ := Engine.epLinkDown_effect _ still
  rw [epDown, ep]
  refine ⟨(((Engine.modEp_only _ _).andThen only).andThen (Engine.epLinkDown_only _)).within, rfl, rfl, rfl, rfl, rfl, rfl,
    rfl, rfl, fun l => ?_, ?_⟩
  · rw [Engine.lane_congr lanes, Engine.epLoopEnd_lane, Engine.lane_congr only.lanes_eq]
    rfl
  · rw [logs (s.eng.at t) (Engine.epReset_grows _)]
    exact congrArg (· ++ _) events

theorem does_epLoopbackEnter (hr : s.eng.sys.phase = .running) (up : s.eng.ep.link = .up) :
    Does (.epLoopbackEnter t) t s fun a b =>
    Engine.changesOnly [.ep, .lanes] a b ∧ b.ep = { a.ep with link := .loopback } ∧
    ∀ l : Fin 62, b.lane l = if 32 ≤ l.val ∧ l.val < 36 ∧ 0 < a.cf 0x0003 l 27 24 then { a.lane l with loopback := 4 } else a.lane l := by
  refine Does.of_live (·.epLoopback) rfl hr ?_
  rw [Engine.epLoopback_up _ (by simpa using up)]
  refine ⟨((Engine.modEp_only _ _).andThen (Engine.setLanes_only _ _)).within, rfl, fun l => ?_⟩
  rw [Engine.lane_of_elLanes (a := s.eng.at t)
    (fun l q => if 0 < (s.eng.at t).cf 0x0003 l 27 24 then { q with loopback := 4 } else q) rfl]
  simp only [← and_assoc, ite_and]

end

/-! Registers and the MSI-X table (R278). -/

section
variable (p : Ep)

/-- A change of a vector is what it makes of the vector as it stands. -/
theorem Ep.msix_congr (k : Nat) (msgs : List (Nat × Nat)) {f g : MsixVector → MsixVector}
    (h : f (vget p.msix k MsixVector.reset) = g (vget p.msix k MsixVector.reset)) :
    { p with msix := vmod p.msix k f, msgs := msgs } = { p with msix := vmod p.msix k g, msgs := msgs } := by
  rw [vmod_congr _ _ MsixVector.reset h]

/-- A word of address or data of a vector. -/
theorem Ep.msixWrite_word (k : Nat) {j : Nat} (hj : j < 3) (v : Nat) : p.msixWrite k j v = { p with
    msix := vmod p.msix k fun x =>
      if j = 0 then { x with addr := x.addr / 2 ^ 32 * 2 ^ 32 + v % 2 ^ 32 }
      else if j = 1 then { x with addr := x.addr % 2 ^ 32 + v % 2 ^ 32 * 2 ^ 32 }
      else { x with data := v % 2 ^ 32 } } := by
  match j with
  | 0 => exact p.msix_congr k p.msgs rfl
  | 1 => exact p.msix_congr k p.msgs rfl
  | 2 => exact p.msix_congr k p.msgs rfl

/-- A vector's mask: cleared, it sends the message that pends. -/
theorem Ep.msixWrite_mask {k : Nat} (hk : k < 65) (v : Nat) : p.msixWrite k 3 v = { p with
    msix := vmod p.msix k fun x => { x with masked := v.testBit 0, pending := x.pending && v.testBit 0 }
    msgs := if (vget p.msix k MsixVector.reset).pending && !v.testBit 0 then
      ((vget p.msix k MsixVector.reset).addr, (vget p.msix k MsixVector.reset).data) :: p.msgs else p.msgs } := by
  by_cases sends : ((vget p.msix k MsixVector.reset).pending && !v.testBit 0) = true
  · have clear : v.testBit 0 = false := by simpa using (Bool.and_eq_true_iff.1 sends).2
    refine (if_pos sends).trans ?_
    rw [if_pos sends, Ep.send]
    dsimp only
    rw [vget_vmod_same _ hk, if_neg (by simp [clear]), vmod_vmod]
    exact p.msix_congr k _ (by rw [clear, Bool.and_false])
  · have keeps : ((vget p.msix k MsixVector.reset).pending && v.testBit 0) = (vget p.msix k MsixVector.reset).pending := by
      revert sends
      cases (vget p.msix k MsixVector.reset).pending <;> cases v.testBit 0 <;> decide
    refine (if_neg sends).trans ?_
    rw [if_neg sends]
    exact p.msix_congr k _ (by rw [keeps])

end

section
variable {t : Nat} {s : State}

theorem does_epRegisterWrite_plain {off v : Nat} (hr : s.eng.sys.phase = .running) (up : s.eng.ep.link = .up)
    (plain : off < 0x2000 ∨ 0x2410 ≤ off) : Does (.epRegisterWrite t off v) t s fun a b =>
      Engine.changesOnly [.ep] a b ∧ b.ep = { a.ep with regs := putKey off v a.ep.regs } := by
  refine Does.of_live (·.epRegWrite off v) rfl hr ?_
  rw [Engine.epRegWrite, if_neg (by simp [up]), if_neg (by omega)]
  exact ⟨Engine.modEp_only _ _, rfl⟩

/-- A word of the MSI-X table: vector k, word j. -/
theorem Engine.epRegWrite_msix (e : Engine) {k j : Nat} (hk : k < 65) (hj : j < 4) (v : Nat) (up : e.ep.link = .up) :
    e.epRegWrite (0x2000 + 16 * k + 4 * j) v = e.modEp (·.msixWrite k j v) := by
  have vector : (0x2000 + 16 * k + 4 * j - 0x2000) / 16 = k := by omega
  have place : (0x2000 + 16 * k + 4 * j) / 4 % 4 = j := by omega
  rw [Engine.epRegWrite, if_neg (not_not.2 up), if_pos (by omega), vector, place]

theorem does_epRegisterWrite_msixWord {k : Fin 65} {j v : Nat} (hr : s.eng.sys.phase = .running)
    (up : s.eng.ep.link = .up) (hj : j < 3) :
    Does (.epRegisterWrite t (0x2000 + 16 * k.val + 4 * j) v) t s fun a b => Engine.changesOnly [.ep] a b ∧
      b.ep = { a.ep with msix := vmod a.ep.msix k fun x =>
        if j = 0 then { x with addr := x.addr / 2 ^ 32 * 2 ^ 32 + v % 2 ^ 32 }
        else if j = 1 then { x with addr := x.addr % 2 ^ 32 + v % 2 ^ 32 * 2 ^ 32 }
        else { x with data := v % 2 ^ 32 } } := by
  refine Does.of_live (·.epRegWrite (0x2000 + 16 * k.val + 4 * j) v) rfl hr ?_
  rw [Engine.epRegWrite_msix _ k.isLt (by omega) v (by simpa using up)]
  exact ⟨Engine.modEp_only _ _, Ep.msixWrite_word _ _ hj v⟩

theorem does_epRegisterWrite_msixMask {k : Fin 65} {v : Nat} (hr : s.eng.sys.phase = .running)
    (up : s.eng.ep.link = .up) :
    Does (.epRegisterWrite t (0x2000 + 16 * k.val + 12) v) t s fun a b => Engine.changesOnly [.ep] a b ∧
      let x := vget a.ep.msix k MsixVector.reset
      b.ep = { a.ep with
        msix := vmod a.ep.msix k fun x => { x with masked := v.testBit 0, pending := x.pending && v.testBit 0 }
        msgs := if x.pending && !v.testBit 0 then (x.addr, x.data) :: a.ep.msgs else a.ep.msgs } := by
  refine Does.of_live (·.epRegWrite (0x2000 + 16 * k.val + 4 * 3) v) rfl hr ?_
  rw [Engine.epRegWrite_msix _ k.isLt (by decide) v (by simpa using up)]
  exact ⟨Engine.modEp_only _ _, Ep.msixWrite_mask _ k.isLt v⟩

end

/-! Doorbells (R282, R289). -/

section
variable (e : Engine) {q : Nat}

theorem Engine.badDoorbell_enabled (on : e.ep.ccEn = true) (info : Nat) : e.badDoorbell info = e.epEvent 0 info 1 :=
  if_pos on

theorem Engine.sqDoorbell_fetches {tail : Nat} {cids : List Nat} {sq : EpSq} (queue : e.ep.sqs.find? (·.qid = q) = some sq)
    (range : tail < sq.size) (on : e.ep.ccEn = true) (fetching : e.ep.stopped = false) :
    e.sqDoorbell q tail cids = e.modEp fun p => { p with
      fetched := p.fetched ++ (cids.take ((tail + sq.size - sq.tail) % sq.size)).mapIdx fun i c =>
        ⟨q, c, ⟨e.dtb, queueSrc q, sq.fetched + i⟩, [1, 2, 3, 4].map e.nsAccess⟩
      sqs := p.sqs.map fun x => if x.qid = q then { x with
        fetched := x.fetched + (cids.take ((tail + sq.size - sq.tail) % sq.size)).length
        tail := tail } else x } := by
  rw [Engine.sqDoorbell, queue]
  dsimp only
  rw [if_neg (by omega), on, fetching]
  rfl

theorem Engine.sqDoorbell_none {tail : Nat} {cids : List Nat} (none : e.ep.sqs.find? (·.qid = q) = none) :
    e.sqDoorbell q tail cids = e.badDoorbell 0 := by
  rw [Engine.sqDoorbell, none]

theorem Engine.cqDoorbell_none {hd : Nat} (none : e.ep.cqs.find? (·.qid = q) = none) :
    e.cqDoorbell q hd = e.badDoorbell 0 := by
  rw [Engine.cqDoorbell, none]

/-- Nothing posted raises no vector. -/
theorem Ep.posted_nil (p : Ep) (c : EpCq) : p.posted c [] = p := if_neg (by simp)

/-- With no completion waiting, the doorbell moves the head alone. -/
theorem Engine.cqDoorbell_head {hd : Nat} {c : EpCq} (queue : e.ep.cqs.find? (·.qid = q) = some c) (range : hd < c.size)
    (none : c.waiting = []) : e.cqDoorbell q hd = e.modEp fun p => { p with
      cqs := p.cqs.map fun y => if y.qid = q then { c with head := hd } else y } := by
  have whole : { c with head := hd, waiting := [] } = { c with head := hd } := by rw [← none]
  rw [Engine.cqDoorbell, queue]
  dsimp only
  rw [if_neg (by omega), none, EpCq.flush]
  simp only [Ep.posted_nil, whole]

end

section
variable {t : Nat} {s : State} {q : Nat}

theorem does_nvmeSqDoorbell {tail : Nat} {cids : List Nat} {sq : EpSq} (hr : s.eng.sys.phase = .running)
    (queue : s.eng.ep.sqs.find? (·.qid = q) = some sq) (range : tail < sq.size) (on : s.eng.ep.ccEn = true)
    (fetching : s.eng.ep.stopped = false) : Does (.nvmeSqDoorbell t q tail cids) t s fun a b =>
      Engine.changesOnly [.ep] a b ∧ b.ep = { a.ep with
        fetched := a.ep.fetched ++ (cids.take ((tail + sq.size - sq.tail) % sq.size)).mapIdx fun i c =>
          ⟨q, c, ⟨a.dtb, if q = 0 then 0x0240 else 0x0260 + q - 1, sq.fetched + i⟩, [1, 2, 3, 4].map a.nsAccess⟩
        sqs := a.ep.sqs.map fun x => if x.qid = q then { x with
          fetched := x.fetched + (cids.take ((tail + sq.size - sq.tail) % sq.size)).length
          tail := tail } else x } := by
  refine Does.of_live (·.sqDoorbell q tail cids) rfl hr ?_
  rw [Engine.sqDoorbell_fetches _ (by simpa using queue) range (by simpa using on) (by simpa using fetching)]
  exact ⟨Engine.modEp_only _ _, rfl⟩

theorem does_nvmeCqDoorbell {hd : Nat} {c : EpCq} (hr : s.eng.sys.phase = .running)
    (queue : (s.eng.at t).ep.cqs.find? (·.qid = q) = some c) (range : hd < c.size) (none : c.waiting = []) :
    Does (.nvmeCqDoorbell t q hd) t s fun a b => Engine.changesOnly [.ep] a b ∧
      b.ep = { a.ep with cqs := a.ep.cqs.map fun y => if y.qid = q then { c with head := hd } else y } := by
  refine Does.of_live (·.cqDoorbell q hd) rfl hr ?_
  rw [Engine.cqDoorbell_head _ queue range none]
  exact ⟨Engine.modEp_only _ _, rfl⟩

/-- Completion queues keep their names while time passes, so one that is not there is not there then. -/
theorem at_cqs_find?_none (none : s.eng.ep.cqs.all (·.qid ≠ q) = true) :
    (s.eng.at t).ep.cqs.find? (·.qid = q) = Option.none := by
  have away (l : List EpCq) : l.find? (·.qid = q) = Option.none ↔ q ∉ l.map (·.qid) := by simp
  rw [away, Engine.at_ep_qids, ← away]
  simpa using none

theorem does_badDoorbell {i : Instr} {v : Nat} (hr : s.eng.sys.phase = .running) (on : s.eng.ep.ccEn = true)
    (cause : (i = Instr.nvmeCqDoorbell t q v ∧ s.eng.ep.cqs.all (·.qid ≠ q) = true) ∨
      (∃ cids, i = Instr.nvmeSqDoorbell t q v cids ∧ s.eng.ep.sqs.all (·.qid ≠ q) = true)) :
    Does i t s fun a b => Engine.changesOnly [.ep] a b ∧ b.ep = (a.epEvent 0 0 1).ep := by
  have enabled : (s.eng.at t).ep.ccEn = true := by simpa using on
  rcases cause with ⟨rfl, none⟩ | ⟨cids, rfl, none⟩
  · refine Does.of_live (·.cqDoorbell q v) rfl hr ?_
    rw [Engine.cqDoorbell_none _ (at_cqs_find?_none none), Engine.badDoorbell_enabled _ enabled]
    exact ⟨Engine.epEvent_only _ _ _ _, rfl⟩
  · refine Does.of_live (·.sqDoorbell q v cids) rfl hr ?_
    rw [Engine.sqDoorbell_none _ (by simpa using none), Engine.badDoorbell_enabled _ enabled]
    exact ⟨Engine.epEvent_only _ _ _ _, rfl⟩

end

/-- Settles O40: link, resets, registers, loopback and doorbells, each by its lemma. -/
theorem endpointLinkAndQueues : Obligations.EndpointLinkAndQueues := by
  unfold Obligations.EndpointLinkAndQueues
  exact ⟨fun _ _ => does_epPerstRelease, fun _ _ _ _ => does_epControllerEnable, fun _ _ _ => does_epReset,
    fun _ _ => does_epControllerReset_perst, fun _ _ _ _ => does_epRegisterWrite_plain,
    fun _ _ _ _ _ => does_epRegisterWrite_msixWord, fun _ _ _ _ => does_epRegisterWrite_msixMask,
    fun _ _ => does_epLoopbackEnter, fun _ _ _ _ _ _ => does_nvmeSqDoorbell, fun _ _ _ _ _ => does_nvmeCqDoorbell,
    fun _ _ _ _ _ => does_badDoorbell⟩

end Sys2Proof.Machine
end

section
/-! Packets of the sensor link (O12; R63, R74, R80 to R83, R105, R107): what each accepted packet does to the frame open on its
port. -/

namespace Sys2Proof.Machine
set_option Elab.async false

/-! A port after changes of it, and of other parts. -/

section
variable (e : Engine) (p : Fin 2)

@[simp] theorem Engine.modPort_port (f : Port → Port) : (e.modPort p f).port p = f (e.port p) :=
  vget_vmod_same e.ports p.isLt f _

/-- A port reads as the ports stand. -/
theorem Engine.port_congr {a b : Engine} (h : a.ports = b.ports) (p : Nat) : a.port p = b.port p := by
  rw [Engine.port, Engine.port, h]

@[simp] theorem Engine.bump_port (c : Ctr) (src q : Nat) : (e.bump c src).port q = e.port q :=
  Engine.port_congr (e.bump_ports c src) q

@[simp] theorem Engine.emit_port (src : Nat) (ev : Ev) (d : List Byte) (q : Nat) : (e.emit src ev d).port q = e.port q := rfl

/-- A change of a port is what it makes of the port as it stands. -/
theorem Engine.modPort_congr (q : Nat) {f g : Port → Port} (h : f (e.port q) = g (e.port q)) :
    e.modPort q f = e.modPort q g := by
  rw [Engine.modPort, Engine.modPort, vmod_congr e.ports q Port.reset h]

end

/-! A packet that is accepted whole (R80). -/

/-- A packet accepted whole has its own effect, with its CRC good. -/
theorem Engine.packet_good {e : Engine} {p ty : Nat} {sop : BitVec 56} {pay : List Byte} {crc : BitVec 32}
    (good : e.goodPacket p ty sop pay crc) (f : PktHdr → Bool → Engine → Engine) :
    e.packet p ty sop pay crc f = f (pktHdr sop) true e := by
  obtain ⟨-, streaming, type, await, hchk, hdr, len, trailer⟩ := good
  unfold Engine.packet
  extract_lets h q next ok
  have hdr : e.cfg.hdrOk p next h = true := hdr
  have taken : ¬ (!e.streaming p || decide (h.ptype ≠ ty)) = true := by simp [streaming, h, type]
  have awaited : ¬ (q.awaitFs && !(decide (ty = 1) && hchkOk sop && e.cfg.hdrOk p next h)) = true := by
    rcases await with off | fs
    · simp [q, off]
    · simp [fs, hchk, hdr]
  have ok : ok = true := trailer
  rw [if_neg taken, if_neg awaited, if_neg (by simp [hchk]), if_neg (by simp [hdr]), if_neg (not_not.2 len), ok]
  rfl

/-- A port that takes packets is up. -/
theorem Engine.goodPacket.up {e : Engine} {p ty : Nat} {sop : BitVec 56} {pay : List Byte} {crc : BitVec 32}
    (good : e.goodPacket p ty sop pay crc) : (e.port p).link = .up := by
  obtain ⟨-, streaming, -⟩ := good
  simp only [Engine.streaming, Bool.and_eq_true, decide_eq_true_eq] at streaming
  exact streaming.1

/-- A command that is a packet, accepted whole. -/
theorem Does.of_packet {i : Instr} {t p ty : Nat} {s : State} {P : Engine → Engine → Prop} {sop : BitVec 56}
    {pay : List Byte} {crc : BitVec 32} (f : PktHdr → Bool → Engine → Engine)
    (hx : exec i s = s.run t fun e => e.whenLive (·.packet p ty sop pay crc f))
    (good : (s.eng.at t).goodPacket p ty sop pay crc) (hp : P (s.eng.at t) (f (pktHdr sop) true (s.eng.at t))) :
    Does i t s P := by
  have ⟨running, _⟩ := good
  refine Does.of_live (·.packet p ty sop pay crc f) hx (by simpa using running) ?_
  rwa [Engine.packet_good good]

/-! HYERN_FS (R80, R83, R107). -/

section
variable {e : Engine} {p : Nat}

/-- The binding of R107 looks at the slots, the schedule of settings and the CFNs of the port alone. -/
theorem Engine.bindTo_congr {a b : Engine} (h : Engine.changesOnly [.ports, .counters, .log] a b)
    (port : ∃ moved, b.port p = { a.port p with errMoved := moved }) : b.bindTo p = a.bindTo p := by
  obtain ⟨moved, port⟩ := port
  unfold Engine.bindTo Engine.unbound Engine.tro Engine.slotOf Engine.slotBy Engine.projStart Engine.values Engine.changeFor
  rw [h.now_eq, h.cfg_eq, h.proj_eq, h.clk_eq, port]

theorem Engine.closeFrame_none (h : (e.port p).frame = none) (atFe : Bool) : e.closeFrame p atFe = e := by
  rw [Engine.closeFrame, h]
  rfl

end

/-- A frame opens with its SFC: bound or stray, it is empty, and the port waits for no FS any more. -/
theorem Engine.openFrame_effect (e : Engine) (p : Fin 2) (sfc : Option Nat) :
    Engine.changesOnly [.ports, .counters] e (e.openFrame p sfc false) ∧
      (e.openFrame p sfc false).port p = { e.port p with
        frame := some { cfn := e.bindTo p, sfc := sfc, flags := 0, cur := none, nextLine := 0, lines := [], fillLines := 0
                        long := false, embNext := 0, echoes := [] }
        lastSfc := sfc, firstFs := false, awaitFs := false } := by
  unfold Engine.openFrame
  dsimp only
  rw [if_neg Bool.false_ne_true]
  split
  · exact ⟨((e.bump_only _ _).andThen (Engine.modPort_only _ _ _)).within, by simp [addFlagIf]⟩
  · exact ⟨(e.modPort_only _ _).within, by simp [addFlagIf]⟩

/-- HYERN_FS with no frame open: what a skipped SFC reports, and then the frame. -/
theorem Engine.hyernFs_opens {e : Engine} {p : Fin 2} (noFrame : (e.port p).frame = none) (up : (e.port p).link = .up)
    (pay : List Byte) : ∃ c : Engine, Engine.changesOnly [.ports, .counters, .log] e c ∧
      (∃ moved, c.port p = { e.port p with errMoved := moved }) ∧
      e.hyernFs p pay true = c.openFrame p (some (unle (pay.take 4))) false := by
  have same : ∃ moved, e.port p = { e.port p with errMoved := moved } := ⟨_, rfl⟩
  unfold Engine.hyernFs
  rw [Engine.closeFrame_none noFrame]
  dsimp only
  rw [if_neg (not_not.2 up)]
  refine ⟨_, ?only, ?moved, rfl⟩
  case only =>
    split
    · split
      · exact (((e.bump_only _ _).andThen (Engine.emit_only _ _ _ _)).andThen (Engine.modPort_only _ _ _)).within
      · exact Engine.changesOnly_refl _ e
    · exact Engine.changesOnly_refl _ e
  case moved =>
    split
    · split
      · exact ⟨true, by simp⟩
      · exact same
    · exact same

theorem does_hyernFs {t : Nat} {p : Fin 2} {sop : BitVec 56} {pay : List Byte} {crc : BitVec 32} {s : State}
    (good : (s.eng.at t).goodPacket p 1 sop pay crc) (noFrame : (s.eng.port p).frame = none) :
    Does (.hyernFs t p sop pay crc) t s fun a b => Engine.changesOnly [.ports, .counters, .log] a b ∧
      (b.port p).frame = some {
        cfn := a.bindTo p, sfc := some (unle (pay.take 4)), flags := 0, cur := none, nextLine := 0
        lines := [], fillLines := 0, long := false, embNext := 0, echoes := [] } ∧
      (b.port p).awaitFs = false ∧ (b.port p).firstFs = false ∧ (b.port p).lastSfc = some (unle (pay.take 4)) := by
  refine Does.of_packet (fun _ ok e => e.hyernFs p pay ok) rfl good ?_
  obtain ⟨c, only, moved, opens⟩ := Engine.hyernFs_opens (by simpa using noFrame) good.up pay
  obtain ⟨opened, port⟩ := c.openFrame_effect p (some (unle (pay.take 4)))
  rw [opens, port, Engine.bindTo_congr only moved]
  exact ⟨(only.andThen opened).within, rfl, rfl, rfl, rfl⟩

/-! HYERN_LS, HYERN_EMB and HYERN_LE (R80, R82, R83, R105). -/

section
variable {e : Engine} {p : Nat} {f : OpenFrame}

theorem Engine.needFrame_open (h : (e.port p).frame = some f) : e.needFrame p = e := by
  rw [Engine.needFrame, h]
  rfl

theorem Engine.closeLine_none (h : (e.port p).frame = some f) (cur : f.cur = none) (byLe : Bool) : e.closeLine p byLe = e := by
  rw [Engine.closeLine, h]
  dsimp only
  rw [cur]

/-- The line after the last one opens by its LS, and none is skipped. -/
theorem Engine.openLine_next (h : (e.port p).frame = some f) : e.openLine p f.nextLine true =
    e.modPort p fun q => { q with frame := some { f with
      cur := some ⟨f.nextLine, [], []⟩, nextLine := f.nextLine + 1 } } := by
  rw [Engine.openLine, h]
  simp [Engine.fillErr, Engine.hyErr, addFlagIf]

theorem Engine.hyernLs_next (h : (e.port p).frame = some f) (cur : f.cur = none) (line : f.nextLine < e.cfg.lines p) :
    e.hyernLs p f.nextLine = e.modPort p fun q => { q with frame := some { f with
      cur := some ⟨f.nextLine, [], []⟩, nextLine := f.nextLine + 1 } } := by
  rw [Engine.hyernLs, Engine.needFrame_open h]
  rw [h]
  dsimp only
  rw [if_neg (Nat.not_le.2 line), if_neg (Nat.lt_irrefl _), Engine.closeLine_none h cur, Engine.openLine_next h]

/-- A change of the open frame, which is there. -/
theorem Engine.modFrame_open (h : (e.port p).frame = some f) (g : OpenFrame → OpenFrame) :
    e.modFrame p g = e.modPort p fun q => { q with frame := some (g f) } :=
  e.modPort_congr p (by rw [h, Option.map_some])

theorem Engine.hyernEmb_good (h : (e.port p).frame = some f) (hdr : PktHdr) (pay : List Byte) :
    e.hyernEmb p hdr pay true = e.modPort p fun q => { q with frame := some { f with
      embNext := hdr.arg + 1, echoes := (embEntries (hdr.count + 1) pay).reverse ++ f.echoes } } := by
  rw [Engine.hyernEmb, Engine.needFrame_open h, Engine.modFrame_open h]
  rfl

/-- A line that is complete in each conversion closes by its LE with nothing to fill. -/
theorem Engine.closeLine_complete {l : LineBuf} (h : (e.port p).frame = some f) (cur : f.cur = some l)
    (whole : e.cfg.width p ≤ l.conv0.length) (dual : e.cfg.dualConv p = true → e.cfg.width p ≤ l.conv1.length) :
    e.closeLine p true = e.modPort p fun q => { q with frame := some { f with cur := none, lines := l :: f.lines } } := by
  have filled : (decide (l.conv0.length < e.cfg.width p) ||
      (e.cfg.dualConv p && decide (l.conv1.length < e.cfg.width p))) = false := by
    cases hd : e.cfg.dualConv p with
    | true => simpa using And.intro whole (dual hd)
    | false => simpa using whole
  rw [Engine.closeLine, h]
  dsimp only
  rw [cur]
  dsimp only
  rw [filled]
  rfl

theorem Engine.hyernLe_open {l : LineBuf} (h : (e.port p).frame = some f) (cur : f.cur = some l) :
    e.hyernLe p l.line = e.closeLine p true := by
  rw [Engine.hyernLe, h]
  dsimp only
  rw [cur]
  exact if_pos rfl

end

section
variable {t : Nat} {p : Fin 2} {sop : BitVec 56} {pay : List Byte} {crc : BitVec 32} {f : OpenFrame} {l : LineBuf} {s : State}

theorem does_hyernLs (good : (s.eng.at t).goodPacket p 2 sop [] crc) (open_ : (s.eng.port p).frame = some f)
    (cur : f.cur = none) (range : f.nextLine < s.eng.cfg.lines p) (line : (pktHdr sop).line = f.nextLine) :
    Does (.hyernLs t p sop crc) t s fun a b => Engine.changesOnly [.ports] a b ∧
      b.ports = vmod a.ports p fun q => { q with frame := some { f with
        cur := some ⟨f.nextLine, [], []⟩, nextLine := f.nextLine + 1 } } := by
  refine Does.of_packet (fun h _ e => e.hyernLs p h.line) rfl good ?_
  rw [line, Engine.hyernLs_next (by simpa using open_) cur (by simpa using range)]
  exact ⟨Engine.modPort_only _ _ _, rfl⟩

theorem does_hyernEmb (good : (s.eng.at t).goodPacket p 4 sop pay crc) (open_ : (s.eng.port p).frame = some f) :
    Does (.hyernEmb t p sop pay crc) t s fun a b => Engine.changesOnly [.ports] a b ∧
      b.ports = vmod a.ports p fun q => { q with frame := some { f with
        embNext := (pktHdr sop).arg + 1, echoes := (embEntries ((pktHdr sop).count + 1) pay).reverse ++ f.echoes } } := by
  refine Does.of_packet (fun h ok e => e.hyernEmb p h pay ok) rfl good ?_
  rw [Engine.hyernEmb_good (by simpa using open_)]
  exact ⟨Engine.modPort_only _ _ _, rfl⟩

theorem does_hyernLe (good : (s.eng.at t).goodPacket p 5 sop [] crc) (open_ : (s.eng.port p).frame = some f)
    (cur : f.cur = some l) (line : (pktHdr sop).line = l.line) (whole : s.eng.cfg.width p ≤ l.conv0.length)
    (dual : s.eng.cfg.dualConv p = true → s.eng.cfg.width p ≤ l.conv1.length) :
    Does (.hyernLe t p sop crc) t s fun a b => Engine.changesOnly [.ports] a b ∧
      b.ports = vmod a.ports p fun q => { q with frame := some { f with cur := none, lines := l :: f.lines } } := by
  have frame : ((s.eng.at t).port p).frame = some f := by simpa using open_
  refine Does.of_packet (fun h _ e => e.hyernLe p h.line) rfl good ?_
  rw [line, Engine.hyernLe_open frame cur, Engine.closeLine_complete frame cur (by simpa using whole) (by simpa using dual)]
  exact ⟨Engine.modPort_only _ _ _, rfl⟩

end

/-! HYERN_PIX (R63, R74, R80, R82). -/

/-- A PIX payload holds eight photosites in each group (R74). -/
theorem unpackPix_length (bits n : Nat) (pay : List Byte) : (unpackPix bits n pay).length = 8 * n := by
  simp [unpackPix, Nat.mul_comm]

/-- The port buffer takes as many photosites as fit, and what it does not take counts an overflow (R63, R80). -/
theorem Engine.portTakes_effect (e : Engine) (p n : Nat) {fill k : Nat}
    (hfill : fill = (e.port p).bufFill - e.cfg.portDrain (e.now - (e.port p).bufAt))
    (hk : k = min n ((e.cfg.portRoom p - fill) / 16384)) :
    (e.portTakes p n).1 = k ∧ Engine.changesOnly [.ports, .counters] e (e.portTakes p n).2 ∧
      (k = n → (e.portTakes p n).2.counters = e.counters) ∧
      (k < n → Engine.counted .hyernOverrun (portSrc p) e (e.portTakes p n).2) ∧
      (e.portTakes p n).2.ports = vmod e.ports p fun q => { q with
        bufFill := fill + 16384 * k, bufAt := e.now, errMoved := q.errMoved || decide (k < n) } := by
  subst hfill hk
  unfold Engine.portTakes
  dsimp only
  refine ⟨rfl, ?_⟩
  split
  · next full =>
    refine ⟨(((e.modPort_only _ _).andThen (Engine.bump_only _ _ _)).andThen (Engine.modPort_only _ _ _)).within,
      fun h => absurd h (Nat.ne_of_lt full), fun _ => Engine.counted_of_counters (Engine.counted_bump _ _ _) rfl rfl, ?_⟩
    rw [Engine.modPort_ports, Engine.bump_ports, Engine.modPort_ports, vmod_vmod]
    simp [full]
  · next fits =>
    refine ⟨(e.modPort_only _ _).within, fun _ => rfl, fun h => absurd h fits, ?_⟩
    simp [fits]

/-- Photosites of the open line at or after its next column join it, as many as the port buffer takes. -/
theorem Engine.hyernPix_joins {e : Engine} {p : Nat} {f : OpenFrame} {l : LineBuf} (open_ : (e.port p).frame = some f)
    (cur : f.cur = some l) (hdr : PktHdr) (line : hdr.line = l.line) (range : l.line < e.cfg.lines p)
    (col : nextCol (if hdr.conv = 0 then l.conv0 else l.conv1) ≤ hdr.arg) (pay : List Byte) :
    e.hyernPix p hdr pay true = (e.portTakes p (8 * (hdr.count + 1))).2.modFrame p fun f => { f with
      cur := f.cur.map fun l => l.add hdr.conv hdr.arg ((unpackPix (e.cfg.packBits p) (hdr.count + 1) pay).take
        (e.portTakes p (8 * (hdr.count + 1))).1) } := by
  rw [Engine.hyernPix, Engine.needFrame_open open_]
  dsimp only
  rw [open_]
  dsimp only
  rw [cur]
  dsimp only
  rw [line, if_neg (Nat.not_le.2 range), if_pos rfl, if_neg (Nat.not_lt.2 col), unpackPix_length]
  rfl

theorem does_hyernPix {t : Nat} {p : Fin 2} {sop : BitVec 56} {pay : List Byte} {crc : BitVec 32} {f : OpenFrame}
    {l : LineBuf} {s : State} (good : (s.eng.at t).goodPacket p 3 sop pay crc) (open_ : (s.eng.port p).frame = some f)
    (cur : f.cur = some l) (line : (pktHdr sop).line = l.line) (range : l.line < s.eng.cfg.lines p)
    (col : nextCol (if (pktHdr sop).conv = 0 then l.conv0 else l.conv1) ≤ (pktHdr sop).arg) :
    Does (.hyernPix t p sop pay crc) t s fun a b => Engine.changesOnly [.ports, .counters] a b ∧
      ∃ fill k, fill = (a.port p).bufFill - a.cfg.portDrain (a.now - (a.port p).bufAt) ∧
        k = min (8 * ((pktHdr sop).count + 1)) ((a.cfg.portRoom p - fill) / 16384) ∧
        (k = 8 * ((pktHdr sop).count + 1) → b.counters = a.counters) ∧
        (k < 8 * ((pktHdr sop).count + 1) → Engine.counted .hyernOverrun (portSrc p) a b) ∧
        b.ports = vmod a.ports p fun q => { q with
          bufFill := fill + 16384 * k, bufAt := a.now
          errMoved := q.errMoved || decide (k < 8 * ((pktHdr sop).count + 1))
          frame := some { f with cur := some (l.add (pktHdr sop).conv (pktHdr sop).arg
            ((unpackPix (a.cfg.packBits p) ((pktHdr sop).count + 1) pay).take k)) } } := by
  have frame : ((s.eng.at t).port p).frame = some f := by simpa using open_
  refine Does.of_packet (fun h ok e => e.hyernPix p h pay ok) rfl good ?_
  rw [Engine.hyernPix_joins frame cur _ line (by simpa using range) col]
  obtain ⟨taken, only, fits, full, ports⟩ := (s.eng.at t).portTakes_effect p (8 * ((pktHdr sop).count + 1)) rfl rfl
  have kept : (((s.eng.at t).portTakes p (8 * ((pktHdr sop).count + 1))).2.port p).frame = some f := by
    rw [Engine.port, ports, vget_vmod_same _ p.isLt]
    exact frame
  rw [taken, Engine.modFrame_open kept, cur]
  refine ⟨(only.andThen (Engine.modPort_only _ _ _)).within, _, _, rfl, rfl, fits, full, ?_⟩
  rw [Engine.modPort_ports, ports, vmod_vmod]
  rfl

/-- Settles O12: each kind of packet, accepted whole, by its lemma. -/
theorem sensorPacketsBuildFrame : Obligations.SensorPacketsBuildFrame := by
  unfold Obligations.SensorPacketsBuildFrame
  exact ⟨fun _ _ _ _ _ _ => does_hyernFs, fun _ _ _ _ _ _ => does_hyernLs, fun _ _ _ _ _ _ _ _ => does_hyernPix,
    fun _ _ _ _ _ _ _ => does_hyernEmb, fun _ _ _ _ _ _ _ => does_hyernLe⟩

end Sys2Proof.Machine
end

section
/-! The end of a frame (O13; R83, R84, R107 to R109, R489): an open frame closes, each frame owed is produced once, and its
metadata record is frozen. -/

namespace Sys2Proof.Machine
set_option Elab.async false

/-! Frames of the units that a frame passes: none of them changes a port or a frozen record. -/

section
variable (e : Engine)

theorem Engine.setRaw_only (x : RawFe) : Engine.changesOnly [.raw] e { e with raw := x } := by
  intro p hp
  cases p with
  | raw => exact absurd (by decide) hp
  | _ => rfl

theorem Engine.modStream_only (n : Nat) (f : FsrStream → FsrStream) : Engine.changesOnly [.fsr] e (e.modStream n f) := by
  intro p hp
  cases p with
  | fsr => exact absurd (by decide) hp
  | _ => rfl

/-- What happens in one of two cases stays within the parts of the case that does something. -/
theorem Engine.changesOnly_ite {ps : List Part} (c : Prop) [Decidable c] {b : Engine} (h : Engine.changesOnly ps e b) :
    Engine.changesOnly ps e (if c then b else e) := by
  split
  · exact h
  · exact Engine.changesOnly_refl _ e

theorem Engine.updateBlack_only (r : RawCtx) (fr : FrameIn) :
    Engine.changesOnly [.raw, .counters, .log] e (e.updateBlack r fr).2 := by
  unfold Engine.updateBlack
  split
  · exact Engine.changesOnly_refl _ e
  · dsimp only
    exact ((((e.setRaw_only _).andThen (Engine.changesOnly_ite _ _ (Engine.bump_only _ _ _))).andThen
      (Engine.changesOnly_ite _ _ (Engine.bump_only _ _ _))).andThen
        (Engine.changesOnly_ite _ _ (Engine.emit_only _ _ _ _))).within

theorem Engine.trackHit_only (p x y : Nat) (hot : Bool) :
    Engine.changesOnly [.raw, .counters, .log] e (e.trackHit p x y hot) := by
  unfold Engine.trackHit
  extract_lets counted promote
  have count : Engine.changesOnly [.counters] e counted := e.bump_only _ _
  have promoted (n : Nat) (a : Engine) : Engine.changesOnly [.raw, .counters, .log] a (promote n a) := by
    unfold promote
    dsimp only
    split_ifs
    · exact Engine.changesOnly_refl _ a
    · exact (a.bump_only _ _).within
    · exact (((a.bump_only _ _).andThen (Engine.setRaw_only _ _)).andThen (Engine.emit_only _ _ _ _)).within
    · exact (((a.setRaw_only _).andThen (Engine.bump_only _ _ _)).andThen (Engine.emit_only _ _ _ _)).within
  split
  · exact ((count.andThen (Engine.setRaw_only _ _)).andThen (promoted _ _)).within
  · split_ifs
    · exact (count.andThen (Engine.bump_only _ _ _)).within
    · exact (((count.andThen (Engine.bump_only _ _ _)).andThen (Engine.setRaw_only _ _)).andThen
        (Engine.emit_only _ _ _ _)).within
    · exact ((count.andThen (Engine.setRaw_only _ _)).andThen (promoted _ _)).within

theorem Engine.dynDetect_only (r : RawCtx) (g : Sites) (blk : Int → Nat → Int) :
    Engine.changesOnly [.raw, .counters, .log] e (e.dynDetect r g blk).2 := by
  unfold Engine.dynDetect
  split
  · exact Engine.changesOnly_refl _ e
  · exact ((e.setRaw_only _).andThen (Engine.changesOnly_foldl _ (fun e q => e.trackHit_only _ _ _ _) _ _)).within

theorem Engine.tnr_only (r : RawCtx) (fr : FrameIn) (flags : Nat) (u : List (List Nat)) :
    Engine.changesOnly [.raw, .counters] e (e.tnr r fr flags u).2.2 := by
  unfold Engine.tnr
  extract_lets pass bad raw read flags poison q ref thr
  have taken : Engine.changesOnly [.raw] e read := e.setRaw_only _
  split
  · exact taken.within
  · split
    · exact taken.within
    · cases ref with
      | some rf => exact (taken.andThen (Engine.setRaw_only _ _)).within
      | none =>
        exact ((taken.andThen (Engine.changesOnly_ite _ _ (Engine.bump_only _ _ _))).andThen (Engine.setRaw_only _ _)).within

theorem Engine.rawFront_only (str : Nat) (fr : FrameIn) :
    Engine.changesOnly [.raw, .counters, .log] e (e.rawFront str fr).2 :=
  ((((e.updateBlack_only _ _).andThen (Engine.bumpN_only _ _ _ _ _)).andThen (Engine.dynDetect_only _ _ _ _)).andThen
    (Engine.tnr_only _ _ _ _ _)).within

theorem Engine.statsPush_only (r : StatsRec) : Engine.changesOnly [.raw, .counters, .log] e (e.statsPush r) := by
  have need : Engine.changesOnly [.raw, .counters, .log] e (e.statsNeed r.source) := by
    unfold Engine.statsNeed
    split
    · exact (((e.setRaw_only _).andThen (Engine.bump_only _ _ _)).andThen (Engine.emit_only _ _ _ _)).within
    · exact Engine.changesOnly_refl _ e
  exact (need.andThen (Engine.setRaw_only _ _)).within

theorem Engine.calAdd_only (fr : FrameIn) (fs : Nat) (t1 : List Pic) (exp gain : Nat) :
    Engine.changesOnly [.cluster] e (e.calAdd fr fs t1 exp gain) := by
  unfold Engine.calAdd
  split
  · exact Engine.changesOnly_refl _ e
  · split
    · exact Engine.changesOnly_refl _ e
    · exact e.setCluster_only _

theorem Engine.feedStreams_only (out : RawOut) (fr : FrameIn) : Engine.changesOnly [.fsr] e (e.feedStreams out fr) :=
  Engine.changesOnly_foldl _ (fun e _ => e.modStream_only _ _) _ e

theorem Engine.runBranch_only (p cfn ph flags : Nat) (key : Option Nat) (work : List (List Px)) (b : Nat) :
    Engine.changesOnly [.colour, .counters] e (e.runBranch p cfn ph flags key work b) := by
  unfold Engine.runBranch
  split
  · exact Engine.changesOnly_refl _ e
  · dsimp only
    split
    · exact (e.setColour_only _).within
    · exact ((e.setColour_only _).andThen (Engine.bump_only _ _ _)).within

theorem Engine.colourFrame_only (p cfn ph flags : Nat) (key : Option Nat) (lin : Pic) :
    Engine.changesOnly [.colour, .counters] e (e.colourFrame p cfn ph flags key lin) := by
  unfold Engine.colourFrame
  split
  · exact Engine.changesOnly_foldl _ (fun e b => e.runBranch_only _ _ _ _ _ _ b) _ e
  · exact Engine.changesOnly_refl _ e

theorem Engine.headsTake_only (b : Nat) : Engine.changesOnly [.outs] e (e.headsTake b) := by
  unfold Engine.headsTake
  split
  · exact Engine.changesOnly_refl _ e
  · refine Engine.changesOnly_foldl _ (fun e h => ?_) _ e
    split
    · exact Engine.changesOnly_refl _ e
    · exact e.setOuts_only _

theorem Engine.branchSends_only (stamp : Int) (b : Nat) : Engine.changesOnly [.outs] e (e.branchSends stamp b) := by
  unfold Engine.branchSends
  split
  · exact Engine.changesOnly_refl _ e
  · exact Engine.changesOnly_foldl _ (fun e n => e.setOuts_only _) _ e

theorem Engine.branchesDone_only (p ph : Nat) (stamp : Int) : Engine.changesOnly [.outs] e (e.branchesDone p ph stamp) := by
  refine Engine.changesOnly_foldl _ (fun e b => ?_) _ e
  split
  · exact Engine.changesOnly_trans (e.headsTake_only b) (Engine.branchSends_only _ _ _)
  · exact Engine.changesOnly_ite _ _ (e.branchSends_only _ _)

theorem Engine.feedBranches_only (out : RawOut) (fr : FrameIn) :
    Engine.changesOnly [.colour, .counters, .outs] e (e.feedBranches out fr) := by
  unfold Engine.feedBranches
  split
  · exact Engine.changesOnly_refl _ e
  · exact ((e.colourFrame_only _ _ _ _ _ _).andThen (Engine.branchesDone_only _ _ _ _)).within

theorem Engine.countFlags_only (p fs : Nat) : Engine.changesOnly [.counters] e (e.countFlags p fs) := by
  have one (f : FrameFlag) (c : Ctr) (e : Engine) :
      Engine.changesOnly [.counters] e (if hasFlag fs f then e.bump c (portSrc p) else e) :=
    e.changesOnly_ite _ (e.bump_only _ _)
  exact (((((one _ _ _).andThen (one _ _ _)).andThen (one _ _ _)).andThen (one _ _ _)).andThen (one _ _ _)).within

end

/-! The run of bad frames (R109) leaves what a port owes and has open. -/

/-- What the end of a frame settles: the open frame of a port, the CFNs it owes, and its frozen records. -/
def Engine.captureState (e : Engine) (p : Nat) : Option OpenFrame × List Nat × List FrozenRec :=
  ((e.port p).frame, (e.port p).owed, e.frozenOf p)

section
variable (e : Engine) (p : Fin 2)

/-- Parts that hold neither ports nor records leave it. -/
theorem Engine.changesOnly.captureState {ps : List Part} {a b : Engine} (h : Engine.changesOnly ps a b) (q : Nat)
    (ports : decide (Part.ports ∈ ps) = false := by rfl) (md : decide (Part.md ∈ ps) = false := by rfl) :
    b.captureState q = a.captureState q := by
  rw [Engine.captureState, Engine.captureState, Engine.frozenOf, Engine.frozenOf, Engine.port_congr (h.ports_eq ports),
    h.md_eq md]

/-- So does a change of other fields of the port. -/
theorem Engine.modPort_captureState {f : Port → Port} (frame : ∀ q, (f q).frame = q.frame)
    (owed : ∀ q, (f q).owed = q.owed) : (e.modPort p f).captureState p = e.captureState p := by
  rw [Engine.captureState, Engine.modPort_port, frame, owed]
  rfl

theorem Engine.startTraining_captureState (again : Bool) : (e.startTraining p again).captureState p = e.captureState p := by
  calc (e.startTraining p again).captureState p
      = ((e.lanesTrain p again).resetSequence p).captureState p :=
        Engine.modPort_captureState _ p (fun _ => rfl) (fun _ => rfl)
    _ = (e.lanesTrain p again).captureState p := Engine.modPort_captureState _ p (fun _ => rfl) (fun _ => rfl)
    _ = e.captureState p := (e.lanesTrain_only p again).captureState p

theorem Engine.badRun_captureState (c fs : Nat) : (e.badRun p c fs).captureState p = e.captureState p := by
  unfold Engine.badRun
  split
  · exact e.modPort_captureState p (fun _ => rfl) (fun _ => rfl)
  · extract_lets counted q logged faulted
    have count : counted.captureState p = e.captureState p := e.modPort_captureState p (fun _ => rfl) (fun _ => rfl)
    split
    · exact count
    · have fault : faulted.captureState p = e.captureState p := calc
        faulted.captureState p = logged.captureState p := logged.modPort_captureState p (fun _ => rfl) (fun _ => rfl)
        _ = counted.captureState p := ((counted.bump_only _ _).andThen (Engine.emit_only _ _ _ _)).captureState p
        _ = e.captureState p := count
      split
      · rw [Engine.startTraining_captureState, fault]
      · exact fault

end

/-! A frame is produced (R108). -/

/-- The frame of CFN c is produced, so it is no longer owed; one without a trigger yet will not be. -/
def Port.produced (c : Nat) (q : Port) : Port :=
  { q with
    owed := q.owed.filter (· ≠ c), early := if q.owed.contains c then q.early else q.early ++ [c]
    faultCfns := q.faultCfns.filter (· ≠ c), lateCfns := q.lateCfns.filter (· ≠ c) }

/-- What a frame passes behind the raw front end: statistics, calibration, Flowstone streams, and the branches. -/
def Engine.framePassed (out : RawOut) (fr : FrameIn) (exp gain : Nat) (e : Engine) : Engine :=
  let e := match out.stats with
    | some r => if e.playsOn fr.p then e else e.statsPush r
    | none => e
  ((e.calAdd fr out.flags out.t1 exp gain).feedStreams out fr).feedBranches out fr

theorem Engine.framePassed_only (e : Engine) (out : RawOut) (fr : FrameIn) (exp gain : Nat) :
    Engine.changesOnly [.raw, .counters, .log, .cluster, .fsr, .colour, .outs] e (e.framePassed out fr exp gain) := by
  unfold Engine.framePassed
  extract_lets kept
  have stats : Engine.changesOnly [.raw, .counters, .log] e kept := by
    unfold kept
    split
    · split
      · exact Engine.changesOnly_refl _ e
      · exact e.statsPush_only _
    · exact Engine.changesOnly_refl _ e
  exact (((stats.andThen (Engine.calAdd_only _ _ _ _ _ _)).andThen (Engine.feedStreams_only _ _ _)).andThen
    (Engine.feedBranches_only _ _ _)).within

/-- A frame that is produced is counted, is no longer owed, passes the units, and ends in its frozen record. -/
theorem Engine.produceFrame_effect (e : Engine) (p c : Nat) (f : Option OpenFrame) : ∃ (fs : Nat) (m : Engine) (r : FrozenRec),
    r.cfn = c ∧ Engine.changesOnly [.raw, .counters, .log, .cluster, .fsr, .colour, .outs]
      ((e.countFlags p fs).modPort p (Port.produced c)) m ∧
    e.produceFrame p c f = (m.setFrozen p (m.frozenOf p ++ [r])).badRun p c r.flags := by
  unfold Engine.produceFrame
  extract_lets echoes ie flags lines fr fill counted settled raw read
  have front := read.rawFront_only (read.tnrStrAt c) fr
  rcases hfront : read.rawFront (read.tnrStrAt c) fr with ⟨out, fed⟩
  rw [hfront] at front
  exact ⟨flags, fed.framePassed out { fr with flags := out.flags } ie.vals.expNs ie.vals.gain,
    ⟨c, out.flags, _, _, none⟩, rfl,
    (((settled.setRaw_only _).andThen front).andThen (fed.framePassed_only _ _ _ _)).within, rfl⟩

/-- A record frozen joins those of the port. -/
theorem Engine.setFrozen_frozenOf (e : Engine) (p : Fin 2) (l : List FrozenRec) : (e.setFrozen p l).frozenOf p = l :=
  vget_vmod_same e.md.frozen p.isLt _ _

/-- A frame is produced once: its CFN is no longer owed, and one record of it is frozen. -/
theorem Engine.produceFrame_settles (e : Engine) (p : Fin 2) (c : Nat) (f : Option OpenFrame) :
    ((e.produceFrame p c f).port p).frame = (e.port p).frame ∧
      ((e.produceFrame p c f).port p).owed = (e.port p).owed.filter (· ≠ c) ∧
      ∃ r, (e.produceFrame p c f).frozenOf p = e.frozenOf p ++ [r] ∧ r.cfn = c := by
  obtain ⟨fs, m, r, cfn, only, produced⟩ := e.produceFrame_effect p c f
  have run := (m.setFrozen p (m.frozenOf p ++ [r])).badRun_captureState p c r.flags
  have passed := only.captureState p
  have counted := (e.countFlags_only p fs).captureState p
  rw [← produced] at run
  simp only [Engine.captureState, Prod.mk.injEq, Engine.setFrozen_frozenOf, Engine.modPort_port] at run passed counted
  obtain ⟨frame, owed, frozen⟩ := run
  obtain ⟨frame', owed', frozen'⟩ := passed
  obtain ⟨frame'', owed'', frozen''⟩ := counted
  refine ⟨frame.trans (frame'.trans frame''), owed.trans (owed'.trans ?_), r, ?_, cfn⟩
  · rw [Port.produced, owed'']
  · rw [frozen, frozen']
    exact congrArg (· ++ [r]) frozen''

/-! A frame closes at its FE (R83, R84). -/

section
variable (e : Engine) (p : Fin 2)

/-- HYERN_FRAME_ERR clears the error sums and nothing else of the port. -/
theorem Engine.frameErr_effect (cfn : Option Nat) : Engine.changesOnly [.ports, .log] e (e.frameErr p cfn) ∧
    (e.frameErr p cfn).captureState p = e.captureState p := by
  unfold Engine.frameErr
  dsimp only
  split
  · exact ⟨Engine.changesOnly_refl _ e, rfl⟩
  · have event := e.emit_only (portSrc p) .hyernFrameErr
      (le 4 (cfn.getD 0xFFFFFFFF) ++ (e.port p).errs.toList.flatMap fun n => le 2 (satNat 65535 n))
    refine ⟨(event.andThen (Engine.modPort_only _ _ _)).within,
      (Engine.modPort_captureState _ p ?_ ?_).trans (event.captureState p)⟩
    exacts [fun _ => rfl, fun _ => rfl]

end

/-- The end of the open frame, its lines closed: it is no longer open, and the errors of it are reported. -/
def Engine.frameShut (p : Nat) (f : OpenFrame) (e : Engine) : Engine :=
  (e.modPort p fun q => { q with frame := none }).frameErr p f.cfn

theorem Engine.frameShut_effect (e : Engine) (p : Fin 2) (f : OpenFrame) :
    Engine.changesOnly [.ports, .log] e (e.frameShut p f) ∧ ((e.frameShut p f).port p).frame = none ∧
      ((e.frameShut p f).port p).owed = (e.port p).owed ∧ (e.frameShut p f).frozenOf p = e.frozenOf p := by
  obtain ⟨only, kept⟩ := (e.modPort p fun q => { q with frame := none }).frameErr_effect p f.cfn
  simp only [Engine.captureState, Prod.mk.injEq, Engine.modPort_port] at kept
  exact ⟨((e.modPort_only _ _).andThen only).within, kept⟩

section
variable {e : Engine} {p : Nat} {f : OpenFrame}

/-- FE of a frame without an open line: the frame is shut, and produced when it is bound to a trigger. -/
theorem Engine.hyernFe_open (open_ : (e.port p).frame = some f) (cur : f.cur = none) :
    e.hyernFe p = f.cfn.elim (e.frameShut p f) fun c => (e.frameShut p f).produceFrame p c (some f) := by
  have isOpen : ¬ (e.port p).frame.isNone = true := by simp [open_]
  rw [Engine.hyernFe, if_neg isOpen, Engine.closeFrame, if_neg isOpen, Engine.closeLine_none open_ cur]
  dsimp only
  rw [if_pos rfl, open_]
  change (match f.cfn with
    | some c => (e.frameShut p f).produceFrame p c (some f)
    | none => e.frameShut p f) = _
  cases f.cfn with
  | none => rfl
  | some c => rfl

/-- With no frame open, the oldest frame owed whose deadline has come is produced empty (R107, R108). -/
theorem Engine.frameEndDeadline_empty {c : Nat} (noFrame : (e.port p).frame = none)
    (due : ((e.port p).owed.find? fun x => decide (e.frameDeadline p x ≤ e.now)) = some c) :
    e.frameEndDeadline p = e.produceFrame p c none := by
  rw [Engine.frameEndDeadline, due, noFrame]

end

section
variable {t : Nat} {p : Fin 2} {sop : BitVec 56} {pay : List Byte} {crc : BitVec 32} {f : OpenFrame} {c : Nat} {s : State}

theorem does_hyernFe_stray (good : (s.eng.at t).goodPacket p 6 sop pay crc) (open_ : (s.eng.port p).frame = some f)
    (cur : f.cur = none) (stray : f.cfn = none) : Does (.hyernFe t p sop pay crc) t s fun a b =>
      Engine.changesOnly [.ports, .log] a b ∧ (b.port p).frame = none ∧ (b.port p).owed = (a.port p).owed := by
  refine Does.of_packet (fun _ _ e => e.hyernFe p) rfl good ?_
  obtain ⟨only, frame, owed, -⟩ := (s.eng.at t).frameShut_effect p f
  rw [Engine.hyernFe_open (by simpa using open_) cur, stray, Option.elim_none]
  exact ⟨only, frame, owed⟩

theorem does_hyernFe_bound (good : (s.eng.at t).goodPacket p 6 sop pay crc) (open_ : (s.eng.port p).frame = some f)
    (cur : f.cur = none) (bound : f.cfn = some c) : Does (.hyernFe t p sop pay crc) t s fun a b =>
      (b.port p).frame = none ∧ (b.port p).owed = (a.port p).owed.filter (· ≠ c) ∧
        ∃ r, b.frozenOf p = a.frozenOf p ++ [r] ∧ r.cfn = c := by
  refine Does.of_packet (fun _ _ e => e.hyernFe p) rfl good ?_
  obtain ⟨-, frame, owed, frozen⟩ := (s.eng.at t).frameShut_effect p f
  obtain ⟨frame', owed', r, frozen', cfn⟩ := ((s.eng.at t).frameShut p f).produceFrame_settles p c (some f)
  rw [Engine.hyernFe_open (by simpa using open_) cur, bound, Option.elim_some]
  exact ⟨frame'.trans frame, by rw [owed', owed], r, by rw [frozen', frozen], cfn⟩

theorem does_frameEndDeadline_empty (run : s.eng.sys.phase = .running) (noFrame : (s.eng.port p).frame = none)
    (due : ((s.eng.port p).owed.find? fun x => decide ((s.eng.at t).frameDeadline p x ≤ (s.eng.at t).now)) = some c) :
    Does (.frameEndDeadline t p) t s fun a b =>
      (b.port p).frame = none ∧ (b.port p).owed = (a.port p).owed.filter (· ≠ c) ∧
        ∃ r, b.frozenOf p = a.frozenOf p ++ [r] ∧ r.cfn = c := by
  have free : ((s.eng.at t).port p).frame = none := by simpa using noFrame
  refine Does.of_live (·.frameEndDeadline p) rfl run ?_
  obtain ⟨frame, settled⟩ := (s.eng.at t).produceFrame_settles p c none
  rw [Engine.frameEndDeadline_empty free (by simpa using due)]
  exact ⟨frame.trans free, settled⟩

end

/-- Settles O13: the end of a stray frame, of a bound one, and the deadline of one that never came. -/
theorem frameEndProducesRecord : Obligations.FrameEndProducesRecord := by
  unfold Obligations.FrameEndProducesRecord
  exact ⟨fun _ _ _ _ _ _ _ => does_hyernFe_stray, fun _ _ _ _ _ _ _ _ => does_hyernFe_bound,
    fun _ _ _ _ => does_frameEndDeadline_empty⟩

end Sys2Proof.Machine
end

section
/-! Training of a sensor link (O14; R69, R77 to R80, R97): the reset sequence, ALIGN, sensor reset, timeout, and errors of the
receiver. -/

namespace Sys2Proof.Machine
set_option Elab.async false

/-! The reset sequence (R97, R103). -/

section
variable {e : Engine} {p : Nat}

theorem Engine.initWriteDone_waiting (wait : e.rstWaited p = false) (ok : Bool) : e.initWriteDone p ok = e := by
  rw [Engine.initWriteDone, wait]
  rfl

/-- A write of the sequence that succeeds is taken off the list and recorded as done, with RST_N released. -/
theorem Engine.initWriteDone_ok {g c addr data : Nat} {r : Bool} {rest : List (Nat × Nat × Nat × Nat × Bool)}
    (wait : e.rstWaited p = true) (window : (e.port p).window = (g, c, addr, data, r) :: rest) :
    e.initWriteDone p true = (e.rstRelease p).modPort p fun q =>
      { q with window := rest, writes := e.cfg.ctlWrite p addr data :: q.writes } := by
  have released : ((e.rstRelease p).port p).window = (g, c, addr, data, r) :: rest := window
  rw [Engine.initWriteDone, wait]
  dsimp only
  rw [released]
  rfl

/-- The sequence complete, its port trains with the values of R515. -/
theorem Engine.sensorResetDone_ok (link : (e.port p).link = .resetting) (wait : e.rstWaited p = true) :
    e.sensorResetDone p true = (e.rstRelease p).modPort p fun q => { q with
      link := .training, trainAt := e.now, window := [], lastCodes := Vector.replicate 5 none, base := e.cfg.baseVals p
      writes := (q.window.map fun x => e.cfg.ctlWrite p x.2.2.1 x.2.2.2.1).reverse ++ q.writes } := by
  rw [Engine.sensorResetDone, link, wait]
  rfl

end

/-! ALIGN (R69, R77 to R80). -/

section
variable (e : Engine)

/-- The closing ALIGN of a training brings port and lanes up, and counts and logs the training. -/
theorem Engine.trained_effect (p : Fin 2) (skew : Nat) :
    Engine.changesOnly [.ports, .lanes, .counters, .log] e (e.trained p skew) ∧
      (((e.trained p skew).port p).link = .up ∧ ((e.trained p skew).port p).skewMax = skew ∧
        ((e.trained p skew).port p).alignSeq = 0 ∧ ((e.trained p skew).port p).awaitFs = true) ∧
      Engine.counted .hyernTrain (portSrc p) e (e.trained p skew) ∧
      (portSrc p, .hyernTrained, []) ∈ Engine.newEvents e (e.trained p skew) := by
  unfold Engine.trained
  extract_lets ls rate up reported announced
  have lanes : Engine.changesOnly [.lanes] e up := Engine.changesOnly_foldl _ (fun e l => e.modLane_only _ _) ls e
  obtain ⟨report, counted, events⟩ := up.bump_emit_effect .hyernTrain (portSrc p) .hyernTrained []
  have counted : Engine.counted .hyernTrain (portSrc p) e reported :=
    Engine.counted_of_counters counted lanes.counters_eq.symm rfl
  have events : Engine.newEvents e reported = [(portSrc p, .hyernTrained, [])] :=
    (Engine.newEvents_congr lanes.log_eq.symm _).trans events
  have announce : Engine.changesOnly [.log] reported announced ∧
      (portSrc p, .hyernTrained, []) ∈ Engine.newEvents e announced := by
    unfold announced
    cases ls with
    | nil => exact ⟨Engine.changesOnly_refl _ _, events ▸ List.mem_singleton_self _⟩
    | cons l r =>
      have grows : e.log.held.length ≤ reported.log.held.length := by
        rw [← lanes.log_eq, Engine.emit_held, List.length_append]
        exact Nat.le_add_right _ _
      rw [Engine.newEvents_emit_next _ _ _ grows, events]
      exact ⟨Engine.emit_only _ _ _ _, List.mem_cons_self⟩
  obtain ⟨log, logged⟩ := announce
  rw [Engine.modPort_port]
  exact ⟨(((lanes.andThen report).andThen log).andThen (Engine.modPort_only _ _ _)).within, ⟨rfl, rfl, rfl, rfl⟩,
    Engine.counted_of_counters counted rfl log.counters_eq, logged⟩

end

section
variable {e : Engine} {p : Nat} {seqs blocks : List Nat} {skew : Nat}

theorem Engine.hyernAlign_closes (link : (e.port p).link = .training) (ready : e.lanesReady p = true) (near : skew ≤ 64)
    (some_ : seqs ≠ []) (zero : ∀ x ∈ seqs, x = 0) :
    e.hyernAlign p seqs true blocks skew (e.cfg.laneLog2 p) = e.trained p skew := by
  have good : ¬ (seqs.isEmpty || seqs.any (· ≠ 0) || !true) = true := by simpa [some_] using zero
  rw [Engine.hyernAlign]
  dsimp only
  rw [link]
  dsimp only
  rw [ready, if_neg (by decide), if_neg (not_not.2 rfl), if_neg (Nat.not_lt.2 near), if_neg good]

theorem Engine.hyernAlign_stream (link : (e.port p).link = .up) (near : skew ≤ 64) (some_ : seqs ≠ [])
    (next : ∀ x ∈ seqs, x = ((e.port p).prevAlign + 1) % 256) (count : blocks.length = seqs.length)
    (whole : ∀ x ∈ blocks, x = 16383) (ts : Nat) :
    e.hyernAlign p seqs true blocks skew ts = e.modPort p fun q => { q with
      alignSeq := (q.prevAlign + 1) % 256, prevAlign := (q.prevAlign + 1) % 256, alignErrs := 0, waitAlign := false
      skewMax := max q.skewMax skew } := by
  have good : (true && (blocks.all (· = 16383) && blocks.length = seqs.length) && decide (skew ≤ 64) &&
      seqs.all (· = ((e.port p).prevAlign + 1) % 256) && !seqs.isEmpty) = true := by
    simpa [near, some_, count] using And.intro whole next
  have head : seqs.headD 0 = ((e.port p).prevAlign + 1) % 256 := by
    cases seqs with
    | nil => exact absurd rfl some_
    | cons x r => exact next x List.mem_cons_self
  rw [Engine.hyernAlign]
  dsimp only
  rw [link]
  dsimp only
  rw [if_pos good, head]
  exact e.modPort_congr p rfl

end

/-! Sensor resets, timeouts and errors (R78 to R80, R84). -/

section
variable (e : Engine) (p : Fin 2)

/-- A sensor that has reset itself between frames: its port trains from step 2 of R77, without a reset sequence. -/
theorem Engine.hyernSensorReset_effect (link : (e.port p).link = .up) (noFrame : (e.port p).frame = none) :
    Engine.changesOnly [.ports, .pins, .lanes, .counters, .log] e (e.hyernSensorReset p) ∧
      ((e.hyernSensorReset p).port p).link = .training ∧ ((e.hyernSensorReset p).port p).trainTry = 1 ∧
      ((e.hyernSensorReset p).port p).trainAt = e.now ∧
      Engine.newEvents e (e.hyernSensorReset p) = [(portSrc p, .hyernSensorReset, [])] := by
  unfold Engine.hyernSensorReset
  rw [if_neg (not_not.2 link), Engine.closeFrame_none noFrame]
  extract_lets logged trains
  have log : Engine.changesOnly [.log] e logged := e.emit_only _ _ _
  have train : Engine.changesOnly [.lanes, .counters] logged trains :=
    logged.changesOnly_ite _ (logged.lanesTrain_only _ _)
  have reach := log.andThen train
  have events : Engine.newEvents e trains = [(portSrc p, .hyernSensorReset, [])] :=
    (Engine.newEvents_of_log trains train.log_eq).trans (Engine.newEvents_emit _ _ _ _ _ rfl)
  rw [Engine.modPort_port]
  exact ⟨((reach.andThen (Engine.setPins_only _ _)).andThen (Engine.modPort_only _ _ _)).within, rfl, rfl, reach.now_eq,
    events⟩

/-- The last attempt of a training fails. -/
theorem Engine.trainFail_last (reason : Nat) (last : e.cfg.trainTries p ≤ (e.port p).trainTry) :
    Engine.changesOnly [.ports, .lanes, .counters, .log] e (e.trainFail p reason) ∧
      ((e.trainFail p reason).port p).link = .failed ∧
      Engine.newEvents e (e.trainFail p reason) = [(portSrc p, .hyernTrainFail, le 4 reason)] := by
  unfold Engine.trainFail
  extract_lets trains
  have train : Engine.changesOnly [.lanes, .counters] e trains :=
    ((e.bump_only _ _).andThen (Engine.lanesTrain_only _ _ _)).within
  rw [if_pos (by rwa [train.cfg_eq, Engine.port_congr train.ports_eq])]
  refine ⟨((train.andThen (Engine.modPort_only _ _ _)).andThen (Engine.emit_only _ _ _ _)).within, ?_, ?_⟩
  · rw [Engine.emit_port, Engine.modPort_port]
  · have fits : (le 4 reason).take 14 = le 4 reason := List.take_of_length_le (by simp [Laws.le_length])
    rw [Engine.newEvents_emit _ _ _ _ _ (by rw [Engine.modPort_log, train.log_eq]), fits]

/-- One receiver error: its counter, and the mark for HYERN_FRAME_ERR. -/
theorem Engine.hyErr_one (k : Nat) (c : Ctr) : Engine.changesOnly [.ports, .counters] e (e.hyErr p k 1 c) ∧
    Engine.counted c (portSrc p) e (e.hyErr p k 1 c) ∧ ((e.hyErr p k 1 c).port p).errMoved = true := by
  rw [Engine.hyErr, if_neg Nat.one_ne_zero]
  refine ⟨((e.bumpN_only _ _ _ _).andThen (Engine.modPort_only _ _ _)).within, ?_, ?_⟩
  · exact Engine.counted_of_counters (e.counted_bump c (portSrc p)) rfl rfl
  · rw [Engine.modPort_port]

/-- A bad header check counts as such, every other bad SOP as a format error. -/
theorem Engine.hyernSopError_counts (kind : SopErr) (streaming : e.streaming p = true) (begun : (e.port p).awaitFs = false) :
    ∃ k, e.hyernSopError p kind = e.hyErr p k 1 (if kind = .badHchk then .hyernHdrErr else .hyernFmtErr) := by
  unfold Engine.hyernSopError
  rw [streaming, begun]
  cases kind with
  | badHchk => exact ⟨0, rfl⟩
  | badPtype | cutPacket | strayData | unknownBlock => exact ⟨2, rfl⟩

end

section
variable {t : Nat} {p : Fin 2} {s : State}

theorem does_sensorWriteDone_ok {room r : Bool} {g c addr data : Nat} {rest : List (Nat × Nat × Nat × Nat × Bool)}
    (run : s.eng.sys.phase = .running) (link : (s.eng.port p).link = .resetting) (wait : (s.eng.at t).rstWaited p = true)
    (window : (s.eng.port p).window = (g, c, addr, data, r) :: rest) :
    Does (.sensorWriteDone t p true room) t s fun a b => Engine.changesOnly [.ports, .pins] a b ∧
      b.pins = { a.pins with rstN := vmod a.pins.rstN p fun _ => true } ∧
      b.ports = vmod a.ports p fun q => { q with window := rest, writes := a.cfg.ctlWrite p addr data :: q.writes } := by
  refine Does.of_live (·.sensorWriteDone p true room) rfl run ?_
  rw [Engine.sensorWriteDone, if_pos (by simpa using link), Engine.initWriteDone_ok wait (by simpa using window)]
  exact ⟨((Engine.setPins_only _ _).andThen (Engine.modPort_only _ _ _)).within, rfl, rfl⟩

theorem does_sensorWriteDone_waiting {ok room : Bool} (run : s.eng.sys.phase = .running)
    (link : (s.eng.port p).link = .resetting) (wait : (s.eng.at t).rstWaited p = false) :
    Does (.sensorWriteDone t p ok room) t s fun a b => b = a := by
  refine Does.of_live (·.sensorWriteDone p ok room) rfl run ?_
  rw [Engine.sensorWriteDone, if_pos (by simpa using link), Engine.initWriteDone_waiting wait]

theorem does_sensorResetDone_ok (run : s.eng.sys.phase = .running) (link : (s.eng.port p).link = .resetting)
    (wait : (s.eng.at t).rstWaited p = true) :
    Does (.sensorResetDone t p true) t s fun a b => Engine.changesOnly [.ports, .pins] a b ∧
      (b.port p).link = .training ∧ (b.port p).trainAt = a.now ∧ (b.port p).base = a.cfg.baseVals p ∧
      b.pins.rstN = vmod a.pins.rstN p fun _ => true := by
  refine Does.of_live (·.sensorResetDone p true) rfl run ?_
  rw [Engine.sensorResetDone_ok (by simpa using link) wait, Engine.modPort_port]
  exact ⟨((Engine.setPins_only _ _).andThen (Engine.modPort_only _ _ _)).within, rfl, rfl, rfl, rfl⟩

theorem does_hyernAlign_closes {seqs blocks : List Nat} {skew : Nat} (run : s.eng.sys.phase = .running)
    (link : (s.eng.port p).link = .training) (near : skew ≤ 64) (some_ : seqs ≠ []) (ready : s.eng.lanesReady p = true)
    (zero : ∀ x ∈ seqs, x = 0) :
    Does (.hyernAlign t p seqs true blocks skew (s.eng.cfg.laneLog2 p)) t s fun a b =>
      Engine.changesOnly [.ports, .lanes, .counters, .log] a b ∧ (b.port p).link = .up ∧ (b.port p).skewMax = skew ∧
      (b.port p).alignSeq = 0 ∧ (b.port p).awaitFs = true ∧ Engine.counted .hyernTrain (portSrc p) a b ∧
      (portSrc p, .hyernTrained, []) ∈ Engine.newEvents a b := by
  refine Does.of_live (·.hyernAlign p seqs true blocks skew (s.eng.cfg.laneLog2 p)) rfl run ?_
  have ready : (s.eng.at t).lanesReady p = true := by simpa [Engine.lanesReady] using ready
  obtain ⟨only, ⟨up, skewed, aligned, awaits⟩, counted, logged⟩ := (s.eng.at t).trained_effect p skew
  rw [← Engine.at_cfg s.eng t, Engine.hyernAlign_closes (by simpa using link) ready near some_ zero]
  exact ⟨only, up, skewed, aligned, awaits, counted, logged⟩

theorem does_hyernAlign_stream {seqs blocks : List Nat} {skew ts : Nat} (run : s.eng.sys.phase = .running)
    (link : (s.eng.port p).link = .up) (near : skew ≤ 64) (some_ : seqs ≠ [])
    (next : ∀ x ∈ seqs, x = ((s.eng.port p).prevAlign + 1) % 256) (count : blocks.length = seqs.length)
    (whole : ∀ x ∈ blocks, x = 16383) :
    Does (.hyernAlign t p seqs true blocks skew ts) t s fun a b => Engine.changesOnly [.ports] a b ∧
      b.ports = vmod a.ports p fun q => { q with
        alignSeq := (q.prevAlign + 1) % 256, prevAlign := (q.prevAlign + 1) % 256, alignErrs := 0, waitAlign := false,
        skewMax := max q.skewMax skew } := by
  refine Does.of_live (·.hyernAlign p seqs true blocks skew ts) rfl run ?_
  rw [Engine.hyernAlign_stream (by simpa using link) near some_ (by simpa using next) count whole]
  exact ⟨Engine.modPort_only _ _ _, rfl⟩

theorem does_hyernSensorReset (run : s.eng.sys.phase = .running) (link : (s.eng.port p).link = .up)
    (noFrame : (s.eng.port p).frame = none) :
    Does (.hyernSensorReset t p) t s fun a b => Engine.changesOnly [.ports, .pins, .lanes, .counters, .log] a b ∧
      (b.port p).link = .training ∧ (b.port p).trainTry = 1 ∧ (b.port p).trainAt = a.now ∧
      Engine.newEvents a b = [(portSrc p, .hyernSensorReset, [])] := by
  refine Does.of_live (·.hyernSensorReset p) rfl run ?_
  exact Engine.hyernSensorReset_effect _ p (by simpa using link) (by simpa using noFrame)

theorem does_hyernTrainTimeout_last (run : s.eng.sys.phase = .running) (link : (s.eng.port p).link = .training)
    (late : (s.eng.port p).trainAt + ms (s.eng.cfg.trainMs p + 2) ≤ (s.eng.at t).now)
    (last : s.eng.cfg.trainTries p ≤ (s.eng.port p).trainTry) :
    Does (.hyernTrainTimeout t p) t s fun a b => Engine.changesOnly [.ports, .lanes, .counters, .log] a b ∧
      (b.port p).link = .failed ∧ Engine.newEvents a b = [(portSrc p, .hyernTrainFail, le 4 1)] := by
  refine Does.of_live (·.hyernTrainTimeout p) rfl run ?_
  rw [Engine.hyernTrainTimeout, if_pos (by simpa [link] using late)]
  exact Engine.trainFail_last _ p 1 (by simpa using last)

theorem does_hyernSopError {kind : SopErr} (run : s.eng.sys.phase = .running) (streaming : s.eng.streaming p = true)
    (begun : (s.eng.port p).awaitFs = false) :
    Does (.hyernSopError t p kind) t s fun a b => Engine.changesOnly [.ports, .counters] a b ∧
      Engine.counted (if kind = .badHchk then .hyernHdrErr else .hyernFmtErr) (portSrc p) a b ∧
      (b.port p).errMoved = true := by
  refine Does.of_live (·.hyernSopError p kind) rfl run ?_
  obtain ⟨k, counts⟩ := (s.eng.at t).hyernSopError_counts p kind (by simpa [Engine.streaming] using streaming)
    (by simpa using begun)
  rw [counts]
  exact Engine.hyErr_one _ p k _

end

/-- Settles O14: the reset sequence, ALIGN, and each end of a training, by their lemmas. -/
theorem sensorLinkTrains : Obligations.SensorLinkTrains := by
  unfold Obligations.SensorLinkTrains
  exact ⟨fun _ _ _ _ _ _ _ _ _ _ => does_sensorWriteDone_ok, fun _ _ _ _ _ => does_sensorWriteDone_waiting,
    fun _ _ _ => does_sensorResetDone_ok, fun _ _ _ _ _ _ => does_hyernAlign_closes,
    fun _ _ _ _ _ _ _ => does_hyernAlign_stream, fun _ _ _ => does_hyernSensorReset,
    fun _ _ _ => does_hyernTrainTimeout_last, fun _ _ _ _ => does_hyernSopError⟩

end Sys2Proof.Machine
end

section
/-! The generator of PHASE_IN (O19; R112): strobes within tolerance, and misses. -/

namespace Sys2Proof.Machine

section
variable (e : Engine)

theorem Engine.setPhaseIn_only (x : PhaseIn) : Engine.changesOnly [.phaseIn] e { e with phaseIn := x } := by
  intro p hp
  cases p with
  | phaseIn => exact absurd (by decide) hp
  | _ => rfl

theorem Engine.setProj_only (x : Proj) : Engine.changesOnly [.proj] e { e with proj := x } := by
  intro p hp
  cases p with
  | proj => exact absurd (by decide) hp
  | _ => rfl

/-- PHASE_IN is followed: the section is there, PHASE selects the input, and a project frame has begun (R112). -/
def Engine.followsPhaseIn : Bool := e.has 0x0013 && e.cfg.phaseSrc && e.proj.started

/-- What a strobe that is used leaves of the generator (R112). -/
def PhaseIn.tookStrobe (q : PhaseIn) (now code : Nat) : Prop :=
  q.lock = true ∧ q.misses = 0 ∧ q.free = false ∧ q.lastStrobe = some now ∧ q.lastCode = some code

/-- A strobe that is used locks the generator, ends the misses and is kept with its code. -/
theorem Engine.strobeUsed_effect (code : Nat) : Engine.changesOnly [.phaseIn, .proj] e (e.strobeUsed code) ∧
    (e.strobeUsed code).phaseIn.tookStrobe e.now code := by
  unfold Engine.strobeUsed
  extract_lets k q d period used
  have only : Engine.changesOnly [.phaseIn] e used := e.setPhaseIn_only _
  have took : used.phaseIn.tookStrobe e.now code := ⟨rfl, rfl, rfl, rfl, rfl⟩
  split
  · exact ⟨(only.andThen (used.setProj_only _)).within, took⟩
  · exact ⟨only.within, took⟩

/-- Outside a run no code is compared (R113). -/
theorem Engine.strobeCode_still (still : e.proj.run = false) (code : Nat) : e.strobeCode code = e := by
  rw [Engine.strobeCode, still]
  rfl

/-- A strobe within IN_TOL of its prediction, in a project frame of ordinary length or a lengthened one (R112). -/
theorem Engine.phaseInStrobe_near (follows : e.followsPhaseIn = true) (still : e.proj.run = false)
    (near : ((e.now : Int) - e.predictedStrobe).natAbs ≤ us e.cfg.inTol) (code : Nat) :
    Engine.changesOnly [.phaseIn, .proj] e (e.phaseInStrobe code) ∧ (e.phaseInStrobe code).phaseIn.tookStrobe e.now code := by
  unfold Engine.phaseInStrobe
  rw [if_neg (by simpa [Engine.followsPhaseIn] using follows), if_pos near]
  split
  · exact ⟨(e.setPhaseIn_only _).within, rfl, rfl, rfl, rfl, rfl⟩
  · rw [e.strobeCode_still still]
    exact e.strobeUsed_effect code

/-- A miss is counted, on the generator and on its counter; the IN_LOSS-th one ends the lock (R112). -/
theorem Engine.phaseInMiss_effect (follows : e.followsPhaseIn = true) :
    Engine.changesOnly [.phaseIn, .counters, .log] e e.phaseInMiss ∧ e.phaseInMiss.phaseIn.misses = e.phaseIn.misses + 1 ∧
      Engine.counted .phaseInMiss 0x0102 e e.phaseInMiss ∧
      (e.phaseIn.misses + 1 = e.cfg.inLoss → e.phaseInMiss.phaseIn.lock = false ∧ e.phaseInMiss.phaseIn.free = true ∧
        Engine.newEvents e e.phaseInMiss = [(0x0102, .phaseInLoss, [])]) ∧
      (e.phaseIn.misses + 1 ≠ e.cfg.inLoss → e.phaseInMiss.phaseIn.lock = e.phaseIn.lock ∧
        Engine.newEvents e e.phaseInMiss = []) := by
  unfold Engine.phaseInMiss
  rw [if_neg (by simpa [Engine.followsPhaseIn] using follows)]
  extract_lets q next moved missed logged
  have miss : Engine.changesOnly [.phaseIn, .counters] e missed :=
    ((e.setPhaseIn_only _).andThen (moved.bump_only _ _)).within
  have count : Engine.counted .phaseInMiss 0x0102 e missed := Engine.counted_of_counters (moved.counted_bump _ _) rfl rfl
  have gen : missed.phaseIn = moved.phaseIn := moved.bump_phaseIn _ _
  have misses : missed.phaseIn.misses = e.phaseIn.misses + 1 := by rw [gen]
  have lock : missed.phaseIn.lock = e.phaseIn.lock := by rw [gen]
  have lost : missed.phaseIn.misses = missed.cfg.inLoss ↔ e.phaseIn.misses + 1 = e.cfg.inLoss := by
    rw [misses, miss.cfg_eq]
  by_cases last : e.phaseIn.misses + 1 = e.cfg.inLoss
  · rw [if_pos (lost.2 last)]
    have events : Engine.newEvents e logged = [(0x0102, .phaseInLoss, [])] := Engine.newEvents_emit _ _ _ _ _ miss.log_eq
    exact ⟨((miss.andThen (missed.emit_only _ _ _)).andThen (logged.setPhaseIn_only _)).within, misses,
      Engine.counted_of_counters count rfl rfl, fun _ => ⟨rfl, rfl, events⟩, fun h => absurd last h⟩
  · rw [if_neg (mt lost.1 last)]
    exact ⟨miss.within, misses, count, fun h => absurd h last, fun _ => ⟨lock, Engine.newEvents_same _ _ miss.log_eq⟩⟩

end

section
variable {t : Nat} {s : State}

theorem at_followsPhaseIn (conf : s.eng.has 0x0013 = true) (input : s.eng.cfg.phaseSrc = true)
    (begun : s.eng.proj.started = true) : (s.eng.at t).followsPhaseIn = true := by
  simp [Engine.followsPhaseIn, conf, input, begun]

theorem does_phaseInStrobe {code : Nat} (hr : s.eng.sys.phase = .running) (conf : s.eng.has 0x0013 = true)
    (input : s.eng.cfg.phaseSrc = true) (begun : s.eng.proj.started = true) (still : s.eng.proj.run = false)
    (near : (((s.eng.at t).now : Int) - (s.eng.at t).predictedStrobe).natAbs ≤ us s.eng.cfg.inTol) :
    Does (.phaseInStrobe t code) t s fun a b => Engine.changesOnly [.phaseIn, .proj] a b ∧ b.phaseIn.lock = true ∧
      b.phaseIn.misses = 0 ∧ b.phaseIn.free = false ∧ b.phaseIn.lastStrobe = some a.now ∧ b.phaseIn.lastCode = some code :=
  Does.of_live (·.phaseInStrobe code) rfl hr
    ((s.eng.at t).phaseInStrobe_near (at_followsPhaseIn conf input begun) (by simpa using still) (by simpa using near) code)

theorem does_phaseInMiss (hr : s.eng.sys.phase = .running) (conf : s.eng.has 0x0013 = true)
    (input : s.eng.cfg.phaseSrc = true) (begun : s.eng.proj.started = true) :
    Does (.phaseInMiss t) t s fun a b => Engine.changesOnly [.phaseIn, .counters, .log] a b ∧
      b.phaseIn.misses = a.phaseIn.misses + 1 ∧ Engine.counted .phaseInMiss 0x0102 a b ∧
      (a.phaseIn.misses + 1 = a.cfg.inLoss → b.phaseIn.lock = false ∧ b.phaseIn.free = true ∧
        Engine.newEvents a b = [(0x0102, .phaseInLoss, [])]) ∧
      (a.phaseIn.misses + 1 ≠ a.cfg.inLoss → b.phaseIn.lock = a.phaseIn.lock ∧ Engine.newEvents a b = []) :=
  Does.of_live (·.phaseInMiss) rfl hr ((s.eng.at t).phaseInMiss_effect (at_followsPhaseIn conf input begun))

end

/-- Settles O19: a strobe within tolerance, and a miss, each by its lemma. -/
theorem phaseInFollowed : Obligations.PhaseInFollowed := by
  unfold Obligations.PhaseInFollowed
  exact ⟨fun _ _ _ => does_phaseInStrobe, fun _ _ => does_phaseInMiss⟩

end Sys2Proof.Machine
end

section
/-! The auxiliary camera and the files of calibration captures (O20; R114 to R116, R482). -/

namespace Sys2Proof.Machine

/-! The edges of VS (R115). -/

section
variable (e : Engine)

/-- A frame of the camera comes sooner after the one before it than MAX_RATE allows (R115). -/
def Engine.auxSoon : Bool :=
  match e.aux.lastVs with
  | some t => decide ((e.now - t) * e.cfg.auxMaxRate < secs 1)
  | none => false

theorem Engine.auxSoon_false (apart : ∀ v, e.aux.lastVs = some v → secs 1 ≤ (e.now - v) * e.cfg.auxMaxRate) :
    e.auxSoon = false := by
  unfold Engine.auxSoon
  split
  · next v last => exact decide_eq_false (Nat.not_lt.2 (apart v last))
  · rfl

theorem Engine.auxSoon_true {v : Nat} (last : e.aux.lastVs = some v) (soon : (e.now - v) * e.cfg.auxMaxRate < secs 1) :
    e.auxSoon = true := by
  rw [Engine.auxSoon, last]
  exact decide_eq_true soon

/-- The asserting edge takes the next AFN; one that comes too soon is dropped and counted. -/
theorem Engine.auxVs_asserting (on : e.auxOn = true) {level : Bool} (asserts : level ≠ e.cfg.auxVsLow) :
    e.auxVs level = if e.auxSoon
      then Engine.bump .auxDrop 0x0103 { e with aux := { e.aux with
        nextAfn := (e.aux.nextAfn + 1) % 4294967296, lastVs := some e.now, cur := none } }
      else { e with aux := { e.aux with
        nextAfn := (e.aux.nextAfn + 1) % 4294967296, lastVs := some e.now, cur := some (e.aux.nextAfn, e.dtb) } } := by
  have edge : ¬ (!e.auxOn || decide (level = e.cfg.auxVsLow)) = true := by simp [on, asserts]
  unfold Engine.auxVs
  rw [if_neg edge]
  extract_lets soon a begun
  have isSoon : e.auxSoon = soon := rfl
  rw [isSoon]
  clear_value soon
  cases soon with
  | true => rfl
  | false => rfl

/-- The other edge does nothing. -/
theorem Engine.auxVs_ending : e.auxVs e.cfg.auxVsLow = e := by
  rw [Engine.auxVs, if_pos (by simp)]

end

/-! The end of a frame, and the loss of the camera (R115, R116). -/

section
variable (e : Engine)

/-- Lines that are not of the size of a frame: another number of them, or one of another width (R115). -/
def Cfg.auxBadSize (c : Cfg) (lines : List (List Nat)) : Bool :=
  decide (lines.length ≠ c.auxH) || lines.any fun l => decide (l.length ≠ c.auxW)

theorem Cfg.auxBadSize_iff (c : Cfg) (lines : List (List Nat)) :
    c.auxBadSize lines = true ↔ lines.length ≠ c.auxH ∨ ∃ l ∈ lines, l.length ≠ c.auxW := by
  simp [Cfg.auxBadSize]

/-- The frame of an AFN and a stamp that some lines make, padded or cut to its size (R115). -/
def Cfg.auxFrame (c : Cfg) (afn : Nat) (stamp : Int) (lines : List (List Nat)) : AuxFrame :=
  ⟨afn, stamp, c.auxBadSize lines, fitTo (List.replicate c.auxW 0) c.auxH (lines.map (fitTo 0 c.auxW))⟩

/-- A frame completes: it is the newest one, and a wrong size is counted. -/
theorem Engine.auxFrameEnd_complete (on : e.auxOn = true) {afn : Nat} {stamp : Int} (open_ : e.aux.cur = some (afn, stamp))
    (noStats : (e.has 0x0022 && e.cfg.statsAux) = false) (clocks : List AuxClk) :
    Engine.changesOnly [.aux, .counters] e (e.auxFrameEnd clocks) ∧
      (e.auxFrameEnd clocks).aux = { e.aux with
        cur := none, newest := some (e.cfg.auxFrame afn stamp (e.cfg.auxLines clocks)), lastDone := e.now, stale := false } ∧
      (e.cfg.auxBadSize (e.cfg.auxLines clocks) = true → Engine.counted .auxSize 0x0103 e (e.auxFrameEnd clocks)) := by
  unfold Engine.auxFrameEnd
  rw [open_]
  dsimp -zeta only
  extract_lets lines w h bad frame _ done counted
  rw [if_neg (by simp [on])]
  have isBad : e.cfg.auxBadSize (e.cfg.auxLines clocks) = bad := rfl
  have only : Engine.changesOnly [.aux] e done := e.setAux_only _
  have count : Engine.changesOnly [.counters] done counted := done.changesOnly_ite _ (done.bump_only _ _)
  have noRecord : (counted.has 0x0022 && counted.cfg.statsAux) = false := by
    rwa [Engine.has, (only.andThen count).cfg_eq]
  rw [noRecord, if_neg Bool.false_ne_true]
  refine ⟨(only.andThen count).within, ?_, fun wrong => ?_⟩
  · exact (Engine.changesOnly_get count .aux rfl).symm
  · have counts : counted = done.bump .auxSize 0x0103 := if_pos (isBad ▸ wrong)
    rw [counts]
    exact Engine.counted_of_counters (done.counted_bump _ _) rfl rfl

/-- 100 ms without a complete frame are logged once (R116). -/
theorem Engine.auxLoss_due (on : e.auxOn = true) (fresh : e.aux.stale = false) (due : e.aux.lastDone + ms 100 ≤ e.now) :
    e.auxLoss = Engine.emit 0x0103 .auxLoss [] { e with aux := { e.aux with stale := true } } := by
  have late : ¬ e.now < e.aux.lastDone + ms 100 := Nat.not_lt.2 due
  rw [Engine.auxLoss, if_neg (by simp [on, fresh, late])]

/-- A calibration capture with its frames and room for them ends in its file (R482). -/
theorem Engine.calCaptureDone_written {p : Fin 2} {k : CalCap} (open_ : vget e.cluster.cal p none = some k)
    (whole : e.cfg.calFrames ≤ k.frames) :
    Engine.changesOnly [.cluster, .counters, .log] e (e.calCaptureDone p true) ∧
      vget (e.calCaptureDone p true).cluster.cal p none = none ∧
      ⟨calPath p, e.cfg.calFile p k⟩ ∈ (e.calCaptureDone p true).cluster.files ∧
      Engine.counted .calCapture 0x0383 e (e.calCaptureDone p true) ∧
      Engine.newEvents e (e.calCaptureDone p true) = [(0x0383, .calCaptureDone, [])] := by
  unfold Engine.calCaptureDone
  rw [open_]
  dsimp only
  rw [if_neg (Nat.not_lt.2 whole), if_neg (by decide)]
  generalize ended : ({ e with cluster := _ } : Engine) = done
  have only : Engine.changesOnly [.cluster] e done := ended ▸ e.setCluster_only _
  obtain ⟨report, counted, events⟩ := done.bump_emit_effect .calCapture 0x0383 .calCaptureDone []
  refine ⟨(only.andThen report).within, ?_, ?_, ?_, ?_⟩
  · rw [report.cluster_eq, ← ended]
    exact vget_vmod_same _ p.isLt _ _
  · rw [report.cluster_eq, ← ended]
    exact List.mem_append_right _ (List.mem_singleton_self _)
  · exact Engine.counted_of_counters counted only.counters_eq.symm rfl
  · rw [Engine.newEvents_congr only.log_eq.symm, events]
    rfl

end

section
variable {t : Nat} {s : State}

@[simp] theorem Engine.at_auxOn (e : Engine) (t : Nat) : (e.at t).auxOn = e.auxOn := by simp [Engine.auxOn, Engine.unitHeld]

theorem does_auxVs_starts {level : Bool} (hr : s.eng.sys.phase = .running) (on : s.eng.auxOn = true)
    (asserts : level ≠ s.eng.cfg.auxVsLow)
    (apart : ∀ v, s.eng.aux.lastVs = some v → secs 1 ≤ ((s.eng.at t).now - v) * s.eng.cfg.auxMaxRate) :
    Does (.auxVs ⟨t, level⟩) t s fun a b => Engine.changesOnly [.aux] a b ∧
      b.aux = { a.aux with
        nextAfn := (a.aux.nextAfn + 1) % 4294967296, lastVs := some a.now, cur := some (a.aux.nextAfn, a.dtb) } := by
  refine Does.of_live (·.auxVs level) rfl hr ?_
  rw [(s.eng.at t).auxVs_asserting (by simpa using on) (by simpa using asserts),
    (s.eng.at t).auxSoon_false (by simpa using apart), if_neg Bool.false_ne_true]
  exact ⟨Engine.setAux_only _ _, rfl⟩

theorem does_auxVs_dropped {level : Bool} {v : Nat} (hr : s.eng.sys.phase = .running) (on : s.eng.auxOn = true)
    (asserts : level ≠ s.eng.cfg.auxVsLow) (last : s.eng.aux.lastVs = some v)
    (soon : ((s.eng.at t).now - v) * s.eng.cfg.auxMaxRate < secs 1) :
    Does (.auxVs ⟨t, level⟩) t s fun a b => Engine.changesOnly [.aux, .counters] a b ∧ b.aux.cur = none ∧
      b.aux.nextAfn = (a.aux.nextAfn + 1) % 4294967296 ∧ Engine.counted .auxDrop 0x0103 a b := by
  refine Does.of_live (·.auxVs level) rfl hr ?_
  rw [(s.eng.at t).auxVs_asserting (by simpa using on) (by simpa using asserts),
    (s.eng.at t).auxSoon_true (by simpa using last) (by simpa using soon), if_pos rfl, Engine.bump_aux]
  exact ⟨((Engine.setAux_only _ _).andThen (Engine.bump_only _ _ _)).within, rfl, rfl,
    Engine.counted_of_counters (Engine.counted_bump _ _ _) rfl rfl⟩

theorem does_auxVs_ends {level : Bool} (ends : level = s.eng.cfg.auxVsLow) :
    Does (.auxVs ⟨t, level⟩) t s fun a b => b = a := by
  refine Does.of_run (·.whenLive (·.auxVs level)) rfl ?_
  rw [ends, ← Engine.at_cfg s.eng t, Engine.whenLive, Engine.auxVs_ending, ite_self]

theorem does_auxFrameEnd {clocks : List AuxClk} {afn : Nat} {stamp : Int} (hr : s.eng.sys.phase = .running)
    (on : s.eng.auxOn = true) (open_ : s.eng.aux.cur = some (afn, stamp))
    (noStats : (s.eng.has 0x0022 && s.eng.cfg.statsAux) = false) :
    Does (.auxFrameEnd t clocks) t s fun a b => Engine.changesOnly [.aux, .counters] a b ∧ b.aux.cur = none ∧
      b.aux.lastDone = a.now ∧ b.aux.stale = false ∧ ∃ f, b.aux.newest = some f ∧ f.afn = afn ∧ f.stamp = stamp ∧
        f.lines = fitTo (List.replicate a.cfg.auxW 0) a.cfg.auxH ((a.cfg.auxLines clocks).map (fitTo 0 a.cfg.auxW)) ∧
        (f.sizeFlag = true ↔
          (a.cfg.auxLines clocks).length ≠ a.cfg.auxH ∨ ∃ l ∈ a.cfg.auxLines clocks, l.length ≠ a.cfg.auxW) ∧
        (f.sizeFlag = true → Engine.counted .auxSize 0x0103 a b) := by
  refine Does.of_live (·.auxFrameEnd clocks) rfl hr ?_
  obtain ⟨only, aux, counts⟩ := (s.eng.at t).auxFrameEnd_complete (by simpa using on) (by simpa using open_)
    (by simpa using noStats) clocks
  rw [aux]
  exact ⟨only, rfl, rfl, rfl, _, rfl, rfl, rfl, rfl, Cfg.auxBadSize_iff _ _, counts⟩

theorem does_auxLoss (hr : s.eng.sys.phase = .running) (on : s.eng.auxOn = true) (fresh : s.eng.aux.stale = false)
    (due : s.eng.aux.lastDone + ms 100 ≤ (s.eng.at t).now) :
    Does (.auxLoss t) t s fun a b => Engine.changesOnly [.aux, .log] a b ∧ b.aux = { a.aux with stale := true } ∧
      Engine.newEvents a b = [(0x0103, .auxLoss, [])] := by
  refine Does.of_live (·.auxLoss) rfl hr ?_
  rw [(s.eng.at t).auxLoss_due (by simpa using on) (by simpa using fresh) (by simpa using due)]
  exact ⟨((Engine.setAux_only _ _).andThen (Engine.emit_only _ _ _ _)).within, rfl,
    Engine.newEvents_emit _ _ _ _ _ rfl⟩

theorem does_calCaptureDone {p : Fin 2} {k : CalCap} (hr : s.eng.sys.phase = .running)
    (open_ : vget s.eng.cluster.cal p none = some k) (whole : s.eng.cfg.calFrames ≤ k.frames) :
    Does (.calCaptureDone t p true) t s fun a b => Engine.changesOnly [.cluster, .counters, .log] a b ∧
      vget b.cluster.cal p none = none ∧ ⟨calPath p, a.cfg.calFile p k⟩ ∈ b.cluster.files ∧
      Engine.counted .calCapture 0x0383 a b ∧ Engine.newEvents a b = [(0x0383, .calCaptureDone, [])] :=
  Does.of_live (·.calCaptureDone p true) rfl hr
    ((s.eng.at t).calCaptureDone_written (by simpa using open_) (by simpa using whole))

end

/-- Settles O20: each edge of VS, the end of a frame, the loss, and the file of a capture, by their lemmas. -/
theorem auxiliaryCameraFrames : Obligations.AuxiliaryCameraFrames := by
  unfold Obligations.AuxiliaryCameraFrames
  exact ⟨fun _ _ _ => does_auxVs_starts, fun _ _ _ => does_auxVs_ends, fun _ _ _ _ => does_auxVs_dropped,
    fun _ _ _ _ _ => does_auxFrameEnd, fun _ _ => does_auxLoss, fun _ _ _ _ => does_calCaptureDone⟩

end Sys2Proof.Machine
end

section
/-! Scene controls that are targeted at a frame (O21; R104, R161, R179, R465, R470): white balance, noise strength, LUT selection
and profiles. -/

namespace Sys2Proof.Machine

/-! A request that is received and accepted: its answer, its change, and where the change lands. -/

section
variable (e : Engine)

/-- Receiving a request changes the control state and the endpoint alone (R457). -/
theorem Engine.received_with (h : MsgHdr) (ty : Nat) : ∃ c p, e.received h ty = { e with ctl := c, ep := p } := by
  have room : ∃ x, e.makeRoom h.client = { e with ctl := x } := by
    unfold Engine.makeRoom
    split
    · split
      · split
        · exact ⟨_, rfl⟩
        · exact ⟨_, rfl⟩
      · exact ⟨_, rfl⟩
    · exact ⟨_, rfl⟩
  obtain ⟨x, made⟩ := room
  unfold Engine.received Engine.heard Engine.takeControl
  rw [made]
  split
  · exact ⟨_, _, rfl⟩
  · exact ⟨_, _, rfl⟩

/-- What reads neither of them reads the same once a request has been received. -/
theorem Engine.received_keeps {β : Type} (h : MsgHdr) (ty : Nat) (g : Engine → β)
    (reads : ∀ c p, g { e with ctl := c, ep := p } = g e) : g (e.received h ty) = g e := by
  obtain ⟨c, p, received⟩ := e.received_with h ty
  rw [received, reads]

/-- A control that is accepted is answered OK; beside the answer and LANDED only its change is made (R465). -/
theorem Engine.accepted_lands {ps : List Part} {f : Engine → Engine} (h : MsgHdr) (ty c port : Nat) (late : Bool)
    (only : ∀ a, Engine.changesOnly ps a (f a)) (apart : decide (Part.ctl ∈ ps) = false := by rfl) :
    ((f ((e.received h ty).ok h ty)).landed h.client ty h.seq c port late false).replied h ty .ok .none [] ∧
      Engine.changesOnly (ps ++ [.ctl, .ep, .counters]) e
        ((f ((e.received h ty).ok h ty)).landed h.client ty h.seq c port late false) := by
  have answered := (e.received h ty).ok_only h ty
  have changed := only ((e.received h ty).ok h ty)
  have told := (f ((e.received h ty).ok h ty)).landed_only h.client ty h.seq c port late false
  refine ⟨Engine.replied_congr ((e.received h ty).replied_ok h ty) ?_, ?_⟩
  · exact (Engine.notify_sent _ _ _ _).trans (congrArg Control.sent (changed.ctl_eq apart))
  · refine Engine.changesOnly_mono ((((e.received_only h ty).andThen answered).andThen changed).andThen told) fun p hp => ?_
    simp only [List.mem_append, List.mem_cons, List.not_mem_nil, or_false] at hp ⊢
    tauto

/-- The refusal of a control whose target has no run (R465). -/
theorem Engine.refused_noRun (h : MsgHdr) (ty : Nat) :
    ((e.received h ty).refuse h ty .state .noRun).replied h ty .state .noRun [] ∧
      Engine.changesOnly [.ctl, .ep, .counters] e ((e.received h ty).refuse h ty .state .noRun) :=
  ⟨Engine.replied_refuse _ _ _ _ _, e.received_then_only h ty (Engine.refuse_only _ _ _ _ _)⟩

/-- Where a scene control lands: in a run by R104, outside one on the first frame of the next (R465). -/
def Engine.sceneLand (tg : Target) : Nat × Bool := if e.proj.run then e.landing tg else (0, false)

theorem Engine.sceneLand_cfn (tg : Target) : (e.sceneLand tg).1 = if e.proj.run then (e.landing tg).1 else 0 := by
  rw [Engine.sceneLand, apply_ite Prod.fst]

theorem Engine.received_sceneLand (h : MsgHdr) (ty : Nat) (tg : Target) :
    (e.received h ty).sceneLand tg = e.sceneLand tg :=
  e.received_keeps h ty (·.sceneLand tg) fun _ _ => rfl

/-- In a run, or with ASAP, a control is not refused for want of a run (R465). -/
theorem Engine.not_noRun {tg : Target} (soon : (e.proj.run || tg.asap) = true) : ¬ (!e.proj.run && !tg.asap) = true := by
  rw [← Bool.not_or, soon]
  decide

end

/-! The rules of each control, when none refuses it. -/

section
variable (e : Engine)

theorem Engine.setMd_only (x : Meta) : Engine.changesOnly [.md] e { e with md := x } := by
  intro p hp
  cases p with
  | md => exact absurd (by decide) hp
  | _ => rfl

theorem Engine.addWb_only (p : Nat) (x : WbChange) : Engine.changesOnly [.colour] e (e.addWb p x) := e.setColour_only _
theorem Engine.addTnr_only (x : TnrChange) : Engine.changesOnly [.raw] e (e.addTnr x) := e.setRaw_only _
theorem Engine.addSel_only (b : Nat) (x : LutSel) : Engine.changesOnly [.colour] e (e.addSel b x) := e.setColour_only _
theorem Engine.addChange_only (p : Nat) (x : Change) : Engine.changesOnly [.ports] e (e.addChange p x) := e.modPort_only _ _

variable {e} {h : MsgHdr} {tg : Target}

theorem Engine.wbIso_accepted {cct iso : Nat} {tint : Int} (okTg : targetOk tg true false = true) (lo : -128 ≤ tint)
    (hi : tint ≤ 127) (ok : e.wbRefusal tg.port cct tint iso = none) (soon : (e.proj.run || tg.asap) = true) :
    e.wbIso h tg cct tint iso = ((e.ok h 0x0202).addWb tg.port
      ⟨(e.sceneLand tg).1, cct, tint, iso, h.client, 0x0202, h.seq⟩).landed
        h.client 0x0202 h.seq (e.sceneLand tg).1 tg.port (e.sceneLand tg).2 false := by
  have formed : ¬ (!targetOk tg true false || decide (tint < -128 ∨ 127 < tint)) = true := by
    simpa [okTg] using ⟨lo, hi⟩
  unfold Engine.wbIso
  rw [if_neg formed, ok]
  dsimp only
  rw [if_neg (e.not_noRun soon)]
  rfl

theorem Engine.tnrStrength_accepted {str : Nat} (okTg : targetOk tg false false = true) (range : str ≤ 240)
    (conf : e.has 0x0020 = true) (soon : (e.proj.run || tg.asap) = true) :
    e.tnrStrength h tg str = ((e.ok h 0x0205).addTnr
      ⟨(e.sceneLand tg).1, str, h.client, 0x0205, h.seq⟩).landed
        h.client 0x0205 h.seq (e.sceneLand tg).1 0 (e.sceneLand tg).2 false := by
  have formed : ¬ (!targetOk tg false false || decide (240 < str)) = true := by simpa [okTg] using range
  unfold Engine.tnrStrength
  rw [if_neg formed, if_neg (by simp [conf]), if_neg (e.not_noRun soon)]
  rfl

theorem Engine.tnrStrength_noRun {str : Nat} (okTg : targetOk tg false false = true) (range : str ≤ 240)
    (conf : e.has 0x0020 = true) (still : e.proj.run = false) (timed : tg.asap = false) :
    e.tnrStrength h tg str = e.refuse h 0x0205 .state .noRun := by
  have formed : ¬ (!targetOk tg false false || decide (240 < str)) = true := by simpa [okTg] using range
  rw [Engine.tnrStrength, if_neg formed, if_neg (by simp [conf]), if_pos (by simp [still, timed])]

/-- A slot is refused by the configuration and the LUT store alone (R178). -/
theorem Engine.selectRefusal_congr {a b : Engine} (cfg : a.cfg = b.cfg) (colour : a.colour = b.colour) (k slot : Nat) :
    a.selectRefusal k slot = b.selectRefusal k slot := by
  rw [Engine.selectRefusal, Engine.selectRefusal, Engine.storeFits_congr colour, cfg, colour]

/-- A mask with one of the six bits names that branch, with its slot. -/
theorem namedBranches_one (k : Fin 6) (slots : List Nat) : namedBranches (2 ^ k.val) slots = [(k.val, slots.getD k 31)] := by
  have one : ∀ k : Fin 6, (List.range 6).filter ((2 ^ k.val).testBit ·) = [k.val] := by decide
  rw [namedBranches, one]
  rfl

theorem Engine.lutSelect_accepted {k : Fin 6} {slots : List Nat} (asap : tg.asap = true)
    (okTg : targetOk tg false false = true) (six : slots.length = 6) (codes : slots.all slotCode = true)
    (ok : e.selectRefusal k (slots.getD k 31) = none) (still : e.proj.run = false) :
    e.lutSelect h tg (2 ^ k.val) slots = ((e.ok h 0x0203).addSel k
      ⟨slots.getD k 31, none, e.now + ms 2, h.client, 0x0203, h.seq⟩).landed
        h.client 0x0203 h.seq 0xFFFFFFFF 0 false false := by
  have mask : ∀ k : Fin 6, ¬ 63 < 2 ^ k.val := by decide
  unfold Engine.lutSelect
  dsimp only
  rw [if_neg (by simp [okTg, mask, six, codes]), namedBranches_one, List.findSome?_singleton, ok]
  dsimp only
  rw [still, if_neg Bool.false_ne_true, if_neg (by simp [asap]), List.foldl_cons, List.foldl_nil, Engine.ok_now]

/-- A profile adds a change for each of its parts, and itself, for the frame on which it lands (R470). -/
theorem Engine.addProfile_effect (h : MsgHdr) (n mask c : Nat) :
    Engine.changesOnly [.ports, .colour, .raw, .md] e (e.addProfile h n mask c) ∧
      (e.addProfile h n mask c).md = { e.md with profs := e.md.profs ++ [⟨c, n, h.client, h.seq⟩] } := by
  unfold Engine.addProfile
  extract_lets cf ports sensors balanced selected strength
  have sens : Engine.changesOnly [.ports] e sensors := by
    refine Engine.changesOnly_foldl _ (fun a p => ?_) ports e
    split
    · exact Engine.changesOnly_refl _ a
    · exact a.addChange_only _ _
  have bal : Engine.changesOnly [.colour] sensors balanced :=
    Engine.changesOnly_foldl _ (fun a p => a.changesOnly_ite _ (a.addWb_only _ _)) ports sensors
  have sel : Engine.changesOnly [.colour] balanced selected :=
    Engine.changesOnly_foldl _ (fun a q => a.addSel_only _ _) (cf.profLuts n) balanced
  have str : Engine.changesOnly [.raw] selected strength := selected.changesOnly_ite _ (selected.addTnr_only _)
  have parts := ((sens.andThen bal).andThen sel).andThen str
  exact ⟨(parts.andThen (Engine.setMd_only _ _)).within,
    congrArg (fun m : Meta => { m with profs := m.profs ++ [(⟨c, n, h.client, h.seq⟩ : ProfSel)] }) parts.md_eq⟩

theorem Engine.profileSelect_accepted {n : Nat} (okTg : targetOk tg false true = true) (known : n < e.cf 0x00D0 0 5 0)
    (ok : e.profileRefusal n tg.phaseMask = none) (soon : (e.proj.run || tg.asap) = true) :
    e.profileSelect h tg n = ((e.ok h 0x0204).addProfile h n tg.phaseMask (e.profileLand n tg).1).landed
      h.client 0x0204 h.seq (e.profileLand n tg).1 0 (e.profileLand n tg).2 false := by
  unfold Engine.profileSelect
  rw [if_neg (by simp [okTg]), if_neg (Nat.not_le.2 known), ok]
  dsimp only
  rw [if_neg (e.not_noRun soon)]

end

section
variable {t : Nat} {h : MsgHdr} {s : State} {tg : Target}

theorem does_wbIso {cct iso : Nat} {tint : Int} (hg : s.takes t h 0x0202) (okTg : targetOk tg true false = true)
    (lo : -128 ≤ tint) (hi : tint ≤ 127) (ok : s.eng.wbRefusal tg.port cct tint iso = none)
    (soon : (s.eng.proj.run || tg.asap) = true) :
    Does (.wbIso t h tg cct tint iso) t s fun a b => b.replied h 0x0202 .ok .none [] ∧
      Engine.changesOnly [.colour, .ctl, .ep, .counters] a b ∧
      b.colour = { a.colour with ports := vmod a.colour.ports tg.port fun q => { q with pend := q.pend ++
        [⟨if a.proj.run then (a.landing tg).1 else 0, cct, tint, iso, h.client, 0x0202, h.seq⟩] } } := by
  refine Does.of_request h 0x0202 (·.wbIso h tg cct tint iso) rfl hg ?_
  have ok : ((s.eng.at t).received h 0x0202).wbRefusal tg.port cct tint iso = none := by
    simpa [Engine.wbRefusal, Engine.has] using ok
  rw [Engine.wbIso_accepted okTg lo hi ok (by simpa using soon), Engine.received_sceneLand]
  obtain ⟨answered, only⟩ := (s.eng.at t).accepted_lands h 0x0202 ((s.eng.at t).sceneLand tg).1 tg.port
    ((s.eng.at t).sceneLand tg).2
    (Engine.addWb_only · tg.port ⟨((s.eng.at t).sceneLand tg).1, cct, tint, iso, h.client, 0x0202, h.seq⟩)
  refine ⟨answered, only, ?_⟩
  rw [Engine.landed_colour, Engine.addWb, Engine.ok_colour, Engine.received_colour, Engine.sceneLand_cfn]

theorem does_tnrStrength {str : Nat} (hg : s.takes t h 0x0205) (okTg : targetOk tg false false = true) (range : str ≤ 240)
    (conf : s.eng.has 0x0020 = true) (soon : (s.eng.proj.run || tg.asap) = true) :
    Does (.tnrStrength t h tg str) t s fun a b => b.replied h 0x0205 .ok .none [] ∧
      Engine.changesOnly [.raw, .ctl, .ep, .counters] a b ∧
      b.raw = { a.raw with tnrPend := a.raw.tnrPend ++
        [⟨if a.proj.run then (a.landing tg).1 else 0, str, h.client, 0x0205, h.seq⟩] } := by
  refine Does.of_request h 0x0205 (·.tnrStrength h tg str) rfl hg ?_
  rw [Engine.tnrStrength_accepted okTg range (by simpa [Engine.has] using conf) (by simpa using soon),
    Engine.received_sceneLand]
  obtain ⟨answered, only⟩ := (s.eng.at t).accepted_lands h 0x0205 ((s.eng.at t).sceneLand tg).1 0
    ((s.eng.at t).sceneLand tg).2 (Engine.addTnr_only · ⟨((s.eng.at t).sceneLand tg).1, str, h.client, 0x0205, h.seq⟩)
  refine ⟨answered, only, ?_⟩
  rw [Engine.landed_raw, Engine.addTnr, Engine.ok_raw, Engine.received_raw, Engine.sceneLand_cfn]

theorem does_tnrStrength_noRun {str : Nat} (hg : s.takes t h 0x0205) (okTg : targetOk tg false false = true)
    (range : str ≤ 240) (conf : s.eng.has 0x0020 = true) (still : s.eng.proj.run = false) (timed : tg.asap = false) :
    Does (.tnrStrength t h tg str) t s fun a b => b.replied h 0x0205 .state .noRun [] ∧
      Engine.changesOnly [.ctl, .ep, .counters] a b := by
  refine Does.of_request h 0x0205 (·.tnrStrength h tg str) rfl hg ?_
  rw [Engine.tnrStrength_noRun okTg range (by simpa [Engine.has] using conf) (by simpa using still) timed]
  exact Engine.refused_noRun _ h 0x0205

theorem does_lutSelect {k : Fin 6} {slots : List Nat} (hg : s.takes t h 0x0203) (asap : tg.asap = true)
    (okTg : targetOk tg false false = true) (six : slots.length = 6) (codes : slots.all slotCode = true)
    (ok : s.eng.selectRefusal k (slots.getD k 31) = none) (still : s.eng.proj.run = false) :
    Does (.lutSelect t h tg (2 ^ k.val) slots) t s fun a b => b.replied h 0x0203 .ok .none [] ∧
      Engine.changesOnly [.colour, .ctl, .ep, .counters] a b ∧
      b.colour = { a.colour with branches := vmod a.colour.branches k fun q => { q with sels := q.sels ++
        [⟨slots.getD k 31, none, a.now + ms 2, h.client, 0x0203, h.seq⟩] } } := by
  refine Does.of_request h 0x0203 (·.lutSelect h tg (2 ^ k.val) slots) rfl hg ?_
  have ok : ((s.eng.at t).received h 0x0203).selectRefusal k (slots.getD k 31) = none :=
    (Engine.selectRefusal_congr (by simp) (by simp) _ _).trans ok
  rw [Engine.lutSelect_accepted asap okTg six codes ok (by simpa using still), Engine.received_now]
  obtain ⟨answered, only⟩ := (s.eng.at t).accepted_lands h 0x0203 0xFFFFFFFF 0 false
    (Engine.addSel_only · k ⟨slots.getD k 31, none, (s.eng.at t).now + ms 2, h.client, 0x0203, h.seq⟩)
  refine ⟨answered, only, ?_⟩
  rw [Engine.landed_colour, Engine.addSel, Engine.ok_colour, Engine.received_colour]

theorem does_profileSelect {n : Nat} (hg : s.takes t h 0x0204) (okTg : targetOk tg false true = true)
    (known : n < s.eng.cf 0x00D0 0 5 0) (ok : (s.eng.at t).profileRefusal n tg.phaseMask = none)
    (soon : (s.eng.proj.run || tg.asap) = true) :
    Does (.profileSelect t h tg n) t s fun a b => b.replied h 0x0204 .ok .none [] ∧
      Engine.changesOnly [.ports, .colour, .raw, .md, .ctl, .ep, .counters] a b ∧
      b.md = { a.md with profs := a.md.profs ++ [⟨(a.profileLand n tg).1, n, h.client, h.seq⟩] } := by
  refine Does.of_request h 0x0204 (·.profileSelect h tg n) rfl hg ?_
  have land : ((s.eng.at t).received h 0x0204).profileLand n tg = (s.eng.at t).profileLand n tg :=
    Engine.received_keeps _ h 0x0204 (·.profileLand n tg) fun _ _ => rfl
  have refusal : ((s.eng.at t).received h 0x0204).profileRefusal n tg.phaseMask = (s.eng.at t).profileRefusal n tg.phaseMask :=
    Engine.received_keeps _ h 0x0204 (·.profileRefusal n tg.phaseMask) fun _ _ => rfl
  rw [Engine.profileSelect_accepted okTg (by simpa [Engine.cf] using known) (refusal.trans ok) (by simpa using soon), land]
  have added := fun a : Engine => a.addProfile_effect h n tg.phaseMask ((s.eng.at t).profileLand n tg).1
  obtain ⟨answered, only⟩ := (s.eng.at t).accepted_lands h 0x0204 ((s.eng.at t).profileLand n tg).1 0
    ((s.eng.at t).profileLand n tg).2 fun a => (added a).1
  refine ⟨answered, only, ?_⟩
  rw [Engine.landed_md, (added _).2, Engine.ok_md, Engine.received_md]

end

/-- Settles O21: each control that is accepted, and one without its run, by their lemmas. -/
theorem sceneControlsLand : Obligations.SceneControlsLand := by
  unfold Obligations.SceneControlsLand
  exact ⟨fun _ _ _ _ _ _ _ => does_wbIso, fun _ _ _ _ _ => does_tnrStrength, fun _ _ _ _ _ => does_tnrStrength_noRun,
    fun _ _ _ _ _ _ => does_lutSelect, fun _ _ _ _ _ => does_profileSelect⟩

end Sys2Proof.Machine
end

section
/-! Settings of the sensors and their write windows (O18; R98, R101, R102, R465). -/

namespace Sys2Proof.Machine

/-! SETTINGS (R101, R465). -/

section
variable {e : Engine} {h : MsgHdr} {tg : Target} {groups gain rmode expNs ro co : Nat}

/-- Where a change lands: as soon as it can with ASAP, and otherwise by its target (R101, R465). -/
def Engine.changeLand (e : Engine) (tg : Target) (groups : Nat) : Nat × Bool :=
  e.settingsLand tg.port tg.phaseMask groups (if tg.asap then none else some tg.target)

theorem Engine.received_settingsRefusal (e : Engine) (h : MsgHdr) (ty p mask groups gain mode : Nat) :
    (e.received h ty).settingsRefusal p mask groups gain mode = e.settingsRefusal p mask groups gain mode :=
  e.received_keeps h ty (·.settingsRefusal p mask groups gain mode) fun _ _ => rfl

theorem Engine.settings_accepted (okTg : targetOk tg true true = true) (range : groups ≤ 15)
    (ok : e.settingsRefusal tg.port tg.phaseMask groups gain rmode = none) (soon : (e.proj.run || tg.asap) = true) :
    e.settings h tg groups gain rmode expNs ro co = ((e.ok h 0x0201).addChange tg.port
      ⟨(e.changeLand tg groups).1, tg.phaseMask, groups, ⟨expNs, gain, rmode, ro, co⟩, h.client, 0x0201, h.seq⟩).landed
        h.client 0x0201 h.seq (e.changeLand tg groups).1 tg.port (e.changeLand tg groups).2 false := by
  have formed : ¬ (!targetOk tg true true || decide (15 < groups)) = true := by simpa [okTg] using range
  unfold Engine.settings
  rw [if_neg formed, ok]
  dsimp only
  rw [if_neg (e.not_noRun soon)]
  rfl

theorem Engine.settings_noRun (okTg : targetOk tg true true = true) (range : groups ≤ 15)
    (ok : e.settingsRefusal tg.port tg.phaseMask groups gain rmode = none) (still : e.proj.run = false)
    (timed : tg.asap = false) :
    e.settings h tg groups gain rmode expNs ro co = e.refuse h 0x0201 .state .noRun := by
  have formed : ¬ (!targetOk tg true true || decide (15 < groups)) = true := by simpa [okTg] using range
  rw [Engine.settings, if_neg formed, ok]
  dsimp only
  rw [if_pos (by simp [still, timed])]

/-! WRITE_WINDOW_START and WRITE_LIST_DEADLINE (R98, R101, R102). -/

variable {p : Fin 2}

/-- A port takes part in the run and has a write window (R98). -/
def Engine.writesIn (e : Engine) (p : Nat) : Prop :=
  e.proj.run = true ∧ (e.port p).joined = true ∧ e.cfg.winLen p ≠ 0

theorem Engine.writeWindowStart_complete (writes : e.writesIn p) (complete : (e.port p).listOk = true) :
    e.writeWindowStart p =
      e.modPort p fun q => { q with window := [0, 1, 2, 3].flatMap (e.groupWrites p (e.windowNear p 0)) } := by
  obtain ⟨run, joined, window⟩ := writes
  rw [Engine.writeWindowStart, if_neg (by simp [run, joined, window]), if_pos complete]

theorem Engine.writeWindowStart_missed (writes : e.writesIn p) (missed : (e.port p).listOk = false) :
    e.writeWindowStart p = e.modPort p fun q => { q with listOk := true, window := [] } := by
  obtain ⟨run, joined, window⟩ := writes
  rw [Engine.writeWindowStart, if_neg (by simp [run, joined, window]), if_neg (by simp [missed])]

theorem Engine.writeListDeadline_complete (p : Nat) : e.writeListDeadline p true = e := by
  rw [Engine.writeListDeadline, if_pos (Bool.or_true _)]

/-- A list that is not complete is reported once, and is not written; the changes that land again are told (R102). -/
theorem Engine.writeListDeadline_missed (writes : e.writesIn p) :
    Engine.changesOnly [.ports, .ctl, .ep, .counters, .cluster, .log] e (e.writeListDeadline p false) ∧
      ((e.writeListDeadline p false).port p).listOk = false ∧
      Engine.newEvents e (e.writeListDeadline p false) =
        [(portSrc p, .fwOverrun, le 1 1 ++ le 1 1 ++ le 4 (e.windowNear p (us 250)) ++ le 1 p)] := by
  obtain ⟨run, joined, window⟩ := writes
  unfold Engine.writeListDeadline
  rw [if_neg (by simp [run, joined, window])]
  extract_lets w logged moved marked
  have log : Engine.changesOnly [.counters, .cluster, .log] e logged := e.fwOverrun_only _ _ _ _ _
  have mark : Engine.changesOnly [.ports] logged marked := logged.modPort_only _ _
  have told := Engine.changesOnly_foldl (ps := [.ctl, .ep, .counters])
    (fun (e : Engine) (n : Client × Nat × Nat × Nat) => e.landed n.1 n.2.1 n.2.2.1 n.2.2.2 p false true)
    (fun e _ => e.landed_only _ _ _ _ _ _ _) (moved.flatMap (·.2)) marked
  have after := mark.andThen told
  refine ⟨(log.andThen after).within, ?_, ?_⟩
  · rw [Engine.port_congr told.ports_eq, Engine.modPort_port]
  · rw [Engine.newEvents_of_log _ after.log_eq]
    exact e.fwOverrun_events rfl _ _ _ _ _

end

section
variable {t : Nat} {h : MsgHdr} {s : State} {tg : Target} {groups gain rmode expNs ro co : Nat} {p : Fin 2}

theorem does_settings (hg : s.takes t h 0x0201) (okTg : targetOk tg true true = true) (range : groups ≤ 15)
    (ok : (s.eng.at t).settingsRefusal tg.port tg.phaseMask groups gain rmode = none)
    (soon : (s.eng.proj.run || tg.asap) = true) :
    Does (.settings t h tg groups gain rmode expNs ro co) t s fun a b => b.replied h 0x0201 .ok .none [] ∧
      Engine.changesOnly [.ports, .ctl, .ep, .counters] a b ∧
      b.ports = vmod a.ports tg.port fun q => { q with changes := q.changes ++
        [⟨(a.settingsLand tg.port tg.phaseMask groups (if tg.asap then none else some tg.target)).1, tg.phaseMask, groups,
          ⟨expNs, gain, rmode, ro, co⟩, h.client, 0x0201, h.seq⟩] } := by
  refine Does.of_request h 0x0201 (·.settings h tg groups gain rmode expNs ro co) rfl hg ?_
  have land : ((s.eng.at t).received h 0x0201).changeLand tg groups = (s.eng.at t).changeLand tg groups :=
    Engine.received_keeps _ h 0x0201 (·.changeLand tg groups) fun _ _ => rfl
  rw [Engine.settings_accepted okTg range ((Engine.received_settingsRefusal _ _ _ _ _ _ _ _).trans ok)
    (by simpa using soon), land]
  obtain ⟨answered, only⟩ := (s.eng.at t).accepted_lands h 0x0201 ((s.eng.at t).changeLand tg groups).1 tg.port
    ((s.eng.at t).changeLand tg groups).2 (Engine.addChange_only · tg.port ⟨((s.eng.at t).changeLand tg groups).1,
      tg.phaseMask, groups, ⟨expNs, gain, rmode, ro, co⟩, h.client, 0x0201, h.seq⟩)
  refine ⟨answered, only, ?_⟩
  rw [Engine.landed_ports, Engine.addChange, Engine.modPort, Engine.ok_ports, Engine.received_ports]
  rfl

theorem does_settings_noRun (hg : s.takes t h 0x0201) (okTg : targetOk tg true true = true) (range : groups ≤ 15)
    (ok : (s.eng.at t).settingsRefusal tg.port tg.phaseMask groups gain rmode = none) (still : s.eng.proj.run = false)
    (timed : tg.asap = false) :
    Does (.settings t h tg groups gain rmode expNs ro co) t s fun a b => b.replied h 0x0201 .state .noRun [] ∧
      Engine.changesOnly [.ctl, .ep, .counters] a b := by
  refine Does.of_request h 0x0201 (·.settings h tg groups gain rmode expNs ro co) rfl hg ?_
  rw [Engine.settings_noRun okTg range ((Engine.received_settingsRefusal _ _ _ _ _ _ _ _).trans ok)
    (by simpa using still) timed]
  exact Engine.refused_noRun _ h 0x0201

theorem at_writesIn (run : s.eng.proj.run = true) (joined : (s.eng.port p).joined = true) (window : s.eng.cfg.winLen p ≠ 0) :
    (s.eng.at t).writesIn p := ⟨by simpa using run, by simpa using joined, by simpa using window⟩

theorem does_writeWindowStart_complete (hr : s.eng.sys.phase = .running) (run : s.eng.proj.run = true)
    (joined : (s.eng.port p).joined = true) (window : s.eng.cfg.winLen p ≠ 0) (complete : (s.eng.port p).listOk = true) :
    Does (.writeWindowStart t p) t s fun a b => Engine.changesOnly [.ports] a b ∧
      b.ports = vmod a.ports p fun q => { q with window := [0, 1, 2, 3].flatMap (a.groupWrites p (a.windowNear p 0)) } := by
  refine Does.of_live (·.writeWindowStart p) rfl hr ?_
  rw [Engine.writeWindowStart_complete (at_writesIn run joined window) (by simpa using complete)]
  exact ⟨Engine.modPort_only _ _ _, rfl⟩

theorem does_writeWindowStart_missed (hr : s.eng.sys.phase = .running) (run : s.eng.proj.run = true)
    (joined : (s.eng.port p).joined = true) (window : s.eng.cfg.winLen p ≠ 0) (missed : (s.eng.port p).listOk = false) :
    Does (.writeWindowStart t p) t s fun a b => Engine.changesOnly [.ports] a b ∧
      b.ports = vmod a.ports p fun q => { q with listOk := true, window := [] } := by
  refine Does.of_live (·.writeWindowStart p) rfl hr ?_
  rw [Engine.writeWindowStart_missed (at_writesIn run joined window) (by simpa using missed)]
  exact ⟨Engine.modPort_only _ _ _, rfl⟩

theorem does_writeListDeadline_missed (hr : s.eng.sys.phase = .running) (run : s.eng.proj.run = true)
    (joined : (s.eng.port p).joined = true) (window : s.eng.cfg.winLen p ≠ 0) :
    Does (.writeListDeadline t p false) t s fun a b =>
      Engine.changesOnly [.ports, .ctl, .ep, .counters, .cluster, .log] a b ∧ (b.port p).listOk = false ∧
      Engine.newEvents a b = [(portSrc p, .fwOverrun, le 1 1 ++ le 1 1 ++ le 4 (a.windowNear p (us 250)) ++ le 1 p)] :=
  Does.of_live (·.writeListDeadline p false) rfl hr (Engine.writeListDeadline_missed (at_writesIn run joined window))

theorem does_writeListDeadline_complete (hr : s.eng.sys.phase = .running) :
    Does (.writeListDeadline t p true) t s fun a b => b = a :=
  Does.of_live (·.writeListDeadline p true) rfl hr (Engine.writeListDeadline_complete _)

end

/-- Settles O18: SETTINGS accepted and without its run, the window of a list and of a missed one, and the deadline. -/
theorem sensorSettingsScheduled : Obligations.SensorSettingsScheduled := by
  unfold Obligations.SensorSettingsScheduled
  exact ⟨fun _ _ _ _ _ _ _ _ _ _ => does_settings, fun _ _ _ _ _ _ _ _ _ _ => does_settings_noRun,
    fun _ _ _ => does_writeWindowStart_complete, fun _ _ _ => does_writeWindowStart_missed,
    fun _ _ _ => does_writeListDeadline_missed, fun _ _ _ => does_writeListDeadline_complete⟩

end Sys2Proof.Machine
end

section
/-! The project timing generator (O15; R87 to R90, R108, R111): slots, triggers and the project frame. -/

namespace Sys2Proof.Machine

/-! What the start of a slot does by itself (R87, R111, R117). -/

section
variable (e : Engine)

/-- What two changes of the ports, one for each, make of a port: its own change, of the port as it was. -/
theorem Engine.eachPort_port {P : Port → Prop} {f : Nat → Engine → Engine} (p : Fin 2)
    (only : ∀ q a, Engine.changesOnly [.ports] a (f q a)) (others : ∀ (q : Nat) a, q ≠ p → (f q a).port p = a.port p)
    (own : ∀ a, Engine.changesOnly [.ports] e a → a.port p = e.port p → P ((f p a).port p)) :
    P ((f 1 (f 0 e)).port p) := by
  match p with
  | 0 =>
    rw [others 1 _ (by decide)]
    exact own e (Engine.changesOnly_refl _ e) rfl
  | 1 => exact own (f 0 e) (only 0 e) (others 0 e (by decide))

/-- A change of one port leaves the other. -/
theorem Engine.modPort_port_ne {q p : Nat} (h : q ≠ p) (f : Port → Port) : (e.modPort q f).port p = e.port p :=
  vget_vmod_ne e.ports h f _

theorem Engine.phaseOut_only (p : Nat) : Engine.changesOnly [.pins] e (e.phaseOut p) :=
  e.changesOnly_ite _ (e.setPins_only _)

/-- PHASE_OUT carries the code with its strobe (R111). -/
theorem Engine.phaseOut_pins (p : Nat) (conf : e.has 0x0013 = true) (on : e.cfg.phaseOutEn = true)
    (awake : e.clk.classV = false) : (e.phaseOut p).pins =
      { e.pins with phaseOut := p, phaseStb := e.pins.phaseStb + 1, stbAt := some e.now } := by
  rw [Engine.phaseOut, if_pos (by simp [conf, on, awake])]

theorem Engine.phaseNow_only (c : Nat) : Engine.changesOnly [.ports] e (e.phaseNow c) := by
  have one (p : Nat) (a : Engine) : Engine.changesOnly [.ports] a
      (if a.cfg.hasPort p then a.modPort p fun q => { q with phaseNow := a.cfg.phaseOf c } else a) :=
    a.changesOnly_ite _ (a.modPort_only _ _)
  exact Engine.changesOnly_trans (one 0 e) (one 1 _)

/-- PHASE_NOW of a configured port is the p of the slot, and the port takes part in a run as before (R111). -/
theorem Engine.phaseNow_port (c : Nat) (p : Fin 2) :
    ((e.phaseNow c).port p).joined = (e.port p).joined ∧
      (e.cfg.hasPort p = true → ((e.phaseNow c).port p).phaseNow = e.cfg.phaseOf c) := by
  unfold Engine.phaseNow
  extract_lets one
  refine e.eachPort_port
    (P := fun q => q.joined = (e.port p).joined ∧ (e.cfg.hasPort p = true → q.phaseNow = e.cfg.phaseOf c)) p
    (fun q a => a.changesOnly_ite _ (a.modPort_only _ _)) (fun q a hq => ?_) fun a same port => ?_
  · unfold one
    split
    · exact a.modPort_port_ne hq _
    · rfl
  · unfold one
    rw [same.cfg_eq]
    split
    · rw [Engine.modPort_port, port]
      exact ⟨rfl, fun _ => rfl⟩
    · next absent => exact ⟨congrArg Port.joined port, fun conf => absurd conf absent⟩

theorem Engine.heldRepeats_only (c ph : Nat) : Engine.changesOnly [.outs] e (e.heldRepeats c ph) :=
  Engine.changesOnly_foldl _ (fun a _ => a.changesOnly_ite _ (a.branchSends_only _ _)) _ e

/-- Where no decoded picture waits, none enters (R212). -/
theorem Engine.playNext_idle (none : ∀ x, e.rec_.play = some x → x.queue = []) : e.playNext = e := by
  unfold Engine.playNext
  split
  · rfl
  · next x play =>
    rw [none x play]

/-! A captured slot (R87 to R89, R117, R145, R179, R181). -/

theorem Engine.tableSwap_only (r : Reload) (c : Nat) :
    Engine.changesOnly [.raw, .counters, .log, .cluster] e (e.tableSwap r c) := by
  unfold Engine.tableSwap
  extract_lets tabs gone _ swapped counted logged folded _ filed
  have log : Engine.changesOnly [.raw, .counters, .log] e logged :=
    (((e.setRaw_only _).andThen (swapped.bump_only _ _)).andThen (counted.emit_only _ _ _)).within
  split
  · exact ((log.andThen (logged.setCluster_only _)).andThen (Engine.emit_only _ _ _ _)).within
  · exact log.within

theorem Engine.reloadAtSlot_only (c : Nat) :
    Engine.changesOnly [.raw, .counters, .log, .cluster] e (e.reloadAtSlot c) := by
  unfold Engine.reloadAtSlot
  split
  · split
    · exact e.changesOnly_ite _ (e.tableSwap_only _ _)
    · exact Engine.changesOnly_refl _ e
  · exact Engine.changesOnly_refl _ e

theorem Engine.setRawColour_only (x : RawFe) (y : Colour) :
    Engine.changesOnly [.raw, .colour] e { e with raw := x, colour := y } := by
  intro p hp
  cases p with
  | raw | colour => exact absurd (by decide) hp
  | _ => rfl

theorem Engine.settleLooks_only (c : Nat) : Engine.changesOnly [.raw, .md, .colour] e (e.settleLooks c) := by
  have settle (d : Nat) : Engine.changesOnly [.raw, .md] e ((e.tnrSettle d).profSettle d) :=
    ((e.setRaw_only _).andThen (Engine.setMd_only _ _)).within
  exact ((settle _).andThen (Engine.setRawColour_only _ _ _)).within

/-- A captured slot moves the next CFN on and gives its own to a port that takes part in the run; what it swaps and settles is
outside the generator, the ports and the recorder. -/
theorem Engine.slotCapture_effect (c : Nat) (p : Fin 2) (joined : (e.port p).joined = true) :
    Engine.changesOnly [.raw, .counters, .log, .cluster, .colour, .md, .proj, .phaseIn, .ports] e (e.slotCapture c) ∧
      (e.slotCapture c).proj = { e.proj with nextCfn := cfnAdd c 1 } ∧ ((e.slotCapture c).port p).cfn = c := by
  unfold Engine.slotCapture
  extract_lets swapped settled _ counted _ marked now
  have swap := (e.reloadAtSlot_only c).andThen (Engine.lutSwaps_only _ (some c) (e.slotOf c))
  have settle := swap.andThen (swapped.settleLooks_only c)
  have count : Engine.changesOnly [.proj] settled counted := settled.setProj_only _
  have mark : Engine.changesOnly [.phaseIn] counted marked := counted.changesOnly_ite _ (counted.setPhaseIn_only _)
  have one (q : Nat) (a : Engine) : Engine.changesOnly [.ports] a (now q a) := a.changesOnly_ite _ (a.modPort_only _ _)
  have both : Engine.changesOnly [.ports] marked (now 1 (now 0 marked)) := Engine.changesOnly_trans (one 0 _) (one 1 _)
  have before := (settle.andThen count).andThen mark
  refine ⟨(before.andThen both).within, ?_, ?_⟩
  · have proj : counted.proj = { e.proj with nextCfn := cfnAdd c 1 } :=
      congrArg (fun x : Proj => { x with nextCfn := cfnAdd c 1 }) settle.proj_eq
    rw [both.proj_eq, mark.proj_eq, proj]
  · refine marked.eachPort_port (P := fun q => q.cfn = c) p one (fun q a hq => ?_) fun a same port => ?_
    · unfold now
      split
      · exact a.modPort_port_ne hq _
      · rfl
    · unfold now
      rw [if_pos (by rw [port, Engine.port_congr before.ports_eq]; exact joined), Engine.modPort_port]

end

/-! The start of a slot (R87, R88, R111). -/

section
variable (e : Engine)

/-- A slot starts while its project frame has one left. -/
def Engine.slotDue (e : Engine) : Prop := e.proj.started = true ∧ e.proj.slot < e.cfg.phases

/-- What the start of the slot of a CFN shows on PHASE_OUT and in the ports (R111). -/
def Engine.slotShown (c : Nat) (e : Engine) : Engine := (e.phaseOut (e.cfg.phaseOf c)).phaseNow c

theorem Engine.slotShown_only (c : Nat) : Engine.changesOnly [.pins, .ports] e (e.slotShown c) :=
  ((e.phaseOut_only _).andThen (Engine.phaseNow_only _ c)).within

theorem Engine.slotShown_port (c : Nat) (p : Fin 2) :
    ((e.slotShown c).port p).joined = (e.port p).joined ∧
      (e.cfg.hasPort p = true → ((e.slotShown c).port p).phaseNow = e.cfg.phaseOf c) := by
  have out := e.phaseOut_only (e.cfg.phaseOf c)
  have shown := (e.phaseOut (e.cfg.phaseOf c)).phaseNow_port c p
  rwa [out.cfg_eq, Engine.port_congr out.ports_eq] at shown

theorem Engine.slotShown_pins (c : Nat) : (e.slotShown c).pins = (e.phaseOut (e.cfg.phaseOf c)).pins :=
  (Engine.phaseNow_only _ c).pins_eq

/-- A slot shows its frame, is captured when its turn has come, and then streams repeat frames and the index moves on. -/
theorem Engine.captureSlotStart_repeats (due : e.slotDue) {m : Engine}
    (taken : (if e.captured e.proj.slot then (e.slotShown (e.slotCfn e.proj.slot)).slotCapture (e.slotCfn e.proj.slot)
      else e.slotShown (e.slotCfn e.proj.slot)) = m)
    (none : ∀ x, m.rec_.play = some x → x.queue = []) :
    ∃ r, Engine.changesOnly [.outs] m r ∧
      e.captureSlotStart = { r with proj := { r.proj with slot := e.proj.slot + 1 } } := by
  obtain ⟨started, more⟩ := due
  unfold Engine.captureSlotStart
  extract_lets k c take shown played repeated
  rw [if_neg (by simpa [started] using more)]
  have same : played = m := (congrArg Engine.playNext taken).trans (m.playNext_idle none)
  exact ⟨repeated, same ▸ played.heldRepeats_only _ _, rfl⟩

/-- A slot outside a run: the generator, PHASE_OUT, the ports' PHASE_NOW, and streams that repeat a frame. -/
theorem Engine.captureSlotStart_still (due : e.slotDue) (still : e.proj.run = false)
    (none : ∀ x, e.rec_.play = some x → x.queue = []) :
    Engine.changesOnly [.proj, .pins, .ports, .outs] e e.captureSlotStart ∧
      e.captureSlotStart.proj = { e.proj with slot := e.proj.slot + 1 } ∧
      (∀ p : Fin 2, e.cfg.hasPort p = true →
        (e.captureSlotStart.port p).phaseNow = e.cfg.phaseOf (e.slotCfn e.proj.slot)) ∧
      e.captureSlotStart.pins = (e.phaseOut (e.cfg.phaseOf (e.slotCfn e.proj.slot))).pins := by
  have shown := e.slotShown_only (e.slotCfn e.proj.slot)
  have notTaken : e.captured e.proj.slot = false := by rw [Engine.captured, still]; rfl
  obtain ⟨r, repeats, starts⟩ := e.captureSlotStart_repeats due (if_neg (Bool.eq_false_iff.1 notTaken))
    (by rwa [shown.rec_eq])
  have only := shown.andThen repeats
  have port (p : Nat) : r.port p = (e.slotShown (e.slotCfn e.proj.slot)).port p := Engine.port_congr repeats.ports_eq p
  rw [starts]
  refine ⟨(only.andThen (r.setProj_only _)).within, ?_, fun p conf => ?_, ?_⟩
  · exact congrArg (fun x : Proj => { x with slot := e.proj.slot + 1 }) only.proj_eq
  · exact (congrArg Port.phaseNow (port p)).trans ((e.slotShown_port _ p).2 conf)
  · exact repeats.pins_eq.trans (e.slotShown_pins _)

/-- A captured slot: the index and the next CFN move on, and a port that takes part has the CFN of the slot. -/
theorem Engine.captureSlotStart_captured (due : e.slotDue) (taken : e.captured e.proj.slot = true) {p : Fin 2}
    (joined : (e.port p).joined = true) (none : ∀ x, e.rec_.play = some x → x.queue = []) :
    e.captureSlotStart.proj.slot = e.proj.slot + 1 ∧
      e.captureSlotStart.proj.nextCfn = cfnAdd (e.slotCfn e.proj.slot) 1 ∧
      (e.captureSlotStart.port p).cfn = e.slotCfn e.proj.slot := by
  have shown := e.slotShown_only (e.slotCfn e.proj.slot)
  obtain ⟨capture, proj, cfn⟩ := (e.slotShown (e.slotCfn e.proj.slot)).slotCapture_effect (e.slotCfn e.proj.slot) p
    ((e.slotShown_port _ p).1.trans joined)
  obtain ⟨r, repeats, starts⟩ := e.captureSlotStart_repeats due (if_pos taken)
    (by rwa [(shown.andThen capture).rec_eq])
  have proj := repeats.proj_eq.trans proj
  have port := Engine.port_congr repeats.ports_eq p
  rw [starts]
  exact ⟨rfl, congrArg Proj.nextCfn proj, (congrArg Port.cfn port).trans cfn⟩

/-! XTRIG (R90, R108). -/

theorem Engine.xtrig_pulse {p : Nat} (run : e.proj.run = true) (joined : (e.port p).joined = true)
    (awake : e.clk.classV = false) (even : e.lengthening = false) :
    Engine.changesOnly [.ports, .pins] e (e.xtrig p) ∧
      (e.xtrig p).pins = { e.pins with
        xtrig := vmod e.pins.xtrig p (· + 1), xtrigAt := vmod e.pins.xtrigAt p fun _ => some e.now } ∧
      (e.xtrig p).ports = vmod e.ports p fun q => { q with
        owed := if q.early.contains q.nextTrig then q.owed else q.owed ++ [q.nextTrig]
        early := q.early.filter (· ≠ q.nextTrig), nextTrig := cfnAdd q.nextTrig 1 } := by
  rw [Engine.xtrig, if_neg (by simp [run, joined, awake, even])]
  exact ⟨((e.modPort_only _ _).andThen (Engine.setPins_only _ _)).within, rfl, rfl⟩

end

/-! PROJECT_FRAME_BOUNDARY (R87). -/

section
variable (e : Engine)

theorem Engine.boundaryMode_none (ks : KeyStore) (none : e.sys.pend = []) : e.boundaryMode ks = e := by
  rw [Engine.boundaryMode, none]

/-- With nothing pending and no sensor live, a boundary begins its project frame, and modes and run stay as they are. -/
theorem Engine.projectFrameBoundary_still (ks : KeyStore) (none : e.sys.pend = []) (still : e.proj.run = false)
    (dark : e.sys.sensorsLive = false) (awake : e.clk.classV = false) (idle : e.rec_.takes = [])
    (aligned : e.phaseIn.realign = false) :
    (e.projectFrameBoundary ks).sys = e.sys ∧ (e.projectFrameBoundary ks).proj = e.frameBegin.proj := by
  have begun := e.frameBegin_only
  have no : e.frameBegin.canStart = false := Engine.canStart_not_live _ (by rwa [begun.sys_eq])
  unfold Engine.projectFrameBoundary
  dsimp only
  rw [e.classVRelease_off awake, aligned, Bool.false_and, if_neg Bool.false_ne_true,
    Engine.boundaryMode_none _ ks (by rwa [begun.sys_eq]), no, Bool.and_false, if_neg Bool.false_ne_true,
    e.frameBegin.boundaryRun_idle ks still no]
  have rest := e.frameBegin.boundaryRest_only e.frameBegin.proj.baseCfn
    (e.frameBegin.capStates.auxTake.audFrameEnd e.frameBegin.proj.baseCfn).selsAtBoundary.now
  dsimp only at rest
  have pump := rest.andThen (Engine.epPump_only _)
  rw [Engine.recPump_idle _ (by rw [rest.rec_eq, begun.rec_eq]; exact idle), pump.sys_eq, pump.proj_eq]
  exact ⟨begun.sys_eq, rfl⟩

end

section
variable {t : Nat} {p : Fin 2} {s : State}

theorem at_slotDue (started : s.eng.proj.started = true) (more : s.eng.proj.slot < s.eng.cfg.phases) : (s.eng.at t).slotDue :=
  ⟨by simpa using started, by simpa using more⟩

theorem does_captureSlotStart_still (hr : s.eng.sys.phase = .running) (started : s.eng.proj.started = true)
    (more : s.eng.proj.slot < s.eng.cfg.phases) (still : s.eng.proj.run = false)
    (none : ∀ x, s.eng.rec_.play = some x → x.queue = []) :
    Does (.captureSlotStart t) t s fun a b => Engine.changesOnly [.proj, .pins, .ports, .outs] a b ∧
      b.proj = { a.proj with slot := a.proj.slot + 1 } ∧
      (∀ p : Fin 2, a.cfg.hasPort p = true → (b.port p).phaseNow = a.cfg.phaseOf (a.slotCfn a.proj.slot)) ∧
      (a.has 0x0013 = true → a.cfg.phaseOutEn = true → a.clk.classV = false →
        b.pins = { a.pins with
          phaseOut := a.cfg.phaseOf (a.slotCfn a.proj.slot), phaseStb := a.pins.phaseStb + 1, stbAt := some a.now }) := by
  refine Does.of_live (·.captureSlotStart) rfl hr ?_
  obtain ⟨only, proj, phases, pins⟩ := (s.eng.at t).captureSlotStart_still (at_slotDue started more) (by simpa using still)
    (by simpa using none)
  exact ⟨only, proj, phases, fun conf on awake => pins.trans (Engine.phaseOut_pins _ _ conf on awake)⟩

theorem does_captureSlotStart_captured (hr : s.eng.sys.phase = .running) (started : s.eng.proj.started = true)
    (more : s.eng.proj.slot < s.eng.cfg.phases) (taken : s.eng.captured s.eng.proj.slot = true)
    (joined : (s.eng.port p).joined = true) (none : ∀ x, s.eng.rec_.play = some x → x.queue = []) :
    Does (.captureSlotStart t) t s fun a b => b.proj.slot = a.proj.slot + 1 ∧
      b.proj.nextCfn = cfnAdd (a.slotCfn a.proj.slot) 1 ∧ (b.port p).cfn = a.slotCfn a.proj.slot := by
  have taken : (s.eng.at t).captured (s.eng.at t).proj.slot = true := by
    rwa [Engine.at_proj, Engine.captured, Engine.slotCfn, Engine.at_proj, Engine.at_clk, Engine.at_cfg]
  exact Does.of_live (·.captureSlotStart) rfl hr ((s.eng.at t).captureSlotStart_captured (at_slotDue started more) taken
    (by simpa using joined) (by simpa using none))

theorem does_xtrig (hr : s.eng.sys.phase = .running) (run : s.eng.proj.run = true) (joined : (s.eng.port p).joined = true)
    (awake : s.eng.clk.classV = false) (even : (s.eng.at t).lengthening = false) :
    Does (.xtrig t p) t s fun a b => Engine.changesOnly [.ports, .pins] a b ∧
      b.pins = { a.pins with
        xtrig := vmod a.pins.xtrig p (· + 1), xtrigAt := vmod a.pins.xtrigAt p fun _ => some a.now } ∧
      b.ports = vmod a.ports p fun q => { q with
        owed := if q.early.contains q.nextTrig then q.owed else q.owed ++ [q.nextTrig]
        early := q.early.filter (· ≠ q.nextTrig), nextTrig := cfnAdd q.nextTrig 1 } :=
  Does.of_live (·.xtrig p) rfl hr
    ((s.eng.at t).xtrig_pulse (by simpa using run) (by simpa using joined) (by simpa using awake) even)

theorem does_projectFrameBoundary_still (hr : s.eng.sys.phase = .running) (none : s.eng.sys.pend = [])
    (still : s.eng.proj.run = false) (dark : s.eng.sys.sensorsLive = false) (awake : s.eng.clk.classV = false)
    (idle : s.eng.rec_.takes = []) (aligned : s.eng.phaseIn.realign = false) :
    Does (.projectFrameBoundary t) t s fun a b => b.sys = a.sys ∧ b.proj.started = true ∧
      b.proj.start = a.now ∧ b.proj.slot = 0 ∧ b.proj.run = false ∧ b.proj.pfi = (a.cfg.nearestIndex a.dtb).toNat := by
  refine Does.of_liveWith (fun _ ks e => e.projectFrameBoundary ks) rfl hr ?_
  obtain ⟨sys, proj⟩ := (s.eng.at t).projectFrameBoundary_still s.ks (by simpa using none) (by simpa using still)
    (by simpa using dark) (by simpa using awake) (by simpa using idle) (by simpa using aligned)
  have run : (s.eng.at t).proj.run = false := by simpa using still
  rw [proj]
  exact ⟨sys, rfl, rfl, rfl, run, rfl⟩

end

/-- Settles O15: a slot outside a run, a captured one, a trigger, and a project frame, by their lemmas. -/
theorem captureTimingAdvances : Obligations.CaptureTimingAdvances := by
  unfold Obligations.CaptureTimingAdvances
  exact ⟨fun _ _ => does_captureSlotStart_still, fun _ _ _ => does_captureSlotStart_captured, fun _ _ _ => does_xtrig,
    fun _ _ => does_projectFrameBoundary_still⟩

end Sys2Proof.Machine
end

section
/-! Answers that come later than their request, the raw front end's state as time passes, and the statistics ring (O25; R131,
R150 to R152, R465). -/

namespace Sys2Proof.Machine
set_option Elab.async false

section
variable (e : Engine)

/-- What the raw front end holds beside the notifications that wait is as it was when a command's instant has come. -/
theorem Engine.at_raw_keeps {β : Type} (g : RawFe → β) (notes : ∀ r n, g { r with notes := n } = g r) (t : Nat) :
    g (e.at t).raw = g e.raw := by
  unfold Engine.at
  split
  · exact (Engine.foldl_keeps (fun e => g e.raw) _ (fun a n => congrArg g (a.notify_raw 0x0502 none n)) _ _).trans
      (notes e.raw [])
  · rfl

@[simp] theorem Engine.at_raw_reload (t : Nat) : (e.at t).raw.reload = e.raw.reload :=
  e.at_raw_keeps (·.reload) (fun _ _ => rfl) t
@[simp] theorem Engine.at_raw_tables (t : Nat) : (e.at t).raw.tables = e.raw.tables :=
  e.at_raw_keeps (·.tables) (fun _ _ => rfl) t
@[simp] theorem Engine.at_raw_ring (t : Nat) : (e.at t).raw.ring = e.raw.ring :=
  e.at_raw_keeps (·.ring) (fun _ _ => rfl) t

/-- A request is received before anything is sent for it (R457). -/
theorem Engine.received_sent (h : MsgHdr) (ty : Nat) : (e.received h ty).ctl.sent = e.ctl.sent := by
  have room : (e.makeRoom h.client).ctl.sent = e.ctl.sent := by
    unfold Engine.makeRoom
    split
    · split
      · split
        · rfl
        · rfl
      · rfl
    · rfl
  unfold Engine.received Engine.heard Engine.takeControl
  split
  · exact room
  · exact room

/-- A request that a later command answers OK: its answer and LANDED change nothing else (R465). -/
theorem Engine.ok_landed_effect (h : MsgHdr) (ty c port : Nat) (late overrun : Bool) :
    ((e.ok h ty).landed h.client ty h.seq c port late overrun).replied h ty .ok .none [] ∧
      Engine.changesOnly [.ctl, .ep, .counters] e ((e.ok h ty).landed h.client ty h.seq c port late overrun) :=
  ⟨Engine.replied_congr (e.replied_ok h ty) (Engine.notify_sent _ _ _ _),
    ((e.ok_only h ty).andThen (Engine.landed_only _ _ _ _ _ _ _ _)).within⟩

/-- A request that a later command refuses: counted, logged and answered. -/
theorem Engine.refused_effect (c : Ctr) (src : Nat) (ev : Ev) (d : List Byte) (h : MsgHdr) (ty : Nat) {st : Status}
    (rs : Reason) (formed : st ≠ .malformed) :
    (((e.bump c src).emit src ev d).refuse h ty st rs).replied h ty st rs [] ∧
      Engine.changesOnly [.ctl, .ep, .counters, .log] e (((e.bump c src).emit src ev d).refuse h ty st rs) ∧
      Engine.counted c src e (((e.bump c src).emit src ev d).refuse h ty st rs) ∧
      Engine.newEvents e (((e.bump c src).emit src ev d).refuse h ty st rs) = [(src, ev, d.take 14)] := by
  obtain ⟨only, counted, events⟩ := e.bump_emit_effect c src ev d
  refine ⟨Engine.replied_refuse _ _ _ _ _, (only.andThen (Engine.refuse_only _ _ _ _ _)).within, ?_, ?_⟩
  · exact Engine.counted_of_counters counted rfl (Engine.reply_counters _ _ _ _ _ _ formed)
  · rw [Engine.newEvents_of_log _ (Engine.refuse_log _ _ _ _ _), events]

/-- The frame of a target that a deadline of R11 passes is late on each port that takes part, and FW_OVERRUN is logged. -/
def Engine.targetOverrun (src code c : Nat) (e : Engine) : Engine :=
  { e.fwOverrun src code 1 c 0 with
    ports := (e.fwOverrun src code 1 c 0).ports.map fun q => if q.joined then { q with lateCfns := q.lateCfns ++ [c] } else q }

theorem Engine.targetOverrun_only (src code c : Nat) :
    Engine.changesOnly [.ports, .cluster, .log, .counters] e (e.targetOverrun src code c) := by
  have marked : Engine.changesOnly [.ports] (e.fwOverrun src code 1 c 0) (e.targetOverrun src code c) := by
    intro p hp
    cases p with
    | ports => exact absurd (by decide) hp
    | _ => rfl
  exact ((e.fwOverrun_only src code 1 c 0).andThen marked).within

theorem Engine.targetOverrun_events {a : Engine} (h : e.log = a.log) (src code c : Nat) :
    Engine.newEvents a (e.targetOverrun src code c) = [(src, .fwOverrun, le 1 code ++ le 1 1 ++ le 4 c ++ le 1 0)] :=
  e.fwOverrun_events h src code 1 c 0

/-! STATS_RECORD_DONE, STATS_READ and DEFECT_READ. -/

variable {e}

/-- The oldest record that waits goes into the next slot with the next SEQ, and at most 64 notifications wait (R150 to R152). -/
theorem Engine.statsRecordDone_effect {src : Nat} {r : StatsRec} {rest : List StatsRec} (known : src < 3)
    (waits : vget e.raw.waiting src [] = r :: rest) :
    Engine.changesOnly [.raw, .counters] e (e.statsRecordDone src) ∧
      vget (e.statsRecordDone src).raw.waiting src [] = rest ∧
      (e.statsRecordDone src).raw.ring = putSlot e.raw.ring e.raw.nextSlot { r with seq := e.raw.nextSeq % 4294967296 } ∧
      (e.statsRecordDone src).raw.nextSlot = (e.raw.nextSlot + 1) % e.cfg.ringSlots ∧
      (e.statsRecordDone src).raw.nextSeq = e.raw.nextSeq + 1 ∧ (e.statsRecordDone src).raw.notes.length ≤ 64 := by
  have newest (l : List (List Byte)) : (l.drop (l.length - 64)).length ≤ 64 := by rw [List.length_drop]; omega
  unfold Engine.statsRecordDone
  rw [waits]
  dsimp only
  rw [Engine.bumpN_raw]
  exact ⟨((e.setRaw_only _).andThen (Engine.bumpN_only _ _ _ _ _)).within, vget_vmod_same _ known _ _, rfl, rfl, rfl,
    newest _⟩

theorem Engine.statsRead_written {h : MsgHdr} {slot : Nat} {r : Nat × StatsRec} (formed : slot ≤ 255)
    (conf : e.has 0x0022 = true) (inRing : slot < e.cfg.ringSlots)
    (written : (e.raw.ring.find? fun x => x.1 = slot) = some r) :
    e.statsRead h slot = e.reply h 0x0404 .ok .none r.2.bytes := by
  rw [Engine.statsRead, if_neg (Nat.not_lt.2 formed), if_neg (by simp [conf, inRing]), written]

theorem Engine.defectRead_inRange {h : MsgHdr} {first count : Nat} {p : Fin 2} (lo : 0 < count) (hi : count ≤ 16000)
    (conf : e.cfg.hasPort p = true) : e.defectRead h first count p =
      e.reply h 0x0405 .ok .none (le 4 (e.raw.dyn.filter fun d => d.1 = p.val).length ++
        le 2 (((e.raw.dyn.filter fun d => d.1 = p.val).drop first).take count).length ++ le 2 0 ++
        (((e.raw.dyn.filter fun d => d.1 = p.val).drop first).take count).flatMap fun d =>
          le 4 (packWord [(30, 28, 6), (27, 14, d.2.2), (13, 0, d.2.1)])) := by
  rw [Engine.defectRead, if_neg (by omega), if_neg (by simp [conf])]

end

section
variable {t : Nat} {h : MsgHdr} {s : State}

theorem does_statsRecordDone {src : Fin 3} {r : StatsRec} {rest : List StatsRec} (hr : s.eng.sys.phase = .running)
    (waits : vget (s.eng.at t).raw.waiting src [] = r :: rest) :
    Does (.statsRecordDone t src) t s fun a b => Engine.changesOnly [.raw, .counters] a b ∧
      vget b.raw.waiting src [] = rest ∧
      b.raw.ring = putSlot a.raw.ring a.raw.nextSlot { r with seq := a.raw.nextSeq % 4294967296 } ∧
      b.raw.nextSlot = (a.raw.nextSlot + 1) % a.cfg.ringSlots ∧ b.raw.nextSeq = a.raw.nextSeq + 1 ∧
      b.raw.notes.length ≤ 64 :=
  Does.of_live (·.statsRecordDone src) rfl hr (Engine.statsRecordDone_effect src.isLt waits)

theorem does_statsRead {slot : Nat} {r : Nat × StatsRec} (hg : s.takes t h 0x0404) (formed : slot ≤ 255)
    (conf : s.eng.has 0x0022 = true) (inRing : slot < s.eng.cfg.ringSlots)
    (written : (s.eng.raw.ring.find? fun x => x.1 = slot) = some r) :
    Does (.statsRead t h slot) t s fun a b => b.replied h 0x0404 .ok .none r.2.bytes ∧
      Engine.changesOnly [.ctl, .ep, .counters] a b := by
  refine Does.of_request h 0x0404 (·.statsRead h slot) rfl hg ?_
  rw [Engine.statsRead_written formed (by simpa [Engine.has] using conf) (by simpa using inRing) (by simpa using written)]
  exact ⟨Engine.replied_reply _ _ _ _ _ _, Engine.received_then_only h 0x0404 (Engine.reply_only _ _ _ _ _ _)⟩

theorem does_defectRead {first count : Nat} {p : Fin 2} (hg : s.takes t h 0x0405) (lo : 0 < count) (hi : count ≤ 16000)
    (conf : s.eng.cfg.hasPort p = true) :
    Does (.defectRead t h first count p) t s fun a b => Engine.changesOnly [.ctl, .ep, .counters] a b ∧
      ∃ l, l = ((a.raw.dyn.filter fun d => d.1 = p.val).drop first).take count ∧ b.replied h 0x0405 .ok .none
        (le 4 (a.raw.dyn.filter fun d => d.1 = p.val).length ++ le 2 l.length ++ le 2 0 ++
          l.flatMap fun d => le 4 (packWord [(30, 28, 6), (27, 14, d.2.2), (13, 0, d.2.1)])) := by
  refine Does.of_request h 0x0405 (·.defectRead h first count p) rfl hg ?_
  rw [Engine.defectRead_inRange lo hi (by simpa using conf), Engine.received_raw]
  exact ⟨Engine.received_then_only h 0x0405 (Engine.reply_only _ _ _ _ _ _), _, rfl, Engine.replied_reply _ _ _ _ _ _⟩

end

/-- Settles O25: a record that is complete, a slot that is read, and a port's defects, by their lemmas. -/
theorem statisticsRing : Obligations.StatisticsRing := by
  unfold Obligations.StatisticsRing
  exact ⟨fun _ _ _ _ _ => does_statsRecordDone, fun _ _ _ _ _ => does_statsRead, fun _ _ _ _ _ _ => does_defectRead⟩

end Sys2Proof.Machine
end

section
/-! Reloads of calibration tables (O24; R145 to R147, R451): taken, late, loaded, or refused whole. -/

namespace Sys2Proof.Machine
set_option Elab.async false

/-- The reload that waits, if one does. -/
def Engine.setReload (r : Option Reload) (e : Engine) : Engine := { e with raw := { e.raw with reload := r } }

theorem Engine.setReload_only (r : Option Reload) (e : Engine) : Engine.changesOnly [.raw] e (e.setReload r) := e.setRaw_only _

/-- A reload whose tables have been read and checked, with the instant and the CFN it is due on (R145). -/
def Reload.loaded (loads : List TableLoad) (e : Engine) (r : Reload) : Reload :=
  { r with loads := loads, loadedAt := some e.now, cfn := some (if e.proj.run then e.reachCfn else 0) }

section
variable {e : Engine} {h : MsgHdr} {tg : Target} {mask : Nat}

/-- No table of the mask belongs to a port that is not configured. -/
theorem tablePorts_configured {c : Cfg} (conf : ∀ k ∈ tablesOf mask, k < 4 → c.hasPort (k % 2) = true) :
    ((tablesOf mask).filterMap tablePort).any (fun p => !c.hasPort p) = false := by
  refine List.any_eq_false.2 fun p hp => ?_
  obtain ⟨k, hk, port⟩ := List.mem_filterMap.1 hp
  unfold tablePort at port
  split at port
  · next lt =>
    obtain rfl := Option.some.inj port
    rw [conf k hk lt]
    decide
  · cases port

/-- A reload with ASAP of tables that the configuration has is BUSY while another waits, and otherwise waits itself (R145). -/
theorem Engine.tableReload_formed (asap : tg.asap = true) (okTg : targetOk tg false false = true) (lo : 0 < mask)
    (hi : mask ≤ 63) (conf : e.has 0x0020 = true) (ports : ∀ k ∈ tablesOf mask, k < 4 → e.cfg.hasPort (k % 2) = true) :
    e.tableReload h tg mask = if e.raw.reload.isSome then e.refuse h 0x0207 .busy .none else
      e.setReload (some ⟨mask, none, none, [], none, h.client, 0x0207, h.seq, false, false, false, false⟩) := by
  have formed : ¬ (!targetOk tg false false || decide (mask = 0) || decide (63 < mask)) = true := by
    simp [okTg, Nat.ne_of_gt lo, hi]
  have placed : ¬ (!e.has 0x0020 || ((tablesOf mask).filterMap tablePort).any (fun p => !e.cfg.hasPort p)) = true := by
    rw [conf, tablePorts_configured ports]
    decide
  rw [Engine.tableReload, if_neg formed, if_neg placed, if_neg (e.not_noRun (by rw [asap, Bool.or_true])), if_pos asap]
  rfl

/-- With every named table read and valid, and room, a reload with ASAP is loaded at that instant and answered (R145, R147). -/
theorem Engine.tableLoadDone_loaded {f : Flash} {files : List CalFile} {r : Reload} {loads : List TableLoad}
    (waits : e.raw.reload = some r) (loading : r.loadedAt = none) (cal : r.cal = false) (own : r.own = false)
    (asap : r.target = none) (read : e.reloadRead f files r = some loads) (valid : ∀ l ∈ loads, e.cfg.tableOk l = true)
    (room : e.defectRoom loads = true) :
    e.tableLoadDone f files = ((e.setReload (some (r.loaded loads e))).ok ⟨r.client, r.seq⟩ r.ty).landed
      r.client r.ty r.seq (if e.proj.run then e.reachCfn else 0) 0 false r.overrun := by
  have valid : loads.all e.cfg.tableOk = true := List.all_eq_true.2 valid
  unfold Engine.tableLoadDone
  rw [waits]
  simp only [loading, cal, own, asap, read, valid, room, Option.isSome_none, Option.isNone_some, Option.getD_some,
    Bool.false_and, Bool.or_false, Bool.not_true, Bool.false_eq_true, if_false, Engine.setReload, Reload.loaded]

/-- A client's reload that cannot be read is refused whole (R145). -/
theorem Engine.tableLoadDone_refused {f : Flash} {files : List CalFile} {r : Reload} (waits : e.raw.reload = some r)
    (loading : r.loadedAt = none) (cal : r.cal = false) (own : r.own = false) (unread : e.reloadRead f files r = none) :
    e.tableLoadDone f files = (((e.setReload none).bump .tableRefused 0x0142).emit 0x0142 .tableRefused
      (le 2 6)).refuse ⟨r.client, r.seq⟩ r.ty .refused .checkFailed := by
  have refused : e.tableLoadDone f files = e.reloadRefused r .checkFailed := by
    unfold Engine.tableLoadDone
    rw [waits]
    dsimp only
    rw [loading, unread]
    exact (if_neg Bool.false_ne_true).trans (if_pos (Bool.true_or _))
  rw [refused, Engine.reloadRefused, cal, loading, own]
  rfl

/-- A reload whose target's deadline passes before it is loaded (R146). -/
theorem Engine.tableReloadDeadline_missed {r : Reload} {c : Nat} (waits : e.raw.reload = some r) (target : r.target = some c)
    (loading : r.loadedAt = none) (first : r.overrun = false) (due : e.slotBy c - (ms 2 : Nat) ≤ (e.now : Int)) :
    e.tableReloadDeadline = (e.setReload (some { r with overrun := true })).targetOverrun 0x0142 4 c := by
  unfold Engine.tableReloadDeadline
  rw [waits]
  dsimp only
  rw [target]
  dsimp only
  rw [if_neg (by simp [loading, first, due])]
  rfl

end

section
variable {t : Nat} {h : MsgHdr} {tg : Target} {mask : Nat} {s : State}

theorem does_tableReload_waits (hg : s.takes t h 0x0207) (asap : tg.asap = true) (okTg : targetOk tg false false = true)
    (lo : 0 < mask) (hi : mask ≤ 63) (conf : s.eng.has 0x0020 = true)
    (ports : ∀ k ∈ tablesOf mask, k < 4 → s.eng.cfg.hasPort (k % 2) = true) (free : s.eng.raw.reload = none) :
    Does (.tableReload t h tg mask) t s fun a b => Engine.changesOnly [.raw, .ctl, .ep] a b ∧ b.ctl.sent = a.ctl.sent ∧
      b.raw = { a.raw with
        reload := some ⟨mask, none, none, [], none, h.client, 0x0207, h.seq, false, false, false, false⟩ } := by
  refine Does.of_request h 0x0207 (·.tableReload h tg mask) rfl hg ?_
  rw [Engine.tableReload_formed asap okTg lo hi (by simpa [Engine.has] using conf) (by simpa using ports),
    if_neg (by simp [free])]
  refine ⟨((Engine.received_only _ _ _).andThen (Engine.setReload_only _ _)).within, Engine.received_sent _ _ _, ?_⟩
  rw [Engine.setReload, Engine.received_raw]

theorem does_tableReload_busy {r : Reload} (hg : s.takes t h 0x0207) (asap : tg.asap = true)
    (okTg : targetOk tg false false = true) (lo : 0 < mask) (hi : mask ≤ 63) (conf : s.eng.has 0x0020 = true)
    (ports : ∀ k ∈ tablesOf mask, k < 4 → s.eng.cfg.hasPort (k % 2) = true) (waits : s.eng.raw.reload = some r) :
    Does (.tableReload t h tg mask) t s fun a b => b.replied h 0x0207 .busy .none [] ∧
      Engine.changesOnly [.ctl, .ep, .counters] a b := by
  refine Does.of_request h 0x0207 (·.tableReload h tg mask) rfl hg ?_
  rw [Engine.tableReload_formed asap okTg lo hi (by simpa [Engine.has] using conf) (by simpa using ports),
    if_pos (by simp [waits])]
  exact ⟨Engine.replied_refuse _ _ _ _ _, Engine.received_then_only h 0x0207 (Engine.refuse_only _ _ _ _ _)⟩

theorem does_tableLoadDone_loaded {defects others : List CalFile} {loads : List TableLoad} {r : Reload}
    (hr : s.eng.sys.phase = .running) (waits : s.eng.raw.reload = some r) (loading : r.loadedAt = none)
    (cal : r.cal = false) (own : r.own = false) (asap : r.target = none)
    (read : (s.eng.at t).reloadRead s.flash (defects ++ others) r = some loads)
    (valid : ∀ l ∈ loads, s.eng.cfg.tableOk l = true) (room : s.eng.defectRoom loads = true) :
    Does (.tableLoadDone t defects others) t s fun a b => b.replied ⟨r.client, r.seq⟩ r.ty .ok .none [] ∧
      Engine.changesOnly [.raw, .ctl, .ep, .counters] a b ∧
      b.raw = { a.raw with reload := some { r with
        loads := loads, loadedAt := some a.now, cfn := some (if a.proj.run then a.reachCfn else 0) } } := by
  refine Does.of_live (·.tableLoadDone s.flash (defects ++ others)) rfl hr ?_
  have room : (s.eng.at t).defectRoom loads = true := by simpa [Engine.defectRoom] using room
  rw [Engine.tableLoadDone_loaded (by simpa using waits) loading cal own asap read (by simpa using valid) room]
  obtain ⟨answered, only⟩ := ((s.eng.at t).setReload (some (r.loaded loads (s.eng.at t)))).ok_landed_effect
    ⟨r.client, r.seq⟩ r.ty (if (s.eng.at t).proj.run then (s.eng.at t).reachCfn else 0) 0 false r.overrun
  refine ⟨answered, ((Engine.setReload_only _ _).andThen only).within, ?_⟩
  rw [Engine.landed_raw, Engine.ok_raw]
  rfl

theorem does_tableLoadDone_refused {defects others : List CalFile} {r : Reload} (hr : s.eng.sys.phase = .running)
    (waits : s.eng.raw.reload = some r) (loading : r.loadedAt = none) (cal : r.cal = false) (own : r.own = false)
    (unread : (s.eng.at t).reloadRead s.flash (defects ++ others) r = none) :
    Does (.tableLoadDone t defects others) t s fun a b =>
      b.replied ⟨r.client, r.seq⟩ r.ty .refused .checkFailed [] ∧ Engine.changesOnly [.raw, .ctl, .ep, .counters, .log] a b ∧
      b.raw = { a.raw with reload := none } ∧ Engine.counted .tableRefused 0x0142 a b ∧
      Engine.newEvents a b = [(0x0142, .tableRefused, le 2 6)] := by
  refine Does.of_live (·.tableLoadDone s.flash (defects ++ others)) rfl hr ?_
  rw [Engine.tableLoadDone_refused (by simpa using waits) loading cal own unread]
  obtain ⟨answered, only, counted, events⟩ := ((s.eng.at t).setReload none).refused_effect .tableRefused 0x0142
    .tableRefused (le 2 6) ⟨r.client, r.seq⟩ r.ty .checkFailed (st := .refused) (by decide)
  refine ⟨answered, ((Engine.setReload_only _ _).andThen only).within, ?_, counted, events⟩
  rw [Engine.refuse_raw, Engine.emit_raw, Engine.bump_raw]
  rfl

theorem does_tableReloadDeadline {r : Reload} {c : Nat} (hr : s.eng.sys.phase = .running)
    (waits : s.eng.raw.reload = some r) (target : r.target = some c) (loading : r.loadedAt = none) (first : r.overrun = false)
    (due : (s.eng.at t).slotBy c - (ms 2 : Nat) ≤ ((s.eng.at t).now : Int)) :
    Does (.tableReloadDeadline t) t s fun a b => Engine.changesOnly [.raw, .ports, .cluster, .log, .counters] a b ∧
      b.raw = { a.raw with reload := some { r with overrun := true } } ∧
      Engine.newEvents a b = [(0x0142, .fwOverrun, le 1 4 ++ le 1 1 ++ le 4 c ++ le 1 0)] := by
  refine Does.of_live (·.tableReloadDeadline) rfl hr ?_
  rw [Engine.tableReloadDeadline_missed (by simpa using waits) target loading first due]
  have late := ((s.eng.at t).setReload (some { r with overrun := true })).targetOverrun_only 0x0142 4 c
  exact ⟨((Engine.setReload_only _ _).andThen late).within, (Engine.changesOnly_get late .raw rfl).symm,
    Engine.targetOverrun_events _ rfl _ _ _⟩

end

/-- Settles O24: a reload taken, a second one, the end of a loading, and a missed deadline, by their lemmas. -/
theorem tableReloadsRunToTheirEnd : Obligations.TableReloadsRunToTheirEnd := by
  unfold Obligations.TableReloadsRunToTheirEnd
  exact ⟨fun _ _ _ _ _ => does_tableReload_waits, fun _ _ _ _ _ _ => does_tableReload_busy,
    fun _ _ _ _ _ _ hr waits loading cal own asap => does_tableLoadDone_loaded hr waits loading cal own asap,
    fun _ _ _ _ _ => does_tableLoadDone_refused, fun _ _ _ _ => does_tableReloadDeadline⟩

end Sys2Proof.Machine
end

section
/-! Loads of the LUT store (O23; R146, R176, R180, R181, R451): taken, late, loaded, or refused whole. -/

namespace Sys2Proof.Machine
set_option Elab.async false

/-! What a load's place depends on (R180). -/

section
variable {a b : Engine} (cfg : a.cfg = b.cfg) (proj : a.proj = b.proj) (colour : a.colour = b.colour)
include cfg proj colour

theorem Engine.slotInUse_congr (k : Nat) : a.slotInUse k = b.slotInUse k := by
  have frame : a.frameNow = b.frameNow := by rw [Engine.frameNow, proj, Engine.frameNow]
  have slot (n : Nat) (c : Option Nat) : a.slotAt n c = b.slotAt n c := by
    rw [Engine.slotAt, colour, cfg, Engine.slotAt]
  have waits (x : LutSel) : a.selWaits x = b.selWaits x := by rw [Engine.selWaits, frame, Engine.selWaits]
  simp only [Engine.slotInUse, cfg, colour, frame, slot, waits]

/-- Where entries go depends on the configuration, the run and the LUT store alone. -/
theorem Engine.placeLoads_congr (entries : List LutEntry) (done : List (Nat × Nat × Option Nat)) (own : List Nat) :
    a.placeLoads entries done own = b.placeLoads entries done own := by
  have free (l : List Nat) : a.freeBuffers l = b.freeBuffers l := by rw [Engine.freeBuffers, colour, Engine.freeBuffers]
  induction entries generalizing done own with
  | nil => rfl
  | cons x rest ih =>
    simp only [Engine.placeLoads, colour, free, Engine.slotInUse_congr cfg proj colour, ih]

end

section
variable {e : Engine} {h : MsgHdr} {tg : Target}

/-- A load with ASAP that gives some entry a buffer waits for its data (R180). -/
theorem Engine.lutLoad_waits {entries : List LutEntry} {slots : List (Nat × Nat × Option Nat)} {own : List Nat}
    (asap : tg.asap = true) (okTg : targetOk tg false false = true) (nonempty : entries ≠ []) (most : entries.length ≤ 16)
    (range : ∀ x ∈ entries, x.slot ≤ 15 ∧ x.source ≤ 2) (conf : e.has 0x0031 = true)
    (placed : e.placeLoads entries [] [] = .ok (slots, own)) (reads : ∃ x ∈ slots, x.2.2 ≠ none) :
    e.lutLoad h tg entries = { e with colour := { e.colour with
      loads := e.colour.loads ++ [⟨slots, none, none, [], none, false, false, h.client, h.seq⟩]
      readsEmpty := e.colour.readsEmpty ++ own } } := by
  have inRange : entries.any (fun x => decide (15 < x.slot ∨ 2 < x.source)) = false := by
    refine List.any_eq_false.2 fun x hx => ?_
    obtain ⟨slot, source⟩ := range x hx
    simp [slot, source]
  have formed : ¬ (!targetOk tg false false || entries.isEmpty || decide (16 < entries.length) ||
      entries.any (fun x => decide (15 < x.slot ∨ 2 < x.source))) = true := by
    rw [inRange]
    simp [okTg, nonempty, most]
  have data : ¬ slots.all (·.2.2.isNone) = true := by
    obtain ⟨x, hx, buffer⟩ := reads
    exact fun all => buffer (Option.isNone_iff_eq_none.1 (List.all_eq_true.1 all x hx))
  unfold Engine.lutLoad
  rw [if_neg formed, if_neg (by simp [conf]), if_neg (e.not_noRun (by rw [asap, Bool.or_true])), placed]
  dsimp only
  rw [if_neg data, if_pos asap]

/-! The records of a load (R176, R181). -/

/-- The loads that wait. -/
def Engine.setLoads (ls : List LutPend) (e : Engine) : Engine := { e with colour := { e.colour with loads := ls } }

theorem Engine.setLoads_only (ls : List LutPend) (e : Engine) : Engine.changesOnly [.colour] e (e.setLoads ls) :=
  e.setColour_only _

/-- A load whose records have been read, with the instant and the CFN it lands on (R181). -/
def LutPend.loaded (recs : List (Nat × Option LutData)) (e : Engine) (l : LutPend) : LutPend :=
  { l with recs := recs, loadedAt := some e.now, cfn := some (e.lutLand l.target).1 }

/-- A file on NS5 that holds one valid record is read. -/
theorem Engine.lutRead_file {f : Flash} {files : List LutFile} {x : LutFile} {k : Nat}
    (found : files.find? (·.slot = k) = some x) (size : x.bytes.length = 1647766) (crc : lutCrcOk x.bytes = true)
    (valid : lutRecOk (bytesWords 411942 (x.bytes ++ [0, 0])) = true) :
    e.lutRead f files 1 k = .ok (lutDataOf (bytesWords 411942 (x.bytes ++ [0, 0]))) := by
  unfold Engine.lutRead
  dsimp only
  rw [if_pos rfl, found]
  dsimp only
  rw [if_pos (by rw [crc, valid, decide_eq_true size]; rfl)]

theorem Engine.lutRead_noFile (f : Flash) (k : Nat) : e.lutRead f [] 1 k = .error (.notFound, .none) := rfl

/-- With one load, of a client, that is loaded: its answer, and the CFN it lands on (R181, R465). -/
theorem Engine.lutLoaded_one {l : LutPend} (one : e.colour.loads = [l]) (client : l.own = false)
    (recs : List (Nat × Option LutData)) :
    e.lutLoaded l recs = ((e.setLoads [l.loaded recs e]).ok ⟨l.client, l.seq⟩ 0x0206).landed
      l.client 0x0206 l.seq (e.lutLand l.target).1 0 ((e.lutLand l.target).2 && !l.overrun) l.overrun := by
  unfold Engine.lutLoaded
  dsimp only
  rw [one, List.map_singleton, if_pos rfl, if_neg (by simp [client])]
  rfl

theorem Engine.lutOldest_one {l : LutPend} (one : e.colour.loads = [l]) (loading : l.loadedAt = none) :
    e.colour.loads.find? (·.loadedAt.isNone) = some l := by
  rw [one, List.find?_singleton, if_pos (by rw [loading]; rfl)]

/-- With every record read, the oldest load that is not loaded is loaded. -/
theorem Engine.lutLoadDone_read {f : Flash} {files : List LutFile} {l : LutPend} (one : e.colour.loads = [l])
    (loading : l.loadedAt = none)
    (read : ∀ x ∈ l.slots, x.2.2 ≠ none → ∃ d, e.lutRead f files x.2.1 x.1 = .ok d) :
    ∃ recs, e.lutLoadDone f files = e.lutLoaded l recs := by
  unfold Engine.lutLoadDone
  rw [Engine.lutOldest_one one loading]
  dsimp -zeta only
  extract_lets got bad
  have good (st : Status) : bad st = none := by
    refine List.findSome?_eq_none_iff.2 fun y hy => ?_
    obtain ⟨x, hx, rfl⟩ := List.mem_map.1 hy
    obtain ⟨slot, buffer⟩ := List.mem_filter.1 hx
    obtain ⟨d, data⟩ := read x slot (Option.isSome_iff_ne_none.1 buffer)
    dsimp only
    rw [data]
  rw [good, good]
  exact ⟨_, rfl⟩

/-- With the first record's file not found, that load is refused whole, whatever its other records are. -/
theorem Engine.lutLoadDone_notFound {f : Flash} {l : LutPend} {x : Nat × Nat × Option Nat}
    {rest : List (Nat × Nat × Option Nat)} (one : e.colour.loads = [l]) (loading : l.loadedAt = none)
    (slots : l.slots = x :: rest) (buffer : x.2.2 ≠ none) (ns5 : x.2.1 = 1) :
    e.lutLoadDone f [] = e.lutRefused l x.1 .notFound .none := by
  unfold Engine.lutLoadDone
  rw [Engine.lutOldest_one one loading]
  dsimp -zeta only
  extract_lets got bad
  have absent : bad .notFound = some (x.1, .none) := by
    have first : l.slots.filter (·.2.2.isSome) = x :: rest.filter (·.2.2.isSome) := by
      rw [slots]
      exact List.filter_cons_of_pos (Option.isSome_iff_ne_none.2 buffer)
    dsimp only [bad, got]
    rw [first, List.map_cons, List.findSome?_cons, ns5, e.lutRead_noFile]
    rfl
  rw [absent]

/-- The one load, of a client, is refused: it waits no more, and no slot changes (R181). -/
theorem Engine.lutRefused_effect {l : LutPend} (one : e.colour.loads = [l]) (client : l.own = false) (slot : Nat)
    {st : Status} (rs : Reason) (formed : st ≠ .malformed) :
    (e.lutRefused l slot st rs).replied ⟨l.client, l.seq⟩ 0x0206 st rs [] ∧
      Engine.changesOnly [.colour, .ctl, .ep, .counters, .log] e (e.lutRefused l slot st rs) ∧
      (e.lutRefused l slot st rs).colour.slots = e.colour.slots ∧ (e.lutRefused l slot st rs).colour.loads = [] ∧
      Engine.counted .lutRefused 0x0158 e (e.lutRefused l slot st rs) ∧
      Engine.newEvents e (e.lutRefused l slot st rs) = [(0x0158, .lutRefused, le 1 slot ++ le 2 rs.code)] := by
  unfold Engine.lutRefused
  extract_lets _ dropped logged
  rw [if_neg (by simp [client])]
  obtain ⟨answered, only, counted, events⟩ := dropped.refused_effect .lutRefused 0x0158 .lutRefused
    (evData [(1, slot), (2, rs.code)]) ⟨l.client, l.seq⟩ 0x0206 rs formed
  have emptied : e.colour.loads.filter (· ≠ l) = [] := by simp [one]
  refine ⟨answered, ((e.setColour_only _).andThen only).within, ?_, ?_, counted, ?_⟩
  · rw [only.colour_eq]
  · rw [only.colour_eq]
    exact emptied
  · rw [evData_take, evData_two 1 slot 2 rs.code (by decide)] at events
    exact events

/-! LUT_LOAD_DEADLINE (R181). -/

theorem cfnDiff_self (c : Nat) : cfnDiff c c = 0 := by
  have whole : (c + 4294967296 - c % 4294967296) % 4294967296 = 0 := by omega
  simp [cfnDiff, signedOf, whole]

/-- The one load is overdue once its target's deadline passes before it is loaded. -/
theorem Engine.lutOverdue_one {l : LutPend} {c : Nat} (one : e.colour.loads = [l]) (loading : l.loadedAt = none)
    (target : l.target = some c) (first : l.overrun = false) (due : e.slotBy c - (ms 2 : Nat) ≤ (e.now : Int)) :
    e.lutOverdue = some l := by
  have due := sub_le_iff_le_add.1 due
  unfold Engine.lutOverdue
  simp [one, loading, target, first, due, cfnDiff_self]

theorem Engine.lutLoadDeadline_missed {l : LutPend} {c : Nat} (one : e.colour.loads = [l]) (target : l.target = some c)
    (overdue : e.lutOverdue = some l) :
    e.lutLoadDeadline = (e.setLoads [{ l with overrun := true }]).targetOverrun 0x0158 5 c := by
  unfold Engine.lutLoadDeadline
  rw [overdue]
  dsimp only
  rw [one, List.map_singleton, if_pos rfl, target]
  rfl

end

section
variable {t : Nat} {h : MsgHdr} {tg : Target} {s : State}

theorem does_lutLoad {entries : List LutEntry} {slots : List (Nat × Nat × Option Nat)} {own : List Nat}
    (hg : s.takes t h 0x0206) (asap : tg.asap = true) (okTg : targetOk tg false false = true) (nonempty : entries ≠ [])
    (most : entries.length ≤ 16) (range : ∀ x ∈ entries, x.slot ≤ 15 ∧ x.source ≤ 2) (conf : s.eng.has 0x0031 = true)
    (placed : s.eng.placeLoads entries [] [] = .ok (slots, own)) (reads : ∃ x ∈ slots, x.2.2 ≠ none) :
    Does (.lutLoad t h tg entries) t s fun a b => Engine.changesOnly [.colour, .ctl, .ep] a b ∧ b.ctl.sent = a.ctl.sent ∧
      b.colour = { a.colour with
        loads := a.colour.loads ++ [⟨slots, none, none, [], none, false, false, h.client, h.seq⟩]
        readsEmpty := a.colour.readsEmpty ++ own } := by
  refine Does.of_request h 0x0206 (·.lutLoad h tg entries) rfl hg ?_
  have placed : ((s.eng.at t).received h 0x0206).placeLoads entries [] [] = .ok (slots, own) :=
    (Engine.placeLoads_congr (by simp) (by simp) (by simp) _ _ _).trans placed
  rw [Engine.lutLoad_waits asap okTg nonempty most range (by simpa [Engine.has] using conf) placed reads,
    Engine.received_colour]
  exact ⟨((Engine.received_only _ _ _).andThen (Engine.setColour_only _ _)).within, Engine.received_sent _ _ _, rfl⟩

theorem does_lutLoadDone_loaded {files : List LutFile} {l : LutPend} (hr : s.eng.sys.phase = .running)
    (one : s.eng.colour.loads = [l]) (loading : l.loadedAt = none) (client : l.own = false)
    (read : ∀ x ∈ l.slots, x.2.2 ≠ none → ∃ d, (s.eng.at t).lutRead s.flash files x.2.1 x.1 = .ok d) :
    Does (.lutLoadDone t files) t s fun a b => b.replied ⟨l.client, l.seq⟩ 0x0206 .ok .none [] ∧
      Engine.changesOnly [.colour, .ctl, .ep, .counters] a b ∧ b.colour.slots = a.colour.slots ∧
      ∃ l', b.colour.loads = [l'] ∧ l'.loadedAt = some a.now ∧ l'.slots = l.slots ∧
        l'.cfn = some (a.lutLand l.target).1 := by
  refine Does.of_live (·.lutLoadDone s.flash files) rfl hr ?_
  have one : (s.eng.at t).colour.loads = [l] := by simpa using one
  obtain ⟨recs, loaded⟩ := Engine.lutLoadDone_read one loading read
  rw [loaded, Engine.lutLoaded_one one client]
  obtain ⟨answered, only⟩ := ((s.eng.at t).setLoads [l.loaded recs (s.eng.at t)]).ok_landed_effect ⟨l.client, l.seq⟩ 0x0206
    ((s.eng.at t).lutLand l.target).1 0 (((s.eng.at t).lutLand l.target).2 && !l.overrun) l.overrun
  refine ⟨answered, ((Engine.setLoads_only _ _).andThen only).within, ?_⟩
  rw [Engine.landed_colour, Engine.ok_colour]
  exact ⟨rfl, _, rfl, rfl, rfl, rfl⟩

theorem does_lutLoadDone_notFound {l : LutPend} {x : Nat × Nat × Option Nat} {rest : List (Nat × Nat × Option Nat)}
    (hr : s.eng.sys.phase = .running) (one : s.eng.colour.loads = [l]) (loading : l.loadedAt = none)
    (client : l.own = false) (slots : l.slots = x :: rest) (buffer : x.2.2 ≠ none) (ns5 : x.2.1 = 1) :
    Does (.lutLoadDone t []) t s fun a b => b.replied ⟨l.client, l.seq⟩ 0x0206 .notFound .none [] ∧
      Engine.changesOnly [.colour, .ctl, .ep, .counters, .log] a b ∧ b.colour.slots = a.colour.slots ∧ b.colour.loads = [] ∧
      Engine.counted .lutRefused 0x0158 a b ∧ Engine.newEvents a b = [(0x0158, .lutRefused, le 1 x.1 ++ le 2 0)] := by
  refine Does.of_live (·.lutLoadDone s.flash []) rfl hr ?_
  have one : (s.eng.at t).colour.loads = [l] := by simpa using one
  rw [Engine.lutLoadDone_notFound one loading slots buffer ns5]
  exact Engine.lutRefused_effect one client x.1 .none (by decide)

theorem does_lutLoadDeadline {l : LutPend} {c : Nat} (hr : s.eng.sys.phase = .running) (one : s.eng.colour.loads = [l])
    (loading : l.loadedAt = none) (target : l.target = some c) (first : l.overrun = false)
    (due : (s.eng.at t).slotBy c - (ms 2 : Nat) ≤ ((s.eng.at t).now : Int)) :
    Does (.lutLoadDeadline t) t s fun a b => Engine.changesOnly [.colour, .ports, .cluster, .log, .counters] a b ∧
      b.colour.loads = [{ l with overrun := true }] ∧
      Engine.newEvents a b = [(0x0158, .fwOverrun, le 1 5 ++ le 1 1 ++ le 4 c ++ le 1 0)] := by
  refine Does.of_live (·.lutLoadDeadline) rfl hr ?_
  have one : (s.eng.at t).colour.loads = [l] := by simpa using one
  rw [Engine.lutLoadDeadline_missed one target (Engine.lutOverdue_one one loading target first due)]
  have late := ((s.eng.at t).setLoads [{ l with overrun := true }]).targetOverrun_only 0x0158 5 c
  exact ⟨((Engine.setLoads_only _ _).andThen late).within, congrArg Colour.loads late.colour_eq,
    Engine.targetOverrun_events _ rfl _ _ _⟩

end

/-- Settles O23: a load taken, the end of its reading either way, a missed deadline, and a usable file, by their lemmas. -/
theorem lutLoadsRunToTheirEnd : Obligations.LutLoadsRunToTheirEnd := by
  unfold Obligations.LutLoadsRunToTheirEnd
  exact ⟨fun _ _ _ _ _ _ _ => does_lutLoad, fun _ _ _ _ => does_lutLoadDone_loaded,
    fun _ _ _ _ _ => does_lutLoadDone_notFound, fun _ _ _ _ => does_lutLoadDeadline,
    fun _ _ _ _ _ => Engine.lutRead_file⟩

end Sys2Proof.Machine
end

section
/-! The media ports on request (O38; R212, R251 to R253, R257): the reel, playback, formatting and qualification. -/

namespace Sys2Proof.Machine

/-! A media port after changes of the ports, and what reads the ports. -/

section
variable (e : Engine)

theorem Engine.mport_congr {a b : Engine} (h : a.rec_ = b.rec_) (m : Nat) : a.mport m = b.mport m := by
  rw [Engine.mport, Engine.mport, h]

@[simp] theorem Engine.at_mport (t m : Nat) : (e.at t).mport m = e.mport m := Engine.mport_congr (e.at_rec t) m

@[simp] theorem Engine.received_mport (h : MsgHdr) (ty m : Nat) : (e.received h ty).mport m = e.mport m :=
  Engine.mport_congr (e.received_rec h ty) m

theorem Engine.modMedia_mport (m : Fin 4) (f : MediaPort → MediaPort) : (e.modMedia m f).mport m = f (e.mport m) :=
  vget_vmod_same e.rec_.ports m.isLt f _

theorem Engine.modMedia_mport_ne {m k : Nat} (h : m ≠ k) (f : MediaPort → MediaPort) : (e.modMedia m f).mport k = e.mport k :=
  vget_vmod_ne e.rec_.ports h f _

theorem Engine.modMedia_modMedia (m : Nat) (f g : MediaPort → MediaPort) :
    (e.modMedia m f).modMedia m g = e.modMedia m fun q => g (f q) := by
  simp only [Engine.modMedia, vmod_vmod]

@[simp] theorem Engine.emit_mport (src : Nat) (ev : Ev) (d : List Byte) (m : Nat) : (e.emit src ev d).mport m = e.mport m := rfl

/-- An event changes no port, and a change of a port no event. -/
theorem Engine.emit_modMedia (src : Nat) (ev : Ev) (d : List Byte) (m : Nat) (f : MediaPort → MediaPort) :
    (e.emit src ev d).modMedia m f = (e.modMedia m f).emit src ev d := rfl

/-- A request to format or to qualify is refused by the mode, the drives, the clips and the pending changes. -/
theorem Engine.mediaRefusal_congr {a b : Engine} (hr : a.rec_ = b.rec_) (hs : a.sys = b.sys) (m : Nat) :
    a.mediaRefusal m = b.mediaRefusal m := by
  have inSet : a.inSet m = b.inSet m := by rw [Engine.inSet, Engine.inSet, hr, hs]
  unfold Engine.mediaRefusal
  rw [hs, Engine.mport_congr hr, inSet]

/-! The engine's own commands (R287). -/

/-- A port given commands of the engine: they wait while its namespace drains, and are issued otherwise. -/
def MediaPort.given (us : List CmdUse) (drains : Bool) (q : MediaPort) : MediaPort :=
  if drains then { q with owed := q.owed ++ us }
  else { q with
    cmds := q.cmds ++ us.mapIdx fun i u =>
      (⟨q.nextCid + i, u, if u.admin then 0 else 1 + (q.nextCid + i) % max 1 q.queues, false, false, []⟩ : MediaCmd)
    nextCid := q.nextCid + us.length }

theorem Engine.ownCmds_eq_modMedia (m : Nat) (us : List CmdUse) :
    e.ownCmds m us = e.modMedia m (MediaPort.given us (e.epHolds m)) := by
  unfold Engine.ownCmds Engine.putCmds
  split
  · next drains => rw [drains]; rfl
  · next still => rw [Bool.eq_false_iff.2 still]; rfl

theorem Engine.ownCmds_only (m : Nat) (us : List CmdUse) : Engine.changesOnly [.recorder] e (e.ownCmds m us) := by
  rw [e.ownCmds_eq_modMedia]
  exact e.modMedia_only m _

/-- Whether a namespace drains is read from the endpoint's dirty data. -/
theorem Engine.epHolds_congr {a b : Engine} (h : a.ep.dirty = b.ep.dirty) (m : Nat) : a.epHolds m = b.epHolds m := by
  rw [Engine.epHolds, Engine.epHolds, h]

/-- A port changed, and then given commands. -/
theorem Engine.modMedia_ownCmds_mport (m : Fin 4) (f : MediaPort → MediaPort) (us : List CmdUse) :
    ((e.modMedia m f).ownCmds m us).mport m = (f (e.mport m)).given us (e.epHolds m) := by
  rw [Engine.ownCmds_eq_modMedia, Engine.modMedia_mport, Engine.modMedia_mport]
  rfl

theorem Engine.modMedia_ownCmds_mport_ne {m k : Nat} (h : m ≠ k) (f : MediaPort → MediaPort) (us : List CmdUse) :
    ((e.modMedia m f).ownCmds m us).mport k = e.mport k := by
  rw [Engine.ownCmds_eq_modMedia, Engine.modMedia_mport_ne _ h, Engine.modMedia_mport_ne _ h]

/-- A port changed and given commands: the recorder, from the recorder and the dirty data. -/
theorem Engine.modMedia_ownCmds_rec_congr {a b : Engine} (hr : a.rec_ = b.rec_) (hd : a.ep.dirty = b.ep.dirty) (m : Nat)
    (f : MediaPort → MediaPort) (us : List CmdUse) :
    ((a.modMedia m f).ownCmds m us).rec_ = ((b.modMedia m f).ownCmds m us).rec_ := by
  have drains : (a.modMedia m f).epHolds m = (b.modMedia m f).epHolds m := Engine.epHolds_congr hd m
  simp only [Engine.ownCmds_eq_modMedia, drains, Engine.modMedia_rec, hr]

end

/-! SET_REEL (R257). -/

section
variable {t : Nat} {h : MsgHdr} {s : State}

theorem does_setReel {reel : Nat} (hg : s.takes t h 0x0303) (least : 1 ≤ reel) (most : reel ≤ 999) :
    Does (.setReel t h reel) t s fun a b => b.replied h 0x0303 .ok .none [] ∧
      Engine.changesOnly [.recorder, .ctl, .ep, .counters] a b ∧ b.rec_ = { a.rec_ with reel := reel } := by
  refine Does.of_request h 0x0303 (·.setReel h reel) rfl hg ?_
  have range : ¬ (decide (reel = 0) || decide (999 < reel)) = true := by
    simp only [Bool.or_eq_true, decide_eq_true_eq]; omega
  rw [Engine.setReel, if_neg range]
  have set := ((s.eng.at t).received_only h 0x0303).andThen (Engine.modRec_only _ fun r => { r with reel := reel })
  refine ⟨Engine.replied_ok _ _ _, (set.andThen (Engine.ok_only _ _ _)).within, ?_⟩
  rw [Engine.ok_rec]
  exact congrArg (fun r : Recorder => { r with reel := reel }) (Engine.received_rec _ _ _)

end

/-! PLAY: the drives that hold a clip, and what playback makes of them (R212, R251). -/

section
variable (e : Engine)

/-- The drives that hold a clip, mounted or playing. -/
def Engine.clipDrives (f : ClipFolder) (e : Engine) : List Nat :=
  [0, 1, 2, 3].filter fun m =>
    (decide ((e.mport m).state = .mounted) || decide ((e.mport m).state = .playing)) && (e.mport m).folders.contains f

/-- A mounted drive that holds the clip is one of them. -/
theorem Engine.mem_clipDrives {f : ClipFolder} {m : Fin 4} (mounted : (e.mport m).state = .mounted)
    (holds : f ∈ (e.mport m).folders) : m.val ∈ e.clipDrives f :=
  List.mem_filter.2 ⟨by have := m.isLt; simp; omega, by simp [mounted, holds]⟩

theorem Engine.clipDrives_nodup (f : ClipFolder) : (e.clipDrives f).Nodup := List.Nodup.filter _ (by decide)

/-- Some drives play: they are PLAYING, and get their reads. -/
def Engine.drivesPlay (ports : List Nat) (e : Engine) : Engine :=
  ports.foldl (fun e m => (e.modMedia m fun q => { q with state := .playing }).ownCmds m [.read .playback]) e

theorem Engine.drivesPlay_only (ports : List Nat) : Engine.changesOnly [.recorder] e (e.drivesPlay ports) :=
  Engine.changesOnly_foldl _ (fun e m => Engine.changesOnly_trans (e.modMedia_only m _) (Engine.ownCmds_only _ _ _)) ports e

/-- Each drive that plays is changed once, as if it played alone; the others are as they were. -/
theorem Engine.drivesPlay_mport {ports : List Nat} (once : ports.Nodup) (m : Fin 4) :
    (e.drivesPlay ports).mport m =
      if m.val ∈ ports then ((e.modMedia m fun q => { q with state := .playing }).ownCmds m [.read .playback]).mport m
      else e.mport m := by
  induction ports generalizing e with
  | nil => rfl
  | cons k r ih =>
    obtain ⟨fresh, once⟩ := List.nodup_cons.1 once
    refine (ih _ once).trans ?_
    by_cases hk : k = m
    · subst hk
      rw [if_neg fresh, if_pos List.mem_cons_self]
    · have holds (x : Engine) (f : MediaPort → MediaPort) (us : List CmdUse) :
          ((x.modMedia k f).ownCmds k us).epHolds m = x.epHolds m :=
        Engine.epHolds_congr (congrArg Ep.dirty ((x.modMedia_only k f).andThen (Engine.ownCmds_only _ k us)).ep_eq) m
      simp only [List.mem_cons, Ne.symm hk, false_or, Engine.modMedia_ownCmds_mport, holds,
        Engine.modMedia_ownCmds_mport_ne _ hk]

theorem Engine.readVolumes_play (vols : List VolNow) : (e.readVolumes vols).rec_.play = e.rec_.play := by
  refine Engine.foldl_keeps (·.rec_.play) _ (fun e v => ?_) vols e
  split
  · rfl
  · rfl

/-- Reading the volumes makes the same of the same recorder. -/
theorem Engine.readVolumes_rec_congr {a b : Engine} (h : a.rec_ = b.rec_) (vols : List VolNow) :
    (a.readVolumes vols).rec_ = (b.readVolumes vols).rec_ := by
  induction vols generalizing a b with
  | nil => exact h
  | cons v r ih =>
    refine ih ?_
    dsimp only
    rw [Engine.mport_congr h]
    split
    · rw [Engine.modMedia_rec, Engine.modMedia_rec, h]
    · exact h

/-- PLAY in REVIEW, with nothing playing, of a clip that some drives hold: they play it. -/
theorem Engine.play_found (h : MsgHdr) {clip : List Nat} (start : Nat) {f : ClipFolder} {vols : List VolNow}
    (len : clip.length = 16) (zeros : (clip.drop 13).all (· = 0) = true) (review : e.sys.mode = .review)
    (idle : e.rec_.play = none) (named : parseClip clip = some f) (found : (e.readVolumes vols).clipDrives f ≠ []) :
    ∃ name source, e.play h clip start false 0 vols =
      ((((e.readVolumes vols).drivesPlay ((e.readVolumes vols).clipDrives f)).modRec fun r => { r with
        play := some ⟨name, start, false, 0, (e.readVolumes vols).clipDrives f, source, none, [], none⟩ }).ok h
          0x0304).epSync := by
  have padded : (clip.drop 13).any (· ≠ 0) = false := by
    simpa only [List.any_eq_false, List.all_eq_true, decide_eq_true_eq, ne_eq, not_not] using zeros
  have silent : (e.readVolumes vols).playEnd = e.readVolumes vols := by
    rw [Engine.playEnd, e.readVolumes_play, idle]
  have held : ¬ ((e.readVolumes vols).clipDrives f).isEmpty = true := by simpa using found
  unfold Engine.play
  rw [if_neg (by rw [padded, len]; decide), if_neg (not_not.2 review), named]
  dsimp only
  rw [silent]
  rw [← Engine.clipDrives, if_neg held]
  simp only [Bool.false_and, Bool.false_eq_true, if_false]
  exact ⟨_, _, rfl⟩

/-- PLAY of a clip that a mounted drive holds: the answer, and the drives that play (R212). -/
theorem Engine.play_effect (h : MsgHdr) {clip : List Nat} (start : Nat) {f : ClipFolder} {vols : List VolNow}
    (len : clip.length = 16) (zeros : (clip.drop 13).all (· = 0) = true) (review : e.sys.mode = .review)
    (idle : e.rec_.play = none) (named : parseClip clip = some f) (found : (e.readVolumes vols).clipDrives f ≠ []) {b : Engine}
    (hb : e.play h clip start false 0 vols = b) :
    b.replied h 0x0304 .ok .none [] ∧ Engine.changesOnly [.recorder, .ctl, .ep, .counters] e b ∧
      ∃ p, b.rec_.play = some p ∧ p.startCfn = start ∧ p.proxy = false ∧ p.ports ≠ [] ∧
        ∀ m : Fin 4, b.mport m = if m.val ∈ p.ports then
            (((e.readVolumes vols).modMedia m fun q => { q with state := .playing }).ownCmds m [.read .playback]).mport m
          else (e.readVolumes vols).mport m := by
  obtain ⟨name, source, plays⟩ := e.play_found h start len zeros review idle named found
  rw [← hb, plays]
  set drives := (e.readVolumes vols).clipDrives f
  set p : Play := ⟨name, start, false, 0, drives, source, none, [], none⟩
  set c := ((e.readVolumes vols).drivesPlay drives).modRec fun r => { r with play := some p }
  have answered := (c.ok_only h 0x0304).andThen (Engine.epSync_only _)
  have started := ((e.readVolumes_only vols).andThen (Engine.drivesPlay_only _ drives)).andThen
    (Engine.modRec_only _ fun r => { r with play := some p })
  refine ⟨?_, (started.andThen answered).within, p, congrArg Recorder.play answered.rec_eq, rfl, rfl, found, fun m => ?_⟩
  · exact Engine.replied_congr (c.replied_ok h 0x0304) (congrArg Control.sent (Engine.epSync_only _).ctl_eq)
  · rw [Engine.mport_congr answered.rec_eq]
    exact (e.readVolumes vols).drivesPlay_mport ((e.readVolumes vols).clipDrives_nodup f) m

end

section
variable {t : Nat} {h : MsgHdr} {s : State}

theorem does_play {clip : List Nat} {start : Nat} {f : ClipFolder} {vols : List VolNow} (hg : s.takes t h 0x0304)
    (len : clip.length = 16) (zeros : (clip.drop 13).all (· = 0) = true) (review : s.eng.sys.mode = .review)
    (idle : s.eng.rec_.play = none) (named : parseClip clip = some f)
    (found : ∃ m : Fin 4, ((s.eng.readVolumes vols).mport m).state = .mounted ∧ f ∈ ((s.eng.readVolumes vols).mport m).folders) :
    Does (.play t h ⟨clip, vols⟩ start false 0) t s fun a b => b.replied h 0x0304 .ok .none [] ∧
      Engine.changesOnly [.recorder, .ctl, .ep, .counters] a b ∧
      ∃ p, b.rec_.play = some p ∧ p.startCfn = start ∧ p.proxy = false ∧ p.ports ≠ [] ∧
        ∀ m : Fin 4, b.mport m = if m.val ∈ p.ports then
            (((a.readVolumes vols).modMedia m fun q => { q with state := .playing }).ownCmds m [.read .playback]).mport m
          else (a.readVolumes vols).mport m := by
  refine Does.of_request h 0x0304 (·.play h clip start false 0 vols) rfl hg ?_
  obtain ⟨m, mounted, holds⟩ := found
  have heard := (s.eng.at t).received_only h 0x0304
  have read := Engine.readVolumes_rec_congr heard.rec_eq vols
  have now : (((s.eng.at t).received h 0x0304).readVolumes vols).rec_ = (s.eng.readVolumes vols).rec_ :=
    Engine.readVolumes_rec_congr (by simp) vols
  have dirty : (((s.eng.at t).received h 0x0304).readVolumes vols).ep.dirty = ((s.eng.at t).readVolumes vols).ep.dirty := by
    rw [(Engine.readVolumes_only _ vols).ep_eq, (Engine.readVolumes_only _ vols).ep_eq, Engine.received_dirty]
  have drive := Engine.mport_congr now m
  obtain ⟨replied, only, p, play, starts, raw, used, ports⟩ := Engine.play_effect _ h start len zeros (by simpa using review)
    (by simpa using idle) named
    (List.ne_nil_of_mem (Engine.mem_clipDrives _ (drive ▸ mounted) (drive ▸ holds))) rfl
  refine ⟨replied, (heard.andThen only).within, p, play, starts, raw, used, fun m => (ports m).trans ?_⟩
  rw [Engine.mport_congr (Engine.modMedia_ownCmds_rec_congr read dirty m _ _), Engine.mport_congr read]

end

/-! PLAY_STOP: the drives of a playback are mounted again (R212). -/

/-- A drive whose playback has ended: its reads are gone, and it is mounted again. -/
def MediaPort.playEnded (q : MediaPort) : MediaPort :=
  { q with
    cmds := q.cmds.filter fun c => !CmdUse.of .playback c.use
    state := if q.state = .playing then .mounted else q.state }

theorem MediaPort.playEnded_playEnded (q : MediaPort) : q.playEnded.playEnded = q.playEnded := by
  have state : (if q.playEnded.state = .playing then DriveState.mounted else q.playEnded.state) = q.playEnded.state := by
    by_cases playing : q.state = .playing
    · simp [MediaPort.playEnded, playing]
    · simp [MediaPort.playEnded, playing]
  have cmds : q.playEnded.cmds.filter (fun c => !CmdUse.of .playback c.use) = q.playEnded.cmds := by
    simp [MediaPort.playEnded, List.filter_filter]
  rw [MediaPort.playEnded, state, cmds]

section
variable (e : Engine)

/-- Playback ends at some drives. -/
def Engine.drivesBack (ports : List Nat) (e : Engine) : Engine := ports.foldl (fun e m => e.modMedia m MediaPort.playEnded) e

theorem Engine.drivesBack_only (ports : List Nat) : Engine.changesOnly [.recorder] e (e.drivesBack ports) :=
  Engine.changesOnly_foldl _ (fun e m => e.modMedia_only m _) ports e

theorem Engine.drivesBack_mport (ports : List Nat) (m : Fin 4) :
    (e.drivesBack ports).mport m = if m.val ∈ ports then (e.mport m).playEnded else e.mport m := by
  induction ports generalizing e with
  | nil => rfl
  | cons k r ih =>
    refine (ih _).trans ?_
    by_cases hk : k = m
    · subst hk
      simp only [Engine.modMedia_mport, MediaPort.playEnded_playEnded, List.mem_cons_self, if_true, ite_self]
    · simp only [List.mem_cons, Ne.symm hk, false_or, Engine.modMedia_mport_ne _ hk]

theorem Engine.setAud_only (x : Audio) : Engine.changesOnly [.aud] e { e with aud := x } := by
  intro p hp
  cases p with
  | aud => exact absurd (by decide) hp
  | _ => rfl

/-- A playback of recorded pictures is over: its drives are back, and nothing plays (R212). -/
def Engine.playOver (ports : List Nat) (e : Engine) : Engine :=
  let e := (e.drivesBack ports).modRec fun r => { r with play := none }
  { e with aud := { e.aud with play := [] } }

theorem Engine.playOver_only (ports : List Nat) : Engine.changesOnly [.recorder, .aud] e (e.playOver ports) :=
  (((e.drivesBack_only ports).andThen (Engine.modRec_only _ _)).andThen (Engine.setAud_only _ _)).within

theorem Engine.playOver_aud (ports : List Nat) : (e.playOver ports).aud = { e.aud with play := [] } :=
  congrArg (fun x : Audio => { x with play := [] }) (Engine.changesOnly_get (e.drivesBack_only ports) .aud rfl).symm

theorem Engine.playOver_mport (ports : List Nat) (m : Fin 4) :
    (e.playOver ports).mport m = if m.val ∈ ports then (e.mport m).playEnded else e.mport m := e.drivesBack_mport ports m

theorem Engine.playEnd_recorded {p : Play} (play : e.rec_.play = some p) (raw : p.proxy = false) :
    e.playEnd = (e.playOver p.ports).epSync := by
  have each : (fun (e : Engine) m => (e.endCmds m (CmdUse.of .playback)).modMedia m fun q =>
      if q.state = .playing then { q with state := .mounted } else q) = fun e m => e.modMedia m MediaPort.playEnded := by
    funext e m
    rw [Engine.endCmds, Engine.modMedia_modMedia]
    congr 1
    funext q
    unfold MediaPort.playEnded
    dsimp only
    split_ifs with playing
    · rfl
    · rfl
  rw [Engine.playEnd, play]
  dsimp only
  rw [each, raw, if_neg Bool.false_ne_true]
  rfl

/-- What the end of such a playback leaves: no playback, no audio of it, and its drives mounted. -/
theorem Engine.playEnd_effect {p : Play} (play : e.rec_.play = some p) (raw : p.proxy = false) :
    Engine.changesOnly [.recorder, .aud, .ep] e e.playEnd ∧ e.playEnd.rec_.play = none ∧
      e.playEnd.aud = { e.aud with play := [] } ∧
      ∀ m : Fin 4, e.playEnd.mport m = if m.val ∈ p.ports then (e.mport m).playEnded else e.mport m := by
  rw [e.playEnd_recorded play raw]
  have synced := (e.playOver p.ports).epSync_only
  refine ⟨((e.playOver_only _).andThen synced).within, congrArg Recorder.play synced.rec_eq, ?_, fun m => ?_⟩
  · exact (Engine.changesOnly_get synced .aud rfl).symm.trans (e.playOver_aud _)
  · exact (Engine.mport_congr synced.rec_eq m).trans (e.playOver_mport _ m)

end

section
variable {t : Nat} {h : MsgHdr} {s : State}

theorem does_playStop {p : Play} (hg : s.takes t h 0x0305) (review : s.eng.sys.mode = .review)
    (play : s.eng.rec_.play = some p) (raw : p.proxy = false) :
    Does (.playStop t h) t s fun a b => b.replied h 0x0305 .ok .none [] ∧
      Engine.changesOnly [.recorder, .aud, .ctl, .ep, .counters] a b ∧ b.rec_.play = none ∧ b.aud = { a.aud with play := [] } ∧
      ∀ m : Fin 4, b.mport m = if m.val ∈ p.ports then (a.mport m).playEnded else a.mport m := by
  refine Does.of_request h 0x0305 (·.playStop h) rfl hg ?_
  rw [Engine.playStop, if_neg (not_not.2 (by simpa using review))]
  obtain ⟨only, ended, aud, ports⟩ := ((s.eng.at t).received h 0x0305).playEnd_effect (by simpa using play) raw
  have answered := Engine.ok_only ((s.eng.at t).received h 0x0305).playEnd h 0x0305
  refine ⟨Engine.replied_ok _ _ _, ((((s.eng.at t).received_only h 0x0305).andThen only).andThen answered).within, ?_, ?_,
    fun m => ?_⟩
  · rw [Engine.ok_rec, ended]
  · rw [Engine.ok_aud, aud, Engine.received_aud]
  · rw [Engine.mport_congr answered.rec_eq, ports m, Engine.received_mport]

end

/-! MEDIA_FORMAT (R252). -/

section
variable (e : Engine) (m : Fin 4)

/-- A drive that is being formatted: it has no qualification and no volume. -/
def MediaPort.formatting (q : MediaPort) : MediaPort :=
  { q with state := .formatting, qual := none, qualBin := none, volume := none }

theorem Engine.mediaFormat_allowed (h : MsgHdr) (free : e.mediaRefusal m = none) : e.mediaFormat h m =
    (((e.modMedia m MediaPort.formatting).ownCmds m [.deallocate .format, .write .format]).ok h 0x0306).epSync := by
  rw [Engine.mediaFormat, if_neg (by omega), free]
  rfl

theorem Engine.mediaFormat_refused (h : MsgHdr) {st : Status} {rs : Reason} (no : e.mediaRefusal m = some (st, rs)) :
    e.mediaFormat h m = e.refuse h 0x0306 st rs := by
  rw [Engine.mediaFormat, if_neg (by omega), no]

/-- A formatted drive with its new volume: \QX8 alone, and the format's commands done. -/
def MediaPort.formatted (v : Volume) (q : MediaPort) : MediaPort :=
  { q with
    cmds := q.cmds.filter fun c => !CmdUse.of .format c.use
    state := .mounted
    volume := some v
    free := v.fresh
    folders := []
    files := [] }

theorem Engine.mediaFormatDone_mounts {d : DriveInfo} (state : (e.mport m).state = .formatting)
    (drive : (e.mport m).drive = some d) :
    e.mediaFormatDone m = (e.modMedia m (MediaPort.formatted (e.newVolume d))).epSync := by
  rw [Engine.mediaFormatDone, state, drive]
  dsimp only
  rw [Engine.endCmds, Engine.modMedia_modMedia]
  rfl

end

section
variable {t : Nat} {h : MsgHdr} {m : Fin 4} {s : State}

theorem received_mediaRefusal (ty : Nat) : ((s.eng.at t).received h ty).mediaRefusal m = s.eng.mediaRefusal m :=
  Engine.mediaRefusal_congr (by simp) (by simp) m

theorem does_mediaFormat (hg : s.takes t h 0x0306) (free : s.eng.mediaRefusal m = none) :
    Does (.mediaFormat t h m) t s fun a b => b.replied h 0x0306 .ok .none [] ∧
      Engine.changesOnly [.recorder, .ctl, .ep, .counters] a b ∧
      b.rec_ = ((a.modMedia m MediaPort.formatting).ownCmds m [.deallocate .format, .write .format]).rec_ := by
  refine Does.of_request h 0x0306 (·.mediaFormat h m) rfl hg ?_
  have heard := (s.eng.at t).received_only h 0x0306
  rw [Engine.mediaFormat_allowed _ m h ((received_mediaRefusal _).trans free)]
  set r := (s.eng.at t).received h 0x0306
  have begun := (r.modMedia_only m MediaPort.formatting).andThen (Engine.ownCmds_only _ m [.deallocate .format, .write .format])
  set c := (r.modMedia m MediaPort.formatting).ownCmds m [.deallocate .format, .write .format]
  have synced := (c.ok h 0x0306).epSync_only
  have answered := (c.ok_only h 0x0306).andThen synced
  refine ⟨?_, ((heard.andThen begun).andThen answered).within, ?_⟩
  · exact Engine.replied_congr (c.replied_ok h 0x0306) (congrArg Control.sent synced.ctl_eq)
  · exact answered.rec_eq.trans (Engine.modMedia_ownCmds_rec_congr heard.rec_eq (Engine.received_dirty _ _ _) _ _ _)

theorem does_mediaFormat_refused {st : Status} {rs : Reason} (hg : s.takes t h 0x0306)
    (no : s.eng.mediaRefusal m = some (st, rs)) :
    Does (.mediaFormat t h m) t s fun a b => b.replied h 0x0306 st rs [] ∧ Engine.changesOnly [.ctl, .ep, .counters] a b := by
  refine Does.of_request h 0x0306 (·.mediaFormat h m) rfl hg ?_
  rw [Engine.mediaFormat_refused _ m h ((received_mediaRefusal _).trans no)]
  exact ⟨Engine.replied_refuse _ _ _ _ _, Engine.received_then_only h 0x0306 (Engine.refuse_only _ _ _ _ _)⟩

theorem does_mediaFormatDone {d : DriveInfo} (hr : s.eng.sys.phase = .running) (state : (s.eng.mport m).state = .formatting)
    (drive : (s.eng.mport m).drive = some d) :
    Does (.mediaFormatDone t m) t s fun a b => Engine.changesOnly [.recorder, .ep] a b ∧
      b.rec_ = { a.rec_ with ports := vmod a.rec_.ports m (MediaPort.formatted (a.newVolume d)) } := by
  refine Does.of_live (·.mediaFormatDone m) rfl hr ?_
  rw [Engine.mediaFormatDone_mounts _ m (by simpa using state) (by simpa using drive)]
  have synced := ((s.eng.at t).modMedia m (MediaPort.formatted ((s.eng.at t).newVolume d))).epSync_only
  exact ⟨((Engine.modMedia_only _ _ _).andThen synced).within, synced.rec_eq⟩

end

/-! MEDIA_QUALIFY (R253). -/

/-- The least of some numbers is one of them, and no greater than any. -/
theorem leastOf_least {l : List Nat} (nonempty : l ≠ []) : leastOf l ∈ l ∧ ∀ r ∈ l, leastOf l ≤ r := by
  induction l with
  | nil => exact absurd rfl nonempty
  | cons a r ih =>
    cases r with
    | nil => exact ⟨List.mem_singleton_self a, fun x hx => (List.mem_singleton.1 hx).ge⟩
    | cons b r =>
      obtain ⟨mem, least⟩ := ih (List.cons_ne_nil b r)
      refine ⟨?_, fun x hx => ?_⟩
      · change min a (leastOf (b :: r)) ∈ a :: b :: r
        obtain first | rest := min_choice a (leastOf (b :: r))
        · rw [first]; exact List.mem_cons_self
        · rw [rest]; exact List.mem_cons_of_mem a mem
      · obtain rfl | hx := List.mem_cons.1 hx
        · exact Nat.min_le_left _ _
        · exact Nat.le_trans (Nat.min_le_right _ _) (least x hx)

section
variable (e : Engine) (m : Fin 4)

/-- A drive under test: QUAL.TMP takes its free space but for 1 GiB, at most 512 GiB, and the requester waits. -/
def MediaPort.qualifying (h : MsgHdr) (q : MediaPort) : MediaPort :=
  { q with
    state := .qualifying
    qualifier := some (h.client, h.seq)
    qualTmp := some (min (q.free - 1073741824) 549755813888) }

theorem Engine.mediaQualify_begins (h : MsgHdr) (free : e.mediaRefusal m = none) (mounted : (e.mport m).state = .mounted)
    (room : 68719476736 ≤ (e.mport m).free) :
    e.mediaQualify h m =
      ((e.modMedia m (MediaPort.qualifying h)).ownCmds m [.write .qualify, .read .qualify]).epSync := by
  rw [Engine.mediaQualify, if_neg (by omega), free]
  dsimp only
  rw [if_neg (by rw [mounted]; decide), if_neg (Nat.not_lt.2 room)]
  rfl

/-- A drive whose test has given it a rate: its QUAL.BIN is written, and nobody waits. -/
def MediaPort.qualified (q : Nat) (bin : List Byte) (p : MediaPort) : MediaPort :=
  { p with
    cmds := p.cmds.filter fun c => !CmdUse.of .qualify c.use
    state := .mounted
    qual := some q
    qualBin := some bin
    qualTmp := none
    qualifier := none }

theorem Engine.qualAnswer_waiting {c : Client} {seq : Nat} (waits : (e.mport m).qualifier = some (c, seq)) (st : Status)
    (rs : Reason) : e.qualAnswer m st rs =
      (e.modMedia m fun q => { q with qualifier := none }).reply ⟨c, seq⟩ 0x0307 st rs [] := by
  rw [Engine.qualAnswer, waits]

/-- The end of a test (R253): the drive's rate, the event, and the answer that the request waited for. -/
theorem Engine.mediaQualified_answers {d : DriveInfo} {c : Client} {seq q : Nat} {rates : List Nat}
    (state : (e.mport m).state = .qualifying) (drive : (e.mport m).drive = some d)
    (waits : (e.mport m).qualifier = some (c, seq)) (least : leastOf ((rates.drop 10).take 20) = q) :
    e.mediaQualified m rates =
      (((e.modMedia m (MediaPort.qualified q (qualBin d q (100 * e.cfg.qualRead) (dtbSec e.dtb)))).emit (mediaSrc m)
        .mediaQualified (evData [(4, q)])).ok ⟨c, seq⟩ 0x0307).epSync := by
  rw [Engine.mediaQualified, state, drive]
  dsimp only
  rw [least, Engine.endCmds, Engine.modMedia_modMedia]
  rw [Engine.qualAnswer_waiting (c := c) (seq := seq)]
  · rw [Engine.emit_modMedia, Engine.modMedia_modMedia]
    rfl
  · rw [Engine.emit_mport, Engine.modMedia_mport]
    exact waits

end

section
variable {t : Nat} {h : MsgHdr} {m : Fin 4} {s : State}

theorem does_mediaQualify (hg : s.takes t h 0x0307) (free : s.eng.mediaRefusal m = none)
    (mounted : (s.eng.mport m).state = .mounted) (room : 68719476736 ≤ (s.eng.mport m).free) :
    Does (.mediaQualify t h m) t s fun a b => Engine.changesOnly [.recorder, .ctl, .ep] a b ∧ b.ctl.sent = a.ctl.sent ∧
      b.rec_ = ((a.modMedia m (MediaPort.qualifying h)).ownCmds m [.write .qualify, .read .qualify]).rec_ := by
  refine Does.of_request h 0x0307 (·.mediaQualify h m) rfl hg ?_
  have heard := (s.eng.at t).received_only h 0x0307
  rw [Engine.mediaQualify_begins _ m h ((received_mediaRefusal _).trans free) (by simpa using mounted) (by simpa using room)]
  set r := (s.eng.at t).received h 0x0307
  have begun := (r.modMedia_only m (MediaPort.qualifying h)).andThen (Engine.ownCmds_only _ m [.write .qualify, .read .qualify])
  have synced := ((r.modMedia m (MediaPort.qualifying h)).ownCmds m [.write .qualify, .read .qualify]).epSync_only
  refine ⟨((heard.andThen begun).andThen synced).within, ?_, ?_⟩
  · exact (congrArg Control.sent (begun.andThen synced).ctl_eq).trans (Engine.received_sent _ _ _)
  · exact synced.rec_eq.trans (Engine.modMedia_ownCmds_rec_congr heard.rec_eq (Engine.received_dirty _ _ _) _ _ _)

theorem does_mediaQualified {d : DriveInfo} {rates : List Nat} {c : Client} {sq : Nat} (hr : s.eng.sys.phase = .running)
    (state : (s.eng.mport m).state = .qualifying) (drive : (s.eng.mport m).drive = some d)
    (waits : (s.eng.mport m).qualifier = some (c, sq)) (long : 11 ≤ rates.length) :
    Does (.mediaQualified t m rates) t s fun a b => b.replied ⟨c, sq⟩ 0x0307 .ok .none [] ∧
      Engine.changesOnly [.recorder, .ctl, .ep, .counters, .log] a b ∧
      ∃ q, q ∈ (rates.drop 10).take 20 ∧ (∀ r ∈ (rates.drop 10).take 20, q ≤ r) ∧
        b.rec_ = { a.rec_ with
          ports := vmod a.rec_.ports m (MediaPort.qualified q (qualBin d q (100 * a.cfg.qualRead) (dtbSec a.dtb))) } ∧
        Engine.newEvents a b = [(0x0210 + m.val, .mediaQualified, le 4 q)] := by
  refine Does.of_live (·.mediaQualified m rates) rfl hr ?_
  obtain ⟨mem, least⟩ := leastOf_least (l := (rates.drop 10).take 20) (by
    rw [← List.length_pos_iff, List.length_take, List.length_drop]
    omega)
  rw [Engine.mediaQualified_answers _ m (by simpa using state) (by simpa using drive) (by simpa using waits) rfl]
  set q := leastOf ((rates.drop 10).take 20)
  set p := (s.eng.at t).modMedia m
    (MediaPort.qualified q (qualBin d q (100 * (s.eng.at t).cfg.qualRead) (dtbSec (s.eng.at t).dtb)))
  have logged := p.emit_only (mediaSrc m) .mediaQualified (evData [(4, q)])
  have answered := Engine.ok_only (p.emit (mediaSrc m) .mediaQualified (evData [(4, q)])) ⟨c, sq⟩ 0x0307
  have synced := ((p.emit (mediaSrc m) .mediaQualified (evData [(4, q)])).ok ⟨c, sq⟩ 0x0307).epSync_only
  refine ⟨?_, ((((Engine.modMedia_only _ _ _).andThen logged).andThen answered).andThen synced).within, q, mem, least, ?_, ?_⟩
  · exact Engine.replied_congr (Engine.replied_ok _ ⟨c, sq⟩ 0x0307) (congrArg Control.sent synced.ctl_eq)
  · exact ((logged.andThen answered).andThen synced).rec_eq
  · rw [Engine.newEvents_of_log _ (answered.andThen synced).log_eq]
    exact Engine.newEvents_emit_data _ _ _ (Engine.modMedia_log _ _ _)

end

/-- Settles O38: the reel, playback and its stop, a format and its end, a qualification and its end, by their lemmas. -/
theorem mediaRequestsServed : Obligations.MediaRequestsServed := by
  unfold Obligations.MediaRequestsServed
  exact ⟨fun _ _ _ _ => does_setReel, fun _ _ _ _ _ _ _ => does_play, fun _ _ _ _ => does_playStop,
    fun _ _ _ _ => does_mediaFormat, fun _ _ _ _ _ _ => does_mediaFormat_refused, fun _ _ _ _ => does_mediaFormatDone,
    fun _ _ _ _ => does_mediaQualify, fun _ _ _ _ _ _ _ => does_mediaQualified⟩

end Sys2Proof.Machine
end

section
/-! Flowstone pictures (O33; R192 to R212): bands decided, tiles coded, checked and written late, pictures complete, and
recorded pictures decoded and played. -/

namespace Sys2Proof.Machine

/-! A stream after changes of the streams. -/

theorem Engine.changesOnly.fsr_eq {ps : List Part} {a b : Engine} (h : Engine.changesOnly ps a b)
    (out : decide (Part.fsr ∈ ps) = false := by rfl) : b.fsr = a.fsr := (Engine.changesOnly_get h .fsr out).symm

/-- The oldest entry that a test picks, when the first one passes it. -/
theorem modFirst_cons_pos {α : Type} {q : α → Bool} {x : α} (h : q x = true) (f : α → α) (r : List α) :
    modFirst q f (x :: r) = f x :: r := by
  rw [modFirst, if_pos h]

section
variable (e : Engine)

theorem Engine.stream_congr {a b : Engine} (h : a.fsr = b.fsr) (k : Nat) : a.stream k = b.stream k := by
  rw [Engine.stream, Engine.stream, h]

@[simp] theorem Engine.at_stream (t k : Nat) : (e.at t).stream k = e.stream k := Engine.stream_congr (e.at_fsr t) k

theorem Engine.modStream_stream (k : Fin 8) (f : FsrStream → FsrStream) : (e.modStream k f).stream k = f (e.stream k) :=
  vget_vmod_same e.fsr.streams k.isLt f _

/-- A change of a stream is what it makes of the stream as it stands. -/
theorem Engine.modStream_congr (k : Nat) {f g : FsrStream → FsrStream} (h : f (e.stream k) = g (e.stream k)) :
    e.modStream k f = e.modStream k g := by
  rw [Engine.modStream, Engine.modStream, vmod_congr e.fsr.streams k FsrStream.reset h]

/-- The one picture of a stream replaced. -/
theorem Engine.modStream_onePic {k : Nat} {pic : FsrPic} (one : (e.stream k).pics = [pic]) {q : FsrPic → Bool}
    (picked : q pic = true) (pic' : FsrPic) :
    (e.modStream k fun st => { st with pics := modFirst q (fun _ => pic') st.pics }) =
      e.modStream k fun st => { st with pics := [pic'] } :=
  e.modStream_congr k (by rw [one, modFirst_cons_pos picked])

/-! The model of a phase and band (R206). -/

theorem Engine.fsLearn_undecided {pic : FsrPic} {b : Nat} (h : pic.bands[b]? = none) (k : Nat) : e.fsLearn k pic b = e := by
  rw [Engine.fsLearn, h]

theorem Engine.fsLearn_unfinished {k b : Nat} {pic : FsrPic} (h : pic.bandDone (e.cfg.tileCols k) b = false) :
    e.fsLearn k pic b = e := by
  unfold Engine.fsLearn
  split
  · rfl
  · rw [if_pos (by simp [h])]

/-! FSR_BAND_DECIDE (R205). -/

/-- A decided quantiser index is at most 63, or 255 for an emergency band. -/
theorem Engine.fsDecide_qi (k : Nat) (pic : FsrPic) (b : Nat) : (e.fsDecide k pic b).qi ≤ 255 := by
  unfold Engine.fsDecide
  extract_lets c t nb a done prev left x sumX share lim goal lo qi
  split
  · exact Nat.le_refl _
  · have found : qi ≤ 63 := by
      unfold qi
      cases hq : ((List.range (64 - lo)).map (lo + ·)).find? fun q => fsrEst (x b) t q ≤ goal with
      | none => exact Nat.le_refl _
      | some q =>
        obtain ⟨i, hi, rfl⟩ := List.mem_map.1 (List.mem_of_find?_eq_some hq)
        have := List.mem_range.1 hi
        dsimp only [Option.getD]
        omega
    exact Nat.le_trans found (by decide)

/-- A picture with one more band decided (R205). -/
def FsrPic.decided (d : FsrBand) (pic : FsrPic) : FsrPic :=
  { pic with bands := pic.bands ++ [d], flags := if d.qi = 255 then pic.flags ||| picRcEmergency else pic.flags }

theorem Engine.fsrBandDecide_one {k : Nat} {pic : FsrPic} {b : Nat} (cbr : e.cfg.fsMode k = 2)
    (one : (e.stream k).pics = [pic]) (next : pic.bands.length = b) (more : b < e.cfg.fsBands k)
    (written : ∀ j < b - 1, pic.bandDone (e.cfg.tileCols k) j = true)
    (unfinished : pic.bandDone (e.cfg.tileCols k) b = false) :
    e.fsrBandDecide k b = e.modStream k fun st => { st with pics := [pic.decided (e.fsDecide k pic b)] } := by
  unfold Engine.fsrBandDecide
  extract_lets t ready
  have picked : ready pic = true := by
    simp only [ready, next, more, Bool.and_eq_true, decide_eq_true_eq, List.all_eq_true, List.mem_range]
    exact ⟨⟨trivial, trivial⟩, written⟩
  rw [if_neg (not_not.2 cbr), one, List.find?_cons_of_pos picked]
  dsimp only
  rw [Engine.modStream_onePic e one picked]
  exact Engine.fsLearn_unfinished _ unfinished

end

section
variable {t : Nat} {k : Fin 8} {s : State}

theorem does_fsrBandDecide {band : Nat} {pic : FsrPic} (hr : s.eng.sys.phase = .running) (cbr : s.eng.cfg.fsMode k = 2)
    (one : (s.eng.stream k).pics = [pic]) (next : pic.bands.length = band) (more : band < s.eng.cfg.fsBands k)
    (written : ∀ j < band - 1, pic.bandDone (s.eng.cfg.tileCols k) j = true)
    (unfinished : pic.bandDone (s.eng.cfg.tileCols k) band = false) :
    Does (.fsrBandDecide t k band) t s fun a b => Engine.changesOnly [.fsr] a b ∧
      ∃ d, d = a.fsDecide k pic band ∧ d.qi ≤ 255 ∧
        b.fsr = { a.fsr with streams := vmod a.fsr.streams k fun q => { q with pics := [pic.decided d] } } := by
  refine Does.of_live (·.fsrBandDecide k band) rfl hr ?_
  rw [Engine.fsrBandDecide_one _ (by simpa using cbr) (by simpa using one) next (by simpa using more) (by simpa using written)
    (by simpa using unfinished)]
  exact ⟨Engine.modStream_only _ _ _, _, rfl, Engine.fsDecide_qi _ _ _ _, rfl⟩

end

/-! FSR_TILE_CODED: the self-check and what is written (R192, R194, R207 to R209). -/

/-- A tile whose first check passes is written as its engine coded it. -/
theorem checkedTile_passed {x : TileIn} {o : TileOut} {band : Option FsrBand} {errs1 errs2 : List (Nat × Byte)}
    (passed : (checkedTile x o band errs1 errs2).2 = 0) : (checkedTile x o band errs1 errs2).1 =
      ⟨{ o.tile with bytes := flipBytes errs1 o.tile.bytes }, o.raw⟩ := by
  unfold checkedTile at passed ⊢
  dsimp only at passed ⊢
  split_ifs at passed ⊢
  rfl

/-- A tile that fails both checks is written in the form of R209. -/
theorem checkedTile_failed {x : TileIn} {o : TileOut} {band : Option FsrBand} {errs1 errs2 : List (Nat × Byte)}
    (failed : (checkedTile x o band errs1 errs2).2 = 2) :
    (checkedTile x o band errs1 errs2).1 = failTile x (recodeTile x o.tile band) band := by
  unfold checkedTile at failed ⊢
  dsimp only at failed ⊢
  split_ifs at failed ⊢
  · exact absurd (show 1 = 2 from failed) (by decide)
  · rfl

/-- The form of R209 with no limit of pages: RAW, with both flags. -/
theorem failTile_unlimited (x : TileIn) (o : TileOut) : failTile x o none =
    ⟨{ o.tile with mode := 2, qi := 0, bytes := codeRaw x, flags := tileReenc ||| tileVerifyFail }, o.raw⟩ := by
  simp [failTile, TileForm.within]

/-- A tile in lossless mode that RAW codes shorter is RAW (R194). -/
theorem Cfg.codeTile_raw {c : Cfg} {k : Nat} (lossless : c.fsMode k = 0) (col b : Nat) {x : TileIn}
    (shorter : (codeRaw x).length < (codeLossless x).length) :
    c.codeTile k col b x none = ⟨⟨col, b, 2, 0, 0, codeRaw x, (codeLossless x).length⟩, true⟩ := by
  simp [Cfg.codeTile, TileForm.orRaw, lossless, shorter]

/-- Otherwise it is losslessly coded (R192). -/
theorem Cfg.codeTile_lossless {c : Cfg} {k : Nat} (lossless : c.fsMode k = 0) (col b : Nat) {x : TileIn}
    (fits : (codeLossless x).length ≤ (codeRaw x).length) :
    c.codeTile k col b x none = ⟨⟨col, b, 0, 0, 0, codeLossless x, (codeLossless x).length⟩, false⟩ := by
  simp [Cfg.codeTile, TileForm.orRaw, lossless, Nat.not_lt.2 fits]

/-- A picture with a tile that was coded and checked: the first tile with a mismatch is kept. -/
def FsrPic.written (col b : Nat) (o : TileOut × Nat) (pic : FsrPic) : FsrPic :=
  { pic.addTile o.1.tile with
    mism := pic.mism + min 1 o.2
    mismFirst := if 0 < o.2 ∧ pic.mism = 0 then (col, b) else pic.mismFirst }

section
variable (e : Engine)

/-- What a coded tile counts: RAW for a longer coding, a coding held to the limit, and a mismatch. -/
def Engine.tileCounted (k : Nat) (o : TileOut × Nat) (e : Engine) : Engine :=
  ((e.bumpN .fsrRawTile (fsrSrc k) 0 (bit o.1.raw)).bumpN .fsrTileLimit (fsrSrc k) 0
    (bit (o.1.tile.flags &&& tileLimit ≠ 0))).bumpN .fsrVerifyMismatch (fsrSrc k) 0 (min 1 o.2)

theorem Engine.tileCounted_only (k : Nat) (o : TileOut × Nat) : Engine.changesOnly [.counters] e (e.tileCounted k o) :=
  (((e.bumpN_only _ _ _ _).andThen (Engine.bumpN_only _ _ _ _ _)).andThen (Engine.bumpN_only _ _ _ _ _)).within

/-- What a coded tile counts and logs, with a second failure of its check laid on its engine. -/
def Engine.tileReported (k g : Nat) (o : TileOut × Nat) (e : Engine) : Engine :=
  if o.2 = 2 then (e.tileCounted k o).fsEngineFail k g else e.tileCounted k o

theorem Engine.setFsr_only (x : Fsr) : Engine.changesOnly [.fsr] e { e with fsr := x } := by
  intro p hp
  cases p with
  | fsr => exact absurd (by decide) hp
  | _ => rfl

/-- An engine's failure of both checks, before it is taken out of service: counted, logged, and one more of its failures. -/
def Engine.fsEngineFailed (k g : Nat) (e : Engine) : Engine :=
  let e := (e.bump .fsrVerifyFail (fsrSrc k)).emit (fsrSrc k) .fsrVerifyFail (evData [(4, g)])
  { e with fsr := { e.fsr with fails := vmod e.fsr.fails g fun _ => vget e.fsr.fails g 0 + 1 } }

/-- An engine taken out of service, with its event. -/
def Engine.fsEngineOff (g : Nat) (e : Engine) : Engine :=
  { e with fsr := { e.fsr with inService := vmod e.fsr.inService g fun _ => false } }.emit (0x0190 + g) .fsrEngineOff []

theorem Engine.fsEngineFailed_only (k g : Nat) : Engine.changesOnly [.fsr, .counters, .log] e (e.fsEngineFailed k g) :=
  (((e.bump_only _ _).andThen (Engine.emit_only _ _ _ _)).andThen (Engine.setFsr_only _ _)).within

theorem Engine.fsEngineFailed_fsr (k g : Nat) :
    (e.fsEngineFailed k g).fsr = { e.fsr with fails := vmod e.fsr.fails g fun _ => vget e.fsr.fails g 0 + 1 } := by
  simp [Engine.fsEngineFailed]

theorem Engine.fsEngineFailed_events (k g : Nat) :
    Engine.newEvents e (e.fsEngineFailed k g) = [(fsrSrc k, .fsrVerifyFail, evData [(4, g)])] :=
  Engine.newEvents_emit_data _ _ _ (e.bump_log _ _)

theorem Engine.fsEngineOff_only (g : Nat) : Engine.changesOnly [.fsr, .log] e (e.fsEngineOff g) :=
  ((e.setFsr_only _).andThen (Engine.emit_only _ _ _ _)).within

/-- An engine in service goes out of it at its second failure in a run (R209). -/
theorem Engine.fsEngineFail_eq (k g : Nat) : e.fsEngineFail k g =
    if vget e.fsr.fails g 0 + 1 = 2 ∧ vget e.fsr.inService g false = true then (e.fsEngineFailed k g).fsEngineOff g
    else e.fsEngineFailed k g := by
  have fsr : (e.bump .fsrVerifyFail (fsrSrc k)).fsr = e.fsr := e.bump_fsr _ _
  unfold Engine.fsEngineFail Engine.fsEngineFailed Engine.fsEngineOff
  simp only [Engine.emit_fsr, fsr]

theorem Engine.fsEngineFail_only (k g : Nat) : Engine.changesOnly [.fsr, .counters, .log] e (e.fsEngineFail k g) := by
  have failed := e.fsEngineFailed_only k g
  rw [e.fsEngineFail_eq]
  split
  · exact (failed.andThen (Engine.fsEngineOff_only _ g)).within
  · exact failed

theorem Engine.fsEngineFail_streams (k g : Nat) : (e.fsEngineFail k g).fsr.streams = e.fsr.streams := by
  have failed := congrArg Fsr.streams (e.fsEngineFailed_fsr k g)
  rw [e.fsEngineFail_eq]
  split
  · exact failed
  · exact failed

/-- The counters of an engine's failure: one more of its stream, and no other moves. -/
theorem Engine.fsEngineFail_counters (k g : Nat) :
    (e.fsEngineFail k g).counters = (e.bump .fsrVerifyFail (fsrSrc k)).counters := by
  rw [e.fsEngineFail_eq]
  split
  · rfl
  · rfl

/-- An engine's failure in a run (R209): one more of its own, and at the second it is out of service, which is logged too. -/
theorem Engine.fsEngineFail_effect {k : Nat} {g : Fin 32} (service : vget e.fsr.inService g false = true) :
    vget (e.fsEngineFail k g).fsr.fails g 0 = vget e.fsr.fails g 0 + 1 ∧
      (vget e.fsr.fails g 0 + 1 = 2 → vget (e.fsEngineFail k g).fsr.inService g true = false ∧
        Engine.newEvents e (e.fsEngineFail k g) = [(fsrSrc k, .fsrVerifyFail, le 4 g), (0x0190 + g.val, .fsrEngineOff, [])]) ∧
      (vget e.fsr.fails g 0 + 1 ≠ 2 → (e.fsEngineFail k g).fsr.inService = e.fsr.inService ∧
        Engine.newEvents e (e.fsEngineFail k g) = [(fsrSrc k, .fsrVerifyFail, le 4 g)]) := by
  have fsr := e.fsEngineFailed_fsr k g
  have fails : vget (e.fsEngineFailed k g).fsr.fails g 0 = vget e.fsr.fails g 0 + 1 := by
    rw [fsr]
    exact vget_vmod_same _ g.isLt _ _
  have logged := e.fsEngineFailed_events k g
  rw [e.fsEngineFail_eq]
  by_cases second : vget e.fsr.fails g 0 + 1 = 2
  · rw [if_pos ⟨second, service⟩]
    refine ⟨fails, fun _ => ⟨vget_vmod_same _ g.isLt _ _, ?_⟩, fun other => absurd second other⟩
    have grows : e.log.held.length ≤ (e.fsEngineFailed k g).log.held.length := by
      simp [Engine.fsEngineFailed, Engine.emit_held]
    exact (Engine.newEvents_emit_next _ _ _ grows).trans (congrArg (· ++ [_]) logged)
  · rw [if_neg fun h => second h.1]
    exact ⟨fails, fun two => absurd two second, fun _ => ⟨by rw [fsr], logged⟩⟩

theorem Engine.tileReported_only (k g : Nat) (o : TileOut × Nat) :
    Engine.changesOnly [.fsr, .counters, .log] e (e.tileReported k g o) := by
  unfold Engine.tileReported
  split
  · exact ((e.tileCounted_only k o).andThen (Engine.fsEngineFail_only _ k g)).within
  · exact (e.tileCounted_only k o).within

theorem Engine.tileReported_stream (k g : Nat) (o : TileOut × Nat) (j : Nat) :
    (e.tileReported k g o).stream j = e.stream j := by
  have counted : (e.tileCounted k o).fsr = e.fsr := (e.tileCounted_only k o).fsr_eq
  unfold Engine.tileReported Engine.stream
  split
  · rw [Engine.fsEngineFail_streams, counted]
  · rw [counted]

/-- A tile waits to be written as the configuration and its picture have it. -/
theorem Engine.fsWaiting_congr {a b : Engine} (h : a.cfg = b.cfg) (k col band : Nat) (late : Bool) :
    a.fsWaiting k col band late = b.fsWaiting k col band late := by
  funext pic
  rw [Engine.fsWaiting, Engine.fsWaiting, h]

@[simp] theorem Engine.at_fsWaiting (t k col b : Nat) (late : Bool) :
    (e.at t).fsWaiting k col b late = e.fsWaiting k col b late := Engine.fsWaiting_congr (e.at_cfg t) k col b late

@[simp] theorem Engine.at_fsTile (t k : Nat) (pic : FsrPic) (col b : Nat) :
    (e.at t).fsTile k pic col b = e.fsTile k pic col b := by
  rw [Engine.fsTile, Engine.fsTile, e.at_cfg]

/-- A tile without flags leaves those of its picture. -/
theorem FsrPic.addTile_plain {w : FsrTile} (plain : w.flags = 0) (pic : FsrPic) :
    pic.addTile w = { pic with tiles := pic.tiles ++ [w] } := by
  simp [FsrPic.addTile, plain]

/-- A tile coded in lossless mode by an engine in service: reported, and written into its picture. -/
theorem Engine.fsrTileCoded_lossless {k col b g : Nat} {errs1 errs2 : List (Nat × Byte)} {pic : FsrPic} {x : TileIn}
    (lossless : e.cfg.fsMode k = 0) (one : (e.stream k).pics = [pic]) (undecided : pic.bands = [])
    (waits : e.fsWaiting k col b false pic = true) (tile : e.fsTile k pic col b = x)
    (service : vget e.fsr.inService g false = true) {o : TileOut × Nat}
    (checked : checkedTile x (e.cfg.codeTile k col b x none) none errs1 errs2 = o) :
    e.fsrTileCoded k col b g errs1 errs2 =
      (e.tileReported k g o).modStream k fun st => { st with pics := [pic.written col b o] } := by
  have cbr : ¬ e.cfg.fsMode k = 2 := by rw [lossless]; decide
  have same : (e.tileReported k g o).fsWaiting k col b false = e.fsWaiting k col b false :=
    Engine.fsWaiting_congr (e.tileReported_only k g o).cfg_eq _ _ _ _
  have written := (e.tileReported k g o).modStream_onePic ((congrArg _ (e.tileReported_stream k g o k)).trans one)
    (congrFun same pic ▸ waits) (pic.written col b o)
  unfold Engine.fsrTileCoded
  rw [one, List.find?_cons_of_pos waits]
  dsimp only
  rw [service, if_neg (by decide), if_neg cbr, tile, checked]
  refine Eq.trans ?_ written
  exact Engine.fsLearn_undecided _ (by simp [FsrPic.addTile, undecided]) _

/-- A tile whose first check passes, without flags, counts as RAW or not at all. -/
theorem Engine.tileReported_passed {k g : Nat} {o : TileOut × Nat} (passed : o.2 = 0) (plain : o.1.tile.flags = 0) :
    e.tileReported k g o = e.bumpN .fsrRawTile (fsrSrc k) 0 (bit o.1.raw) := by
  simp [Engine.tileReported, Engine.tileCounted, passed, plain, Engine.bumpN, bit]

/-- A tile that fails both checks: both counters, and its engine's failure. -/
theorem Engine.tileReported_failed {k : Nat} {g : Fin 32} {o : TileOut × Nat} (failed : o.2 = 2)
    (service : vget e.fsr.inService g false = true) {b : Engine} (hb : e.tileReported k g o = b) :
    Engine.counted .fsrVerifyFail (fsrSrc k) e b ∧ Engine.counted .fsrVerifyMismatch (fsrSrc k) e b ∧
      vget b.fsr.fails g 0 = vget e.fsr.fails g 0 + 1 ∧
      (vget e.fsr.fails g 0 + 1 = 2 → vget b.fsr.inService g true = false ∧
        Engine.newEvents e b = [(fsrSrc k, .fsrVerifyFail, le 4 g), (0x0190 + g.val, .fsrEngineOff, [])]) ∧
      (vget e.fsr.fails g 0 + 1 ≠ 2 → b.fsr.inService = e.fsr.inService ∧
        Engine.newEvents e b = [(fsrSrc k, .fsrVerifyFail, le 4 g)]) := by
  have counted := e.tileCounted_only k o
  have fsr := counted.fsr_eq
  have effect := (e.tileCounted k o).fsEngineFail_effect (k := k) (g := g) (by rw [fsr]; exact service)
  rw [Engine.newEvents_congr counted.log_eq, fsr] at effect
  rw [← hb, Engine.tileReported, if_pos failed]
  refine ⟨?_, ?_, effect⟩
  · refine Engine.counted_of_counters (Engine.counted_bump_of_ctr (c := .fsrVerifyFail) ?_) rfl
      (Engine.fsEngineFail_counters _ k g)
    unfold Engine.tileCounted
    rw [Engine.bumpN_ctr_ne _ (by decide), Engine.bumpN_ctr_ne _ (by decide), Engine.bumpN_ctr_ne _ (by decide)]
  · refine Engine.counted_of_counters (Engine.counted.then_bump (c' := .fsrVerifyFail) ?_ (by decide) (fsrSrc k)) rfl
      (Engine.fsEngineFail_counters _ k g)
    unfold Engine.tileCounted
    rw [failed]
    refine Engine.counted_bump_of_ctr ?_
    rw [Engine.bumpN_ctr_ne _ (by decide), Engine.bumpN_ctr_ne _ (by decide)]

end

section
variable {t : Nat} {k : Fin 8} {col band : Nat} {g : Fin 32} {s : State}

theorem does_fsrTileCoded_passed {pic : FsrPic} {x : TileIn} (hr : s.eng.sys.phase = .running)
    (lossless : s.eng.cfg.fsMode k = 0) (one : (s.eng.stream k).pics = [pic]) (undecided : pic.bands = [])
    (waits : s.eng.fsWaiting k col band false pic = true) (tile : s.eng.fsTile k pic col band = x)
    (service : vget s.eng.fsr.inService g false = true)
    (passed : (checkedTile x (s.eng.cfg.codeTile k col band x none) none [] []).2 = 0) :
    Does (.fsrTileCoded t k col band g [] []) t s fun a b => Engine.changesOnly [.fsr, .counters] a b ∧
      ∃ w, (b.stream k).pics = [{ pic with tiles := pic.tiles ++ [w] }] ∧ w.col = col ∧ w.band = band ∧ w.flags = 0 ∧
        ((codeRaw x).length < (codeLossless x).length → w.mode = 2 ∧ w.bytes = codeRaw x ∧
          Engine.counted .fsrRawTile (0x0180 + k.val) a b) ∧
        ((codeLossless x).length ≤ (codeRaw x).length →
          w.mode = 0 ∧ w.bytes = codeLossless x ∧ b.counters = a.counters) := by
  refine Does.of_live (·.fsrTileCoded k col band g [] []) rfl hr ?_
  set o := s.eng.cfg.codeTile k col band x none with coded
  have plain : o.tile.flags = 0 ∧ o.tile.col = col ∧ o.tile.band = band := by
    obtain shorter | fits := Nat.lt_or_ge (codeRaw x).length (codeLossless x).length
    · rw [coded, Cfg.codeTile_raw lossless col band shorter]
      exact ⟨rfl, rfl, rfl⟩
    · rw [coded, Cfg.codeTile_lossless lossless col band fits]
      exact ⟨rfl, rfl, rfl⟩
  obtain ⟨flags, hcol, hband⟩ := plain
  have out : checkedTile x ((s.eng.at t).cfg.codeTile k col band x none) none [] [] = (o, 0) := by
    rw [Engine.at_cfg]
    exact Prod.ext (checkedTile_passed passed) passed
  rw [Engine.fsrTileCoded_lossless _ (by simpa using lossless) (by simpa using one) undecided (by simpa using waits)
    (by simpa using tile) (by simpa using service) out, Engine.tileReported_passed _ rfl flags]
  refine ⟨((Engine.bumpN_only _ _ _ _ _).andThen (Engine.modStream_only _ _ _)).within, o.tile, ?_, hcol, hband, flags,
    fun shorter => ?_, fun fits => ?_⟩
  · rw [Engine.modStream_stream]
    simp [FsrPic.written, FsrPic.addTile_plain flags]
  · rw [coded, Cfg.codeTile_raw lossless col band shorter]
    exact ⟨rfl, rfl, Engine.counted_of_counters (Engine.counted_bump _ _ _) rfl rfl⟩
  · rw [coded, Cfg.codeTile_lossless lossless col band fits]
    exact ⟨rfl, rfl, rfl⟩

theorem does_fsrTileCoded_failed {errs1 errs2 : List (Nat × Byte)} {pic : FsrPic} {x : TileIn}
    (hr : s.eng.sys.phase = .running) (lossless : s.eng.cfg.fsMode k = 0) (one : (s.eng.stream k).pics = [pic])
    (undecided : pic.bands = []) (waits : s.eng.fsWaiting k col band false pic = true)
    (tile : s.eng.fsTile k pic col band = x) (service : vget s.eng.fsr.inService g false = true)
    (failed : (checkedTile x (s.eng.cfg.codeTile k col band x none) none errs1 errs2).2 = 2) :
    Does (.fsrTileCoded t k col band g errs1 errs2) t s fun a b => Engine.changesOnly [.fsr, .counters, .log] a b ∧
      Engine.counted .fsrVerifyFail (0x0180 + k.val) a b ∧ Engine.counted .fsrVerifyMismatch (0x0180 + k.val) a b ∧
      (∃ w p, (b.stream k).pics = [p] ∧ p.tiles = pic.tiles ++ [w] ∧ p.mism = pic.mism + 1 ∧ w.mode = 2 ∧
        w.flags = tileReenc ||| tileVerifyFail ∧ w.bytes = codeRaw x) ∧
      vget b.fsr.fails g 0 = vget a.fsr.fails g 0 + 1 ∧
      (vget a.fsr.fails g 0 + 1 = 2 → vget b.fsr.inService g true = false ∧
        Engine.newEvents a b = [(0x0180 + k.val, .fsrVerifyFail, le 4 g), (0x0190 + g.val, .fsrEngineOff, [])]) ∧
      (vget a.fsr.fails g 0 + 1 ≠ 2 → b.fsr.inService = a.fsr.inService ∧
        Engine.newEvents a b = [(0x0180 + k.val, .fsrVerifyFail, le 4 g)]) := by
  refine Does.of_live (·.fsrTileCoded k col band g errs1 errs2) rfl hr ?_
  set o := checkedTile x (s.eng.cfg.codeTile k col band x none) none errs1 errs2 with checked
  have out : checkedTile x ((s.eng.at t).cfg.codeTile k col band x none) none errs1 errs2 = o := by rw [Engine.at_cfg]
  have form : o.1.tile.mode = 2 ∧ o.1.tile.flags = tileReenc ||| tileVerifyFail ∧ o.1.tile.bytes = codeRaw x := by
    rw [checkedTile_failed failed, failTile_unlimited]
    exact ⟨rfl, rfl, rfl⟩
  rw [Engine.fsrTileCoded_lossless _ (by simpa using lossless) (by simpa using one) undecided (by simpa using waits)
    (by simpa using tile) (by simpa using service) out]
  have only := (s.eng.at t).tileReported_only k g o
  generalize reported : (s.eng.at t).tileReported k g o = r at only
  obtain ⟨fail, mism, effect⟩ := Engine.tileReported_failed _ failed (by simpa using service) reported
  refine ⟨(only.andThen (Engine.modStream_only _ _ _)).within, fail, mism,
    ⟨o.1.tile, pic.written col band o, ?_, rfl, congrArg (pic.mism + min 1 ·) failed, form⟩, effect⟩
  rw [Engine.modStream_stream]

theorem does_fsrTileCoded_off {errs1 errs2 : List (Nat × Byte)} (hr : s.eng.sys.phase = .running)
    (off : vget s.eng.fsr.inService g false = false) :
    Does (.fsrTileCoded t k col band g errs1 errs2) t s fun a b => b = a := by
  refine Does.of_live (·.fsrTileCoded k col band g errs1 errs2) rfl hr ?_
  unfold Engine.fsrTileCoded
  split
  · rfl
  · rw [Engine.at_fsr, off]
    rfl

end

/-! FSR_TILE_LATE (R210). -/

section
variable (e : Engine)

/-- The emergency coding of a late tile, as it is written. -/
def Engine.lateTile (k col b : Nat) (pic : FsrPic) (e : Engine) : FsrTile :=
  ⟨col, b, 3, 0, tileLate, codeEmergency (e.fsTile k pic col b), (codeEmergency (e.fsTile k pic col b)).length⟩

/-- A picture with a late tile carries the flag of it. -/
theorem FsrPic.addTile_late {w : FsrTile} (late : w.flags = tileLate) (pic : FsrPic) :
    pic.addTile w = { pic with tiles := pic.tiles ++ [w], flags := pic.flags ||| picTileLate } := by
  simp [FsrPic.addTile, late, tileLate, tileReenc, tileVerifyFail, tileLimit]

/-- What a late tile counts, and logs where it is the first of a run of pictures. -/
def Engine.lateReported (k : Nat) (pic : FsrPic) (e : Engine) : Engine :=
  if pic.flags &&& picTileLate = 0 ∧ (e.stream k).lateRun = false then
    (e.bump .fsrTileLate (fsrSrc k)).emit (fsrSrc k) .fsrTileLate []
  else e.bump .fsrTileLate (fsrSrc k)

theorem Engine.lateReported_effect (k : Nat) (pic : FsrPic) :
    Engine.changesOnly [.counters, .log] e (e.lateReported k pic) ∧
      Engine.counted .fsrTileLate (fsrSrc k) e (e.lateReported k pic) ∧
      Engine.newEvents e (e.lateReported k pic) =
        if pic.flags &&& picTileLate = 0 ∧ (e.stream k).lateRun = false then [(fsrSrc k, .fsrTileLate, [])] else [] := by
  unfold Engine.lateReported
  split
  · exact e.bump_emit_effect .fsrTileLate (fsrSrc k) .fsrTileLate []
  · exact ⟨(e.bump_only _ _).within, e.counted_bump _ _, Engine.newEvents_same _ _ (e.bump_log _ _)⟩

/-- The one picture of a stream has no picture before it among those being coded. -/
theorem FsrStream.lateBefore_one {q : FsrStream} {pic : FsrPic} (one : q.pics = [pic]) : q.lateBefore pic.cfn = q.lateRun := by
  simp [FsrStream.lateBefore, one]

theorem Engine.tileOverdue_congr {a b : Engine} (hc : a.cfg = b.cfg) (hn : a.now = b.now) (k band : Nat) :
    a.tileOverdue k band = b.tileOverdue k band := by
  funext pic
  rw [Engine.tileOverdue, Engine.tileOverdue, hc, hn]

theorem Engine.fsrTileLate_one {k col b : Nat} {pic : FsrPic} (one : (e.stream k).pics = [pic]) (undecided : pic.bands = [])
    (waits : e.fsWaiting k col b true pic = true) (overdue : e.tileOverdue k b pic = true) :
    e.fsrTileLate k col b =
      (e.lateReported k pic).modStream k fun st => { st with pics := [pic.addTile (e.lateTile k col b pic)] } := by
  obtain ⟨only, -, -⟩ := e.lateReported_effect k pic
  have found : [pic].find? (fun q => e.fsWaiting k col b true q && e.tileOverdue k b q) = some pic :=
    List.find?_cons_of_pos (by rw [waits, overdue]; rfl)
  have again : ((e.lateReported k pic).fsWaiting k col b true pic && (e.lateReported k pic).tileOverdue k b pic) = true := by
    rw [Engine.fsWaiting_congr only.cfg_eq, Engine.tileOverdue_congr only.cfg_eq only.now_eq, waits, overdue]
    rfl
  have written := (e.lateReported k pic).modStream_onePic
    ((congrArg FsrStream.pics (Engine.stream_congr only.fsr_eq k)).trans one)
    (q := fun q => (e.lateReported k pic).fsWaiting k col b true q && (e.lateReported k pic).tileOverdue k b q) again
    (pic.addTile (e.lateTile k col b pic))
  have first : (if (decide (pic.flags &&& picTileLate = 0) && !(e.stream k).lateBefore pic.cfn) = true then
      (e.bump .fsrTileLate (fsrSrc k)).emit (fsrSrc k) .fsrTileLate [] else e.bump .fsrTileLate (fsrSrc k)) =
      e.lateReported k pic := by
    rw [FsrStream.lateBefore_one one, Engine.lateReported]
    simp only [Bool.and_eq_true, decide_eq_true_eq, Bool.not_eq_true']
  unfold Engine.fsrTileLate
  rw [one, found]
  dsimp only
  rw [first]
  refine Eq.trans ?_ written
  exact Engine.fsLearn_undecided _ (by simp [FsrPic.addTile, undecided]) _

end

section
variable {t : Nat} {k : Fin 8} {s : State}

theorem does_fsrTileLate {col band : Nat} {pic : FsrPic} (hr : s.eng.sys.phase = .running)
    (one : (s.eng.stream k).pics = [pic]) (undecided : pic.bands = []) (waits : s.eng.fsWaiting k col band true pic = true)
    (overdue : (s.eng.at t).tileOverdue k band pic = true) :
    Does (.fsrTileLate t k col band) t s fun a b => Engine.changesOnly [.fsr, .counters, .log] a b ∧
      Engine.counted .fsrTileLate (0x0180 + k.val) a b ∧
      (∃ w p, (b.stream k).pics = [p] ∧ p.tiles = pic.tiles ++ [w] ∧ w.col = col ∧ w.band = band ∧ w.mode = 3 ∧
        w.flags = tileLate ∧ w.bytes = codeEmergency (a.fsTile k pic col band) ∧ p.flags = pic.flags ||| picTileLate) ∧
      Engine.newEvents a b = if pic.flags &&& picTileLate = 0 ∧ (a.stream k).lateRun = false
        then [(0x0180 + k.val, .fsrTileLate, [])] else [] := by
  refine Does.of_live (·.fsrTileLate k col band) rfl hr ?_
  rw [Engine.fsrTileLate_one _ (by simpa using one) undecided (by simpa using waits) overdue]
  obtain ⟨only, counted, events⟩ := (s.eng.at t).lateReported_effect k pic
  refine ⟨(only.andThen (Engine.modStream_only _ _ _)).within, counted,
    ⟨_, pic.addTile ((s.eng.at t).lateTile k col band pic), ?_, rfl, rfl, rfl, rfl, rfl, rfl, ?_⟩, events⟩
  · rw [Engine.modStream_stream]
  · rw [FsrPic.addTile_late rfl]

end

/-! FSR_PICTURE_COMPLETE (R200, R203). -/

section
variable (e : Engine)

/-- A stream whose oldest picture has left: PIC_NUM is the next, and its flags are those of the last (R213). -/
def FsrStream.taken (c : Cfg) (k : Nat) (pic : FsrPic) (rest : List FsrPic) (q : FsrStream) : FsrStream :=
  { q with
    pics := rest
    picNum := q.picNum + 1
    lateRun := decide (pic.flags &&& picTileLate ≠ 0)
    lastQi := min 63 (if c.fsMode k = 2 then (pic.bands.getD 0 ⟨0, 0, 0, 0⟩).qi
      else if c.fsMode k = 1 then 6 * (c.fsQlevel k + 1) else 0)
    lastEmerg := false
    lastPages := satNat 0x7FFFFF (c.picPages k pic) }

/-- A whole picture without emergency and mismatch leaves its stream. -/
theorem Engine.fsrTake_clean {k : Nat} {pic : FsrPic} {rest : List FsrPic} (pics : (e.stream k).pics = pic :: rest)
    (whole : pic.whole (e.cfg.tileCols k) (e.cfg.fsBands k) = true) (matched : pic.mism = 0)
    (calm : pic.flags &&& picRcEmergency = 0) :
    e.fsrTake k = some (pic, (e.stream k).picNum, e.modStream k (FsrStream.taken e.cfg k pic rest)) := by
  have same : (e.modStream k fun st => { FsrStream.taken e.cfg k pic rest st with picNum := (e.stream k).picNum + 1 }) =
      e.modStream k (FsrStream.taken e.cfg k pic rest) := e.modStream_congr k rfl
  have noEmergency : decide (pic.flags &&& picRcEmergency ≠ 0) = false := by simp [calm]
  rw [← same, Engine.fsrTake, pics]
  dsimp only
  rw [whole, if_neg (by decide), noEmergency, if_pos matched, if_neg (not_not.2 calm)]
  rfl

theorem Engine.codecFlags_only (x : CodecFlag) : Engine.changesOnly [.md] e (e.codecFlags x) := e.setMd_only _

theorem Engine.codecFlags_stream (x : CodecFlag) (k : Nat) : (e.codecFlags x).stream k = e.stream k := rfl

/-- With nothing recording, a coded picture enters no buffer. -/
theorem Engine.recEnter_idle (idle : e.rec_.takes = []) (k num : Nat) (pic : FsrPic) : e.recEnter k num pic = e := by
  have nobody : e.takeFor k pic.cfn = none := by
    rw [Engine.takeFor, idle]
    exact ite_self _
  rw [Engine.recEnter, nobody]

/-- Such a picture with nothing recording leaves its flags to the metadata, and no more. -/
theorem Engine.fsrPictureComplete_clean {k : Nat} {pic : FsrPic} {rest : List FsrPic}
    (pics : (e.stream k).pics = pic :: rest) (whole : pic.whole (e.cfg.tileCols k) (e.cfg.fsBands k) = true)
    (matched : pic.mism = 0) (calm : pic.flags &&& picRcEmergency = 0) (idle : e.rec_.takes = []) :
    e.fsrPictureComplete k =
      (e.modStream k (FsrStream.taken e.cfg k pic rest)).codecFlags ⟨false, k, pic.cfn, pic.flags⟩ := by
  rw [Engine.fsrPictureComplete, e.fsrTake_clean pics whole matched calm]
  dsimp only
  rw [Engine.recEnter_idle _ (by exact idle), Engine.recPump_idle _ (by exact idle)]

end

section
variable {t : Nat} {k : Fin 8} {s : State}

theorem does_fsrPictureComplete {pic : FsrPic} {rest : List FsrPic} (hr : s.eng.sys.phase = .running)
    (pics : (s.eng.stream k).pics = pic :: rest)
    (whole : pic.whole (s.eng.cfg.tileCols k) (s.eng.cfg.fsBands k) = true) (matched : pic.mism = 0)
    (calm : pic.flags &&& picRcEmergency = 0) (idle : s.eng.rec_.takes = []) :
    Does (.fsrPictureComplete t k) t s fun a b => Engine.changesOnly [.fsr, .md] a b ∧
      (b.stream k).pics = rest ∧ (b.stream k).picNum = (a.stream k).picNum + 1 ∧ (b.stream k).lastEmerg = false ∧
      (b.stream k).lateRun = decide (pic.flags &&& picTileLate ≠ 0) ∧
      b.md = { a.md with codec := (⟨false, k, pic.cfn, pic.flags⟩ :: a.md.codec).take 1024 } := by
  refine Does.of_live (·.fsrPictureComplete k) rfl hr ?_
  rw [Engine.fsrPictureComplete_clean _ (by simpa using pics) (by simpa using whole) matched calm (by simpa using idle)]
  refine ⟨((Engine.modStream_only _ _ _).andThen (Engine.codecFlags_only _ _)).within, ?_⟩
  rw [Engine.codecFlags_stream, Engine.modStream_stream]
  exact ⟨rfl, rfl, rfl, rfl, rfl⟩

end

/-! FSR_DECODE_PICTURE: a recorded picture decoded, or the last one shown again (R211, R212). -/

section
variable (e : Engine)

/-- A stream decodes for a playback; with a picture, that one waits at its place (R212). -/
def Play.decodes (k : Nat) (p : Option Played) (x : Play) : Play :=
  match p with
  | some p => ({ x with stream := some k } : Play).add p
  | none => { x with stream := some k }

/-- The playback goes on with a decoded picture, or without one. -/
def Engine.playDecodes (k : Nat) (p : Option Played) (x : Play) (e : Engine) : Engine :=
  e.modRec fun r => { r with play := some (x.decodes k p) }

/-- Audio of recorded pictures follows what is still to play. -/
def Engine.playsAudio (audio : List AudFrame) (e : Engine) : Engine :=
  { e with aud := { e.aud with play := e.aud.play ++ audio } }

theorem Engine.playsAudio_only (audio : List AudFrame) : Engine.changesOnly [.aud] e (e.playsAudio audio) := e.setAud_only _

theorem Engine.fsrDecodePicture_good {k : Nat} {bytes record : List Byte} {x : Play} {p : Played} (audio : List AudFrame)
    (review : e.sys.mode = .review) (play : e.rec_.play = some x) (raw : x.proxy = false)
    (good : decodePicture bytes record = some p) :
    e.fsrDecodePicture k bytes record audio =
      (((e.playDecodes k (some p) x).bumpN .fsrDecTileErr 0x0188 0 p.concealed).modStream k fun q =>
        { q with shown := some p }).playsAudio audio := by
  rw [Engine.fsrDecodePicture, play]
  dsimp only
  rw [if_neg (by simp [raw, review]), good]
  rfl

theorem Engine.fsrDecodePicture_bad {k : Nat} {bytes record : List Byte} {x : Play} (audio : List AudFrame)
    (review : e.sys.mode = .review) (play : e.rec_.play = some x) (raw : x.proxy = false)
    (bad : decodePicture bytes record = none) :
    e.fsrDecodePicture k bytes record audio =
      ((e.bump .fsrDecPicErr 0x0188).playDecodes k (e.stream k).shown x).emit 0x0188 .fsrDecErr [] := by
  rw [Engine.fsrDecodePicture, play]
  dsimp only
  rw [if_neg (by simp [raw, review]), bad]
  rfl

end

section
variable {t : Nat} {k : Fin 8} {bytes record : List Byte} {audio : List (List (Nat × Bool))} {x : Play} {s : State}

theorem does_fsrDecodePicture_good {p : Played} (hr : s.eng.sys.phase = .running) (review : s.eng.sys.mode = .review)
    (play : s.eng.rec_.play = some x) (raw : x.proxy = false) (good : decodePicture bytes record = some p) :
    Does (.fsrDecodePicture t k bytes record audio) t s fun a b =>
      Engine.changesOnly [.fsr, .recorder, .aud, .counters] a b ∧
      b.fsr = { a.fsr with streams := vmod a.fsr.streams k fun q => { q with shown := some p } } ∧
      b.rec_ = { a.rec_ with play := some (({ x with stream := some k.val } : Play).add p) } ∧
      b.aud = { a.aud with play := a.aud.play ++ audio } ∧
      b.ctr .fsrDecTileErr 0x0188 0 = satNat 0xFFFFFFFF (a.ctr .fsrDecTileErr 0x0188 0 + p.concealed) := by
  refine Does.of_live (·.fsrDecodePicture k bytes record audio) rfl hr ?_
  rw [Engine.fsrDecodePicture_good _ audio (by simpa using review) (by simpa using play) raw good]
  set c := (s.eng.at t).playDecodes k (some p) x
  have counted := c.bumpN_only .fsrDecTileErr 0x0188 0 p.concealed
  refine ⟨((((Engine.modRec_only _ _).andThen counted).andThen (Engine.modStream_only _ _ _)).andThen
    (Engine.playsAudio_only _ _)).within, ?_, counted.rec_eq, ?_, ?_⟩
  · dsimp only [Engine.playsAudio]
    rw [Engine.modStream_fsr, counted.fsr_eq]
    rfl
  · dsimp only [Engine.playsAudio]
    rw [Engine.modStream_aud, Engine.bumpN_aud]
    rfl
  · exact c.bumpN_ctr .fsrDecTileErr 0x0188 0 p.concealed

theorem does_fsrDecodePicture_bad (hr : s.eng.sys.phase = .running) (review : s.eng.sys.mode = .review)
    (play : s.eng.rec_.play = some x) (raw : x.proxy = false) (bad : decodePicture bytes record = none) :
    Does (.fsrDecodePicture t k bytes record audio) t s fun a b => Engine.changesOnly [.recorder, .counters, .log] a b ∧
      b.rec_ = { a.rec_ with play := some (x.decodes k (a.stream k).shown) } ∧
      Engine.counted .fsrDecPicErr 0x0188 a b ∧ Engine.newEvents a b = [(0x0188, .fsrDecErr, [])] := by
  refine Does.of_live (·.fsrDecodePicture k bytes record audio) rfl hr ?_
  rw [Engine.fsrDecodePicture_bad _ audio (by simpa using review) (by simpa using play) raw bad]
  have counted := (s.eng.at t).bump_only .fsrDecPicErr 0x0188
  refine ⟨((counted.andThen (Engine.modRec_only _ _)).andThen (Engine.emit_only _ _ _ _)).within, ?_, ?_, ?_⟩
  · exact congrArg (fun r : Recorder => { r with play := some (x.decodes k ((s.eng.at t).stream k).shown) }) counted.rec_eq
  · exact Engine.counted_of_counters ((s.eng.at t).counted_bump .fsrDecPicErr 0x0188) rfl rfl
  · exact Engine.newEvents_emit _ _ _ _ _ counted.log_eq

end

/-! CAPTURE_SLOT_START with a picture that waits (R212, R323). -/

section
variable (e : Engine)

theorem Engine.sendRecord_only (p c : Nat) (bytes : List Byte) : Engine.changesOnly [.md] e (e.sendRecord p c bytes) :=
  e.setMd_only _

theorem Engine.sendRecord_md (p c : Nat) (bytes : List Byte) :
    (e.sendRecord p c bytes).md = { e.md with sent := (⟨p, c, bytes⟩ :: e.md.sent).take 64 } := rfl

/-- A picture enters the path of its port: the colour pipeline and its outputs, and the record that leaves again. -/
theorem Engine.playEnter_effect (p : Played) :
    Engine.changesOnly [.colour, .counters, .outs, .md] e (e.playEnter p) ∧
      (e.playEnter p).md = { e.md with sent := (⟨p.source, p.cfn, padTo 4096 p.record⟩ :: e.md.sent).take 64 } := by
  unfold Engine.playEnter
  extract_lets lin c
  have shown : Engine.changesOnly [.colour, .counters] e c := e.colourFrame_only _ _ _ _ _ _
  have sends := shown.andThen (Engine.branchesDone_only c p.source p.phase c.dtb)
  refine ⟨(sends.andThen (Engine.sendRecord_only _ _ _ _)).within, ?_⟩
  rw [Engine.sendRecord_md, sends.md_eq]

/-- The playback whose first waiting picture enters. -/
def Play.entered (p : Played) (rest : List Played) (x : Play) : Play :=
  { x with source := p.source, queue := rest, last := some p.cfn }

/-- The first picture that waits enters, and its playback goes on with the rest. -/
theorem Engine.playNext_enters {x : Play} {p : Played} {rest : List Played} (play : e.rec_.play = some x)
    (queue : x.queue = p :: rest) :
    e.playNext = (e.modRec fun r => { r with play := some (x.entered p rest) }).playEnter p := by
  rw [Engine.playNext, play]
  dsimp only
  rw [queue]
  rfl

/-- After what enters at the start of a slot outside a run, streams repeat frames and the index moves on. -/
theorem Engine.captureSlotStart_playNext (due : e.slotDue) (still : e.proj.run = false) :
    Engine.changesOnly [.outs, .proj] (e.slotShown (e.slotCfn e.proj.slot)).playNext e.captureSlotStart := by
  obtain ⟨started, more⟩ := due
  have notTaken : e.captured e.proj.slot = false := by rw [Engine.captured, still]; rfl
  unfold Engine.captureSlotStart
  extract_lets k c take shown played repeated
  rw [if_neg (by simpa [started] using more)]
  have same : (e.slotShown c).playNext = played :=
    (congrArg Engine.playNext (if_neg (Bool.eq_false_iff.1 notTaken))).symm
  rw [same]
  exact ((played.heldRepeats_only _ _).andThen (repeated.setProj_only _)).within

/-- Outside a run, the start of a slot lets the first picture that waits enter. -/
theorem Engine.captureSlotStart_plays (due : e.slotDue) (still : e.proj.run = false) {x : Play} {p : Played}
    {rest : List Played} (play : e.rec_.play = some x) (queue : x.queue = p :: rest) :
    e.captureSlotStart.rec_ = { e.rec_ with play := some (x.entered p rest) } ∧
      e.captureSlotStart.md = { e.md with sent := (⟨p.source, p.cfn, padTo 4096 p.record⟩ :: e.md.sent).take 64 } := by
  have shows := e.slotShown_only (e.slotCfn e.proj.slot)
  have moves := e.captureSlotStart_playNext due still
  rw [Engine.playNext_enters _ ((congrArg Recorder.play shows.rec_eq).trans play) queue] at moves
  obtain ⟨enters, sent⟩ := Engine.playEnter_effect
    ((e.slotShown (e.slotCfn e.proj.slot)).modRec fun r => { r with play := some (x.entered p rest) }) p
  rw [moves.rec_eq, moves.md_eq, enters.rec_eq, sent]
  dsimp only [Engine.modRec]
  rw [shows.rec_eq, shows.md_eq]
  exact ⟨rfl, rfl⟩

end

section
variable {t : Nat} {s : State}

theorem does_captureSlotStart_plays {x : Play} {p : Played} {rest : List Played} (hr : s.eng.sys.phase = .running)
    (started : s.eng.proj.started = true) (more : s.eng.proj.slot < s.eng.cfg.phases) (still : s.eng.proj.run = false)
    (play : s.eng.rec_.play = some x) (queue : x.queue = p :: rest) :
    Does (.captureSlotStart t) t s fun a b =>
      b.rec_ = { a.rec_ with play := some (x.entered p rest) } ∧
      b.md = { a.md with sent := (⟨p.source, p.cfn, padTo 4096 p.record⟩ :: a.md.sent).take 64 } :=
  Does.of_live (·.captureSlotStart) rfl hr
    ((s.eng.at t).captureSlotStart_plays (at_slotDue started more) (by simpa using still) (by simpa using play) queue)

end

/-- Settles O33: a band decided, a tile coded, failed, refused and late, a picture complete, decoded or shown again, and one
that enters, by their lemmas. -/
theorem flowstonePicturesAreBuilt : Obligations.FlowstonePicturesAreBuilt := by
  unfold Obligations.FlowstonePicturesAreBuilt
  exact ⟨fun _ _ _ _ _ => does_fsrBandDecide, fun _ _ _ _ _ _ _ _ => does_fsrTileCoded_passed,
    fun _ _ _ _ _ _ _ _ _ _ => does_fsrTileCoded_failed, fun _ _ _ _ _ _ _ _ => does_fsrTileCoded_off,
    fun _ _ _ _ _ _ => does_fsrTileLate, fun _ _ _ _ _ => does_fsrPictureComplete,
    fun _ _ _ _ _ _ _ _ => does_fsrDecodePicture_good, fun _ _ _ _ _ _ _ => does_fsrDecodePicture_bad,
    fun _ _ _ _ _ hr started more still play queue _ _ => does_captureSlotStart_plays hr started more still play queue⟩

end Sys2Proof.Machine
end

section
/-! The HEVC encoder (O34; R219 to R238): source frames queued, rows started, CTUs coded, pictures completed. -/

namespace Sys2Proof.Machine

/-! What a stream, its source, its turn and its search depend on. -/

theorem Engine.changesOnly.hevc_eq {ps : List Part} {a b : Engine} (h : Engine.changesOnly ps a b)
    (out : decide (Part.hevc ∈ ps) = false := by rfl) : b.hevc = a.hevc := (Engine.changesOnly_get h .hevc out).symm

section
variable {a b : Engine} (hevc : a.hevc = b.hevc) (cfg : a.cfg = b.cfg)

include hevc in
theorem Engine.hst_congr (k : Nat) : a.hst k = b.hst k := by rw [Engine.hst, Engine.hst, hevc]

include hevc in
theorem Engine.hevcRefs_congr (k : Nat) : a.hevcRefs k = b.hevcRefs k := by rw [Engine.hevcRefs, Engine.hevcRefs, hevc]

include hevc cfg

theorem Engine.rowsInFlight_congr : a.rowsInFlight = b.rowsInFlight := by
  simp only [Engine.rowsInFlight, Engine.hst_congr hevc, cfg]

/-- A row's deadline is of the configuration and the port its stream codes. -/
theorem Engine.hevcTurn_congr (ports : a.ports = b.ports) : a.hevcTurn = b.hevcTurn := by
  have line (k : Nat) : a.hevcLine k = b.hevcLine k := by simp only [Engine.hevcLine, Engine.port, cfg, ports]
  have deadline (k : Nat) (pic : HevcPic) (r : Nat) : a.rowDeadline k pic r = b.rowDeadline k pic r := by
    simp only [Engine.rowDeadline, cfg, line]
  have ready (k : Nat) : a.rowReady k = b.rowReady k := by
    simp only [Engine.rowReady, Engine.hst_congr hevc, cfg, deadline]
  simp only [Engine.hevcTurn, ready]

theorem Engine.hevcChoose_congr (k : Nat) (pic : HevcPic) (row col : Nat) (poison : Bool) (cands : List HevcCand) :
    a.hevcChoose k pic row col poison cands = b.hevcChoose k pic row col poison cands := by
  have allowed (u : HevcCu) : a.cuAllowed k pic row col poison u = b.cuAllowed k pic row col poison u := by
    rw [Engine.cuAllowed, Engine.cuAllowed, Engine.hevcRefs_congr hevc, cfg]
  simp only [Engine.hevcChoose, cfg, funext allowed]

end

theorem Engine.hevcSource_congr {a b : Engine} (cfg : a.cfg = b.cfg) (sys : a.sys = b.sys) (aux : a.aux = b.aux)
    (colour : a.colour = b.colour) (k : Nat) : a.hevcSource k = b.hevcSource k := by
  have held : a.unitHeld = b.unitHeld := by
    funext unit ordinal
    rw [Engine.unitHeld, sys, Engine.unitHeld]
  rw [Engine.hevcSource, Engine.hevcSource, cfg, aux, colour, held]

section
variable (e : Engine) (t k : Nat)

@[simp] theorem Engine.at_hst : (e.at t).hst k = e.hst k := Engine.hst_congr (e.at_hevc t) k

@[simp] theorem Engine.at_hevcSource : (e.at t).hevcSource k = e.hevcSource k :=
  Engine.hevcSource_congr (e.at_cfg t) (e.at_sys t) (e.at_aux t) (e.at_colour t) k

@[simp] theorem Engine.at_hevcTurn : (e.at t).hevcTurn = e.hevcTurn :=
  Engine.hevcTurn_congr (e.at_hevc t) (e.at_cfg t) (e.at_ports t)

@[simp] theorem Engine.at_rowsInFlight : (e.at t).rowsInFlight = e.rowsInFlight :=
  Engine.rowsInFlight_congr (e.at_hevc t) (e.at_cfg t)

@[simp] theorem Engine.at_hevcChoose (pic : HevcPic) (row col : Nat) (poison : Bool) (cands : List HevcCand) :
    (e.at t).hevcChoose k pic row col poison cands = e.hevcChoose k pic row col poison cands :=
  Engine.hevcChoose_congr (e.at_hevc t) (e.at_cfg t) k pic row col poison cands

/-- The network senders of a stream are a matter of the configuration (R333). -/
theorem Engine.hevcSenders_congr {a b : Engine} (cfg : a.cfg = b.cfg) (k : Nat) : a.hevcSenders k = b.hevcSenders k := by
  have field : a.cf = b.cf := by
    funext id i hi lo
    rw [Engine.cf, cfg, Engine.cf]
  rw [Engine.hevcSenders, field, Engine.hevcSenders]

@[simp] theorem Engine.at_hevcSenders : (e.at t).hevcSenders k = e.hevcSenders k :=
  Engine.hevcSenders_congr (e.at_cfg t) k

end

/-! A stream after a change of it. -/

section
variable (e : Engine)

theorem Engine.modHst_only (k : Nat) (f : HevcStream → HevcStream) : Engine.changesOnly [.hevc] e (e.modHst k f) :=
  e.setHevc_only _

theorem Engine.modHst_hst (k : Fin 8) (f : HevcStream → HevcStream) : (e.modHst k f).hst k = f (e.hst k) :=
  vget_vmod_same e.hevc.streams k.isLt f _

@[simp] theorem Engine.modHst_hevcSource (k j : Nat) (f : HevcStream → HevcStream) :
    (e.modHst k f).hevcSource j = e.hevcSource j := Engine.hevcSource_congr rfl rfl rfl rfl j

@[simp] theorem Engine.modHst_frameNow (k : Nat) (f : HevcStream → HevcStream) : (e.modHst k f).frameNow = e.frameNow := rfl

/-! HEVC_SOURCE_FRAME (R219, R221, R222, R237). -/

/-- A picture is queued in a stream of these pictures: it waits last, with POC 0 for an IDR, which the first of a run is. -/
structure HevcStream.Queued (q : HevcStream) (cfn : Option Nat) (skip buf : Bool) (src : OutPic) (p : HevcPic)
    (q' : HevcStream) : Prop where
  pics : q'.pics = q.pics ++ [p]
  skip : p.skip = skip
  buf : p.buf = buf
  rows : p.rows = []
  src : p.src = src
  cfn : p.cfn = cfn
  first : p.first = !q.begun
  idr : q.begun = false → p.idr = true
  poc : p.poc = if p.idr then 0 else q.nextPoc
  nextPoc : q'.nextPoc = p.poc + 1
  begun : q'.begun = true
  state : q'.state = 2
  frames : q'.frames = q.frames
  lastSrc : q'.lastSrc = q.lastSrc

theorem Engine.hevcQueue_only (k : Nat) (cfn : Option Nat) (skip buf : Bool) (src : OutPic) :
    Engine.changesOnly [.hevc] e (e.hevcQueue k cfn skip buf src) := e.setHevc_only _

theorem Engine.hevcQueue_queued (k : Fin 8) (cfn : Option Nat) (skip buf : Bool) (src : OutPic) :
    ∃ p, (e.hst k).Queued cfn skip buf src p ((e.hevcQueue k cfn skip buf src).hst k) := by
  unfold Engine.hevcQueue
  extract_lets q c asked idr sweep poc pic
  rw [Engine.modHst_hst]
  refine ⟨pic, rfl, rfl, rfl, rfl, rfl, rfl, rfl, fun fresh => ?_, rfl, rfl, rfl, rfl, rfl, rfl⟩
  have started : q.begun = false := fresh
  simp only [pic, idr, started, Bool.not_false, Bool.true_or]

/-- A stream of a branch is to take the frame that its branch delivers now (R219). -/
structure Engine.SourceDue (e : Engine) (k : Nat) : Prop where
  on : (e.hst k).state ≠ 0
  runs : e.clk.classV = false
  branch : e.cfg.hvSrc k ≠ 6
  turn : (e.hst k).frames % e.cfg.hvDiv k = 0

/-- One frame more of a stream's source. -/
def Engine.frameSeen (k : Nat) (e : Engine) : Engine := e.modHst k fun q => { q with frames := q.frames + 1 }

theorem Engine.frameSeen_only (k : Nat) : Engine.changesOnly [.hevc] e (e.frameSeen k) := e.modHst_only _ _

theorem Engine.frameSeen_hst (k : Fin 8) : (e.frameSeen k).hst k = { e.hst k with frames := (e.hst k).frames + 1 } :=
  e.modHst_hst _ _

/-- The source picture a stream received last. -/
def Engine.sourceSeen (k : Nat) (o : OutPic) (e : Engine) : Engine := e.modHst k fun q => { q with lastSrc := some o }

theorem Engine.sourceSeen_hst (k : Fin 8) (o : OutPic) : (e.sourceSeen k o).hst k = { e.hst k with lastSrc := some o } :=
  e.modHst_hst _ _

section
variable {k : Nat} (due : e.SourceDue k)
include due

theorem Engine.hevcSourceFrame_taken {o : OutPic} (source : e.hevcSource k = some o)
    (room : ((e.hst k).pics.filter (·.buf)).length < 2) :
    e.hevcSourceFrame k = ((e.frameSeen k).sourceSeen k o).hevcQueue k (some o.cfn) false true o := by
  simp [Engine.hevcSourceFrame, due.on, due.runs, due.branch, due.turn, source, room, Engine.frameSeen, Engine.sourceSeen]

theorem Engine.hevcSourceFrame_dropped {o : OutPic} (source : e.hevcSource k = some o)
    (full : 2 ≤ ((e.hst k).pics.filter (·.buf)).length) :
    e.hevcSourceFrame k = (((e.frameSeen k).bump .hevcSrcDrop (hevcSrc k)).emit (hevcSrc k) .hevcSrcDrop []).hevcQueue k
      (some o.cfn) true false ((e.hst k).lastSrc.getD o) := by
  simp [Engine.hevcSourceFrame, due.on, due.runs, due.branch, due.turn, source, full, Engine.frameSeen]

theorem Engine.hevcSourceFrame_still {l : OutPic} (source : e.hevcSource k = none) (last : (e.hst k).lastSrc = some l) :
    e.hevcSourceFrame k = (e.frameSeen k).hevcQueue k e.frameNow true false l := by
  simp [Engine.hevcSourceFrame, due.on, due.runs, due.branch, due.turn, source, last, Engine.frameSeen]

end
end

section
variable {t : Nat} {k : Fin 8} {s : State}

theorem at_sourceDue (on : (s.eng.hst k).state ≠ 0) (runs : s.eng.clk.classV = false) (branch : s.eng.cfg.hvSrc k ≠ 6)
    (turn : (s.eng.hst k).frames % s.eng.cfg.hvDiv k = 0) : (s.eng.at t).SourceDue k :=
  ⟨by simpa using on, by simpa using runs, by simpa using branch, by simpa using turn⟩

theorem does_hevcSourceFrame_taken {o : OutPic} (hr : s.eng.sys.phase = .running) (due : (s.eng.at t).SourceDue k)
    (source : s.eng.hevcSource k = some o) (room : ((s.eng.hst k).pics.filter (·.buf)).length < 2) :
    Does (.hevcSourceFrame t k) t s fun a b => Engine.changesOnly [.hevc] a b ∧ (b.hst k).frames = (a.hst k).frames + 1 ∧
      (b.hst k).lastSrc = some o ∧ (b.hst k).begun = true ∧ (b.hst k).state = 2 ∧
      ∃ p, (b.hst k).pics = (a.hst k).pics ++ [p] ∧ p.skip = false ∧ p.buf = true ∧ p.rows = [] ∧ p.src = o ∧
        p.first = !(a.hst k).begun ∧ ((a.hst k).begun = false → p.idr = true) ∧ p.cfn = some o.cfn ∧
        p.poc = (if p.idr then 0 else (a.hst k).nextPoc) ∧ (b.hst k).nextPoc = p.poc + 1 := by
  refine Does.of_live (·.hevcSourceFrame k) rfl hr ?_
  rw [Engine.hevcSourceFrame_taken _ due (by simpa using source) (by simpa using room)]
  set a := s.eng.at t
  obtain ⟨p, queued⟩ := ((a.frameSeen k).sourceSeen k o).hevcQueue_queued k (some o.cfn) false true o
  rw [Engine.sourceSeen_hst, Engine.frameSeen_hst] at queued
  exact ⟨(((a.frameSeen_only k).andThen (Engine.modHst_only _ _ _)).andThen (Engine.hevcQueue_only _ _ _ _ _ _)).within,
    queued.frames, queued.lastSrc, queued.begun, queued.state, p, queued.pics, queued.skip, queued.buf, queued.rows,
    queued.src, queued.first, queued.idr, queued.cfn, queued.poc, queued.nextPoc⟩

theorem does_hevcSourceFrame_dropped {o : OutPic} (hr : s.eng.sys.phase = .running) (due : (s.eng.at t).SourceDue k)
    (source : s.eng.hevcSource k = some o) (full : 2 ≤ ((s.eng.hst k).pics.filter (·.buf)).length) :
    Does (.hevcSourceFrame t k) t s fun a b => Engine.changesOnly [.hevc, .counters, .log] a b ∧
      (∃ p, (b.hst k).pics = (a.hst k).pics ++ [p] ∧ p.skip = true ∧ p.buf = false ∧ p.cfn = some o.cfn ∧
        p.src = (a.hst k).lastSrc.getD o) ∧
      Engine.counted .hevcSrcDrop (0x01C0 + k.val) a b ∧ Engine.newEvents a b = [(0x01C0 + k.val, .hevcSrcDrop, [])] := by
  refine Does.of_live (·.hevcSourceFrame k) rfl hr ?_
  rw [Engine.hevcSourceFrame_dropped _ due (by simpa using source) (by simpa using full)]
  set a := s.eng.at t
  obtain ⟨only, counted, events⟩ := (a.frameSeen k).bump_emit_effect .hevcSrcDrop (hevcSrc k) .hevcSrcDrop []
  set c := ((a.frameSeen k).bump .hevcSrcDrop (hevcSrc k)).emit (hevcSrc k) .hevcSrcDrop []
  obtain ⟨p, queued⟩ := c.hevcQueue_queued k (some o.cfn) true false ((a.hst k).lastSrc.getD o)
  have pics : (c.hst k).pics = (a.hst k).pics := by
    rw [Engine.hst_congr (show c.hevc = (a.frameSeen k).hevc by simp [c]), Engine.frameSeen_hst]
  exact ⟨(((a.frameSeen_only k).andThen only).andThen (Engine.hevcQueue_only _ _ _ _ _ _)).within,
    ⟨p, queued.pics.trans (by rw [pics]), queued.skip, queued.buf, queued.cfn, queued.src⟩, counted, events⟩

theorem does_hevcSourceFrame_still {l : OutPic} (hr : s.eng.sys.phase = .running) (due : (s.eng.at t).SourceDue k)
    (source : s.eng.hevcSource k = none) (last : (s.eng.hst k).lastSrc = some l) :
    Does (.hevcSourceFrame t k) t s fun a b => Engine.changesOnly [.hevc] a b ∧
      ∃ p, (b.hst k).pics = (a.hst k).pics ++ [p] ∧ p.skip = true ∧ p.buf = false ∧ p.src = l ∧ p.cfn = a.frameNow := by
  refine Does.of_live (·.hevcSourceFrame k) rfl hr ?_
  rw [Engine.hevcSourceFrame_still _ due (by simpa using source) (by simpa using last)]
  set a := s.eng.at t
  obtain ⟨p, queued⟩ := (a.frameSeen k).hevcQueue_queued k a.frameNow true false l
  rw [Engine.frameSeen_hst] at queued
  exact ⟨((a.frameSeen_only k).andThen (Engine.hevcQueue_only _ _ _ _ _ _)).within, p, queued.pics, queued.skip, queued.buf,
    queued.src, queued.cfn⟩

end

/-! HEVC_ROW_START (R223, R227, R232 to R234). -/

section
variable (e : Engine)

/-- A row's decision: nothing is coded yet, and the row has at least its floor. -/
theorem Engine.hevcDecide_fresh (k : Nat) (pic : HevcPic) (r : Nat) :
    (e.hevcDecide k pic r).ctus = 0 ∧ (e.hevcDecide k pic r).bytes = 0 ∧
      e.cfg.rowFloor k pic ≤ (e.hevcDecide k pic r).alloc := by
  unfold Engine.hevcDecide
  extract_lets c rows x fl finished done fly left spare sum alloc least q q2
  split
  · exact ⟨rfl, rfl, Nat.le_refl fl⟩
  · exact ⟨rfl, rfl, Nat.le_add_right fl _⟩

/-- A picture as its coding begins: with its cap, target, QP and header bytes, and a free buffer of its stream. -/
def Engine.picBegun (k : Nat) (pic : HevcPic) (hdr : Nat) (e : Engine) : HevcPic :=
  { e.hevcBegin k pic hdr with pool := e.freeBuf k }

theorem Engine.picBegun_cap (k : Nat) {pic : HevcPic} (hdr : Nat) (later : pic.first = false) :
    (e.picBegun k pic hdr).cap = (e.hst k).fill / 8 := by
  simp [Engine.picBegun, Engine.hevcBegin, later]

/-- The first row of a picture that is neither an IDR nor the first of its run, in its turn. -/
theorem Engine.hevcRowStart_first {k : Nat} {pic : HevcPic} {rest : List HevcPic} (hdr : Nat)
    (pics : (e.hst k).pics = pic :: rest) (fresh : pic.rows = []) (inter : pic.idr = false) (later : pic.first = false)
    (turn : e.hevcTurn = some k) (room : e.rowsInFlight < 4) :
    e.hevcRowStart k hdr = e.modHst k fun q => { q with
      pics := { e.picBegun k pic hdr with rows := [e.hevcDecide k (e.picBegun k pic hdr) 0] } :: rest } := by
  have rows : (e.hevcBegin k pic hdr).rows = [] := fresh
  simp [Engine.hevcRowStart, pics, fresh, inter, later, turn, Nat.not_le.2 room, Engine.picBegun, rows]

end

section
variable {t : Nat} {k : Fin 8} {s : State}

theorem does_hevcRowStart {ps sei hdr : Nat} {pic : HevcPic} {rest : List HevcPic} (hr : s.eng.sys.phase = .running)
    (pics : (s.eng.hst k).pics = pic :: rest) (fresh : pic.rows = []) (inter : pic.idr = false) (later : pic.first = false)
    (turn : s.eng.hevcTurn = some k.val) (room : s.eng.rowsInFlight < 4) :
    Does (.hevcRowStart t k ps sei hdr) t s fun a b => Engine.changesOnly [.hevc] a b ∧ b.hevc.pool = a.hevc.pool ∧
      ∃ p w, (b.hst k).pics = p :: rest ∧ p.rows = [w] ∧ p.cap = (a.hst k).fill / 8 ∧ p.hdr = ps + sei + hdr ∧ p.pool = a.freeBuf k ∧
        p.cfn = pic.cfn ∧ w.ctus = 0 ∧ w.bytes = 0 ∧ a.cfg.rowFloor k pic ≤ w.alloc := by
  refine Does.of_live (·.hevcRowStart k (ps + sei + hdr)) rfl hr ?_
  rw [Engine.hevcRowStart_first _ _ (by simpa using pics) fresh inter later (by simpa using turn) (by simpa using room)]
  set a := s.eng.at t
  obtain ⟨ctus, bytes, alloc⟩ := a.hevcDecide_fresh k (a.picBegun k pic (ps + sei + hdr)) 0
  exact ⟨a.modHst_only _ _, rfl, _, _, congrArg HevcStream.pics (a.modHst_hst k _), rfl, a.picBegun_cap k (ps + sei + hdr) later, rfl, rfl,
    rfl, ctus, bytes, alloc⟩

end

/-! HEVC_CTU_CODE (R225, R235, R238). -/

section
variable (e : Engine)

/-- A row with one more CTU, of some bytes. -/
def HevcRow.coded (n : Nat) (code : List HevcCu × Bool) (w : HevcRow) : HevcRow :=
  { w with ctus := w.ctus + 1, bytes := w.bytes + n, codes := w.codes ++ [code] }

/-- Bytes of the next CTU in emergency form (R235; log 24). -/
def Engine.emergSize (intra : Bool) (e : Engine) : Nat := Config.unstated 235 e.free % ((if intra then 16 else 2) + 1)

theorem Engine.emergSize_le (intra : Bool) : e.emergSize intra ≤ if intra then 16 else 2 :=
  Nat.le_of_lt_succ (Nat.mod_lt _ (Nat.succ_pos _))

/-- One row of a stream's oldest picture replaced, and the picture flagged. -/
def Engine.rowPut (k row : Nat) (w : HevcRow) (pic : HevcPic) (poison : Bool) (rest : List HevcPic) (e : Engine) : Engine :=
  e.modHst k fun q => { q with pics := { pic with rows := pic.rows.set row w, poison := poison } :: rest }

theorem Engine.rowPut_only (k row : Nat) (w : HevcRow) (pic : HevcPic) (poison : Bool) (rest : List HevcPic) :
    Engine.changesOnly [.hevc] e (e.rowPut k row w pic poison rest) := e.modHst_only _ _

theorem Engine.draw_only : Engine.changesOnly [.free] e e.draw.2 := by
  intro p hp
  cases p with
  | free => exact absurd (by decide) hp
  | _ => rfl

section
variable {k row : Nat} {pic : HevcPic} {rest : List HevcPic} {w : HevcRow} (pics : (e.hst k).pics = pic :: rest)
  (found : pic.rows[row]? = some w) (more : w.ctus + 1 < e.cfg.hvCols k) (cands : List HevcCand)
include pics found more

/-- A CTU before the last of its row whose best candidate fits takes that candidate. -/
theorem Engine.hevcCtuCode_fits (free : w.bound = false) {x : HevcCand}
    (best : e.hevcChoose k pic row w.ctus false cands = some x)
    (fits : w.bytes + x.bytes + e.cfg.emergBound k pic (w.ctus + 1) ≤ w.alloc) :
    e.hevcCtuCode k row cands false false =
      e.draw.2.rowPut k row (w.coded x.bytes (x.cus, true)) pic pic.poison rest := by
  have open_ : ¬ e.cfg.hvCols k ≤ w.ctus := by omega
  have last : w.ctus + 1 ≠ e.cfg.hvCols k := by omega
  simp [Engine.hevcCtuCode, pics, found, open_, best, fits, free, Engine.draw, last, Engine.rowPut, HevcRow.coded]

/-- One in a row that has turned to emergency form, or whose best candidate does not fit, takes that form. -/
theorem Engine.hevcCtuCode_bound (counts : w.emerg = false)
    (bound : w.bound = true ∨ ∃ x, e.hevcChoose k pic row w.ctus false cands = some x ∧
      w.alloc < w.bytes + x.bytes + e.cfg.emergBound k pic (w.ctus + 1)) :
    e.hevcCtuCode k row cands false false =
      (e.draw.2.bump .hevcCtuEmerg (hevcSrc k)).rowPut k row
        { w.coded (e.emergSize (e.cfg.hevcIntra k pic w.ctus)) (emergCtu row w.ctus (e.cfg.hevcIntra k pic w.ctus)) with
          bound := true } pic pic.poison rest := by
  have open_ : ¬ e.cfg.hvCols k ≤ w.ctus := by omega
  have last : w.ctus + 1 ≠ e.cfg.hvCols k := by omega
  rcases bound with turned | ⟨x, best, large⟩
  · simp [Engine.hevcCtuCode, pics, found, open_, turned, counts, Engine.draw, last, Engine.rowPut, HevcRow.coded,
      Engine.emergSize]
  · have tooLarge : ¬ w.bytes + x.bytes + e.cfg.emergBound k pic (w.ctus + 1) ≤ w.alloc := by omega
    simp [Engine.hevcCtuCode, pics, found, open_, best, tooLarge, counts, Engine.draw, last, Engine.rowPut, HevcRow.coded,
      Engine.emergSize]

/-- One whose source read met poison takes that form, and the picture is flagged. -/
theorem Engine.hevcCtuCode_poison (free : w.bound = false) (clean : pic.poison = false) :
    e.hevcCtuCode k row cands true false =
      (e.draw.2.bump .hevcPoison (hevcSrc k)).rowPut k row
        (w.coded (e.emergSize (e.cfg.hevcIntra k pic w.ctus)) (emergCtu row w.ctus (e.cfg.hevcIntra k pic w.ctus)))
        pic true rest := by
  have open_ : ¬ e.cfg.hvCols k ≤ w.ctus := by omega
  have last : w.ctus + 1 ≠ e.cfg.hvCols k := by omega
  simp [Engine.hevcCtuCode, pics, found, open_, free, clean, Engine.draw, last, Engine.rowPut, HevcRow.coded,
    Engine.emergSize]

end
end

section
variable {t : Nat} {k : Fin 8} {row : Nat} {cands : List HevcCand} {pic : HevcPic} {rest : List HevcPic} {w : HevcRow} {s : State}

theorem does_hevcCtuCode_fits {x : HevcCand} (hr : s.eng.sys.phase = .running) (pics : (s.eng.hst k).pics = pic :: rest)
    (found : pic.rows[row]? = some w) (more : w.ctus + 1 < s.eng.cfg.hvCols k) (free : w.bound = false)
    (best : s.eng.hevcChoose k pic row w.ctus false cands = some x)
    (fits : w.bytes + x.bytes + s.eng.cfg.emergBound k pic (w.ctus + 1) ≤ w.alloc) :
    Does (.hevcCtuCode t k row cands ⟨false, false⟩) t s fun a b => Engine.changesOnly [.hevc, .free] a b ∧ b.free = a.free + 1 ∧
      b.hevc = { a.hevc with streams := vmod a.hevc.streams k fun q => { q with pics := { pic with
        rows := pic.rows.set row (w.coded x.bytes (x.cus, true)) } :: rest } } := by
  refine Does.of_live (·.hevcCtuCode k row cands false false) rfl hr ?_
  rw [Engine.hevcCtuCode_fits _ (by simpa using pics) found (by simpa using more) cands free (by simpa using best)
    (by simpa using fits)]
  exact ⟨((Engine.draw_only _).andThen (Engine.rowPut_only _ _ _ _ _ _ _)).within, rfl, rfl⟩

theorem does_hevcCtuCode_bound (hr : s.eng.sys.phase = .running) (pics : (s.eng.hst k).pics = pic :: rest)
    (found : pic.rows[row]? = some w) (more : w.ctus + 1 < s.eng.cfg.hvCols k) (counts : w.emerg = false)
    (bound : w.bound = true ∨ ∃ x, s.eng.hevcChoose k pic row w.ctus false cands = some x ∧
      w.alloc < w.bytes + x.bytes + s.eng.cfg.emergBound k pic (w.ctus + 1)) :
    Does (.hevcCtuCode t k row cands ⟨false, false⟩) t s fun a b => Engine.changesOnly [.hevc, .free, .counters] a b ∧
      Engine.counted .hevcCtuEmerg (0x01C0 + k.val) a b ∧
      ∃ n, n ≤ (if a.cfg.hevcIntra k pic w.ctus then 16 else 2) ∧
        b.hevc = { a.hevc with streams := vmod a.hevc.streams k fun q => { q with pics := { pic with
          rows := pic.rows.set row { w.coded n (emergCtu row w.ctus (a.cfg.hevcIntra k pic w.ctus)) with bound := true } }
            :: rest } } := by
  refine Does.of_live (·.hevcCtuCode k row cands false false) rfl hr ?_
  rw [Engine.hevcCtuCode_bound _ (by simpa using pics) found (by simpa using more) cands counts (by simpa using bound)]
  exact ⟨(((Engine.draw_only _).andThen (Engine.bump_only _ _ _)).andThen (Engine.rowPut_only _ _ _ _ _ _ _)).within,
    (s.eng.at t).draw.2.counted_bump _ _, _, (s.eng.at t).emergSize_le _, rfl⟩

theorem does_hevcCtuCode_poison (hr : s.eng.sys.phase = .running) (pics : (s.eng.hst k).pics = pic :: rest)
    (found : pic.rows[row]? = some w) (more : w.ctus + 1 < s.eng.cfg.hvCols k) (free : w.bound = false)
    (clean : pic.poison = false) :
    Does (.hevcCtuCode t k row cands ⟨true, false⟩) t s fun a b => Engine.changesOnly [.hevc, .free, .counters] a b ∧
      Engine.counted .hevcPoison (0x01C0 + k.val) a b ∧
      ∃ n, n ≤ (if a.cfg.hevcIntra k pic w.ctus then 16 else 2) ∧
        b.hevc = { a.hevc with streams := vmod a.hevc.streams k fun q => { q with pics := { pic with
          poison := true
          rows := pic.rows.set row (w.coded n (emergCtu row w.ctus (a.cfg.hevcIntra k pic w.ctus))) } :: rest } } := by
  refine Does.of_live (·.hevcCtuCode k row cands true false) rfl hr ?_
  rw [Engine.hevcCtuCode_poison _ (by simpa using pics) found (by simpa using more) cands free clean]
  exact ⟨(((Engine.draw_only _).andThen (Engine.bump_only _ _ _)).andThen (Engine.rowPut_only _ _ _ _ _ _ _)).within,
    (s.eng.at t).draw.2.counted_bump _ _, _, (s.eng.at t).emergSize_le _, rfl⟩

end

/-! HEVC_PICTURE_COMPLETE in a mode without filler (R222, R227, R231 to R233, R237). -/

section
variable (e : Engine)

theorem Engine.dropShort_only (owner : Nat) (keep : PoolBuf → Bool) : Engine.changesOnly [.hevc] e (e.dropShort owner keep) :=
  e.setHevc_only _

theorem Engine.modBuf_only (b : Nat) (f : PoolBuf → PoolBuf) : Engine.changesOnly [.hevc] e (e.modBuf b f) := e.setHevc_only _

/-- With nothing recording, the proxy takes no picture. -/
theorem Engine.proxyTake_idle (idle : e.rec_.takes = []) (k before : Nat) (pic : HevcPic) : e.proxyTake k before pic = e := by
  have nobody : e.proxyFor pic = none := by
    rw [Engine.proxyFor, Engine.recNow, idle]
    cases pic.cfn with
    | none => rfl
    | some c => rfl
  rw [Engine.proxyTake, nobody]

/-- A stream whose oldest picture has gone into the ring without filler, its access unit being kept while it is in reach. -/
structure HevcStream.Completed (q : HevcStream) (c : Cfg) (pic : HevcPic) (rest : List HevcPic) (bytes : Nat) (u : HevcUnit)
    (q' : HevcStream) : Prop where
  pics : q'.pics = rest
  written : q'.written = q.written + bytes
  state : q'.state = if rest = [] then 1 else 2
  emergRun : q'.emergRun = false
  ring : q'.written ≤ q.written + c.ringBytes → u ∈ q'.ring
  joinAt : q'.joinAt = if pic.idr ∨ pic.sweep = some 0 then q.written else q.joinAt

/-- An access unit depends on the configuration alone, its picture given. -/
theorem Engine.hevcUnit_congr {a b : Engine} (cfg : a.cfg = b.cfg) (k : Nat) (pic : HevcPic) (start bytes filler : Nat) :
    a.hevcUnit k pic start bytes filler = b.hevcUnit k pic start bytes filler := by
  rw [Engine.hevcUnit, Engine.hevcUnit, cfg]

/-- A whole picture of real content without emergency rows, in a mode without filler and with no network sender: it leaves its
stream for the ring. -/
theorem Engine.hevcComplete_effect {k : Fin 8} {pic : HevcPic} {rest : List HevcPic} (up : Nat → Bool)
    (pics : (e.hst k).pics = pic :: rest) (whole : e.cfg.hevcWhole k pic = true) (lean : e.cfg.hvMode k ≠ 0)
    (alone : e.hevcSenders k = []) (calm : pic.rows.any (·.emerg) = false) (real : pic.skip = false) :
    Engine.changesOnly [.hevc, .md] e (e.hevcComplete k up) ∧
      (e.hst k).Completed e.cfg pic rest (pic.hdr + sumNat (pic.rows.map (·.bytes)))
        (e.hevcUnit k pic (e.hst k).written (pic.hdr + sumNat (pic.rows.map (·.bytes))) 0) ((e.hevcComplete k up).hst k) := by
  generalize complete : e.hevcComplete k up = b
  rw [Engine.hevcComplete, pics] at complete
  change (if !e.cfg.hevcWhole k pic then e else _) = b at complete
  rw [whole, if_neg (show ¬(!true) = true by decide), calm, real] at complete
  extract_lets c bytes emerg join recent qv e1 e2 e3 flagged start rec_ rebuilt kept at complete
  split at complete
  extract_lets f excess filler now done at complete
  have flags : Engine.changesOnly [.md] e flagged := by
    dsimp only [flagged]
    split
    · exact e.codecFlags_only _
    · exact Engine.changesOnly_refl _ e
  obtain ⟨pool, streams⟩ : Engine.changesOnly [.hevc] flagged rebuilt ∧ rebuilt.hevc.streams = flagged.hevc.streams := by
    dsimp only [rebuilt]
    split
    · exact ⟨flagged.modBuf_only _ _, rfl⟩
    · exact ⟨Engine.changesOnly_refl _ flagged, rfl⟩
  have keeps : Engine.changesOnly [.hevc, .md] e kept := ((flags.andThen pool).andThen (rebuilt.dropShort_only _ _)).within
  have only : Engine.changesOnly [.hevc, .md] e done := (keeps.andThen (kept.modHst_only _ _)).within
  have same : kept.hst k = e.hst k := by
    have pools : kept.hevc.streams = rebuilt.hevc.streams := rfl
    rw [Engine.hst, pools, streams, flags.hevc_eq, Engine.hst]
  have begins : start = (e.hst k).written := by rw [← Engine.hst_congr flags.hevc_eq]
  have noFiller : filler = 0 := if_neg lean
  rw [Engine.hevcSenders_congr only.cfg_eq, alone, List.foldl_nil] at complete
  have unit : kept.hevcUnit k pic start bytes filler = e.hevcUnit k pic (e.hst k).written bytes 0 := by
    rw [Engine.hevcUnit_congr keeps.cfg_eq, begins, noFiller]
  have wrote : now = (e.hst k).written + bytes := by rw [← begins]; exact congrArg (start + bytes + ·) noFiller
  refine ⟨complete ▸ only, ?_⟩
  rw [← complete, show done.hst k = _ from kept.modHst_hst k _, same, unit, begins]
  refine ⟨rfl, wrote, ?_, rfl, fun reach => ?_, ?_⟩
  · simp only [List.isEmpty_iff]
  · exact List.mem_filter.2 ⟨List.mem_append_right _ (List.mem_singleton_self _), decide_eq_true reach⟩
  · simp only [join, Bool.or_eq_true, decide_eq_true_eq]

/-- Such a picture with nothing recording goes into its ring, and no more. -/
theorem Engine.hevcPictureComplete_idle {k : Nat} {pic : HevcPic} {rest : List HevcPic}
    (pics : (e.hst k).pics = pic :: rest) (whole : e.cfg.hevcWhole k pic = true) (alone : e.hevcSenders k = [])
    (recorder : (e.hevcComplete k e.canSend).rec_ = e.rec_) (idle : e.rec_.takes = []) :
    e.hevcPictureComplete k = e.hevcComplete k e.canSend := by
  have free : (e.hevcComplete k e.canSend).rec_.takes = [] := by rw [recorder, idle]
  rw [Engine.hevcPictureComplete, pics]
  dsimp only
  rw [whole, alone, if_neg (by decide)]
  dsimp only [List.filter_nil, List.foldl_nil]
  rw [Engine.proxyTake_idle _ free, Engine.recPump_idle _ free]

end

section
variable {t : Nat} {k : Fin 8} {s : State}

theorem does_hevcPictureComplete {pic : HevcPic} {rest : List HevcPic} (hr : s.eng.sys.phase = .running)
    (pics : (s.eng.hst k).pics = pic :: rest) (whole : s.eng.cfg.hevcWhole k pic = true) (lean : s.eng.cfg.hvMode k ≠ 0)
    (alone : s.eng.hevcSenders k = []) (idle : s.eng.rec_.takes = []) (calm : pic.rows.any (·.emerg) = false)
    (real : pic.skip = false) :
    Does (.hevcPictureComplete t k) t s fun a b => Engine.changesOnly [.hevc, .md] a b ∧ (b.hst k).pics = rest ∧
      (b.hst k).written = (a.hst k).written + pic.hdr + sumNat (pic.rows.map (·.bytes)) ∧
      (b.hst k).state = (if rest = [] then 1 else 2) ∧ (b.hst k).emergRun = false ∧
      ((b.hst k).written ≤ (a.hst k).written + a.cfg.ringBytes →
        a.hevcUnit k pic (a.hst k).written (pic.hdr + sumNat (pic.rows.map (·.bytes))) 0 ∈ (b.hst k).ring) ∧
      (b.hst k).joinAt = if pic.idr ∨ pic.sweep = some 0 then (a.hst k).written else (a.hst k).joinAt := by
  refine Does.of_live (·.hevcPictureComplete k) rfl hr ?_
  obtain ⟨only, done⟩ := (s.eng.at t).hevcComplete_effect (s.eng.at t).canSend (by simpa using pics) (by simpa using whole)
    (by simpa using lean) (by simpa using alone) calm real
  rw [Engine.hevcPictureComplete_idle _ (by simpa using pics) (by simpa using whole) (by simpa using alone) only.rec_eq
    (by simpa using idle)]
  exact ⟨only, done.pics, done.written.trans (Nat.add_assoc _ _ _).symm, done.state, done.emergRun, done.ring, done.joinAt⟩

end

/-- Settles O34: a source frame taken, dropped and missed, a row started, a CTU that fits, that does not and that met poison,
and a picture complete, by their lemmas. -/
theorem hevcPicturesAreCoded : Obligations.HevcPicturesAreCoded := by
  unfold Obligations.HevcPicturesAreCoded
  exact ⟨fun _ _ _ _ hr on runs branch turn => does_hevcSourceFrame_taken hr (at_sourceDue on runs branch turn),
    fun _ _ _ _ hr on runs branch turn => does_hevcSourceFrame_dropped hr (at_sourceDue on runs branch turn),
    fun _ _ _ _ hr on runs branch turn => does_hevcSourceFrame_still hr (at_sourceDue on runs branch turn),
    fun _ _ _ _ _ _ _ _ => does_hevcRowStart, fun _ _ _ _ _ _ _ _ _ => does_hevcCtuCode_fits,
    fun _ _ _ _ _ _ _ _ => does_hevcCtuCode_bound, fun _ _ _ _ _ _ _ _ => does_hevcCtuCode_poison,
    fun _ _ _ _ _ => does_hevcPictureComplete⟩

end Sys2Proof.Machine
end

section
/-! The HEVC decoder (O35; R228, R239 to R242): access units received, decoded, not supported and late. -/

namespace Sys2Proof.Machine

/-! A decode after changes of the decodes. -/

section
variable (e : Engine)

theorem Engine.dec_congr {a b : Engine} (h : a.hevc.decs = b.hevc.decs) (d : Nat) : a.dec d = b.dec d := by
  rw [Engine.dec, Engine.dec, h]

@[simp] theorem Engine.at_dec (t d : Nat) : (e.at t).dec d = e.dec d := Engine.dec_congr (by rw [e.at_hevc]) d

theorem Engine.freeBuf_congr {a b : Engine} (h : a.hevc.pool = b.hevc.pool) (owner : Nat) : a.freeBuf owner = b.freeBuf owner := by
  rw [Engine.freeBuf, Engine.freeBuf, h]

@[simp] theorem Engine.at_freeBuf (t owner : Nat) : (e.at t).freeBuf owner = e.freeBuf owner :=
  Engine.freeBuf_congr (by rw [e.at_hevc]) owner

theorem Engine.modDec_only (d : Nat) (f : HevcDec → HevcDec) : Engine.changesOnly [.hevc] e (e.modDec d f) := e.setHevc_only _

theorem Engine.modDec_dec (d : Fin 4) (f : HevcDec → HevcDec) : (e.modDec d f).dec d = f (e.dec d) :=
  vget_vmod_same e.hevc.decs d.isLt f _

theorem Engine.modDec_modDec (d : Nat) (f g : HevcDec → HevcDec) :
    (e.modDec d f).modDec d g = e.modDec d fun q => g (f q) := by
  simp only [Engine.modDec, vmod_vmod]

/-- A change of a decode is what it makes of the decode as it stands. -/
theorem Engine.modDec_congr (d : Nat) {f g : HevcDec → HevcDec} (h : f (e.dec d) = g (e.dec d)) :
    e.modDec d f = e.modDec d g := by
  rw [Engine.modDec, Engine.modDec, vmod_congr e.hevc.decs d HevcDec.reset h]

/-! HEVC_ACCESS_UNIT_RX (R334). -/

theorem Engine.hevcAccessUnitRx_queues {d : Nat} (rtp : Nat) (au : AccessUnit) (receives : e.cfg.decRx d = true)
    (network : (e.dec d).media = false) (runs : e.clk.classV = false) :
    e.hevcAccessUnitRx d rtp au = e.modDec d fun q => { q with
      state := if q.state = 0 then 1 else q.state
      queue := q.queue ++ [{ au with pts := (e.rtpDtb rtp + (ms (e.cfg.decJitter d) : Nat)).toNat }] } := by
  rw [Engine.hevcAccessUnitRx, if_neg (by simp [receives, network, runs])]

/-! HEVC_DECODE_LATE (R242). -/

/-- A picture without flags goes out again from a decode that conceals nothing: one output more. -/
theorem Engine.decRepeat_plain {d : Nat} {o : DecOut} (last : (e.dec d).last = some o) (plain : o.flags = 0)
    (sound : (e.dec d).concealing = false) : e.decRepeat d 0 = e.modDec d fun q => { q with outputs := q.outputs + 1 } := by
  have flags : o.flags ||| 0 ||| bit (e.dec d).concealing = 0 := by rw [plain, sound]; rfl
  rw [Engine.decRepeat, last]
  dsimp only [Engine.decOutput]
  rw [flags, if_neg (by decide)]
  refine e.modDec_congr d ?_
  rw [last, ← plain]

theorem Engine.decRepeat_nothing {d : Nat} (last : (e.dec d).last = none) (more : Nat) : e.decRepeat d more = e := by
  rw [Engine.decRepeat, last]

/-- A late picture is counted, and the last one goes out again. -/
theorem Engine.hevcDecodeLate_plain {d : Nat} {o : DecOut} (on : (e.dec d).state ≠ 0) (last : (e.dec d).last = some o)
    (plain : o.flags = 0) (sound : (e.dec d).concealing = false) :
    e.hevcDecodeLate d = (e.bump .hevcDecLate (decSrc d)).modDec d fun q => { q with outputs := q.outputs + 1 } := by
  have same : (e.bump .hevcDecLate (decSrc d)).dec d = e.dec d := Engine.dec_congr (by rw [e.bump_hevc]) d
  rw [Engine.hevcDecodeLate, if_neg on, Engine.decRepeat_plain _ (by rw [same]; exact last) plain (by rw [same]; exact sound)]

/-! HEVC_DECODE_PICTURE of a unit that the decode does not take (R239). -/

/-- A unit that a received stream's decode cannot take stops the decode. -/
theorem Engine.hevcDecodePicture_unsupported {d : Fin 4} {au : AccessUnit}
    (takes : (e.dec d).state = 1 ∨ (e.dec d).state = 2) (network : (e.dec d).media = false)
    (large : e.cfg.decFits d au = false) (nothing : (e.dec d).last = none) :
    e.hevcDecodePicture d au =
      (e.modDec d fun q => { q with queue := q.queue.erase au, state := 3 }).emit (decSrc d) .hevcDecUnsupported [] := by
  have on : (e.dec d).state ≠ 0 := by omega
  have goes : (e.dec d).state ≠ 3 := by omega
  have stops : e.hevcDecodePicture d au = (((e.modDec d fun q => { q with queue := q.queue.erase au }).modDec d fun q =>
      { q with state := 3 }).emit (decSrc d) .hevcDecUnsupported []).decRepeat d 0 := by
    simp [Engine.hevcDecodePicture, on, network, e.modDec_dec d, large, goes]
  rw [stops, Engine.modDec_modDec]
  refine Engine.decRepeat_nothing _ ?_ 0
  exact (congrArg HevcDec.last (e.modDec_dec d fun q => { q with queue := q.queue.erase au, state := 3 })).trans nothing

end

section
variable {t : Nat} {d : Fin 4} {s : State}

theorem does_hevcAccessUnitRx {rtp : Nat} {au : AccessUnit} (hr : s.eng.sys.phase = .running)
    (receives : s.eng.cfg.decRx d = true) (network : (s.eng.dec d).media = false) (runs : s.eng.clk.classV = false) :
    Does (.hevcAccessUnitRx t d ⟨rtp, au⟩) t s fun a b => Engine.changesOnly [.hevc] a b ∧
      b.hevc = { a.hevc with decs := vmod a.hevc.decs d fun q => { q with
        state := if q.state = 0 then 1 else q.state
        queue := q.queue ++ [{ au with pts := (a.rtpDtb rtp + (ms (a.cfg.decJitter d) : Nat)).toNat }] } } := by
  refine Does.of_live (·.hevcAccessUnitRx d rtp au) rfl hr ?_
  rw [Engine.hevcAccessUnitRx_queues _ _ _ (by simpa using receives) (by simpa using network) (by simpa using runs)]
  exact ⟨Engine.modDec_only _ _ _, rfl⟩

theorem does_hevcDecodePicture_unsupported {au : AccessUnit} (hr : s.eng.sys.phase = .running)
    (takes : (s.eng.dec d).state = 1 ∨ (s.eng.dec d).state = 2) (network : (s.eng.dec d).media = false)
    (large : s.eng.cfg.decFits d au = false) (nothing : (s.eng.dec d).last = none) :
    Does (.hevcDecodePicture t d au) t s fun a b => Engine.changesOnly [.hevc, .log] a b ∧
      (b.dec d).state = 3 ∧ (b.dec d).queue = (a.dec d).queue.erase au ∧
      Engine.newEvents a b = [(0x01C8 + d.val, .hevcDecUnsupported, [])] := by
  refine Does.of_live (·.hevcDecodePicture d au) rfl hr ?_
  rw [Engine.hevcDecodePicture_unsupported _ (by simpa using takes) (by simpa using network) (by simpa using large)
    (by simpa using nothing)]
  set a := s.eng.at t
  have stopped := a.modDec_dec d fun q => { q with queue := q.queue.erase au, state := 3 }
  exact ⟨((a.modDec_only _ _).andThen (Engine.emit_only _ _ _ _)).within, congrArg HevcDec.state stopped,
    congrArg HevcDec.queue stopped, Engine.newEvents_emit _ _ _ _ _ rfl⟩

theorem does_hevcDecodeLate {o : DecOut} (hr : s.eng.sys.phase = .running) (on : (s.eng.dec d).state ≠ 0)
    (last : (s.eng.dec d).last = some o) (plain : o.flags = 0) (sound : (s.eng.dec d).concealing = false) :
    Does (.hevcDecodeLate t d) t s fun a b => Engine.changesOnly [.hevc, .counters] a b ∧
      b.hevc = { a.hevc with decs := vmod a.hevc.decs d fun q => { q with outputs := q.outputs + 1 } } ∧
      Engine.counted .hevcDecLate (0x01C8 + d.val) a b := by
  refine Does.of_live (·.hevcDecodeLate d) rfl hr ?_
  rw [Engine.hevcDecodeLate_plain _ (by simpa using on) (by simpa using last) plain (by simpa using sound)]
  set a := s.eng.at t
  refine ⟨((a.bump_only _ _).andThen (Engine.modDec_only _ _ _)).within, ?_, a.counted_bump _ _⟩
  rw [Engine.modDec_hevc, a.bump_hevc]

end

/-! HEVC_DECODE_PICTURE of a whole IDR picture (R228, R240, R241). -/

/-- An IDR picture that came whole: nothing of it is in error, lost or poisoned. -/
structure WholeIdr (au : AccessUnit) : Prop where
  idr : au.idr = true
  irap : au.irap = true
  rasl : au.rasl = false
  nals : au.nalErrs = 0
  slices : au.sliceErrs = 0
  lost : au.lost = []
  hash : au.hashOk ≠ some false
  poison : au.poison = []

/-- A buffer of a decode holds the picture of a unit, as a reference without flags. -/
structure PoolBuf.Holds (d : Nat) (au : AccessUnit) (x : PoolBuf) : Prop where
  owner : x.owner = 8 + d
  mark : x.mark = .short
  poc : x.poc = au.poc
  pts : x.pts = au.pts
  flags : x.flags = 0

/-- What giving out pictures of a decode leaves: the streams, the decode's state, and the reference that a unit has become. -/
structure Engine.Outputs (d : Nat) (a b : Engine) : Prop where
  only : Engine.changesOnly [.hevc, .counters] a b
  streams : b.hevc.streams = a.hevc.streams
  state : (b.dec d).state = (a.dec d).state
  concealing : (b.dec d).concealing = (a.dec d).concealing
  held : ∀ n au, (vget a.hevc.pool n PoolBuf.reset).Holds d au → (vget b.hevc.pool n PoolBuf.reset).Holds d au

section
variable (e : Engine)

theorem Engine.Outputs.refl (d : Nat) (a : Engine) : Engine.Outputs d a a :=
  ⟨Engine.changesOnly_refl _ a, rfl, rfl, rfl, fun _ _ h => h⟩

theorem Engine.Outputs.trans {d : Nat} {a b c : Engine} (h : Engine.Outputs d a b) (h' : Engine.Outputs d b c) :
    Engine.Outputs d a c :=
  ⟨Engine.changesOnly_trans h.only h'.only, h'.streams.trans h.streams, h'.state.trans h.state,
    h'.concealing.trans h.concealing, fun n au x => h'.held n au (h.held n au x)⟩

theorem Engine.Outputs.bump (d : Nat) (c : Ctr) (src : Nat) : Engine.Outputs d e (e.bump c src) := by
  have same := e.bump_hevc c src
  have dec : (e.bump c src).dec d = e.dec d := Engine.dec_congr (by rw [same]) d
  exact ⟨(e.bump_only c src).within, by rw [same], by rw [dec], by rw [dec], fun n au h => by rw [same]; exact h⟩

theorem Engine.decOutput_outputs (d : Nat) (o : DecOut) : Engine.Outputs d e (e.decOutput d o) := by
  have kept (g : HevcDec → HevcDec) (state : ∀ q, (g q).state = q.state) (conceals : ∀ q, (g q).concealing = q.concealing) :
      Engine.Outputs d e (e.modDec d g) :=
    ⟨(e.modDec_only d g).within, rfl, vget_vmod_keeps HevcDec.state e.hevc.decs d d g _ state,
      vget_vmod_keeps HevcDec.concealing e.hevc.decs d d g _ conceals, fun _ _ h => h⟩
  unfold Engine.decOutput
  extract_lets flags c
  have given : Engine.Outputs d e c := kept _ (fun _ => rfl) (fun _ => rfl)
  split
  · exact given.trans (Engine.Outputs.bump c d _ _)
  · exact given

/-- A delivered buffer that is a reference stays one. -/
theorem Engine.decDeliver_outputs (d b : Nat) : Engine.Outputs d e (e.decDeliver d b) := by
  unfold Engine.decDeliver
  extract_lets x c
  have cleared : Engine.Outputs d e c := by
    refine ⟨(e.modBuf_only b _).within, rfl, rfl, rfl, fun n au h => ?_⟩
    by_cases same : b = n
    · subst same
      by_cases inPool : b < 32
      · rw [show vget c.hevc.pool b PoolBuf.reset = _ from vget_vmod_same e.hevc.pool inPool _ _]
        exact ⟨h.owner, by simp [h.mark], h.poc, h.pts, h.flags⟩
      · rwa [show c.hevc.pool = e.hevc.pool from dif_neg inPool]
    · rwa [show vget c.hevc.pool n PoolBuf.reset = _ from vget_vmod_ne e.hevc.pool same _ _]
  split
  · exact cleared.trans (c.decOutput_outputs d _)
  · exact cleared

theorem Engine.decReorder_outputs (d reorder fuel : Nat) : Engine.Outputs d e (e.decReorder d reorder fuel) := by
  induction fuel generalizing e with
  | zero => exact Engine.Outputs.refl d e
  | succ n ih =>
    unfold Engine.decReorder
    extract_lets outs
    split
    · exact Engine.Outputs.refl d e
    · split
      · exact (e.decDeliver_outputs d _).trans (ih _)
      · exact Engine.Outputs.refl d e

/-- The buffer found free is one of the owner's, and unused. -/
theorem Engine.freeBuf_some {owner n : Nat} (h : e.freeBuf owner = some n) :
    n < 32 ∧ (vget e.hevc.pool n PoolBuf.reset).owner = owner ∧ (vget e.hevc.pool n PoolBuf.reset).mark = .unused :=
  ⟨List.mem_range.1 (List.mem_of_find?_eq_some h), by simpa using List.find?_some h⟩

theorem Engine.freeBuf_isSome {owner n : Nat} (inPool : n < 32) (own : (vget e.hevc.pool n PoolBuf.reset).owner = owner)
    (unused : (vget e.hevc.pool n PoolBuf.reset).mark = .unused) : (e.freeBuf owner).isSome = true :=
  List.find?_isSome.2 ⟨n, List.mem_range.2 inPool, decide_eq_true ⟨own, unused⟩⟩

/-- Applying a reference picture set takes no buffer (R228). -/
theorem Engine.decRefs_freeBuf (d : Nat) (au : AccessUnit) (free : (e.freeBuf (8 + d)).isSome = true) :
    ((e.decRefs d au).freeBuf (8 + d)).isSome = true := by
  obtain ⟨n, found⟩ := Option.isSome_iff_exists.1 free
  obtain ⟨inPool, own, unused⟩ := e.freeBuf_some found
  have same : vget (e.decRefs d au).hevc.pool n PoolBuf.reset = vget e.hevc.pool n PoolBuf.reset := by
    unfold Engine.decRefs
    extract_lets names long mark
    rw [vget_map _ inPool]
    simp [mark, unused]
  exact Engine.freeBuf_isSome _ inPool (by rw [same]; exact own) (by rw [same]; exact unused)

theorem Engine.decRefs_only (d : Nat) (au : AccessUnit) : Engine.changesOnly [.hevc] e (e.decRefs d au) := e.setHevc_only _

/-- With a free buffer no picture has to go out first. -/
theorem Engine.decBump_free {d : Nat} (free : (e.freeBuf (8 + d)).isSome = true) (fuel : Nat) : e.decBump d fuel = e := by
  cases fuel with
  | zero => rfl
  | succ n => rw [Engine.decBump, if_pos free]

theorem Engine.decMissing_idr (d : Nat) {au : AccessUnit} (idr : au.idr = true) : e.decMissing d au = [] := by
  rw [Engine.decMissing, if_pos idr]

/-- A random access point on a decode that conceals nothing neither opens nor ends a run of concealment (R241). -/
theorem HevcDec.runAfter_sound {q : HevcDec} {au : AccessUnit} (sound : q.concealing = false) (irap : au.irap = true) :
    (q.runAfter au false).1.concealing = false ∧ (q.runAfter au false).1.state = q.state ∧ (q.runAfter au false).2 = false := by
  simp [HevcDec.runAfter, sound, irap]

/-- A decode as it begins a picture: with the picture's reference set applied. -/
def Engine.decBegun (d : Nat) (au : AccessUnit) (e : Engine) : Engine :=
  (e.modDec d fun q => { q with
    state := 2, fresh := false, holdTo := q.holdAfter au
    skipRasl := if au.irap then q.fresh && !au.idr else q.skipRasl }).decRefs d au

theorem Engine.decBegun_only (d : Nat) (au : AccessUnit) : Engine.changesOnly [.hevc] e (e.decBegun d au) :=
  ((e.modDec_only d _).andThen (Engine.decRefs_only _ d au)).within

theorem Engine.decBegun_dec (d : Fin 4) (au : AccessUnit) :
    ((e.decBegun d au).dec d).state = 2 ∧ ((e.decBegun d au).dec d).concealing = (e.dec d).concealing :=
  have begun := e.modDec_dec d fun q => { q with
    state := 2, fresh := false, holdTo := q.holdAfter au
    skipRasl := if au.irap then q.fresh && !au.idr else q.skipRasl }
  ⟨(congrArg HevcDec.state begun).trans rfl, (congrArg HevcDec.concealing begun).trans rfl⟩

theorem Engine.decBegun_freeBuf {d : Nat} (au : AccessUnit) (free : (e.freeBuf (8 + d)).isSome = true) :
    ((e.decBegun d au).freeBuf (8 + d)).isSome = true := Engine.decRefs_freeBuf _ d au free

/-- A picture decoded into a buffer: the decode goes on as q, having decoded one more. -/
def Engine.picDecoded (d n : Nat) (q : HevcDec) (write : PoolBuf → PoolBuf) (e : Engine) : Engine :=
  ((e.modDec d fun _ => q).modBuf n write).modDec d fun q => { q with decoded := q.decoded + 1 }

theorem Engine.picDecoded_only (d n : Nat) (q : HevcDec) (write : PoolBuf → PoolBuf) :
    Engine.changesOnly [.hevc] e (e.picDecoded d n q write) := e.setHevc_only _

theorem Engine.picDecoded_dec (d : Fin 4) (n : Nat) (q : HevcDec) (write : PoolBuf → PoolBuf) :
    (e.picDecoded d n q write).dec d = { q with decoded := q.decoded + 1 } :=
  (Engine.modDec_dec ((e.modDec d fun _ => q).modBuf n write) d _).trans
    (congrArg (fun q : HevcDec => { q with decoded := q.decoded + 1 }) (e.modDec_dec d _))

/-- A whole IDR picture goes into a buffer of the decode, as a reference without flags; then pictures go out. -/
theorem Engine.decTake_wholeIdr {d : Fin 4} {au : AccessUnit} (start : Nat) (whole : WholeIdr au)
    (sound : (e.dec d).concealing = false) (free : (e.freeBuf (8 + d)).isSome = true) :
    ∃ n q write, e.decTake d start au = ((e.decBegun d au).picDecoded d n q write).decReorder d au.reorder 32 ∧ n < 32 ∧
      (vget (e.decBegun d au).hevc.pool n PoolBuf.reset).owner = 8 + d.val ∧ q.state = 2 ∧ q.concealing = false ∧
      ∀ x : PoolBuf, x.owner = 8 + d.val → (write x).Holds d au := by
  generalize took : e.decTake d start au = b
  unfold Engine.decTake at took
  extract_lets src q begun refs crowded room slot decodes grey missing poison damaged badHash conceal nals slices
    missCounted poisonCounted hashCounted missLogged acted logged near flags pic at took
  have open_ : (refs.freeBuf (8 + d)).isSome = true := e.decBegun_freeBuf au free
  obtain ⟨n, found⟩ := Option.isSome_iff_exists.1 open_
  obtain ⟨inPool, own, -⟩ := refs.freeBuf_some found
  obtain ⟨decoding, sameRun⟩ := e.decBegun_dec d au
  have roomy : room = refs := refs.decBump_free open_ 32
  have slot_eq : slot = some n := by rw [← found, ← roomy]
  have present : missing = false := by simp [missing, grey, room.decMissing_idr d whole.idr]
  have undamaged : damaged = false := by simp [damaged, whole.slices, whole.lost]
  have clean : poison = false := by simp [poison, whole.poison]
  have matched : badHash = false := by simp [badHash, whole.hash]
  have nothing : conceal = false := by simp [conceal, present, undamaged, clean, decodes, slot_eq]
  have quiet : acted = false := by simp [acted, whole.nals, present, undamaged, matched, crowded, found]
  have plain : flags = 0 := by simp [flags, nothing, matched, clean]
  have same : logged = refs := by
    simp [logged, quiet, missLogged, hashCounted, matched, poisonCounted, clean, missCounted, present, slices, nals,
      whole.nals, whole.slices, Engine.bumpN, roomy]
  obtain ⟨calm, goesOn, running⟩ := HevcDec.runAfter_sound (q := refs.dec d) (sameRun.trans sound) whole.irap
  rw [same, nothing, slot_eq] at took
  split at took
  next q2 ended after =>
  rw [after] at calm goesOn running
  extract_lets run told at took
  rw [show told = run from if_neg (Bool.eq_false_iff.1 running)] at took
  exact ⟨n, _, _, took.symm, inPool, own, goesOn.trans decoding, calm, fun x mine => ⟨mine, rfl, rfl, rfl, plain⟩⟩

/-- What decoding a whole IDR picture leaves. -/
theorem Engine.decTake_wholeIdr_effect {d : Fin 4} {au : AccessUnit} (start : Nat) (whole : WholeIdr au)
    (sound : (e.dec d).concealing = false) (free : (e.freeBuf (8 + d)).isSome = true) :
    Engine.changesOnly [.hevc, .counters] e (e.decTake d start au) ∧ ((e.decTake d start au).dec d).state = 2 ∧
      ((e.decTake d start au).dec d).concealing = false ∧ (e.decTake d start au).hevc.streams = e.hevc.streams ∧
      ∃ n, n < 32 ∧ (vget (e.decTake d start au).hevc.pool n PoolBuf.reset).Holds d au := by
  obtain ⟨n, q, write, took, inPool, own, decoding, calm, holds⟩ := e.decTake_wholeIdr start whole sound free
  have dec := (e.decBegun d au).picDecoded_dec d n q write
  have written : (vget ((e.decBegun d au).picDecoded d n q write).hevc.pool n PoolBuf.reset).Holds d au := by
    rw [show vget ((e.decBegun d au).picDecoded d n q write).hevc.pool n PoolBuf.reset = _ from
      vget_vmod_same (e.decBegun d au).hevc.pool inPool write _]
    exact holds _ own
  have given := ((e.decBegun d au).picDecoded d n q write).decReorder_outputs d au.reorder 32
  rw [took]
  exact ⟨(((e.decBegun_only d au).andThen (Engine.picDecoded_only _ d n q write)).andThen given.only).within,
    given.state.trans (by rw [dec]; exact decoding), given.concealing.trans (by rw [dec]; exact calm), given.streams,
    n, inPool, given.held n au written⟩

/-- A unit that a received stream's decode takes leaves its queue and is decoded. -/
theorem Engine.hevcDecodePicture_taken {d : Fin 4} {au : AccessUnit} (takes : (e.dec d).state = 1 ∨ (e.dec d).state = 2)
    (network : (e.dec d).media = false) (fits : e.cfg.decFits d au = true) (trailing : au.rasl = false) :
    e.hevcDecodePicture d au = (e.modDec d fun q => { q with queue := q.queue.erase au }).decTake d (e.playStart d) au := by
  have on : (e.dec d).state ≠ 0 := by omega
  have goes : (e.dec d).state ≠ 3 := by omega
  simp [Engine.hevcDecodePicture, on, network, e.modDec_dec d, fits, goes, trailing]

end

section
variable {t : Nat} {d : Fin 4} {s : State}

theorem does_hevcDecodePicture_wholeIdr {au : AccessUnit} (hr : s.eng.sys.phase = .running)
    (takes : (s.eng.dec d).state = 1 ∨ (s.eng.dec d).state = 2) (network : (s.eng.dec d).media = false)
    (fits : s.eng.cfg.decFits d au = true) (whole : WholeIdr au) (sound : (s.eng.dec d).concealing = false)
    (free : (s.eng.freeBuf (8 + d.val)).isSome = true) :
    Does (.hevcDecodePicture t d au) t s fun a b => Engine.changesOnly [.hevc, .counters] a b ∧ (b.dec d).state = 2 ∧
      (b.dec d).concealing = false ∧ b.hevc.streams = a.hevc.streams ∧
      ∃ k, k < 32 ∧ (vget b.hevc.pool k PoolBuf.reset).owner = 8 + d.val ∧ (vget b.hevc.pool k PoolBuf.reset).mark = .short ∧
        (vget b.hevc.pool k PoolBuf.reset).poc = au.poc ∧ (vget b.hevc.pool k PoolBuf.reset).pts = au.pts ∧
        (vget b.hevc.pool k PoolBuf.reset).flags = 0 := by
  refine Does.of_live (·.hevcDecodePicture d au) rfl hr ?_
  rw [Engine.hevcDecodePicture_taken _ (by simpa using takes) (by simpa using network) (by simpa using fits) whole.rasl]
  set a := s.eng.at t
  set c := a.modDec d fun q => { q with queue := q.queue.erase au }
  have unqueued : c.dec d = { a.dec d with queue := (a.dec d).queue.erase au } := a.modDec_dec d _
  have calm : (a.dec d).concealing = false := by simpa [a] using sound
  have open_ : (a.freeBuf (8 + d)).isSome = true := by simpa [a] using free
  obtain ⟨only, decoding, goesOn, streams, n, inPool, holds⟩ :=
    c.decTake_wholeIdr_effect (a.playStart d) whole (by rw [unqueued]; exact calm) open_
  exact ⟨((a.modDec_only d _).andThen only).within, decoding, goesOn, streams, n, inPool, holds.owner, holds.mark, holds.poc,
    holds.pts, holds.flags⟩

end

/-- Settles O35: a unit received, one decoded, one that its decode does not take, and one late, by their lemmas. -/
theorem hevcPicturesAreDecoded : Obligations.HevcPicturesAreDecoded := by
  unfold Obligations.HevcPicturesAreDecoded
  exact ⟨fun _ _ _ _ _ => does_hevcAccessUnitRx,
    fun _ _ _ _ hr takes network fits idr irap rasl nals slices lost hash poison sound free =>
      does_hevcDecodePicture_wholeIdr hr takes network fits ⟨idr, irap, rasl, nals, slices, lost, hash, poison⟩ sound free,
    fun _ _ _ _ => does_hevcDecodePicture_unsupported, fun _ _ _ _ => does_hevcDecodeLate⟩

end Sys2Proof.Machine
end

section
/-! DEFLATE (O31; R270, R499 to R501): the first block of a stream, and the sidecar whose content it takes. -/

namespace Sys2Proof.Machine

theorem zeroWords_nil (bs : List Byte) : zeroWords [] bs = bs := by
  simp [zeroWords, List.mapIdx_eq_iff]

/-- A stream once its first block is in it: what it has read, and whether the block was its last. -/
structure DeflateStream.Opens (number : Nat) (zlib done : Bool) (input : List Byte) (x : DeflateStream) : Prop where
  number : x.number = number
  zlib : x.zlib = zlib
  done : x.done = done
  window : x.window = input.reverse.take 32768
  adler : x.adler = adlerRun (1, 0) input

/-- What the bits of a stream do not carry: its end adds bits and bytes only (R499). -/
def DeflateStream.read (x : DeflateStream) : Nat × Bool × List Byte × (Nat × Nat) := (x.number, x.zlib, x.window, x.adler)

theorem DeflateStream.endBlock_read (x : DeflateStream) (flush last : Bool) : (x.endBlock flush last).read = x.read := by
  unfold DeflateStream.endBlock
  split
  · dsimp only
    split <;> rfl
  · split <;> rfl

/-- A stream after a block of it: its bits follow, the window and the Adler-32 take the input. -/
def DeflateStream.after (x : DeflateStream) (bits : List Bool) (inp : List Byte) (flush last : Bool) : DeflateStream :=
  { ({ x.add bits with window := (inp.reverse ++ x.window).take 32768, adler := adlerRun x.adler inp } :
      DeflateStream).endBlock flush last with done := last }

theorem DeflateStream.after_read (x : DeflateStream) (bits : List Bool) (inp : List Byte) (flush last : Bool) :
    (x.after bits inp flush last).read =
      (x.number, x.zlib, (inp.reverse ++ x.window).take 32768, adlerRun x.adler inp) :=
  DeflateStream.endBlock_read
    { x.add bits with window := (inp.reverse ++ x.window).take 32768, adler := adlerRun x.adler inp } flush last

theorem DeflateStream.fresh_after_opens (number : Nat) (zlib : Bool) (bits : List Bool) (inp : List Byte) (flush last : Bool) :
    ((DeflateStream.fresh number zlib).after bits inp flush last).Opens number zlib last inp := by
  have read := (DeflateStream.fresh number zlib).after_read bits inp flush last
  simp only [DeflateStream.read, DeflateStream.fresh, List.append_nil, Prod.mk.injEq] at read
  obtain ⟨number, zlib, window, adler⟩ := read
  exact ⟨number, zlib, rfl, window, adler⟩

section
variable (e : Engine)

/-- The one stream of an engine. -/
def Engine.onlyStream (n : Nat) (x : DeflateStream) (e : Engine) : Engine :=
  { e with md := { e.md with deflate := vmod e.md.deflate n fun _ => [x] } }

theorem Engine.onlyStream_only (n : Nat) (x : DeflateStream) : Engine.changesOnly [.md] e (e.onlyStream n x) := e.setMd_only _

theorem Engine.onlyStream_deflate (n : Fin 2) (x : DeflateStream) : vget (e.onlyStream n x).md.deflate n [] = [x] :=
  vget_vmod_same e.md.deflate n.isLt _ _

section
variable {n : Nat} {input : List Byte} {code : List Bool} {poison : List Nat} (unused : vget e.md.deflate n [] = [])
  (symbols : (lzToks (zeroWords poison input).length [] (zeroWords poison input)).length ≤ 16384)
include unused symbols

/-- The first block of an engine's first stream: stored or coded, and a mismatch counted and logged (R501). -/
theorem Engine.deflateRun_first (stream : Nat) (zlib flush last : Bool) :
    ∃ x, x.Opens stream zlib last (zeroWords poison input) ∧ e.deflateRun n stream zlib input code poison flush last =
      if ((DeflateStream.fresh stream zlib).block (zeroWords poison input) code (!poison.isEmpty) last).2 then
        ((e.onlyStream n x).bump .deflateMismatch (0x0356 + n)).emit (0x0356 + n) .deflateMismatch
          (le 4 stream ++ le 1 (bit (!poison.isEmpty)))
      else e.onlyStream n x := by
  refine ⟨_, DeflateStream.fresh_after_opens stream zlib
    ((DeflateStream.fresh stream zlib).block (zeroWords poison input) code (!poison.isEmpty) last).1 _ flush last, ?_⟩
  unfold Engine.deflateRun
  rw [unused]
  exact if_neg (Nat.not_lt.2 symbols)

theorem Engine.deflateRun_poisoned (bad : poison ≠ []) (stream : Nat) (zlib flush last : Bool) :
    ∃ x, x.Opens stream zlib last (zeroWords poison input) ∧ e.deflateRun n stream zlib input code poison flush last =
      ((e.onlyStream n x).bump .deflateMismatch (0x0356 + n)).emit (0x0356 + n) .deflateMismatch (le 4 stream ++ le 1 1) := by
  obtain ⟨x, opens, run⟩ := e.deflateRun_first unused symbols stream zlib flush last (code := code)
  have poisoned : (!poison.isEmpty) = true := by simpa using bad
  rw [poisoned] at run
  exact ⟨x, opens, run⟩

end

theorem Engine.deflateRun_inflates {n : Nat} {input : List Byte} {code : List Bool} (unused : vget e.md.deflate n [] = [])
    (symbols : (lzToks input.length [] input).length ≤ 16384)
    (own : takeDynamic code = some (lzToks input.length [] input, [])) (stream : Nat) (zlib flush last : Bool) :
    ∃ x, x.Opens stream zlib last input ∧
      e.deflateRun n stream zlib input code [] flush last = e.onlyStream n x := by
  obtain ⟨x, opens, run⟩ := e.deflateRun_first unused (poison := []) (by rwa [zeroWords_nil]) stream zlib flush last
    (code := code)
  have agrees : ((DeflateStream.fresh stream zlib).block input code false last).2 = false := by
    rw [DeflateStream.block, if_neg Bool.false_ne_true]
    exact congrArg Prod.snd (if_pos own)
  rw [zeroWords_nil] at opens run
  exact ⟨x, opens, run.trans (if_neg (by rw [List.isEmpty_nil, Bool.not_true, agrees]; decide))⟩

/-! A block of a sidecar (R270). -/

/-- The sidecar that a stream compresses is one of a clip, and has not ended. -/
theorem Engine.sideOf_some {stream : Nat} {x : SideFile} (h : e.sideOf stream = some x) :
    x.stream = stream ∧ x.done = false ∧ ∃ tk ∈ e.rec_.takes, ∃ c ∈ tk.clips, x ∈ c.sides := by
  obtain ⟨tk, htk, hx⟩ := List.mem_flatMap.1 (List.mem_of_mem_head? h)
  obtain ⟨c, hc, hx⟩ := List.mem_flatMap.1 hx
  obtain ⟨mem, is⟩ := List.mem_filter.1 hx
  obtain ⟨number, going⟩ : x.stream = stream ∧ x.done = false := by simpa using is
  exact ⟨number, going, tk, htk, c, hc, mem⟩

/-- The sidecars of a stream that are open have n bytes of their content taken. -/
def Recorder.sidesTaken (x : SideFile) (n : Nat) (out : List Byte) (r : Recorder) : Recorder :=
  let give (key : Option (BitVec 512)) (y : SideFile) : SideFile :=
    if y.stream = x.stream && !y.done then y.taken key n out else y
  { r with takes := r.takes.map fun t => { t with clips := t.clips.map fun c => { c with sides := c.sides.map (give c.key) } } }

theorem Recorder.mem_sidesTaken {r : Recorder} {x : SideFile} (n : Nat) (out : List Byte) (going : x.done = false)
    (h : ∃ tk ∈ r.takes, ∃ c ∈ tk.clips, x ∈ c.sides) :
    ∃ tk ∈ (r.sidesTaken x n out).takes, ∃ c ∈ tk.clips, ∃ key, x.taken key n out ∈ c.sides := by
  obtain ⟨tk, htk, c, hc, hx⟩ := h
  refine ⟨_, List.mem_map_of_mem htk, _, List.mem_map_of_mem hc, c.key, List.mem_map.2 ⟨x, hx, if_pos ?_⟩⟩
  simp [going]

/-- A block up to a flush point or the end runs, and what it took leaves the sidecar's content. -/
theorem Engine.sideBlock_taken {x : SideFile} {input : List Byte} (code : List Bool) (poison : List Nat)
    (comes : input = x.todo.take input.length) (short : input.length ≤ x.part_)
    (cut : (x.flushes input.length || x.ends input.length) = true) :
    ∃ out, e.sideBlock x input code poison =
      (e.deflateRun 0 x.stream true input code poison (x.flushes input.length) (x.ends input.length)).modRec
        (Recorder.sidesTaken x input.length out) := by
  refine ⟨_, if_neg ?_⟩
  simp only [← comes, cut, Nat.not_lt.2 short, Bool.true_or, Bool.not_true, ne_eq, not_true, decide_false, Bool.or_self,
    Bool.false_eq_true, not_false_eq_true]

end

section
variable {t : Nat} {k : Fin 16} {input : List Byte} {code : List Bool} {s : State}

theorem does_deflateBlock_poisoned {zlib : Bool} {poison : List Nat} {flush last : Bool} (hr : s.eng.sys.phase = .running)
    (unused : vget s.eng.md.deflate 1 [] = []) (bad : poison ≠ [])
    (symbols : (lzToks (zeroWords poison input).length [] (zeroWords poison input)).length ≤ 16384) :
    Does (.deflateBlock t 1 k zlib input code poison flush last) t s fun a b =>
      Engine.changesOnly [.md, .counters, .log] a b ∧ Engine.counted .deflateMismatch 0x0357 a b ∧
      Engine.newEvents a b = [(0x0357, .deflateMismatch, le 4 k ++ le 1 1)] ∧
      ∃ x, vget b.md.deflate 1 [] = [x] ∧ x.Opens k zlib last (zeroWords poison input) := by
  refine Does.of_live (·.deflateRun 1 k zlib input code poison flush last) rfl hr ?_
  set a := s.eng.at t
  obtain ⟨x, opens, run⟩ := a.deflateRun_poisoned (n := 1) (by simpa [a] using unused) symbols bad k zlib flush last
  rw [run]
  obtain ⟨only, counted, events⟩ := (a.onlyStream 1 x).bump_emit_effect .deflateMismatch 0x0357 .deflateMismatch
    (le 4 k ++ le 1 1)
  refine ⟨((a.onlyStream_only 1 x).andThen only).within, counted, events, x, ?_, opens⟩
  rw [only.md_eq]
  exact a.onlyStream_deflate 1 x

theorem does_deflateBlock_inflates {zlib flush last : Bool} (hr : s.eng.sys.phase = .running)
    (unused : vget s.eng.md.deflate 1 [] = []) (symbols : (lzToks input.length [] input).length ≤ 16384)
    (own : takeDynamic code = some (lzToks input.length [] input, [])) :
    Does (.deflateBlock t 1 k zlib input code [] flush last) t s fun a b => Engine.changesOnly [.md] a b ∧
      ∃ x, vget b.md.deflate 1 [] = [x] ∧ x.Opens k zlib last input := by
  refine Does.of_live (·.deflateRun 1 k zlib input code [] flush last) rfl hr ?_
  set a := s.eng.at t
  obtain ⟨x, opens, run⟩ := a.deflateRun_inflates (n := 1) (by simpa [a] using unused) symbols own k zlib flush last
  rw [run]
  exact ⟨a.onlyStream_only 1 x, x, a.onlyStream_deflate 1 x, opens⟩

@[simp] theorem Engine.at_sideOf (e : Engine) (t k : Nat) : (e.at t).sideOf k = e.sideOf k := by
  rw [Engine.sideOf, Engine.at_rec, Engine.sideOf]

theorem does_deflateBlock_side {zlib flush last : Bool} {x : SideFile} (hr : s.eng.sys.phase = .running)
    (side : s.eng.sideOf k = some x) (unused : vget s.eng.md.deflate 0 [] = []) (comes : input = x.todo.take input.length)
    (short : input.length ≤ x.part_) (cut : (x.flushes input.length || x.ends input.length) = true)
    (symbols : (lzToks input.length [] input).length ≤ 16384)
    (own : takeDynamic code = some (lzToks input.length [] input, [])) :
    Does (.deflateBlock t 0 k zlib input code [] flush last) t s fun a b => Engine.changesOnly [.md, .recorder] a b ∧
      (∃ y, vget b.md.deflate 0 [] = [y] ∧ y.Opens x.stream true (x.ends input.length) input) ∧
      ∃ tk ∈ b.rec_.takes, ∃ c ∈ tk.clips, ∃ key out, x.taken key input.length out ∈ c.sides := by
  refine Does.of_live (·.deflateBlock 0 k zlib input code [] flush last) rfl hr ?_
  set a := s.eng.at t
  have sideNow : a.sideOf k = some x := by simpa [a] using side
  obtain ⟨-, going, mem⟩ := a.sideOf_some sideNow
  obtain ⟨out, took⟩ := a.sideBlock_taken code [] comes short cut
  obtain ⟨y, opens, run⟩ := a.deflateRun_inflates (n := 0) (by simpa [a] using unused) symbols own x.stream true
    (x.flushes input.length) (x.ends input.length)
  have block : a.deflateBlock 0 k zlib input code [] flush last = a.sideBlock x input code [] := by
    rw [Engine.deflateBlock, if_neg (by decide), sideNow]
  rw [block, took, run]
  obtain ⟨tk, htk, c, hc, key, hx⟩ := Recorder.mem_sidesTaken (r := a.rec_) input.length out going mem
  exact ⟨((a.onlyStream_only 0 y).andThen (Engine.modRec_only _ _)).within, ⟨y, a.onlyStream_deflate 0 y, opens⟩,
    tk, htk, c, hc, key, out, hx⟩

theorem does_deflateBlock_noSide {zlib : Bool} {poison : List Nat} {flush last : Bool} (hr : s.eng.sys.phase = .running)
    (side : s.eng.sideOf k = none) :
    Does (.deflateBlock t 0 k zlib input code poison flush last) t s fun a b => b = a := by
  refine Does.of_live (·.deflateBlock 0 k zlib input code poison flush last) rfl hr ?_
  have sideNow : (s.eng.at t).sideOf k = none := by simpa using side
  rw [Engine.deflateBlock, if_neg (by decide), sideNow]

end

/-- What holds of the state that a command leaves, its consequences hold of too. -/
theorem Does.imp {i : Instr} {t : Nat} {s : State} {P Q : Engine → Engine → Prop} (h : Does i t s P)
    (hpq : ∀ a b, P a b → Q a b) : Does i t s Q := by
  obtain ⟨b, hx, hp⟩ := h
  exact ⟨b, hx, hpq _ _ hp⟩

/-- Settles O31: a poisoned block, one that inflates to its symbols, a sidecar's block, and engine 0 without a sidecar. -/
theorem deflateBlocksChecked : Obligations.DeflateBlocksChecked := by
  unfold Obligations.DeflateBlocksChecked
  refine ⟨fun t k zlib input code poison flush last s hr unused bad symbols => ?poisoned,
    fun t k zlib input code flush last s hr unused symbols own => ?inflates,
    fun t k zlib input code flush last x s hr side unused comes short cut symbols own => ?side,
    fun _ _ _ _ _ _ _ _ _ => does_deflateBlock_noSide⟩
  case poisoned =>
    refine (does_deflateBlock_poisoned hr unused bad symbols).imp fun a b ⟨only, counted, events, x, is, opens⟩ => ?_
    exact ⟨only, counted, events, x, is, opens.number, opens.zlib, opens.done, opens.window, opens.adler⟩
  case inflates =>
    refine (does_deflateBlock_inflates hr unused symbols own).imp fun a b ⟨only, x, is, opens⟩ => ?_
    exact ⟨only, x, is, opens.number, opens.done, opens.window, opens.adler⟩
  case side =>
    refine (does_deflateBlock_side hr side unused comes short cut symbols own).imp
      fun a b ⟨only, ⟨y, is, opens⟩, tk, htk, c, hc, key, out, hx⟩ => ?_
    exact ⟨only, ⟨y, is, opens.number, opens.zlib, opens.done, opens.window, opens.adler⟩, tk, htk, c, hc, _, hx, rfl, rfl, rfl⟩

end Sys2Proof.Machine
end

section
/-! Drives that come and go (O36; R246 to R253, R274, R536). -/

namespace Sys2Proof.Machine

/-! The commands that the endpoint holds: the passing of time leaves them. -/

theorem Ep.send_cmds (p : Ep) (v : Nat) : (p.send v).cmds = p.cmds := by
  unfold Ep.send
  dsimp only
  split <;> rfl

theorem Ep.complete_cmds (p : Ep) (x : Completion) : (p.complete x).cmds = p.cmds := by
  unfold Ep.complete
  split
  · rfl
  · split
    · rfl
    · unfold Ep.posted
      dsimp only
      split
      · rw [Ep.send_cmds]
      · rfl

@[simp] theorem Engine.at_ep_cmds (e : Engine) (t : Nat) : (e.at t).ep.cmds = e.ep.cmds :=
  Engine.at_ep_keeps (·.cmds) Ep.complete_cmds (fun _ _ _ _ => rfl) e t

/-! Commands given to a drive. -/

/-- Command i of those that a port is given now (R247). -/
def MediaPort.issue (covers : List Nat) (q : MediaPort) (i : Nat) (u : CmdUse) : MediaCmd :=
  ⟨q.nextCid + i, u, if u.admin then 0 else 1 + (q.nextCid + i) % max 1 q.queues, false, false, covers⟩

/-- A port with commands issued to it. -/
def MediaPort.put (us : List CmdUse) (covers : List Nat) (q : MediaPort) : MediaPort :=
  { q with cmds := q.cmds ++ us.mapIdx (q.issue covers), nextCid := q.nextCid + us.length }

theorem MediaPort.put_uses (us : List CmdUse) (covers : List Nat) (q : MediaPort) :
    (q.put us covers).cmds.map (·.use) = q.cmds.map (·.use) ++ us := by
  have issued : (us.mapIdx (q.issue covers)).map (·.use) = us :=
    List.ext_getElem (by simp) (by simp [MediaPort.issue])
  rw [MediaPort.put, List.map_append, issued]

section
variable (e : Engine)

theorem Engine.putCmds_eq_modMedia (m : Nat) (us : List CmdUse) (covers : List Nat) :
    e.putCmds m us covers = e.modMedia m (MediaPort.put us covers) := rfl

/-- Notices of changed namespaces leave the ports. -/
theorem Engine.epSync_mport (k : Nat) : e.epSync.mport k = e.mport k := Engine.mport_congr e.epSync_only.rec_eq k

/-- The commands of a port but for the event request are done (R251). -/
def MediaPort.heard (q : MediaPort) : MediaPort := { q with cmds := q.cmds.filter fun c => c.use = .asyncEvent }

theorem MediaPort.heard_uses (q : MediaPort) : q.heard.cmds.map (·.use) = (q.cmds.map (·.use)).filter (· = .asyncEvent) := by
  rw [List.filter_map]
  rfl

theorem Engine.endCmds_butEvents (m : Nat) : e.endCmds m (fun u => u ≠ .asyncEvent) = e.modMedia m MediaPort.heard := by
  simp only [Engine.endCmds, ne_eq, decide_not, Bool.not_not]
  rfl

/-! A drive that nothing hangs on is lost (R249, R250). -/

/-- A port whose drive is lost: its commands fail, and it has no volume. -/
def MediaPort.lost (st : DriveState) (q : MediaPort) : MediaPort :=
  { q with cmds := [], owed := [], resetting := false, state := st, volume := none, mounting := none, qualTmp := none }

variable {e} {m : Nat}

/-- A drive stays idle under what keeps the clips, the pending changes, the endpoint's work, and what the ports wait for. -/
theorem Engine.driveIdle.of_same {b : Engine} (idle : e.driveIdle m) (takes : b.rec_.takes = e.rec_.takes)
    (play : b.rec_.play = e.rec_.play) (sys : b.sys = e.sys) (dirty : b.ep.dirty = e.ep.dirty) (cmds : b.ep.cmds = e.ep.cmds)
    (ports : ∀ k, (b.mport k).qualifier = (e.mport k).qualifier ∧ (b.mport k).owed = (e.mport k).owed) : b.driveIdle m := by
  obtain ⟨noTake, noPlay, noPend, noTest, noDirty, noCmd, noOwed⟩ := idle
  exact ⟨takes.trans noTake, play.trans noPlay, (congrArg Sys.pend sys).trans noPend, (ports m).1.trans noTest,
    dirty.trans noDirty, cmds.trans noCmd, fun k => (ports k).2.trans (noOwed k)⟩

theorem Engine.driveIdle.at (idle : e.driveIdle m) (t : Nat) : (e.at t).driveIdle m :=
  idle.of_same (by simp) (by simp) (by simp) (Engine.at_dirty _ _) (by simp) (by simp)

theorem Engine.driveIdle.modMedia (idle : e.driveIdle m) (k : Nat) (f : MediaPort → MediaPort)
    (test : ∀ q, (f q).qualifier = q.qualifier) (owed : ∀ q, (f q).owed = q.owed) : (e.modMedia k f).driveIdle m :=
  idle.of_same rfl rfl rfl rfl rfl fun j => ⟨e.modMedia_mport_keeps (·.qualifier) k j f test,
    e.modMedia_mport_keeps (·.owed) k j f owed⟩

theorem Engine.driveIdle.emit (idle : e.driveIdle m) (src : Nat) (ev : Ev) (d : List Byte) : (e.emit src ev d).driveIdle m :=
  idle.of_same rfl rfl rfl rfl rfl fun _ => ⟨rfl, rfl⟩

theorem Engine.driveIdle.bump (idle : e.driveIdle m) (c : Ctr) (src : Nat) : (e.bump c src).driveIdle m :=
  have port (k : Nat) := Engine.mport_congr (e.bump_rec c src) k
  idle.of_same (by simp) (by simp) (by simp) (by simp) (by simp) fun k => ⟨by rw [port], by rw [port]⟩

/-- With no command, no dirty data and no command that waits for a drain, the endpoint has nothing to go on with. -/
theorem Engine.driveIdle.epPump (idle : e.driveIdle m) : e.epPump = e := by
  obtain ⟨-, -, -, -, noDirty, noCmd, noOwed⟩ := idle
  have still (k : Fin 4) : e.drainIssue k = e := by
    simp [Engine.drainIssue, Engine.epHolds, noDirty, noOwed k]
  have waiting : e.ep.waitingPieces = [] := by rw [Ep.waitingPieces, noCmd]; rfl
  have starts : e.epStarts 1 = e := by simp [Engine.epStarts, Engine.nextStart, noCmd]
  unfold Engine.epPump
  simp only [waiting, noCmd, List.foldl_nil, List.length_nil, Nat.zero_add, starts, List.foldl_cons]
  exact (congrArg (fun x => ((x.drainIssue 1).drainIssue 2).drainIssue 3) (still 0)).trans
    ((congrArg (fun x => (x.drainIssue 2).drainIssue 3) (still 1)).trans ((congrArg (·.drainIssue 3) (still 2)).trans (still 3)))

theorem Engine.driveIdle.epDriveGone (idle : e.driveIdle m) (k : Nat) : e.epDriveGone k = e := by
  have pump := idle.epPump
  obtain ⟨-, -, -, -, noDirty, noCmd, -⟩ := idle
  have lose : e.epLose (k + 1) (e.ep.dirty.filter (·.ns = k + 1)) = e := by rw [noDirty]; rfl
  have gone : e.ep.cmds.filter (·.ns = k + 1) = [] := by rw [noCmd]; rfl
  have same : (e.modEp fun p => { p with dirty := p.dirty.filter (·.ns ≠ k + 1), cmds := p.cmds.filter (·.ns ≠ k + 1) }) = e := by
    rw [Engine.modEp, noDirty, noCmd, List.filter_nil, List.filter_nil, ← noDirty, ← noCmd]
  unfold Engine.epDriveGone
  dsimp only
  rw [lose, gone, same]
  exact pump

/-- The sets of the pending changes without a drive. -/
def Engine.pendWithout (m : Nat) (e : Engine) : Engine :=
  { e with sys := { e.sys with pend := e.sys.pend.map fun p => { p with set := p.set.filter (· ≠ m) } } }

theorem Engine.driveIdle.pendWithout (idle : e.driveIdle m) (k : Nat) : e.pendWithout k = e := by
  obtain ⟨-, -, noPend, -⟩ := idle
  rw [Engine.pendWithout, noPend, List.map_nil, ← noPend]

theorem Engine.driveIdle.recLeave (idle : e.driveIdle m) (k : Nat) (full : Bool) : e.recLeave k full = e := by
  rw [Engine.recLeave, idle.1]
  rfl

theorem Engine.driveIdle.playLeave (idle : e.driveIdle m) (k : Nat) : e.playLeave k = e := by
  rw [Engine.playLeave, idle.2.1]

theorem Engine.driveIdle.qualAnswer (idle : e.driveIdle m) (st : Status) (rs : Reason) : e.qualAnswer m st rs = e := by
  obtain ⟨-, -, -, noTest, -⟩ := idle
  rw [Engine.qualAnswer, noTest]

theorem Engine.driveIdle.lost (idle : e.driveIdle m) (st : DriveState) : (e.modMedia m (MediaPort.lost st)).driveIdle m := by
  obtain ⟨noTake, noPlay, noPend, noTest, noDirty, noCmd, noOwed⟩ := idle
  refine ⟨noTake, noPlay, noPend, ?_, noDirty, noCmd, fun k => ?_⟩
  · exact (e.modMedia_mport_keeps (·.qualifier) m m (MediaPort.lost st) fun _ => rfl).trans noTest
  · by_cases h : m = k
    · subst h
      rw [Engine.modMedia_mport]
      rfl
    · rw [Engine.modMedia_mport_ne _ h]
      exact noOwed k

theorem Engine.driveIdle.driveLost (idle : e.driveIdle m) (st : DriveState) :
    e.driveLost m st = (e.modMedia m (MediaPort.lost st)).epSync := by
  change ((((((e.epDriveGone m).modMedia m (MediaPort.lost st)).pendWithout m).recLeave m false).playLeave m).qualAnswer m
    .refused .checkFailed).recPump.epSync = _
  have lost := idle.lost st
  rw [idle.epDriveGone, lost.pendWithout, lost.recLeave, lost.playLeave, lost.qualAnswer, Engine.recPump_idle _ lost.1]

/-! A drive that fails (R249). -/

section
variable (idle : e.driveIdle m) (there : (e.mport m).state ≠ .empty) (sound : (e.mport m).state ≠ .failed)
include idle there sound

theorem Engine.driveIdle.driveFail : e.driveFail m =
    ((e.modMedia m (MediaPort.lost .failed)).epSync.bump .mediaFail (mediaSrc m)).emit (mediaSrc m) .mediaFailed [] := by
  rw [Engine.driveFail, if_neg (by simp [there, sound]), idle.driveLost]

theorem Engine.driveIdle.driveFail_effect : Engine.changesOnly [.recorder, .ep, .counters, .log] e (e.driveFail m) ∧
    (e.driveFail m).rec_ = (e.modMedia m (MediaPort.lost .failed)).rec_ := by
  rw [idle.driveFail there sound]
  have after := (e.modMedia m (MediaPort.lost .failed)).epSync_only.andThen (Engine.bump_emit_effect _ .mediaFail (mediaSrc m)
    .mediaFailed []).1
  exact ⟨((e.modMedia_only m _).andThen after).within, after.rec_eq⟩

/-- The failure counts once more where nothing else has counted failures. -/
theorem Engine.driveIdle.driveFail_counted {a : Engine} (same : e.ctr .mediaFail (mediaSrc m) 0 = a.ctr .mediaFail (mediaSrc m) 0) :
    Engine.counted .mediaFail (mediaSrc m) a (e.driveFail m) := by
  rw [idle.driveFail there sound]
  set c := (e.modMedia m (MediaPort.lost .failed)).epSync
  have counters : c.counters = e.counters := ((e.modMedia_only m _).andThen (Engine.epSync_only _)).counters_eq
  have before : c.ctr .mediaFail (mediaSrc m) 0 = a.ctr .mediaFail (mediaSrc m) 0 := by
    rw [← same, Engine.ctr, counters, Engine.ctr]
  exact Engine.counted_of_counters (Engine.counted_bump_of_ctr before) rfl (Engine.emit_counters _ _ _ _)

/-- The failure is logged after what has been logged before. -/
theorem Engine.driveIdle.driveFail_events {a : Engine} (grows : a.log.held.length ≤ e.log.held.length) :
    Engine.newEvents a (e.driveFail m) = Engine.newEvents a e ++ [(mediaSrc m, .mediaFailed, [])] := by
  rw [idle.driveFail there sound]
  set c := (e.modMedia m (MediaPort.lost .failed)).epSync.bump .mediaFail (mediaSrc m)
  have log : c.log = e.log :=
    (((e.modMedia_only m _).andThen (Engine.epSync_only _)).andThen (Engine.bump_only _ _ _)).log_eq
  rw [Engine.newEvents_emit_next _ _ _ (by rwa [log]), Engine.newEvents_of_log _ log]
  rfl

end

end

/-! MEDIA_INSERT (R246, R250, R536). -/

section
variable (e : Engine) (m : Fin 4)

/-- What a drive and its port's lanes give the port at link up (R246, R248). -/
structure MediaPort.Started (c : Cfg) (m : Nat) (d : DriveInfo) (q : MediaPort) : Prop where
  drive : q.drive = some d
  gen : q.gen = min d.gen (c.mediaGen m)
  width : q.width = linkWidth (min d.width (c.mediaLanes m).length)
  usable : driveUsable d = true → q.state = .linking ∧ q.queues = min (c.mediaIoq m) d.queues ∧
    q.entries = min (c.mediaQd m) d.entries ∧ q.cmds.map (·.use) = linkCmds (min (c.mediaIoq m) d.queues)
  unusable : driveUsable d = false → q.state = .unsupported ∧ q.cmds = []

/-- A port whose drive has trained to what it and the port's lanes allow. -/
def MediaPort.trained (c : Cfg) (m : Nat) (d : DriveInfo) : MediaPort :=
  { MediaPort.reset with
    state := if driveUsable d then .linking else .unsupported
    drive := some d
    gen := min d.gen (c.mediaGen m)
    width := linkWidth (min d.width (c.mediaLanes m).length)
    queues := if driveUsable d then min (c.mediaIoq m) d.queues else 0
    entries := if driveUsable d then min (c.mediaQd m) d.entries else 0 }

/-- The same with the commands of link up, when the drive can be used. -/
def MediaPort.started (c : Cfg) (m : Nat) (d : DriveInfo) : MediaPort :=
  if driveUsable d then (MediaPort.trained c m d).put (linkCmds (min (c.mediaIoq m) d.queues)) [] else MediaPort.trained c m d

theorem MediaPort.started_started (c : Cfg) (m : Nat) (d : DriveInfo) : (MediaPort.started c m d).Started c m d := by
  unfold MediaPort.started
  cases ok : driveUsable d with
  | true =>
    refine ⟨rfl, rfl, rfl, fun _ => ⟨if_pos ok, if_pos ok, if_pos ok, MediaPort.put_uses _ _ _⟩, fun no => ?_⟩
    exact absurd (ok.symm.trans no) (by decide)
  | false =>
    have unusable : ¬ driveUsable d = true := by rw [ok]; decide
    exact ⟨rfl, rfl, rfl, fun yes => absurd yes unusable, fun _ => ⟨if_neg unusable, rfl⟩⟩

/-- The power pins of a port are set. -/
def Engine.drivePower (m : Nat) (on : Bool) (e : Engine) : Engine :=
  { e with pins := { e.pins with pwren := vmod e.pins.pwren m fun _ => on, perstN := vmod e.pins.perstN m fun _ => on } }

theorem Engine.drivePower_only (k : Nat) (on : Bool) : Engine.changesOnly [.pins] e (e.drivePower k on) := e.setPins_only _

theorem Engine.driveStart_enabled {d : DriveInfo} (drive : (e.mport m).drive = some d) (on : e.cfg.mediaEn m = true) :
    e.driveStart m = ((e.drivePower m true).modMedia m fun _ => MediaPort.started e.cfg m d).epSync := by
  unfold Engine.driveStart MediaPort.started MediaPort.trained
  rw [drive]
  dsimp only
  simp only [on, Bool.true_and, if_true, Bool.not_true, Bool.false_eq_true, if_false]
  split
  · rw [Engine.putCmds_eq_modMedia, Engine.modMedia_modMedia]
    rfl
  · rfl

end

section
variable {t : Nat} {m : Fin 4} {s : State}

theorem does_mediaInsert {info : DriveInfo} (hr : s.eng.sys.phase = .running) (empty : (s.eng.mport m).drive = none)
    (present : info.present = true) (on : s.eng.cfg.mediaEn m = true) :
    Does (.mediaInsert t m info) t s fun a b => Engine.changesOnly [.recorder, .pins, .ep] a b ∧
      (∀ k : Fin 4, k ≠ m → b.mport k = a.mport k) ∧
      b.pins = { a.pins with
        pwren := vmod a.pins.pwren m fun _ => true
        perstN := vmod a.pins.perstN m fun _ => true } ∧ (b.mport m).Started a.cfg m info := by
  refine Does.of_powered (·.mediaInsert m info) rfl (by rw [hr]; rfl) ?_
  set a := s.eng.at t
  set c := a.modMedia m fun q => { q with drive := some info }
  have live : c.live = true := by simp [c, a, Engine.live, hr]
  have insert : a.mediaInsert m info = c.driveStart m := by
    have free : (a.mport m).drive = none := by simpa [a] using empty
    simp only [Engine.mediaInsert, free, present, Option.isSome_none, Bool.not_true, Bool.or_self, Bool.false_eq_true, if_false]
    exact if_pos live
  rw [insert, c.driveStart_enabled m (d := info) (by rw [a.modMedia_mport]) (by simpa [c, a] using on)]
  have synced := ((c.drivePower m true).modMedia m fun _ => MediaPort.started c.cfg m info).epSync_only
  refine ⟨(((a.modMedia_only m _).andThen (c.drivePower_only m true)).andThen ((Engine.modMedia_only _ m _).andThen synced)).within,
    fun k other => ?_, synced.pins_eq, ?_⟩
  · have ne : m.val ≠ k.val := fun h => other (Fin.ext h).symm
    rw [Engine.epSync_mport, Engine.modMedia_mport_ne _ ne]
    exact a.modMedia_mport_ne ne _
  · rw [Engine.epSync_mport, Engine.modMedia_mport]
    exact MediaPort.started_started _ _ _

end

/-! MEDIA_MOUNT (R251, R253, R257, R274). -/

section
variable (e : Engine) (m : Fin 4)

/-- A drive that a mount may take (R251): it is linking, the mode is not OFFLOAD, and its unit runs. -/
structure Engine.Mounts (e : Engine) (m : Nat) (d : DriveInfo) : Prop where
  drive : (e.mport m).drive = some d
  linking : (e.mport m).state = .linking
  mode : e.sys.mode ≠ .offload
  runs : e.unitHeld (0x0500 + m) (13 + m) = false

/-- A drive whose volume the recorder takes (R251). -/
def MediaPort.onVolume (v : VolInfo) (q : MediaPort) : MediaPort :=
  { q.heard with volume := some ⟨v.start, v.size, v.clusterLog2, v.label⟩ }

/-- A mounted drive, with what the mount found of its free space, its folders and its qualification (R251, R253, R257). -/
def MediaPort.mounted (d : DriveInfo) (info : MountInfo) (q : MediaPort) : MediaPort :=
  { q with
    state := .mounted, mounting := none, qualBin := info.qual, qual := info.qual.bind (qualRate d), free := info.free
    folders := info.folders }

/-- A drive with unclosed clips gets the commands that close them (R274). -/
def MediaPort.recovers (info : MountInfo) (q : MediaPort) : MediaPort :=
  { q with state := .recovering, mounting := some info }.put [.read .recovery, .write .recovery, .flush] []

/-- A clip that recovery has closed is counted, logged and told (R274). -/
def Engine.clipTold (ks : KeyStore) (e : Engine) (o : OpenClip) : Engine :=
  ((e.bump .clipRecovered 0x0200).emit 0x0200 .clipRecovered (evData [(4, (openLast ks o).2)])).notify 0x0505 none
    (padTo 16 o.name ++ le 4 (openLast ks o).1 ++ le 4 (openLast ks o).2 ++ le 1 4 ++ le 3 0)

theorem Engine.mountEnd_eq (ks : KeyStore) (k : Nat) (d : DriveInfo) (info : MountInfo) :
    e.mountEnd ks k d info = (((info.open_.foldl (Engine.clipTold ks) e).emit (mediaSrc k) .mediaMount []).modMedia k
      (MediaPort.mounted d info)).epSync := rfl

section
variable {e m} {d : DriveInfo} {info : MountInfo} {v : VolInfo} (mounts : e.Mounts m d)
include mounts

theorem Engine.Mounts.not_refused : ¬ (decide ((e.mport m).state ≠ .linking) || decide (e.sys.mode = .offload) ||
    e.unitHeld (0x0500 + m) (13 + m)) = true := by
  simp [mounts.linking, mounts.mode, mounts.runs]

theorem Engine.Mounts.mediaMount_whole (ks : KeyStore) (found : mountVolume info = some v) (ok : volumeOk v = true)
    (whole : info.open_ = []) : e.mediaMount ks m info =
      ((e.modMedia m fun q => (q.onVolume v).mounted d info).emit (mediaSrc m) .mediaMount []).epSync := by
  rw [Engine.mediaMount, mounts.drive]
  dsimp only
  rw [if_neg mounts.not_refused, found]
  dsimp only
  rw [if_neg (by simp [ok]), if_pos (by simp [whole]), Engine.endCmds_butEvents, Engine.modMedia_modMedia, Engine.mountEnd_eq,
    whole, List.foldl_nil, Engine.emit_modMedia, Engine.modMedia_modMedia]
  rfl

theorem Engine.Mounts.mediaMount_open (ks : KeyStore) (found : mountVolume info = some v) (ok : volumeOk v = true)
    (unclosed : info.open_ ≠ []) :
    e.mediaMount ks m info = (e.modMedia m fun q => (q.onVolume v).recovers info).epSync := by
  rw [Engine.mediaMount, mounts.drive]
  dsimp only
  rw [if_neg mounts.not_refused, found]
  dsimp only
  rw [if_neg (by simp [ok]), if_neg (by simp [unclosed]), Engine.endCmds_butEvents]
  simp only [Engine.putCmds_eq_modMedia, Engine.modMedia_modMedia]
  rfl

theorem Engine.Mounts.mediaMount_foreign (ks : KeyStore) (no : (mountVolume info).all (fun v => !volumeOk v) = true) :
    e.mediaMount ks m info = (e.modMedia m fun q => { q.heard with state := .foreign }).epSync := by
  have ends : (e.endCmds m fun u => u ≠ .asyncEvent).modMedia m (fun q => { q with state := .foreign }) =
      e.modMedia m fun q => { q.heard with state := .foreign } := by
    rw [Engine.endCmds_butEvents, Engine.modMedia_modMedia]
  rw [Engine.mediaMount, mounts.drive]
  dsimp only
  rw [if_neg mounts.not_refused]
  cases found : mountVolume info with
  | none => exact congrArg Engine.epSync ends
  | some v =>
    have bad : (!volumeOk v) = true := by simpa [found] using no
    exact (if_pos bad).trans (congrArg Engine.epSync ends)

end

/-! The clips that a recovery has closed (R274). -/

theorem Engine.clipTold_only (ks : KeyStore) (o : OpenClip) :
    Engine.changesOnly [.ctl, .ep, .counters, .log] e (e.clipTold ks o) :=
  ((Engine.bump_emit_effect e .clipRecovered 0x0200 .clipRecovered _).1.andThen (Engine.notify_only _ _ _ _)).within

theorem Engine.clipsTold_only (ks : KeyStore) (l : List OpenClip) :
    Engine.changesOnly [.ctl, .ep, .counters, .log] e (l.foldl (Engine.clipTold ks) e) :=
  Engine.changesOnly_foldl _ (fun e o => e.clipTold_only ks o) l e

/-- Each clip has its event, with its last CFN. -/
theorem Engine.clipsTold_events (ks : KeyStore) (l : List OpenClip) :
    (l.foldl (Engine.clipTold ks) e).log.held.length = e.log.held.length + l.length ∧
      Engine.newEvents e (l.foldl (Engine.clipTold ks) e) =
        l.map fun o => (0x0200, .clipRecovered, le 4 (openLast ks o).2) := by
  induction l using List.reverseRecOn with
  | nil => exact ⟨rfl, Engine.newEvents_same _ _ rfl⟩
  | append_singleton l o ih =>
    obtain ⟨length, events⟩ := ih
    rw [List.foldl_append, List.foldl_cons, List.foldl_nil]
    set c := l.foldl (Engine.clipTold ks) e
    set d := (c.bump .clipRecovered 0x0200).emit 0x0200 .clipRecovered (evData [(4, (openLast ks o).2)])
    have log : (c.clipTold ks o).log = d.log := d.notify_log _ _ _
    have counted : (c.bump .clipRecovered 0x0200).log = c.log := c.bump_log _ _
    refine ⟨?_, ?_⟩
    · rw [log, Engine.emit_held, counted, List.length_append, length, List.length_append]
      rfl
    · rw [Engine.newEvents_of_log _ log, Engine.newEvents_emit_next _ _ _ (by rw [counted, length]; omega),
        Engine.newEvents_of_log _ counted, events, evData_take, List.map_append]
      rfl

end

section
variable {t : Nat} {m : Fin 4} {d : DriveInfo} {v : VolInfo} {info : MountInfo} {s : State}

theorem Engine.Mounts.at {e : Engine} {k : Nat} (mounts : e.Mounts k d) (t : Nat) : (e.at t).Mounts k d where
  drive := by simpa using mounts.drive
  linking := by simpa using mounts.linking
  mode := by simpa using mounts.mode
  runs := by simpa [Engine.unitHeld] using mounts.runs

theorem does_mediaMount_whole (hr : s.eng.sys.phase = .running) (mounts : s.eng.Mounts m d) (found : mountVolume info = some v)
    (ok : volumeOk v = true) (whole : info.open_ = []) :
    Does (.mediaMount t m info) t s fun a b => Engine.changesOnly [.recorder, .ep, .log] a b ∧
      b.rec_ = { a.rec_ with ports := vmod a.rec_.ports m fun q => (q.onVolume v).mounted d info } ∧
      Engine.newEvents a b = [(0x0210 + m.val, .mediaMount, [])] := by
  refine Does.of_liveWith (fun _ ks e => e.mediaMount ks m info) rfl hr ?_
  rw [(mounts.at t).mediaMount_whole s.ks found ok whole]
  set a := s.eng.at t
  set c := a.modMedia m fun q => (q.onVolume v).mounted d info
  have logged := c.emit_only (mediaSrc m) .mediaMount []
  have synced := (c.emit (mediaSrc m) .mediaMount []).epSync_only
  refine ⟨(((a.modMedia_only m _).andThen logged).andThen synced).within, (logged.andThen synced).rec_eq, ?_⟩
  rw [Engine.newEvents_of_log _ synced.log_eq]
  exact Engine.newEvents_emit _ _ _ _ _ rfl

theorem does_mediaMount_open (hr : s.eng.sys.phase = .running) (mounts : s.eng.Mounts m d) (found : mountVolume info = some v)
    (ok : volumeOk v = true) (unclosed : info.open_ ≠ []) :
    Does (.mediaMount t m info) t s fun a b => Engine.changesOnly [.recorder, .ep] a b ∧
      (∀ k : Fin 4, k ≠ m → b.mport k = a.mport k) ∧ b.mport m = ((a.mport m).onVolume v).recovers info := by
  refine Does.of_liveWith (fun _ ks e => e.mediaMount ks m info) rfl hr ?_
  rw [(mounts.at t).mediaMount_open s.ks found ok unclosed]
  set a := s.eng.at t
  refine ⟨((a.modMedia_only m _).andThen (Engine.epSync_only _)).within, fun k other => ?_, ?_⟩
  · rw [Engine.epSync_mport, Engine.modMedia_mport_ne _ fun h => other (Fin.ext h).symm]
  · rw [Engine.epSync_mport, Engine.modMedia_mport]

theorem does_mediaMount_foreign (hr : s.eng.sys.phase = .running) (mounts : s.eng.Mounts m d)
    (no : (mountVolume info).all (fun v => !volumeOk v) = true) :
    Does (.mediaMount t m info) t s fun a b => Engine.changesOnly [.recorder, .ep] a b ∧
      b.rec_ = { a.rec_ with ports := vmod a.rec_.ports m fun q => { q.heard with state := .foreign } } := by
  refine Does.of_liveWith (fun _ ks e => e.mediaMount ks m info) rfl hr ?_
  rw [(mounts.at t).mediaMount_foreign s.ks no]
  have synced := Engine.epSync_only ((s.eng.at t).modMedia m fun q => { q.heard with state := .foreign })
  exact ⟨((Engine.modMedia_only _ m _).andThen synced).within, synced.rec_eq⟩

end

/-! MEDIA_CMD_COMPLETE with success (R249, R251, R260). -/

section
variable (e : Engine) {m : Nat}

/-- A port whose controller answers, with a command taken away. -/
def MediaPort.answered (cid : Nat) (q : MediaPort) : MediaPort :=
  { q with resetting := false, cmds := q.cmds.filter (·.cid ≠ cid) }

theorem Engine.mediaCmdComplete_success {cid : Nat} {c : MediaCmd} (ks : KeyStore)
    (found : (e.mport m).cmds.find? (·.cid = cid) = some c) (use : c.use ≠ .drain) :
    e.mediaCmdComplete ks m cid 0 = ((e.modMedia m (MediaPort.answered cid)).cmdDone ks m c).recPump := by
  rw [Engine.mediaCmdComplete, found]
  dsimp only
  rw [if_pos rfl, if_neg use, Engine.modMedia_modMedia]
  rfl

/-- A Flush that ends a recovery (R274): the recovery's commands are done, and the mount comes to its end. -/
theorem Engine.cmdDone_recovered {c : MediaCmd} {d : DriveInfo} {info : MountInfo} (ks : KeyStore) (use : c.use = .flush)
    (mounting : (e.mport m).mounting = some info) (drive : (e.mport m).drive = some d) :
    e.cmdDone ks m c = (e.endCmds m (CmdUse.of .recovery)).mountEnd ks m d info := by
  rw [Engine.cmdDone, use]
  dsimp only
  rw [Engine.flushDone, mounting, drive]

/-- The end of a mount: its clips are told, the drive is mounted, and its event comes last. -/
theorem Engine.mountEnd_effect (ks : KeyStore) (m : Fin 4) (d : DriveInfo) (info : MountInfo) :
    Engine.changesOnly [.recorder, .ep, .ctl, .counters, .log] e (e.mountEnd ks m d info) ∧
      (e.mountEnd ks m d info).rec_ = (e.modMedia m (MediaPort.mounted d info)).rec_ ∧
      Engine.newEvents e (e.mountEnd ks m d info) =
        info.open_.map (fun o => (0x0200, .clipRecovered, le 4 (openLast ks o).2)) ++ [(mediaSrc m, .mediaMount, [])] := by
  rw [Engine.mountEnd_eq]
  obtain ⟨length, events⟩ := e.clipsTold_events ks info.open_
  have told := e.clipsTold_only ks info.open_
  set c := info.open_.foldl (Engine.clipTold ks) e
  have logged := c.emit_only (mediaSrc m) .mediaMount []
  set l := c.emit (mediaSrc m) .mediaMount []
  have mounts := l.modMedia_only m (MediaPort.mounted d info)
  have synced := (l.modMedia m (MediaPort.mounted d info)).epSync_only
  refine ⟨((told.andThen logged).andThen (mounts.andThen synced)).within, ?_, ?_⟩
  · rw [synced.rec_eq, Engine.modMedia_rec, (told.andThen logged).rec_eq, Engine.modMedia_rec]
  · rw [Engine.newEvents_of_log _ (mounts.andThen synced).log_eq, Engine.newEvents_emit_next _ _ _ (by omega), events]
    rfl

end

section
variable {t : Nat} {m : Fin 4} {s : State}

/-- An effect that needs power and reads the flash and the key store. -/
theorem Does.of_poweredWith {i : Instr} {P : Engine → Engine → Prop} (f : Flash → KeyStore → Engine → Engine)
    (hx : exec i s = s.runWith t fun fl ks e => e.whenPowered (f fl ks)) (hf : s.eng.sys.phase.powered = true)
    (hp : P (s.eng.at t) (f s.flash s.ks (s.eng.at t))) : Does i t s P := by
  refine ⟨_, hx, ?_⟩
  dsimp only
  rwa [Engine.whenPowered, if_pos (by simpa using hf)]

theorem does_mediaCmdComplete_recovered {cid : Nat} {c : MediaCmd} {d : DriveInfo} {info : MountInfo}
    (powered : s.eng.sys.phase.powered = true) (found : (s.eng.mport m).cmds.find? (·.cid = cid) = some c)
    (use : c.use = .flush) (mounting : (s.eng.mport m).mounting = some info) (drive : (s.eng.mport m).drive = some d)
    (noTake : s.eng.rec_.takes = []) :
    Does (.mediaCmdComplete t m cid 0) t s fun a b =>
      Engine.changesOnly [.recorder, .ep, .ctl, .counters, .log] a b ∧
      (∃ q, b.mport m = MediaPort.mounted d info q) ∧
      Engine.newEvents a b = info.open_.map (fun o => (0x0200, .clipRecovered, le 4 (openLast s.ks o).2)) ++
        [(0x0210 + m.val, .mediaMount, [])] := by
  refine Does.of_poweredWith (fun _ ks e => e.mediaCmdComplete ks m cid 0) rfl powered ?_
  set a := s.eng.at t
  rw [a.mediaCmdComplete_success s.ks (c := c) (by simpa [a] using found) (by rw [use]; decide)]
  set q := a.modMedia m (MediaPort.answered cid)
  have a_port : a.mport m = s.eng.mport m := s.eng.at_mport t m
  have port : q.mport m = (a.mport m).answered cid := a.modMedia_mport m _
  rw [q.cmdDone_recovered s.ks (d := d) (info := info) use (by rw [port, a_port]; exact mounting)
    (by rw [port, a_port]; exact drive)]
  have ends := q.modMedia_only m fun q => { q with cmds := q.cmds.filter fun c => !CmdUse.of .recovery c.use }
  obtain ⟨only, recs, events⟩ := (q.endCmds m (CmdUse.of .recovery)).mountEnd_effect s.ks m d info
  set b := (q.endCmds m (CmdUse.of .recovery)).mountEnd s.ks m d info
  have idle : b.rec_.takes = [] := by
    rw [recs]
    exact (congrArg Recorder.takes (s.eng.at_rec t)).trans noTake
  rw [Engine.recPump_idle _ idle]
  refine ⟨((a.modMedia_only m _).andThen (ends.andThen only)).within, ?_, events⟩
  rw [Engine.mport_congr recs]
  exact ⟨_, Engine.modMedia_mport _ _ _⟩

/-! MEDIA_REMOVE (R250, R536). -/

theorem Engine.drivePower_pwren (e : Engine) (m : Fin 4) (on : Bool) : vget (e.drivePower m on).pins.pwren m true = on :=
  vget_vmod_same e.pins.pwren m.isLt _ _

theorem Engine.drivePower_perstN (e : Engine) (m : Fin 4) (on : Bool) : vget (e.drivePower m on).pins.perstN m true = on :=
  vget_vmod_same e.pins.perstN m.isLt _ _

/-- The removal of a drive that nothing hangs on: it is lost, counted and logged, and its port is empty and without power. -/
theorem Engine.driveIdle.mediaRemove {e : Engine} {m : Nat} (idle : e.driveIdle m) (there : (e.mport m).state ≠ .empty) :
    e.mediaRemove m = (((((e.modMedia m (MediaPort.lost .empty)).epSync.bump .mediaRemoved (mediaSrc m)).emit
      (mediaSrc m) .mediaRemoved []).drivePower m false).modMedia m fun _ => MediaPort.reset).epSync := by
  rw [Engine.mediaRemove, if_neg there, idle.driveLost]
  rfl

theorem does_mediaRemove (powered : s.eng.sys.phase.powered = true) (there : (s.eng.mport m).state ≠ .empty)
    (idle : s.eng.driveIdle m) :
    Does (.mediaRemove t m) t s fun a b => Engine.changesOnly [.recorder, .pins, .ep, .counters, .log] a b ∧
      b.mport m = MediaPort.reset ∧ vget b.pins.pwren m true = false ∧ vget b.pins.perstN m true = false ∧
      (∀ k : Fin 4, k ≠ m → b.mport k = a.mport k) ∧ Engine.counted .mediaRemoved (0x0210 + m.val) a b ∧
      Engine.newEvents a b = [(0x0210 + m.val, .mediaRemoved, [])] := by
  refine Does.of_powered (·.mediaRemove m) rfl powered ?_
  rw [(idle.at t).mediaRemove (by simpa using there)]
  set a := s.eng.at t
  set l := (a.modMedia m (MediaPort.lost .empty)).epSync
  have lost : Engine.changesOnly [.recorder, .ep] a l := ((a.modMedia_only m _).andThen (Engine.epSync_only _)).within
  obtain ⟨reported, counted, events⟩ := l.bump_emit_effect .mediaRemoved (mediaSrc m) .mediaRemoved []
  set r := (l.bump .mediaRemoved (mediaSrc m)).emit (mediaSrc m) .mediaRemoved []
  have reset := (r.drivePower m false).modMedia_only m fun _ => MediaPort.reset
  have synced := ((r.drivePower m false).modMedia m fun _ => MediaPort.reset).epSync_only
  have after := (r.drivePower_only m false).andThen (reset.andThen synced)
  refine ⟨((lost.andThen reported).andThen after).within, ?_, ?_, ?_, fun k other => ?_, ?_, ?_⟩
  · rw [Engine.epSync_mport, Engine.modMedia_mport]
  · rw [(reset.andThen synced).pins_eq, Engine.drivePower_pwren]
  · rw [(reset.andThen synced).pins_eq, Engine.drivePower_perstN]
  · have ne : m.val ≠ k.val := fun h => other (Fin.ext h).symm
    rw [Engine.epSync_mport, Engine.modMedia_mport_ne _ ne, Engine.mport_congr (Engine.drivePower_only r m false).rec_eq,
      Engine.mport_congr reported.rec_eq, Engine.epSync_mport, Engine.modMedia_mport_ne _ ne]
  · exact Engine.counted_of_counters counted lost.counters_eq.symm after.counters_eq
  · rw [Engine.newEvents_of_log _ after.log_eq, Engine.newEvents_congr lost.log_eq.symm]
    exact events

/-! A reset that does not end, a link that stays down, and the warnings (R247, R249). -/

/-- What a drive's failure leaves of the recorder. -/
theorem Engine.driveIdle.driveFail_ports {e : Engine} (idle : e.driveIdle m) (there : (e.mport m).state ≠ .empty)
    (sound : (e.mport m).state ≠ .failed) : (e.driveFail m).mport m = (e.mport m).lost .failed ∧
      ∀ k : Fin 4, k ≠ m → (e.driveFail m).mport k = e.mport k := by
  have recs := (idle.driveFail_effect there sound).2
  refine ⟨(Engine.mport_congr recs m).trans (e.modMedia_mport m _), fun k other => (Engine.mport_congr recs k).trans ?_⟩
  exact e.modMedia_mport_ne (fun h => other (Fin.ext h).symm) _

theorem does_driveFail {i : Instr} {f : Engine → Engine} (hx : exec i s = s.run t fun e => e.whenLive f)
    (fails : f (s.eng.at t) = (s.eng.at t).driveFail m) (hr : s.eng.sys.phase = .running)
    (there : (s.eng.mport m).state ≠ .empty) (sound : (s.eng.mport m).state ≠ .failed) (idle : s.eng.driveIdle m) :
    Does i t s fun a b => Engine.changesOnly [.recorder, .ep, .counters, .log] a b ∧ b.mport m = (a.mport m).lost .failed ∧
      (∀ k : Fin 4, k ≠ m → b.mport k = a.mport k) ∧ Engine.counted .mediaFail (0x0210 + m.val) a b ∧
      Engine.newEvents a b = [(0x0210 + m.val, .mediaFailed, [])] := by
  refine Does.of_live f hx hr ?_
  rw [fails]
  have idle := idle.at t
  rw [← s.eng.at_mport t] at there sound
  set a := s.eng.at t
  obtain ⟨port, others⟩ := idle.driveFail_ports there sound
  refine ⟨(idle.driveFail_effect there sound).1, port, others, idle.driveFail_counted there sound rfl, ?_⟩
  rw [idle.driveFail_events there sound (Nat.le_refl _), Engine.newEvents_same _ _ rfl]
  rfl

/-- A drive that warns for the first time: the warning is logged and kept. -/
theorem Engine.mediaHealthPoll_first {e : Engine} {w : Nat} (there : (e.mport m).state ≠ .empty) (warns : w ≠ 0)
    (first : (e.mport m).healthWarn = false) : e.mediaHealthPoll m w =
      if w.testBit 3 then ((e.emit (mediaSrc m) .mediaHealth []).modMedia m fun q => { q with healthWarn := true }).driveFail m
      else (e.emit (mediaSrc m) .mediaHealth []).modMedia m fun q => { q with healthWarn := true } := by
  simp [Engine.mediaHealthPoll, there, warns, first]

theorem does_mediaHealthPoll {w : Nat} (hr : s.eng.sys.phase = .running) (there : (s.eng.mport m).state ≠ .empty)
    (sound : (s.eng.mport m).state ≠ .failed) (idle : s.eng.driveIdle m) (warns : w ≠ 0)
    (first : (s.eng.mport m).healthWarn = false) :
    Does (.mediaHealthPoll t m w) t s fun a b => Engine.changesOnly [.recorder, .ep, .counters, .log] a b ∧
      (b.mport m).healthWarn = true ∧ (w.testBit 3 = true → (b.mport m).state = .failed ∧
        Engine.newEvents a b = [(0x0210 + m.val, .mediaHealth, []), (0x0210 + m.val, .mediaFailed, [])]) ∧
      (w.testBit 3 = false → (b.mport m).state = (a.mport m).state ∧
        Engine.newEvents a b = [(0x0210 + m.val, .mediaHealth, [])]) := by
  refine Does.of_live (·.mediaHealthPoll m w) rfl hr ?_
  have idle := idle.at t
  rw [← s.eng.at_mport t] at there sound first
  set a := s.eng.at t
  rw [Engine.mediaHealthPoll_first there warns first]
  have logged := a.emit_only (mediaSrc m) .mediaHealth []
  set l := a.emit (mediaSrc m) .mediaHealth []
  have events : Engine.newEvents a l = [(mediaSrc m, .mediaHealth, [])] := Engine.newEvents_emit _ _ _ _ _ rfl
  have warned := l.modMedia_only m fun q => { q with healthWarn := true }
  have port := l.modMedia_mport m fun q => { q with healthWarn := true }
  have idle := (idle.emit (mediaSrc m) .mediaHealth []).modMedia m (fun q => { q with healthWarn := true })
    (fun _ => rfl) fun _ => rfl
  set c := l.modMedia m fun q => { q with healthWarn := true }
  have state : (c.mport m).state = (a.mport m).state := by rw [port]; rfl
  cases readOnly : w.testBit 3 with
  | true =>
    have there : (c.mport m).state ≠ .empty := by rwa [state]
    have sound : (c.mport m).state ≠ .failed := by rwa [state]
    obtain ⟨failed, -⟩ := idle.driveFail_ports there sound
    rw [if_pos rfl]
    refine ⟨((logged.andThen warned).andThen (idle.driveFail_effect there sound).1).within, ?_, fun _ => ⟨?_, ?_⟩, fun no => ?_⟩
    · rw [failed, port]; rfl
    · rw [failed]; rfl
    · rw [idle.driveFail_events there sound, Engine.newEvents_of_log c warned.log_eq, events]
      · rfl
      · rw [warned.log_eq, Engine.emit_held, List.length_append]
        omega
    · cases no
  | false =>
    rw [if_neg Bool.false_ne_true]
    exact ⟨(logged.andThen warned).within, congrArg MediaPort.healthWarn port, fun no => by (cases no),
      fun _ => ⟨state, (Engine.newEvents_of_log c warned.log_eq).trans events⟩⟩

end

/-- Settles O36: insertion, mounts with and without unclosed clips, the end of a recovery, a volume not taken, removal, failure and
warnings, by their lemmas. -/
theorem drivesComeAndGo : Obligations.DrivesComeAndGo := by
  unfold Obligations.DrivesComeAndGo
  refine ⟨fun t m info s hr empty present on => ?insert,
    fun t m d v info s hr drive linking mode runs found ok whole =>
      does_mediaMount_whole hr ⟨drive, linking, mode, runs⟩ found ok whole,
    fun t m d v info s hr drive linking mode runs found ok unclosed => ?unclosed,
    fun t m cid c d info s powered found use mounting drive noTake => ?recovered,
    fun t m d info s hr drive linking mode runs no => does_mediaMount_foreign hr ⟨drive, linking, mode, runs⟩ no,
    fun _ _ _ => does_mediaRemove, fun t m i s hr there sound idle which => ?fails, fun _ _ _ _ => does_mediaHealthPoll⟩
  case insert =>
    refine (does_mediaInsert hr empty present on).imp fun a b ⟨only, others, pins, started⟩ => ?_
    exact ⟨only, others, pins, started.drive, started.gen, started.width, started.usable, started.unusable⟩
  case unclosed =>
    refine (does_mediaMount_open hr ⟨drive, linking, mode, runs⟩ found ok unclosed).imp fun a b ⟨only, others, port⟩ => ?_
    rw [port]
    refine ⟨only, others, rfl, rfl, (MediaPort.put_uses _ _ _).trans ?_⟩
    exact congrArg (· ++ _) (MediaPort.heard_uses _)
  case recovered =>
    refine (does_mediaCmdComplete_recovered powered found use mounting drive noTake).imp
      fun a b ⟨only, ⟨q, port⟩, events⟩ => ?_
    rw [port]
    exact ⟨only, rfl, rfl, rfl, rfl, rfl, events⟩
  case fails =>
    have fails : ∃ f : Engine → Engine, exec i s = s.run t (fun e => e.whenLive f) ∧
        f (s.eng.at t) = (s.eng.at t).driveFail m := by
      obtain rfl | ⟨rfl, resetting⟩ := which
      · exact ⟨(·.mediaLinkDown m), rfl, rfl⟩
      · exact ⟨(·.mediaResetTimeout m), rfl, if_pos (by simpa using resetting)⟩
    obtain ⟨f, hx, fails⟩ := fails
    refine (does_driveFail hx fails hr there sound idle).imp fun a b ⟨only, port, others, counted, events⟩ => ?_
    rw [port]
    exact ⟨only, rfl, rfl, rfl, rfl, others, counted, events⟩

end Sys2Proof.Machine
end

section
/-! Commands at a drive (O37; R247, R249, R260, R268): success, one retry, the timeout and the controller reset. -/

namespace Sys2Proof.Machine

/-! MEDIA_CMD_COMPLETE with the success of a chunk's transfers (R260, R268). -/

section
variable (e : Engine) {m : Nat}

theorem Engine.modChunk_only (id : Nat) (f : Chunk → Chunk) : Engine.changesOnly [.recorder] e (e.modChunk id f) := e.modRec_only _

/-- With no clip open no file gets its length. -/
theorem Engine.fileEnd_idle (idle : e.rec_.takes = []) (x : Chunk) : e.fileEnd x = e := by rw [Engine.fileEnd, idle]; rfl

theorem Engine.cmdDone_body {c : MediaCmd} {id k : Nat} (ks : KeyStore) (use : c.use = .body id k) :
    e.cmdDone ks m c = e.modChunk id fun x => { x with got := x.got + 1 } := by rw [Engine.cmdDone, use]

/-- With its header page a chunk is written, and durable where the drive has no write cache. -/
theorem Engine.cmdDone_header {c : MediaCmd} {id : Nat} (ks : KeyStore) (use : c.use = .header id) (idle : e.rec_.takes = []) :
    e.cmdDone ks m c = e.modChunk id fun x =>
      { x with written := true, durable := !((e.mport m).drive.map (·.vwc)).getD true } := by
  rw [Engine.cmdDone, use]
  dsimp only
  split
  · exact Engine.fileEnd_idle (e.modChunk id _) idle _
  · rfl

end

section
variable {t : Nat} {m : Fin 4} {cid : Nat} {c : MediaCmd} {s : State}

/-- The success of a command that changes one chunk, with no clip open. -/
theorem does_mediaCmdComplete_chunk {id : Nat} (f : Engine → Chunk → Chunk) (powered : s.eng.sys.phase.powered = true)
    (found : (s.eng.mport m).cmds.find? (·.cid = cid) = some c) (use : c.use ≠ .drain) (idle : s.eng.rec_.takes = [])
    (chunk : ∀ a : Engine, a.rec_.takes = [] → (a.modMedia m (MediaPort.answered cid)).cmdDone s.ks m c =
      (a.modMedia m (MediaPort.answered cid)).modChunk id (f a)) :
    Does (.mediaCmdComplete t m cid 0) t s fun a b => Engine.changesOnly [.recorder] a b ∧
      b.rec_ = { a.rec_ with
        ports := vmod a.rec_.ports m (MediaPort.answered cid)
        chunks := a.rec_.chunks.map fun x => if x.id = id then f a x else x } := by
  refine Does.of_poweredWith (fun _ ks e => e.mediaCmdComplete ks m cid 0) rfl powered ?_
  have still : (s.eng.at t).rec_.takes = [] := (congrArg Recorder.takes (s.eng.at_rec t)).trans idle
  rw [Engine.mediaCmdComplete_success _ s.ks (c := c) (by simpa using found) use, chunk _ still,
    Engine.recPump_idle (((s.eng.at t).modMedia m (MediaPort.answered cid)).modChunk id (f (s.eng.at t))) still]
  exact ⟨((Engine.modMedia_only _ m _).andThen (Engine.modChunk_only _ id _)).within, rfl⟩

theorem does_mediaCmdComplete_body {id k : Nat} (powered : s.eng.sys.phase.powered = true)
    (found : (s.eng.mport m).cmds.find? (·.cid = cid) = some c) (use : c.use = .body id k) (idle : s.eng.rec_.takes = []) :
    Does (.mediaCmdComplete t m cid 0) t s fun a b => Engine.changesOnly [.recorder] a b ∧
      b.rec_ = { a.rec_ with
        ports := vmod a.rec_.ports m (MediaPort.answered cid)
        chunks := a.rec_.chunks.map fun x => if x.id = id then { x with got := x.got + 1 } else x } :=
  does_mediaCmdComplete_chunk (fun _ x => { x with got := x.got + 1 }) powered found (by rw [use]; nofun) idle
    fun _ _ => Engine.cmdDone_body _ _ use

theorem does_mediaCmdComplete_header {id : Nat} (powered : s.eng.sys.phase.powered = true)
    (found : (s.eng.mport m).cmds.find? (·.cid = cid) = some c) (use : c.use = .header id) (idle : s.eng.rec_.takes = []) :
    Does (.mediaCmdComplete t m cid 0) t s fun a b => Engine.changesOnly [.recorder] a b ∧
      b.rec_ = { a.rec_ with
        ports := vmod a.rec_.ports m (MediaPort.answered cid)
        chunks := a.rec_.chunks.map fun x => if x.id = id then { x with
          written := true
          durable := !(((a.mport m).drive.map (·.vwc)).getD true) } else x } := by
  refine does_mediaCmdComplete_chunk (fun a x => { x with
    written := true
    durable := !(((a.mport m).drive.map (·.vwc)).getD true) }) powered found (by rw [use]; nofun) idle fun a still => ?_
  rw [Engine.cmdDone_header (a.modMedia m _) _ use still, Engine.modMedia_mport]
  rfl

/-! MEDIA_CMD_COMPLETE with an error (R249). -/

/-- A command is tried again, when its controller has answered. -/
def MediaPort.retried (cid : Nat) (q : MediaPort) : MediaPort :=
  { q with
    resetting := false
    cmds := q.cmds.map fun x => if x.cid = cid then { x with retried := true, aborted := false } else x }

/-- A port whose controller answers: it is not being reset. -/
def MediaPort.answers (q : MediaPort) : MediaPort := { q with resetting := false }

theorem Engine.bump_modMedia (e : Engine) (c : Ctr) (src k : Nat) (f : MediaPort → MediaPort) :
    (e.bump c src).modMedia k f = (e.modMedia k f).bump c src := rfl

theorem Engine.mediaCmdComplete_error {e : Engine} {k st : Nat} (ks : KeyStore)
    (found : (e.mport k).cmds.find? (·.cid = cid) = some c) (first : c.retried = false) (bad : st ≠ 0) :
    e.mediaCmdComplete ks k cid st =
      ((e.modMedia k (MediaPort.retried cid)).bump .mediaIoErr (mediaSrc k)).emit (mediaSrc k) .mediaIoErr [] := by
  rw [Engine.mediaCmdComplete, found]
  dsimp only
  rw [if_neg bad, if_neg (by rw [first]; decide), Engine.mediaIoErr, Engine.emit_modMedia, Engine.bump_modMedia,
    Engine.modMedia_modMedia]
  rfl

theorem Engine.mediaCmdComplete_secondError {e : Engine} {k st : Nat} (ks : KeyStore)
    (found : (e.mport k).cmds.find? (·.cid = cid) = some c) (again : c.retried = true) (bad : st ≠ 0)
    (own : ∀ q k, c.use ≠ .host q k) : e.mediaCmdComplete ks k cid st =
      (((e.modMedia k MediaPort.answers).bump .mediaIoErr (mediaSrc k)).emit (mediaSrc k) .mediaIoErr []).driveFail k := by
  rw [Engine.mediaCmdComplete, found]
  dsimp only
  rw [if_neg bad, if_pos again]
  split
  · next q cid use => exact absurd use (own q cid)
  · rfl


theorem does_mediaCmdComplete_error {st : Nat} (powered : s.eng.sys.phase.powered = true)
    (found : (s.eng.mport m).cmds.find? (·.cid = cid) = some c) (first : c.retried = false) (bad : st ≠ 0) :
    Does (.mediaCmdComplete t m cid st) t s fun a b => Engine.changesOnly [.recorder, .counters, .log] a b ∧
      b.rec_ = { a.rec_ with ports := vmod a.rec_.ports m (MediaPort.retried cid) } ∧
      Engine.counted .mediaIoErr (0x0210 + m.val) a b ∧ Engine.newEvents a b = [(0x0210 + m.val, .mediaIoErr, [])] := by
  refine Does.of_poweredWith (fun _ ks e => e.mediaCmdComplete ks m cid st) rfl powered ?_
  rw [Engine.mediaCmdComplete_error s.ks (c := c) (by simpa using found) first bad]
  obtain ⟨only, counted, events⟩ := ((s.eng.at t).modMedia m (MediaPort.retried cid)).bump_emit_effect .mediaIoErr (mediaSrc m)
    .mediaIoErr []
  exact ⟨((Engine.modMedia_only _ m _).andThen only).within, only.rec_eq, counted, events⟩

theorem does_mediaCmdComplete_secondError {st : Nat} (powered : s.eng.sys.phase.powered = true)
    (found : (s.eng.mport m).cmds.find? (·.cid = cid) = some c) (again : c.retried = true) (bad : st ≠ 0)
    (own : ∀ q k, c.use ≠ .host q k) (there : (s.eng.mport m).state ≠ .empty) (sound : (s.eng.mport m).state ≠ .failed)
    (idle : s.eng.driveIdle m) :
    Does (.mediaCmdComplete t m cid st) t s fun a b => Engine.changesOnly [.recorder, .ep, .counters, .log] a b ∧
      (b.mport m).state = .failed ∧ (b.mport m).cmds = [] ∧ Engine.counted .mediaFail (0x0210 + m.val) a b ∧
      Engine.newEvents a b = [(0x0210 + m.val, .mediaIoErr, []), (0x0210 + m.val, .mediaFailed, [])] := by
  refine Does.of_poweredWith (fun _ ks e => e.mediaCmdComplete ks m cid st) rfl powered ?_
  rw [Engine.mediaCmdComplete_secondError s.ks (c := c) (by simpa using found) again bad own]
  have idle := idle.at t
  rw [← s.eng.at_mport t] at there sound
  set a := s.eng.at t
  have idle := ((idle.modMedia m MediaPort.answers (fun _ => rfl) fun _ => rfl).bump .mediaIoErr (mediaSrc m)).emit (mediaSrc m)
    .mediaIoErr []
  obtain ⟨only, -, events⟩ := (a.modMedia m MediaPort.answers).bump_emit_effect .mediaIoErr (mediaSrc m) .mediaIoErr []
  set c := ((a.modMedia m MediaPort.answers).bump .mediaIoErr (mediaSrc m)).emit (mediaSrc m) .mediaIoErr []
  have port : c.mport m = (a.mport m).answers := (Engine.mport_congr only.rec_eq m).trans (a.modMedia_mport m _)
  have there : (c.mport m).state ≠ .empty := by rw [port]; exact there
  have sound : (c.mport m).state ≠ .failed := by rw [port]; exact sound
  obtain ⟨failed, -⟩ := idle.driveFail_ports there sound
  refine ⟨(((a.modMedia_only m _).andThen only).andThen (idle.driveFail_effect there sound).1).within, ?_, ?_, ?_, ?_⟩
  · rw [failed]; rfl
  · rw [failed]; rfl
  · exact idle.driveFail_counted there sound (Engine.bumpN_ctr_ne _ (by decide) _ _ _ _ _)
  · rw [idle.driveFail_events there sound, show Engine.newEvents a c = _ from events]
    · rfl
    · rw [Engine.emit_held, Engine.bump_log, List.length_append]
      exact Nat.le_add_right _ _

end

/-! MEDIA_CMD_TIMEOUT and MEDIA_ABORT_TIMEOUT (R249). -/

section
variable {e : Engine} {m cid : Nat}

/-- A command of a port is aborted: an Abort of it is issued. -/
def MediaPort.aborting (cid : Nat) (q : MediaPort) : MediaPort :=
  { q with
    cmds := q.cmds.map (fun x => if x.cid = cid then { x with aborted := true } else x) ++
      [⟨q.nextCid, .abort cid, 0, false, false, []⟩]
    nextCid := q.nextCid + 1 }

theorem Engine.mediaCmdTimeout_aborts (waits : ∃ c ∈ (e.mport m).cmds, c.cid = cid ∧ c.aborted = false ∧ c.use ≠ .asyncEvent) :
    e.mediaCmdTimeout m cid =
      ((e.modMedia m (MediaPort.aborting cid)).bump .mediaTimeout (mediaSrc m)).emit (mediaSrc m) .mediaTimeout [] := by
  obtain ⟨c, mem, number, fresh, own⟩ := waits
  rw [Engine.mediaCmdTimeout, if_pos (List.any_eq_true.2 ⟨c, mem, by simp [number, fresh, own]⟩)]
  dsimp only
  rw [Engine.putCmds_eq_modMedia, Engine.modMedia_modMedia]
  rfl

theorem Engine.mediaCmdTimeout_event (waits : ∀ c ∈ (e.mport m).cmds, c.cid = cid → c.use = .asyncEvent) :
    e.mediaCmdTimeout m cid = e := by
  refine if_neg fun h => ?_
  obtain ⟨c, mem, is⟩ := List.any_eq_true.1 h
  simp only [Bool.and_eq_true, decide_eq_true_eq] at is
  exact is.2 (waits c mem is.1.1)

/-- The commands that a reset reissues: all but Aborts and those of the queues, which are made again. -/
def MediaCmd.reissued (x : MediaCmd) : Bool :=
  match x.use with
  | .abort _ | .queue _ _ _ => false
  | _ => true

/-- The commands that delete the I/O queues and make them again. -/
def queueCmds (queues : Nat) : List CmdUse :=
  (List.range queues).flatMap fun k =>
    [.queue false true (k + 1), .queue false false (k + 1), .queue true false (k + 1), .queue true true (k + 1)]

/-- A port whose controller is reset at an instant outside a clip: what is outstanding is reissued. -/
def MediaPort.restarted (now : Nat) (q : MediaPort) : MediaPort :=
  { q with
    resetting := true
    resetAt := some now
    resetInClip := false
    cmds := (q.cmds.filter MediaCmd.reissued).map fun x => { x with aborted := false } }

theorem Engine.mediaAbortTimeout_resets (aborted : ∃ c ∈ (e.mport m).cmds, c.cid = cid ∧ c.aborted = true)
    (outside : e.inClip m = false) (first : (e.mport m).resetAt = none) : e.mediaAbortTimeout m cid =
      ((e.modMedia m fun q => (q.restarted e.now).put (queueCmds (e.mport m).queues) []).bump .mediaReset (mediaSrc m)).emit
        (mediaSrc m) .mediaReset [] := by
  obtain ⟨c, mem, number, aborted⟩ := aborted
  have clip : ((e.bump .mediaReset (mediaSrc m)).emit (mediaSrc m) .mediaReset []).inClip m = false := outside
  rw [Engine.mediaAbortTimeout]
  dsimp only
  rw [if_pos (List.any_eq_true.2 ⟨c, mem, by simp [number, aborted]⟩), clip, first, if_neg (by simp),
    Engine.putCmds_eq_modMedia, Engine.modMedia_modMedia, Engine.emit_modMedia, Engine.bump_modMedia]
  rfl

/-- A command of the reset port is a reissued one, not aborted, or one for the queues. -/
theorem MediaPort.mem_restarted {now queues : Nat} {q : MediaPort} {x : MediaCmd}
    (h : x ∈ ((q.restarted now).put (queueCmds queues) []).cmds) : x.aborted = false ∧ ∀ k, x.use ≠ .abort k := by
  obtain old | made := List.mem_append.1 h
  · obtain ⟨y, mem, rfl⟩ := List.mem_map.1 old
    have again := (List.mem_filter.1 mem).2
    refine ⟨rfl, fun k use => ?_⟩
    have use : y.use = .abort k := use
    rw [MediaCmd.reissued, use] at again
    cases again
  · obtain ⟨i, short, rfl⟩ := List.mem_mapIdx.1 made
    refine ⟨rfl, fun k use => ?_⟩
    have mem : CmdUse.abort k ∈ queueCmds queues := use ▸ List.getElem_mem short
    simp [queueCmds] at mem

theorem MediaPort.restarted_reissues {now queues : Nat} {q : MediaPort} {x : MediaCmd} (h : x ∈ q.cmds)
    (abort : ∀ k, x.use ≠ .abort k) (queue : ∀ n p k, x.use ≠ .queue n p k) :
    { x with aborted := false } ∈ ((q.restarted now).put (queueCmds queues) []).cmds := by
  have again : x.reissued = true := by
    unfold MediaCmd.reissued
    split
    · next k use => exact absurd use (abort k)
    · next n p k use => exact absurd use (queue n p k)
    · rfl
  exact List.mem_append_left _ (List.mem_map.2 ⟨x, List.mem_filter.2 ⟨h, again⟩, rfl⟩)

theorem MediaPort.restarted_queues {now queues k : Nat} {q : MediaPort} (h : k < queues) (make sub : Bool) :
    .queue make sub (k + 1) ∈ ((q.restarted now).put (queueCmds queues) []).cmds.map (·.use) := by
  rw [MediaPort.put_uses]
  refine List.mem_append_right _ (List.mem_flatMap.2 ⟨k, List.mem_range.2 h, ?_⟩)
  cases make <;> cases sub <;> simp

end

section
variable {t cid : Nat} {m : Fin 4} {s : State}

theorem does_mediaCmdTimeout_aborts (hr : s.eng.sys.phase = .running)
    (waits : ∃ c ∈ (s.eng.mport m).cmds, c.cid = cid ∧ c.aborted = false ∧ c.use ≠ .asyncEvent) :
    Does (.mediaCmdTimeout t m cid) t s fun a b => Engine.changesOnly [.recorder, .counters, .log] a b ∧
      b.rec_ = { a.rec_ with ports := vmod a.rec_.ports m (MediaPort.aborting cid) } ∧
      Engine.counted .mediaTimeout (0x0210 + m.val) a b ∧ Engine.newEvents a b = [(0x0210 + m.val, .mediaTimeout, [])] := by
  refine Does.of_live (·.mediaCmdTimeout m cid) rfl hr ?_
  rw [Engine.mediaCmdTimeout_aborts (by rwa [Engine.at_mport])]
  obtain ⟨only, counted, events⟩ := ((s.eng.at t).modMedia m (MediaPort.aborting cid)).bump_emit_effect .mediaTimeout (mediaSrc m)
    .mediaTimeout []
  exact ⟨((Engine.modMedia_only _ m _).andThen only).within, only.rec_eq, counted, events⟩

theorem does_mediaCmdTimeout_event (hr : s.eng.sys.phase = .running)
    (waits : ∀ c ∈ (s.eng.mport m).cmds, c.cid = cid → c.use = .asyncEvent) :
    Does (.mediaCmdTimeout t m cid) t s fun a b => Engine.changesOnly [] a b := by
  refine Does.of_live (·.mediaCmdTimeout m cid) rfl hr ?_
  rw [Engine.mediaCmdTimeout_event (by rwa [Engine.at_mport])]
  exact Engine.changesOnly_refl _ _

theorem does_mediaAbortTimeout (hr : s.eng.sys.phase = .running)
    (aborted : ∃ c ∈ (s.eng.mport m).cmds, c.cid = cid ∧ c.aborted = true) (outside : s.eng.inClip m = false)
    (first : (s.eng.mport m).resetAt = none) :
    Does (.mediaAbortTimeout t m cid) t s fun a b => Engine.changesOnly [.recorder, .counters, .log] a b ∧
      (∀ k : Fin 4, k ≠ m → b.mport k = a.mport k) ∧
      b.mport m = ((a.mport m).restarted a.now).put (queueCmds (a.mport m).queues) [] ∧
      Engine.counted .mediaReset (0x0210 + m.val) a b ∧ Engine.newEvents a b = [(0x0210 + m.val, .mediaReset, [])] := by
  refine Does.of_live (·.mediaAbortTimeout m cid) rfl hr ?_
  have outside : (s.eng.at t).inClip m = false := by simpa [Engine.inClip] using outside
  rw [← s.eng.at_mport t] at aborted first
  rw [Engine.mediaAbortTimeout_resets aborted outside first]
  set a := s.eng.at t
  obtain ⟨only, counted, events⟩ := (a.modMedia m fun q =>
    (q.restarted a.now).put (queueCmds (a.mport m).queues) []).bump_emit_effect .mediaReset (mediaSrc m) .mediaReset []
  refine ⟨((a.modMedia_only m _).andThen only).within, fun k other => ?_, ?_, counted, events⟩
  · rw [Engine.mport_congr only.rec_eq, Engine.modMedia_mport_ne _ fun h => other (Fin.ext h).symm]
  · rw [Engine.mport_congr only.rec_eq, Engine.modMedia_mport]

end

/-- Settles O37: the transfers of a chunk, an error and the second, the timeout and its exception, and the reset, by their lemmas. -/
theorem driveCommandsRetried : Obligations.DriveCommandsRetried := by
  unfold Obligations.DriveCommandsRetried
  refine ⟨fun _ _ _ _ _ _ => does_mediaCmdComplete_header, fun _ _ _ _ _ _ _ => does_mediaCmdComplete_body,
    fun _ _ _ _ _ _ => does_mediaCmdComplete_error, fun _ _ _ _ _ _ => does_mediaCmdComplete_secondError,
    fun _ _ _ _ => does_mediaCmdTimeout_aborts, fun _ _ _ _ => does_mediaCmdTimeout_event,
    fun t m cid s hr aborted outside first => ?_⟩
  refine (does_mediaAbortTimeout hr aborted outside first).imp fun a b ⟨only, others, port, counted, events⟩ => ?_
  rw [port]
  exact ⟨only, others, rfl, rfl, rfl, fun _ => MediaPort.mem_restarted, fun _ => MediaPort.restarted_reissues,
    fun _ h n p => MediaPort.restarted_queues h n p, counted, events⟩

end Sys2Proof.Machine
end

section
/-! Record starts on their drives (O39; R260, R268, R272): the flush of the set, durable chunks, and the end of a record start. -/

namespace Sys2Proof.Machine

/-! REC_FLUSH_TICK (R268). -/

section
variable {e : Engine}

/-- The flush that one port gets at a tick: it holds a clip, or has left one and owes chunks. -/
def Engine.tickFlush (e : Engine) (m : Nat) : Engine :=
  let owes := e.rec_.chunks.any fun x => x.port = m && x.written && !x.durable
  if e.rec_.takes.any fun t => t.drives.any fun d => d.port = m && (!d.left || owes) then e.recFlush m else e

section
variable {k : Take} {pos m : Nat} (drives : k.drives = [⟨pos, m, false⟩])
include drives

theorem Engine.tickFlush_own (take : e.rec_.takes = [k]) : e.tickFlush m = e.recFlush m := by
  refine if_pos ?_
  simp [take, drives]

theorem Engine.tickFlush_other (take : e.rec_.takes = [k]) {j : Nat} (other : m ≠ j) : e.tickFlush j = e := by
  refine if_neg ?_
  simp [take, drives, other]

theorem Engine.tickFlushes_others (take : e.rec_.takes = [k]) {l : List Nat} (others : m ∉ l) :
    l.foldl Engine.tickFlush e = e := by
  induction l with
  | nil => rfl
  | cons j r ih =>
    obtain ⟨other, others⟩ := not_or.1 (fun h => others (List.mem_cons.2 h))
    rw [List.foldl_cons, Engine.tickFlush_other drives take other, ih others]

/-- The tick of a single record start with one drive is the flush of that drive. -/
theorem Engine.recFlushTick_one (take : e.rec_.takes = [k]) (runs : e.rec_.flushStop = false) (port : m < 4) :
    e.recFlushTick = e.recFlush m := by
  have mem : m ∈ [0, 1, 2, 3] := by simp; omega
  have once : [0, 1, 2, 3].Nodup := by decide
  obtain ⟨before, after, parts⟩ := List.append_of_mem mem
  rw [parts] at once
  obtain ⟨-, late, early⟩ := List.nodup_append.1 once
  have notBefore : m ∉ before := fun h => early m h m List.mem_cons_self rfl
  have notAfter : m ∉ after := (List.nodup_cons.1 late).1
  change (if e.rec_.flushStop then e else [0, 1, 2, 3].foldl Engine.tickFlush e) = _
  rw [if_neg (by rw [runs]; decide), parts, List.foldl_append, Engine.tickFlushes_others drives take notBefore, List.foldl_cons,
    Engine.tickFlush_own drives take]
  exact Engine.tickFlushes_others (e := e.recFlush m) drives take notAfter

end
end

section
variable {t : Nat} {m : Fin 4} {s : State}

theorem does_recFlushTick {k : Take} {pos : Nat} (hr : s.eng.sys.phase = .running) (runs : s.eng.rec_.flushStop = false)
    (take : s.eng.rec_.takes = [k]) (drives : k.drives = [⟨pos, m, false⟩]) :
    Does (.recFlushTick t) t s fun a b => Engine.changesOnly [.recorder] a b ∧
      b.rec_ = { a.rec_ with ports := vmod a.rec_.ports m fun q => { q with
        cmds := q.cmds ++ [⟨q.nextCid, .flush, 1 + q.nextCid % max 1 q.queues, false, false,
          (a.rec_.chunks.filter fun x => x.port = m.val && x.written && !x.durable).map (·.id)⟩]
        nextCid := q.nextCid + 1 } } := by
  refine Does.of_live (·.recFlushTick) rfl hr ?_
  rw [Engine.recFlushTick_one drives (by simpa using take) (by simpa using runs) m.isLt]
  exact ⟨Engine.putCmds_only _ _ _ _, rfl⟩

/-! CHUNK_DURABLE (R260). -/

theorem Engine.layIndexes_idle {e : Engine} (idle : e.rec_.takes = []) (m : Nat) : e.layIndexes m = e := by
  rw [Engine.layIndexes, idle]
  rfl

theorem Engine.chunksDurable_only (e : Engine) (ids : List Nat) : Engine.changesOnly [.recorder] e (e.chunksDurable ids) := by
  unfold Engine.chunksDurable
  exact e.modRec_only _

theorem does_chunkDurable {id : Nat} (hr : s.eng.sys.phase = .running) (idle : s.eng.rec_.takes = [])
    (written : ∃ x ∈ s.eng.rec_.chunks, x.id = id ∧ x.port = m.val ∧ x.written = true) :
    Does (.chunkDurable t m id) t s fun a b => Engine.changesOnly [.recorder] a b ∧
      b.rec_ = { a.rec_ with chunks := a.rec_.chunks.map fun x =>
        if x.id = id ∧ x.written = true then { x with durable := true } else x } := by
  refine Does.of_live (·.chunkDurable m id) rfl hr ?_
  rw [← s.eng.at_rec t] at idle written
  set a := s.eng.at t
  have known : (a.rec_.chunks.any fun x => x.id = id && x.port = m && x.written) = true := by
    obtain ⟨x, mem, number, port, written⟩ := written
    exact List.any_eq_true.2 ⟨x, mem, by simp [number, port, written]⟩
  have durable : a.chunkDurable m id = a.chunksDurable [id] := by
    have idle : (a.chunksDurable [id]).rec_.takes = [] := idle
    rw [Engine.chunkDurable, if_pos known, Engine.layIndexes_idle idle, Engine.recPump_idle _ idle]
  rw [durable]
  refine ⟨a.chunksDurable_only [id], ?_⟩
  simp [Engine.chunksDurable, Engine.modRec]

end

/-! CLIP_CLOSED (R272). -/

section
variable {e : Engine}

/-- A drive of a record start that is over, when nothing else holds it. -/
def Engine.freeDrive (e : Engine) (d : TakeDrive) : Engine :=
  if (e.mport d.port).state = .recording && !e.inSet d.port && !e.inClosing d.port then
    e.modMedia d.port fun q => { q with state := .mounted, resetInClip := false }
  else e

theorem Engine.freeDrive_only (e : Engine) (d : TakeDrive) : Engine.changesOnly [.recorder] e (e.freeDrive d) := by
  unfold Engine.freeDrive
  split
  · exact e.modMedia_only _ _
  · exact Engine.changesOnly_refl _ e

theorem Engine.freeDrive_takes (e : Engine) (d : TakeDrive) : (e.freeDrive d).rec_.takes = e.rec_.takes := by
  unfold Engine.freeDrive
  split <;> rfl

theorem Engine.recFree_only (k : Take) : Engine.changesOnly [.recorder] e (e.recFree k) :=
  Engine.changesOnly_foldl _ Engine.freeDrive_only k.drives e

theorem Engine.recFree_takes (k : Take) : (e.recFree k).rec_.takes = e.rec_.takes :=
  Engine.foldl_keeps (·.rec_.takes) Engine.freeDrive Engine.freeDrive_takes k.drives e

/-- With no record start open and none pending, a drive that is recording is mounted, and any other stays as it is. -/
theorem Engine.freeDrive_state (idle : e.rec_.takes = []) (pend : e.sys.pend = []) (d : TakeDrive) (m : Fin 4) :
    ((e.freeDrive d).mport m).state =
      if d.port = m.val ∧ (e.mport m).state = .recording then .mounted else (e.mport m).state := by
  have free : (!e.inSet d.port && !e.inClosing d.port) = true := by simp [Engine.inSet, Engine.inClosing, idle, pend]
  unfold Engine.freeDrive
  rw [Bool.and_assoc, free, Bool.and_true]
  by_cases own : d.port = m.val
  · rw [own]
    by_cases recording : (e.mport m).state = .recording
    · rw [if_pos (by simpa using recording), if_pos ⟨rfl, recording⟩, Engine.modMedia_mport]
    · rw [if_neg (by simpa using recording), if_neg fun h => recording h.2]
  · rw [if_neg (fun h : d.port = m.val ∧ _ => own h.1)]
    split
    · rw [Engine.modMedia_mport_ne _ own]
    · rfl

/-- A recording drive of the record start is mounted at its end, when no pending record start waits for it. -/
theorem Engine.recFree_mounts (idle : e.rec_.takes = []) (pend : e.sys.pend = []) (m : Fin 4) (l : List TakeDrive)
    (h : (e.mport m).state = .mounted ∨ (e.mport m).state = .recording ∧ ∃ d ∈ l, d.port = m.val) :
    ((l.foldl Engine.freeDrive e).mport m).state = .mounted := by
  induction l generalizing e with
  | nil =>
    obtain mounted | ⟨-, d, mem, -⟩ := h
    · exact mounted
    · cases mem
  | cons d r ih =>
    have state := Engine.freeDrive_state idle pend d m
    refine ih ((e.freeDrive_takes d).trans idle) ((congrArg Sys.pend (e.freeDrive_only d).sys_eq).trans pend) ?_
    obtain mounted | ⟨recording, x, mem, port⟩ := h
    · exact Or.inl (by rw [state, mounted]; simp)
    · by_cases own : d.port = m.val
      · exact Or.inl (by rw [state, if_pos ⟨own, recording⟩])
      · obtain rfl | mem := List.mem_cons.1 mem
        · exact absurd port own
        · exact Or.inr ⟨by rw [state, if_neg fun h => own h.1, recording], x, mem, port⟩

/-- A port whose files keep no clusters beyond their data (R272 step 5). -/
def MediaPort.trimmed (q : MediaPort) : MediaPort :=
  let c := 2 ^ ((q.volume.map (·.clusterLog2)).getD 22)
  { q with files := q.files.map fun x => { x with alloc := min x.alloc (c * cdiv x.data c) } }

/-- The files of one drive are trimmed. -/
def Engine.trimDrive (e : Engine) (d : TakeDrive) : Engine := e.modMedia d.port MediaPort.trimmed

theorem Engine.trimFiles_only (k : Take) : Engine.changesOnly [.recorder] e (e.trimFiles k) :=
  Engine.changesOnly_foldl Engine.trimDrive (fun e _ => e.modMedia_only _ _) k.live e

theorem Engine.trimFiles_takes (k : Take) : (e.trimFiles k).rec_.takes = e.rec_.takes :=
  Engine.foldl_keeps (·.rec_.takes) Engine.trimDrive (fun _ _ => rfl) k.live e

theorem Engine.trimFiles_state (k : Take) (m : Nat) : ((e.trimFiles k).mport m).state = (e.mport m).state :=
  Engine.foldl_keeps (fun e => (e.mport m).state) Engine.trimDrive
    (fun e d => e.modMedia_mport_keeps (·.state) d.port m MediaPort.trimmed fun _ => rfl) k.live e

theorem Engine.clipNotes_only (k : Take) (last how : Nat) : Engine.changesOnly [.ctl, .ep, .counters] e (e.clipNotes k last how) :=
  Engine.changesOnly_foldl _ (fun e _ => e.notify_only _ _ _) _ e

theorem Engine.clipNotes_clips (k : Take) (last how src i : Nat) :
    (e.clipNotes k last how).ctr .recClips src i = e.ctr .recClips src i :=
  Engine.foldl_keeps (·.ctr .recClips src i) _ (fun e _ => e.notify_ctr _ _ _ (by decide) (by decide) src i) _ e

/-- A record start leaves. -/
def Recorder.without (k : Take) (r : Recorder) : Recorder := { r with takes := r.takes.filter (·.id ≠ k.id) }

/-- The end of the one record start of one clip: counted and logged, its files trimmed, told, and its drives free. -/
theorem Engine.clipClosed_one {k : Take} {c : ClipRec} (take : e.rec_.takes = [k]) (closed : e.recClosed k = true)
    (clip : k.clips = [c]) : e.clipClosed =
      ((((((e.bump .recClips 0x0200).emit 0x0200 .clipClosed []).trimFiles k).clipNotes k (k.last.getD 0) k.how).modRec
        (Recorder.without k)).recFree k).epSync := by
  have oldest : e.rec_.takes.find? e.recClosed = some k := by rw [take, List.find?_cons, closed]
  rw [Engine.clipClosed, oldest]
  dsimp only
  rw [clip]
  rfl

end

section
variable {t : Nat} {s : State}

theorem does_clipClosed {k : Take} {c : ClipRec} (hr : s.eng.sys.phase = .running) (take : s.eng.rec_.takes = [k])
    (closed : s.eng.recClosed k = true) (clip : k.clips = [c]) :
    Does (.clipClosed t) t s fun a b => Engine.changesOnly [.recorder, .ctl, .ep, .counters, .log] a b ∧
      b.rec_.takes = [] ∧ Engine.counted .recClips 0x0200 a b ∧ Engine.newEvents a b = [(0x0200, .clipClosed, [])] ∧
      ∀ m : Fin 4, (∃ d ∈ k.drives, d.port = m.val) → (a.mport m).state = .recording → a.sys.pend = [] →
        (b.mport m).state = .mounted := by
  refine Does.of_live (·.clipClosed) rfl hr ?_
  have closed : (s.eng.at t).recClosed k = true := by
    simpa [Engine.recClosed, Engine.recDrained, Engine.recSettled] using closed
  rw [← s.eng.at_rec t] at take
  rw [Engine.clipClosed_one take closed clip]
  set a := s.eng.at t
  obtain ⟨reported, counted, events⟩ := a.bump_emit_effect .recClips 0x0200 .clipClosed []
  set l := (a.bump .recClips 0x0200).emit 0x0200 .clipClosed []
  have trimmed := l.trimFiles_only k
  have told := (l.trimFiles k).clipNotes_only k (k.last.getD 0) k.how
  have clips := (l.trimFiles k).clipNotes_clips k (k.last.getD 0) k.how 0x0200 0
  set n := (l.trimFiles k).clipNotes k (k.last.getD 0) k.how
  have left := n.modRec_only (Recorder.without k)
  have takes : n.rec_.takes = [k] := by
    rw [told.rec_eq, Engine.trimFiles_takes, reported.rec_eq, take]
  have gone : (n.modRec (Recorder.without k)).rec_.takes = [] := by
    rw [Engine.modRec, Recorder.without, takes]
    simp
  have port (m : Fin 4) : ((n.modRec (Recorder.without k)).mport m).state = (a.mport m).state := by
    change (n.mport m).state = _
    rw [Engine.mport_congr told.rec_eq, Engine.trimFiles_state, Engine.mport_congr reported.rec_eq]
  set r := n.modRec (Recorder.without k)
  have freed := (r.recFree_only k).andThen (r.recFree k).epSync_only
  have after := (trimmed.andThen told).andThen (left.andThen freed)
  refine ⟨(reported.andThen after).within, ?_, ?_, ?_, fun m mine recording pend => ?_⟩
  · rw [(r.recFree k).epSync_only.rec_eq, Engine.recFree_takes, gone]
  · have same : (r.recFree k).epSync.ctr .recClips 0x0200 0 = l.ctr .recClips 0x0200 0 := by
      rw [Engine.ctr, (left.andThen freed).counters_eq]
      refine clips.trans ?_
      rw [Engine.ctr, trimmed.counters_eq, Engine.ctr]
    exact same.trans counted
  · rw [Engine.newEvents_of_log _ after.log_eq]
    exact events
  · rw [Engine.epSync_mport]
    have noPend : r.sys.pend = [] := by
      rw [((reported.andThen (trimmed.andThen told)).andThen left).sys_eq, pend]
    exact Engine.recFree_mounts gone noPend m k.drives (Or.inr ⟨(port m).trans recording, mine⟩)

end

/-- Settles O39: the tick's flush, a durable chunk, and the end of a record start, by their lemmas. -/
theorem recordedChunksAndClosings : Obligations.RecordedChunksAndClosings := by
  unfold Obligations.RecordedChunksAndClosings
  exact ⟨fun _ _ _ _ _ => does_recFlushTick, fun _ _ _ _ => does_chunkDurable, fun _ _ _ _ => does_clipClosed⟩

end Sys2Proof.Machine
end

section
/-! What a completion posts and what it leaves, and commands taken up (R282, R289): the rules of the endpoint's commands. -/

namespace Sys2Proof.Machine
set_option Elab.async false

/-! Completions. -/

/-- The endpoint without what a completion writes: entries of the queues, vectors, and the records of what was posted and sent. -/
def Ep.sansPosts (p : Ep) : Ep :=
  { p with cqs := [], msix := Vector.replicate 65 MsixVector.reset, msgs := [], done := [] }

theorem Ep.send_sansPosts (p : Ep) (v : Nat) : (p.send v).sansPosts = p.sansPosts := by
  unfold Ep.send
  dsimp only
  split
  · rfl
  · rfl

theorem Ep.posted_sansPosts (p : Ep) (c : EpCq) (xs : List Completion) : (p.posted c xs).sansPosts = p.sansPosts := by
  unfold Ep.posted
  dsimp only
  split
  · exact Ep.send_sansPosts _ _
  · rfl

theorem Ep.complete_sansPosts (p : Ep) (x : Completion) : (p.complete x).sansPosts = p.sansPosts := by
  unfold Ep.complete
  split
  · rfl
  · split
    · rfl
    · exact Ep.posted_sansPosts _ _ _

theorem Ep.posted_done (p : Ep) (c : EpCq) (xs : List Completion) : (p.posted c xs).done = xs ++ p.done := by
  have send (p : Ep) (v : Nat) : (p.send v).done = p.done := by
    unfold Ep.send
    dsimp only
    split
    · rfl
    · rfl
  unfold Ep.posted
  dsimp only
  split
  · exact send _ _
  · rfl

/-- What was posted stays on the record. -/
theorem Ep.mem_done_complete {y : Completion} {p : Ep} (h : y ∈ p.done) (x : Completion) : y ∈ (p.complete x).done := by
  unfold Ep.complete
  split
  · exact h
  · split
    · exact h
    · dsimp only
      rw [Ep.posted_done]
      exact List.mem_append_right _ h

/-- A completion queue that is not the command's stays as it is. -/
theorem Ep.mem_cqs_complete {p : Ep} {y : EpCq} {x : Completion} (h : y ∈ p.cqs)
    (other : ∀ sq, p.sqs.find? (·.qid = x.q) = some sq → y.qid ≠ sq.cq) : y ∈ (p.complete x).cqs := by
  have send (p : Ep) (v : Nat) : (p.send v).cqs = p.cqs := by
    unfold Ep.send
    dsimp only
    split <;> rfl
  have posted (p : Ep) (c : EpCq) (xs : List Completion) : (p.posted c xs).cqs = p.cqs := by
    unfold Ep.posted
    dsimp only
    split
    · exact send _ _
    · rfl
  unfold Ep.complete
  split
  · exact h
  · next sq sub =>
    split
    · exact h
    · next c comp =>
      have name : c.qid = sq.cq := by simpa using List.find?_some comp
      dsimp only
      rw [posted]
      exact List.mem_map.2 ⟨y, h, if_neg (name ▸ other sq sub)⟩

/-- The endpoint without what completions and events write. -/
def Ep.sansEvents (p : Ep) : Ep := { p.sansPosts with masked := [], aers := [], events := [] }

section
variable (e : Engine) (t : Nat)

/-- What waits to be sent as a command comes leaves the endpoint's work alone. -/
theorem Engine.at_sansEvents : (e.at t).ep.sansEvents = e.ep.sansEvents :=
  Engine.at_ep_keeps Ep.sansEvents
    (fun p x => congrArg (fun p : Ep => { p with masked := [], aers := [], events := [] }) (p.complete_sansPosts x))
    (fun _ _ _ _ => rfl) e t

@[simp] theorem Engine.at_ep_fetched : (e.at t).ep.fetched = e.ep.fetched := congrArg (·.fetched) (e.at_sansEvents t)
@[simp] theorem Engine.at_ep_ctrls : (e.at t).ep.ctrls = e.ep.ctrls := congrArg (·.ctrls) (e.at_sansEvents t)
@[simp] theorem Engine.at_ep_readUntil : (e.at t).ep.readUntil = e.ep.readUntil := congrArg (·.readUntil) (e.at_sansEvents t)

/-- A completion queue is there as the command comes if it was there before. -/
theorem Engine.at_cqs_any (q : Nat) : (e.at t).ep.cqs.any (·.qid = q) = e.ep.cqs.any (·.qid = q) := by
  have named (l : List EpCq) : l.any (·.qid = q) = (l.map (·.qid)).any (· = q) := by rw [List.any_map]; rfl
  rw [named, Engine.at_ep_qids, ← named]

end

/-! Completions that can be posted. -/

/-- The first that is found is still found first where others have been left out. -/
theorem find?_filter_kept {α : Type} {l : List α} {p q : α → Bool} {y : α} (found : l.find? q = some y) (kept : p y = true) :
    (l.filter p).find? q = some y := by
  induction l with
  | nil => cases found
  | cons z r ih =>
    by_cases hz : q z = true
    · obtain rfl : z = y := by simpa [hz] using found
      simp [kept, hz]
    · have rest := ih (by simpa [hz] using found)
      by_cases pz : p z = true
      · simpa [pz, hz] using rest
      · simpa [pz] using rest

section
variable {a e : Engine} {q : Nat}

/-- A completion that can be posted is the newest of the record. -/
theorem Engine.canPost.complete_done {x : Completion} (post : e.canPost x.q) : (e.ep.complete x).done = x :: e.ep.done := by
  obtain ⟨sq, c, sub, comp, free⟩ := post
  rw [Ep.complete, sub]
  dsimp only
  rw [comp]
  dsimp only
  rw [Ep.posted_done, EpCq.post, if_neg free]
  rfl

theorem Engine.canPost.completed (post : e.canPost q) (cid sct sc : Nat) (dnr : Bool) (dw : Nat) (d : List Byte) :
    (e.epStatus q cid sct sc dnr dw d).completed q cid sct sc dnr dw d :=
  congrArg List.head? (Engine.canPost.complete_done (x := ⟨q, cid, sct, sc, dnr, dw, d⟩) post)

/-- A command answered after a change of the endpoint alone: nothing else changes, and its completion is posted. -/
theorem Engine.canPost.answers (post : e.canPost q) (only : Engine.changesOnly [.ep] a e) (cid sct sc : Nat) (dnr : Bool)
    (dw : Nat) (d : List Byte) : Engine.changesOnly [.ep] a (e.epStatus q cid sct sc dnr dw d) ∧
      (e.epStatus q cid sct sc dnr dw d).completed q cid sct sc dnr dw d :=
  ⟨(only.andThen (Engine.epStatus_only e q cid sct sc dnr dw d)).within, post.completed _ _ _ _ _ _⟩

/-- The queues that a completion needs are found as before. -/
theorem Engine.canPost.of_found (post : e.canPost q)
    (sub : a.ep.sqs.find? (·.qid = q) = e.ep.sqs.find? (·.qid = q))
    (comp : ∀ sq c, e.ep.sqs.find? (·.qid = q) = some sq → e.ep.cqs.find? (·.qid = sq.cq) = some c →
      a.ep.cqs.find? (·.qid = sq.cq) = some c) : a.canPost q := by
  obtain ⟨sq, c, found, queue, free⟩ := post
  exact ⟨sq, c, sub.trans found, comp sq c found queue, free⟩

end

/-! Fetched commands. -/

/-- A fetched command is taken up. -/
def Engine.taken (x : EpFetched) (e : Engine) : Engine := e.modEp fun p => { p with fetched := p.fetched.erase x }

theorem Engine.taken_only (e : Engine) (x : EpFetched) : Engine.changesOnly [.ep] e (e.taken x) := e.modEp_only _

section
variable {e : Engine} {q cid : Nat} {x : EpFetched} (fetched : e.fetchedFor q cid x)
include fetched

theorem Engine.fetchedFor.names : x.q = q ∧ x.cid = cid := by simpa using List.find?_some fetched.1

theorem Engine.fetchedFor.mem : x ∈ e.ep.fetched := List.mem_of_find?_eq_some fetched.1

/-- Taken up, the command can still be answered. -/
theorem Engine.fetchedFor.post : (e.taken x).canPost q := fetched.2

theorem Engine.fetchedFor.epRun (f : EpFetched → Engine → Engine) : e.epRun q cid f = f x (e.taken x) := by
  rw [Engine.epRun, fetched.1]
  rfl

end

/-- The effect of a command of the endpoint that has been fetched. -/
theorem Does.of_fetched {i : Instr} {t q cid : Nat} {x : EpFetched} {s : State} {P : Engine → Engine → Prop}
    (f : EpFetched → Engine → Engine) (hx : exec i s = s.run t fun e => e.whenLive (·.epRun q cid f))
    (hr : s.eng.sys.phase = .running) (fetched : (s.eng.at t).fetchedFor q cid x)
    (hp : P (s.eng.at t) (f x ((s.eng.at t).taken x))) : Does i t s P := by
  refine Does.of_live _ hx hr ?_
  rwa [fetched.epRun]

/-! What goes on after a change: the drives' drains, and the commands in flight (R289, R290). -/

/-- Every drive is given what may go on. -/
def Engine.drains (e : Engine) : Engine := [0, 1, 2, 3].foldl Engine.drainIssue e

theorem Engine.drains_only (e : Engine) : Engine.changesOnly [.recorder] e e.drains :=
  Engine.changesOnly_foldl Engine.drainIssue Engine.drainIssue_only _ e

/-- What a drive is given is read from its port and from the dirty data. -/
theorem Engine.drainIssue_rec_congr {a b : Engine} (rec : a.rec_ = b.rec_) (dirty : a.ep.dirty = b.ep.dirty) (m : Nat) :
    (a.drainIssue m).rec_ = (b.drainIssue m).rec_ := by
  unfold Engine.drainIssue
  dsimp only
  rw [Engine.mport_congr rec, Engine.epHolds_congr dirty]
  split_ifs <;> simp [Engine.putCmds_eq_modMedia, rec]

theorem Engine.drains_rec_congr {a b : Engine} (rec : a.rec_ = b.rec_) (dirty : a.ep.dirty = b.ep.dirty) :
    a.drains.rec_ = b.drains.rec_ := by
  have run (l : List Nat) : ∀ a b : Engine, a.rec_ = b.rec_ → a.ep.dirty = b.ep.dirty →
      (l.foldl Engine.drainIssue a).rec_ = (l.foldl Engine.drainIssue b).rec_ := by
    induction l with
    | nil => exact fun _ _ rec _ => rec
    | cons m r ih =>
      exact fun a b rec dirty => ih _ _ (Engine.drainIssue_rec_congr rec dirty m)
        (by rw [(a.drainIssue_only m).ep_eq, (b.drainIssue_only m).ep_eq, dirty])
  exact run _ a b rec dirty

/-- The drives have been given what may go on where nothing else of the recorder changed. -/
theorem Engine.drainsIssued_drains {a b : Engine} (rec : b.rec_ = a.rec_) : a.drainsIssued b.drains :=
  Engine.drains_rec_congr (b := { a with ep := b.drains.ep }) rec (by rw [b.drains_only.ep_eq])

/-- The drains begin and end no recording. -/
theorem Engine.drains_takes (e : Engine) : e.drains.rec_.takes = e.rec_.takes :=
  Engine.foldl_keeps (·.rec_.takes) Engine.drainIssue (fun e m => by
    unfold Engine.drainIssue
    dsimp only
    split_ifs <;> rfl) _ e

section
variable {e : Engine}

/-- Without dirty data and commands that wait for it, no drive is given anything. -/
theorem Engine.drains_idle (clean : e.ep.dirty = []) (owed : ∀ k : Fin 4, (e.mport k).owed = []) : e.drains = e := by
  have still (k : Fin 4) : e.drainIssue k = e := by
    simp [Engine.drainIssue, Engine.epHolds, clean, owed k]
  calc e.drains = (((e.drainIssue (0 : Fin 4)).drainIssue (1 : Fin 4)).drainIssue (2 : Fin 4)).drainIssue (3 : Fin 4) := rfl
    _ = e := by rw [still, still, still, still]

/-- Where every command has started, none starts. -/
theorem Engine.epStarts_none (n : Nat) (started : ∀ c ∈ e.ep.cmds, c.started = true) : e.epStarts n = e := by
  have none : (e.ep.cmds.filter fun c => !c.started && e.ep.canStart c && e.readNow c) = [] :=
    List.filter_eq_nil_iff.2 fun c mem => by simp [started c mem]
  cases n with
  | zero => rfl
  | succ n => rw [Engine.epStarts, Engine.nextStart, none]; rfl

/-- With no command in flight only the drains go on. -/
theorem Engine.epPump_empty (none : e.ep.cmds = []) : e.epPump = e.drains := by
  have waiting : e.ep.waitingPieces = [] := by rw [Ep.waitingPieces, none]; rfl
  have starts : e.epStarts (e.ep.cmds.length + 1) = e := e.epStarts_none _ (by simp [none])
  unfold Engine.epPump
  simp only [waiting, none, List.foldl_nil]
  rw [none] at starts
  rw [starts]
  rfl

theorem EpKey.lt_irrefl (k : EpKey) : k.lt k = false := by simp [EpKey.lt]

/-- Data that waits for room, of a single command. -/
theorem Ep.waitingPieces_none {p : Ep} {c : EpCmd} (one : p.cmds = [c]) (noData : ∀ x ∈ c.pieces, x.data = none) :
    p.waitingPieces = [] := by
  rw [Ep.waitingPieces, one, List.flatMap_singleton, List.filterMap_eq_nil_iff]
  intro kx mem
  obtain ⟨i, short, rfl⟩ := List.mem_mapIdx.1 mem
  simp [noData _ (List.getElem_mem short)]

/-- A single command that can start does so, and then the drains go on. -/
theorem Engine.epPump_starts {c : EpCmd} (one : e.ep.cmds = [c]) (new : c.started = false)
    (noData : ∀ x ∈ c.pieces, x.data = none) (now : e.readNow c = true)
    (after : ∀ d ∈ ((e.readPace c).epStart c).ep.cmds, d.started = true) :
    e.epPump = ((e.readPace c).epStart c).drains := by
  have waiting := Ep.waitingPieces_none one noData
  have pass : e.epZeroPass c = e := if_neg (by simp [new])
  have done : e.epWriteDone c = e := if_neg (by simp [new])
  have alone : e.ep.canStart c = true := by simp [Ep.canStart, one, EpKey.lt_irrefl]
  have next : e.nextStart = some c := by simp [Engine.nextStart, one, new, alone, now]
  have starts : e.epStarts 2 = (e.readPace c).epStart c := by
    rw [Engine.epStarts, next]
    exact Engine.epStarts_none 1 after
  unfold Engine.epPump
  simp only [waiting, one, List.foldl_nil, List.foldl_cons, pass, done]
  rw [show [c].length + 1 = 2 from rfl, starts]
  rfl

/-- A single write whose pieces have all committed completes, and then the drains go on. -/
theorem Engine.epPump_completes {c : EpCmd} (one : e.ep.cmds = [c]) (started : c.started = true) (op : c.op = .write)
    (noData : ∀ x ∈ c.pieces, x.data = none) (committed : c.pieces.all (·.committed) = true) :
    e.epPump = (e.epWriteDone c).drains := by
  have waiting := Ep.waitingPieces_none one noData
  have pass : e.epZeroPass c = e := if_neg (by simp [op])
  have empty : (e.epWriteDone c).ep.cmds = [] := by
    rw [Engine.epWriteDone, if_pos (by simp [op, started, committed])]
    exact (Ep.complete_cmds _ _).trans (by simp [Ep.drop, one])
  unfold Engine.epPump
  simp only [waiting, one, List.foldl_nil, List.foldl_cons, pass, empty]
  rw [Engine.epStarts_none _ (by simp [empty])]
  rfl

end

end Sys2Proof.Machine
end

section
/-! Admin commands of the offload controller (O41; R282, R284, R288, R294, R299, R300). -/

namespace Sys2Proof.Machine
set_option Elab.async false

/-- The Changed Namespace List has been read: it is empty, and its next event can follow (R288). -/
def Engine.changedRead (e : Engine) : Engine :=
  (e.modEp fun p => { p with changed := [] }).modEp fun p => { p with masked := p.masked.filter (· ≠ 4) }

theorem Engine.changedRead_only (e : Engine) : Engine.changesOnly [.ep] e e.changedRead :=
  ((e.modEp_only _).andThen (Engine.modEp_only _ _)).within

theorem Engine.canPost.changedRead {e : Engine} {q : Nat} (post : e.canPost q) : e.changedRead.canPost q := post

theorem Engine.getLogPage_changed (e : Engine) (cid ns len : Nat) : e.getLogPage cid 4 ns false len =
    e.changedRead.epOk 0 cid 0 (padTo len (padTo 4096 (e.ep.changed.flatMap (le 4 ·)))) := rfl

section
variable {t cid ns qid size v cq fid len k n m ty info page : Nat} {ien rae : Bool} {r : List (Nat × Nat × Nat)} {x : EpFetched}
  {s : State} (hr : s.eng.sys.phase = .running)
  (fetched : (s.eng.at t).fetchedFor 0 cid x)
include hr fetched

/-! Identify (R282, R284). -/

theorem does_nvmeIdentify_ctrl : Does (.nvmeIdentify t cid 1 0) t s fun a b =>
    Engine.changesOnly [.ep] a b ∧ b.completed 0 cid 0 0 false 0 a.identifyCtrl :=
  Does.of_fetched (fun _ e => e.nvmeIdentify cid 1 0) rfl hr fetched
    (fetched.post.answers (Engine.taken_only _ x) _ _ _ _ _ _)

theorem does_nvmeIdentify_ns (low : 1 ≤ ns) (high : ns ≤ 5) : Does (.nvmeIdentify t cid 0 ns) t s fun a b =>
    Engine.changesOnly [.ep] a b ∧ b.completed 0 cid 0 0 false 0 (a.identifyNs ns) := by
  refine Does.of_fetched (fun _ e => e.nvmeIdentify cid 0 ns) rfl hr fetched ?_
  rw [Engine.nvmeIdentify, if_pos ⟨low, high⟩]
  exact fetched.post.answers (Engine.taken_only _ x) _ _ _ _ _ _

/-! Queues (R282, R294). -/

theorem does_nvmeCreateIoCq (q1 : 1 ≤ qid) (q64 : qid ≤ 64) (s2 : 2 ≤ size)
    (s1024 : size ≤ 1024) (vector : v ≤ 64) (fresh : s.eng.ep.cqs.any (·.qid = qid) = false) :
    Does (.nvmeCreateIoCq t cid qid size v ⟨true, ien⟩) t s fun a b =>
      Engine.changesOnly [.ep] a b ∧ b.completed 0 cid 0 0 false 0 [] ∧ (⟨qid, size, v, ien, 0, 0, []⟩ : EpCq) ∈ b.ep.cqs ∧
      b.ep.sqs = a.ep.sqs := by
  refine Does.of_fetched (fun _ e => e.createCq cid qid size v true ien) rfl hr fetched ?_
  have none := at_cqs_find?_none (t := t) (q := qid) (by simpa using fresh)
  set a := s.eng.at t
  have new (y : EpCq) (h : y ∈ a.ep.cqs) : y.qid ≠ qid := by simpa using List.find?_eq_none.1 none y h
  have unused : (a.taken x).ep.cqs.any (·.qid = qid) = false := by simpa [Engine.taken] using new
  rw [Engine.createCq, unused, if_neg (by simp; omega), if_neg (by simp; omega), if_neg (by decide), if_neg (by omega)]
  set b := (a.taken x).modEp fun p => { p with cqs := p.cqs ++ [⟨qid, size, v, ien, 0, 0, []⟩] }
  have post : b.canPost 0 := fetched.post.of_found rfl fun sq c _ queue => by
    rw [Engine.modEp_ep]
    exact List.find?_append.trans (by rw [queue]; rfl)
  obtain ⟨only, completed⟩ := post.answers ((Engine.taken_only a x).andThen (Engine.modEp_only _ _)).within cid 0 0 false 0 []
  obtain ⟨sq, c, sub, comp, -⟩ := fetched.2
  have name : c.qid = sq.cq := by simpa using List.find?_some comp
  refine ⟨only, completed, Ep.mem_cqs_complete (by simp [b]) fun sq' sub' => ?_, congrArg (·.sqs) (Ep.complete_sansPosts _ _)⟩
  obtain rfl : sq = sq' := Option.some.inj (sub.symm.trans sub')
  exact name ▸ (new c (List.mem_of_find?_eq_some comp)).symm

theorem does_nvmeCreateIoSq (q1 : 1 ≤ qid) (q64 : qid ≤ 64) (s2 : 2 ≤ size) (s1024 : size ≤ 1024)
    (some_ : cq ≠ 0) (there : s.eng.ep.cqs.any (·.qid = cq) = true) (fresh : s.eng.ep.sqs.any (·.qid = qid) = false) :
    Does (.nvmeCreateIoSq t cid qid size cq true) t s fun a b => Engine.changesOnly [.ep] a b ∧
      b.completed 0 cid 0 0 false 0 [] ∧ b.ep.sqs = a.ep.sqs ++ [⟨qid, size, cq, 0, 0⟩] := by
  refine Does.of_fetched (fun _ e => e.createSq cid qid size cq true) rfl hr fetched ?_
  rw [← Engine.at_cqs_any s.eng t] at there
  rw [← Engine.at_ep_sqs s.eng t] at fresh
  set a := s.eng.at t
  have there : (a.taken x).ep.cqs.any (·.qid = cq) = true := there
  have fresh : (a.taken x).ep.sqs.any (·.qid = qid) = false := fresh
  rw [Engine.createSq, there, fresh, if_neg (by simp [some_]), if_neg (by simp; omega), if_neg (by simp; omega),
    if_neg (by decide)]
  set b := (a.taken x).modEp fun p => { p with sqs := p.sqs ++ [⟨qid, size, cq, 0, 0⟩] }
  have post : b.canPost 0 := by
    obtain ⟨sq, c, sub, comp, free⟩ := fetched.post
    refine ⟨sq, c, List.find?_append.trans ?_, comp, free⟩
    rw [sub]
    rfl
  obtain ⟨only, completed⟩ := post.answers ((Engine.taken_only a x).andThen (Engine.modEp_only _ _)).within cid 0 0 false 0 []
  exact ⟨only, completed, congrArg (·.sqs) (Ep.complete_sansPosts _ _)⟩

/-- Delete I/O CQ of a completion queue that is there, and that no submission queue uses. -/
theorem does_nvmeDeleteIoCq (io : qid ≠ 0) (there : s.eng.ep.cqs.any (·.qid = qid) = true)
    (unused : s.eng.ep.sqs.any (·.cq = qid) = false) : Does (.nvmeDeleteIoCq t cid qid) t s fun a b =>
      Engine.changesOnly [.ep] a b ∧ b.completed 0 cid 0 0 false 0 [] ∧ ∀ c ∈ b.ep.cqs, c.qid ≠ qid := by
  refine Does.of_fetched (fun _ e => e.deleteCq cid qid) rfl hr fetched ?_
  rw [← Engine.at_cqs_any s.eng t] at there
  rw [← Engine.at_ep_sqs s.eng t] at unused
  set a := s.eng.at t
  have there : (a.taken x).ep.cqs.any (·.qid = qid) = true := there
  have unused' : (a.taken x).ep.sqs.any (·.cq = qid) = false := unused
  rw [Engine.deleteCq, there, unused', if_neg (by simp [io]), if_neg (by decide)]
  set b := (a.taken x).modEp fun p => { p with cqs := p.cqs.filter (·.qid ≠ qid) }
  have post : b.canPost 0 := fetched.post.of_found rfl fun sq c sub comp => by
    have name : c.qid = sq.cq := by simpa using List.find?_some comp
    have other : sq.cq ≠ qid := by simpa using List.any_eq_false.1 unused sq (List.mem_of_find?_eq_some sub)
    exact find?_filter_kept comp (by simp [name, other])
  obtain ⟨only, completed⟩ := post.answers ((Engine.taken_only a x).andThen (Engine.modEp_only _ _)).within cid 0 0 false 0 []
  refine ⟨only, completed, fun c mem => ?_⟩
  have names : (b.epOk 0 cid 0 []).ep.cqs.map (·.qid) = b.ep.cqs.map (·.qid) :=
    congrArg (·.2.2.2.2) (Ep.complete_setup _ _)
  obtain ⟨y, kept, name⟩ := List.mem_map.1 (names ▸ List.mem_map_of_mem mem)
  exact name ▸ by simpa using (List.mem_filter.1 kept).2

/-- Without the completion queue, its deletion is refused with Invalid Queue Identifier. -/
theorem does_nvmeDeleteIoCq_missing (missing : s.eng.ep.cqs.any (·.qid = qid) = false) :
    Does (.nvmeDeleteIoCq t cid qid) t s fun _ b => b.completed 0 cid 1 1 true 0 [] := by
  refine Does.of_fetched (fun _ e => e.deleteCq cid qid) rfl hr fetched ?_
  rw [← Engine.at_cqs_any s.eng t] at missing
  have missing : ((s.eng.at t).taken x).ep.cqs.any (·.qid = qid) = false := missing
  rw [Engine.deleteCq, missing, if_pos (by simp)]
  exact fetched.post.completed _ _ _ _ _ _

/-- With no command of the queue in flight or fetched, the deletion aborts nothing. -/
theorem does_nvmeDeleteIoSq (io : qid ≠ 0) (there : s.eng.ep.sqs.any (·.qid = qid) = true)
    (idle : s.eng.ep.cmds = []) (none : ∀ y ∈ s.eng.ep.fetched, y.q ≠ qid) : Does (.nvmeDeleteIoSq t cid qid) t s fun a b =>
      Engine.changesOnly [.ep, .recorder] a b ∧ a.drainsIssued b ∧ b.completed 0 cid 0 0 false 0 [] ∧
      b.ep.sqs = a.ep.sqs.filter (·.qid ≠ qid) := by
  refine Does.of_fetched (fun _ e => e.deleteSq cid qid) rfl hr fetched ?_
  rw [← Engine.at_ep_sqs s.eng t] at there
  rw [← Engine.at_ep_cmds s.eng t] at idle
  rw [← Engine.at_ep_fetched s.eng t] at none
  set a := s.eng.at t
  have there : (a.taken x).ep.sqs.any (·.qid = qid) = true := there
  have idle : (a.taken x).ep.cmds = [] := idle
  have others : (a.taken x).ep.fetched.filter (·.q = qid) = [] :=
    List.filter_eq_nil_iff.2 fun y mem => by simpa using none y (List.mem_of_mem_erase mem)
  rw [Engine.deleteSq, there, if_neg (by simp [io])]
  dsimp only
  rw [idle, others, List.filter_nil, List.map_nil, List.map_nil, List.nil_append, List.foldl_nil]
  set b := (a.taken x).modEp fun p => { p with
    sqs := p.sqs.filter (·.qid ≠ qid), cmds := p.cmds.filter (·.q ≠ qid), fetched := p.fetched.filter (·.q ≠ qid) }
  have post : b.canPost 0 := by
    obtain ⟨sq, c, sub, comp, free⟩ := fetched.post
    have admin : sq.qid = 0 := by simpa using List.find?_some sub
    exact ⟨sq, c, find?_filter_kept sub (by simp [admin, io.symm]), comp, free⟩
  obtain ⟨only, completed⟩ := post.answers ((Engine.taken_only a x).andThen (Engine.modEp_only _ _)).within cid 0 0 false 0 []
  have empty : (b.epOk 0 cid 0 []).ep.cmds = [] := (Ep.complete_cmds _ _).trans (by simp [b, idle])
  have drained := (b.epOk 0 cid 0 []).drains_only.ep_eq
  rw [Engine.epPump_empty empty, Engine.completed, drained]
  exact ⟨(only.andThen (Engine.drains_only _)).within, Engine.drainsIssued_drains only.rec_eq, completed,
    congrArg (·.sqs) (Ep.complete_sansPosts _ _)⟩

/-! Features and log pages (R282, R288, R300). -/

theorem does_nvmeSetFeatures (settable : fid = 0x01 ∨ fid = 0x08 ∨ fid = 0x0B) :
    Does (.nvmeSetFeatures t cid fid 0 v) t s fun a b => Engine.changesOnly [.ep] a b ∧ b.completed 0 cid 0 0 false 0 [] ∧
      b.ep.feature fid 0 = v := by
  refine Does.of_fetched (fun _ e => e.setFeature cid fid 0 v) rfl hr fetched ?_
  set a := s.eng.at t
  have known : fid ∈ epFeatures ∧ fid ≠ 0x02 ∧ fid ≠ 0x07 ∧ fid ≠ 0x09 ∧ fid ≠ 0x0A ∧ fid ≠ 0x0E := by
    obtain rfl | rfl | rfl := settable <;> decide
  obtain ⟨feature, n2, n7, n9, nA, nE⟩ := known
  rw [Engine.setFeature, if_neg (by simp [feature, n2, n9, nA, nE]), if_neg n7]
  dsimp only
  rw [if_neg n9]
  set b := (a.taken x).modEp fun p => { p with
    feats := (p.feats.filter fun f => !(f.1 = fid && f.2.1 = 0)) ++ [(fid, 0, v)] }
  have post : b.canPost 0 := fetched.post
  obtain ⟨only, completed⟩ := post.answers ((Engine.taken_only a x).andThen (Engine.modEp_only _ _)).within cid 0 0 false 0 []
  have feats : (b.epOk 0 cid 0 []).ep.feats = b.ep.feats := congrArg (·.feats) (Ep.complete_sansPosts _ _)
  have found : b.ep.feats.find? (fun f => f.1 = fid && f.2.1 = 0) = some (fid, 0, v) := by
    have away : (((a.taken x).ep.feats.filter fun f => !(f.1 = fid && f.2.1 = 0)).find? fun f => f.1 = fid && f.2.1 = 0) = none :=
      List.find?_eq_none.2 fun f mem => by
        simpa only [Bool.not_eq_true, Bool.not_eq_true'] using (List.mem_filter.1 mem).2
    exact List.find?_append.trans (by rw [away]; simp)
  refine ⟨only, completed, ?_⟩
  rw [Ep.feature, if_neg n9, feats, found]

theorem does_nvmeGetFeatures (feature : fid ∈ epFeatures) (stored : fid ≠ 0x0E) :
    Does (.nvmeGetFeatures t cid fid 0) t s fun a b => Engine.changesOnly [.ep] a b ∧
      b.completed 0 cid 0 0 false (a.ep.feature fid 0) [] := by
  refine Does.of_fetched (fun _ e => e.getFeature cid fid 0) rfl hr fetched ?_
  rw [Engine.getFeature, if_neg (by simp [feature]), if_neg stored]
  exact fetched.post.answers (Engine.taken_only _ x) _ _ _ _ _ _

theorem does_nvmeGetLogPage_changed : Does (.nvmeGetLogPage t cid 4 ns false len) t s fun a b =>
    Engine.changesOnly [.ep] a b ∧ b.ep.changed = [] ∧
    b.completed 0 cid 0 0 false 0 (padTo len (padTo 4096 (a.ep.changed.flatMap (le 4 ·)))) := by
  refine Does.of_fetched (fun _ e => e.getLogPage cid 4 ns false len) rfl hr fetched ?_
  rw [Engine.getLogPage_changed]
  obtain ⟨only, completed⟩ := fetched.post.changedRead.answers
    ((Engine.taken_only _ x).andThen (Engine.changedRead_only _)).within cid 0 0 false 0
    (padTo len (padTo 4096 ((s.eng.at t).ep.changed.flatMap (le 4 ·))))
  exact ⟨only, congrArg (·.changed) (Ep.complete_sansPosts _ _), completed⟩

theorem does_nvmeGetLogPage_effects : Does (.nvmeGetLogPage t cid 5 ns rae len) t s fun a b =>
    Engine.changesOnly [.ep] a b ∧ b.completed 0 cid 0 0 false 0 (padTo len effectsLog) := by
  refine Does.of_fetched (fun _ e => e.getLogPage cid 5 ns rae len) rfl hr fetched ?_
  cases rae with
  | true => exact fetched.post.answers (Engine.taken_only _ x) _ _ _ _ _ _
  | false =>
    set b := ((s.eng.at t).taken x).modEp fun p => { p with masked := p.masked.filter (· ≠ 5) }
    have post : b.canPost 0 := fetched.post
    exact post.answers ((Engine.taken_only _ x).andThen (Engine.modEp_only _ _)).within _ _ _ _ _ _

/-! Abort, event requests, CONTROL, and opcodes that are not supported (R282, R288, R294, R299). -/

theorem does_nvmeAbort_fetched (other : k ≠ cid) (waits : ∃ y ∈ s.eng.ep.fetched, y.q = 0 ∧ y.cid = k) :
    Does (.nvmeAbort t cid 0 k) t s fun a b => Engine.changesOnly [.ep] a b ∧
      ∀ y ∈ b.ep.fetched, ¬ (y.q = 0 ∧ y.cid = k) := by
  refine Does.of_fetched (fun _ e => e.nvmeAbort cid 0 k) rfl hr fetched ?_
  rw [← Engine.at_ep_fetched s.eng t] at waits
  set a := s.eng.at t
  obtain ⟨y, mem, q, number⟩ := waits
  have apart : y ≠ x := fun h => other (number ▸ h ▸ fetched.names.2)
  have still : y ∈ (a.taken x).ep.fetched := (List.mem_erase_of_ne apart).2 mem
  rw [Engine.nvmeAbort]
  dsimp only
  rw [if_pos (List.any_eq_true.2 ⟨y, still, by simp [q, number]⟩)]
  set b := (a.taken x).modEp fun p => { p with fetched := p.fetched.filter fun x => !(x.q = 0 && x.cid = k) }
  have left : ((b.epStatus 0 k 0 7 false 0 []).epOk 0 cid 0 []).ep.fetched = b.ep.fetched :=
    (congrArg (·.fetched) (Ep.complete_sansPosts _ _)).trans (congrArg (·.fetched) (Ep.complete_sansPosts _ _))
  refine ⟨((((Engine.taken_only a x).andThen (Engine.modEp_only _ _)).andThen (b.epStatus_only _ _ _ _ _ _ _)).andThen
    (Engine.epOk_only _ _ _ _ _)).within, fun z mem is => ?_⟩
  rw [left] at mem
  have away := (List.mem_filter.1 mem).2
  simp [is] at away

theorem does_nvmeAbort_none (only : s.eng.ep.fetched = [x]) (idle : s.eng.ep.cmds = [])
    (noCtrl : s.eng.ep.ctrls = []) : Does (.nvmeAbort t cid 0 k) t s fun a b =>
      Engine.changesOnly [.ep] a b ∧ b.completed 0 cid 0 0 false 1 [] := by
  refine Does.of_fetched (fun _ e => e.nvmeAbort cid 0 k) rfl hr fetched ?_
  rw [← Engine.at_ep_fetched s.eng t] at only
  rw [← Engine.at_ep_cmds s.eng t] at idle
  rw [← Engine.at_ep_ctrls s.eng t] at noCtrl
  set a := s.eng.at t
  have alone : (a.taken x).ep.fetched = [] := by simp [Engine.taken, only]
  have idle : (a.taken x).ep.cmds = [] := idle
  have noCtrl : (a.taken x).ep.ctrls = [] := noCtrl
  rw [Engine.nvmeAbort]
  dsimp only
  rw [alone, idle, noCtrl]
  exact fetched.post.answers (Engine.taken_only a x) _ _ _ _ _ _

theorem does_nvmeAsyncEventRequest_waits (none : (s.eng.at t).ep.events = []) (room : (s.eng.at t).ep.aers.length < 4) :
    Does (.nvmeAsyncEventRequest t cid) t s fun a b => Engine.changesOnly [.ep] a b ∧
      b.ep = { a.ep with fetched := a.ep.fetched.erase x, aers := a.ep.aers ++ [cid] } := by
  refine Does.of_fetched (fun _ e => e.asyncRequest cid) rfl hr fetched ?_
  set a := s.eng.at t
  have none : (a.taken x).ep.events = [] := none
  have room : ¬ 4 ≤ (a.taken x).ep.aers.length := Nat.not_le.2 room
  rw [Engine.asyncRequest, none]
  dsimp only
  rw [if_neg room]
  exact ⟨((Engine.taken_only a x).andThen (Engine.modEp_only _ _)).within, rfl⟩

theorem does_nvmeAsyncEventRequest_at_once
    (waits : (s.eng.at t).ep.events = (ty, info, page) :: r) :
    Does (.nvmeAsyncEventRequest t cid) t s fun a b => Engine.changesOnly [.ep] a b ∧ b.ep.events = r ∧
      b.completed 0 cid 0 0 false (ty + 256 * info + 65536 * page) [] := by
  refine Does.of_fetched (fun _ e => e.asyncRequest cid) rfl hr fetched ?_
  set a := s.eng.at t
  have waits : (a.taken x).ep.events = (ty, info, page) :: r := waits
  rw [Engine.asyncRequest, waits]
  dsimp only
  set b := (a.taken x).modEp fun p => { p with events := r }
  have post : b.canPost 0 := fetched.post
  obtain ⟨only, completed⟩ := post.answers ((Engine.taken_only a x).andThen (Engine.modEp_only _ _)).within cid 0 0 false
    (ty + 256 * info + 65536 * page) []
  exact ⟨only, congrArg (·.events) (Ep.complete_sansPosts _ _), completed⟩

theorem does_nvmeControl (enabled : s.eng.ctrlEn = true) (some_ : 0 < n) (fits : n ≤ m) (short : m ≤ 65535) :
    Does (.nvmeControl t cid n m) t s fun a b => Engine.changesOnly [.ep] a b ∧
      b.ep = { a.ep with fetched := a.ep.fetched.erase x, ctrls := a.ep.ctrls ++ [⟨cid, n, m, none⟩] } := by
  refine Does.of_fetched (fun _ e => e.nvmeControl cid n m) rfl hr fetched ?_
  set a := s.eng.at t
  have enabled : a.ctrlEn = true := by simpa [Engine.ctrlEn, a] using enabled
  have enabled : (a.taken x).ctrlEn = true := enabled
  rw [Engine.nvmeControl, enabled, if_neg (by decide), if_neg (by simp; omega)]
  exact ⟨((Engine.taken_only a x).andThen (Engine.modEp_only _ _)).within, rfl⟩

end

theorem does_nvmeInvalidOpcode {t q cid op : Nat} {x : EpFetched} {s : State} (hr : s.eng.sys.phase = .running)
    (fetched : (s.eng.at t).fetchedFor q cid x) : Does (.nvmeInvalidOpcode t q cid op) t s fun a b =>
      Engine.changesOnly [.ep] a b ∧ b.completed q cid 0 1 true 0 [] :=
  Does.of_fetched (fun _ e => e.epBadOpcode q cid) rfl hr fetched
    (fetched.post.answers (Engine.taken_only _ x) _ _ _ _ _ _)

/-- A command has one effect. -/
theorem Does.both {i : Instr} {t : Nat} {s : State} {P Q : Engine → Engine → Prop} (p : Does i t s P) (q : Does i t s Q) :
    ∃ b, P (s.eng.at t) b ∧ Q (s.eng.at t) b := by
  obtain ⟨b, runs, hp⟩ := p
  obtain ⟨c, runs', hq⟩ := q
  have same : b = c := by
    have one := runs.symm.trans runs'
    injection one with one
    exact congrArg State.eng one
  exact ⟨b, hp, same ▸ hq⟩

/-- All of O41 but the clause on Delete I/O CQ holds. -/
theorem adminCommandsComplete_of_deletes
    (deletes : ∀ t cid qid x s, s.eng.sys.phase = .running → (s.eng.at t).fetchedFor 0 cid x → qid ≠ 0 →
      s.eng.ep.sqs.any (·.qid = qid) = true → s.eng.ep.sqs.any (·.cq = qid) = false →
      Does (.nvmeDeleteIoCq t cid qid) t s fun a b =>
        Engine.changesOnly [.ep] a b ∧ b.completed 0 cid 0 0 false 0 [] ∧ ∀ c ∈ b.ep.cqs, c.qid ≠ qid) :
    Obligations.AdminCommandsComplete := by
  unfold Obligations.AdminCommandsComplete
  exact ⟨fun _ _ _ _ => does_nvmeIdentify_ctrl, fun _ _ _ _ _ => does_nvmeIdentify_ns,
    fun _ _ _ _ _ _ _ _ => does_nvmeCreateIoCq, fun _ _ _ _ _ _ _ => does_nvmeCreateIoSq,
    fun _ _ _ _ _ => does_nvmeDeleteIoSq, deletes, fun _ _ _ _ _ _ => does_nvmeSetFeatures,
    fun _ _ _ _ _ => does_nvmeGetFeatures, fun _ _ _ _ _ _ => does_nvmeGetLogPage_changed,
    fun _ _ _ _ _ _ _ => does_nvmeGetLogPage_effects, fun _ _ _ _ _ => does_nvmeAbort_fetched,
    fun _ _ _ _ _ hr fetched only _ idle noCtrl => does_nvmeAbort_none hr fetched only idle noCtrl,
    fun _ _ _ _ => does_nvmeAsyncEventRequest_waits, fun _ _ _ _ _ _ _ _ => does_nvmeAsyncEventRequest_at_once,
    fun _ _ _ _ _ _ => does_nvmeControl, fun _ _ _ _ _ _ => does_nvmeInvalidOpcode⟩

/-- Refutes O41: its clause on Delete I/O CQ asks for a submission queue of that number, not for the completion queue. With
submission queue 3 on completion queue 1 and no completion queue 3, the deletion of completion queue 3 is refused. -/
theorem not_adminCommandsComplete : ¬ Obligations.AdminCommandsComplete := by
  unfold Obligations.AdminCommandsComplete
  rintro ⟨-, -, -, -, -, deletes, -⟩
  let x : EpFetched := ⟨0, 7, ⟨0, 0x0240, 0⟩, []⟩
  let s : State := { State.reset with eng := { Engine.reset with
    sys := { Sys.reset with phase := .running }
    ep := { Ep.reset with
      sqs := [⟨0, 4, 0, 1, 1⟩, ⟨3, 4, 1, 0, 0⟩]
      cqs := [⟨0, 4, 0, true, 0, 0, []⟩, ⟨1, 4, 1, true, 0, 0, []⟩]
      fetched := [x] } } }
  have fetched : (s.eng.at 0).fetchedFor 0 7 x := ⟨rfl, ⟨0, 4, 0, 1, 1⟩, ⟨0, 4, 0, true, 0, 0, []⟩, rfl, rfl, by decide⟩
  obtain ⟨b, refused, -, success, -⟩ := (does_nvmeDeleteIoCq_missing rfl fetched rfl).both
    (deletes 0 7 3 x s rfl fetched (by decide) rfl rfl)
  have same := Option.some.inj (refused.symm.trans success)
  exact absurd (congrArg Completion.sc same) (by decide)

end Sys2Proof.Machine
end

section
/-! Pieces of a write commit, wait for room, drain and are lost (O43; R290, R291, R298). -/

namespace Sys2Proof.Machine
set_option Elab.async false

/-! A piece whose data has arrived (R290, R291). -/

section
variable {a e : Engine} {c : EpCmd} {x : EpPiece}

/-- A write of one piece, which has committed. -/
def EpCmd.whole (c : EpCmd) (x : EpPiece) : EpCmd := { c with pieces := [{ x with committed := true, data := none }] }

/-- The one command in flight changed. -/
theorem Ep.modCmd_single {p : Ep} (one : p.cmds = [c]) (f : EpCmd → EpCmd) : p.modCmd c.q c.cid f = { p with cmds := [f c] } := by
  simp [Ep.modCmd, one]

/-- Without poison none is cleared. -/
theorem Ep.clearPoison_sound {p : Ep} (sound : ∀ d ∈ p.dirty, d.poison = false) (ns : Nat) (r : Nat × Nat) :
    p.clearPoison ns r = p := by
  have all : (p.dirty.filter fun d => !(d.poison && decide (d.ns = ns) && holdsRange r d.range)) = p.dirty :=
    List.filter_eq_self.2 fun d mem => by simp [sound d mem]
  rw [Ep.clearPoison, all]

section
variable (one : e.ep.cmds = [c]) (piece : c.pieces = [x])
include one piece

theorem Ep.modCmd_whole : e.ep.modCmd c.q c.cid (fun d => { d with
    pieces := d.pieces.modify 0 fun y => { y with committed := true, data := none } }) = { e.ep with cmds := [c.whole x] } := by
  rw [Ep.modCmd_single one, piece]
  rfl

theorem Engine.epCommit_ns5 (ns : c.ns = 5) (data : List Byte) : e.epCommit c 0 data =
    e.modEp fun p => { p with cmds := [c.whole x], ns5 := ns5Put p.ns5 x.addr (padTo x.len data) } := by
  have first : c.pieces[0]? = some x := by rw [piece]; rfl
  rw [Engine.epCommit, first]
  simp only [Engine.modEp, Ep.modCmd_whole one piece, ns, if_true]

theorem Engine.epCommit_drive (ns : c.ns ≠ 5) (sound : ∀ d ∈ e.ep.dirty, d.poison = false) (data : List Byte) :
    e.epCommit c 0 data = e.modEp fun p => { p with
      cmds := [c.whole x]
      dirty := p.dirty ++ [⟨c.ns, x.addr, padTo x.len data, false⟩] } := by
  have first : c.pieces[0]? = some x := by rw [piece]; rfl
  rw [Engine.epCommit, first]
  simp only [Engine.modEp, Ep.modCmd_whole one piece, if_neg ns]
  rw [Ep.clearPoison_sound (p := { e.ep with cmds := [c.whole x] }) sound]

/-- The command and its piece as a commit finds them (R290). -/
theorem Engine.epPieceCommit_single (started : c.started = true) (op : c.op = .write) (fresh : x.committed = false)
    (noData : x.data = none) (data : List Byte) : e.epPieceCommit c.q c.cid 0 data =
      if c.ns = 5 || e.epRoom c.ns x.len then (e.epCommit c 0 data).epPump
      else (if c.waited then e else e.bump .epBufWait 0x0241).modEp (·.modCmd c.q c.cid fun d => { d with
        waited := true, pieces := d.pieces.modify 0 fun y => { y with data := some (padTo y.len data) } }) := by
  have found : e.ep.cmds.find? (fun d => d.q = c.q && d.cid = c.cid && d.started && d.op = .write) = some c := by
    simp [one, started, op]
  have first : c.pieces[0]? = some x := by rw [piece]; rfl
  rw [Engine.epPieceCommit, found]
  dsimp only
  rw [first]
  dsimp only
  rw [if_neg (by simp [fresh, noData])]

end

/-- A write all of whose pieces have committed completes, and the drains go on. -/
theorem Engine.epPump_writeDone (only : Engine.changesOnly [.ep] a e) (one : e.ep.cmds = [c]) (started : c.started = true)
    (op : c.op = .write) (whole : ∀ x ∈ c.pieces, x.committed = true ∧ x.data = none) (post : e.canPost c.q) :
    Engine.changesOnly [.ep, .recorder] a e.epPump ∧ a.drainsIssued e.epPump ∧
      e.epPump.completed c.q c.cid 0 0 false 0 [] ∧ e.epPump.ep.cmds = [] ∧ e.epPump.ep.ns5 = e.ep.ns5 ∧
      e.epPump.ep.dirty = e.ep.dirty := by
  have committed : c.pieces.all (·.committed) = true := List.all_eq_true.2 fun x mem => (whole x mem).1
  rw [Engine.epPump_completes one started op (fun x mem => (whole x mem).2) committed, Engine.epWriteDone,
    if_pos (by simp [op, started, committed])]
  set b := e.modEp fun p => { p.drop c with
    unitsWritten := p.unitsWritten + ((c.pieces.map (·.len)).foldl (· + ·) 0) / 512 }
  have post : b.canPost c.q := post
  obtain ⟨done, completed⟩ := post.answers (only.andThen (e.modEp_only _)).within c.cid 0 0 false 0 []
  have empty : b.ep.cmds = [] := by simp [b, Ep.drop, one]
  set d := b.epStatus c.q c.cid 0 0 false 0 []
  have same : d.drains.ep = d.ep := d.drains_only.ep_eq
  have rest := Ep.complete_sansPosts b.ep ⟨c.q, c.cid, 0, 0, false, 0, []⟩
  change Engine.changesOnly _ a d.drains ∧ a.drainsIssued d.drains ∧ d.drains.completed _ _ _ _ _ _ _ ∧ d.drains.ep.cmds = [] ∧
    d.drains.ep.ns5 = e.ep.ns5 ∧ d.drains.ep.dirty = e.ep.dirty
  rw [Engine.completed, same]
  exact ⟨(done.andThen d.drains_only).within, Engine.drainsIssued_drains done.rec_eq, completed,
    (congrArg (·.cmds) rest).trans empty, congrArg (·.ns5) rest, congrArg (·.dirty) rest⟩

end

/-- Room in the write buffer is not a matter of time. -/
theorem Engine.at_epRoom (e : Engine) (t ns len : Nat) : (e.at t).epRoom ns len = e.epRoom ns len := by
  have limit : (e.at t).dirtyLimit ns = e.dirtyLimit ns := by
    rw [Engine.dirtyLimit, Engine.at_mport, Engine.at_cf]
    rfl
  rw [Engine.epRoom, limit, Ep.dirtyOf, Ep.dirtyAll, Engine.at_dirty]
  rfl

section
variable {t : Nat} {c : EpCmd} {x : EpPiece} {data : List Byte} {s : State} (hr : s.eng.sys.phase = .running)
  (one : s.eng.ep.cmds = [c]) (started : c.started = true) (op : c.op = .write)
include hr one started op

theorem does_epPieceCommit_ns5 (ns : c.ns = 5) (piece : c.pieces = [x]) (fresh : x.committed = false) (noData : x.data = none)
    (post : (s.eng.at t).canPost c.q) : Does (.epPieceCommit t c.q c.cid 0 data) t s fun a b =>
    Engine.changesOnly [.ep, .recorder] a b ∧ a.drainsIssued b ∧ b.completed c.q c.cid 0 0 false 0 [] ∧ b.ep.cmds = [] ∧
      b.ep.ns5 = ns5Put a.ep.ns5 x.addr (padTo x.len data) ∧ b.ep.dirty = a.ep.dirty := by
  refine Does.of_live (·.epPieceCommit c.q c.cid 0 data) rfl hr ?_
  have one := (s.eng.at_ep_cmds t).trans one
  set a := s.eng.at t
  rw [Engine.epPieceCommit_single one piece started op fresh noData, if_pos (by simp [ns]),
    Engine.epCommit_ns5 one piece ns]
  exact Engine.epPump_writeDone (c := c.whole x) (a.modEp_only _) rfl started op (by simp [EpCmd.whole]) post

theorem does_epPieceCommit_room (ns : c.ns ≠ 5) (piece : c.pieces = [x]) (fresh : x.committed = false) (noData : x.data = none)
    (post : (s.eng.at t).canPost c.q) (sound : ∀ d ∈ s.eng.ep.dirty, d.poison = false)
    (room : s.eng.epRoom c.ns x.len = true) : Does (.epPieceCommit t c.q c.cid 0 data) t s fun a b =>
    Engine.changesOnly [.ep, .recorder] a b ∧ a.drainsIssued b ∧ b.completed c.q c.cid 0 0 false 0 [] ∧ b.ep.cmds = [] ∧
      b.ep.ns5 = a.ep.ns5 ∧ b.ep.dirty = a.ep.dirty ++ [⟨c.ns, x.addr, padTo x.len data, false⟩] := by
  refine Does.of_live (·.epPieceCommit c.q c.cid 0 data) rfl hr ?_
  have one := (s.eng.at_ep_cmds t).trans one
  rw [← s.eng.at_epRoom t] at room
  rw [← s.eng.at_dirty t] at sound
  set a := s.eng.at t
  rw [Engine.epPieceCommit_single one piece started op fresh noData, if_pos (by simp [room]),
    Engine.epCommit_drive one piece ns sound]
  exact Engine.epPump_writeDone (c := c.whole x) (a.modEp_only _) rfl started op (by simp [EpCmd.whole]) post

theorem does_epPieceCommit_waits (ns : c.ns ≠ 5) (piece : c.pieces = [x]) (fresh : x.committed = false)
    (noData : x.data = none) (first : c.waited = false) (full : s.eng.epRoom c.ns x.len = false) :
    Does (.epPieceCommit t c.q c.cid 0 data) t s fun a b => Engine.changesOnly [.ep, .counters] a b ∧
      Engine.counted .epBufWait 0x0241 a b ∧ b.ep = { a.ep with cmds := [{ c with
        waited := true
        pieces := [{ x with data := some (padTo x.len data) }] }] } := by
  refine Does.of_live (·.epPieceCommit c.q c.cid 0 data) rfl hr ?_
  have one := (s.eng.at_ep_cmds t).trans one
  rw [← s.eng.at_epRoom t] at full
  set a := s.eng.at t
  rw [Engine.epPieceCommit_single one piece started op fresh noData, if_neg (by simp [ns, full]), first,
    if_neg Bool.false_ne_true]
  refine ⟨((a.bump_only _ _).andThen (Engine.modEp_only _ _)).within, Engine.counted_of_counters (a.counted_bump _ _) rfl rfl, ?_⟩
  rw [Engine.modEp_ep, Engine.bump_ep, Ep.modCmd_single one, piece]
  rfl

end

/-! A drain write completes (R290, R291). -/

section
variable {t : Nat} {s : State}

/-- Before an input loss, with no command in flight and nothing recorded: the piece leaves the buffer, and the drains go on. -/
theorem Engine.epDrainOne_next {e : Engine} {m : Nat} {d : EpDirty}
    (oldest : e.ep.dirty.find? (fun y => y.ns = m + 1 && !y.poison) = some d) (none : e.ep.cmds = [])
    (idle : e.rec_.takes = []) (on : e.ep.stopped = false) : e.epDrainOne (m + 1) =
      ((e.modMedia m fun q => { q with cmds := q.cmds.filter (·.use ≠ .drain) }).modEp fun p =>
        { p with dirty := p.dirty.erase d }).drains := by
  rw [Engine.epDrainOne, oldest]
  dsimp only
  set b := e.modMedia m fun q => { q with cmds := q.cmds.filter (·.use ≠ .drain) }
  have kept : (b.modEp fun p => { p with
      dirty := p.dirty.erase d
      drained := if p.stopped then vmod p.drained m (· + d.data.length) else p.drained }) =
      b.modEp fun p => { p with dirty := p.dirty.erase d } := by
    have on : b.ep.stopped = false := on
    simp [Engine.modEp, on]
  rw [Nat.add_sub_cancel, kept, Engine.modEp_ep, if_neg (by simp [b, on]), Engine.epPump_empty (by exact none)]
  exact Engine.recPump_idle _ ((Engine.drains_takes _).trans idle)

theorem does_epDrainDone {m : Fin 4} {d : EpDirty} (hr : s.eng.sys.phase = .running)
    (oldest : s.eng.ep.dirty.find? (fun y => y.ns = m.val + 1 && !y.poison) = some d) (none : s.eng.ep.cmds = [])
    (idle : s.eng.rec_.takes = []) (on : s.eng.ep.stopped = false) (calm : s.eng.sys.restartDue = false) :
    Does (.epDrainDone t m) t s fun a b => Engine.changesOnly [.ep, .recorder] a b ∧
      b.ep = { a.ep with dirty := a.ep.dirty.erase d } ∧
      (a.modMedia m fun q => { q with cmds := q.cmds.filter (·.use ≠ .drain) }).drainsIssued b := by
  refine Does.of_live (fun e => (e.epDrainOne (m.val + 1)).restartWhenDone) rfl hr ?_
  dsimp only
  rw [Engine.epDrainOne_next (d := d) (by rwa [Engine.at_dirty]) (by simpa using none) (by simpa using idle) (by simpa using on)]
  set a := s.eng.at t
  set b := a.modMedia m fun q => { q with cmds := q.cmds.filter (·.use ≠ .drain) }
  set c := b.modEp fun p => { p with dirty := p.dirty.erase d }
  have only : Engine.changesOnly [.ep, .recorder] a c.drains :=
    (((a.modMedia_only m _).andThen (b.modEp_only _)).andThen c.drains_only).within
  rw [Engine.restartWhenDone_notDue (by rw [only.sys_eq]; simpa [a] using calm)]
  exact ⟨only, c.drains_only.ep_eq, Engine.drainsIssued_drains rfl⟩

/-! Input loss (R298). -/

/-- So much time after an input loss. -/
theorem Engine.sinceLoss_input {e : Engine} {t0 n : Nat} (lost : e.power.t0 = some t0) (late : t0 + n ≤ e.now) :
    e.sinceLoss n = true := by
  simp [Engine.sinceLoss, lost, late]

theorem does_epUncommittedDiscard {t0 : Nat} (powered : s.eng.sys.phase.powered = true) (lost : s.eng.power.t0 = some t0)
    (late : t0 + ms 1 ≤ (s.eng.at t).now) : Does (.epUncommittedDiscard t) t s fun a b => Engine.changesOnly [.ep] a b ∧
    b.ep = { a.ep with cmds := a.ep.cmds.filter fun c => !(c.op = .write && c.pieces.any (!·.committed)) } := by
  refine Does.of_powered (·.epDiscard) rfl powered ?_
  rw [Engine.epDiscard, Engine.sinceLoss_input (by simpa using lost) late, if_neg (by decide)]
  exact ⟨Engine.modEp_only _ _, rfl⟩

end

/-! What the end of the drain loses (R295, R298). -/

section
variable (e : Engine)

theorem Engine.epError_only (ns block : Nat) : Engine.changesOnly [.ep] e (e.epError ns block) :=
  ((e.modEp_only _).andThen (Engine.epEvent_only _ _ _ _)).within

theorem Engine.epLose_only (ns : Nat) (ds : List EpDirty) : Engine.changesOnly [.ep, .counters, .log] e (e.epLose ns ds) := by
  unfold Engine.epLose
  split
  · exact Engine.changesOnly_refl _ e
  · exact (((e.bumpN_only _ _ _ _).andThen (Engine.emit_only _ _ _ _)).andThen (Engine.epError_only _ _ _)).within

/-- Losses are logged after what was logged before. -/
theorem Engine.epLose_grows (ns : Nat) (ds : List EpDirty) : e.log.held.length ≤ (e.epLose ns ds).log.held.length := by
  unfold Engine.epLose
  split
  · exact Nat.le_refl _
  · dsimp only
    rw [(Engine.epError_only _ _ _).log_eq, Engine.emit_held, Engine.bumpN_log, List.length_append]
    exact Nat.le_add_right _ _

/-- An event changes only what carries events to the host. -/
theorem Engine.epEvent_sansEvents (ty info page : Nat) : (e.epEvent ty info page).ep.sansEvents = e.ep.sansEvents := by
  unfold Engine.epEvent
  split
  · rfl
  · dsimp only
    split
    · exact congrArg (fun p : Ep => { p with masked := [], aers := [], events := [] }) (Ep.complete_sansPosts _ _)
    · rfl

theorem Engine.epError_drained (ns block : Nat) : (e.epError ns block).ep.drained = e.ep.drained :=
  congrArg (·.drained) (Engine.epEvent_sansEvents _ _ _ _)

theorem Engine.epLose_drained (ns : Nat) (ds : List EpDirty) : (e.epLose ns ds).ep.drained = e.ep.drained := by
  unfold Engine.epLose
  split
  · rfl
  · dsimp only
    rw [Engine.epError_drained, Engine.emit_ep, Engine.bumpN_ep]

/-- No drain write is outstanding on a drive. -/
def Engine.noDrain (e : Engine) (m : Nat) : Prop := ∀ c ∈ (e.mport m).cmds, c.use ≠ .drain

/-- The drain writes of a drive end; one that has taken some of the data left is flushed. -/
def Engine.drainEnds (left : List EpDirty) (e : Engine) (m : Nat) : Engine :=
  let e := e.modMedia m fun q => { q with cmds := q.cmds.filter (·.use ≠ .drain) }
  if left.any (·.ns = m + 1) && decide (0 < vget e.ep.drained m 0) then e.putCmds m [.flush] [] else e

theorem Engine.drainEnds_only (left : List EpDirty) (m : Nat) : Engine.changesOnly [.recorder] e (e.drainEnds left m) := by
  unfold Engine.drainEnds
  dsimp only
  split
  · exact ((e.modMedia_only m _).andThen (Engine.putCmds_only _ _ _ _)).within
  · exact e.modMedia_only m _

theorem Engine.drainEnds_noDrain (left : List EpDirty) (m : Fin 4) : (e.drainEnds left m).noDrain m := by
  have filtered : (e.modMedia m fun q => { q with cmds := q.cmds.filter (·.use ≠ .drain) }).noDrain m := by
    intro c mem
    rw [Engine.modMedia_mport] at mem
    simpa using (List.mem_filter.1 mem).2
  unfold Engine.drainEnds
  dsimp only
  split
  · intro c mem
    rw [Engine.putCmds_eq_modMedia, Engine.modMedia_mport] at mem
    obtain old | new := List.mem_append.1 mem
    · exact filtered c old
    · obtain ⟨i, short, rfl⟩ := List.mem_mapIdx.1 new
      obtain rfl : i = 0 := by simpa using short
      exact nofun
  · exact filtered

theorem Engine.drainEnds_mport_ne (left : List EpDirty) {m k : Nat} (other : m ≠ k) :
    (e.drainEnds left m).mport k = e.mport k := by
  unfold Engine.drainEnds
  dsimp only
  split
  · rw [Engine.putCmds_eq_modMedia, Engine.modMedia_mport_ne _ other, Engine.modMedia_mport_ne _ other]
  · exact Engine.modMedia_mport_ne _ other _

/-- Once its drain writes have ended, a drive has none after the others' have. -/
theorem Engine.drainEnds_all (left : List EpDirty) (k : Fin 4) : ([0, 1, 2, 3].foldl (Engine.drainEnds left) e).noDrain k := by
  have run (l : List (Fin 4)) : ∀ e : Engine, k ∈ l ∨ e.noDrain k →
      ((l.map (·.val)).foldl (Engine.drainEnds left) e).noDrain k := by
    induction l with
    | nil => exact fun _ h => h.resolve_left List.not_mem_nil
    | cons m r ih =>
      intro e h
      refine ih _ ?_
      by_cases here : m = k
      · exact Or.inr (here ▸ e.drainEnds_noDrain left m)
      · refine h.imp (fun mem => (List.mem_cons.1 mem).resolve_left (Ne.symm here)) fun none => ?_
        rw [Engine.noDrain, e.drainEnds_mport_ne left fun h => here (Fin.ext h)]
        exact none
  exact run [0, 1, 2, 3] e (Or.inl (by fin_cases k <;> decide))

/-- The losses of every namespace, and the count of the bytes lost. -/
def Engine.cutoffLoses (left : List EpDirty) (e : Engine) : Engine :=
  [1, 2, 3, 4].foldl (fun e ns => e.epLose ns (left.filter (·.ns = ns)))
    (e.bumpN .epDrainLost 0x0241 0 (sumNat (left.map (·.data.length))))

theorem Engine.cutoffLoses_only (left : List EpDirty) :
    Engine.changesOnly [.ep, .counters, .log] e (e.cutoffLoses left) :=
  ((e.bumpN_only _ _ _ _).andThen (Engine.changesOnly_foldl _ (fun e _ => e.epLose_only _ _) _ _)).within

theorem Engine.cutoffLoses_grows (left : List EpDirty) : e.log.held.length ≤ (e.cutoffLoses left).log.held.length := by
  have run (l : List Nat) : ∀ e : Engine, e.log.held.length ≤
      (l.foldl (fun e ns => e.epLose ns (left.filter (·.ns = ns))) e).log.held.length := by
    induction l with
    | nil => exact fun _ => Nat.le_refl _
    | cons ns r ih => exact fun e => (e.epLose_grows ns _).trans (ih _)
  exact (Nat.le_of_eq (by rw [Engine.bumpN_log])).trans (run _ _)

theorem Engine.cutoffLoses_drained (left : List EpDirty) : (e.cutoffLoses left).ep.drained = e.ep.drained :=
  (Engine.foldl_keeps (·.ep.drained) _ (fun e ns => e.epLose_drained ns _) _ _).trans (by rw [Engine.bumpN_ep])

/-- What is left to drain as the drain is cut off. -/
def Engine.undrained (e : Engine) : List EpDirty := e.ep.dirty.filter (!·.poison)

theorem Engine.epCutoff_due {t0 : Nat} (stopped : e.ep.stopped = true) (lost : e.power.t0 = some t0)
    (late : t0 + ms 130 ≤ e.now) : e.epCutoff =
      let ends := [0, 1, 2, 3].foldl (Engine.drainEnds e.undrained) (e.cutoffLoses e.undrained)
      (ends.modEp fun p => { p with dirty := [], cmds := [] }).emit 0x0241 .epPowerDrain
        (evData [(4, sumNat ends.ep.drained.toList)]) := by
  rw [Engine.epCutoff, stopped, Engine.sinceLoss_input lost late]
  rfl

end

/-- One value that fits is the data. -/
theorem evData_one (n v : Nat) (h : n ≤ 14) : evData [(n, v)] = le n v := by
  have fits : ¬ 14 < n := by omega
  simp [evData, fits]

theorem does_epDrainCutoff {t t0 : Nat} {s : State} (powered : s.eng.sys.phase.powered = true)
    (stopped : s.eng.ep.stopped = true) (lost : s.eng.power.t0 = some t0) (late : t0 + ms 130 ≤ (s.eng.at t).now) :
    Does (.epDrainCutoff t) t s fun a b =>
    Engine.changesOnly [.ep, .recorder, .counters, .log] a b ∧ (∀ m : Fin 4, ∀ c ∈ (b.mport m).cmds, c.use ≠ .drain) ∧
    b.ep.dirty = [] ∧ b.ep.cmds = [] ∧
    (Engine.newEvents a b).getLast? = some (0x0241, .epPowerDrain, le 4 (sumNat a.ep.drained.toList)) := by
  refine Does.of_powered (·.epCutoff) rfl powered ?_
  rw [Engine.epCutoff_due _ (by simpa using stopped) (by simpa using lost) late]
  set a := s.eng.at t
  dsimp only
  have loses := a.cutoffLoses_only a.undrained
  have grows := a.cutoffLoses_grows a.undrained
  have drained := a.cutoffLoses_drained a.undrained
  set l := a.cutoffLoses a.undrained
  have ends : Engine.changesOnly [.recorder] l ([0, 1, 2, 3].foldl (Engine.drainEnds a.undrained) l) :=
    Engine.changesOnly_foldl _ (fun e m => e.drainEnds_only _ m) _ l
  have none := l.drainEnds_all a.undrained
  set b := [0, 1, 2, 3].foldl (Engine.drainEnds a.undrained) l
  refine ⟨(((loses.andThen ends).andThen (b.modEp_only _)).andThen (Engine.emit_only _ _ _ _)).within, none, rfl, rfl, ?_⟩
  rw [ends.ep_eq, drained, Engine.newEvents_emit_next _ _ _ (by rwa [Engine.modEp_log, ends.log_eq]), evData_take,
    evData_one _ _ (by decide), List.getLast?_append]
  rfl

/-- Settles O43: a piece that commits, to NS5 or to a drive, or waits; a drain write; and the two ends after input loss. -/
theorem writeBufferCommitsAndDrains : Obligations.WriteBufferCommitsAndDrains := by
  unfold Obligations.WriteBufferCommitsAndDrains
  exact ⟨fun _ _ _ _ _ => does_epPieceCommit_ns5, fun _ _ _ _ _ => does_epPieceCommit_room,
    fun _ _ _ _ _ => does_epPieceCommit_waits, fun _ _ _ _ => does_epDrainDone, fun _ _ _ => does_epUncommittedDiscard,
    fun _ _ _ => does_epDrainCutoff⟩

end Sys2Proof.Machine
end

section
/-! Commands to the namespaces (O42; R286, R289, R290, R293). -/

namespace Sys2Proof.Machine
set_option Elab.async false

/-! The checks that a command passes, and its place among those in flight (R286, R289). -/

section
variable (e : Engine)

theorem Engine.at_cmdAccess (t : Nat) (x : EpFetched) (ns : Nat) : (e.at t).cmdAccess x ns = e.cmdAccess x ns := by
  rw [Engine.cmdAccess, Engine.at_mport]
  rfl

/-- NS5 can be read and written in every state (R285). -/
theorem Engine.cmdAccess_ns5 (x : EpFetched) : e.cmdAccess x 5 = .readWrite := rfl

/-- Blocks that a command to a namespace can reach. -/
def Engine.ioSize (ns : Nat) : Nat :=
  if ns = 5 then e.nsBlocks 5 else ((e.mport (ns - 1)).drive.map (·.blocks)).getD 0

theorem Engine.ioSize_drive {ns : Nat} {d : DriveInfo} (ns4 : ns ≤ 4) (drive : (e.mport (ns - 1)).drive = some d) :
    e.ioSize ns = d.blocks := by
  rw [Engine.ioSize, if_neg (by omega), drive]
  rfl

theorem Engine.ioSize_ns5 (present : e.cb 0x0052 3 31 = true) : e.ioSize 5 = 262144 := by
  rw [Engine.ioSize, if_pos rfl, Engine.nsBlocks, if_pos rfl, present, if_pos rfl]

theorem Engine.nsBlock_drive {ns : Nat} {d : DriveInfo} (ns4 : ns ≤ 4) (drive : (e.mport (ns - 1)).drive = some d) :
    e.nsBlock ns = 2 ^ d.lbaLog2 := by
  rw [Engine.nsBlock, if_neg (by omega), drive]

theorem Engine.ioCheck_passes {x : EpFetched} {ns : Nat} {wr : Bool} {blocks : List (Nat × Nat)} (go : Engine → Engine)
    (low : 1 ≤ ns) (high : ns ≤ 5) (ready : e.cmdAccess x ns ≠ .notReady) (writable : wr = true → e.cmdAccess x ns = .readWrite)
    (fits : ∀ b ∈ blocks, b.1 + b.2 ≤ e.ioSize ns) : e.ioCheck x ns wr blocks go = go e := by
  have allowed : ¬ (wr && decide (e.cmdAccess x ns = .readOnly)) = true := by
    intro refused
    obtain ⟨writes, readOnly⟩ := Bool.and_eq_true_iff.1 refused
    rw [writable writes] at readOnly
    cases readOnly
  have inside : ¬ (blocks.any fun b => decide (e.ioSize ns < b.1 + b.2)) = true := by
    simpa using fun a b mem => fits (a, b) mem
  rw [Engine.ioCheck, if_neg (by simp; omega), if_neg ready, if_neg allowed]
  exact if_neg inside

/-- A command as it joins those in flight. -/
def Engine.ioCmd (x : EpFetched) (op : EpOp) (ns : Nat) (blocks : List (Nat × Nat)) : EpCmd :=
  let rs := blocks.map fun r => (r.1 * e.nsBlock ns, r.2 * e.nsBlock ns)
  let ps : List EpPiece := if op = .write then rs.flatMap fun r => (cutPieces (r.2 / 131072 + 2) r.1 r.2).map fun p =>
      ⟨p.1, p.2, none, false⟩ else []
  ⟨x.q, x.cid, x.key, op, ns, rs, false, ps, false, false⟩

/-- No data of a new command has arrived. -/
theorem Engine.ioCmd_pieces (x : EpFetched) (op : EpOp) (ns : Nat) (blocks : List (Nat × Nat)) :
    ∀ p ∈ (e.ioCmd x op ns blocks).pieces, p.committed = false ∧ p.data = none := by
  intro p mem
  unfold Engine.ioCmd at mem
  dsimp only at mem
  split at mem
  · obtain ⟨r, -, cut⟩ := List.mem_flatMap.1 mem
    obtain ⟨k, -, rfl⟩ := List.mem_map.1 cut
    exact ⟨rfl, rfl⟩
  · cases mem

/-- A command that has joined those in flight, with the read load it takes. -/
def Engine.joined (c : EpCmd) (e : Engine) : Engine := (e.modEp fun p => { p with cmds := p.cmds ++ [c] }).readPace c

/-- A command alone in flight that can start does so, and the drains go on. -/
theorem Engine.ioJoin_starts {x : EpFetched} {op : EpOp} {ns : Nat} {blocks : List (Nat × Nat)} (alone : e.ep.cmds = [])
    (now : e.readNow (e.ioCmd x op ns blocks) = true)
    (after : ∀ d ∈ ((e.joined (e.ioCmd x op ns blocks)).epStart (e.ioCmd x op ns blocks)).ep.cmds, d.started = true) :
    e.ioJoin x op ns blocks = ((e.joined (e.ioCmd x op ns blocks)).epStart (e.ioCmd x op ns blocks)).drains :=
  Engine.epPump_starts (e := e.modEp fun p => { p with cmds := p.cmds ++ [e.ioCmd x op ns blocks] })
    (by simp [alone]) rfl (fun p mem => (e.ioCmd_pieces x op ns blocks p mem).2) now after

/-- Read load apart, a command that joins changes the commands in flight. -/
theorem Engine.joined_eq (c : EpCmd) (alone : e.ep.cmds = []) :
    ∃ v, e.joined c = e.modEp fun p => { p with cmds := [c], readUntil := v } := by
  have alone : (e.modEp fun p => { p with cmds := p.cmds ++ [c] }) = e.modEp fun p => { p with cmds := [c] } := by
    rw [Engine.modEp, alone]
    rfl
  rw [Engine.joined, alone, Engine.readPace]
  split
  · exact ⟨_, rfl⟩
  · exact ⟨e.ep.readUntil, rfl⟩

/-- Reads of drives that do not record, and every other command, need not wait for read load (R293). -/
theorem Engine.readNow_free (c : EpCmd) (free : c.op.writes = true ∨ c.ns = 5 ∨ (e.mport (c.ns - 1)).state ≠ .recording ∨
    vget e.ep.readUntil (c.ns - 1) 0 ≤ e.now) : e.readNow c = true := by
  unfold Engine.readNow Engine.readPaced
  obtain writes | ns5 | idle | due := free
  · simp [writes]
  · simp [ns5]
  · simp [idle]
  · simp [due]

end

theorem Engine.bumpN_modEp (e : Engine) (f : Ep → Ep) (c : Ctr) (src i n : Nat) :
    (e.modEp f).bumpN c src i n = (e.bumpN c src i n).modEp f := by
  unfold Engine.bumpN
  split <;> rfl

/-- What was posted stays on the record of events and notices. -/
theorem Engine.mem_done_epEvent {y : Completion} {e : Engine} (h : y ∈ e.ep.done) (ty info page : Nat) :
    y ∈ (e.epEvent ty info page).ep.done := by
  unfold Engine.epEvent
  split
  · exact h
  · dsimp only
    split
    · refine Ep.mem_done_complete ?_ _
      exact h
    · exact h

theorem Engine.mem_done_epSync {y : Completion} {e : Engine} (h : y ∈ e.ep.done) : y ∈ e.epSync.ep.done := by
  have one (e : Engine) (h : y ∈ e.ep.done) (m : Nat) : y ∈ (e.epSyncOne m).ep.done := by
    unfold Engine.epSyncOne
    dsimp only
    split
    · exact h
    · refine Engine.mem_done_epEvent ?_ _ _ _
      exact h
  have all (l : List Nat) : ∀ e : Engine, y ∈ e.ep.done → y ∈ (l.foldl Engine.epSyncOne e).ep.done := by
    induction l with
    | nil => exact fun _ h => h
    | cons m r ih => exact fun e h => ih _ (one e h m)
  rw [Engine.epSync]
  exact all _ e h

/-! Reads (R289, R290, R293). -/

section
variable {e : Engine} {x : EpFetched} {ns slba nlb st : Nat} {drive : List Byte}

/-- A read returns its data, or its status, and is finished. -/
theorem Engine.epStart_read {c : EpCmd} {a n : Nat} (op : c.op = .read drive st) (range : c.ranges = [(a, n)]) :
    e.epStart c = ((e.bumpN .epBufHit 0x0241 0 (e.epHits c.ns a n)).modEp fun p =>
      { p.drop c with unitsRead := p.unitsRead + n / 512 }).epStatus c.q c.cid ((e.epReadData c.ns a n drive st).1 / 256 % 8)
        ((e.epReadData c.ns a n drive st).1 % 256) ((e.epReadData c.ns a n drive st).1.testBit 15) 0
        (if (e.epReadData c.ns a n drive st).1 = 0 then (e.epReadData c.ns a n drive st).2 else []) := by
  rw [Engine.epStart, op, range]
  dsimp only [List.headD]
  split
  · next ok => rw [ok]; rfl
  · rfl

/-- A read alone in flight: what it returns, and what it leaves. -/
theorem Engine.ioJoin_read (alone : e.ep.cmds = []) (post : e.canPost x.q)
    (now : e.readNow (e.ioCmd x (.read drive st) ns [(slba, nlb + 1)]) = true) :
    ∃ b, e.ioJoin x (.read drive st) ns [(slba, nlb + 1)] = b.drains ∧
      Engine.changesOnly [.ep]
        (e.bumpN .epBufHit 0x0241 0 (e.epHits ns (slba * e.nsBlock ns) ((nlb + 1) * e.nsBlock ns))) b ∧
      b.ep.cmds = [] ∧ b.ep.dirty = e.ep.dirty ∧
      (∀ bs, e.epReadData ns (slba * e.nsBlock ns) ((nlb + 1) * e.nsBlock ns) drive st = (0, bs) →
        b.completed x.q x.cid 0 0 false 0 bs) ∧
      ∀ st' bs, st' ≠ 0 → e.epReadData ns (slba * e.nsBlock ns) ((nlb + 1) * e.nsBlock ns) drive st = (st', bs) →
        b.completed x.q x.cid (st' / 256 % 8) (st' % 256) (st'.testBit 15) 0 [] := by
  set c := e.ioCmd x (.read drive st) ns [(slba, nlb + 1)] with command
  set hits := e.bumpN .epBufHit 0x0241 0 (e.epHits ns (slba * e.nsBlock ns) ((nlb + 1) * e.nsBlock ns))
  obtain ⟨v, joined⟩ := e.joined_eq c alone
  have start : (e.joined c).epStart c = ((hits.modEp fun p => { p with cmds := [c], readUntil := v }).modEp fun p =>
      { p.drop c with unitsRead := p.unitsRead + (nlb + 1) * e.nsBlock ns / 512 }).epStatus x.q x.cid
        ((e.epReadData ns (slba * e.nsBlock ns) ((nlb + 1) * e.nsBlock ns) drive st).1 / 256 % 8)
        ((e.epReadData ns (slba * e.nsBlock ns) ((nlb + 1) * e.nsBlock ns) drive st).1 % 256)
        ((e.epReadData ns (slba * e.nsBlock ns) ((nlb + 1) * e.nsBlock ns) drive st).1.testBit 15) 0
        (if (e.epReadData ns (slba * e.nsBlock ns) ((nlb + 1) * e.nsBlock ns) drive st).1 = 0 then
          (e.epReadData ns (slba * e.nsBlock ns) ((nlb + 1) * e.nsBlock ns) drive st).2 else []) := by
    rw [joined, Engine.epStart_read rfl rfl, Engine.bumpN_modEp]
    rfl
  set b := (hits.modEp fun p => { p with cmds := [c], readUntil := v }).modEp fun p =>
    { p.drop c with unitsRead := p.unitsRead + (nlb + 1) * e.nsBlock ns / 512 }
  have reads : Engine.changesOnly [.ep] hits b := ((hits.modEp_only _).andThen (Engine.modEp_only _ _)).within
  have empty : b.ep.cmds = [] := by simp [b, Ep.drop]
  have same : b.ep.sqs = e.ep.sqs ∧ b.ep.cqs = e.ep.cqs ∧ b.ep.dirty = e.ep.dirty := by simp [b, hits, Ep.drop]
  have post : b.canPost x.q := by rwa [Engine.canPost, same.1, same.2.1]
  have done := post.answers reads x.cid
  have cmds := fun x => (b.ep.complete_cmds x).trans empty
  refine ⟨(e.joined c).epStart c, e.ioJoin_starts alone now (by rw [start]; simp [Engine.epStatus, cmds]), ?_⟩
  rw [start]
  refine ⟨(done _ _ _ _ _).1, cmds _, (b.ep.complete_dirty _).trans same.2.2, fun bs ok => ?_, fun st' bs bad error => ?_⟩
  · rw [ok]
    simpa only [Nat.zero_div, Nat.zero_mod, Nat.zero_testBit, if_true] using (done 0 0 false 0 bs).2
  · rw [error]
    dsimp only
    rw [if_neg bad]
    exact (done _ _ _ _ _).2

/-- Without dirty data a read finds nothing in the buffer. -/
theorem Engine.epHits_clean (clean : e.ep.dirty = []) (a n : Nat) : e.epHits ns a n = 0 := by
  simp [Engine.epHits, clean]

/-- It then returns what the drive returns. -/
theorem Engine.epReadData_drive (clean : e.ep.dirty = []) (own : ns ≠ 5) (a n : Nat) (drive : List Byte) :
    e.epReadData ns a n drive 0 = (0, padTo n drive) := by
  rw [Engine.epReadData, if_neg own, clean]
  rfl

theorem Engine.epReadData_error (clean : e.ep.dirty = []) (own : ns ≠ 5) (a n : Nat) (drive : List Byte) (bad : st ≠ 0) :
    e.epReadData ns a n drive st = (st, []) := by
  rw [Engine.epReadData, if_neg own, clean]
  exact if_pos bad

theorem Engine.epReadData_ns5 (a n : Nat) (drive : List Byte) (st : Nat) :
    e.epReadData 5 a n drive st = (0, (List.range n).map fun i => ns5Byte e.ep.ns5 e.deviceId (a + i)) := rfl

/-- A read that passes the checks joins the commands in flight; a drive that answers with an error then fails (R249). -/
theorem Engine.nvmeRead_joins (low : 1 ≤ ns) (high : ns ≤ 5) (ready : e.cmdAccess x ns ≠ .notReady)
    (fits : slba + nlb + 1 ≤ e.ioSize ns) (short : (nlb + 1) * e.nsBlock ns ≤ 1048576) :
    e.nvmeRead ns slba nlb drive st x =
      let b := e.ioJoin x (.read drive st) ns [(slba, nlb + 1)]
      if st = 0 || ns = 5 || b.ep.cmds.any (fun c => c.q = x.q && c.cid = x.cid) then b
      else (((b.mediaIoErr (ns - 1)).mediaIoErr (ns - 1)).driveFail (ns - 1)) := by
  rw [Engine.nvmeRead, Engine.ioCheck_passes (wr := false) _ _ low high ready nofun (by simpa [Nat.add_assoc] using fits)]
  dsimp only
  rw [Engine.overMdts, if_neg (by simpa using short)]

end

section
variable {t q cid ns slba nlb st : Nat} {drive : List Byte} {x : EpFetched} {d : DriveInfo} {s : State}
  (hr : s.eng.sys.phase = .running) (fetched : (s.eng.at t).fetchedFor q cid x)
include hr fetched

theorem does_nvmeRead_drive (low : 1 ≤ ns) (high : ns ≤ 4) (ready : s.eng.cmdAccess x ns ≠ .notReady)
    (there : (s.eng.mport (ns - 1)).drive = some d) (fits : slba + nlb + 1 ≤ d.blocks)
    (short : (nlb + 1) * 2 ^ d.lbaLog2 ≤ 1048576) (alone : s.eng.ep.cmds = []) (clean : s.eng.ep.dirty = [])
    (now : (s.eng.mport (ns - 1)).state ≠ .recording ∨ vget s.eng.ep.readUntil (ns - 1) 0 ≤ (s.eng.at t).now) :
    Does (.nvmeRead t q cid ns slba nlb drive 0) t s fun a b => Engine.changesOnly [.ep, .recorder] a b ∧ a.drainsIssued b ∧
      b.completed q cid 0 0 false 0 (padTo ((nlb + 1) * 2 ^ d.lbaLog2) drive) ∧ b.ep.cmds = [] := by
  refine Does.of_fetched (Engine.nvmeRead ns slba nlb drive 0) rfl hr fetched ?_
  rw [← s.eng.at_cmdAccess t] at ready
  rw [← s.eng.at_mport t] at there now
  rw [← s.eng.at_ep_cmds t] at alone
  rw [← s.eng.at_dirty t] at clean
  rw [← s.eng.at_ep_readUntil t] at now
  set a := s.eng.at t
  obtain ⟨rfl, rfl⟩ := fetched.names
  have taken := a.taken_only x
  have clean : (a.taken x).ep.dirty = [] := clean
  set e := a.taken x
  have block : e.nsBlock ns = 2 ^ d.lbaLog2 := e.nsBlock_drive high there
  obtain ⟨b, joins, reads, empty, -, completed, -⟩ := Engine.ioJoin_read (e := e) (x := x) (ns := ns) (slba := slba) (nlb := nlb)
    (st := 0) (drive := drive) alone fetched.post (e.readNow_free _ (Or.inr (Or.inr now)))
  rw [Engine.nvmeRead_joins (e := e) low (by omega) ready (by rw [e.ioSize_drive high there]; exact fits) (by rwa [block])]
  dsimp only
  rw [if_pos (by simp), joins]
  rw [Engine.epHits_clean clean, Engine.bumpN, if_pos rfl] at reads
  have completed := completed _ (Engine.epReadData_drive clean (by omega) _ _ _)
  rw [block] at completed
  have only := taken.andThen reads
  have same := b.drains_only.ep_eq
  rw [Engine.completed, same]
  exact ⟨(only.andThen b.drains_only).within, Engine.drainsIssued_drains only.rec_eq, completed, empty⟩

theorem does_nvmeRead_ns5 (present : s.eng.cb 0x0052 3 31 = true) (fits : slba + nlb + 1 ≤ 262144) (short : nlb < 256)
    (alone : s.eng.ep.cmds = []) : Does (.nvmeRead t q cid 5 slba nlb drive st) t s fun a b =>
      Engine.changesOnly [.ep, .recorder, .counters] a b ∧ a.drainsIssued b ∧ b.ep.cmds = [] ∧
      b.completed q cid 0 0 false 0
        ((List.range ((nlb + 1) * 4096)).map fun i => ns5Byte a.ep.ns5 a.deviceId (slba * 4096 + i)) := by
  refine Does.of_fetched (Engine.nvmeRead 5 slba nlb drive st) rfl hr fetched ?_
  rw [← s.eng.at_cb t] at present
  rw [← s.eng.at_ep_cmds t] at alone
  set a := s.eng.at t
  obtain ⟨rfl, rfl⟩ := fetched.names
  have taken := a.taken_only x
  set e := a.taken x
  obtain ⟨b, joins, reads, empty, -, completed, -⟩ := Engine.ioJoin_read (e := e) (x := x) (ns := 5) (slba := slba) (nlb := nlb)
    (st := st) (drive := drive) alone fetched.post (e.readNow_free _ (Or.inr (Or.inl rfl)))
  have block : e.nsBlock 5 = 4096 := rfl
  rw [Engine.nvmeRead_joins (e := e) (by decide) (by decide) (by rw [e.cmdAccess_ns5 x]; decide) (by rw [e.ioSize_ns5 present]; exact fits)
    (by rw [block]; omega)]
  dsimp only
  rw [if_pos (by simp), joins]
  have completed := completed _ (Engine.epReadData_ns5 _ _ _ _)
  have only := taken.andThen ((e.bumpN_only _ _ _ _).andThen reads)
  rw [Engine.completed, b.drains_only.ep_eq]
  exact ⟨(only.andThen b.drains_only).within, Engine.drainsIssued_drains only.rec_eq, empty, completed⟩

/-- The drive's error goes to the host, and the drive, on which nothing hangs, fails (R249, R290). -/
theorem does_nvmeRead_fails (low : 1 ≤ ns) (high : ns ≤ 4) (access : s.eng.cmdAccess x ns = .readWrite)
    (there : (s.eng.mport (ns - 1)).drive = some d) (fits : slba + nlb + 1 ≤ d.blocks)
    (short : (nlb + 1) * 2 ^ d.lbaLog2 ≤ 1048576) (idle : s.eng.driveIdle (ns - 1))
    (mounted : (s.eng.mport (ns - 1)).state = .mounted) (bad : st ≠ 0) :
    Does (.nvmeRead t q cid ns slba nlb drive st) t s fun a b => Engine.changesOnly [.ep, .recorder, .counters, .log] a b ∧
      (⟨q, cid, st / 256 % 8, st % 256, st.testBit 15, 0, []⟩ : Completion) ∈ b.ep.done ∧ (b.mport (ns - 1)).state = .failed := by
  refine Does.of_fetched (Engine.nvmeRead ns slba nlb drive st) rfl hr fetched ?_
  obtain ⟨m, rfl⟩ : ∃ m : Fin 4, ns = m + 1 := ⟨⟨ns - 1, by omega⟩, by simp; omega⟩
  rw [Nat.add_sub_cancel] at there idle mounted ⊢
  rw [← s.eng.at_cmdAccess t] at access
  rw [← s.eng.at_mport t] at there mounted
  have idle := idle.at t
  set a := s.eng.at t
  obtain ⟨rfl, rfl⟩ := fetched.names
  have taken := a.taken_only x
  have idle : (a.taken x).driveIdle m := idle
  set e := a.taken x
  obtain ⟨-, -, -, -, clean, noCmd, owed⟩ := id idle
  have block : e.nsBlock (m + 1) = 2 ^ d.lbaLog2 := e.nsBlock_drive high there
  have port : (e.mport m).state = .mounted := mounted
  obtain ⟨b, joins, reads, empty, dirty, -, completed⟩ := Engine.ioJoin_read (e := e) (x := x) (ns := m + 1) (slba := slba)
    (nlb := nlb) (st := st) (drive := drive) noCmd fetched.post
    (e.readNow_free _ (Or.inr (Or.inr (Or.inl (by
      change (e.mport m).state ≠ .recording
      rw [port]; decide)))))
  rw [Engine.epHits_clean clean, Engine.bumpN, if_pos rfl] at reads
  have completed := completed _ _ bad (Engine.epReadData_error clean (by omega) _ _ _ bad)
  have still : b.drains = b := Engine.drains_idle (dirty.trans clean) fun k => by
    rw [Engine.mport_congr reads.rec_eq]; exact owed k
  have idle : b.driveIdle m := idle.of_same (by rw [reads.rec_eq]) (by rw [reads.rec_eq]) reads.sys_eq dirty
    (empty.trans noCmd.symm) fun k => by rw [Engine.mport_congr reads.rec_eq]; exact ⟨rfl, rfl⟩
  rw [Engine.nvmeRead_joins (e := e) (by omega) (by omega) (fun h => by rw [show e.cmdAccess x (m + 1) = _ from access] at h; cases h)
    (by rw [e.ioSize_drive high there]; exact fits) (by rwa [block])]
  dsimp only
  rw [joins, still, if_neg (by simp [bad, empty]; omega), Nat.add_sub_cancel]
  have errors : ((b.mediaIoErr m).mediaIoErr m).driveIdle m :=
    (((idle.bump _ _).emit _ _ _).bump _ _).emit _ _ _
  have logs : Engine.changesOnly [.counters, .log] b ((b.mediaIoErr m).mediaIoErr m) :=
    ((b.bump_emit_effect .mediaIoErr (mediaSrc m) .mediaIoErr []).1.andThen
      ((b.mediaIoErr m).bump_emit_effect .mediaIoErr (mediaSrc m) .mediaIoErr []).1).within
  set f := (b.mediaIoErr m).mediaIoErr m
  have state : (f.mport m).state = .mounted := by rw [Engine.mport_congr (logs.rec_eq.trans reads.rec_eq)]; exact port
  have there : (f.mport m).state ≠ .empty := by rw [state]; decide
  have sound : (f.mport m).state ≠ .failed := by rw [state]; decide
  obtain ⟨fails, failed⟩ := errors.driveFail_effect there sound
  refine ⟨(((taken.andThen reads).andThen logs).andThen fails).within, ?_, ?_⟩
  · rw [errors.driveFail there sound, Engine.emit_ep, Engine.bump_ep]
    refine Engine.mem_done_epSync ?_
    rw [Engine.modMedia_ep, logs.ep_eq]
    exact List.mem_of_mem_head? completed
  · rw [Engine.mport_congr failed, Engine.modMedia_mport]
    rfl

end

/-! Writes (R286, R290). -/

section
variable {e : Engine} {x : EpFetched} {ns : Nat} {op : EpOp} {blocks : List (Nat × Nat)}

/-- A command that writes, started and waiting: what is left of a pump that starts it alone. -/
theorem Engine.ioJoin_write (alone : e.ep.cmds = []) : ∃ v, e.ioJoin x .write ns blocks =
    (e.modEp fun p => { p with
      cmds := [{ e.ioCmd x .write ns blocks with started := true }], readUntil := v }).drains := by
  obtain ⟨v, joined⟩ := e.joined_eq (e.ioCmd x .write ns blocks) alone
  have start : (e.joined (e.ioCmd x .write ns blocks)).epStart (e.ioCmd x .write ns blocks) = e.modEp fun p => { p with
      cmds := [{ e.ioCmd x .write ns blocks with started := true }], readUntil := v } := by
    rw [joined, Engine.epStart]
    exact congrArg (fun p => { e with ep := p }) (Ep.modCmd_single (p := { e.ep with cmds := [e.ioCmd x .write ns blocks], readUntil := v }) rfl _)
  refine ⟨v, ?_⟩
  rw [e.ioJoin_starts alone (e.readNow_free _ (Or.inl rfl)) (by rw [start]; simp), start]


/-- Write Zeroes and deallocate start alike: NS5 is zeroed, and a drive waits for its drain (R293). -/
theorem Engine.epStart_zeroes {c : EpCmd} (zeroes : c.op = .writeZeroes ∨ c.op = .deallocate) : e.epStart c =
    if c.ns = 5 then
      (e.modEp fun p => { p.drop c with
        ns5 := c.ranges.foldl (fun m r => ns5Put m r.1 (List.replicate r.2 0)) p.ns5 }).epOk c.q c.cid 0 []
    else (e.modEp (·.modCmd c.q c.cid fun d => { d with started := true })).epZeroPass { c with started := true } := by
  obtain op | op := zeroes
  · rw [Engine.epStart, op]
  · rw [Engine.epStart, op]

/-- Nothing is left in flight once the one command is dropped. -/
theorem Ep.drop_single {p : Ep} {c : EpCmd} (one : p.cmds = [c]) : p.drop c = { p with cmds := [] } := by
  simp [Ep.drop, one]

/-- Write Zeroes of NS5 zeroes its blocks at once (R293). -/
theorem Engine.ioJoin_zeroes_ns5 (alone : e.ep.cmds = []) : ∃ v, e.ioJoin x .writeZeroes 5 blocks =
    ((e.modEp fun p => { p with
      cmds := [], readUntil := v
      ns5 := (blocks.map fun r => (r.1 * 4096, r.2 * 4096)).foldl (fun m r => ns5Put m r.1 (List.replicate r.2 0)) p.ns5
      }).epOk x.q x.cid 0 []).drains := by
  set c := e.ioCmd x .writeZeroes 5 blocks with command
  obtain ⟨v, joined⟩ := e.joined_eq c alone
  set b := e.modEp fun p => { p with
    cmds := [], readUntil := v
    ns5 := (blocks.map fun r => (r.1 * 4096, r.2 * 4096)).foldl (fun m r => ns5Put m r.1 (List.replicate r.2 0)) p.ns5 }
    with zeroed
  have start : (e.joined c).epStart c = b.epOk x.q x.cid 0 [] := by
    rw [joined, Engine.epStart_zeroes (Or.inl rfl), if_pos (show c.ns = 5 from rfl), zeroed]
    simp only [Engine.modEp]
    rw [Ep.drop_single rfl]
    rfl
  have empty : (b.epOk x.q x.cid 0 []).ep.cmds = [] := b.ep.complete_cmds _
  refine ⟨v, ?_⟩
  rw [e.ioJoin_starts alone (e.readNow_free _ (Or.inl rfl)) (by rw [← command, start, empty]; simp), ← command, start]

/-- What a drive is given adds nothing to what waits for its drain. -/
theorem Engine.putCmds_owed (e : Engine) (m k : Fin 4) (us : List CmdUse) :
    ((e.putCmds m us []).mport k).owed = (e.mport k).owed := by
  rw [Engine.putCmds_eq_modMedia]
  by_cases here : m = k
  · rw [here, Engine.modMedia_mport]
    rfl
  · rw [Engine.modMedia_mport_ne e fun h => here (Fin.ext h)]

/-- With nothing to drain, Write Zeroes and deallocate of a drive are passed to it at once (R293). -/
theorem Engine.ioJoin_passes (m : Fin 4) (zeroes : op = .writeZeroes ∨ op = .deallocate) (alone : e.ep.cmds = [])
    (clean : e.ep.dirty = []) (owed : ∀ k : Fin 4, (e.mport k).owed = []) : ∃ v, e.ioJoin x op (m + 1) blocks =
    (e.modEp fun p => { p with
      cmds := [{ e.ioCmd x op (m + 1) blocks with started := true, passed := true }], readUntil := v }).putCmds m
        [.host x.q x.cid] [] := by
  set c := e.ioCmd x op (m + 1) blocks with command
  obtain ⟨v, joined⟩ := e.joined_eq c alone
  set b := e.modEp fun p => { p with cmds := [{ c with started := true, passed := true }], readUntil := v } with passed
  have writes : c.op.writes = true := by
    obtain rfl | rfl := zeroes
    · rfl
    · rfl
  have start : (e.joined c).epStart c = b.putCmds m [.host x.q x.cid] [] := by
    rw [joined, Engine.epStart_zeroes (c := c) zeroes, if_neg (by change ¬ m.val + 1 = 5; omega)]
    simp only [Engine.modEp]
    rw [Ep.modCmd_single rfl, Engine.epZeroPass, if_pos (by simpa [clean, command, Engine.ioCmd] using zeroes)]
    simp only [Engine.modEp]
    rw [Ep.modCmd_single (c := { c with started := true }) rfl]
    rfl
  refine ⟨v, ?_⟩
  rw [e.ioJoin_starts alone (e.readNow_free _ (Or.inl writes)) (by rw [← command, start, passed]; simp [Engine.putCmds]),
    ← command, start]
  exact Engine.drains_idle clean fun k => (b.putCmds_owed m k _).trans (owed k)

end

section
variable {t q cid ns slba nlb : Nat} {x : EpFetched} {s : State} (hr : s.eng.sys.phase = .running)
  (fetched : (s.eng.at t).fetchedFor q cid x)
include hr fetched

theorem does_nvmeWrite_ns5 (present : s.eng.cb 0x0052 3 31 = true) (fits : slba + nlb + 1 ≤ 262144) (short : nlb < 256)
    (alone : s.eng.ep.cmds = []) : Does (.nvmeWrite t q cid 5 slba nlb) t s fun a b =>
      Engine.changesOnly [.ep, .recorder] a b ∧ a.drainsIssued b ∧ b.ep.ns5 = a.ep.ns5 ∧
      b.ep.done = a.ep.done ∧ ∃ c, b.ep.cmds = [c] ∧ c.q = x.q ∧ c.cid = x.cid ∧ c.op = .write ∧ c.ns = 5 ∧ c.started = true ∧
        c.ranges = [(slba * 4096, (nlb + 1) * 4096)] ∧ ∀ p ∈ c.pieces, p.committed = false ∧ p.data = none := by
  refine Does.of_fetched (Engine.nvmeWrite 5 slba nlb) rfl hr fetched ?_
  rw [← s.eng.at_cb t] at present
  rw [← s.eng.at_ep_cmds t] at alone
  set a := s.eng.at t
  have taken := a.taken_only x
  set e := a.taken x
  obtain ⟨v, starts⟩ := Engine.ioJoin_write (e := e) (x := x) (ns := 5) (blocks := [(slba, nlb + 1)]) alone
  have only := taken.andThen (e.modEp_only fun p =>
    { p with cmds := [{ e.ioCmd x .write 5 [(slba, nlb + 1)] with started := true }], readUntil := v })
  rw [Engine.nvmeWrite, Engine.ioCheck_passes _ _ (by decide) (by decide) (by rw [e.cmdAccess_ns5 x]; decide)
    (fun _ => e.cmdAccess_ns5 x) (by rw [e.ioSize_ns5 present]; simpa [Nat.add_assoc] using fits),
    Engine.overMdts, show e.nsBlock 5 = 4096 from rfl, if_neg (by simp; omega), starts]
  set b := e.modEp fun p => { p with cmds := [{ e.ioCmd x .write 5 [(slba, nlb + 1)] with started := true }], readUntil := v }
  rw [b.drains_only.ep_eq]
  exact ⟨(only.andThen b.drains_only).within, Engine.drainsIssued_drains only.rec_eq, rfl, rfl, _, rfl, rfl, rfl, rfl, rfl, rfl, rfl,
    e.ioCmd_pieces x .write 5 [(slba, nlb + 1)]⟩

theorem does_nvmeFlush : Does (.nvmeFlush t q cid 0xFFFFFFFF) t s fun a b =>
    Engine.changesOnly [.ep] a b ∧ b.completed q cid 0 0 false 0 [] ∧ b.ep.dirty = a.ep.dirty := by
  refine Does.of_fetched (Engine.nvmeFlush 0xFFFFFFFF) rfl hr fetched ?_
  set a := s.eng.at t
  obtain ⟨rfl, rfl⟩ := fetched.names
  obtain ⟨only, done⟩ := fetched.post.answers (a.taken_only x) x.cid 0 0 false 0 []
  rw [Engine.nvmeFlush, if_pos rfl]
  exact ⟨only, done, (a.taken x).ep.complete_dirty _⟩

theorem does_nvmeWriteZeroes_ns5 (present : s.eng.cb 0x0052 3 31 = true) (fits : slba + nlb + 1 ≤ 262144)
    (alone : s.eng.ep.cmds = []) : Does (.nvmeWriteZeroes t q cid 5 slba nlb) t s fun a b =>
      Engine.changesOnly [.ep, .recorder] a b ∧ a.drainsIssued b ∧ b.completed q cid 0 0 false 0 [] ∧ b.ep.cmds = [] ∧
      b.ep.ns5 = ns5Put a.ep.ns5 (slba * 4096) (List.replicate ((nlb + 1) * 4096) 0) := by
  refine Does.of_fetched (Engine.nvmeWriteZeroes 5 slba nlb) rfl hr fetched ?_
  rw [← s.eng.at_cb t] at present
  rw [← s.eng.at_ep_cmds t] at alone
  set a := s.eng.at t
  obtain ⟨rfl, rfl⟩ := fetched.names
  have taken := a.taken_only x
  set e := a.taken x
  obtain ⟨v, starts⟩ := Engine.ioJoin_zeroes_ns5 (e := e) (x := x) (blocks := [(slba, nlb + 1)]) alone
  rw [Engine.nvmeWriteZeroes, Engine.ioCheck_passes _ _ (by decide) (by decide) (by rw [e.cmdAccess_ns5 x]; decide)
    (fun _ => e.cmdAccess_ns5 x) (by rw [e.ioSize_ns5 present]; simpa [Nat.add_assoc] using fits), starts]
  set b := e.modEp fun p => { p with
    cmds := [], readUntil := v
    ns5 := ([(slba, nlb + 1)].map fun r => (r.1 * 4096, r.2 * 4096)).foldl
      (fun m r => ns5Put m r.1 (List.replicate r.2 0)) p.ns5 }
  have post : b.canPost x.q := fetched.post
  obtain ⟨only, done⟩ := post.answers (taken.andThen (e.modEp_only _)).within x.cid 0 0 false 0 []
  have zeroed : (b.epOk x.q x.cid 0 []).ep.ns5 = b.ep.ns5 := congrArg (·.ns5) (b.ep.complete_sansPosts _)
  have empty : (b.epOk x.q x.cid 0 []).ep.cmds = b.ep.cmds := b.ep.complete_cmds _
  set f := b.epOk x.q x.cid 0 []
  rw [Engine.completed, f.drains_only.ep_eq]
  exact ⟨(only.andThen f.drains_only).within, Engine.drainsIssued_drains only.rec_eq, done, empty, zeroed⟩

end

/-! Writes that a drive does itself (R293). -/

section
variable {t q cid slba nlb : Nat} {ns : Fin 4} {ranges : List (Nat × Nat)} {i : Instr} {x : EpFetched} {d : DriveInfo} {s : State}

/-- Write Zeroes and deallocate of a drive join the commands in flight. -/
theorem Engine.zeroes_joins {e : Engine} (write : e.cmdAccess x (ns + 1) = .readWrite) (there : (e.mport ns).drive = some d)
    (fits : ∀ r ∈ ranges, r.1 + r.2 ≤ d.blocks) (go : Engine → Engine) :
    e.ioCheck x (ns + 1) true ranges go = go e :=
  Engine.ioCheck_passes _ _ (by omega) (by omega) (by rw [write]; decide) (fun _ => write)
    (by rwa [e.ioSize_drive (ns := ns + 1) (by omega) there])

/-- What a passed command leaves: it stands in flight, and the drive has it. -/
theorem Engine.ioJoin_passes_effect {a e : Engine} {op : EpOp} (taken : e = a.taken x)
    (zeroes : op = .writeZeroes ∨ op = .deallocate) (there : (e.mport ns).drive = some d) (alone : e.ep.cmds = [])
    (clean : e.ep.dirty = []) (owed : ∀ k : Fin 4, (e.mport k).owed = []) :
    let b := e.ioJoin x op (ns + 1) ranges
    Engine.changesOnly [.ep, .recorder] a b ∧ b.ep.done = a.ep.done ∧
      (∃ c, b.ep.cmds = [c] ∧ c.q = x.q ∧ c.cid = x.cid ∧ c.ns = ns + 1 ∧ c.started = true ∧ c.passed = true ∧
        c.ranges = ranges.map fun r => (r.1 * 2 ^ d.lbaLog2, r.2 * 2 ^ d.lbaLog2)) ∧
      b.rec_ = { a.rec_ with ports := vmod a.rec_.ports ns fun p => { p with
        cmds := p.cmds ++ [⟨p.nextCid, .host x.q x.cid, 1 + p.nextCid % max 1 p.queues, false, false, []⟩]
        nextCid := p.nextCid + 1 } } := by
  obtain ⟨v, passes⟩ := Engine.ioJoin_passes (x := x) (blocks := ranges) ns zeroes alone clean owed
  have block : e.nsBlock (ns + 1) = 2 ^ d.lbaLog2 := e.nsBlock_drive (by omega) there
  dsimp only
  rw [passes]
  subst taken
  exact ⟨(((a.taken_only x).andThen (Engine.modEp_only _ _)).andThen (Engine.putCmds_only _ _ _ _)).within, rfl,
    ⟨_, rfl, rfl, rfl, rfl, rfl, rfl, by rw [← block]; rfl⟩, rfl⟩

theorem does_passed (hr : s.eng.sys.phase = .running) (fetched : (s.eng.at t).fetchedFor q cid x)
    (write : s.eng.cmdAccess x (ns + 1) = .readWrite) (there : (s.eng.mport ns).drive = some d)
    (fits : ∀ r ∈ ranges, r.1 + r.2 ≤ d.blocks) (alone : s.eng.ep.cmds = []) (clean : s.eng.ep.dirty = [])
    (owed : ∀ k : Fin 4, (s.eng.mport k).owed = [])
    (which : i = Instr.nvmeDatasetManagement t q cid (ns + 1) ranges true ∨
      (i = .nvmeWriteZeroes t q cid (ns + 1) slba nlb ∧ ranges = [(slba, nlb + 1)])) : Does i t s fun a b =>
      Engine.changesOnly [.ep, .recorder] a b ∧ b.ep.done = a.ep.done ∧
      (∃ c, b.ep.cmds = [c] ∧ c.q = q ∧ c.cid = cid ∧ c.ns = ns + 1 ∧ c.started = true ∧ c.passed = true ∧
        c.ranges = ranges.map fun r => (r.1 * 2 ^ d.lbaLog2, r.2 * 2 ^ d.lbaLog2)) ∧
      b.rec_ = { a.rec_ with ports := vmod a.rec_.ports ns fun p => { p with
        cmds := p.cmds ++ [⟨p.nextCid, .host q cid, 1 + p.nextCid % max 1 p.queues, false, false, []⟩]
        nextCid := p.nextCid + 1 } } := by
  obtain ⟨rfl, rfl⟩ := fetched.names
  have port : ∀ k : Nat, ((s.eng.at t).taken x).mport k = s.eng.mport k := s.eng.at_mport t
  have write : ((s.eng.at t).taken x).cmdAccess x (ns + 1) = .readWrite := (s.eng.at_cmdAccess t x _).trans write
  have there : (((s.eng.at t).taken x).mport ns).drive = some d := by rwa [port]
  have passes {op : EpOp} (zeroes : op = .writeZeroes ∨ op = .deallocate) :=
    Engine.ioJoin_passes_effect (a := s.eng.at t) (x := x) (ranges := ranges) rfl zeroes there
      ((s.eng.at_ep_cmds t).trans alone) ((s.eng.at_dirty t).trans clean) fun k => by rw [port, owed]
  have joins := Engine.zeroes_joins write there fits
  obtain rfl | ⟨rfl, rfl⟩ := which
  · refine Does.of_fetched (Engine.nvmeDsm (ns + 1) ranges true) rfl hr fetched ?_
    rw [Engine.nvmeDsm, joins, if_pos rfl]
    exact passes (Or.inr rfl)
  · refine Does.of_fetched (Engine.nvmeWriteZeroes (ns + 1) slba nlb) rfl hr fetched ?_
    rw [Engine.nvmeWriteZeroes, joins]
    exact passes (Or.inl rfl)

end

/-! The drive completes what was passed to it (R293). -/

section
variable {t k : Nat} {m : Fin 4} {d : MediaCmd} {c : EpCmd} {s : State}

/-- Without dirty data no poison is cleared. -/
theorem Ep.clearPoison_clean {p : Ep} (clean : p.dirty = []) (ns : Nat) (rs : List (Nat × Nat)) :
    rs.foldl (fun p r => p.clearPoison ns r) p = p := by
  have still (r : Nat × Nat) : p.clearPoison ns r = p := Ep.clearPoison_sound (by simp [clean]) ns r
  induction rs with
  | nil => rfl
  | cons r rs ih => rw [List.foldl_cons, still, ih]

/-- The one passed command succeeds: it is answered, and nothing is left in flight. -/
theorem Engine.epHostDone_success {e : Engine} (one : e.ep.cmds = [c]) (passed : c.passed = true) (clean : e.ep.dirty = [])
    (owed : ∀ j : Fin 4, (e.mport j).owed = []) :
    e.epHostDone c.q c.cid 0 = (e.modEp fun p => { p with cmds := [] }).epOk c.q c.cid 0 [] := by
  have found : (e.ep.cmds.find? fun d => d.q = c.q && d.cid = c.cid && d.passed) = some c := by simp [one, passed]
  have dropped : (e.modEp fun p => (c.ranges.foldl (fun p r => p.clearPoison c.ns r) p).drop c) =
      e.modEp fun p => { p with cmds := [] } := by
    simp only [Engine.modEp]
    rw [Ep.clearPoison_clean clean, Ep.drop_single one]
  rw [Engine.epHostDone, found]
  dsimp only
  rw [if_pos rfl, dropped]
  set b := e.modEp fun p => { p with cmds := [] }
  have empty : (b.epOk c.q c.cid 0 []).ep.cmds = [] := b.ep.complete_cmds _
  rw [Engine.epPump_empty empty]
  exact Engine.drains_idle ((b.ep.complete_dirty _).trans clean) owed

theorem does_mediaCmdComplete_passed (powered : s.eng.sys.phase.powered = true)
    (found : (s.eng.mport m).cmds.find? (·.cid = k) = some d) (use : d.use = .host c.q c.cid) (one : s.eng.ep.cmds = [c])
    (passed : c.passed = true) (post : (s.eng.at t).canPost c.q) (clean : s.eng.ep.dirty = []) (idle : s.eng.rec_.takes = [])
    (owed : ∀ j : Fin 4, (s.eng.mport j).owed = []) :
    Does (.mediaCmdComplete t m k 0) t s fun a b => Engine.changesOnly [.ep, .recorder] a b ∧
      b.completed c.q c.cid 0 0 false 0 [] ∧ b.ep.cmds = [] ∧
      b.rec_ = { a.rec_ with ports := vmod a.rec_.ports m fun q => { q with
        resetting := false, cmds := q.cmds.filter (·.cid ≠ k) } } := by
  refine Does.of_poweredWith (fun _ ks e => e.mediaCmdComplete ks m k 0) rfl powered ?_
  rw [← s.eng.at_mport t] at found
  rw [← s.eng.at_ep_cmds t] at one
  rw [← s.eng.at_dirty t] at clean
  rw [← s.eng.at_rec t] at idle
  have owed (j : Fin 4) : ((s.eng.at t).mport j).owed = [] := by rw [Engine.at_mport, owed]
  set a := s.eng.at t
  set b := a.modMedia m (MediaPort.answered k)
  have waits (j : Fin 4) : (b.mport j).owed = [] := by
    by_cases here : m = j
    · rw [← here, Engine.modMedia_mport]
      exact owed m
    · rw [Engine.modMedia_mport_ne a fun h => here (Fin.ext h), owed j]
  have ends : b.cmdDone s.ks m d = (b.modEp fun p => { p with cmds := [] }).epOk c.q c.cid 0 [] := by
    rw [Engine.cmdDone, use]
    exact Engine.epHostDone_success one passed clean waits
  rw [a.mediaCmdComplete_success s.ks found (by rw [use]; exact nofun), ends]
  set f := b.modEp fun p => { p with cmds := [] }
  have post : f.canPost c.q := post
  obtain ⟨only, done⟩ := post.answers (f.changesOnly_refl [.ep]) c.cid 0 0 false 0 []
  have empty : (f.epOk c.q c.cid 0 []).ep.cmds = [] := f.ep.complete_cmds _
  rw [Engine.recPump_idle _ (by exact idle)]
  exact ⟨(((a.modMedia_only m _).andThen (b.modEp_only _)).andThen only).within, done, empty, rfl⟩

end

/-! Writes that are refused (R286). -/

section
variable {t q cid ns slba nlb : Nat} {x : EpFetched} {s : State}

/-- A write to a namespace that is only read. -/
theorem Engine.ioCheck_readOnly {e : Engine} (low : 1 ≤ ns) (high : ns ≤ 5) (readOnly : e.cmdAccess x ns = .readOnly)
    (blocks : List (Nat × Nat)) (go : Engine → Engine) : e.ioCheck x ns true blocks go =
      (e.bump .epWpReject epSrc).epStatus x.q x.cid 0 0x20 true 0 [] := by
  rw [Engine.ioCheck, if_neg (by simp; omega), if_neg (by rw [readOnly]; decide), if_pos (by simp [readOnly])]

theorem does_nvmeWrite_readOnly (hr : s.eng.sys.phase = .running) (fetched : (s.eng.at t).fetchedFor q cid x) (low : 1 ≤ ns)
    (high : ns ≤ 4) (readOnly : s.eng.cmdAccess x ns = .readOnly) : Does (.nvmeWrite t q cid ns slba nlb) t s fun a b =>
      Engine.changesOnly [.ep, .counters] a b ∧ b.completed q cid 0 0x20 true 0 [] ∧
      Engine.counted .epWpReject 0x0240 a b := by
  refine Does.of_fetched (Engine.nvmeWrite ns slba nlb) rfl hr fetched ?_
  rw [← s.eng.at_cmdAccess t] at readOnly
  set a := s.eng.at t
  obtain ⟨rfl, rfl⟩ := fetched.names
  have taken := a.taken_only x
  have post := fetched.post
  have readOnly : (a.taken x).cmdAccess x ns = .readOnly := readOnly
  set e := a.taken x
  rw [Engine.nvmeWrite, Engine.ioCheck_readOnly low (by omega) readOnly]
  have counts := e.bump_only .epWpReject epSrc
  have counted := e.counted_bump .epWpReject epSrc
  have post : (e.bump .epWpReject epSrc).canPost x.q := by rwa [Engine.canPost, Engine.bump_ep]
  set b := e.bump .epWpReject epSrc
  obtain ⟨only, done⟩ := post.answers (b.changesOnly_refl [.ep]) x.cid 0 0x20 true 0 []
  exact ⟨((taken.andThen counts).andThen only).within, done, Engine.counted_of_counters counted rfl rfl⟩

end

/-- Settles O42: reads of drives and of NS5, a write, a Flush, zeroes of NS5, what is passed to a drive and completes as it
does, and a write that is refused. -/
theorem namespaceCommandsComplete : Obligations.NamespaceCommandsComplete := by
  unfold Obligations.NamespaceCommandsComplete
  exact ⟨fun _ _ _ _ _ _ _ _ _ _ => does_nvmeRead_drive, fun _ _ _ _ _ _ _ _ _ _ _ => does_nvmeRead_fails,
    fun _ _ _ _ _ _ _ _ _ => does_nvmeRead_ns5, fun _ _ _ _ _ _ _ => does_nvmeWrite_ns5, fun _ _ _ _ _ => does_nvmeFlush,
    fun _ _ _ _ _ _ _ => does_nvmeWriteZeroes_ns5, fun _ _ _ _ _ _ _ _ _ _ _ => does_passed,
    fun _ _ _ _ _ _ => does_mediaCmdComplete_passed, fun _ _ _ _ _ _ _ _ => does_nvmeWrite_readOnly⟩

end Sys2Proof.Machine
end

section
/-! Layer messages (O26; R315, R317, R467): the idle side of a head, and what COMMIT makes due. -/

namespace Sys2Proof.Machine
set_option Elab.async false

/-! A head after a change of it. -/

theorem Engine.changesOnly.outs_eq {ps : List Part} {a b : Engine} (h : Engine.changesOnly ps a b)
    (out : decide (Part.outs ∈ ps) = false := by rfl) : b.outs = a.outs :=
  (Engine.changesOnly_get h .outs out).symm

/-- A head reads as the outputs stand. -/
theorem Engine.head_congr {a b : Engine} (h : a.outs = b.outs) (k : Nat) : a.head k = b.head k := by
  rw [Engine.head, Engine.head, h]

section
variable (e : Engine)

@[simp] theorem Engine.at_head (t k : Nat) : (e.at t).head k = e.head k := Engine.head_congr (e.at_outs t) k

theorem Engine.modHead_only (k : Nat) (f : Head → Head) : Engine.changesOnly [.outs] e (e.modHead k f) := e.setOuts_only _

theorem Engine.modHead_head {k : Nat} (h : k < 4) (f : Head → Head) : (e.modHead k f).head k = f (e.head k) :=
  vget_vmod_same e.outs.heads h f _

/-! A layer message that is taken, and its head. -/

theorem Engine.layerHead_configured {k : Fin 4} (en : e.cfg.hdEn k = true) : e.layerHead k = none := by
  rw [Engine.layerHead, if_neg (by omega), en]
  rfl

theorem Engine.layerHead_off {k : Fin 4} (off : e.cfg.hdEn k = false) :
    e.layerHead k = some (.refused, .notConfigured) := by
  rw [Engine.layerHead, if_neg (by omega), off]
  rfl

/-- A message that changes one head is answered OK and changes nothing else (R467). -/
theorem Engine.headRequest_effect (h : MsgHdr) (ty : Nat) (k : Fin 4) (f : Head → Head) :
    (((e.received h ty).modHead k f).ok h ty).replied h ty .ok .none [] ∧
      Engine.changesOnly [.outs, .ctl, .ep, .counters] e (((e.received h ty).modHead k f).ok h ty) ∧
      (((e.received h ty).modHead k f).ok h ty).outs = { e.outs with heads := vmod e.outs.heads k f } := by
  refine ⟨Engine.replied_ok _ _ _, ?_, by simp⟩
  exact (((e.received_only h ty).andThen (Engine.modHead_only _ _ _)).andThen (Engine.ok_only _ _ _)).within

/-- What COMMIT does to a head: the layer is due from now (R317). -/
theorem Head.commit_eq (q : Head) (k now : Nat) (commit : Bool) :
    q.commit k now commit = { q with due := if commit then vmod q.due k fun _ => some now else q.due } := by
  cases commit with
  | false => rfl
  | true => rfl

theorem Engine.l2Text_accepted (m : MsgHdr) {k : Fin 4} {box : Nat} {commit : Bool} {b : TextBox} (inRange : box < 64)
    (short : b.text.length < 256) (en : e.cfg.hdEn k = true) :
    e.l2Text m k box commit b =
      (e.modHead k fun q => ({ q with l2Idle := putAt box b q.l2Idle } : Head).commit 1 e.now commit).ok m 0x0209 := by
  rw [Engine.l2Text, if_neg (by simp; omega), e.layerHead_configured en]

theorem Engine.l2Text_refused (m : MsgHdr) {k : Fin 4} {box : Nat} {commit : Bool} {b : TextBox} (inRange : box < 64)
    (short : b.text.length < 256) (off : e.cfg.hdEn k = false) :
    e.l2Text m k box commit b = e.refuse m 0x0209 .refused .notConfigured := by
  rw [Engine.l2Text, if_neg (by simp; omega), e.layerHead_off off]

theorem Engine.l3Mark_accepted (m : MsgHdr) {k : Fin 4} {item : Nat} {commit : Bool} {x : Mark} (inRange : item < 256)
    (wide : 1 ≤ x.width) (narrow : x.width ≤ 8) (en : e.cfg.hdEn k = true) :
    e.l3Mark m k item commit x =
      (e.modHead k fun q => ({ q with l3Idle := putAt item x q.l3Idle } : Head).commit 2 e.now commit).ok m 0x020A := by
  rw [Engine.l3Mark, if_neg (by simp; omega), e.layerHead_configured en]

/-- The pixels of an L1_DRAW over a surface of a width. -/
def drawnOver (sw x y w ht : Nat) (pixels base : List Nat) : List Nat :=
  base.mapIdx fun i v =>
    let px := i % max 1 sw
    let py := i / max 1 sw
    if x ≤ px ∧ px < x + w ∧ y ≤ py ∧ py < y + ht then pixels.getD ((py - y) * w + (px - x)) 0 % 4294967296 else v

/-- Each pixel of the rectangle is written, cut to 32 bits, and no other. -/
theorem drawnOver_pixel {sw px : Nat} (x y w ht : Nat) (pixels base : List Nat) (py : Nat) (inLine : px < sw) :
    (drawnOver sw x y w ht pixels base)[py * sw + px]? = base[py * sw + px]?.map fun v =>
      if x ≤ px ∧ px < x + w ∧ y ≤ py ∧ py < y + ht then pixels.getD ((py - y) * w + (px - x)) 0 % 4294967296 else v := by
  have width : max 1 sw = sw := by omega
  have column : (py * sw + px) % sw = px := by rw [Nat.mul_add_mod_self_right, Nat.mod_eq_of_lt inLine]
  have line : (py * sw + px) / sw = py := by
    rw [Nat.mul_comm, Nat.mul_add_div (by omega), Nat.div_eq_of_lt inLine, Nat.add_zero]
  rw [drawnOver, List.getElem?_mapIdx, width, column, line]

/-- A head's idle surface with an L1_DRAW written over it, or with COPY over what the surface in use holds (R467). -/
def Head.drawn (q : Head) (sw : Nat) (copy : Bool) (x y w ht : Nat) (pixels : List Nat) : List Nat :=
  drawnOver sw x y w ht pixels (vget q.surfaces (if copy then q.surf else 1 - q.surf) [])

theorem Engine.l1Draw_accepted (m : MsgHdr) {k : Fin 4} {commit copy : Bool} {x y w ht : Nat} {pixels : List Nat}
    (en : e.cfg.hdEn k = true) (whole : pixels.length = w * ht) (inWidth : x + w ≤ e.cfg.l1W k)
    (inHeight : y + ht ≤ e.cfg.l1H k) :
    e.l1Draw m k commit copy x y w ht pixels =
      (e.modHead k fun q => ({ q with
        surfaces := vmod q.surfaces (1 - q.surf) fun _ => (e.head k).drawn (e.cfg.l1W k) copy x y w ht pixels } :
          Head).commit 0 e.now commit).ok m 0x0208 := by
  rw [Engine.l1Draw, e.layerHead_configured en]
  dsimp only
  rw [if_neg (not_not.2 whole), if_neg (by simp; omega)]
  rfl

/-- An L1_DRAW writes the idle surface; the surface in use is another one, and stays. -/
theorem Head.surfaces_drawn (q : Head) (next : List Nat) :
    vget (vmod q.surfaces (1 - q.surf) fun _ => next) (1 - q.surf) [] = next ∧
      vget (vmod q.surfaces (1 - q.surf) fun _ => next) q.surf [] = vget q.surfaces q.surf [] :=
  ⟨vget_vmod_same _ (by omega) _ _, vget_vmod_ne _ (by omega) _ _⟩

end

section
variable {t : Nat} {h : MsgHdr} {k : Fin 4} {commit : Bool} {s : State}

theorem does_l2Text {box g x y fg bg : Nat} {v o : Bool} {text : List Nat} (hg : s.takes t h 0x0209) (inRange : box < 64)
    (short : text.length < 256) (en : s.eng.cfg.hdEn k = true) :
    Does (.l2Text t h k box v o commit g x y fg bg text) t s fun a b => b.replied h 0x0209 .ok .none [] ∧
      Engine.changesOnly [.outs, .ctl, .ep, .counters] a b ∧
      b.outs = { a.outs with heads := vmod a.outs.heads k fun q => { q with
        l2Idle := putAt box ⟨v, o, g, x, y, fg, bg, text⟩ q.l2Idle
        due := if commit then vmod q.due 1 fun _ => some a.now else q.due } } := by
  refine Does.of_request h 0x0209 (·.l2Text h k box commit ⟨v, o, g, x, y, fg, bg, text⟩) rfl hg ?_
  rw [Engine.l2Text_accepted _ h inRange short (by simpa using en), Engine.received_now]
  simpa only [Head.commit_eq] using (s.eng.at t).headRequest_effect h 0x0209 k _

theorem does_l2Text_off {box g x y fg bg : Nat} {v o : Bool} {text : List Nat} (hg : s.takes t h 0x0209)
    (inRange : box < 64) (short : text.length < 256) (off : s.eng.cfg.hdEn k = false) :
    Does (.l2Text t h k box v o commit g x y fg bg text) t s fun a b =>
      b.replied h 0x0209 .refused .notConfigured [] ∧ Engine.changesOnly [.ctl, .ep, .counters] a b := by
  refine Does.of_request h 0x0209 (·.l2Text h k box commit ⟨v, o, g, x, y, fg, bg, text⟩) rfl hg ?_
  rw [Engine.l2Text_refused _ h inRange short (by simpa using off)]
  exact ⟨Engine.replied_refuse _ _ _ _ _, Engine.received_then_only h 0x0209 (Engine.refuse_only _ _ _ _ _)⟩

theorem does_l3Mark {item x0 y0 x1 y1 w colour : Nat} {v hf r : Bool} (hg : s.takes t h 0x020A) (inRange : item < 256)
    (wide : 1 ≤ w) (narrow : w ≤ 8) (en : s.eng.cfg.hdEn k = true) :
    Does (.l3Mark t h k v hf commit r item x0 y0 x1 y1 w colour) t s fun a b => b.replied h 0x020A .ok .none [] ∧
      Engine.changesOnly [.outs, .ctl, .ep, .counters] a b ∧
      b.outs = { a.outs with heads := vmod a.outs.heads k fun q => { q with
        l3Idle := putAt item ⟨v, hf, r, x0, y0, x1, y1, w, colour⟩ q.l3Idle
        due := if commit then vmod q.due 2 fun _ => some a.now else q.due } } := by
  refine Does.of_request h 0x020A (·.l3Mark h k item commit ⟨v, hf, r, x0, y0, x1, y1, w, colour⟩) rfl hg ?_
  rw [Engine.l3Mark_accepted _ h inRange wide narrow (by simpa using en), Engine.received_now]
  simpa only [Head.commit_eq] using (s.eng.at t).headRequest_effect h 0x020A k _

theorem does_l1Draw {copy : Bool} {x y w ht : Nat} {pixels : List Nat} (hg : s.takes t h 0x0208)
    (en : s.eng.cfg.hdEn k = true) (whole : pixels.length = w * ht) (inWidth : x + w ≤ s.eng.cfg.l1W k)
    (inHeight : y + ht ≤ s.eng.cfg.l1H k) :
    Does (.l1Draw t h k commit copy x y w ht pixels) t s fun a b => b.replied h 0x0208 .ok .none [] ∧
      Engine.changesOnly [.outs, .ctl, .ep, .counters] a b ∧
      b.outs = { a.outs with heads := vmod a.outs.heads k fun _ => b.head k } ∧
      b.head k = { a.head k with
        surfaces := (b.head k).surfaces
        due := if commit then vmod (a.head k).due 0 fun _ => some a.now else (a.head k).due } ∧
      vget (b.head k).surfaces (a.head k).surf [] = vget (a.head k).surfaces (a.head k).surf [] ∧
      ∀ px py, px < a.cfg.l1W k → py < a.cfg.l1H k →
        (vget (b.head k).surfaces (1 - (a.head k).surf) [])[py * a.cfg.l1W k + px]? =
          (vget (a.head k).surfaces (if copy then (a.head k).surf else 1 - (a.head k).surf) [])[py * a.cfg.l1W k + px]?.map
            fun v => if x ≤ px ∧ px < x + w ∧ y ≤ py ∧ py < y + ht then
              pixels.getD ((py - y) * w + (px - x)) 0 % 4294967296 else v := by
  refine Does.of_request h 0x0208 (·.l1Draw h k commit copy x y w ht pixels) rfl hg ?_
  rw [Engine.l1Draw_accepted _ h (by simpa using en) whole (by simpa using inWidth) (by simpa using inHeight),
    Engine.received_now, Engine.received_cfg, Engine.head_congr (Engine.received_outs _ _ _)]
  set a := s.eng.at t
  simp only [Head.commit_eq]
  obtain ⟨answered, only, outs⟩ := a.headRequest_effect h 0x0208 k fun q => { q with
    surfaces := vmod q.surfaces (1 - q.surf) fun _ => (a.head k).drawn (a.cfg.l1W k) copy x y w ht pixels
    due := if commit then vmod q.due 0 fun _ => some a.now else q.due }
  set b := ((a.received h 0x0208).modHead k _).ok h 0x0208
  have head : b.head k = { a.head k with
      surfaces := vmod (a.head k).surfaces (1 - (a.head k).surf) fun _ => (a.head k).drawn (a.cfg.l1W k) copy x y w ht pixels
      due := if commit then vmod (a.head k).due 0 fun _ => some a.now else (a.head k).due } := by
    rw [Engine.head, outs]
    exact vget_vmod_same a.outs.heads k.isLt _ _
  obtain ⟨idle, inUse⟩ := (a.head k).surfaces_drawn ((a.head k).drawn (a.cfg.l1W k) copy x y w ht pixels)
  refine ⟨answered, only, ?_, ?_, ?_, fun px py inLine _ => ?_⟩
  · rw [outs, head, vmod_congr a.outs.heads k Head.reset]
    rfl
  · rw [head]
  · rw [head, inUse]
  · rw [head, idle]
    exact drawnOver_pixel x y w ht pixels _ py inLine

end

/-- Settles O26: each layer message by its lemma, and the one that names a head that is not configured. -/
theorem layerChangesGoToIdleSide : Obligations.LayerChangesGoToIdleSide := by
  unfold Obligations.LayerChangesGoToIdleSide
  exact ⟨fun _ _ _ _ _ _ _ _ _ _ _ _ _ _ => does_l2Text, fun _ _ _ _ _ _ _ _ _ _ _ _ _ _ _ => does_l3Mark,
    fun _ _ _ _ _ _ _ _ _ _ _ => does_l1Draw, fun _ _ _ _ _ _ _ _ _ _ _ _ _ _ => does_l2Text_off⟩

end Sys2Proof.Machine
end

section
/-! Heads (O27; R310, R313, R317, R453): the output frame that begins at a boundary, pictures admitted, the slate, and layer changes
that miss their deadline. -/

namespace Sys2Proof.Machine
set_option Elab.async false

/-! The lanes that a head restarts (R46). -/

/-- Units changed one after another, where a change made twice is the change. -/
theorem vget_foldl_vmod_again {α : Type} {n : Nat} (f : α → α) (again : ∀ x, f (f x) = f x) (d : α) {i : Nat} (hi : i < n)
    (ls : List Nat) (v : Vector α n) :
    vget (ls.foldl (fun v k => vmod v k f) v) i d = if i ∈ ls then f (vget v i d) else vget v i d := by
  induction ls generalizing v with
  | nil => simp
  | cons k r ih =>
    rw [List.foldl_cons, ih]
    by_cases hk : k = i
    · subst hk
      simp [vget_vmod_same v hi, again]
    · simp [vget_vmod_ne v hk, Ne.symm hk]

/-- A lane that its head's restart boundary releases, unless Class V holds it. -/
def Lane.released (q : Lane) : Lane := if q.classVIdle then q else { q with txHeld := false }

theorem Lane.released_released (q : Lane) : q.released.released = q.released := by
  cases held : q.classVIdle with
  | true => simp [Lane.released, held]
  | false => simp [Lane.released, held]

theorem Lane.released_txHeld {q : Lane} (free : q.released.classVIdle = false) : q.released.txHeld = false := by
  cases held : q.classVIdle with
  | true => simp [Lane.released, held] at free
  | false => simp [Lane.released, held]

section
variable (e : Engine)

theorem Engine.headTransmits_only (hs : List Nat) : Engine.changesOnly [.lanes] e (e.headTransmits hs) := e.setLanes_only _

theorem Engine.headTransmits_lane (hs : List Nat) (l : Fin 62) :
    (e.headTransmits hs).lane l = if l.val ∈ e.cfg.headLanes hs then (e.lane l).released else e.lane l :=
  vget_foldl_vmod_again Lane.released Lane.released_released _ l.isLt _ _

/-! The frame that ends. -/

/-- The end of a frame leaves its head's pictures, layers and changes as they are (R311, R318). -/
theorem Engine.endFrame_effect (h : Fin 4) :
    Engine.changesOnly [.outs, .counters, .log] e (e.endFrame h) ∧
      ∃ raster torn run lost damage, (e.endFrame h).head h = { e.head h with
        raster := raster, torn := torn, lateRun := run, l1Lost := lost, damage := damage } := by
  unfold Engine.endFrame
  split
  · exact ⟨Engine.changesOnly_refl _ e, _, _, _, _, _, rfl⟩
  · extract_lets c bad locked e1 e2 e3 q
    have counts : Engine.changesOnly [.counters] e e1 := e.changesOnly_ite _ (e.bump_only _ _)
    have logs : Engine.changesOnly [.log] e1 e2 := e1.changesOnly_ite _ (e1.emit_only _ _ _)
    have late : Engine.changesOnly [.counters] e2 e3 := by
      unfold e3
      split
      · exact Engine.changesOnly_refl _ e2
      · exact e2.bump_only _ _
    have only := (counts.andThen logs).andThen late
    have head : e3.head h = q := Engine.head_congr only.outs_eq h
    rw [← head]
    exact ⟨(only.andThen (e3.modHead_only h _)).within, _, _, _, _, _, e3.modHead_head h.isLt _⟩

end

/-! The changes of layers that a boundary takes (R317). -/

/-- A layer's change is due at least 1 ms before a boundary, and has not missed it. -/
def Head.ripe (q : Head) (b k : Nat) : Bool :=
  match vget q.due k none with
  | some t => !q.missed && decide (t + ms 1 ≤ b)
  | none => false

/-- A layer's change that waits after the boundary. -/
def Head.dueAfter (q : Head) (b k : Nat) : Option Nat := if q.ripe b k then none else vget q.due k none

theorem Head.takeLayers_eq (q : Head) (b : Nat) :
    q.takeLayers b = { q with
      surf := if q.ripe b 0 then 1 - q.surf else q.surf
      l2Shown := if q.ripe b 1 then q.l2Idle else q.l2Shown
      l3Shown := if q.ripe b 2 then q.l3Idle else q.l3Shown
      due := ((q.due.set 0 (q.dueAfter b 0)).set 1 (q.dueAfter b 1)).set 2 (q.dueAfter b 2)
      missed := false } := by
  unfold Head.takeLayers Head.dueAfter
  extract_lets is q1 q2 q3
  have ripe : q.ripe b = is := rfl
  rw [ripe]
  unfold q3 q2 q1
  clear_value is
  split_ifs
  all_goals rfl

/-- An L2 change is taken at a boundary at least 1 ms after its receipt, and before that it goes on waiting (R317). -/
theorem Head.takeLayers_l2 {q : Head} {m : Nat} (b : Nat) (due : vget q.due 1 none = some m) (inTime : q.missed = false) :
    (m + ms 1 ≤ b → (q.takeLayers b).l2Shown = q.l2Idle ∧ vget (q.takeLayers b).due 1 none = none) ∧
      (b < m + ms 1 → (q.takeLayers b).l2Shown = q.l2Shown ∧ vget (q.takeLayers b).due 1 none = some m) := by
  have ripe : q.ripe b 1 = decide (m + ms 1 ≤ b) := by simp [Head.ripe, due, inTime]
  have after : vget (q.takeLayers b).due 1 none = q.dueAfter b 1 := by rw [Head.takeLayers_eq]; simp [vget]
  have shown : (q.takeLayers b).l2Shown = if q.ripe b 1 then q.l2Idle else q.l2Shown := by rw [Head.takeLayers_eq]
  rw [after, shown, Head.dueAfter, ripe, due]
  refine ⟨fun early => ?_, fun late => ?_⟩
  · simp [early]
  · simp [Nat.not_le.2 late]

/-! The frame that begins. -/

/-- What a head becomes as its next output frame begins at an instant: it shows what the head then holds, and the slate with
nothing in the store (R310, R313). -/
structure Head.Begun (q : Head) (now : Nat) (b : Head) : Prop where
  state : b.state = q.state
  next : b.nextFrame = q.nextFrame + 1
  frame : ∃ f, b.cur = some f ∧ f.number = q.nextFrame ∧ f.at_ = now ∧ f.slate = b.slateOn ∧ f.pic = b.store ∧
    f.l2 = b.l2Shown ∧ f.l3 = b.l3Shown ∧ f.l1 = vget q.surfaces b.surf []
  empty : q.store = none → q.incoming = [] → b.slateOn = true ∧ b.l0Fetch = false
  l2 : b.l2Shown = q.l2Shown
  due : b.due = q.due

section
variable (e : Engine)

theorem Engine.startFrame_only (h : Fin 4) : Engine.changesOnly [.outs, .counters, .log] e (e.startFrame h) :=
  (((e.endFrame_effect h).1.andThen (Engine.modHead_only _ _ _)).andThen (Engine.modHead_only _ _ _)).within

theorem Engine.startFrame_begun (h : Fin 4) :
    (((e.endFrame h).head h).takeLayers e.now).Begun e.now ((e.startFrame h).head h) := by
  have now : (e.endFrame h).now = e.now := (e.endFrame_effect h).1.now_eq
  have head : ((e.endFrame h).modHead h fun q => q.takeLayers (e.endFrame h).now).head h =
      ((e.endFrame h).head h).takeLayers e.now := by rw [Engine.modHead_head _ h.isLt, now]
  unfold Engine.startFrame
  dsimp only
  rw [Engine.modHead_head _ h.isLt, head, Engine.modHead_now, now]
  refine ⟨rfl, rfl, ⟨_, rfl, rfl, rfl, rfl, rfl, rfl, rfl, rfl⟩, fun none empty => ?_, rfl, rfl⟩
  simp [none, empty, Cfg.promote]

end

/-! What leaves with a frame changes no head (R322, R323, R330, R332). -/

section
variable (e : Engine)

theorem Engine.netSends_head (k : Nat) (ts : Engine → Nat) (payloads : List (List Byte)) (anc : List (List Nat)) (ns : List Nat) :
    Engine.changesOnly [.outs] e (ns.foldl (fun e n => e.netSend n (ts e) payloads anc) e) ∧
      (ns.foldl (fun e n => e.netSend n (ts e) payloads anc) e).head k = e.head k :=
  ⟨Engine.changesOnly_foldl _ (fun e _ => e.setOuts_only _) _ e,
    Engine.foldl_keeps (·.head k) (fun e n => e.netSend n (ts e) payloads anc) (fun _ _ => rfl) ns e⟩

theorem Engine.headSends_head (h k : Nat) (ended : Option OutFrame) :
    Engine.changesOnly [.outs] e (e.headSends h ended) ∧ (e.headSends h ended).head k = e.head k := by
  unfold Engine.headSends
  extract_lets e1 anc
  have first : Engine.changesOnly [.outs] e e1 ∧ e1.head k = e.head k := by
    unfold e1
    split
    · next f _ _ => exact e.netSends_head k (fun e => rtp90 (e.dtbAt f.at_)) _ _ _
    · exact ⟨Engine.changesOnly_refl _ e, rfl⟩
  split
  · exact first
  · obtain ⟨only, head⟩ := e1.netSends_head k (fun e => rtp90 e.dtb) (payload40 anc) anc (e1.sending 2 h)
    exact ⟨Engine.changesOnly_trans first.1 only, head.trans first.2⟩

theorem Engine.sdiSends_only (h : Nat) : Engine.changesOnly [.outs] e (e.sdiSends h) := e.setOuts_only _

@[simp] theorem Engine.sdiSends_head (h k : Nat) : (e.sdiSends h).head k = e.head k := rfl

/-- A head that drives itself alone, at its boundary. -/
theorem Engine.headFrameBoundary_alone {h : Fin 4} (lead : e.cfg.hdLead h = h.val) (alone : e.cfg.hdSet h = [h.val])
    (runs : (e.head h).state = 1) :
    e.headFrameBoundary h =
      (((e.headTransmits [h.val]).startFrame h).headSends h ((e.headTransmits [h.val]).head h).cur).sdiSends h := by
  rw [Engine.headFrameBoundary, if_neg (by simp [lead, runs]), alone]
  rfl

end

section
variable {t : Nat} {h : Fin 4} {s : State}

theorem does_headFrameBoundary (hr : s.eng.sys.phase = .running) (lead : s.eng.cfg.hdLead h = h.val)
    (alone : s.eng.cfg.hdSet h = [h.val]) (runs : (s.eng.head h).state = 1) :
    Does (.headFrameBoundary t h) t s fun a b =>
      Engine.changesOnly [.outs, .lanes, .counters, .log] a b ∧ (b.head h).state = 1 ∧
      (∀ l : Fin 62, l.val ∈ a.cfg.headLanes [h.val] → (b.lane l).classVIdle = false → (b.lane l).txHeld = false) ∧
      (∀ l : Fin 62, l.val ∉ a.cfg.headLanes [h.val] → b.lane l = a.lane l) ∧
      (b.head h).nextFrame = (a.head h).nextFrame + 1 ∧
      (∃ f, (b.head h).cur = some f ∧ f.number = (a.head h).nextFrame ∧ f.at_ = a.now ∧ f.slate = (b.head h).slateOn ∧
        f.pic = (b.head h).store ∧ f.l2 = (b.head h).l2Shown ∧ f.l3 = (b.head h).l3Shown ∧
        f.l1 = vget (a.head h).surfaces (b.head h).surf []) ∧
      ((a.head h).store = none → (a.head h).incoming = [] → (b.head h).slateOn = true ∧ (b.head h).l0Fetch = false) ∧
      (∀ m, vget (a.head h).due 1 none = some m → (a.head h).missed = false →
        (m + ms 1 ≤ a.now → (b.head h).l2Shown = (a.head h).l2Idle ∧ vget (b.head h).due 1 none = none) ∧
        (a.now < m + ms 1 → (b.head h).l2Shown = (a.head h).l2Shown ∧ vget (b.head h).due 1 none = some m)) := by
  refine Does.of_live (·.headFrameBoundary h) rfl hr ?_
  rw [Engine.headFrameBoundary_alone _ (by simpa using lead) (by simpa using alone) (by simpa using runs)]
  have runs : ((s.eng.at t).head h).state = 1 := by simpa using runs
  set a := s.eng.at t
  set e := a.headTransmits [h.val]
  have restarts : Engine.changesOnly [.lanes] a e := a.headTransmits_only _
  have starts := e.startFrame_only h
  obtain ⟨sends, same⟩ := (e.startFrame h).headSends_head h h (e.head h).cur
  set b := (e.startFrame h).headSends h (e.head h).cur
  have only : Engine.changesOnly [.outs, .counters, .log] e (b.sdiSends h) :=
    ((starts.andThen sends).andThen (b.sdiSends_only h)).within
  have lane (l : Fin 62) : (b.sdiSends h).lane l = _ :=
    (Engine.lane_congr only.lanes_eq l).trans (a.headTransmits_lane [h.val] l)
  have begun := e.startFrame_begun h
  obtain ⟨-, raster, torn, run, lost, damage, ended⟩ := e.endFrame_effect h
  rw [ended, Engine.head_congr restarts.outs_eq, restarts.now_eq] at begun
  rw [Engine.sdiSends_head, same]
  refine ⟨(restarts.andThen only).within, ?_, fun l carries => ?_, fun l other => ?_, ?_, ?_, ?_, fun m due inTime => ?_⟩
  · rw [begun.state, Head.takeLayers_eq]
    exact runs
  · rw [lane, if_pos carries]
    exact Lane.released_txHeld
  · rw [lane, if_neg other]
  · rw [begun.next, Head.takeLayers_eq]
  · have frame := begun.frame
    rw [Head.takeLayers_eq] at frame
    exact frame
  · have empty := begun.empty
    rw [Head.takeLayers_eq] at empty
    exact empty
  · rw [begun.l2, begun.due]
    exact Head.takeLayers_l2 a.now due inTime

end

/-! HEAD_PICTURE_START of a branch's picture at a LOCKED head (R312). -/

section
variable (e : Engine)

/-- A branch's picture, as a LOCKED head's store takes it. -/
def Engine.branchPic (h : Nat) (pic : SourcePic) : StorePic :=
  { cfn := pic.cfn, flags := pic.flags, width := pic.width, height := pic.height, lo := (e.writeBounds h pic).1
    hi := (e.writeBounds h pic).2, late := pic.lateLines.filter fun r => r.1 ≤ r.2 ∧ r.1 < e.cfg.actH h
    record := pic.cfn, content := none }

/-- The picture of a branch is admitted, and nothing is counted: its size is the store's. -/
theorem Engine.headPictureStart_locked {h : Fin 4} {pic : SourcePic} (lead : e.cfg.hdLead h = h.val)
    (alone : e.cfg.hdSet h = [h.val]) (runs : (e.head h).state = 1) (branch : e.cfg.hdSrc h < 6)
    (locked : e.cfg.hdLocked h = true) :
    e.headPictureStart h pic = e.modHead h fun q => { q with
      incoming := q.incoming ++ [e.branchPic h pic], lastAdmit := e.now, sizeRun := false } := by
  have noCrc : e.sdiCrc h pic = e := by
    rw [Engine.sdiCrc, if_neg (by omega)]
  have gives : e.noPicture h = false := by
    simp only [Engine.noPicture, Bool.or_eq_false_iff, Bool.and_eq_false_iff, decide_eq_false_iff_not]
    omega
  have notAux : e.cfg.hdSrc h ≠ 6 := by omega
  have noSize : ¬ 6 ≤ e.cfg.hdSrc h := by omega
  rw [Engine.headPictureStart, lead, alone, noCrc, List.foldl_cons, List.foldl_nil]
  simp [Engine.offerPicture, runs, gives, locked, notAux, noSize, Engine.branchPic]

end

section
variable {t : Nat} {h : Fin 4} {s : State}

theorem does_headPictureStart {pic : SourcePic} (hr : s.eng.sys.phase = .running) (lead : s.eng.cfg.hdLead h = h.val)
    (alone : s.eng.cfg.hdSet h = [h.val]) (runs : (s.eng.head h).state = 1) (branch : s.eng.cfg.hdSrc h < 6)
    (locked : s.eng.cfg.hdLocked h = true) :
    Does (.headPictureStart t h pic) t s fun a b => Engine.changesOnly [.outs] a b ∧ (b.head h).lastAdmit = a.now ∧
      ∃ x, (b.head h).incoming = (a.head h).incoming ++ [x] ∧ x.cfn = pic.cfn ∧ x.content = none ∧
        ∀ r, r ∈ x.late ↔ r ∈ pic.lateLines ∧ r.1 ≤ r.2 ∧ r.1 < a.cfg.actH h := by
  refine Does.of_live (·.headPictureStart h pic) rfl hr ?_
  rw [Engine.headPictureStart_locked _ (by simpa using lead) (by simpa using alone) (by simpa using runs)
    (by simpa using branch) (by simpa using locked), Engine.modHead_head _ h.isLt]
  exact ⟨Engine.modHead_only _ _ _, rfl, _, rfl, rfl, rfl, fun r => by simp [Engine.branchPic]⟩

/-! HEAD_SLATE (R313). -/

theorem does_headSlate (hr : s.eng.sys.phase = .running) (runs : (s.eng.head h).state = 1)
    (shows : (s.eng.head h).slate = false) (due : (s.eng.head h).lastAdmit + secs 1 ≤ (s.eng.at t).now) :
    Does (.headSlate t h) t s fun a b => Engine.changesOnly [.outs, .log] a b ∧ (b.head h).slate = true ∧
      Engine.newEvents a b = [(0x02A0 + h.val, .headSlate, [])] := by
  refine Does.of_live (·.headSlate h) rfl hr ?_
  have old : ¬ (s.eng.at t).now < (s.eng.head h).lastAdmit + secs 1 := Nat.not_lt.2 due
  rw [Engine.headSlate, if_neg (by simp [runs, shows, old])]
  set a := s.eng.at t
  refine ⟨((a.modHead_only _ _).andThen (Engine.emit_only _ _ _ _)).within, ?_, Engine.newEvents_emit _ _ _ _ _ rfl⟩
  rw [Engine.head_congr (Engine.emit_outs _ _ _ _), Engine.modHead_head _ h.isLt]

theorem does_headSlate_shown (hr : s.eng.sys.phase = .running) (shows : (s.eng.head h).slate = true) :
    Does (.headSlate t h) t s fun a b => b = a := by
  refine Does.of_live (·.headSlate h) rfl hr ?_
  rw [Engine.headSlate, if_pos (by simp [shows])]

/-! LAYER_CHANGE_DEADLINE (R317, R453). -/

theorem does_layerChangeDeadline {m : Nat} (hr : s.eng.sys.phase = .running) (runs : (s.eng.head h).state = 1)
    (due : vget (s.eng.head h).due 1 none = some m) (since : m ≤ (s.eng.at t).now) :
    Does (.layerChangeDeadline t h false) t s fun a b =>
      Engine.changesOnly [.outs, .cluster, .counters, .log] a b ∧ (b.head h).missed = true ∧
      Engine.newEvents a b =
        [(0x02A0 + h.val, .fwOverrun, le 1 6 ++ le 1 2 ++ le 4 (a.head h).nextFrame ++ le 1 h)] := by
  refine Does.of_live (·.layerChangeDeadline h false) rfl hr ?_
  unfold Engine.layerChangeDeadline
  extract_lets q isDue
  have waits : isDue = true := by
    refine List.any_eq_true.2 ⟨1, by decide, ?_⟩
    simp [q, due, since]
  rw [waits, if_neg (by simp [q, runs])]
  set a := s.eng.at t
  have missed := a.fwOverrun_only (headSrc h) 6 2 (a.head h).nextFrame h
  refine ⟨(missed.andThen (Engine.modHead_only _ _ _)).within, ?_, ?_⟩
  · rw [Engine.modHead_head _ h.isLt]
  · rw [Engine.newEvents_of_log _ (Engine.modHead_log _ _ _)]
    exact a.fwOverrun_events rfl _ _ _ _ _

end

/-- Settles O27: a boundary, a picture admitted, the slate set and set already, and a missed layer change, by their lemmas. -/
theorem headsFollowTheirFrames : Obligations.HeadsFollowTheirFrames := by
  unfold Obligations.HeadsFollowTheirFrames
  exact ⟨fun _ _ _ => does_headFrameBoundary, fun _ _ _ _ => does_headPictureStart, fun _ _ _ => does_headSlate,
    fun _ _ _ => does_headSlate_shown, fun _ _ _ _ => does_layerChangeDeadline⟩

end Sys2Proof.Machine
end

section
/-! SDI inputs and DisplayPort outputs (O28; R51, R58, R324, R326): lock, format, loss, hot plug and retraining. -/

namespace Sys2Proof.Machine
set_option Elab.async false

section
variable (e : Engine)

@[simp] theorem Engine.at_unitHeld (t unit ordinal : Nat) : (e.at t).unitHeld unit ordinal = e.unitHeld unit ordinal := by
  rw [Engine.unitHeld, Engine.at_sys, Engine.unitHeld]

/-! SDI inputs (R324). -/

theorem Engine.modSdiIn_only (i : Nat) (f : SdiIn → SdiIn) : Engine.changesOnly [.outs] e (e.modSdiIn i f) := e.setOuts_only _

/-- An input changes and one event says so. -/
theorem Engine.sdiInChange_effect (i : Nat) (f : SdiIn → SdiIn) (ev : Ev) :
    Engine.changesOnly [.outs, .log] e ((e.modSdiIn i f).emit (sdiInSrc i) ev []) ∧
      ((e.modSdiIn i f).emit (sdiInSrc i) ev []).outs = { e.outs with sdiIn := vmod e.outs.sdiIn i f } ∧
      Engine.newEvents e ((e.modSdiIn i f).emit (sdiInSrc i) ev []) = [(sdiInSrc i, ev, [])] :=
  ⟨((e.modSdiIn_only i f).andThen (Engine.emit_only _ _ _ _)).within, rfl, Engine.newEvents_emit _ _ _ _ _ rfl⟩

/-- An input with lanes that stand in no unit that is held and in no test. -/
def Engine.sdiInWorks (i : Nat) : Prop :=
  e.cfg.lnRate (52 + i) ≠ 0 ∧ e.unitHeld 0x0800 20 = false ∧ (e.lane (52 + i)).test = false

theorem Engine.at_sdiInWorks (t i : Nat) : (e.at t).sdiInWorks i ↔ e.sdiInWorks i := by simp [Engine.sdiInWorks]

variable {e}

theorem Engine.sdiInLock_taken {i rate : Nat} {wide : Bool} (works : e.sdiInWorks i) (low : 6 ≤ rate) (high : rate ≤ 10) :
    e.sdiInLock i rate wide true = (e.modSdiIn i fun _ => ⟨1, rate, wide⟩).emit (sdiInSrc i) .sdiInLock [] := by
  obtain ⟨lanes, free, normal⟩ := works
  have normal : (vget e.lanes (52 + i) Lane.reset).test = false := normal
  rw [Engine.sdiInLock, if_neg (by simp [lanes, free, normal]), if_pos (by simp [low, high]), Nat.mod_eq_of_lt (by omega)]

theorem Engine.sdiInLock_unsupported {i rate : Nat} {wide taken : Bool} (works : e.sdiInWorks i) (code : rate < 16)
    (other : taken = false ∨ rate < 6 ∨ 10 < rate) :
    e.sdiInLock i rate wide taken =
      ((e.modSdiIn i fun _ => ⟨2, rate, wide⟩).emit (sdiInSrc i) .sdiInLock []).emit (sdiInSrc i) .sdiInFormat [] := by
  obtain ⟨lanes, free, normal⟩ := works
  have normal : (vget e.lanes (52 + i) Lane.reset).test = false := normal
  have outside : ¬ (taken && decide (6 ≤ rate ∧ rate ≤ 10)) = true := by
    rw [Bool.and_eq_true, decide_eq_true_eq]
    rintro ⟨rfl, low, high⟩
    obtain none | slow | fast := other
    · exact Bool.noConfusion none
    · omega
    · omega
  rw [Engine.sdiInLock, if_neg (by simp [lanes, free, normal]), if_neg outside, Nat.mod_eq_of_lt code]

theorem Engine.sdiInFormat_locked {i : Nat} (locked : (vget e.outs.sdiIn i ⟨0, 0, false⟩).state = 1) :
    e.sdiInFormat i = (e.modSdiIn i fun q => { q with state := 2 }).emit (sdiInSrc i) .sdiInFormat [] := by
  rw [Engine.sdiInFormat, if_neg (not_not.2 locked)]

/-- REFIN that the root does not use stops, and nothing is lost with it (R390). -/
theorem Engine.clkStop_refin (unused : e.clk.refin.eligible = false) :
    e.clkStop .refin = e.modClk fun k => { k with refin := { k.refin with stopped := true, good := 0 } } := by
  rw [Engine.clkStop, if_neg (by decide), Engine.clkLose, if_pos]
  · rfl
  · simpa [Engine.modClk, Clk.setMon, Clk.mon] using unused

/-- A lane of an SDI input whose signal is gone. -/
def Lane.signalLost (q : Lane) : Lane :=
  { q with cdrLock := false, pcsLock := false, linkUp := false, eqDone := false, rateNow := 0, step := min q.step 2 }

/-- An SDI input without its signal, and its lane; the lane's event stands when it had the clock (R51). -/
def Engine.sdiSignalLost (i : Nat) (e : Engine) : Engine :=
  let lost := ((e.modSdiIn i fun _ => ⟨0, 0, false⟩).emit (sdiInSrc i) .sdiInLoss []).modLane (52 + i) Lane.signalLost
  if (e.lane (52 + i)).cdrLock then lost.emit (laneSrc (52 + i)) .laneCdrLoss [] else lost

/-- Nothing is aligned to REFIN while the section says so (R374). -/
theorem Engine.alignLost_apart (apart : e.cfg.b 0x0080 1 27 = false) : e.alignLost = e := by
  rw [Engine.alignLost, if_pos (by simp [apart])]

variable (e) in
/-- The clock that an SI lane recovers is lost, and SI0's is REFIN (R51). -/
theorem Engine.cdrLost_input (i : Fin 2) :
    e.cdrLost (52 + i) =
      if i = 0 then (e.emit (laneSrc (52 + i)) .laneCdrLoss []).clkStop .refin
      else e.emit (laneSrc (52 + i)) .laneCdrLoss [] := by
  have first : 52 + i.val = 52 ↔ i = 0 := by rw [Fin.ext_iff, Fin.val_zero]; omega
  rw [Engine.cdrLost, if_neg (by omega)]
  simp only [first]

theorem Engine.sdiInLoss_present {i : Fin 2} (present : (vget e.outs.sdiIn i ⟨0, 0, false⟩).state ≠ 0)
    (apart : e.cfg.b 0x0080 1 27 = false) :
    e.sdiInLoss i = if i = 0 then (e.sdiSignalLost i).clkStop .refin else e.sdiSignalLost i := by
  have off : e.sdiInOff i = (e.modSdiIn i fun _ => ⟨0, 0, false⟩).emit (sdiInSrc i) .sdiInLoss [] := by
    rw [Engine.sdiInOff, if_neg present]
    dsimp only
    rw [Engine.alignLost_apart (by simpa using apart), ite_self]
  have lane : (e.sdiInOff i).lane (52 + i) = e.lane (52 + i) := by rw [off]; rfl
  rw [Engine.sdiInLoss, if_neg present]
  dsimp only
  rw [lane, off, Engine.cdrLost_input]
  unfold Engine.sdiSignalLost
  simp only [Fin.ext_iff]
  by_cases had : (e.lane (52 + i)).cdrLock = true
  · rw [if_pos had, if_pos had]
    rfl
  · rw [if_neg had, if_neg had]
    rfl

theorem Engine.sdiSignalLost_effect (i : Fin 2) :
    Engine.changesOnly [.outs, .lanes, .log] e (e.sdiSignalLost i) ∧
      (e.sdiSignalLost i).outs = { e.outs with sdiIn := vmod e.outs.sdiIn i fun _ => ⟨0, 0, false⟩ } ∧
      (e.sdiSignalLost i).lane (52 + i) = (e.lane (52 + i)).signalLost ∧
      Engine.newEvents e (e.sdiSignalLost i) = (sdiInSrc i, .sdiInLoss, []) ::
        if (e.lane (52 + i)).cdrLock then [(laneSrc (52 + i), .laneCdrLoss, [])] else [] := by
  obtain ⟨only, outs, events⟩ := e.sdiInChange_effect i (fun _ => ⟨0, 0, false⟩) .sdiInLoss
  unfold Engine.sdiSignalLost
  extract_lets lost
  have lane : lost.lane (52 + i) = (e.lane (52 + i)).signalLost := Engine.modLane_lane _ (by omega) _
  have changes := only.andThen (Engine.modLane_only _ (52 + i) Lane.signalLost)
  split
  · refine ⟨(changes.andThen (lost.emit_only _ _ _)).within, outs, lane, ?_⟩
    rw [Engine.newEvents_emit_next _ _ _ (by simp [lost, Engine.emit_held]), Engine.newEvents_of_log _ (Engine.modLane_log _ _ _),
      events]
    rfl
  · exact ⟨changes.within, outs, lane, (Engine.newEvents_of_log _ (Engine.modLane_log _ _ _)).trans events⟩

end

section
variable {t : Nat} {i : Fin 2} {s : State}

theorem does_sdiInLock {rate : Nat} {wide : Bool} (hr : s.eng.sys.phase = .running) (works : s.eng.sdiInWorks i)
    (low : 6 ≤ rate) (high : rate ≤ 10) :
    Does (.sdiInLock t i rate wide true) t s fun a b => Engine.changesOnly [.outs, .log] a b ∧
      b.outs = { a.outs with sdiIn := vmod a.outs.sdiIn i fun _ => ⟨1, rate, wide⟩ } ∧
      Engine.newEvents a b = [(0x02AC + i.val, .sdiInLock, [])] := by
  refine Does.of_live (·.sdiInLock i rate wide true) rfl hr ?_
  rw [Engine.sdiInLock_taken ((s.eng.at_sdiInWorks t i).2 works) low high]
  exact (s.eng.at t).sdiInChange_effect i _ _

theorem does_sdiInLock_unsupported {rate : Nat} {wide taken : Bool} (hr : s.eng.sys.phase = .running)
    (works : s.eng.sdiInWorks i) (code : rate < 16) (other : taken = false ∨ rate < 6 ∨ 10 < rate) :
    Does (.sdiInLock t i rate wide taken) t s fun a b => Engine.changesOnly [.outs, .log] a b ∧
      b.outs = { a.outs with sdiIn := vmod a.outs.sdiIn i fun _ => ⟨2, rate, wide⟩ } ∧
      Engine.newEvents a b = [(0x02AC + i.val, .sdiInLock, []), (0x02AC + i.val, .sdiInFormat, [])] := by
  refine Does.of_live (·.sdiInLock i rate wide taken) rfl hr ?_
  rw [Engine.sdiInLock_unsupported ((s.eng.at_sdiInWorks t i).2 works) code other]
  obtain ⟨only, outs, events⟩ := (s.eng.at t).sdiInChange_effect i (fun _ => ⟨2, rate, wide⟩) .sdiInLock
  refine ⟨(only.andThen (Engine.emit_only _ _ _ _)).within, outs, ?_⟩
  rw [Engine.newEvents_emit_next _ _ _ (by simp [Engine.emit_held]), events]
  rfl

theorem does_sdiInFormat {q : SdiIn} (hr : s.eng.sys.phase = .running) (input : vget s.eng.outs.sdiIn i ⟨0, 0, false⟩ = q)
    (locked : q.state = 1) :
    Does (.sdiInFormat t i) t s fun a b => Engine.changesOnly [.outs, .log] a b ∧
      b.outs = { a.outs with sdiIn := vmod a.outs.sdiIn i fun _ => { q with state := 2 } } ∧
      Engine.newEvents a b = [(0x02AC + i.val, .sdiInFormat, [])] := by
  refine Does.of_live (·.sdiInFormat i) rfl hr ?_
  rw [← s.eng.at_outs t] at input
  subst input
  rw [Engine.sdiInFormat_locked locked]
  obtain ⟨only, outs, events⟩ := (s.eng.at t).sdiInChange_effect i (fun q => { q with state := 2 }) .sdiInFormat
  refine ⟨only, ?_, events⟩
  rw [outs, vmod_congr (s.eng.at t).outs.sdiIn i ⟨0, 0, false⟩]
  rfl

theorem does_sdiInLoss {q : SdiIn} (hr : s.eng.sys.phase = .running) (input : vget s.eng.outs.sdiIn i ⟨0, 0, false⟩ = q)
    (present : q.state ≠ 0) (apart : s.eng.cfg.b 0x0080 1 27 = false) (unused : s.eng.clk.refin.eligible = false) :
    Does (.sdiInLoss t i) t s fun a b => Engine.changesOnly [.outs, .lanes, .clk, .log] a b ∧
      b.outs = { a.outs with sdiIn := vmod a.outs.sdiIn i fun _ => ⟨0, 0, false⟩ } ∧
      (b.lane (52 + i.val)).cdrLock = false ∧ (b.lane (52 + i.val)).linkUp = false ∧
      b.clk = (if i = 0 then { a.clk with refin := { a.clk.refin with stopped := true, good := 0 } } else a.clk) ∧
      Engine.newEvents a b = (0x02AC + i.val, .sdiInLoss, []) ::
        if (a.lane (52 + i.val)).cdrLock then [(0x00B4 + i.val, .laneCdrLoss, [])] else [] := by
  refine Does.of_live (·.sdiInLoss i) rfl hr ?_
  subst input
  rw [← s.eng.at_outs t] at present
  rw [← s.eng.at_cfg t] at apart
  rw [← s.eng.at_clk t] at unused
  rw [Engine.sdiInLoss_present present apart]
  obtain ⟨only, outs, lane, events⟩ := (s.eng.at t).sdiSignalLost_effect i
  have number : laneSrc (52 + i.val) = 0x00B4 + i.val := by rw [laneSrc]; omega
  rw [number] at events
  have clk := only.clk_eq
  split
  · rw [Engine.clkStop_refin (clk ▸ unused)]
    refine ⟨(only.andThen (Engine.modClk_only _ _)).within, outs, ?_, ?_, ?_, events⟩
    · exact congrArg Lane.cdrLock lane
    · exact congrArg Lane.linkUp lane
    · rw [Engine.modClk_clk, clk]
  · exact ⟨only.within, outs, congrArg Lane.cdrLock lane, congrArg Lane.linkUp lane, clk, events⟩

end

/-! DisplayPort outputs (R58, R326). -/

section
variable (e : Engine)

theorem Engine.modDp_only (d : Nat) (f : DpOut → DpOut) : Engine.changesOnly [.outs] e (e.modDp d f) := e.setOuts_only _

/-- Lanes and rate are chosen from the configuration. -/
theorem Engine.dpPick_congr {a b : Engine} (cfg : a.cfg = b.cfg) (d lanes rate : Nat) :
    a.dpPick d lanes rate = b.dpPick d lanes rate := by
  rw [Engine.dpPick, cfg, Engine.dpPick]

/-- No lane of an output is under test. -/
def Engine.dpNormal (d : Nat) : Prop := ∀ k : Fin 4, (e.lane (54 + 4 * d + k.val)).test = false

theorem Engine.at_dpNormal (t d : Nat) : (e.at t).dpNormal d ↔ e.dpNormal d := by simp [Engine.dpNormal]

variable {e}

theorem Engine.dpNormal.noTest {d : Nat} (normal : e.dpNormal d) :
    ((List.range 4).any fun k => (vget e.lanes (54 + 4 * d + k) Lane.reset).test) = false := by
  refine List.any_eq_false.2 fun k hk => ?_
  have normal : (vget e.lanes (54 + 4 * d + k) Lane.reset).test = false := normal ⟨k, List.mem_range.1 hk⟩
  simp [normal]

theorem Engine.dpTrain_up {d n r : Nat} (normal : e.dpNormal d)
    (pick : e.dpPick d (vget e.outs.dp d ⟨0, 0, 0, [], 0, 0⟩).maxLanes (vget e.outs.dp d ⟨0, 0, 0, [], 0, 0⟩).maxRate =
      some (n, r)) :
    e.dpTrain d true = (e.modDp d fun q => { q with link := 2, lanes := n, rate := r }).emit (dpSrc d) .dpLinkUp [] := by
  rw [Engine.dpTrain, normal.noTest, if_neg Bool.false_ne_true, pick]
  rfl

theorem Engine.dpTrain_short {d : Nat} {trained : Bool} (normal : e.dpNormal d)
    (pick : e.dpPick d (vget e.outs.dp d ⟨0, 0, 0, [], 0, 0⟩).maxLanes (vget e.outs.dp d ⟨0, 0, 0, [], 0, 0⟩).maxRate = none) :
    e.dpTrain d trained =
      (e.modDp d fun q => { q with link := 3, lanes := 0, rate := 0 }).emit (dpSrc d) .dpBwShort [] := by
  rw [Engine.dpTrain, normal.noTest, if_neg Bool.false_ne_true, pick]

/-! A sink that comes or goes. -/

variable (e) in
theorem Engine.vlPower_only (d : Nat) (sink : Bool) : Engine.changesOnly [.lanes] e (e.vlPower d sink) := e.setLanes_only _

variable (e) in
theorem Engine.vlPower_lane (d : Nat) (sink : Bool) (l : Fin 62) :
    (e.vlPower d sink).lane l =
      if 54 + 4 * d ≤ l.val ∧ l.val < 58 + 4 * d ∧ e.cfg.lnRate l ≠ 0 ∧ (e.lane l).step ≠ 0 then
        { e.lane l with txPs := if sink then 0 else 2 } else e.lane l := by
  simp [Engine.vlPower, Engine.lane, vget]

/-- What every hot-plug edge does: it is counted and logged, and the lanes take the power state of R58. -/
def Engine.hotPlugged (d : Nat) (sink : Bool) (e : Engine) : Engine :=
  ((e.bump .dpHpd (dpSrc d)).emit (dpSrc d) .dpHpd []).vlPower d sink

variable (e) in
theorem Engine.hotPlugged_effect (d : Nat) (sink : Bool) :
    Engine.changesOnly [.lanes, .counters, .log] e (e.hotPlugged d sink) ∧
      Engine.counted .dpHpd (dpSrc d) e (e.hotPlugged d sink) ∧
      Engine.newEvents e (e.hotPlugged d sink) = [(dpSrc d, .dpHpd, [])] := by
  obtain ⟨only, counted, events⟩ := e.bump_emit_effect .dpHpd (dpSrc d) .dpHpd []
  have power := ((e.bump .dpHpd (dpSrc d)).emit (dpSrc d) .dpHpd []).vlPower_only d sink
  exact ⟨(only.andThen power).within, Engine.counted_of_counters counted rfl power.counters_eq,
    (Engine.newEvents_of_log _ power.log_eq).trans events⟩

variable (e) in
theorem Engine.hotPlugged_lane (d : Nat) (sink : Bool) (l : Fin 62) :
    (e.hotPlugged d sink).lane l =
      if 54 + 4 * d ≤ l.val ∧ l.val < 58 + 4 * d ∧ e.cfg.lnRate l ≠ 0 ∧ (e.lane l).step ≠ 0 then
        { e.lane l with txPs := if sink then 0 else 2 } else e.lane l := by
  have lane : ((e.bump .dpHpd (dpSrc d)).emit (dpSrc d) .dpHpd []).lane l = e.lane l :=
    Engine.lane_congr ((Engine.emit_lanes _ _ _ _).trans (e.bump_lanes _ _)) l
  rw [Engine.hotPlugged, Engine.vlPower_lane, lane, Engine.emit_cfg, Engine.bump_cfg]

/-- The power state of R58 puts no lane under test. -/
theorem Engine.dpNormal.hotPlugged {d : Fin 2} (normal : e.dpNormal d) (sink : Bool) :
    (e.hotPlugged d sink).dpNormal d := by
  intro k
  have lane := e.hotPlugged_lane d sink ⟨54 + 4 * d.val + k.val, by omega⟩
  dsimp only at lane
  rw [lane]
  split
  · exact normal k
  · exact normal k

/-- An output with the EDID and the limits of the sink that has appeared. -/
def Engine.sinkRead (d : Nat) (edid : List Byte) (lanes rate : Nat) (e : Engine) : Engine :=
  (e.hotPlugged d true).modDp d fun q => { q with edid := edid, maxLanes := lanes, maxRate := rate }

theorem Engine.dpHpd_appears {d : Nat} {edid : List Byte} {ml mr : Nat} {trained : Bool} (en : e.cfg.dpEn d = true) :
    e.dpHpd d true edid ml mr trained = (e.sinkRead d edid ml mr).dpTrain d trained := by
  rw [Engine.dpHpd, if_neg (by simp [en])]
  rfl

theorem Engine.dpHpd_leaves {d : Nat} {edid : List Byte} {ml mr : Nat} {trained : Bool} (en : e.cfg.dpEn d = true) :
    e.dpHpd d false edid ml mr trained = (e.hotPlugged d false).modDp d fun _ => ⟨0, 0, 0, [], 0, 0⟩ := by
  rw [Engine.dpHpd, if_neg (by simp [en])]
  rfl

/-- A sink that appears, up to link training. -/
theorem Engine.sinkRead_effect {d : Fin 2} (normal : e.dpNormal d) (edid : List Byte) (ml mr : Nat) :
    (e.sinkRead d edid ml mr).dpNormal d ∧
      (e.sinkRead d edid ml mr).dpPick d (vget (e.sinkRead d edid ml mr).outs.dp d ⟨0, 0, 0, [], 0, 0⟩).maxLanes
        (vget (e.sinkRead d edid ml mr).outs.dp d ⟨0, 0, 0, [], 0, 0⟩).maxRate = e.dpPick d ml mr := by
  have only := (e.hotPlugged_effect d true).1
  refine ⟨normal.hotPlugged true, ?_⟩
  unfold Engine.sinkRead
  rw [Engine.modDp_outs, vget_vmod_same _ d.isLt]
  exact Engine.dpPick_congr only.cfg_eq d ml mr

variable (e) in
/-- The end of link training of a sink that has appeared: how the output then stands, and both events. -/
theorem Engine.sinkRead_ends (d : Fin 2) (edid : List Byte) (ml mr link lanes rate : Nat) (ev : Ev) :
    let b := ((e.sinkRead d edid ml mr).modDp d fun q => { q with link := link, lanes := lanes, rate := rate }).emit
      (dpSrc d) ev []
    Engine.changesOnly [.outs, .lanes, .counters, .log] e b ∧
      b.outs = { e.outs with dp := vmod e.outs.dp d fun _ => ⟨link, lanes, rate, edid, ml, mr⟩ } ∧
      Engine.counted .dpHpd (dpSrc d) e b ∧ Engine.newEvents e b = [(dpSrc d, .dpHpd, []), (dpSrc d, ev, [])] := by
  obtain ⟨only, counted, events⟩ := e.hotPlugged_effect d true
  refine ⟨?_, ?_, counted, ?_⟩
  · exact (((only.andThen (Engine.modDp_only _ _ _)).andThen (Engine.modDp_only _ _ _)).andThen
      (Engine.emit_only _ _ _ _)).within
  · rw [Engine.emit_outs, Engine.modDp_outs, Engine.sinkRead, Engine.modDp_outs, only.outs_eq, vmod_vmod]
  · have log : ((e.sinkRead d edid ml mr).modDp d fun q => { q with link := link, lanes := lanes, rate := rate }).log =
        (e.hotPlugged d true).log := rfl
    have grows : e.log.held.length ≤ (e.hotPlugged d true).log.held.length := by
      simp [Engine.hotPlugged, Engine.vlPower, Engine.emit_held]
    rw [Engine.newEvents_emit_next _ _ _ (by rwa [log]), Engine.newEvents_of_log _ log, events]
    rfl

end

section
variable {t : Nat} {d : Fin 2} {edid : List Byte} {ml mr : Nat} {s : State}

theorem does_dpHpd_up {n r : Nat} (hr : s.eng.sys.phase = .running) (en : s.eng.cfg.dpEn d = true)
    (normal : s.eng.dpNormal d) (pick : s.eng.dpPick d ml mr = some (n, r)) :
    Does (.dpHpd t d true edid ml mr true) t s fun a b => Engine.changesOnly [.outs, .lanes, .counters, .log] a b ∧
      b.outs = { a.outs with dp := vmod a.outs.dp d fun _ => ⟨2, n, r, edid, ml, mr⟩ } ∧
      Engine.counted .dpHpd (0x02AE + d.val) a b ∧
      Engine.newEvents a b = [(0x02AE + d.val, .dpHpd, []), (0x02AE + d.val, .dpLinkUp, [])] := by
  refine Does.of_live (·.dpHpd d true edid ml mr true) rfl hr ?_
  obtain ⟨normal, same⟩ := Engine.sinkRead_effect ((s.eng.at_dpNormal t d).2 normal) edid ml mr
  rw [Engine.dpPick_congr (s.eng.at_cfg t), pick] at same
  rw [Engine.dpHpd_appears (by simpa using en), Engine.dpTrain_up normal same]
  exact (s.eng.at t).sinkRead_ends d edid ml mr 2 n r .dpLinkUp

theorem does_dpHpd_short {trained : Bool} (hr : s.eng.sys.phase = .running) (en : s.eng.cfg.dpEn d = true)
    (normal : s.eng.dpNormal d) (pick : s.eng.dpPick d ml mr = none) :
    Does (.dpHpd t d true edid ml mr trained) t s fun a b => Engine.changesOnly [.outs, .lanes, .counters, .log] a b ∧
      b.outs = { a.outs with dp := vmod a.outs.dp d fun _ => ⟨3, 0, 0, edid, ml, mr⟩ } ∧
      Engine.newEvents a b = [(0x02AE + d.val, .dpHpd, []), (0x02AE + d.val, .dpBwShort, [])] := by
  refine Does.of_live (·.dpHpd d true edid ml mr trained) rfl hr ?_
  obtain ⟨normal, same⟩ := Engine.sinkRead_effect ((s.eng.at_dpNormal t d).2 normal) edid ml mr
  rw [Engine.dpPick_congr (s.eng.at_cfg t), pick] at same
  rw [Engine.dpHpd_appears (by simpa using en), Engine.dpTrain_short normal same]
  obtain ⟨only, outs, -, events⟩ := (s.eng.at t).sinkRead_ends d edid ml mr 3 0 0 .dpBwShort
  exact ⟨only, outs, events⟩

theorem does_dpHpd_leaves {trained : Bool} (hr : s.eng.sys.phase = .running) (en : s.eng.cfg.dpEn d = true) :
    Does (.dpHpd t d false edid ml mr trained) t s fun a b => Engine.changesOnly [.outs, .lanes, .counters, .log] a b ∧
      b.outs = { a.outs with dp := vmod a.outs.dp d fun _ => ⟨0, 0, 0, [], 0, 0⟩ } ∧
      Engine.counted .dpHpd (0x02AE + d.val) a b ∧ Engine.newEvents a b = [(0x02AE + d.val, .dpHpd, [])] ∧
      ∀ l : Fin 62, 54 + 4 * d.val ≤ l.val → l.val < 58 + 4 * d.val → a.cfg.lnRate l ≠ 0 → (a.lane l).step ≠ 0 →
        b.lane l = { a.lane l with txPs := 2 } := by
  refine Does.of_live (·.dpHpd d false edid ml mr trained) rfl hr ?_
  rw [Engine.dpHpd_leaves (by simpa using en)]
  obtain ⟨only, counted, events⟩ := (s.eng.at t).hotPlugged_effect d false
  refine ⟨(only.andThen (Engine.modDp_only _ _ _)).within, ?_, counted, events, fun l from_ to_ rate on => ?_⟩
  · rw [Engine.modDp_outs, only.outs_eq]
  · rw [Engine.lane_congr (Engine.modDp_lanes _ _ _), Engine.hotPlugged_lane, if_pos ⟨from_, to_, rate, on⟩]
    rfl

end

/-! Lanes that train again (R52, R326). -/

section
variable (e : Engine)

theorem Engine.bump_ctr_src_ne (c : Ctr) {src src' : Nat} (apart : src ≠ src') :
    (e.bump c src).ctr c src' 0 = e.ctr c src' 0 :=
  ctrVal_ctrAdd_ne _ _ _ _ _ _ _ _ fun same => apart same.2.1

theorem Engine.countRetrain_only (ls : List Nat) : Engine.changesOnly [.counters] e (e.countRetrain ls) :=
  Engine.changesOnly_foldl _ (fun e l => e.bump_only _ (laneSrc l)) ls e

/-- Trainings of lanes move no other counter. -/
theorem Engine.countRetrain_other {c : Ctr} (other : .laneRetrain ≠ c) (src : Nat) (ls : List Nat) :
    (e.countRetrain ls).ctr c src 0 = e.ctr c src 0 :=
  Engine.foldl_keeps (·.ctr c src 0) (fun e l => e.bump .laneRetrain (laneSrc l))
    (fun e _ => e.bumpN_ctr_ne other _ _ _ _ _) ls e

/-- A lane's trainings stay as they are when other lanes train. -/
theorem Engine.countRetrain_notIn {l : Nat} {ls : List Nat} (out : l ∉ ls) :
    (e.countRetrain ls).ctr .laneRetrain (laneSrc l) 0 = e.ctr .laneRetrain (laneSrc l) 0 := by
  induction ls generalizing e with
  | nil => rfl
  | cons k r ih =>
    obtain ⟨apart, out⟩ := List.ne_and_not_mem_of_not_mem_cons out
    have src : laneSrc k ≠ laneSrc l := by rw [laneSrc, laneSrc]; omega
    exact (ih _ out).trans (e.bump_ctr_src_ne _ src)

/-- Each of some lanes counts one training more. -/
theorem Engine.countRetrain_counted {l : Nat} {ls : List Nat} (once : ls.Nodup) (mem : l ∈ ls) :
    Engine.counted .laneRetrain (laneSrc l) e (e.countRetrain ls) := by
  induction ls generalizing e with
  | nil => exact absurd mem List.not_mem_nil
  | cons k r ih =>
    obtain ⟨fresh, once⟩ := List.nodup_cons.1 once
    by_cases same : k = l
    · subst same
      exact (Engine.countRetrain_notIn _ fresh).trans (e.counted_bump _ _)
    · have src : laneSrc k ≠ laneSrc l := by rw [laneSrc, laneSrc]; omega
      have counted := ih (e.bump .laneRetrain (laneSrc k)) once (List.mem_of_ne_of_mem (Ne.symm same) mem)
      rw [Engine.counted, e.bump_ctr_src_ne _ src] at counted
      exact counted

/-- The lanes of a DisplayPort output that are in use. -/
def Cfg.dpLanes (c : Cfg) (d : Nat) : List Nat := ((List.range 4).map (54 + 4 * d + ·)).filter fun l => c.lnRate l ≠ 0

theorem Cfg.dpLanes_nodup (c : Cfg) (d : Nat) : (c.dpLanes d).Nodup :=
  (List.nodup_range.map fun _ _ => Nat.add_left_cancel).filter _

theorem Cfg.mem_dpLanes {c : Cfg} {d : Nat} {k : Fin 4} (rate : c.lnRate (54 + 4 * d + k.val) ≠ 0) :
    54 + 4 * d + k.val ∈ c.dpLanes d :=
  List.mem_filter.2 ⟨List.mem_map.2 ⟨k, List.mem_range.2 k.isLt, rfl⟩, decide_eq_true rate⟩

/-- An output's link that has lost lock: its training and those of its lanes are counted (R326; log 131). -/
def Engine.dpRetrains (d : Nat) (e : Engine) : Engine := (e.bump .dpRetrain (dpSrc d)).countRetrain (e.cfg.dpLanes d)

theorem Engine.dpIrqHpd_lost {d : Nat} {trained : Bool} (en : e.cfg.dpEn d = true)
    (linked : (vget e.outs.dp d ⟨0, 0, 0, [], 0, 0⟩).link = 1 ∨ (vget e.outs.dp d ⟨0, 0, 0, [], 0, 0⟩).link = 2) :
    e.dpIrqHpd d true trained = (e.dpRetrains d).dpTrain d trained := by
  have retrains : (!e.cfg.dpEn d || !(decide ((vget e.outs.dp d ⟨0, 0, 0, [], 0, 0⟩).link = 1) ||
      decide ((vget e.outs.dp d ⟨0, 0, 0, [], 0, 0⟩).link = 2)) || !true) = false := by
    obtain training | up := linked
    · simp [en, training]
    · simp [en, up]
  rw [Engine.dpIrqHpd, retrains, if_neg Bool.false_ne_true]
  rfl

theorem Engine.dpRetrains_effect (d : Nat) :
    Engine.changesOnly [.counters] e (e.dpRetrains d) ∧ Engine.counted .dpRetrain (dpSrc d) e (e.dpRetrains d) ∧
      ∀ k : Fin 4, e.cfg.lnRate (54 + 4 * d + k.val) ≠ 0 →
        Engine.counted .laneRetrain (laneSrc (54 + 4 * d + k.val)) e (e.dpRetrains d) := by
  refine ⟨((e.bump_only _ _).andThen (Engine.countRetrain_only _ _)).within, ?_, fun k rate => ?_⟩
  · exact (Engine.countRetrain_other _ (by decide) _ _).trans (e.counted_bump _ _)
  · have counted := (e.bump .dpRetrain (dpSrc d)).countRetrain_counted (e.cfg.dpLanes_nodup d) (Cfg.mem_dpLanes rate)
    have before := e.bumpN_ctr_ne (show Ctr.dpRetrain ≠ .laneRetrain by decide) (dpSrc d)
      (laneSrc (54 + 4 * d + k.val)) 0 0 1
    exact counted.trans (congrArg (fun n => satNat 0xFFFFFFFF (n + 1)) before)

end

section
variable {t : Nat} {d : Fin 2} {s : State}

theorem does_dpIrqHpd {q : DpOut} {n r : Nat} (hr : s.eng.sys.phase = .running) (en : s.eng.cfg.dpEn d = true)
    (output : vget s.eng.outs.dp d ⟨0, 0, 0, [], 0, 0⟩ = q) (linked : q.link = 1 ∨ q.link = 2) (normal : s.eng.dpNormal d)
    (pick : s.eng.dpPick d q.maxLanes q.maxRate = some (n, r)) :
    Does (.dpIrqHpd t d true true) t s fun a b => Engine.changesOnly [.outs, .counters, .log] a b ∧
      b.outs = { a.outs with dp := vmod a.outs.dp d fun _ => { q with link := 2, lanes := n, rate := r } } ∧
      Engine.counted .dpRetrain (0x02AE + d.val) a b ∧
      (∀ k : Fin 4, a.cfg.lnRate (54 + 4 * d.val + k.val) ≠ 0 →
        Engine.counted .laneRetrain (0x0080 + (54 + 4 * d.val + k.val)) a b) := by
  refine Does.of_live (·.dpIrqHpd d true true) rfl hr ?_
  rw [← s.eng.at_outs t] at output
  subst output
  have normal := (s.eng.at_dpNormal t d).2 normal
  rw [← Engine.dpPick_congr (s.eng.at_cfg t)] at pick
  rw [Engine.dpIrqHpd_lost _ (by simpa using en) linked]
  set a := s.eng.at t
  obtain ⟨only, counted, lanes⟩ := a.dpRetrains_effect d
  have normal : (a.dpRetrains d).dpNormal d := fun k => (congrArg Lane.test (Engine.lane_congr only.lanes_eq _)).trans (normal k)
  rw [Engine.dpTrain_up normal (by rw [only.outs_eq, Engine.dpPick_congr only.cfg_eq, pick])]
  refine ⟨((only.andThen (Engine.modDp_only _ _ _)).andThen (Engine.emit_only _ _ _ _)).within, ?_, counted, lanes⟩
  rw [Engine.emit_outs, Engine.modDp_outs, only.outs_eq, vmod_congr a.outs.dp d ⟨0, 0, 0, [], 0, 0⟩]
  rfl

theorem does_outputQuery {h : MsgHdr} (hg : s.takes t h 0x0406) :
    Does (.outputQuery t h d) t s fun a b => Engine.changesOnly [.ctl, .ep, .counters] a b ∧
      b.replied h 0x0406 .ok .none (le 2 (vget a.outs.dp d ⟨0, 0, 0, [], 0, 0⟩).edid.length ++ le 2 0 ++
        (vget a.outs.dp d ⟨0, 0, 0, [], 0, 0⟩).edid) := by
  refine Does.of_request h 0x0406 (·.outputQuery h d) rfl hg ?_
  rw [Engine.outputQuery, if_neg (by omega), Engine.received_outs]
  exact ⟨Engine.received_then_only h 0x0406 (Engine.reply_only _ _ _ _ _ _), Engine.replied_reply _ _ _ _ _ _⟩

end

/-- Settles O28: the inputs' lock, format and loss, the outputs' hot plug and retraining, and the query, by their lemmas. -/
theorem displayAndSdiLinksFollowTheirPartners : Obligations.DisplayAndSdiLinksFollowTheirPartners := by
  unfold Obligations.DisplayAndSdiLinksFollowTheirPartners
  exact ⟨fun _ _ _ _ _ hr lanes free normal => does_sdiInLock hr ⟨lanes, free, normal⟩,
    fun _ _ _ _ _ _ hr lanes free normal => does_sdiInLock_unsupported hr ⟨lanes, free, normal⟩,
    fun _ _ _ _ => does_sdiInFormat, fun _ _ _ _ => does_sdiInLoss, fun _ _ _ _ _ _ _ _ => does_dpHpd_up,
    fun _ _ _ _ _ _ _ => does_dpHpd_short, fun _ _ _ _ _ _ _ => does_dpHpd_leaves,
    fun _ _ _ _ _ _ => does_dpIrqHpd, fun _ _ _ _ => does_outputQuery⟩

end Sys2Proof.Machine
end

section
/-! Network reception (O29; R327, R331, R353, R458): the copies of a packet, losses, a link's own address, and the description of a
stream. -/

namespace Sys2Proof.Machine
set_option Elab.async false

/-! A receiver that has heard nothing, or one packet (R331). -/

/-- The first packet is kept with its path and its instant. -/
theorem RtpRx.first_copy {r : RtpRx} (paths path seq now wait : Nat) (silent : r.seen = []) :
    (r.settle paths now wait).2 = 0 ∧
      (r.settle paths now wait).1.take path seq now = (⟨[(seq, 2 ^ path, now)], false⟩, true) := by
  simp [RtpRx.settle, RtpRx.take, silent]

/-- The second copy within the allowance adds its path. -/
theorem RtpRx.second_copy {r : RtpRx} {seq m t0 now wait : Nat} (paths path : Nat) (heard : r.seen = [(seq, m, t0)])
    (soon : now < t0 + wait) :
    (r.settle paths now wait).2 = 0 ∧
      (r.settle paths now wait).1.take path seq now = ({ r with seen := [(seq, m ||| 2 ^ path, t0)] }, false) := by
  have waits : ¬ t0 + wait ≤ now := Nat.not_le.2 soon
  simp [RtpRx.settle, RtpRx.take, heard, waits]

section
variable (e : Engine)

theorem Engine.bumpN_zero (c : Ctr) (src i : Nat) : e.bumpN c src i 0 = e := if_pos rfl

theorem Engine.modNet_only (n : Nat) (f : NetStream → NetStream) : Engine.changesOnly [.outs] e (e.modNet n f) := e.setOuts_only _

/-- A stream reads as the outputs stand. -/
theorem Engine.netStream_congr {a b : Engine} (h : a.outs = b.outs) (n : Nat) : a.netStream n = b.netStream n := by
  rw [Engine.netStream, Engine.netStream, h]

@[simp] theorem Engine.at_netStream (t n : Nat) : (e.at t).netStream n = e.netStream n :=
  Engine.netStream_congr (e.at_outs t) n

@[simp] theorem Engine.at_netHeld (t n : Nat) : (e.at t).netHeld n = e.netHeld n := by
  rw [Engine.netHeld, Engine.at_unitHeld, Engine.netHeld]

@[simp] theorem Engine.at_linkUp (t n k : Nat) : (e.at t).linkUp n k = e.linkUp n k := by
  rw [Engine.linkUp, Engine.at_cfg, Engine.at_lanes, Engine.linkUp]

/-- A receive entry takes packets of a source on a path: it is valid, has the path and the source, and neither the port nor Class V
keeps packets from it (R331, R335). -/
def Engine.nvHears (n path ssrc : Nat) : Prop :=
  e.cfg.nvValid n = true ∧ e.cfg.nvKind n = 5 ∧ (e.cfg.nvPaths n).testBit path = true ∧
    (e.cfg.nv n 4 31 0 = 0 ∨ e.cfg.nv n 4 31 0 = ssrc) ∧ e.netHeld path = false ∧ e.clk.classV = false

theorem Engine.at_nvHears (t n path ssrc : Nat) : (e.at t).nvHears n path ssrc ↔ e.nvHears n path ssrc := by
  simp [Engine.nvHears]

variable {e}

/-- A packet that is heard: what waited is settled, then the packet is taken. -/
theorem Engine.nvRxPacket_heard {n path ssrc seq : Nat} (hears : e.nvHears n path ssrc) :
    e.nvRxPacket n path ssrc seq =
      (e.bumpN .nvRxPath (netSrc n) 0
        ((e.netStream n).rx.settle (e.cfg.nvPaths n) e.now (ms (e.cfg.nvJitter n))).2).modNet n fun q => { q with
          rx := (((e.netStream n).rx.settle (e.cfg.nvPaths n) e.now (ms (e.cfg.nvJitter n))).1.take path seq e.now).1 } := by
  obtain ⟨valid, kind, path, source, carries, noClassV⟩ := hears
  have own : ¬ (e.cfg.nv n 4 31 0 ≠ 0 ∧ e.cfg.nv n 4 31 0 ≠ ssrc) := by tauto
  unfold Engine.nvRxPacket
  dsimp only
  rw [if_neg (by simp only [valid, kind, path, own, carries, noClassV]; decide)]

theorem Engine.nvRxLoss_unheard {n seq : Nat} (valid : e.cfg.nvValid n = true) (kind : e.cfg.nvKind n = 5)
    (unheard : ∀ x ∈ (e.netStream n).rx.seen, x.1 ≠ seq) :
    e.nvRxLoss n seq =
      ((if (e.netStream n).rx.losing then e.bump .nvRxLost (netSrc n)
        else (e.bump .nvRxLost (netSrc n)).emit (netSrc n) .nvRxLoss [])).modNet n fun q => { q with
          rx := { q.rx with losing := true } } := by
  have absent : ((e.netStream n).rx.seen.any fun x => decide (x.1 = seq)) = false :=
    List.any_eq_false.2 fun x hx => by simp [unheard x hx]
  have same : (e.bump .nvRxLost (netSrc n)).netStream n = e.netStream n := Engine.netStream_congr (e.bump_outs _ _) n
  rw [Engine.nvRxLoss, if_neg (by simp [valid, kind, absent])]
  dsimp only
  rw [same]

variable (e) in
/-- A network link that carries traffic, or the management port, has this address (R327, R458). -/
def Engine.ownAddress (link addr : Nat) : Bool :=
  if link < 8 then !e.netHeld (link / 4) && e.cfg.nlEn link && e.cfg.nlAddr link = addr && e.linkUp (link / 4) (link % 4)
  else link = 8 && e.cb 0x00C0 0 30 && (e.cw 0x00C0 1).toNat = addr

/-- An ARP or echo request for a link's own address is answered. -/
theorem Engine.netArpIcmp_own {link addr : Nat} {got : NetIn} (asked : got = .arp ∨ got = .echo)
    (own : e.ownAddress link addr = true) :
    e.netArpIcmp link addr got =
      { e with outs := { e.outs with answers := ((link, decide (got = .echo)) :: e.outs.answers).take 64 } } := by
  unfold Engine.netArpIcmp
  extract_lets mine answer
  have yes : mine = true := own
  rw [yes]
  obtain rfl | rfl := asked
  · rfl
  · rfl

theorem Engine.netArpIcmp_other {link addr : Nat} (got : NetIn) (other : e.ownAddress link addr = false) :
    e.netArpIcmp link addr got = e := by
  unfold Engine.netArpIcmp
  exact if_pos (by simpa [Engine.ownAddress] using other)

end

section
variable {t : Nat} {s : State}

theorem does_nvRxPacket_first {n : Fin 16} {p : Fin 2} {ssrc q : Nat} (hr : s.eng.sys.phase = .running)
    (hears : s.eng.nvHears n p ssrc) (silent : (s.eng.netStream n).rx.seen = []) :
    Does (.nvRxPacket t n p ⟨ssrc, q⟩) t s fun a b => Engine.changesOnly [.outs] a b ∧
      b.outs = { a.outs with streams := vmod a.outs.streams n fun x => { x with rx := ⟨[(q, 2 ^ p.val, a.now)], false⟩ } } := by
  refine Does.of_live (·.nvRxPacket n p ssrc q) rfl hr ?_
  rw [Engine.nvRxPacket_heard ((s.eng.at_nvHears t n p ssrc).2 hears), Engine.at_netStream]
  obtain ⟨none, kept⟩ := RtpRx.first_copy ((s.eng.at t).cfg.nvPaths n) p q (s.eng.at t).now
    (ms ((s.eng.at t).cfg.nvJitter n)) silent
  rw [none, Engine.bumpN_zero, kept]
  exact ⟨Engine.modNet_only _ _ _, rfl⟩

theorem does_nvRxPacket_second {n : Fin 16} {p : Fin 2} {ssrc q m t0 : Nat} (hr : s.eng.sys.phase = .running)
    (hears : s.eng.nvHears n p ssrc) (heard : (s.eng.netStream n).rx.seen = [(q, m, t0)])
    (soon : (s.eng.at t).now < t0 + ms (s.eng.cfg.nvJitter n)) :
    Does (.nvRxPacket t n p ⟨ssrc, q⟩) t s fun a b => Engine.changesOnly [.outs] a b ∧
      b.outs = { a.outs with streams := vmod a.outs.streams n fun x => { x with
        rx := { x.rx with seen := [(q, m ||| 2 ^ p.val, t0)] } } } := by
  refine Does.of_live (·.nvRxPacket n p ssrc q) rfl hr ?_
  rw [← s.eng.at_cfg t] at soon
  rw [← s.eng.at_netStream t] at heard
  rw [Engine.nvRxPacket_heard ((s.eng.at_nvHears t n p ssrc).2 hears)]
  set a := s.eng.at t
  obtain ⟨none, added⟩ := RtpRx.second_copy (a.cfg.nvPaths n) p heard soon
  rw [none, Engine.bumpN_zero, added]
  refine ⟨Engine.modNet_only _ _ _, ?_⟩
  rw [Engine.modNet_outs, vmod_congr a.outs.streams n ⟨0, 0, 0, [], [], RtpRx.reset⟩]
  rfl

theorem does_nvRxLoss {n : Fin 16} {q : Nat} (hr : s.eng.sys.phase = .running) (valid : s.eng.cfg.nvValid n = true)
    (kind : s.eng.cfg.nvKind n = 5) (unheard : ∀ x ∈ (s.eng.netStream n).rx.seen, x.1 ≠ q) :
    Does (.nvRxLoss t n q) t s fun a b => Engine.changesOnly [.outs, .counters, .log] a b ∧
      (b.netStream n).rx = { (a.netStream n).rx with losing := true } ∧ Engine.counted .nvRxLost (0x02B0 + n.val) a b ∧
      Engine.newEvents a b = if (a.netStream n).rx.losing then [] else [(0x02B0 + n.val, .nvRxLoss, [])] := by
  refine Does.of_live (·.nvRxLoss n q) rfl hr ?_
  rw [Engine.nvRxLoss_unheard (by simpa using valid) (by simpa using kind) (by simpa using unheard)]
  set a := s.eng.at t
  have stream (b : Engine) (outs : b.outs = a.outs) :
      ((b.modNet n fun q => { q with rx := { q.rx with losing := true } }).netStream n).rx =
        { (a.netStream n).rx with losing := true } := by
    rw [← Engine.netStream_congr outs n]
    exact congrArg NetStream.rx (vget_vmod_same b.outs.streams n.isLt _ _)
  split
  · have counts := a.bump_only .nvRxLost (netSrc n)
    exact ⟨(counts.andThen (Engine.modNet_only _ _ _)).within, stream _ counts.outs_eq, a.counted_bump _ _,
      Engine.newEvents_same _ _ (a.bump_log .nvRxLost (netSrc n))⟩
  · obtain ⟨reports, counted, events⟩ := a.bump_emit_effect .nvRxLost (netSrc n) .nvRxLoss []
    exact ⟨(reports.andThen (Engine.modNet_only _ _ _)).within, stream _ reports.outs_eq, counted, events⟩

theorem does_netArpIcmp_link {link addr : Nat} {got : NetIn} (hr : s.eng.sys.phase = .running) (isLink : link < 8)
    (en : s.eng.cfg.nlEn link = true) (carries : s.eng.netHeld (link / 4) = false)
    (up : s.eng.linkUp (link / 4) (link % 4) = true) (asked : got = .arp ∨ got = .echo) :
    Does (.netArpIcmp t link addr got) t s fun a b => Engine.changesOnly [.outs] a b ∧
      (s.eng.cfg.nlAddr link = addr →
        b.outs = { a.outs with answers := ((link, decide (got = .echo)) :: a.outs.answers).take 64 }) ∧
      (s.eng.cfg.nlAddr link ≠ addr → b = a) := by
  refine Does.of_live (·.netArpIcmp link addr got) rfl hr ?_
  by_cases own : s.eng.cfg.nlAddr link = addr
  · rw [Engine.netArpIcmp_own asked (by simp [Engine.ownAddress, isLink, en, carries, up, own])]
    exact ⟨Engine.setOuts_only _ _, fun _ => rfl, fun other => absurd own other⟩
  · rw [Engine.netArpIcmp_other got (by simp [Engine.ownAddress, isLink, own])]
    exact ⟨Engine.changesOnly_refl _ _, fun same => absurd same own, fun _ => rfl⟩

theorem does_netArpIcmp_management {addr : Nat} {got : NetIn} (hr : s.eng.sys.phase = .running)
    (en : s.eng.cb 0x00C0 0 30 = true) (own : (s.eng.cw 0x00C0 1).toNat = addr) (asked : got = .arp ∨ got = .echo) :
    Does (.netArpIcmp t 8 addr got) t s fun a b => Engine.changesOnly [.outs] a b ∧
      b.outs = { a.outs with answers := ((8, decide (got = .echo)) :: a.outs.answers).take 64 } := by
  refine Does.of_live (·.netArpIcmp 8 addr got) rfl hr ?_
  have address : ((s.eng.at t).cw 0x00C0 1).toNat = addr := by rw [Engine.cw, Engine.at_cfg]; exact own
  rw [Engine.netArpIcmp_own asked (by simp [Engine.ownAddress, en, address])]
  exact ⟨Engine.setOuts_only _ _, rfl⟩

theorem does_streamQuery_notFound {h : MsgHdr} {n : Fin 16} (hg : s.takes t h 0x0407) (off : s.eng.cfg.nvValid n = false) :
    Does (.streamQuery t h 0 n) t s fun a b =>
      b.replied h 0x0407 .notFound .none [] ∧ Engine.changesOnly [.ctl, .ep, .counters] a b := by
  refine Does.of_request h 0x0407 (·.streamQuery h 0 n) rfl hg ?_
  rw [Engine.streamQuery, if_neg (by simp), if_pos (by simp [off])]
  exact ⟨Engine.replied_refuse _ _ _ _ _, Engine.received_then_only h 0x0407 (Engine.refuse_only _ _ _ _ _)⟩

theorem does_streamQuery {h : MsgHdr} {n : Fin 16} (hg : s.takes t h 0x0407) (valid : s.eng.cfg.nvValid n = true) :
    Does (.streamQuery t h 0 n) t s fun a b => Engine.changesOnly [.ctl, .ep, .counters] a b ∧
      ∃ text : List Byte, text.length < 65536 ∧ b.replied h 0x0407 .ok .none (le 2 text.length ++ le 2 0 ++ text) := by
  refine Does.of_request h 0x0407 (·.streamQuery h 0 n) rfl hg ?_
  rw [Engine.streamQuery, if_neg (by simp), if_neg (by simp [valid])]
  have size (key k : Nat) : (freeBytes 330 key k).length = k := by simp [freeBytes]
  refine ⟨Engine.received_then_only h 0x0407 (Engine.reply_only _ _ _ _ _ _),
    freeBytes 330 (0 * 16 + n + 1) (Config.unstated 330 (0 * 16 + n) % 65536), ?_, ?_⟩
  · rw [size]
    exact Nat.mod_lt _ (by decide)
  · rw [size]
    exact Engine.replied_reply _ _ _ _ _ _

end

/-- Settles O29: the copies of a packet, a loss, the addresses of a link and of the management port, and the query, by their
lemmas. -/
theorem networkVideoReceivers : Obligations.NetworkVideoReceivers := by
  unfold Obligations.NetworkVideoReceivers
  exact ⟨fun _ _ _ _ _ _ hr valid kind path source carries noClassV =>
      does_nvRxPacket_first hr ⟨valid, kind, path, source, carries, noClassV⟩,
    fun _ _ _ _ _ _ _ _ hr valid kind path source carries noClassV =>
      does_nvRxPacket_second hr ⟨valid, kind, path, source, carries, noClassV⟩,
    fun _ _ _ _ => does_nvRxLoss, fun _ _ _ _ _ => does_netArpIcmp_link, fun _ _ _ _ => does_netArpIcmp_management,
    fun _ _ _ _ => does_streamQuery_notFound, fun _ _ _ _ => does_streamQuery⟩

end Sys2Proof.Machine
end

section
/-! Audio ports (O44; R331, R339 to R353): the tick of a sample, locks and losses, samples that arrive, and streams. -/

namespace Sys2Proof.Machine
set_option Elab.async false

/-! A source and an output after changes of it. -/

/-- A source reads as the audio ports stand, and so does an output. -/
theorem Engine.asrc_congr {a b : Engine} (h : a.aud = b.aud) (m : Nat) : a.asrc m = b.asrc m := by
  rw [Engine.asrc, Engine.asrc, h]

theorem Engine.aout_congr {a b : Engine} (h : a.aud.outs = b.aud.outs) (o : Nat) : a.aout o = b.aout o := by
  rw [Engine.aout, Engine.aout, h]

section
variable (e : Engine)

@[simp] theorem Engine.at_asrc (t m : Nat) : (e.at t).asrc m = e.asrc m := Engine.asrc_congr (e.at_aud t) m

@[simp] theorem Engine.at_aout (t o : Nat) : (e.at t).aout o = e.aout o :=
  Engine.aout_congr (congrArg Audio.outs (e.at_aud t)) o

theorem Engine.modSrc_only (m : Nat) (f : AudSrc → AudSrc) : Engine.changesOnly [.aud] e (e.modSrc m f) := e.setAud_only _

theorem Engine.modOut_only (o : Nat) (f : AudOut → AudOut) : Engine.changesOnly [.aud] e (e.modOut o f) := e.setAud_only _

theorem Engine.modSrc_asrc {m : Nat} (h : m < 14) (f : AudSrc → AudSrc) : (e.modSrc m f).asrc m = f (e.asrc m) :=
  vget_vmod_same e.aud.srcs h f _

theorem Engine.modOut_aout {o : Nat} (h : o < 14) (f : AudOut → AudOut) : (e.modOut o f).aout o = f (e.aout o) :=
  vget_vmod_same e.aud.outs h f _

theorem Engine.modOut_aout_ne {o k : Nat} (h : o ≠ k) (f : AudOut → AudOut) : (e.modOut o f).aout k = e.aout k :=
  vget_vmod_ne e.aud.outs h f _

end

/-! A part of a tick: the counter of samples and the clip being played stay (R339). -/

/-- From a to b part of a tick has been done: samples move, slips and missing samples are counted and logged. -/
structure Engine.AudStep (a b : Engine) : Prop where
  only : Engine.changesOnly [.aud, .counters, .log] a b
  n : b.aud.n = a.aud.n
  play : b.aud.play = a.aud.play

theorem Engine.AudStep.refl (e : Engine) : Engine.AudStep e e := ⟨Engine.changesOnly_refl _ e, rfl, rfl⟩

theorem Engine.AudStep.trans {a b c : Engine} (h : Engine.AudStep a b) (h' : Engine.AudStep b c) : Engine.AudStep a c :=
  ⟨Engine.changesOnly_trans h.only h'.only, h'.n.trans h.n, h'.play.trans h.play⟩

/-- Part of a tick on the side of the sources: the outputs stay as they are. -/
structure Engine.AudIn (a b : Engine) : Prop extends Engine.AudStep a b where
  outs : b.aud.outs = a.aud.outs

theorem Engine.AudIn.refl (e : Engine) : Engine.AudIn e e := ⟨Engine.AudStep.refl e, rfl⟩

theorem Engine.AudIn.trans {a b c : Engine} (h : Engine.AudIn a b) (h' : Engine.AudIn b c) : Engine.AudIn a c :=
  ⟨h.toAudStep.trans h'.toAudStep, h'.outs.trans h.outs⟩

/-- A run over a list, where what is carried holds the engine beside other results. -/
theorem Engine.AudIn.foldl {α β : Type} (engine : β → Engine) (f : β → α → β)
    (h : ∀ q x, Engine.AudIn (engine q) (engine (f q x))) (l : List α) (q : β) :
    Engine.AudIn (engine q) (engine (l.foldl f q)) := by
  induction l generalizing q with
  | nil => exact Engine.AudIn.refl _
  | cons x r ih => exact (h q x).trans (ih (f q x))

section
variable (e : Engine)

theorem Engine.modSrc_audIn (m : Nat) (f : AudSrc → AudSrc) : Engine.AudIn e (e.modSrc m f) :=
  ⟨⟨(e.modSrc_only m f).within, rfl, rfl⟩, rfl⟩

theorem Engine.bumpN_audIn (c : Ctr) (src i n : Nat) : Engine.AudIn e (e.bumpN c src i n) :=
  ⟨⟨(e.bumpN_only c src i n).within, congrArg Audio.n (e.bumpN_aud c src i n), congrArg Audio.play (e.bumpN_aud c src i n)⟩,
    congrArg Audio.outs (e.bumpN_aud c src i n)⟩

theorem Engine.bump_audIn (c : Ctr) (src : Nat) : Engine.AudIn e (e.bump c src) := e.bumpN_audIn c src 0 1

theorem Engine.emit_audIn (src : Nat) (ev : Ev) (d : List Byte) : Engine.AudIn e (e.emit src ev d) :=
  ⟨⟨(e.emit_only src ev d).within, rfl, rfl⟩, rfl⟩

theorem Engine.setCur_audIn (b : AudBlock) : Engine.AudIn e { e with aud := { e.aud with cur := b } } :=
  ⟨⟨(e.setAud_only _).within, rfl, rfl⟩, rfl⟩

theorem Engine.setHoldoff_audIn (v : Vector Nat 18) : Engine.AudIn e { e with aud := { e.aud with holdoff := v } } :=
  ⟨⟨(e.setAud_only _).within, rfl, rfl⟩, rfl⟩

theorem Engine.audIn_ite (c : Prop) [Decidable c] {b : Engine} (h : Engine.AudIn e b) :
    Engine.AudIn e (if c then b else e) := by
  split
  · exact h
  · exact Engine.AudIn.refl e

/-! The sources' side of a tick (R346, R347). -/

theorem Engine.audSlip_audIn (m : Nat) : Engine.AudIn e (e.audSlip m) := by
  unfold Engine.audSlip
  dsimp only
  exact (((((e.bump_audIn _ _).trans (Engine.audIn_ite _ _ (Engine.bump_audIn _ _ _))).trans
    (Engine.audIn_ite _ _ (Engine.setCur_audIn _ _))).trans (Engine.audIn_ite _ _ (Engine.emit_audIn _ _ _ _))).trans
      (Engine.modSrc_audIn _ _ _))

/-- A member gives its last sample again, its oldest, or none; a slip of its group is counted. -/
theorem Engine.audMember_audIn (a : SlipAct) (m : Nat) : Engine.AudIn e (e.audMember a m).2 := by
  unfold Engine.audMember
  extract_lets stream dropped
  have drops : Engine.AudIn e dropped := e.audIn_ite _ (e.modSrc_audIn _ _)
  have slips {b : Engine} (given : Engine.AudIn e b) : Engine.AudIn e (if a = .none then b else b.audSlip m) := by
    split
    · exact given
    · exact given.trans (b.audSlip_audIn m)
  dsimp only
  refine slips ?_
  split
  · exact drops
  · split
    · exact drops.trans (dropped.modSrc_audIn _ _)
    · exact (drops.trans (dropped.bump_audIn _ _)).trans (Engine.modSrc_audIn _ _ _)

theorem Engine.audGroup_audIn (g : Nat × Nat × List Nat) : Engine.AudIn e (e.audGroup g).2 := by
  unfold Engine.audGroup
  extract_lets ms averaged full k h a before held
  have averages : Engine.AudIn e averaged := Engine.AudIn.foldl id _ (fun e m => e.modSrc_audIn _ _) ms e
  have holds : Engine.AudIn averaged held := averaged.setHoldoff_audIn _
  have member (q : List (Nat × AudFrame × Bool) × Engine) (m : Nat) := q.2.audMember_audIn a m
  exact (averages.trans holds).trans (Engine.AudIn.foldl Prod.snd _ member ms ([], held))

theorem Engine.audSources_audIn : Engine.AudIn e e.audSources.2 := by
  unfold Engine.audSources
  have groups := Engine.AudIn.foldl Prod.snd (fun (q : List (Nat × AudFrame × Bool) × Engine) g =>
    (q.1 ++ (q.2.audGroup g).1, (q.2.audGroup g).2)) (fun q g => q.2.audGroup_audIn g) e.cfg.audGroups ([], e)
  refine groups.trans (Engine.AudIn.foldl Prod.snd _ (fun q m => ?_) _ _)
  split
  · exact Engine.modSrc_audIn _ _ _
  · exact Engine.AudIn.refl _

/-! The outputs' side of a tick (R351, R354). -/

/-- Part of a tick on the side of output o: the other outputs stay as they are. -/
structure Engine.AudOutOnly (o : Nat) (a b : Engine) : Prop extends Engine.AudStep a b where
  others : ∀ k, o ≠ k → b.aout k = a.aout k

theorem Engine.AudOutOnly.trans {o : Nat} {a b c : Engine} (h : Engine.AudOutOnly o a b) (h' : Engine.AudOutOnly o b c) :
    Engine.AudOutOnly o a c :=
  ⟨h.toAudStep.trans h'.toAudStep, fun k other => (h'.others k other).trans (h.others k other)⟩

theorem Engine.AudIn.outOnly {a b : Engine} (h : Engine.AudIn a b) (o : Nat) : Engine.AudOutOnly o a b :=
  ⟨h.toAudStep, fun k _ => Engine.aout_congr h.outs k⟩

theorem Engine.modOut_outOnly (o : Nat) (f : AudOut → AudOut) : Engine.AudOutOnly o e (e.modOut o f) :=
  ⟨⟨(e.modOut_only o f).within, rfl, rfl⟩, fun _ other => e.modOut_aout_ne other f⟩

theorem Engine.audOutput_outOnly (n o : Nat) (f : AudFrame) : Engine.AudOutOnly o e (e.audOutput n o f) := by
  unfold Engine.audOutput
  split
  · split
    · exact e.modOut_outOnly o _
    · extract_lets q avg a buf extra taken counted
      have takes : Engine.AudOutOnly o e counted :=
        (e.modOut_outOnly o _).trans ((taken.bumpN_audIn _ _ _ _).outOnly o)
      split
      · exact takes
      · exact takes.trans ((counted.bump_audIn _ _).outOnly o)
  · split
    · exact e.modOut_outOnly o _
    · exact e.modOut_outOnly o _

/-- An AES3 output moves on by one frame of its block (R351). -/
theorem Engine.audOutput_pos (n : Nat) (o : Fin 2) (f : AudFrame) :
    ((e.audOutput n (4 + o) f).aout (4 + o)).pos = ((e.aout (4 + o)).pos + 1) % 192 := by
  rw [Engine.audOutput, if_neg (by omega), if_pos (by omega)]
  exact congrArg AudOut.pos (e.modOut_aout (by omega) _)

/-- What one output port does at a tick (R354). -/
def Engine.audDrive (n : Nat) (got : List (Nat × AudFrame × Bool)) (o : Nat) (e : Engine) : Engine :=
  let vs := (e.cfg.outIds o).map (e.audValue got)
  let e := if vs.any fun v => !v.2 then e.bump .audOutUnderrun (audOutNo o) else e
  e.audOutput n o (vs.map (·.1))

/-- The output ports that give samples at a tick. -/
def Engine.audPorts : List Nat := (List.range 14).filter fun o => e.cfg.outUsed o && !(e.aout o).stopped

theorem Engine.audDrive_outOnly (n : Nat) (got : List (Nat × AudFrame × Bool)) (o : Nat) :
    Engine.AudOutOnly o e (e.audDrive n got o) := by
  unfold Engine.audDrive
  extract_lets vs counted
  have counts : Engine.AudIn e counted := e.audIn_ite _ (e.bump_audIn _ _)
  exact (counts.outOnly o).trans (counted.audOutput_outOnly _ _ _)

theorem Engine.audDrive_pos (n : Nat) (got : List (Nat × AudFrame × Bool)) (o : Fin 2) :
    ((e.audDrive n got (4 + o)).aout (4 + o)).pos = ((e.aout (4 + o)).pos + 1) % 192 := by
  unfold Engine.audDrive
  extract_lets vs counted
  have counts : Engine.AudIn e counted := e.audIn_ite _ (e.bump_audIn _ _)
  rw [Engine.audOutput_pos, Engine.aout_congr counts.outs]

theorem Engine.audDrives_step (n : Nat) (got : List (Nat × AudFrame × Bool)) (ls : List Nat) :
    Engine.AudStep e (ls.foldl (fun e o => e.audDrive n got o) e) := by
  induction ls generalizing e with
  | nil => exact Engine.AudStep.refl e
  | cons o r ih => exact (e.audDrive_outOnly n got o).toAudStep.trans (ih _)

/-- Ports beside an output leave it as it is. -/
theorem Engine.audDrives_notIn (n : Nat) (got : List (Nat × AudFrame × Bool)) {k : Nat} {ls : List Nat} (out : k ∉ ls) :
    (ls.foldl (fun e o => e.audDrive n got o) e).aout k = e.aout k := by
  induction ls generalizing e with
  | nil => rfl
  | cons o r ih =>
    obtain ⟨apart, out⟩ := List.ne_and_not_mem_of_not_mem_cons out
    exact (ih _ out).trans ((e.audDrive_outOnly n got o).others k (Ne.symm apart))

/-- Of ports that give samples once each, an AES3 output moves on by one frame. -/
theorem Engine.audDrives_pos (n : Nat) (got : List (Nat × AudFrame × Bool)) {o : Fin 2} {ls : List Nat} (once : ls.Nodup)
    (mem : 4 + o.val ∈ ls) :
    ((ls.foldl (fun e o => e.audDrive n got o) e).aout (4 + o)).pos = ((e.aout (4 + o)).pos + 1) % 192 := by
  induction ls generalizing e with
  | nil => exact absurd mem List.not_mem_nil
  | cons k r ih =>
    obtain ⟨fresh, once⟩ := List.nodup_cons.1 once
    by_cases same : k = 4 + o.val
    · subst same
      rw [List.foldl_cons, Engine.audDrives_notIn _ n got fresh, Engine.audDrive_pos]
    · have others := (e.audDrive_outOnly n got k).others (4 + o) same
      rw [List.foldl_cons, ih _ once (List.mem_of_ne_of_mem (Ne.symm same) mem), others]

theorem Engine.audOutputs_step (n : Nat) (got : List (Nat × AudFrame × Bool)) : Engine.AudStep e (e.audOutputs n got) :=
  e.audDrives_step n got e.audPorts

/-- An AES3 output that is in use moves on by one frame at a tick (R351). -/
theorem Engine.audOutputs_pos (n : Nat) (got : List (Nat × AudFrame × Bool)) {o : Fin 2} (used : e.cfg.aesOut o = true)
    (goes : (e.aout (4 + o)).stopped = false) :
    ((e.audOutputs n got).aout (4 + o)).pos = ((e.aout (4 + o)).pos + 1) % 192 := by
  have port : 4 + o.val ∈ e.audPorts := by
    refine List.mem_filter.2 ⟨List.mem_range.2 (by omega), ?_⟩
    rw [goes, Cfg.outUsed, if_neg (by omega), if_pos (by omega), Nat.add_sub_cancel_left, used]
    rfl
  exact e.audDrives_pos n got (List.nodup_range.filter _) port

theorem Engine.audRecord_audIn (got : List (Nat × AudFrame × Bool)) : Engine.AudIn e (e.audRecord got) := by
  unfold Engine.audRecord
  split
  · exact Engine.AudIn.refl e
  · exact e.setCur_audIn _

/-- A tick (R339): its sources, its outputs and what is recorded of it, then the counter and the clip being played move on. -/
theorem Engine.audioTick_effect (present : e.has 0x0070 = true) (runs : e.aud.running = true) :
    Engine.changesOnly [.aud, .counters, .log] e e.audioTick ∧ e.audioTick.aud.n = e.aud.n + 1 ∧
      e.audioTick.aud.play = e.aud.play.drop 1 ∧
      ∀ o : Fin 2, e.cfg.aesOut o = true → (e.aout (4 + o)).stopped = false →
        (e.audioTick.aout (4 + o)).pos = ((e.aout (4 + o)).pos + 1) % 192 := by
  have sources := e.audSources_audIn
  set got := e.audSources.1
  set m := e.audSources.2
  have outputs := m.audOutputs_step e.aud.n got
  have records := (m.audOutputs e.aud.n got).audRecord_audIn got
  set r := (m.audOutputs e.aud.n got).audRecord got
  have step := (sources.toAudStep.trans outputs).trans records.toAudStep
  have tick : e.audioTick = { r with aud := { r.aud with n := e.aud.n + 1, play := r.aud.play.drop 1 } } := by
    rw [Engine.audioTick, if_neg (by simp [present, runs])]
  rw [tick]
  refine ⟨Engine.changesOnly_trans step.only (r.setAud_only _).within, rfl, congrArg (List.drop 1) step.play,
    fun o used goes => ?_⟩
  have before : m.aout (4 + o) = e.aout (4 + o) := Engine.aout_congr sources.outs _
  have moved := m.audOutputs_pos e.aud.n got (o := o) (by rwa [sources.only.cfg_eq]) (by rwa [before])
  have recorded : r.aout (4 + o) = (m.audOutputs e.aud.n got).aout (4 + o) := Engine.aout_congr records.outs _
  rw [before] at moved
  exact (congrArg AudOut.pos recorded).trans moved

/-! The counter's first lock, and the end of a coast (R340, R342). -/

/-- The first sample whose tick has not passed (R340). -/
theorem Engine.audSetN_first (began : 0 ≤ e.dtb) :
    e.dtb * e.cfg.audFs ≤ (e.audSetN.aud.n : Int) * 65536000000000 ∧
      ((e.audSetN.aud.n : Int) - 1) * 65536000000000 < e.dtb * e.cfg.audFs := by
  have rate : 0 ≤ e.dtb * (e.cfg.audFs : Int) := mul_nonneg began (Int.natCast_nonneg _)
  have count : e.audSetN.aud.n = (-(-(e.dtb * e.cfg.audFs) / 65536000000000)).toNat := rfl
  rw [count]
  omega

/-- Priming FIFOs leaves the clock, the lock and the counter as they are (R347). -/
theorem Engine.audPrimeAll_effect :
    Engine.changesOnly [.aud] e e.audPrimeAll ∧ e.audPrimeAll.aud.n = e.aud.n ∧ e.audPrimeAll.aud.pllLock = e.aud.pllLock ∧
      e.audPrimeAll.aud.running = e.aud.running :=
  ⟨Engine.changesOnly_foldl _ (fun e m => e.modSrc_only m _) _ e,
    Engine.foldl_keeps (·.aud.n) (fun e m => e.audPrime m) (fun _ _ => rfl) _ e,
    Engine.foldl_keeps (·.aud.pllLock) (fun e m => e.audPrime m) (fun _ _ => rfl) _ e,
    Engine.foldl_keeps (·.aud.running) (fun e m => e.audPrime m) (fun _ _ => rfl) _ e⟩

/-- The audio ports as their PLL has locked for the first time. -/
def Engine.audLocked : Engine := { e with aud := { e.aud with pllLock := true, running := true } }

theorem Engine.audFirstLock_stopped (present : e.has 0x0070 = true) (stopped : e.aud.running = false) :
    e.audFirstLock = e.audLocked.audSetN.audPrimeAll := by
  rw [Engine.audFirstLock, if_neg (by simp [present, stopped])]
  rfl

theorem Engine.audRelock_coasting (coasts : e.aud.coast = true) (locked : e.clk.root = .locked) :
    e.audRelock =
      ({ e with aud := { e.aud with pllLock := true, coast := false } } : Engine).emit 0x02C0 .audRelock [] := by
  rw [Engine.audRelock, if_neg (by simp [coasts, locked])]

end

section
variable {t : Nat} {s : State}

theorem does_audioTick (hr : s.eng.sys.phase = .running) (present : s.eng.has 0x0070 = true)
    (runs : s.eng.aud.running = true) :
    Does (.audioTick t) t s fun a b => Engine.changesOnly [.aud, .counters, .log] a b ∧ b.aud.n = a.aud.n + 1 ∧
      b.aud.play = a.aud.play.drop 1 ∧
      ∀ o : Fin 2, a.cfg.aesOut o = true → (a.aout (4 + o.val)).stopped = false →
        (b.aout (4 + o.val)).pos = ((a.aout (4 + o.val)).pos + 1) % 192 := by
  refine Does.of_live (·.audioTick) rfl hr ?_
  exact (s.eng.at t).audioTick_effect ((s.eng.at_has t _).trans present) (by simpa using runs)

theorem does_audPllFirstLock (hr : s.eng.sys.phase = .running) (present : s.eng.has 0x0070 = true)
    (stopped : s.eng.aud.running = false) (began : 0 ≤ (s.eng.at t).dtb) :
    Does (.audPllFirstLock t) t s fun a b => Engine.changesOnly [.aud] a b ∧ b.aud.pllLock = true ∧ b.aud.running = true ∧
      a.dtb * a.cfg.audFs ≤ (b.aud.n : Int) * 65536000000000 ∧
      ((b.aud.n : Int) - 1) * 65536000000000 < a.dtb * a.cfg.audFs := by
  refine Does.of_live (·.audFirstLock) rfl hr ?_
  rw [Engine.audFirstLock_stopped _ ((s.eng.at_has t _).trans present) (by simpa using stopped)]
  set a := s.eng.at t
  obtain ⟨primes, n, lock, running⟩ := a.audLocked.audSetN.audPrimeAll_effect
  have locks : Engine.changesOnly [.aud] a a.audLocked.audSetN :=
    Engine.changesOnly_trans (a.setAud_only _) (a.audLocked.setAud_only _)
  rw [n, lock, running]
  exact ⟨Engine.changesOnly_trans locks primes, rfl, rfl, a.audLocked.audSetN_first began⟩

theorem does_audRelock (hr : s.eng.sys.phase = .running) (coasts : s.eng.aud.coast = true)
    (locked : s.eng.clk.root = .locked) :
    Does (.audRelock t) t s fun a b => Engine.changesOnly [.aud, .log] a b ∧
      b.aud = { a.aud with pllLock := true, coast := false } ∧ Engine.newEvents a b = [(0x02C0, .audRelock, [])] := by
  refine Does.of_live (·.audRelock) rfl hr ?_
  rw [Engine.audRelock_coasting _ (by simpa using coasts) (by simpa using locked)]
  exact ⟨((Engine.setAud_only _ _).andThen (Engine.emit_only _ _ _ _)).within, rfl, Engine.newEvents_emit _ _ _ _ _ rfl⟩

end

/-! AES3 inputs and the sources' rates (R343, R346, R347, R349, R350). -/

section
variable (e : Engine)

/-- A source changes and one event says so. -/
theorem Engine.srcChange_effect (m : Nat) (f : AudSrc → AudSrc) (ev : Ev) :
    Engine.changesOnly [.aud, .log] e ((e.modSrc m f).emit (audSrcNo m) ev []) ∧
      ((e.modSrc m f).emit (audSrcNo m) ev []).aud = { e.aud with srcs := vmod e.aud.srcs m f } ∧
      Engine.newEvents e ((e.modSrc m f).emit (audSrcNo m) ev []) = [(audSrcNo m, ev, [])] :=
  ⟨((e.modSrc_only m f).andThen (Engine.emit_only _ _ _ _)).within, rfl, Engine.newEvents_emit _ _ _ _ _ rfl⟩

/-- Local source of an AES3 input (R357). -/
theorem audSrcNo_aes (i : Fin 2) : audSrcNo (4 + i) = 0x02C5 + i := by
  rw [audSrcNo, if_neg (by omega), if_pos (by omega), Nat.add_sub_cancel_left]

/-- The FIFO of an AES3 input primed: 16 samples (R346, R347). -/
theorem Engine.audPrime_aes (i : Fin 2) :
    ((e.audPrime (4 + i)).asrc (4 + i)).primed = true ∧ ((e.audPrime (4 + i)).asrc (4 + i)).fifo.length = 16 := by
  have depth : e.cfg.srcF0 (4 + i) = 16 := if_pos (by omega)
  have primed : (e.audPrime (4 + i)).asrc (4 + i) = _ := e.modSrc_asrc (by omega) _
  rw [primed]
  exact ⟨rfl, by simp [depth]⟩

/-- An AES3 input as its lock finds it: primed, now or before (R347, R349). -/
def Engine.audLockPrimed (i : Nat) : Engine := if (e.asrc (4 + i)).primed then e else e.audPrime (4 + i)

theorem Engine.audLockPrimed_only (i : Nat) : Engine.changesOnly [.aud] e (e.audLockPrimed i) := by
  unfold Engine.audLockPrimed
  split
  · exact Engine.changesOnly_refl _ e
  · exact e.modSrc_only _ _

variable {e}

theorem Engine.audInLock_locks {i : Nat} (used : e.cfg.aesIn i = true) (goes : (e.asrc (4 + i)).stopped = false)
    (new : (e.asrc (4 + i)).locked = false ∨ (e.asrc (4 + i)).lost = true) :
    e.audInLock i = ((e.audLockPrimed i).modSrc (4 + i) fun q => { q with locked := true, lost := false }).emit
      (audSrcNo (4 + i)) .audInLock [] := by
  have waits : (!e.cfg.aesIn i || (e.asrc (4 + i)).stopped || ((e.asrc (4 + i)).locked && !(e.asrc (4 + i)).lost)) = false := by
    obtain unlocked | lost := new
    · simp [used, goes, unlocked]
    · simp [used, goes, lost]
  rw [Engine.audInLock, waits, if_neg Bool.false_ne_true]
  rfl

theorem Engine.audInSample_aes {i : Fin 2} {samples : List (Nat × Bool)} (used : e.cfg.aesIn i = true)
    (goes : (e.asrc (4 + i)).stopped = false) (locked : (e.asrc (4 + i)).locked = true)
    (kept : (e.asrc (4 + i)).lost = false) :
    e.audInSample (4 + i) samples false = e.audArrive (4 + i) (samples.map fun x => (x.1 % 16777216, x.2)) := by
  rw [Engine.audInSample, if_neg (by simp [goes]; omega), if_neg (by omega), Nat.add_sub_cancel_left,
    if_neg (by simp [used, locked, kept]), if_neg Bool.false_ne_true]
  simp only [Bool.or_false]

variable (e) in
/-- A frame at an AES3 input enters its FIFO while that holds fewer than 32, and is counted when it holds them (R346, R347). -/
theorem Engine.audArrive_aes (i : Fin 2) (f : AudFrame) :
    Engine.changesOnly [.aud, .counters] e (e.audArrive (4 + i) f) ∧
      ((e.asrc (4 + i)).fifo.length < 32 → e.audArrive (4 + i) f = e.modSrc (4 + i) fun q => { q with
        fifo := q.fifo ++ [(0, f)] }) ∧
      (32 ≤ (e.asrc (4 + i)).fifo.length → e.audArrive (4 + i) f = e.bump .audInOverrun (audSrcNo (4 + i))) := by
  have depth : e.cfg.srcDepth (4 + i) = 32 := if_pos (by omega)
  rw [Engine.audArrive, depth]
  by_cases full : 32 ≤ (e.asrc (4 + i)).fifo.length
  · rw [if_pos full]
    exact ⟨(e.bump_only _ _).within, fun room => absurd full (Nat.not_le.2 room), fun _ => rfl⟩
  · rw [if_neg full]
    exact ⟨(e.modSrc_only _ _).within, fun _ => rfl, fun held => absurd held full⟩

/-- A channel status block is sound: exact, whole, and for professional use with its CRCC (R350). -/
def csSound (exact_ : Bool) (block : List Bool) : Bool :=
  exact_ && decide (block.length = 192) && (!(block.getD 0 false) || decide (block.drop 184 = aesCrcc block))

theorem Engine.aesCsBlock_heard {i : Nat} {block : List Bool} {z : Bool} (used : e.cfg.aesIn i = true)
    (locked : (e.asrc (4 + i)).locked = true) (goes : (e.asrc (4 + i)).stopped = false) :
    e.aesCsBlock i block z = if csSound z block then e.modSrc (4 + i) fun q => { q with cs := some block }
      else e.bump .audCsErr (audSrcNo (4 + i)) := by
  rw [Engine.aesCsBlock, if_neg (by simp [used, locked, goes])]
  rfl

end

section
variable {t : Nat} {i : Fin 2} {s : State}

theorem does_audInLock (hr : s.eng.sys.phase = .running) (used : s.eng.cfg.aesIn i = true)
    (goes : (s.eng.asrc (4 + i.val)).stopped = false)
    (new : (s.eng.asrc (4 + i.val)).locked = false ∨ (s.eng.asrc (4 + i.val)).lost = true) :
    Does (.audInLock t i) t s fun a b => Engine.changesOnly [.aud, .log] a b ∧
      (b.asrc (4 + i.val)).locked = true ∧ (b.asrc (4 + i.val)).lost = false ∧
      ((a.asrc (4 + i.val)).primed = false → (b.asrc (4 + i.val)).primed = true ∧ (b.asrc (4 + i.val)).fifo.length = 16) ∧
      ((a.asrc (4 + i.val)).primed = true → (b.asrc (4 + i.val)).fifo = (a.asrc (4 + i.val)).fifo) ∧
      Engine.newEvents a b = [(0x02C5 + i.val, .audInLock, [])] := by
  refine Does.of_live (·.audInLock i) rfl hr ?_
  rw [Engine.audInLock_locks (by simpa using used) (by simpa using goes) (by simpa using new)]
  set a := s.eng.at t
  have primes := a.audLockPrimed_only i
  obtain ⟨changes, aud, events⟩ := (a.audLockPrimed i).srcChange_effect (4 + i) (fun q => { q with locked := true, lost := false })
    .audInLock
  set p := a.audLockPrimed i
  have source := (Engine.asrc_congr aud (4 + i)).trans (p.modSrc_asrc (by omega) _)
  rw [source]
  refine ⟨(primes.andThen changes).within, rfl, rfl, fun unprimed => ?_, fun primed => ?_, ?_⟩
  · have now : p = a.audPrime (4 + i) := if_neg (by simp [unprimed])
    rw [now]
    exact a.audPrime_aes i
  · have before : p = a := if_pos primed
    rw [before]
  · rw [Engine.newEvents_congr primes.log_eq.symm, events, audSrcNo_aes]

theorem does_audInLoss (hr : s.eng.sys.phase = .running) (locked : (s.eng.asrc (4 + i.val)).locked = true) :
    Does (.audInLoss t i) t s fun a b => Engine.changesOnly [.aud, .log] a b ∧
      b.aud = { a.aud with srcs := vmod a.aud.srcs (4 + i.val) fun q => { q with locked := false } } ∧
      Engine.newEvents a b = [(0x02C5 + i.val, .audInLoss, [])] := by
  refine Does.of_live (·.audInLoss i) rfl hr ?_
  rw [Engine.audInLoss, if_neg (by simp [locked]), ← audSrcNo_aes]
  exact (s.eng.at t).srcChange_effect _ _ _

theorem does_audInRate {m : Fin 14} (hr : s.eng.sys.phase = .running) (used : s.eng.cfg.srcUsed m = true)
    (fed : s.eng.cfg.srcFifo m = true) (kept : (s.eng.asrc m).lost = false) :
    Does (.audInRate t m) t s fun a b => Engine.changesOnly [.aud, .log] a b ∧
      b.aud = { a.aud with srcs := vmod a.aud.srcs m fun q => { q with lost := true } } ∧
      Engine.newEvents a b = [(audSrcNo m, .audInRate, [])] := by
  refine Does.of_live (·.audInRate m) rfl hr ?_
  rw [Engine.audInRate, if_neg (by simp [used, fed, kept])]
  exact (s.eng.at t).srcChange_effect _ _ _

theorem does_audInSample {m : Fin 14} {samples : List (Nat × Bool)} (hr : s.eng.sys.phase = .running) (aes : m.val = 4 + i.val)
    (used : s.eng.cfg.aesIn i = true) (goes : (s.eng.asrc m).stopped = false) (locked : (s.eng.asrc m).locked = true)
    (kept : (s.eng.asrc m).lost = false) :
    Does (.audInSample t m samples false) t s fun a b => Engine.changesOnly [.aud, .counters] a b ∧
      ((a.asrc m).fifo.length < 32 → b.counters = a.counters ∧
        b.aud = { a.aud with srcs := vmod a.aud.srcs m fun q => { q with
          fifo := q.fifo ++ [(0, samples.map fun x => (x.1 % 16777216, x.2))] } }) ∧
      (32 ≤ (a.asrc m).fifo.length → b.aud = a.aud ∧ Engine.counted .audInOverrun (0x02C5 + i.val) a b) := by
  refine Does.of_live (·.audInSample m samples false) rfl hr ?_
  rw [← s.eng.at_asrc t, aes] at goes locked kept
  rw [aes, Engine.audInSample_aes (by simpa using used) goes locked kept]
  set a := s.eng.at t
  obtain ⟨only, enters, overrun⟩ := a.audArrive_aes i (samples.map fun x => (x.1 % 16777216, x.2))
  refine ⟨only, fun room => ?_, fun full => ?_⟩
  · rw [enters room]
    exact ⟨rfl, rfl⟩
  · rw [overrun full, audSrcNo_aes]
    exact ⟨a.bump_aud _ _, a.counted_bump _ _⟩

theorem does_aesCsBlock {bits crcc block : List Bool} {z : Bool} (is : block = bits ++ crcc)
    (hr : s.eng.sys.phase = .running) (used : s.eng.cfg.aesIn i = true)
    (locked : (s.eng.asrc (4 + i.val)).locked = true) (goes : (s.eng.asrc (4 + i.val)).stopped = false) :
    Does (.aesCsBlock t i bits z crcc) t s fun a b => Engine.changesOnly [.aud, .counters] a b ∧
      (z = true → block.length = 192 → (block.getD 0 false = false ∨ block.drop 184 = aesCrcc block) →
        b.counters = a.counters ∧
        b.aud = { a.aud with srcs := vmod a.aud.srcs (4 + i.val) fun q => { q with cs := some block } }) ∧
      (z = false ∨ block.length ≠ 192 ∨ (block.getD 0 false = true ∧ block.drop 184 ≠ aesCrcc block) → b.aud = a.aud ∧
        Engine.counted .audCsErr (0x02C5 + i.val) a b) := by
  refine Does.of_live (·.aesCsBlock i (bits ++ crcc) z) rfl hr ?_
  rw [← is, Engine.aesCsBlock_heard (by simpa using used) (by simpa using locked) (by simpa using goes)]
  set a := s.eng.at t
  have sound : csSound z block = true ↔
      z = true ∧ block.length = 192 ∧ (block.getD 0 false = false ∨ block.drop 184 = aesCrcc block) := by
    simp [csSound, and_assoc]
  by_cases ok : csSound z block = true
  · rw [if_pos ok]
    obtain ⟨exact_, whole, crc⟩ := sound.1 ok
    refine ⟨(a.modSrc_only _ _).within, fun _ _ _ => ⟨rfl, rfl⟩, fun bad => ?_⟩
    obtain inexact | short | ⟨pro, differs⟩ := bad
    · exact absurd exact_ (by simp [inexact])
    · exact absurd whole short
    · obtain consumer | same := crc
      · exact Bool.noConfusion (consumer.symm.trans pro)
      · exact absurd same differs
  · rw [if_neg ok]
    refine ⟨(a.bump_only _ _).within, fun exact_ whole crc => absurd (sound.2 ⟨exact_, whole, crc⟩) ok, fun _ => ?_⟩
    rw [audSrcNo_aes]
    exact ⟨a.bump_aud _ _, a.counted_bump _ _⟩

end

/-! Streams (R331, R353). -/

/-- A timestamp of 32 bits that lies at most half its range ahead of the counter is taken as it stands (R353). -/
theorem signedOf_ahead {d : Int} (ahead : 0 ≤ d) (near : d < 2147483648) : signedOf 32 (toBits 32 d) = d := by
  have bits : toBits 32 d = d.toNat := by
    rw [toBits]
    congr 1
    exact Int.emod_eq_of_lt ahead (by norm_num; omega)
  have low : d.toNat % 2 ^ 32 = d.toNat := Nat.mod_eq_of_lt (by norm_num; omega)
  rw [bits, signedOf, low, if_pos (by norm_num; omega), Int.toNat_of_nonneg ahead]

section
variable (e : Engine)

/-- A received stream takes packets of a source on a path: it has the path and the source, and neither the port nor the unit stands
still (R331, R353). -/
def Engine.audHears (n path ssrc : Nat) : Prop :=
  e.cfg.stRx n = true ∧ (e.cfg.stPaths n).testBit path = true ∧
    (e.cfg.audSt n 4 31 0 = 0 ∨ e.cfg.audSt n 4 31 0 = ssrc) ∧ e.netHeld path = false ∧
    (e.asrc (6 + n)).stopped = false ∧ e.aud.running = true

theorem Engine.at_audHears (t n path ssrc : Nat) : (e.at t).audHears n path ssrc ↔ e.audHears n path ssrc := by
  simp [Engine.audHears]

/-- What a receive stream has heard, with what waited longer than its playout delay settled. -/
def Engine.rxSettled (n : Nat) : RtpRx × Nat :=
  (vget e.aud.rx n RtpRx.reset).settle (e.cfg.stPaths n) e.now (us 125 * e.cfg.stPlayout n)

/-- A receive stream with what it has heard. -/
def Engine.setRx (n : Nat) (r : RtpRx) : Engine := { e with aud := { e.aud with rx := vmod e.aud.rx n fun _ => r } }

theorem Engine.setRx_only (n : Nat) (r : RtpRx) : Engine.changesOnly [.aud] e (e.setRx n r) := e.setAud_only _

theorem Engine.setRx_rx (n : Fin 8) (r : RtpRx) : vget (e.setRx n r).aud.rx n RtpRx.reset = r :=
  vget_vmod_same e.aud.rx n.isLt _ _

variable {e}

/-- A packet that is heard while none before it is settled: a first copy's samples enter the FIFO, unless the source is lost. -/
theorem Engine.audRxPacket_heard {n path ssrc seq ts : Nat} {fs : List (List Nat)} {r : RtpRx} {new : Bool}
    (hears : e.audHears n path ssrc) (waits : (e.rxSettled n).2 = 0)
    (taken : (e.rxSettled n).1.take path seq e.now = (r, new)) :
    e.audRxPacket n path ssrc seq ts fs =
      if !new || (e.asrc (6 + n)).lost then e.setRx n r
      else (fs.map fun f => f.map fun v => (v % 16777216, false)).zipIdx.foldl
        (fun b x => b.audPlace (6 + n) ((e.aud.n : Int) + signedOf 32 (toBits 32 ((ts : Int) - e.aud.n))) x) (e.setRx n r) := by
  obtain ⟨rx, path, source, carries, goes, runs⟩ := hears
  have own : ¬ (e.cfg.audSt n 4 31 0 ≠ 0 ∧ e.cfg.audSt n 4 31 0 ≠ ssrc) := by tauto
  unfold Engine.rxSettled at waits taken
  unfold Engine.audRxPacket
  dsimp only
  rw [if_neg (by simp only [rx, path, own, carries, goes, runs]; decide), waits, taken, Engine.bumpN_zero]
  rfl

/-- A sample at an empty FIFO, not older than the next one read, enters it at its timestamp (R346, R353). -/
theorem Engine.audPlace_first {m ts : Nat} {f : AudFrame} (stream : 6 ≤ m) (empty : (e.asrc m).fifo = [])
    (inTime : (e.asrc m).readTs ≤ (ts : Int)) :
    e.audPlace m ts (f, 0) = e.modSrc m fun q => { q with fifo := q.fifo ++ [(ts, f)] } := by
  have depth : 0 < e.cfg.srcDepth m := by rw [Cfg.srcDepth, if_neg (by omega)]; omega
  unfold Engine.audPlace
  dsimp only
  rw [empty, if_neg (by simp; omega), List.length_nil, if_neg (Nat.not_le.2 depth)]
  rfl

theorem Engine.audTxPacket_full {n : Nat} (tx : e.cfg.stTx n = true) (goes : (e.aout (6 + n)).stopped = false)
    (full : e.cfg.stTicks n ≤ (e.aout (6 + n)).buf.length) :
    e.audTxPacket n = e.modOut (6 + n) fun q => { q with
      packet := e.audCopies n q.seq q.bufN (q.buf.take (e.cfg.stTicks n))
      seq := q.seq + 1, buf := q.buf.drop (e.cfg.stTicks n), bufN := q.bufN + e.cfg.stTicks n } := by
  have enough : ¬ (e.aout (6 + n)).buf.length < e.cfg.stTicks n := Nat.not_lt.2 full
  rw [Engine.audTxPacket, if_neg (by simp [tx, goes, enough])]

end

section
variable {t : Nat} {n : Fin 8} {p : Fin 2} {s : State}

theorem does_audRxPacket_first {ssrc q ts : Nat} {f : List Nat} (hr : s.eng.sys.phase = .running)
    (hears : s.eng.audHears n p ssrc) (kept : (s.eng.asrc (6 + n.val)).lost = false)
    (silent : (vget s.eng.aud.rx n RtpRx.reset).seen = []) (empty : (s.eng.asrc (6 + n.val)).fifo = [])
    (inTime : (s.eng.asrc (6 + n.val)).readTs ≤ (ts : Int)) (ahead : s.eng.aud.n ≤ ts)
    (near : ts < s.eng.aud.n + 2147483648) :
    Does (.audRxPacket t n p ⟨ssrc, q⟩ ts [f]) t s fun a b => Engine.changesOnly [.aud] a b ∧
      vget b.aud.rx n RtpRx.reset = ⟨[(q, 2 ^ p.val, a.now)], false⟩ ∧
      b.asrc (6 + n.val) = { a.asrc (6 + n.val) with fifo := [(ts, f.map fun v => (v % 16777216, false))] } := by
  refine Does.of_live (·.audRxPacket n p ssrc q ts [f]) rfl hr ?_
  rw [← s.eng.at_aud t] at silent ahead near
  rw [← s.eng.at_asrc t] at kept empty inTime
  have hears := (s.eng.at_audHears t n p ssrc).2 hears
  set a := s.eng.at t
  obtain ⟨none, first⟩ := RtpRx.first_copy (a.cfg.stPaths n) p q a.now (us 125 * a.cfg.stPlayout n) silent
  have stamp : (a.aud.n : Int) + signedOf 32 (toBits 32 ((ts : Int) - a.aud.n)) = ts := by
    rw [signedOf_ahead (by omega) (by omega)]
    omega
  rw [Engine.audRxPacket_heard hears none first, if_neg (by simp [kept]), stamp]
  set b := a.setRx n ⟨[(q, 2 ^ p.val, a.now)], false⟩
  have placed := Engine.audPlace_first (e := b) (f := f.map fun v => (v % 16777216, false)) (Nat.le_add_right 6 n) empty inTime
  have single : ([f].map fun f => f.map fun v => (v % 16777216, false)).zipIdx.foldl
      (fun b x => b.audPlace (6 + n) ts x) b = _ := placed
  rw [single]
  refine ⟨Engine.changesOnly_trans (a.setRx_only _ _) (b.modSrc_only _ _), a.setRx_rx n _, ?_⟩
  rw [Engine.modSrc_asrc _ (by omega)]
  have same : b.asrc (6 + n.val) = a.asrc (6 + n.val) := rfl
  rw [same, empty]
  rfl

theorem does_audRxPacket_second {ssrc q m t0 ts : Nat} {fs : List (List Nat)} (hr : s.eng.sys.phase = .running)
    (hears : s.eng.audHears n p ssrc) (heard : (vget s.eng.aud.rx n RtpRx.reset).seen = [(q, m, t0)])
    (soon : (s.eng.at t).now < t0 + us 125 * s.eng.cfg.stPlayout n) :
    Does (.audRxPacket t n p ⟨ssrc, q⟩ ts fs) t s fun a b => Engine.changesOnly [.aud] a b ∧ b.aud.srcs = a.aud.srcs ∧
      (vget b.aud.rx n RtpRx.reset).seen = [(q, m ||| 2 ^ p.val, t0)] := by
  refine Does.of_live (·.audRxPacket n p ssrc q ts fs) rfl hr ?_
  rw [← s.eng.at_aud t] at heard
  rw [← s.eng.at_cfg t] at soon
  have hears := (s.eng.at_audHears t n p ssrc).2 hears
  set a := s.eng.at t
  obtain ⟨none, second⟩ := RtpRx.second_copy (a.cfg.stPaths n) p heard soon
  rw [Engine.audRxPacket_heard hears none second, if_pos (by simp)]
  exact ⟨a.setRx_only _ _, rfl, congrArg RtpRx.seen (a.setRx_rx n _)⟩

theorem does_audTxPacket (hr : s.eng.sys.phase = .running) (tx : s.eng.cfg.stTx n = true)
    (goes : (s.eng.aout (6 + n.val)).stopped = false)
    (full : s.eng.cfg.stTicks n ≤ (s.eng.aout (6 + n.val)).buf.length) :
    Does (.audTxPacket t n) t s fun a b => Engine.changesOnly [.aud] a b ∧
      b.aud = { a.aud with outs := vmod a.aud.outs (6 + n.val) fun q => { q with
        packet := a.audCopies n q.seq q.bufN (q.buf.take (a.cfg.stTicks n))
        seq := q.seq + 1
        buf := q.buf.drop (a.cfg.stTicks n)
        bufN := q.bufN + a.cfg.stTicks n } } := by
  refine Does.of_live (·.audTxPacket n) rfl hr ?_
  rw [Engine.audTxPacket_full (by simpa using tx) (by simpa using goes) (by simpa using full)]
  exact ⟨Engine.modOut_only _ _ _, rfl⟩

end

/-- Settles O44: the tick, the first lock and the relock, the AES3 inputs, the rates, and the streams, by their lemmas. -/
theorem audioPortsFollowTheirInputs : Obligations.AudioPortsFollowTheirInputs := by
  unfold Obligations.AudioPortsFollowTheirInputs
  exact ⟨fun _ _ => does_audioTick, fun _ _ => does_audPllFirstLock, fun _ _ => does_audRelock,
    fun _ _ _ => does_audInLock, fun _ _ _ => does_audInLoss, fun _ _ _ => does_audInRate,
    fun _ _ _ _ _ => does_audInSample, fun _ _ _ _ _ _ _ => does_aesCsBlock,
    fun _ _ _ _ _ _ _ _ hr rx path source carries goes kept runs =>
      does_audRxPacket_first hr ⟨rx, path, source, carries, goes, runs⟩ kept,
    fun _ _ _ _ _ _ _ _ _ _ hr rx path source carries goes runs =>
      does_audRxPacket_second hr ⟨rx, path, source, carries, goes, runs⟩,
    fun _ _ _ => does_audTxPacket⟩

end Sys2Proof.Machine
end
